-- ==== Sys2Proof/Word.lean ====
section
/-! DEFINITION. The word and byte types of the register fabric (R61: the fabric's access unit is one 32-bit word). -/

namespace Sys2Proof

/-- A register or table-memory word (R61). -/
abbrev Word := BitVec 32

/-- A byte, as of a QSPI frame, an Ethernet frame or a memory. -/
abbrev Byte := BitVec 8

/-- One of the two halves of the package (R1). -/
inductive HalfId
  | a
  | b
  deriving DecidableEq, Repr

/-- The partner of a half. -/
def HalfId.other : HalfId → HalfId
  | .a => .b
  | .b => .a

/-- 0 for Half A and 1 for Half B, as `DIE.STATUS.HALF` and `DIE.STRAPS.HALF` show it (R79). -/
def HalfId.bit : HalfId → Nat
  | .a => 0
  | .b => 1

end Sys2Proof
end

