-- ==== Sys2Proof/Syntax.lean ====
section
/-! DEFINITION. The commands the block takes from outside: one constructor of `Instr` for each row of the
opcode table, with the operands that only the outside knows (log entry 2). -/

namespace Sys2Proof

/-- The eight regions of a half, in the order of R13. -/
inductive Region
  | network | flow | timing | processing | output | memory | control | sentinel
  deriving DecidableEq, Repr

/-- The place of a region in the order of R13: its bit in `RESET_CTRL.REGIONS` and in HEALTH.REGIONS. -/
def Region.bit : Region → Nat
  | .network => 0
  | .flow => 1
  | .timing => 2
  | .processing => 3
  | .output => 4
  | .memory => 5
  | .control => 6
  | .sentinel => 7

/-- A region is required when the half cannot hold the ACTIVE role without it (R13). -/
def Region.required : Region → Bool
  | .network => false
  | .flow => false
  | _ => true

/-- The regions in the order of R13. -/
def Region.all : List Region := [.network, .flow, .timing, .processing, .output, .memory, .control, .sentinel]

/-- A requester of the register fabric, numbered as `BUSERR_INFO.REQ` numbers them (R80). -/
inductive Req
  | pcie | qspi | partner | mgmt
  deriving DecidableEq, Repr

/-- The code of a requester in `BUSERR_INFO.REQ` and `PWFAIL_INFO.REQ` (R80). -/
def Req.code : Req → Nat
  | .pcie => 0
  | .qspi => 1
  | .partner => 2
  | .mgmt => 3

/-- The width of an access (R61): `gap` is a PCIe access whose byte enables are not contiguous. -/
inductive Width
  | w8 | w16 | w32 | w64 | gap
  deriving DecidableEq, Repr

/-- What the check bits of a stored word show as it is read (R430, R292). -/
inductive Ecc
  | ok | single | double
  deriving DecidableEq, Repr

/-- A line rate as negotiated (R84): `other` is any rate the MAC does not support. -/
inductive LineRate
  | g1 | g2_5 | g10 | other
  deriving DecidableEq, Repr

/-- A port of a half. -/
abbrev PortId := Fin 2

/-- An instant within the current block, in ns after its boundary. -/
abbrev BlockOfs := Fin 125000

/-- Receive-buffer cells in use when a frame arrives: reserved for alarm frames, reserved for PTP, shared (R90). -/
structure RxOcc where
  alarm : Nat
  ptp : Nat
  shared : Nat
  deriving DecidableEq, Repr

/-- A received mPacket (R104): an express frame, a verify or respond mPacket, the start fragment of frame number n, a
continuation fragment with its fragment count, or an unknown SMD. `last` marks a fragment whose check ends the frame. -/
inductive MPacket
  | express (bytes : List Byte)
  | verify
  | respond
  | start (n : Fin 4) (bytes : List Byte) (last : Bool)
  | cont (n : Fin 4) (count : Fin 4) (bytes : List Byte) (last : Bool)
  | unknown
  deriving DecidableEq, Repr

/-- What a MAC starts to send (R96, R97): the oldest frame of TXQ7 or TXQ6, or a frame of a transmit ring with the bytes
of its buffers. -/
inductive TxSource
  | txq7
  | txq6
  | ring (r : Fin 4) (data : List Byte)
  deriving DecidableEq, Repr

/-- A ring of a port: a receive or a transmit ring (R112). -/
structure RingId where
  tx : Bool
  r : Fin 4
  deriving DecidableEq, Repr

/-- A receive or transmit flow slot. -/
abbrev SlotId := Fin 1024

/-- What the firmware parses of a SAP announcement (R154): talker, origin session, version, destination, format as
`FORMAT` codes it, rate, RTP offset. -/
structure SapInfo where
  src : BitVec 32
  session : BitVec 48
  version : BitVec 16
  dst : BitVec 32
  port : BitVec 16
  channels : Fin 64
  enc : Fin 4
  ptime : Fin 8
  rate96 : Bool
  offset : BitVec 32
  deriving DecidableEq, Repr

/-- A reference of the Timing region (R176). -/
abbrev RefId := Fin 8

/-- What the firmware reads of a PTP message (R174): messageType, domain, transport, grandmaster identity, stepsRemoved. -/
structure PtpMsg where
  type : Fin 16
  domain : BitVec 8
  l2 : Bool
  grandmaster : BitVec 64
  steps : BitVec 16
  deriving DecidableEq, Repr

/-- What reads a store line that turns out uncorrectable (R285): a node's buffer, a firmware ring's descriptor or the frame
being sent, a message player, the transfer engine, or anything else. -/
inductive DramUse
  | node (n : Fin 4096)
  | descriptor (p : PortId) (r : RingId)
  | frame (p : PortId)
  | player (p : Fin 64)
  | transfer
  | other
  deriving DecidableEq, Repr

/-- An area of the local store (R291), the queue pool apart. -/
inductive SramArea
  | placement (n : Fin 4096)
  | firmware
  | players
  | index
  | link
  | transfer
  deriving DecidableEq, Repr

/-- A frame of a master-mode TDM port in the block that ends: port, position, the bits of its slots (R321, R323). -/
structure TdmFrame where
  port : Fin 8
  pos : Fin 12
  slots : List Word
  deriving DecidableEq, Repr

/-- One sample of an amplifier channel's loop decimators, in 2^-24 of full scale, and on a standby the modulation index that
the gate readback shows for its half-period, in 2^-24 (R347, R369); none where R369 excludes it. -/
structure LoopSample where
  v : Int
  i : Int
  act : Option Int
  deriving DecidableEq, Repr

/-- What a channel has measured in a carrier period: its loop samples, whether the readback shows a trip (R492). -/
structure ChanIn where
  samples : List LoopSample
  shown : Bool
  deriving DecidableEq, Repr

/-- One band of Larkspur over an update interval: rms of V_b re `VSENSE_FS` in dB16, Z_b in 2^-16 Ω (R401). -/
structure BandIn where
  exc : Int
  re : Int
  im : Int
  deriving DecidableEq, Repr

/-- What an amplifier channel's line shows over an update interval: bands, common-mode and differential rms in 2^-24 of
full scale, the latter in dB16 as well (R400, R401). -/
structure LineIn where
  bands : List BandIn
  cm : Nat
  diff : Nat
  diffDb : Int
  deriving DecidableEq, Repr

/-- Mean and rms of a converter over a window of 100 ms, in 2^-24 of full scale (R490). -/
structure SenseStat where
  mean : Int
  rms : Nat
  deriving DecidableEq, Repr

/-- The kinds of item on the mirror stream (R469); an accepted write of an M field names its address. -/
inductive MirrorKind
  | field (addr : Word)
  | commitRecord
  | arbiter
  | lastSeq (issuer : Fin 16)
  | players
  | clocks
  | flowJoin
  | launchOffsets
  | gains
  | ampChannels
  | pilot
  | baselines
  | resampler
  | netSettings
  deriving DecidableEq, Repr

/-- The commands of the block: one constructor for each row of the opcode table (R46 to R624). -/
inductive Instr
  /-- A block boundary of half h: engines that overran in the block that ends, frames of its master TDM ports (BLOCK_BOUNDARY, R21). -/
  | blockBoundary (h : HalfId) (late : List (Fin 8)) (tdm : List TdmFrame)
  /-- A carrier boundary of amplifier cluster c: what its eight channels and its bus sense measured in the period that ends (CARRIER_BOUNDARY, R342). -/
  | carrierBoundary (h : HalfId) (c : Fin 4) (chans : List ChanIn) (bus : List Int)
  /-- Region r of half h fails to acknowledge within 20 µs (EDGE_GUARD_TIMEOUT, R14). -/
  | edgeGuardTimeout (h : HalfId) (r : Region)
  /-- The state storage of region r takes an uncorrectable error (REGION_STATE_UNCORRECTABLE, R15). -/
  | regionStateUncorrectable (h : HalfId) (r : Region)
  /-- Requester q confirms `RESET_CTRL` with this REGIONS mask (REGION_RESET, R17). -/
  | regionReset (h : HalfId) (q : Req) (mask : BitVec 8)
  /-- A reset region reports ready (REGION_READY, R17). -/
  | regionReady (h : HalfId) (r : Region)
  /-- Requester q confirms `RESET_CTRL` with WARM (WARM_RESET, R530). -/
  | warmReset (h : HalfId) (q : Req)
  /-- The monitor of clock domain CD d declares it lost; port names the TDM port of CD11 (CLOCK_LOSS_DETECTED, R29). -/
  | clockLossDetected (h : HalfId) (d : Fin 12) (port : Fin 8)
  /-- A PCIe Function Level Reset (FUNCTION_LEVEL_RESET, R40). -/
  | functionLevelReset (h : HalfId)
  /-- Link training completes at Gen gen + 1; bme is the Bus Master Enable bit that the host then sets (PCIE_LINK_UP, R82). -/
  | pcieLinkUp (h : HalfId) (gen : Fin 3) (bme : Bool)
  /-- A link that has been up goes down (PCIE_LINK_DOWN, R82). -/
  | pcieLinkDown (h : HalfId)
  /-- Training has not completed 1 s after step 4 of start-up (PCIE_TRAINING_TIMEOUT, R82). -/
  | pcieTrainingTimeout (h : HalfId)
  /-- PCIE_PERST_n is released (PCIE_PERST_RELEASE, R593). -/
  | pciePerstRelease (h : HalfId)
  /-- A QSPI frame READ_INC with the command, address, count and header CRC bytes as received (READ_INC, R46). -/
  | readInc (h : HalfId) (cmd : Byte) (addr : Word) (count : Byte) (crc : Byte)
  /-- A QSPI frame READ_PAIR with its header bytes as received (READ_PAIR, R46). -/
  | readPair (h : HalfId) (cmd : Byte) (addr : Word) (count : Byte) (crc : Byte)
  /-- A QSPI frame WRITE_INC with its bytes as received (WRITE_INC, R46). -/
  | writeInc (h : HalfId) (cmd : Byte) (addr : Word) (count : Byte) (crc : Byte) (data : List Word) (dataCrc : Byte)
  /-- CS_n rises before the request or the response is complete (QSPI_ABORT, R51). -/
  | qspiAbort (h : HalfId)
  /-- QSPI_WAIT_MAX wait bytes pass before the next access completes (STALLTIMEOUT, R52). -/
  | stalltimeout (h : HalfId)
  /-- Requester q writes a register or table word (REGISTER_WRITE, R61). -/
  | registerWrite (h : HalfId) (q : Req) (addr : Word) (w : Width) (data : BitVec 64)
  /-- Requester q reads a register; a clear-on-read register is cleared (RC_READ, R58). -/
  | rcRead (h : HalfId) (q : Req) (addr : Word) (w : Width)
  /-- Requester q reads the LO word of a 64-bit value (SHADOW_LO_READ, R63). -/
  | shadowLoRead (h : HalfId) (q : Req) (addr : Word)
  /-- Requester q writes the LO word of a 64-bit value (HELD_LO_WRITE, R64). -/
  | heldLoWrite (h : HalfId) (q : Req) (addr data : Word)
  /-- Requester q writes the HI word of a 64-bit value (HI_WRITE, R64). -/
  | hiWrite (h : HalfId) (q : Req) (addr data : Word)
  /-- Requester q writes the VALUE word of a paired-write slot (PAIRED_VALUE_WRITE, R67). -/
  | pairedValueWrite (h : HalfId) (q : Req) (addr data : Word)
  /-- Requester q writes the CONFIRM word of a paired-write slot (PAIRED_CONFIRM, R67). -/
  | pairedConfirm (h : HalfId) (q : Req) (addr data : Word)
  /-- The confirm window of requester q at a slot closes (CONFIRM_WINDOW_EXPIRY, R68). -/
  | confirmWindowExpiry (h : HalfId) (q : Req) (slot : Word)
  /-- The 1 ms scrub, after these copies of triplicated fields were upset (address, copy, content) (TMR_SCRUB, R71). -/
  | tmrScrub (h : HalfId) (upset : List (Word × Fin 3 × Word))
  /-- Requester q reads a bit-alias word (ALIAS_READ, R74). -/
  | aliasRead (h : HalfId) (q : Req) (addr : Word)
  /-- Requester q writes a bit-alias word (ALIAS_WRITE, R74). -/
  | aliasWrite (h : HalfId) (q : Req) (addr data : Word)
  /-- Requester q of half h accesses an address in the partner window (PARTNER_WINDOW_ACCESS, R75). -/
  | partnerWindowAccess (h : HalfId) (q : Req) (addr : Word) (w : Width) (write : Bool) (data : Word)
  /-- The partner does not answer an access in the partner window within 20 µs (PARTNER_TIMEOUT, R77). -/
  | partnerTimeout (h : HalfId) (q : Req) (addr : Word) (write : Bool)
  /-- The PCS of a port is synchronised and auto-negotiation, where enabled, has this result (PORT_LINK_UP, R85). -/
  | portLinkUp (h : HalfId) (p : PortId) (rate : LineRate) (fullDuplex : Bool)
  /-- Synchronisation or negotiation is lost for 10 µs (PORT_LINK_DOWN, R85). -/
  | portLinkDown (h : HalfId) (p : PortId)
  /-- The PCS has not synchronised 1 s after EN (PCS_SYNC_TIMEOUT, R85). -/
  | pcsSyncTimeout (h : HalfId) (p : PortId)
  /-- Requester q writes `MAC[p].CTRL` (MAC_MODE_CHANGE, R86). -/
  | macModeChange (h : HalfId) (q : Req) (p : PortId) (ctrl : Word)
  /-- Requester q starts a Clause 22 write frame (MDIO_C22_WRITE, R88). -/
  | mdioC22Write (h : HalfId) (q : Req) (p : PortId) (phy reg : Fin 32) (data : BitVec 16)
  /-- Requester q starts a Clause 22 read frame (MDIO_C22_READ, R88). -/
  | mdioC22Read (h : HalfId) (q : Req) (p : PortId) (phy reg : Fin 32)
  /-- Requester q starts a Clause 45 address frame (MDIO_C45_ADDRESS, R88). -/
  | mdioC45Address (h : HalfId) (q : Req) (p : PortId) (phy dev : Fin 32) (addr : BitVec 16)
  /-- Requester q starts a Clause 45 write frame (MDIO_C45_WRITE, R88). -/
  | mdioC45Write (h : HalfId) (q : Req) (p : PortId) (phy dev : Fin 32) (data : BitVec 16)
  /-- Requester q starts a Clause 45 read frame (MDIO_C45_READ, R88). -/
  | mdioC45Read (h : HalfId) (q : Req) (p : PortId) (phy dev : Fin 32)
  /-- Requester q starts a Clause 45 post-read-increment-address frame (MDIO_C45_POST_READ_INCREMENT, R88). -/
  | mdioC45PostReadIncrement (h : HalfId) (q : Req) (p : PortId) (phy dev : Fin 32)
  /-- The management frame in progress ends; data is what a read frame returned (MDIO_FRAME_COMPLETE, R88). -/
  | mdioFrameComplete (h : HalfId) (p : PortId) (data : BitVec 16)
  /-- A whole frame, FCS included, is received (FRAME_RECEIVE, R94). -/
  | frameReceive (h : HalfId) (p : PortId) (bytes : List Byte) (ofs : BlockOfs) (occ : RxOcc)
  /-- An mPacket is received (MPACKET_RECEIVE, R104). -/
  | mpacketReceive (h : HalfId) (p : PortId) (m : MPacket) (ofs : BlockOfs) (occ : RxOcc)
  /-- The MAC starts a frame (TX_FRAME_START, R97). -/
  | txFrameStart (h : HalfId) (p : PortId) (src : TxSource) (ofs : BlockOfs)
  /-- The data of the ring frame being sent do not arrive in time, or arrive poisoned (TX_UNDERRUN, R98). -/
  | txUnderrun (h : HalfId) (p : PortId) (poisoned : Bool)
  /-- The last byte of the frame being sent leaves (TX_FRAME_COMPLETE, R114). -/
  | txFrameComplete (h : HalfId) (p : PortId)
  /-- The oldest waiting audio frame has not started one packet time after its launch instant (TX_LATE_DROP, R99). -/
  | txLateDrop (h : HalfId) (p : PortId)
  /-- A respond mPacket arrives (VERIFY_RESPOND, R102). -/
  | verifyRespond (h : HalfId) (p : PortId)
  /-- VERIFY_TIME passes without a response (VERIFY_TIMEOUT, R102). -/
  | verifyTimeout (h : HalfId) (p : PortId)
  /-- A pause frame is received (PAUSE_FRAME, R106). -/
  | pauseFrame (h : HalfId) (p : PortId) (quanta : BitVec 16) (ofs : BlockOfs)
  /-- The pause quanta have elapsed (PAUSE_EXPIRY, R106). -/
  | pauseExpiry (h : HalfId) (p : PortId)
  /-- Pause has been in effect for longer than PAUSE_BUDGET (PORT_IMPAIRED, R107). -/
  | portImpaired (h : HalfId) (p : PortId)
  /-- No pause has been in effect for PAUSE_RECOVER (IMPAIRMENT_END, R107). -/
  | impairmentEnd (h : HalfId) (p : PortId)
  /-- The transmitter has had nothing to send for EEE_IDLE (LPI_ENTRY, R109). -/
  | lpiEntry (h : HalfId) (p : PortId) (ofs : BlockOfs)
  /-- The transmitter leaves LPI for a frame (LPI_WAKE, R111). -/
  | lpiWake (h : HalfId) (p : PortId) (ofs : BlockOfs)
  /-- Requester q writes EEE_TW (EEE_TW_WRITE, R110). -/
  | eeeTwWrite (h : HalfId) (q : Req) (p : PortId) (us : BitVec 16)
  /-- Requester q writes TAIL, after placing these descriptors from the old TAIL on (RING_TAIL_WRITE, R113). -/
  | ringTailWrite (h : HalfId) (q : Req) (p : PortId) (ring : RingId) (tail : BitVec 12) (descs : List (List Word))
  /-- Requester q sets EN of a ring (RING_ENABLE, R125). -/
  | ringEnable (h : HalfId) (q : Req) (p : PortId) (ring : RingId)
  /-- Requester q writes 1 to the MAC cluster CTRL bit (MAC_CLUSTER_REINIT, R126). -/
  | macClusterReinit (h : HalfId) (q : Req)
  /-- Requester q writes a unit's CTRL register with bit 0 as given and its other bits as they stand (UNIT_ENABLE_CHANGE, R23). -/
  | unitEnableChange (h : HalfId) (q : Req) (ctrl : Word) (en : Bool)
  /-- Receive slot n of half h reaches its release at position pos of the input block (PLAYOUT_RELEASE, R144). -/
  | playoutRelease (h : HalfId) (n : SlotId) (pos : Fin 12)
  /-- The path of receive slot n has delivered nothing for 4 packet times and 1 ms (PATH_TIMEOUT, R141). -/
  | pathTimeout (h : HalfId) (n : SlotId)
  /-- Transmit slot n reaches a launch instant at ofs ns into the block (PACKET_LAUNCH, R150). -/
  | packetLaunch (h : HalfId) (n : SlotId) (ofs : BlockOfs)
  /-- The block boundary after the fade of CHANGING of receive slot n (CHANGING_END, R161). -/
  | changingEnd (h : HalfId) (n : SlotId)
  /-- The firmware of half h parses a SAP announcement or deletion (SAP_ANNOUNCEMENT, R154). -/
  | sapAnnouncement (h : HalfId) (info : SapInfo) (delete : Bool)
  /-- The announcement of a session has not been refreshed in time (SAP_EXPIRY, R154). -/
  | sapExpiry (h : HalfId) (src : BitVec 32) (session : BitVec 48)
  /-- The 30 s announcement timer of half h expires (SAP_ANNOUNCE_TIMER, R155). -/
  | sapAnnounceTimer (h : HalfId)
  /-- The firmware of half h takes a FLOW_OPEN item from Q0 (FLOW_OPEN, R156). -/
  | flowOpen (h : HalfId)
  /-- The firmware of half h takes a FLOW_CLOSE item from Q0 (FLOW_CLOSE, R156). -/
  | flowClose (h : HalfId)
  /-- The firmware of half h takes a NET_ADDR item from Q0 (NET_ADDR, R157). -/
  | netAddr (h : HalfId)
  /-- The firmware of half h takes a PTP_ATTR item from Q0 (PTP_ATTR, R157). -/
  | ptpAttr (h : HalfId)
  /-- The firmware of half h brings its memberships into line with the committed plan (MEMBERSHIP_UPDATE, R158). -/
  | membershipUpdate (h : HalfId)
  /-- An IGMP query arrives on port p, of version 2 or of version 3 (IGMP_QUERY, R158). -/
  | igmpQuery (h : HalfId) (p : PortId) (v2 : Bool)
  /-- An ARP request for an address arrives on port p (ARP_REQUEST, R157). -/
  | arpRequest (h : HalfId) (p : PortId) (target : BitVec 32) (sender : BitVec 32) (mac : BitVec 48)
  /-- Requester q writes 1 to CTRL of a receive or transmit flow cluster (FLOW_CLUSTER_REINIT, R170). -/
  | flowClusterReinit (h : HalfId) (q : Req) (tx : Bool) (c : Fin 8)
  /-- A PTP message reaches port p, after which the protocol's port state is `next` (PTP_MESSAGE_RECEIVE, R174). -/
  | ptpMessageReceive (h : HalfId) (p : PortId) (m : PtpMsg) (next : Fin 10)
  /-- The announce receipt timeout of port p expires, after which its port state is `next` (PTP_ANNOUNCE_TIMEOUT, R174). -/
  | ptpAnnounceTimeout (h : HalfId) (p : PortId) (next : Fin 10)
  /-- The firmware has offsetFromMaster of port p in ns (PTP_PHASE_SAMPLE, R175). -/
  | ptpPhaseSample (h : HalfId) (p : PortId) (offset : Int)
  /-- A whole second of reference i: its mean frequency in fu, its last phase in ns, whether its frequency fits its mode (REFERENCE_MEASUREMENT, R177). -/
  | referenceMeasurement (h : HalfId) (i : RefId) (fofs : Int) (phase : Option Int) (inMode : Bool)
  /-- Reference i has shown no activity within 4 expected periods (REFERENCE_ACTIVITY_TIMEOUT, R179). -/
  | referenceActivityTimeout (h : HalfId) (i : RefId)
  /-- The checks of reference i have held for QUAL_TIME (QUALIFICATION_COMPLETE, R179). -/
  | qualificationComplete (h : HalfId) (i : RefId)
  /-- WTR of reference i has elapsed (WTR_EXPIRY, R179). -/
  | wtrExpiry (h : HalfId) (i : RefId)
  /-- The selector of half h evaluates (SELECTOR_EVALUATION, R180). -/
  | selectorEvaluation (h : HalfId)
  /-- 3600 s have passed since the last refresh of SEL_BASE (SEL_BASE_REFRESH, R183). -/
  | selBaseRefresh (h : HalfId)
  /-- The lock criterion of the media ADPLL is met (MEDIA_LOCK_ACQUIRED, R185). -/
  | mediaLockAcquired (h : HalfId)
  /-- The media ADPLL loses lock (MEDIA_LOCK_LOST, R185). -/
  | mediaLockLost (h : HalfId)
  /-- LOCK_COUNT phase samples have passed since the last bandwidth step (BANDWIDTH_STEP, R184). -/
  | bandwidthStep (h : HalfId)
  /-- The TDC or the oscillator of the media or the carrier ADPLL fails its self-check (ADPLL_FAULT, R187). -/
  | adpllFault (h : HalfId) (carrier : Bool) (oscillator : Bool)
  /-- Requester q confirms `MPLL_OPEN` as 1 (LOOP_OPEN, R194). -/
  | loopOpen (h : HalfId) (q : Req)
  /-- Requester q confirms `MPLL_OPEN` as 0 (LOOP_CLOSE, R194). -/
  | loopClose (h : HalfId) (q : Req)
  /-- Requester q confirms `SW_FREQ` (SW_FREQ_SET, R194). -/
  | swFreqSet (h : HalfId) (q : Req) (v : BitVec 32)
  /-- Requester q writes `SWREF_PHASE` (SWREF_PHASE_WRITE, R195). -/
  | swrefPhaseWrite (h : HalfId) (q : Req) (v : BitVec 32)
  /-- The partner's timing marker arrives: the offset between the halves in ns, the carrier offset in ps (TIMING_MARKER_RECEIVE, R196). -/
  | timingMarkerReceive (h : HalfId) (offset : Int) (carrier : Int)
  /-- 64 consecutive markers have been within ±200 ps, or 8 outside (ALIGNED_CHANGE, R197). -/
  | alignedChange (h : HalfId) (within : Bool)
  /-- The carrier phase error has been within 100 ps for 64 comparisons (CARRIER_LOCK_ACQUIRED, R199). -/
  | carrierLockAcquired (h : HalfId)
  /-- The carrier phase error has exceeded 400 ps for 64 comparisons (CARRIER_LOCK_LOST, R199). -/
  | carrierLockLost (h : HalfId)
  /-- Requester q writes `PTP_CFG[p]` (PTP_CFG_WRITE, R202). -/
  | ptpCfgWrite (h : HalfId) (q : Req) (p : PortId) (v : BitVec 32)
  /-- Requester q writes 1 to GRF.COMMIT.GO (PLAN_SUBMIT, R223). -/
  | planSubmit (h : HalfId) (q : Req)
  /-- The checks and the placement of half h's submission end at ofs ns into the block (PLAN_VALIDATION_COMPLETE, R225). -/
  | planValidationComplete (h : HalfId) (ofs : BlockOfs)
  /-- The commit record of its partner reaches the standby half h (COMMIT_RECORD_RECEIVE, R224). -/
  | commitRecordReceive (h : HalfId)
  /-- The acceptance of its standby reaches the active half h (STANDBY_PLAN_ACCEPT, R223). -/
  | standbyPlanAccept (h : HalfId) (ofs : BlockOfs)
  /-- The rejection of its standby reaches the active half h (STANDBY_PLAN_REJECT, R223). -/
  | standbyPlanReject (h : HalfId) (ofs : BlockOfs)
  /-- The standby has given no answer within 100 ms (STANDBY_ANSWER_TIMEOUT, R223). -/
  | standbyAnswerTimeout (h : HalfId) (ofs : BlockOfs)
  /-- Requester q writes LEVEL_CMD with ON (LEVEL_CMD_ON, R217). -/
  | levelCmdOn (h : HalfId) (q : Req) (level : Fin 16) (zone : BitVec 8)
  /-- Requester q writes LEVEL_CMD without ON (LEVEL_CMD_OFF, R217). -/
  | levelCmdOff (h : HalfId) (q : Req) (level : Fin 16) (zone : BitVec 8)
  /-- VOX_HOLD has passed at a level of a zone of half h (VOX_HOLD_EXPIRY, R215). -/
  | voxHoldExpiry (h : HalfId) (zone : BitVec 8) (level : Fin 16)
  /-- INTERVAL blocks of a METER node have passed (METER_INTERVAL, R212). -/
  | meterInterval (h : HalfId) (node : Fin 4096)
  /-- The residue check of engine e fails while it computes a node (RESIDUE_ERROR, R234). -/
  | residueError (h : HalfId) (e : Fin 8) (node : Fin 4096)
  /-- A stage of the re-placement of half h is computed (REPLACEMENT_STAGE_COMPLETE, R253). -/
  | replacementStageComplete (h : HalfId)
  /-- Requester q writes EN 0 to engine e (ENGINE_DISABLE, R255). -/
  | engineDisable (h : HalfId) (q : Req) (e : Fin 8)
  /-- Requester q writes EN 1 to engine e (ENGINE_ENABLE, R250). -/
  | engineEnable (h : HalfId) (q : Req) (e : Fin 8)
  /-- The known-answer test of engine e ends (KNOWN_ANSWER_TEST_COMPLETE, R250). -/
  | knownAnswerTestComplete (h : HalfId) (e : Fin 8) (pass : Bool)
  /-- Requester q writes 1 to CTRL of engine cluster c (ENGINE_CLUSTER_REINIT, R260). -/
  | engineClusterReinit (h : HalfId) (q : Req) (c : Fin 2)
  /-- The shared state of the cluster with this page address fails its check (CLUSTER_SHARED_STATE_FAULT, R24). -/
  | clusterSharedStateFault (h : HalfId) (page : Word)
  /-- Gust takes engine e out for a deep test (DEEP_TEST_TURN, R256). -/
  | deepTestTurn (h : HalfId) (e : Fin 8)
  /-- The deep test of engine e ends (DEEP_TEST_COMPLETE, R256). -/
  | deepTestComplete (h : HalfId) (e : Fin 8) (pass : Bool)
  /-- Gust selects an occupied row of the placement area (ROW_MIGRATION, R248). -/
  | rowMigration (h : HalfId) (row : Fin 2048)
  /-- The March C− test of a row ends (SRAM_ROW_TEST, R485). -/
  | sramRowTest (h : HalfId) (row : Fin 2048) (pass : Bool)
  /-- The arbiter of half h takes an ACTIVATE command of the host route (ACTIVATE, R262). -/
  | activate (h : HalfId) (prio : Fin 16) (zones : BitVec 256) (source : BitVec 16) (repeats live : Bool)
  /-- The arbiter of half h takes a DEACTIVATE command of the host route (DEACTIVATE, R262). -/
  | deactivate (h : HalfId) (prio : Fin 16) (zones : BitVec 256)
  /-- The arbiter of half h takes a MUTE_BELOW command of the host route (MUTE_BELOW, R262). -/
  | muteBelow (h : HalfId) (prio : Fin 16) (zones : BitVec 256)
  /-- The arbiter of half h takes a TONE command of the host route (TONE, R262). -/
  | tone (h : HalfId) (prio : Fin 16) (zones : BitVec 256) (source : BitVec 16)
  /-- The arbiter of half h takes a CLEAR command of the host route (CLEAR, R262). -/
  | clear (h : HalfId) (prio : Fin 16) (zones : BitVec 256)
  /-- The arbiter of half h takes a TEST command of the host route (TEST, R262). -/
  | test (h : HalfId) (prio : Fin 16) (zones : BitVec 256)
  /-- The authenticator of half h checks the oldest waiting alarm-class frame at ofs ns into the block (ALARM_FRAME, R269). -/
  | alarmFrame (h : HalfId) (ofs : BlockOfs)
  /-- The oldest waiting alarm-class frame has waited more than 100 µs (AUTH_QUEUE_TIMEOUT, R272). -/
  | authQueueTimeout (h : HalfId)
  /-- The oldest held command has been held for 100 ms (HELD_COMMAND_EXPIRY, R279). -/
  | heldCommandExpiry (h : HalfId)
  /-- Requester q writes CFG of issuer i (ISSUER_CFG_WRITE, R270). -/
  | issuerCfgWrite (h : HalfId) (q : Req) (i : Fin 16) (v : BitVec 32)
  /-- Requester q confirms KEY_LOAD of a slot (KEY_LOAD, R282). -/
  | keyLoad (h : HalfId) (q : Req) (slot : Fin 8)
  /-- Requester q confirms KEY_LOAD with ERASE of a slot (KEY_ERASE, R282). -/
  | keyErase (h : HalfId) (q : Req) (slot : Fin 8)
  /-- A new class of EVAC input i has held for EVAC_DEBOUNCE (EVAC_DEBOUNCE_EXPIRY, R274). -/
  | evacDebounceExpiry (h : HalfId) (i : Fin 8) (ofs : BlockOfs)
  /-- The loop voltage of EVAC input i has stayed in the window for 2 ms (COMPARATOR_IN_WINDOW, R275). -/
  | comparatorInWindow (h : HalfId) (i : Fin 8) (ofs : BlockOfs)
  /-- EVAC_RELEASE has passed and the comparator of EVAC input i is out of window (EVAC_RELEASE_EXPIRY, R275). -/
  | evacReleaseExpiry (h : HalfId) (i : Fin 8) (ofs : BlockOfs)
  /-- Comparator and class of EVAC input i have disagreed for 1 s (COMPARATOR_DISAGREE, R275). -/
  | comparatorDisagree (h : HalfId) (i : Fin 8)
  /-- The outer code cannot correct the line at a store address (DRAM_UNCORRECTABLE_READ, R285). -/
  | dramUncorrectableRead (h : HalfId) (addr : Word) (use : DramUse)
  /-- A patrol scrub pass ends within its period or after it (SCRUB_PASS_COMPLETE, R286). -/
  | scrubPassComplete (h : HalfId) (late : Bool)
  /-- A word of a row of the local store has a double-bit error (SRAM_UNCORRECTABLE, R292). -/
  | sramUncorrectable (h : HalfId) (area : SramArea) (row : Fin 2048)
  /-- Requester q confirms PARTITION with bank size b and recorder size c in 64 MiB (PARTITION_CHANGE, R290). -/
  | partitionChange (h : HalfId) (q : Req) (b c : BitVec 8)
  /-- Requester q writes XFER_CTRL with GO and AREA 0 (XFER_TO_STAGING, R293). -/
  | xferToStaging (h : HalfId) (q : Req) (pio : Bool)
  /-- Requester q writes XFER_CTRL with GO and AREA 1 (XFER_BANK_READ, R293). -/
  | xferBankRead (h : HalfId) (q : Req) (pio : Bool)
  /-- Requester q writes XFER_CTRL with GO and AREA 2 (XFER_RECORDER_READ, R293). -/
  | xferRecorderRead (h : HalfId) (q : Req) (pio : Bool)
  /-- Requester q reads or writes XFER_DATA (XFER_DATA_ACCESS, R293). -/
  | xferDataAccess (h : HalfId) (q : Req) (write : Bool) (data : Word)
  /-- A DMA transfer finishes with the bytes read from the host, or fails on PCIe (XFER_COMPLETE, R293). -/
  | xferComplete (h : HalfId) (ok : Bool) (data : List Byte)
  /-- Requester q confirms LIB_COMMIT with ENTRY_COUNT (LIB_COMMIT, R299). -/
  | libCommit (h : HalfId) (q : Req) (count : Fin 8192)
  /-- The verification of half h's staging bank ends (LIBRARY_VERIFICATION_COMPLETE, R300). -/
  | libraryVerificationComplete (h : HalfId) (ofs : BlockOfs)
  /-- A bulk copy from half h to its partner ends, complete or aborted (BULK_COPY_COMPLETE, R304). -/
  | bulkCopyComplete (h : HalfId) (ok : Bool) (ofs : BlockOfs)
  /-- The standby's verification result reaches half h (PARTNER_VERIFY_RESULT, R299). -/
  | partnerVerifyResult (h : HalfId) (ofs : BlockOfs)
  /-- The standby has given no answer within 2 s (PARTNER_VERIFY_TIMEOUT, R299). -/
  | partnerVerifyTimeout (h : HalfId) (ofs : BlockOfs)
  /-- The active half h starts to copy its library to a mismatching partner (LIBRARY_RESYNC_COPY, R303). -/
  | libraryResyncCopy (h : HalfId)
  /-- Requester q writes BULK_CTRL.GO (BULK_COPY_GO, R304). -/
  | bulkCopyGo (h : HalfId) (q : Req)
  /-- The daily check of the library in service ends (LIBRARY_CHECK, R306). -/
  | libraryCheck (h : HalfId)
  /-- Message player p reaches the end of its message (PLAYER_PASS_END, R219). -/
  | playerPassEnd (h : HalfId) (p : Fin 64)
  /-- A read of message player p is uncorrectable, or its buffer runs empty (PLAYER_FAULT, R308). -/
  | playerFault (h : HalfId) (p : Fin 64) (empty : Bool)
  /-- A 48 kHz sample index that is a multiple of 1536 is reached (RECORDER_FRAME_BOUNDARY, R309). -/
  | recorderFrameBoundary (h : HalfId)
  /-- The recorder has written the complete frame (RECORDER_FRAME_WRITTEN, R311). -/
  | recorderFrameWritten (h : HalfId)
  /-- The complete frame was not written by the end of the following period (RECORDER_FRAME_DROP, R311). -/
  | recorderFrameDrop (h : HalfId)
  /-- A frame start of slave-mode port t, bclks bit clocks after the one before it, with the frame that follows and the offset that the resampler uses (TDM_FRAME_START, R328). -/
  | tdmFrameStart (h : HalfId) (t : Fin 8) (bclks : BitVec 16) (ofs : BlockOfs) (ratio : Word) (slots : List Word)
  /-- The 16th consecutive frame error of port t (TDM_FRAME_ERROR_LIMIT, R327). -/
  | tdmFrameErrorLimit (h : HalfId) (t : Fin 8)
  /-- The bit clock of FAILED port t has been present for 10 ms (TDM_CLOCK_RESTORED, R327). -/
  | tdmClockRestored (h : HalfId) (t : Fin 8)
  /-- Requester q writes 1 to the TDM cluster CTRL bit (TDM_CLUSTER_REINIT, R338). -/
  | tdmClusterReinit (h : HalfId) (q : Req)
  /-- The fast comparator of channel k trips (CURRENT_TRIP, R354). -/
  | currentTrip (h : HalfId) (k : Fin 32)
  /-- The first carrier boundary after 500 ms of SHORT of channel k (PROBE_START, R356). -/
  | probeStart (h : HalfId) (k : Fin 32)
  /-- The 20 ms probe of channel k ends with this impedance at 22 kHz in 0.01 Ω (PROBE_END, R356). -/
  | probeEnd (h : HalfId) (k : Fin 32) (z : Word)
  /-- Requester q writes CTRL of channel k with CLEAR, its other bits as they stand (CHANNEL_CLEAR, R357). -/
  | channelClear (h : HalfId) (q : Req) (k : Fin 32)
  /-- PSENc_n has read low for 10 ms (PSEN_SETTLE_EXPIRY, R352). -/
  | psenSettleExpiry (h : HalfId) (c : Fin 4)
  /-- The voltage sense of channel k has been valid for 10 ms (OPEN_LOOP_END, R350). -/
  | openLoopEnd (h : HalfId) (k : Fin 32)
  /-- 1 ms after a change of the carrier of cluster c (CARRIER_CHANGE_RESUME, R342). -/
  | carrierChangeResume (h : HalfId) (c : Fin 4)
  /-- The power of cluster c has stayed above 1.5 × LIMIT for one window (CLUSTER_POWER_FAULT, R359). -/
  | clusterPowerFault (h : HalfId) (c : Fin 4)
  /-- The NTC of cluster c has been out of range or without a valid temperature for 100 ms (NTC_FAULT, R360). -/
  | ntcFault (h : HalfId) (c : Fin 4)
  /-- T_N of cluster c has stayed below T_SD − 10 °C for 10 s (THERMAL_SHUTDOWN_END, R361). -/
  | thermalShutdownEnd (h : HalfId) (c : Fin 4)
  /-- A 100 ms DC window of channel k closes (DC_WINDOW_END, R362). -/
  | dcWindowEnd (h : HalfId) (k : Fin 32)
  /-- V_bus of cluster c, now v in 0.1 V, has been out of range for 10 µs (BUS_OUT_OF_RANGE, R363). -/
  | busOutOfRange (h : HalfId) (c : Fin 4) (v : BitVec 16)
  /-- V_bus of cluster c has been out of range for 2 ms (BUS_PSEN_RELEASE, R363). -/
  | busPsenRelease (h : HalfId) (c : Fin 4)
  /-- V_bus of cluster c, now v in 0.1 V, has been within range for 100 ms (BUS_IN_RANGE, R363). -/
  | busInRange (h : HalfId) (c : Fin 4) (v : BitVec 16)
  /-- The bus sense of cluster c has given no valid output for 1 ms (BUS_SENSE_FAULT, R363). -/
  | busSenseFault (h : HalfId) (c : Fin 4)
  /-- PSENc_n has read this level for 1 ms against what half h pulls and requests (PSEN_READBACK_FAULT, R366). -/
  | psenReadbackFault (h : HalfId) (c : Fin 4) (low : Bool)
  /-- 2 ms after the zero-vector of a faulted or shut-down cluster, or with none of half h as a whole (PSEN_RELEASE_DELAY, R365). -/
  | psenReleaseDelay (h : HalfId) (c : Option (Fin 4))
  /-- Requester q writes 1 to CTRL.RESET of amplifier cluster c (CLUSTER_RESET, R367). -/
  | clusterReset (h : HalfId) (q : Req) (c : Fin 4)
  /-- 64 matching, or 8 mismatching, carrier periods of channel k in a row (TRACKING_CHANGE, R370). -/
  | trackingChange (h : HalfId) (k : Fin 32) (on : Bool)
  /-- Converter s has given the same code for 4096 cycles (CONVERTER_STUCK, R380). -/
  | converterStuck (h : HalfId) (s : Fin 80)
  /-- Converter s has given extreme codes for 8 cycles, or leaves overload (CONVERTER_OVERLOAD, R381). -/
  | converterOverload (h : HalfId) (s : Fin 80) (on : Bool)
  /-- The overload of converter s has lasted 1 ms (OVERLOAD_TIMEOUT, R380). -/
  | overloadTimeout (h : HalfId) (s : Fin 80)
  /-- The front end of converter s fails its self-check (FRONT_END_SELF_CHECK_FAIL, R380). -/
  | frontEndSelfCheckFail (h : HalfId) (s : Fin 80)
  /-- 1 ms of normal operation of converter s after INVALID_CAUSE cause + 1 (CONVERTER_RECOVERY, R380). -/
  | converterRecovery (h : HalfId) (s : Fin 80) (cause : Fin 3)
  /-- Requester q writes APPLY of profile j (PROFILE_APPLY, R388). -/
  | profileApply (h : HalfId) (q : Req) (j : Fin 8)
  /-- Requester q writes SFE.SYNC (PROFILE_SYNC, R395). -/
  | profileSync (h : HalfId) (q : Req) (mask : BitVec 7)
  /-- Requester q writes CTRL of converter s with this PROFILE, its other bits as they stand (SNS_PROFILE_WRITE, R389). -/
  | snsProfileWrite (h : HalfId) (q : Req) (s : Fin 80) (p : Fin 8)
  /-- User profile j releases an output instant: the codes of its D cycles for each of its channels, rising, 0 to 3 for −3, −1, +1, +3 (PROFILE_RELEASE, R392). -/
  | profileRelease (h : HalfId) (j : Fin 7) (codes : List (List (Fin 4)))
  /-- An output of the system profile: the values of channels 64 to 79, and the junction temperature in 1/16 °C (SYSTEM_PROFILE_OUTPUT, R397). -/
  | systemProfileOutput (h : HalfId) (values : List Word) (tj : Int) (ofs : BlockOfs)
  /-- The front ends of channels 0 to 31 report their common mode (CM_REPORT, R399). -/
  | cmReport (h : HalfId) (words : List Word)
  /-- An update interval of channel k ends (LARKSPUR_UPDATE, R405). -/
  | larkspurUpdate (h : HalfId) (k : Fin 32) (m : LineIn)
  /-- REPORT seconds have passed (LARKSPUR_REPORT, R406). -/
  | larkspurReport (h : HalfId)
  /-- Requester q writes LSP_CMD with GO and OP 0 (BASELINE_CAPTURE, R404). -/
  | baselineCapture (h : HalfId) (q : Req) (all : Bool) (k : Fin 32)
  /-- Requester q writes LSP_CMD with GO and OP 1 (BASELINE_CLEAR, R404). -/
  | baselineClear (h : HalfId) (q : Req) (all : Bool) (k : Fin 32)
  /-- Requester q writes LSP_CMD with GO and OP 2 (CAPTURE_ABORT, R404). -/
  | captureAbort (h : HalfId) (q : Req) (all : Bool) (k : Fin 32)
  /-- CAPTURE_TIME has passed for the capture of channel k (CAPTURE_END, R404). -/
  | captureEnd (h : HalfId) (k : Fin 32)
  /-- The rms of channel k has lain below SIL_LEVEL over SIL_TIME (PILOT_START, R403). -/
  | pilotStart (h : HalfId) (k : Fin 32)
  /-- Requester q writes 1 to CTRL of sense cluster c (SENSE_CLUSTER_REINIT, R414). -/
  | senseClusterReinit (h : HalfId) (q : Req) (c : Fin 5)
  /-- The graph or the engines push a packet to a user queue (PACKET_PUSH, R427). -/
  | packetPush (h : HalfId) (queue : Fin 64) (items : List (BitVec 56))
  /-- Requester q writes PUSH_HI of a queue (HOST_PUSH, R422). -/
  | hostPush (h : HalfId) (q : Req) (queue : Fin 64) (data : Word)
  /-- Requester q reads POP_LO of a queue; ecc is what the check bits of its oldest word show (POP, R423). -/
  | pop (h : HalfId) (q : Req) (queue : Fin 64) (ecc : Ecc)
  /-- A stalled pop of requester q reaches STALL_LIMIT (STALL_TIMEOUT, R424). -/
  | stallTimeout (h : HalfId) (q : Req) (queue : Fin 64)
  /-- The queue manager finds a word free for a held gap marker (HELD_MARKER_WRITE, R427). -/
  | heldMarkerWrite (h : HalfId) (queue : Fin 64)
  /-- Requester q sets EN of a queue (QUEUE_ENABLE, R420). -/
  | queueEnable (h : HalfId) (q : Req) (queue : Fin 64)
  /-- Requester q clears EN of a queue (QUEUE_DISABLE, R420). -/
  | queueDisable (h : HalfId) (q : Req) (queue : Fin 64)
  /-- Requester q writes CTRL.FLUSH of a queue (QUEUE_FLUSH, R433). -/
  | queueFlush (h : HalfId) (q : Req) (queue : Fin 64)
  /-- A link of a pool queue is uncorrectable; none for the free list (QUEUE_LINK_ERROR, R431). -/
  | queueLinkError (h : HalfId) (queue : Option (Fin 64))
  /-- Requester q writes 1 to the CTRL bit of a queue cluster page (QUEUE_CLUSTER_REINIT, R437). -/
  | queueClusterReinit (h : HalfId) (q : Req) (c : Fin 4)
  /-- The management processor of half h sends its Breeze (BREEZE_SEND, R444). -/
  | breezeSend (h : HalfId)
  /-- Half h receives the next Breeze-format message of its partner, a BREEZE; bad when it arrives damaged (BREEZE, R444). -/
  | breeze (h : HalfId) (bad : Bool)
  /-- Half h receives a YIELD (YIELD, R447). -/
  | yield (h : HalfId) (bad : Bool)
  /-- Half h receives HO_REQUEST (HO_REQUEST, R467). -/
  | hoRequest (h : HalfId) (bad : Bool)
  /-- Half h receives HO_ACCEPT (HO_ACCEPT, R467). -/
  | hoAccept (h : HalfId) (bad : Bool)
  /-- Half h receives HO_REFUSE (HO_REFUSE, R466). -/
  | hoRefuse (h : HalfId) (bad : Bool)
  /-- Half h receives HO_RELEASED (HO_RELEASED, R465). -/
  | hoReleased (h : HalfId) (bad : Bool)
  /-- Half h receives HO_ABANDON (HO_ABANDON, R477). -/
  | hoAbandon (h : HalfId) (bad : Bool)
  /-- No valid Breeze has reached half h for HB_TIMEOUT (BREEZE_LOST, R446). -/
  | breezeLost (h : HalfId)
  /-- No Draught pattern has been present at half h for HB_TIMEOUT (DRAUGHT_LOST, R446). -/
  | draughtLost (h : HalfId)
  /-- The partner's yield pattern appears at half h (DRAUGHT_YIELD_DETECTED, R447). -/
  | draughtYieldDetected (h : HalfId)
  /-- The 100 µs wait of half h ends (YIELD_WAIT_EXPIRY, R447). -/
  | yieldWaitExpiry (h : HalfId)
  /-- The partner's line has counted inactive at half h for 1 µs (OWNERSHIP_RELEASE_DETECTED, R447). -/
  | ownershipReleaseDetected (h : HalfId)
  /-- Half h, its backoff over, rechecks and claims (CLAIM, R451). -/
  | claim (h : HalfId)
  /-- The start hold of half h ends (START_HOLD_EXPIRY, R441). -/
  | startHoldExpiry (h : HalfId)
  /-- Half h, SYNCING, has seen Breeze lost for 10 ms (SYNCING_CLAIM_WAIT, R454). -/
  | syncingClaimWait (h : HalfId)
  /-- Both lines count asserted for 2 µs; whether Half B's line still reads asserted 1 µs after its release (DUAL_CLAIM, R452). -/
  | dualClaim (stillReads : Bool)
  /-- The line of half h reads back unequal to its output for 1 µs (OWNERSHIP_MISMATCH, R459). -/
  | ownershipMismatch (h : HalfId) (reads : Bool)
  /-- Half h starts the kill pattern when every condition holds (KILL_START, R454). -/
  | killStart (h : HalfId)
  /-- The sentinel of half h sees a kill from its partner (KILL_RECEIVED, R455). -/
  | killReceived (h : HalfId)
  /-- The partner of killing half h has shown a released role for 1 ms (KILL_END, R455). -/
  | killEnd (h : HalfId)
  /-- Requester q confirms `KILL_CTRL` with RELEASE (KILL_RELEASE, R455). -/
  | killRelease (h : HalfId) (q : Req)
  /-- Requester q confirms `KILL_CTRL` with this KILL_EN (KILL_ENABLE, R454). -/
  | killEnable (h : HalfId) (q : Req) (en : Bool)
  /-- The pads of half h have had no carrier strobe for 3.0 µs (PAD_WATCHDOG, R456). -/
  | padWatchdog (h : HalfId)
  /-- The pad gate has enabled neither half for 100 µs, or both lines have counted as asserted for 2 µs (NEITHER_ENABLED_FAULT, R457). -/
  | neitherEnabledFault 
  /-- The condition of R457 at the sentinel of half h has lasted 100 µs (SENTINEL_FAULT_ASSERT, R457). -/
  | sentinelFaultAssert (h : HalfId)
  /-- The conditions for FAULT_n have been absent for 100 ms (FAULT_RELEASE, R518). -/
  | faultRelease 
  /-- A rail of half h has left its monitor window for 2 µs (SUPPLY_FAULT, R459). -/
  | supplyFault (h : HalfId) (rail : Fin 12)
  /-- Tj of half h exceeds 115 °C for 1 ms (TEMPERATURE_FAULT, R459). -/
  | temperatureFault (h : HalfId)
  /-- No kick for 30 µs (MANAGEMENT_WATCHDOG_TIMEOUT, R459). -/
  | managementWatchdogTimeout (h : HalfId)
  /-- No carrier boundary within 3.0 µs of the detection (GIVE_UP_RELEASE_TIMEOUT, R460). -/
  | giveUpReleaseTimeout (h : HalfId)
  /-- Requester q confirms `ROLE_CTRL` HANDOVER (HANDOVER, R466). -/
  | handover (h : HalfId) (q : Req)
  /-- Requester q confirms `ROLE_CTRL` ISOLATE (ISOLATE, R442). -/
  | isolate (h : HalfId) (q : Req)
  /-- Requester q confirms `ROLE_CTRL` RESTORE (RESTORE, R442). -/
  | restore (h : HalfId) (q : Req)
  /-- No answer to HO_REQUEST within 100 µs (HANDOVER_NO_ANSWER, R466). -/
  | handoverNoAnswer (h : HalfId)
  /-- The target T arrives at half h (HANDOVER_TARGET, R468). -/
  | handoverTarget (h : HalfId)
  /-- The new half asserts its line at T + 400 ns or after the old line counts inactive (HANDOVER_CLAIM, R468). -/
  | handoverClaim (h : HalfId)
  /-- T + 2 µs passes at the new half (HANDOVER_ABANDON_TIMEOUT, R468). -/
  | handoverAbandonTimeout (h : HalfId)
  /-- A half made STANDBY by handover has not been carrier-aligned within 100 ms (ALIGNMENT_TIMEOUT, R439). -/
  | alignmentTimeout (h : HalfId)
  /-- Half h sends gratuitous ARP for its service addresses (GRATUITOUS_ARP, R465). -/
  | gratuitousArp (h : HalfId)
  /-- Half h receives a mirror item of this kind; lost items of the sequence are missing before it (MIRROR_ITEM, R470). -/
  | mirrorItem (h : HalfId) (kind : MirrorKind) (lost : Nat)
  /-- Half h completes the receipt of a full resync pass (FULL_RESYNC_PASS, R471). -/
  | fullResyncPass (h : HalfId)
  /-- The Onar link goes down at half h (ONAR_LINK_DOWN, R443). -/
  | onarLinkDown (h : HalfId)
  /-- The Onar link comes up at half h (ONAR_LINK_UP, R443). -/
  | onarLinkUp (h : HalfId)
  /-- The partner's digests of a block arrive at half h (DIGEST_RECEIVE, R474). -/
  | digestReceive (h : HalfId)
  /-- Half h completes start-up (HALF_READY, R441). -/
  | halfReady (h : HalfId)
  /-- The trial image of half h confirms the selector (TRIAL_CONFIRM, R535). -/
  | trialConfirm (h : HalfId)
  /-- A known-answer slice of engine e ends; last when every vector has now run (ENGINE_KAT_SLICE, R485). -/
  | engineKatSlice (h : HalfId) (e : Fin 8) (last pass : Bool)
  /-- The test of a lent queue-pool cell or of a ring-memory granule ends (POOL_CELL_TEST, R488). -/
  | poolCellTest (h : HalfId) (granule : Bool) (i : BitVec 16) (pass : Bool)
  /-- A round of injected errors ends; pass when each was corrected or detected as it should be (INJECTION_TEST, R486). -/
  | injectionTest (h : HalfId) (pass : Bool)
  /-- The clock monitor of CD d has been tested (CLOCK_MONITOR_TEST, R485). -/
  | clockMonitorTest (h : HalfId) (d : Fin 12) (pass : Bool)
  /-- Both halves hold the statistics of the 80 converters of Half A and of Half B for a window (CROSS_SENSE_WINDOW, R490). -/
  | crossSenseWindow (a b : List SenseStat)
  /-- TRACKED of channel k, in RUN on the partner, has been 0 for 1 s (GATE_TRACKING_LOST, R491). -/
  | gateTrackingLost (h : HalfId) (k : Fin 32)
  /-- The readback shows both switches of a leg of channel k on for longer than its dead time (FORBIDDEN_GATE_COMBINATION, R491). -/
  | forbiddenGateCombination (h : HalfId) (k : Fin 32)
  /-- The power of channel i, or the NTC temperature of cluster i, has differed from the mirrored value for 1 s (AMP_DIFF_EXPIRY, R492). -/
  | ampDiffExpiry (h : HalfId) (ntc : Bool) (i : Fin 32)
  /-- The wear drift of each region is measured, in 0.01 % (WEAR_MEASUREMENT, R493). -/
  | wearMeasurement (h : HalfId) (drifts : List Int)
  /-- A health record of half h is due; LPDDR5 link-ECC corrections and Onar replays since the last (HEALTH_RECORD, R496). -/
  | healthRecord (h : HalfId) (linkEcc replays : BitVec 16)
  /-- The partner's record arrives at half h (PARTNER_HEALTH_RECORD, R496). -/
  | partnerHealthRecord (h : HalfId)
  /-- An hour has passed at this mean Tj in 1/16 °C (HOURS_WRITE, R499). -/
  | hoursWrite (h : HalfId) (tj : Int)
  /-- Tj has exceeded TJ_WARN for 1 s, or has stayed 5 °C below it for 10 s (TEMP_WARN, R503). -/
  | tempWarn (h : HalfId) (on : Bool)
  /-- The present margin of a rail in 0.1 % of nominal (SUPPLY_WARN, R503). -/
  | supplyWarn (h : HalfId) (rail : Fin 12) (margin : BitVec 8)
  /-- Requester q writes `REARM`, the low or the high word (REARM, R511). -/
  | rearm (h : HalfId) (q : Req) (hi : Bool) (mask : Word)
  /-- Requester q writes `FORCE`, the low or the high word (FORCE, R514). -/
  | force (h : HalfId) (q : Req) (hi : Bool) (mask : Word)
  /-- A rail of half h falls below its window for 10 µs, or below 70 % at once (POWER_ON_RESET, R528). -/
  | powerOnReset (h : HalfId)
  /-- RESET_n of half h is low for 1 µs (PIN_RESET, R528). -/
  | pinReset (h : HalfId)
  /-- The reset of half h releases; the HOSTSEL strap and the flash capacity are as read (RESET_RELEASE, R540). -/
  | resetRelease (h : HalfId) (hostsel : Bool) (flashSize : Word)
  /-- Requester q writes ERASE to `FLASH_CMD` (FLASH_ERASE, R536). -/
  | flashErase (h : HalfId) (q : Req)
  /-- Requester q writes PROGRAM to `FLASH_CMD` (FLASH_PROGRAM, R536). -/
  | flashProgram (h : HalfId) (q : Req)
  /-- Requester q writes or reads `FLASH_DATA` (FLASH_DATA_ACCESS, R536). -/
  | flashDataAccess (h : HalfId) (q : Req) (write : Option Word)
  /-- The flash finishes an erase or a program (FLASH_OPERATION_COMPLETE, R536). -/
  | flashOperationComplete (h : HalfId) (ok : Bool)
  /-- Requester q confirms `BOOT_CTRL` SELECT (SELECT, R537). -/
  | select (h : HalfId) (q : Req) (slot : Bool)
  /-- Requester q confirms `BOOT_CTRL` SAVE_CONFIG (SAVE_CONFIG, R539). -/
  | saveConfig (h : HalfId) (q : Req)
  /-- Requester q confirms `BOOT_CTRL` ERASE_CONFIG (ERASE_CONFIG, R537). -/
  | eraseConfig (h : HalfId) (q : Req)
  /-- Requester q confirms `BOOT_CTRL` SAVE_LIBRARY (SAVE_LIBRARY, R538). -/
  | saveLibrary (h : HalfId) (q : Req)
  /-- Requester q confirms `BOOT_CTRL` ERASE_RETIREMENTS (ERASE_RETIREMENTS, R537). -/
  | eraseRetirements (h : HalfId) (q : Req)
  /-- Requester q confirms `BOOT_CTRL` RAISE_FLOOR (RAISE_FLOOR, R537). -/
  | raiseFloor (h : HalfId) (q : Req)
  /-- A `BOOT_CTRL` operation finishes in the flash or OTP (BOOT_OPERATION_COMPLETE, R537). -/
  | bootOperationComplete (h : HalfId) (ok : Bool)
  /-- The partner's alive pattern is present at half h again (DRAUGHT_RECOVERY, R446). -/
  | draughtRecovery (h : HalfId)
  /-- The supervisor of the sentinel of half h resets it (SENTINEL_SUPERVISOR_RESET, R27). -/
  | sentinelSupervisorReset (h : HalfId)
  /-- All three copies of the sentinel state machine of half h disagree (SENTINEL_COPIES_DISAGREE, R476). -/
  | sentinelCopiesDisagree (h : HalfId)
  /-- The outer code corrects one byte of the line at a store address, or two (DRAM_CORRECTED_READ, R287). -/
  | dramCorrectedRead (h : HalfId) (addr : Word) (two : Bool)
  /-- A word of a row of the local store has a single-bit error (SRAM_CORRECTED_READ, R292). -/
  | sramCorrectedRead (h : HalfId) (area : SramArea) (row : Fin 2048)
  /-- The firmware takes addFragSize and the agreed transmit wake time from a received LLDP frame (LLDP_FRAME, R103). -/
  | lldpFrame (h : HalfId) (p : PortId) (addFrag : Fin 4) (tw : Option (BitVec 16))
  /-- The message interval of a messageType expires on port p (PTP_MESSAGE_SEND, R174). -/
  | ptpMessageSend (h : HalfId) (p : PortId) (type : Fin 16)
  /-- CD4 returns (CD4_RETURN, R175). -/
  | cd4Return (h : HalfId)
  /-- A whole second of PTP time, or 100 ms after it (PPS_PULSE, R565). -/
  | ppsPulse (h : HalfId) (rise : Bool)
  /-- A test class has passed its period (GUST_CLASS_OVERDUE, R485). -/
  | gustClassOverdue (h : HalfId) (cls : Fin 9)
  deriving DecidableEq, Repr

end Sys2Proof
end

