-- ==== Sys2Proof/Config.lean ====
section
/-! DEFINITION. What the spec leaves open as uninterpreted constants (free values, each named in the
assumption log), and what one part fixes (its OTP contents). Nothing here has a value a proof can see. -/

namespace Sys2Proof.Config

/-- The n-th free value of a half, w bits wide: what the spec leaves open is read from here and the
half's counter `fv` advances (log entry 1). -/
opaque freeValue (h : HalfId) (n w : Nat) : BitVec w

/-- The 64-bit unique identifier in OTP (R79). -/
opaque uid (h : HalfId) : BitVec 64

/-- The OTP station address of MAC port p (R120). -/
opaque macAddr (h : HalfId) (p : Nat) : BitVec 48

/-- The OTP hash of the boot key (R534). -/
opaque bootKeyHash (h : HalfId) : List Byte

/-- The key-wrapping key in OTP that no requester can read, applied to the key data it wraps (R539). -/
opaque keyWrap (h : HalfId) (plain : List Byte) : List Byte

/-- The unwrapping of R539: none where the integrity check fails. -/
opaque keyUnwrap (h : HalfId) (wrapped : List Byte) : Option (List Byte)

/-- ECDSA P-256 verification, used by R534 as a standard the spec names and does not define:
key (x then y), signature (r then s), message digest. -/
opaque ecdsaVerify (key sig digest : List Byte) : Bool

/-- The binary32 factor of a level of n / d in 1/128 dB, other than 0 dB and mute: the spec gives decibels and no rounding
of the power (R209, R228). -/
opaque dbFactor (n : Int) (d : Nat) : Word

/-- The dB16 reading of a binary32 magnitude above 0: R212 gives no rounding. -/
opaque toDb16 (peak : Word) : BitVec 16

/-- The RMS, as a binary32 word, of samples of which the sum of squares and the number are given (R212). -/
opaque rms (sumSquares : Word) (n : Nat) : Word

/-- A sample of a tone pattern in a segment of frequency above 0: the 16 words of its record, samples played, rate
(R213): the spec gives the waveforms and not their rounding. -/
opaque toneSample (record : List Word) (pos : Nat) (rate96 : Bool) : Word

/-- A sample of a message at 96 kHz: the fixed half-band filter of R307, whose coefficients the spec leaves out, over the
48 kHz samples about a place. -/
opaque halfBandUp (window : List Word) (odd : Bool) : Word

/-- A sample of a recording at 96 kHz: the half-band decimation of R309, over the samples about a place. -/
opaque halfBandDown (window : List Word) : Word

/-- The detector of a LIMITER, AGC or DUCKER node (R211): its parameter words, the sample frame of its key or program
port, its state; the gain, and the state after it. The spec names the parameters and not the algorithm. -/
opaque dynamics (params : List Word) (frame : List Word) (state : List Word) : Word × List Word

/-- The noise estimate of an ANC node, as dB16, and its state after a block (R211). -/
opaque noise (params : List Word) (program mic : List Word) (state : List Word) : Int × List Word

/-- A sample of a slave-mode TDM port on the other grid: the port resampler of R324, whose filter the spec leaves out, over the
samples about a place, with the ratio and the phase in use. -/
opaque resample (window : List Word) (ratio phase : Word) (pos : Nat) : Word

/-- A quotient n / d that is no whole number is rounded up: the spec gives no rounding of measured values, nor of what the
placement has in use. -/
opaque roundUp (n d : Nat) : Bool

/-- Bytes of state that a node keeps in class 0 (R246): its record, the rate. The spec names the buffer and not its size. -/
opaque nodeState (record : List Word) (rate96 : Bool) : Nat

/-- A quotient of a signed value where the spec gives no precision (R343, R347, R348); any value where d is 0. -/
opaque quot (n : Int) (d : Nat) : Int

/-- The reference voltage at a loop sample, in 2^-24: the fixed interpolator of R346 over the samples of a channel. -/
opaque interpolate (samples : List Word) (n : Nat) : Int

/-- The loop's sum of products, in 2^-48, as the 2^-24 word that it keeps: R347 gives no precision. -/
opaque loopRound (sum : Int) : Int

/-- 10 · log10(limit / average) in 1/8000 dB, below 0 as the average lies above the limit (R358); average as n / d. -/
opaque powerDb (limit n d : Nat) : Int

/-- A sample of the 22 kHz pilot at a media index, at a level in dB below full scale (R356, R403). -/
opaque pilotSample (index : Nat) (rate96 : Bool) (db : Nat) : Word

/-- The NTC temperature in 1/16 °C of R360 from R in Ω, R25 in 10 Ω and B in K; none where it is not finite. -/
opaque ntcTemp (r r25 b : Nat) : Option Int

/-- |Z| in dB re 1 Ω as dB16, unlimited, of a sum of n impedances in 2^-16 Ω (R401). -/
opaque zMag (re im : Int) (n : Nat) : Int

/-- The phase of an impedance in 0.01° (R401). -/
opaque zPhase (re im : Int) : Int

/-- The Arrhenius factor of R499 at a temperature in 1/16 °C, in 10^-6 equivalent hours per hour. -/
opaque arrhenius (tj : Int) : Nat

/-- `ENG[e].SPEED` at a block: the lowest measured rate (R257); the spec measures it on the silicon. -/
opaque engSpeed (h : HalfId) (e age : Nat) : Word

/-- `ENG[e].SLACK_MIN` at a block (R257), measured likewise. -/
opaque slackMin (h : HalfId) (e age : Nat) : BitVec 16

/-- `ENG[e].FW_VER`: the engine firmware version of the running image (R257). -/
opaque engineFw (image : Word) (e : Nat) : Word

end Sys2Proof.Config
end

