-- ==== Sys2Proof/Machine/Bits.lean ====
section
/-! DEFINITION. Bit fields of words, saturating counts, byte order. -/

namespace Sys2Proof.Machine

/-- The field of n bits from bit lo of a word, as a number (the bit ranges of R6). -/
def getBits (w : Word) (lo n : Nat) : Nat := w.toNat / 2 ^ lo % 2 ^ n

/-- The word with its field of n bits from bit lo replaced by v (taken modulo 2^n). -/
def setBits (w : Word) (lo n v : Nat) : Word :=
  BitVec.ofNat 32 (w.toNat % 2 ^ lo + 2 ^ lo * (v % 2 ^ n) + 2 ^ (lo + n) * (w.toNat / 2 ^ (lo + n)))

/-- Bit b of a word. -/
def bitAt (w : Word) (b : Nat) : Bool := w.toNat.testBit b

/-- A Bool as a number. -/
def ofBool (b : Bool) : Nat := if b then 1 else 0

/-- x + d held at 2^n − 1: a saturating count of n bits. -/
def satAdd (n x d : Nat) : Nat := min (x + d) (2 ^ n - 1)

/-- The two's-complement reading of the low n bits of v. -/
def signed (n v : Nat) : Int :=
  let u := v % 2 ^ n
  if 2 * u < 2 ^ n then (u : Int) else (u : Int) - 2 ^ n

/-- The low n bits of an integer in two's complement. -/
def unsigned (n : Nat) (v : Int) : Nat := (v % (2 ^ n : Nat)).toNat

/-- An integer held within the signed range of n bits. -/
def satSigned (n : Nat) (v : Int) : Int := max (-(2 ^ (n - 1) : Nat)) (min v ((2 ^ (n - 1) : Nat) - 1))

/-- An integer held within lo to hi. -/
def clampInt (lo hi v : Int) : Int := max lo (min v hi)

/-- A number held within lo to hi. -/
def clampNat (lo hi v : Nat) : Nat := max lo (min v hi)

/-- The number that big-endian bytes spell. -/
def beNat (bs : List Byte) : Nat := bs.foldl (fun acc b => 256 * acc + b.toNat) 0

/-- The n big-endian bytes of a number. -/
def beBytes : Nat → Nat → List Byte
  | 0, _ => []
  | n + 1, v => BitVec.ofNat 8 (v / 256 ^ n) :: beBytes n v

/-- The number that little-endian bytes spell. -/
def leNat : List Byte → Nat
  | [] => 0
  | b :: bs => b.toNat + 256 * leNat bs

/-- The n little-endian bytes of a number. -/
def leBytes : Nat → Nat → List Byte
  | 0, _ => []
  | n + 1, v => BitVec.ofNat 8 v :: leBytes n (v / 256)

/-- Bytes from ofs on, n of them; short where the list is. -/
def slice (bs : List Byte) (ofs n : Nat) : List Byte := (bs.drop ofs).take n

/-- The number that the n big-endian bytes from ofs spell. -/
def beAt (bs : List Byte) (ofs n : Nat) : Nat := beNat (slice bs ofs n)

/-- One byte, 0 past the end. -/
def byteAt (bs : List Byte) (ofs : Nat) : Nat := ((bs[ofs]?).getD 0).toNat

/-- The bits of mask: the indices below n whose bit is 1, rising. -/
def maskBits (n mask : Nat) : List Nat := (List.range n).filter (fun i => mask.testBit i)

/-- The number with exactly the bits i < n for which f holds. -/
def maskOf (n : Nat) (f : Nat → Bool) : Nat :=
  (List.range n).foldl (fun acc i => if f i then acc + 2 ^ i else acc) 0

/-- Replaces the element at i; the list unchanged where i lies past its end. -/
def setAt {α : Type} (l : List α) (i : Nat) (v : α) : List α := l.set i v

/-- Changes the element at i. -/
def modAt {α : Type} (l : List α) (i : Nat) (f : α → α) : List α := l.modify i f

/-- The element at i, or d. -/
def getAt {α : Type} (l : List α) (i : Nat) (d : α) : α := (l[i]?).getD d

/-- Splits a list into lists of n elements (the last one short); fuel bounds the number of pieces. -/
def chunks {α : Type} (n : Nat) : Nat → List α → List (List α)
  | 0, _ => []
  | fuel + 1, l => if l.isEmpty then [] else l.take n :: chunks n fuel (l.drop n)

/-- The greatest r ≤ hi with r * r ≤ v, by bisection over k halvings. -/
def isqrtAux (v : Nat) : Nat → Nat → Nat → Nat
  | 0, lo, _ => lo
  | k + 1, lo, hi =>
    let mid := (lo + hi + 1) / 2
    if mid * mid ≤ v then isqrtAux v k mid hi else isqrtAux v k lo (mid - 1)

/-- The integer square root of a number below 2^128. -/
def isqrt (v : Nat) : Nat := isqrtAux v 66 0 (2 ^ 64)

/-- Rounds n / d half up. -/
def divRound (n d : Nat) : Nat := (2 * n + d) / (2 * d)

end Sys2Proof.Machine
end

