-- ==== Sys2Proof/Machine/Float.lean ====
section
/-! DEFINITION. IEEE 754 binary32 as the engines compute it: round to nearest even, subnormal results flushed to zero
(R206). A finite value is handled exactly, as an integer multiple of 2^-149. -/

namespace Sys2Proof.Machine

open Sys2Proof

/-- The quiet NaN that an invalid operation delivers (log entry 12). -/
def fNaN : Word := 0x7FC00000

/-- Exponent field of a binary32 word. -/
def fExp (w : Word) : Nat := getBits w 23 8

/-- Sign of a binary32 word. -/
def fSign (w : Word) : Bool := bitAt w 31

/-- A word is NaN. -/
def fIsNaN (w : Word) : Bool := fExp w == 255 && getBits w 0 23 != 0

/-- A word is an infinity. -/
def fIsInf (w : Word) : Bool := fExp w == 255 && getBits w 0 23 == 0

/-- The magnitude of a finite word in units of 2^-149. -/
def fMag (w : Word) : Nat := if fExp w = 0 then getBits w 0 23 else (2 ^ 23 + getBits w 0 23) * 2 ^ (fExp w - 1)

/-- The value of a finite word in units of 2^-149. -/
def fVal (w : Word) : Int := if fSign w then -(fMag w : Int) else fMag w

/-- n / 2^k to the nearest integer, ties to even. -/
def shiftEven (n k : Nat) : Nat :=
  let q := n / 2 ^ k
  let r := n % 2 ^ k
  if 2 * r < 2 ^ k ∨ (2 * r = 2 ^ k ∧ q % 2 = 0) then q else q + 1

/-- The word of a sign and a magnitude that is m · 2^-s, rounded to nearest even, subnormals flushed (R206). -/
def fRound (neg : Bool) (m s : Nat) : Word :=
  let sg := 2 ^ 31 * ofBool neg
  if m = 0 then BitVec.ofNat 32 sg
  else
    let p := Nat.log2 m
    if p + 126 < s then
      if s ≤ 149 then BitVec.ofNat 32 sg
      else BitVec.ofNat 32 (if shiftEven m (s - 149) = 2 ^ 23 then sg + 2 ^ 23 else sg)
    else
      let q := if 23 ≤ p then shiftEven m (p - 23) else m * 2 ^ (23 - p)
      let up := ofBool (q == 2 ^ 24)
      let e := p + 127 + up - s
      if 255 ≤ e then BitVec.ofNat 32 (sg + 0x7F800000)
      else BitVec.ofNat 32 (sg + 2 ^ 23 * e + (if up = 1 then 0 else q - 2 ^ 23))

/-- An integer times 2^-s as a word. -/
def fOfInt (v : Int) (s : Nat) : Word := fRound (v < 0) v.natAbs s

/-- The ratio of two numbers as a word. -/
def fRatio (n d : Nat) : Word :=
  let q := n * 2 ^ 200 / d
  fRound false (2 * q + ofBool (n * 2 ^ 200 % d != 0)) 201

/-- Sum (R206). -/
def fAdd (a b : Word) : Word :=
  if fIsNaN a || fIsNaN b then fNaN
  else if fIsInf a then (if fIsInf b && fSign a != fSign b then fNaN else a)
  else if fIsInf b then b
  else if fVal a + fVal b = 0 then (if fSign a && fSign b then 0x80000000 else 0)
  else fOfInt (fVal a + fVal b) 149

/-- Product (R206). -/
def fMul (a b : Word) : Word :=
  let neg := fSign a != fSign b
  if fIsNaN a || fIsNaN b then fNaN
  else if fIsInf a || fIsInf b then
    if (fExp a != 255 && fMag a == 0) || (fExp b != 255 && fMag b == 0) then fNaN
    else BitVec.ofNat 32 (2 ^ 31 * ofBool neg + 0x7F800000)
  else fRound neg (fMag a * fMag b) 298

/-- The negated word. -/
def fNeg (a : Word) : Word := a ^^^ 0x80000000

/-- The sum of words in order, from zero. -/
def fSum (ws : List Word) : Word := ws.foldl fAdd 0

/-- The sum of the products of two lists in order, from zero. -/
def fDot (as bs : List Word) : Word := (as.zip bs).foldl (fun acc p => fAdd acc (fMul p.1 p.2)) 0

/-- A word as an integer multiple of 2^-k, rounded to nearest even and held to n bits (R207). NaN reads 0. -/
def fToInt (w : Word) (k n : Nat) : Int :=
  if fIsNaN w then 0
  else if fIsInf w then satSigned n (if fSign w then -(2 ^ n : Nat) else (2 ^ n : Nat))
  else
    let m := if 149 ≤ k then fMag w * 2 ^ (k - 149) else shiftEven (fMag w) (149 - k)
    satSigned n (if fSign w then -(m : Int) else m)

/-- One as a word. -/
def fOne : Word := 0x3F800000

/-- Saturation to ±1.0 (R207). -/
def fSat (w : Word) : Word :=
  if fIsNaN w then w
  else if fExp w ≥ 127 then (if fSign w then 0xBF800000 else fOne)
  else w

/-- |a| ≥ |b|, for words that are not NaN: the low 31 bits order magnitudes. -/
def fAbsGe (a b : Word) : Bool := decide (a.toNat % 2 ^ 31 ≥ b.toNat % 2 ^ 31)

/-- The greatest magnitude of a list, as a positive word; 0 for none. -/
def fPeak (ws : List Word) : Word := ws.foldl (fun acc w => if fAbsGe acc w then acc else w &&& 0x7FFFFFFF) 0

end Sys2Proof.Machine
end

