-- ==== Sys2Proof/Machine/Adr.lean ====
section
/-! DEFINITION. The address of every register by its name BLOCK.REG (R7), from the bases and offsets of the index (R613 to R620).
The first argument is the instance of a repeated block, the last the index of a repeated register. -/

namespace Sys2Proof.Machine.Adr

/-- DIE.ID (R79). -/
abbrev DIE_ID : Nat := 0x0
/-- DIE.CTRL (R79). -/
abbrev DIE_CTRL : Nat := 0x4
/-- DIE.STATUS (R79). -/
abbrev DIE_STATUS : Nat := 0x8
/-- DIE.EVENT (R79). -/
abbrev DIE_EVENT : Nat := 0xC
/-- DIE.EVENT_EN (R79). -/
abbrev DIE_EVENT_EN : Nat := 0x10
/-- DIE.FAULT (R79). -/
abbrev DIE_FAULT : Nat := 0x14
/-- DIE.UID_LO (R79). -/
abbrev DIE_UID_LO : Nat := 0x20
/-- DIE.UID_HI (R79). -/
abbrev DIE_UID_HI : Nat := 0x24
/-- DIE.STRAPS (R79). -/
abbrev DIE_STRAPS : Nat := 0x28
/-- DIE.ROLE_MIRROR (R79). -/
abbrev DIE_ROLE_MIRROR : Nat := 0x2C
/-- DIE.BUSERR_ADDR (R80). -/
abbrev DIE_BUSERR_ADDR : Nat := 0x30
/-- DIE.BUSERR_INFO (R80). -/
abbrev DIE_BUSERR_INFO : Nat := 0x34
/-- DIE.PWFAIL_ADDR (R81). -/
abbrev DIE_PWFAIL_ADDR : Nat := 0x38
/-- DIE.PWFAIL_INFO (R81). -/
abbrev DIE_PWFAIL_INFO : Nat := 0x3C
/-- DIE.RESET_CTRL (R545). -/
abbrev DIE_RESET_CTRL : Nat := 0x40
/-- DIE.RESET_CAUSE (R545). -/
abbrev DIE_RESET_CAUSE : Nat := 0x48
/-- DIE.BOOT_STATUS (R546). -/
abbrev DIE_BOOT_STATUS : Nat := 0x4C
/-- DIE.BOOT_CTRL (R545). -/
abbrev DIE_BOOT_CTRL : Nat := 0x50
/-- DIE.FLASH_ADDR (R545). -/
abbrev DIE_FLASH_ADDR : Nat := 0x58
/-- DIE.FLASH_DATA (R545). -/
abbrev DIE_FLASH_DATA : Nat := 0x5C
/-- DIE.FLASH_CMD (R545). -/
abbrev DIE_FLASH_CMD : Nat := 0x60
/-- DIE.FLASH_STATUS (R545). -/
abbrev DIE_FLASH_STATUS : Nat := 0x64
/-- DIE.SLOT_VER (R545). -/
abbrev DIE_SLOT_VER (j : Nat) : Nat := 0x68 + 4 * j
/-- DIE.RAIL_STATUS (R545). -/
abbrev DIE_RAIL_STATUS : Nat := 0x70
/-- EVT.ID (R521). -/
abbrev EVT_ID : Nat := 0x1000
/-- EVT.CTRL (R521). -/
abbrev EVT_CTRL : Nat := 0x1004
/-- EVT.STATUS (R521). -/
abbrev EVT_STATUS : Nat := 0x1008
/-- EVT.EVENT (R521). -/
abbrev EVT_EVENT : Nat := 0x100C
/-- EVT.EVENT_EN (R521). -/
abbrev EVT_EVENT_EN : Nat := 0x1010
/-- EVT.FAULT (R521). -/
abbrev EVT_FAULT : Nat := 0x1014
/-- EVT.SRC (R521). -/
abbrev EVT_SRC (j : Nat) : Nat := 0x1020 + 4 * j
/-- EVT.EN (R521). -/
abbrev EVT_EN (j : Nat) : Nat := 0x1028 + 4 * j
/-- EVT.PEND (R521). -/
abbrev EVT_PEND (j : Nat) : Nat := 0x1030 + 4 * j
/-- EVT.PIN_MASK (R521). -/
abbrev EVT_PIN_MASK (j : Nat) : Nat := 0x1038 + 4 * j
/-- EVT.REARM (R521). -/
abbrev EVT_REARM (j : Nat) : Nat := 0x1040 + 4 * j
/-- EVT.FORCE (R521). -/
abbrev EVT_FORCE (j : Nat) : Nat := 0x1048 + 4 * j
/-- EVT.SYS_EVENT (R522). -/
abbrev EVT_SYS_EVENT : Nat := 0x1050
/-- EVT.SYS_EVENT_EN (R521). -/
abbrev EVT_SYS_EVENT_EN : Nat := 0x1054
/-- EVT.FAULT_FORCE (R521). -/
abbrev EVT_FAULT_FORCE : Nat := 0x1058
/-- HOST.ID (R82). -/
abbrev HOST_ID : Nat := 0x2000
/-- HOST.CTRL (R82). -/
abbrev HOST_CTRL : Nat := 0x2004
/-- HOST.STATUS (R82). -/
abbrev HOST_STATUS : Nat := 0x2008
/-- HOST.EVENT (R82). -/
abbrev HOST_EVENT : Nat := 0x200C
/-- HOST.EVENT_EN (R82). -/
abbrev HOST_EVENT_EN : Nat := 0x2010
/-- HOST.FAULT (R82). -/
abbrev HOST_FAULT : Nat := 0x2014
/-- HOST.LINK (R82). -/
abbrev HOST_LINK : Nat := 0x2020
/-- HOST.QSPI_WAIT_MAX (R82). -/
abbrev HOST_QSPI_WAIT_MAX : Nat := 0x2024
/-- HOST.QSPI_ERRCNT (R82). -/
abbrev HOST_QSPI_ERRCNT : Nat := 0x2028
/-- HOST.MSIX (R41). -/
abbrev HOST_MSIX (j : Nat) : Nat := 0x2400 + 4 * j
/-- HOST.PBA (R41). -/
abbrev HOST_PBA (j : Nat) : Nat := 0x2800 + 4 * j
/-- RDN.ID (R479). -/
abbrev RDN_ID : Nat := 0x10000
/-- RDN.CTRL (R479). -/
abbrev RDN_CTRL : Nat := 0x10004
/-- RDN.STATUS (R479). -/
abbrev RDN_STATUS : Nat := 0x10008
/-- RDN.EVENT (R479). -/
abbrev RDN_EVENT : Nat := 0x1000C
/-- RDN.EVENT_EN (R479). -/
abbrev RDN_EVENT_EN : Nat := 0x10010
/-- RDN.FAULT (R479). -/
abbrev RDN_FAULT : Nat := 0x10014
/-- RDN.ROLE_STATUS (R481). -/
abbrev RDN_ROLE_STATUS : Nat := 0x10020
/-- RDN.HB_TIMEOUT (R479). -/
abbrev RDN_HB_TIMEOUT : Nat := 0x10024
/-- RDN.ROLE_CTRL (R479). -/
abbrev RDN_ROLE_CTRL : Nat := 0x10028
/-- RDN.KILL_CTRL (R479). -/
abbrev RDN_KILL_CTRL : Nat := 0x10030
/-- RDN.HANDOVER_STATUS (R479). -/
abbrev RDN_HANDOVER_STATUS : Nat := 0x10038
/-- RDN.HANDOVER_TARGET (R479). -/
abbrev RDN_HANDOVER_TARGET : Nat := 0x1003C
/-- RDN.COMPARE_STATUS (R483). -/
abbrev RDN_COMPARE_STATUS : Nat := 0x10040
/-- RDN.COMPARE_CNT (R479). -/
abbrev RDN_COMPARE_CNT : Nat := 0x10044
/-- RDN.COMPARE_LIMIT (R479). -/
abbrev RDN_COMPARE_LIMIT : Nat := 0x10048
/-- RDN.MIRROR_STATUS (R479). -/
abbrev RDN_MIRROR_STATUS : Nat := 0x1004C
/-- RDN.MIRROR_DIFF (R479). -/
abbrev RDN_MIRROR_DIFF : Nat := 0x10050
/-- RDN.HB_STATS (R479). -/
abbrev RDN_HB_STATS : Nat := 0x10054
/-- RDN.LINK_STATUS (R479). -/
abbrev RDN_LINK_STATUS : Nat := 0x10058
/-- RDN.LINK_RETRY (R479). -/
abbrev RDN_LINK_RETRY : Nat := 0x1005C
/-- RDN.LAST_TAKEOVER (R479). -/
abbrev RDN_LAST_TAKEOVER : Nat := 0x10060
/-- RDN.PARTNER_HEALTH (R484). -/
abbrev RDN_PARTNER_HEALTH : Nat := 0x10064
/-- RDN.YIELD_COUNT (R479). -/
abbrev RDN_YIELD_COUNT : Nat := 0x10068
/-- TIM.ID (R200). -/
abbrev TIM_ID : Nat := 0x20000
/-- TIM.CTRL (R200). -/
abbrev TIM_CTRL : Nat := 0x20004
/-- TIM.STATUS (R200). -/
abbrev TIM_STATUS : Nat := 0x20008
/-- TIM.EVENT (R200). -/
abbrev TIM_EVENT : Nat := 0x2000C
/-- TIM.EVENT_EN (R200). -/
abbrev TIM_EVENT_EN : Nat := 0x20010
/-- TIM.FAULT (R200). -/
abbrev TIM_FAULT : Nat := 0x20014
/-- TIM.MPLL_STATUS (R200). -/
abbrev TIM_MPLL_STATUS : Nat := 0x20020
/-- TIM.CPLL_STATUS (R200). -/
abbrev TIM_CPLL_STATUS : Nat := 0x20024
/-- TIM.MPLL_BW (R200). -/
abbrev TIM_MPLL_BW : Nat := 0x20028
/-- TIM.LOCK_WINDOW (R200). -/
abbrev TIM_LOCK_WINDOW : Nat := 0x2002C
/-- TIM.LOCK_COUNT (R200). -/
abbrev TIM_LOCK_COUNT : Nat := 0x20030
/-- TIM.AGREE_WINDOW (R200). -/
abbrev TIM_AGREE_WINDOW : Nat := 0x20034
/-- TIM.HOLD_AVG (R200). -/
abbrev TIM_HOLD_AVG : Nat := 0x20038
/-- TIM.PHASE_STEP (R200). -/
abbrev TIM_PHASE_STEP : Nat := 0x2003C
/-- TIM.MPLL_FREQ (R200). -/
abbrev TIM_MPLL_FREQ : Nat := 0x20040
/-- TIM.HOLD_EST (R200). -/
abbrev TIM_HOLD_EST : Nat := 0x20044
/-- TIM.SEL_BASE (R200). -/
abbrev TIM_SEL_BASE : Nat := 0x20048
/-- TIM.CPLL_BW (R200). -/
abbrev TIM_CPLL_BW : Nat := 0x2004C
/-- TIM.MPLL_OPEN (R200). -/
abbrev TIM_MPLL_OPEN : Nat := 0x20050
/-- TIM.SW_FREQ (R200). -/
abbrev TIM_SW_FREQ : Nat := 0x20058
/-- TIM.SWREF_PHASE (R200). -/
abbrev TIM_SWREF_PHASE : Nat := 0x20060
/-- TIM.SWREF_TIMEOUT (R200). -/
abbrev TIM_SWREF_TIMEOUT : Nat := 0x20064
/-- TIM.CARRIER_ALIGN (R200). -/
abbrev TIM_CARRIER_ALIGN : Nat := 0x20068
/-- TIM.WCLK_CFG (R200). -/
abbrev TIM_WCLK_CFG : Nat := 0x2006C
/-- TIM.PTP_TIME (R200). -/
abbrev TIM_PTP_TIME (j : Nat) : Nat := 0x20070 + 4 * j
/-- TIM.TDMREF (R200). -/
abbrev TIM_TDMREF : Nat := 0x2007C
/-- TIM.PTP_CFG (R202). -/
abbrev TIM_PTP_CFG (j : Nat) : Nat := 0x20080 + 4 * j
/-- TIM.PTP_STATUS (R200). -/
abbrev TIM_PTP_STATUS (j : Nat) : Nat := 0x20088 + 4 * j
/-- TIM.REF_CFG (R204). -/
abbrev TIM_REF_CFG (j : Nat) : Nat := 0x20100 + 32 * j
/-- TIM.REF_DRIFT_LIMIT (R203). -/
abbrev TIM_REF_DRIFT_LIMIT (j : Nat) : Nat := 0x20104 + 32 * j
/-- TIM.REF_RATE_LIMIT (R203). -/
abbrev TIM_REF_RATE_LIMIT (j : Nat) : Nat := 0x20108 + 32 * j
/-- TIM.REF_WTR (R203). -/
abbrev TIM_REF_WTR (j : Nat) : Nat := 0x2010C + 32 * j
/-- TIM.REF_STATUS (R203). -/
abbrev TIM_REF_STATUS (j : Nat) : Nat := 0x20110 + 32 * j
/-- TIM.REF_FOFS (R203). -/
abbrev TIM_REF_FOFS (j : Nat) : Nat := 0x20114 + 32 * j
/-- TIM.REF_PHASE (R203). -/
abbrev TIM_REF_PHASE (j : Nat) : Nat := 0x20118 + 32 * j
/-- TIM.REF_DRIFT (R203). -/
abbrev TIM_REF_DRIFT (j : Nat) : Nat := 0x2011C + 32 * j
/-- MAC.ID (R120). -/
abbrev MAC_ID (i : Nat) : Nat := 0x30000 + 0x4000 * i
/-- MAC.CTRL (R120). -/
abbrev MAC_CTRL (i : Nat) : Nat := 0x30004 + 0x4000 * i
/-- MAC.STATUS (R120). -/
abbrev MAC_STATUS (i : Nat) : Nat := 0x30008 + 0x4000 * i
/-- MAC.EVENT (R120). -/
abbrev MAC_EVENT (i : Nat) : Nat := 0x3000C + 0x4000 * i
/-- MAC.EVENT_EN (R120). -/
abbrev MAC_EVENT_EN (i : Nat) : Nat := 0x30010 + 0x4000 * i
/-- MAC.FAULT (R120). -/
abbrev MAC_FAULT (i : Nat) : Nat := 0x30014 + 0x4000 * i
/-- MAC.HALF_ADDR_LO (R120). -/
abbrev MAC_HALF_ADDR_LO (i : Nat) : Nat := 0x30020 + 0x4000 * i
/-- MAC.HALF_ADDR_HI (R120). -/
abbrev MAC_HALF_ADDR_HI (i : Nat) : Nat := 0x30024 + 0x4000 * i
/-- MAC.SVC_ADDR_LO (R120). -/
abbrev MAC_SVC_ADDR_LO (i : Nat) : Nat := 0x30028 + 0x4000 * i
/-- MAC.SVC_ADDR_HI (R120). -/
abbrev MAC_SVC_ADDR_HI (i : Nat) : Nat := 0x3002C + 0x4000 * i
/-- MAC.MAX_FRAME (R120). -/
abbrev MAC_MAX_FRAME (i : Nat) : Nat := 0x30030 + 0x4000 * i
/-- MAC.TX_START_THRESH (R120). -/
abbrev MAC_TX_START_THRESH (i : Nat) : Nat := 0x30034 + 0x4000 * i
/-- MAC.PAUSE_BUDGET (R120). -/
abbrev MAC_PAUSE_BUDGET (i : Nat) : Nat := 0x30038 + 0x4000 * i
/-- MAC.PAUSE_RECOVER (R120). -/
abbrev MAC_PAUSE_RECOVER (i : Nat) : Nat := 0x3003C + 0x4000 * i
/-- MAC.EEE_IDLE (R120). -/
abbrev MAC_EEE_IDLE (i : Nat) : Nat := 0x30040 + 0x4000 * i
/-- MAC.EEE_TW (R120). -/
abbrev MAC_EEE_TW (i : Nat) : Nat := 0x30044 + 0x4000 * i
/-- MAC.VERIFY_TIME (R120). -/
abbrev MAC_VERIFY_TIME (i : Nat) : Nat := 0x30048 + 0x4000 * i
/-- MAC.VERIFY_LIMIT (R120). -/
abbrev MAC_VERIFY_LIMIT (i : Nat) : Nat := 0x3004C + 0x4000 * i
/-- MAC.TS_INGRESS_LAT (R120). -/
abbrev MAC_TS_INGRESS_LAT (i : Nat) : Nat := 0x30050 + 0x4000 * i
/-- MAC.TS_EGRESS_LAT (R120). -/
abbrev MAC_TS_EGRESS_LAT (i : Nat) : Nat := 0x30054 + 0x4000 * i
/-- MAC.RX_STEER (R120). -/
abbrev MAC_RX_STEER (i : Nat) : Nat := 0x30058 + 0x4000 * i
/-- MAC.RX_TS_TAG (R120). -/
abbrev MAC_RX_TS_TAG (i : Nat) : Nat := 0x3005C + 0x4000 * i
/-- MAC.VID (R120). -/
abbrev MAC_VID (i : Nat) (j : Nat) : Nat := 0x30060 + 0x4000 * i + 4 * j
/-- MAC.MDIO_CMD (R88). -/
abbrev MAC_MDIO_CMD (i : Nat) : Nat := 0x300A0 + 0x4000 * i
/-- MAC.MDIO_DATA (R120). -/
abbrev MAC_MDIO_DATA (i : Nat) : Nat := 0x300A4 + 0x4000 * i
/-- MAC.MDIO_CLK (R120). -/
abbrev MAC_MDIO_CLK (i : Nat) : Nat := 0x300A8 + 0x4000 * i
/-- MAC.EXACT_LO (R124). -/
abbrev MAC_EXACT_LO (i : Nat) (j : Nat) : Nat := 0x30100 + 0x4000 * i + 8 * j
/-- MAC.EXACT_HI (R124). -/
abbrev MAC_EXACT_HI (i : Nat) (j : Nat) : Nat := 0x30104 + 0x4000 * i + 8 * j
/-- MAC.CNT (R120). -/
abbrev MAC_CNT (i : Nat) (j : Nat) : Nat := 0x30200 + 0x4000 * i + 4 * j
/-- MAC.RXR_BASE_LO (R125). -/
abbrev MAC_RXR_BASE_LO (i : Nat) (j : Nat) : Nat := 0x30400 + 0x4000 * i + 64 * j
/-- MAC.RXR_BASE_HI (R125). -/
abbrev MAC_RXR_BASE_HI (i : Nat) (j : Nat) : Nat := 0x30404 + 0x4000 * i + 64 * j
/-- MAC.RXR_SIZE (R125). -/
abbrev MAC_RXR_SIZE (i : Nat) (j : Nat) : Nat := 0x30408 + 0x4000 * i + 64 * j
/-- MAC.RXR_CTRL (R125). -/
abbrev MAC_RXR_CTRL (i : Nat) (j : Nat) : Nat := 0x3040C + 0x4000 * i + 64 * j
/-- MAC.RXR_TAIL (R125). -/
abbrev MAC_RXR_TAIL (i : Nat) (j : Nat) : Nat := 0x30410 + 0x4000 * i + 64 * j
/-- MAC.RXR_HEAD (R125). -/
abbrev MAC_RXR_HEAD (i : Nat) (j : Nat) : Nat := 0x30414 + 0x4000 * i + 64 * j
/-- MAC.RXR_STATUS (R125). -/
abbrev MAC_RXR_STATUS (i : Nat) (j : Nat) : Nat := 0x30418 + 0x4000 * i + 64 * j
/-- MAC.TXR_BASE_LO (R125). -/
abbrev MAC_TXR_BASE_LO (i : Nat) (j : Nat) : Nat := 0x30500 + 0x4000 * i + 64 * j
/-- MAC.TXR_BASE_HI (R125). -/
abbrev MAC_TXR_BASE_HI (i : Nat) (j : Nat) : Nat := 0x30504 + 0x4000 * i + 64 * j
/-- MAC.TXR_SIZE (R125). -/
abbrev MAC_TXR_SIZE (i : Nat) (j : Nat) : Nat := 0x30508 + 0x4000 * i + 64 * j
/-- MAC.TXR_CTRL (R125). -/
abbrev MAC_TXR_CTRL (i : Nat) (j : Nat) : Nat := 0x3050C + 0x4000 * i + 64 * j
/-- MAC.TXR_TAIL (R125). -/
abbrev MAC_TXR_TAIL (i : Nat) (j : Nat) : Nat := 0x30510 + 0x4000 * i + 64 * j
/-- MAC.TXR_HEAD (R125). -/
abbrev MAC_TXR_HEAD (i : Nat) (j : Nat) : Nat := 0x30514 + 0x4000 * i + 64 * j
/-- MAC.TXR_STATUS (R125). -/
abbrev MAC_TXR_STATUS (i : Nat) (j : Nat) : Nat := 0x30518 + 0x4000 * i + 64 * j
/-- MACC.ID (R126). -/
abbrev MACC_ID : Nat := 0x33000
/-- MACC.CTRL (R126). -/
abbrev MACC_CTRL : Nat := 0x33004
/-- MACC.STATUS (R126). -/
abbrev MACC_STATUS : Nat := 0x33008
/-- MACC.EVENT (R126). -/
abbrev MACC_EVENT : Nat := 0x3300C
/-- MACC.EVENT_EN (R126). -/
abbrev MACC_EVENT_EN : Nat := 0x33010
/-- MACC.FAULT (R126). -/
abbrev MACC_FAULT : Nat := 0x33014
/-- FRX.ID (R162). -/
abbrev FRX_ID (i : Nat) : Nat := 0x40000 + 0x40 * i
/-- FRX.CTRL (R162). -/
abbrev FRX_CTRL (i : Nat) : Nat := 0x40004 + 0x40 * i
/-- FRX.STATUS (R162). -/
abbrev FRX_STATUS (i : Nat) : Nat := 0x40008 + 0x40 * i
/-- FRX.EVENT (R162). -/
abbrev FRX_EVENT (i : Nat) : Nat := 0x4000C + 0x40 * i
/-- FRX.EVENT_EN (R162). -/
abbrev FRX_EVENT_EN (i : Nat) : Nat := 0x40010 + 0x40 * i
/-- FRX.FAULT (R162). -/
abbrev FRX_FAULT (i : Nat) : Nat := 0x40014 + 0x40 * i
/-- FRX.DST_IP (R162). -/
abbrev FRX_DST_IP (i : Nat) : Nat := 0x40020 + 0x40 * i
/-- FRX.SRC_IP (R162). -/
abbrev FRX_SRC_IP (i : Nat) : Nat := 0x40024 + 0x40 * i
/-- FRX.FORMAT (R166). -/
abbrev FRX_FORMAT (i : Nat) : Nat := 0x40028 + 0x40 * i
/-- FRX.TIMING (R167). -/
abbrev FRX_TIMING (i : Nat) : Nat := 0x4002C + 0x40 * i
/-- FRX.RTP_OFFSET (R162). -/
abbrev FRX_RTP_OFFSET (i : Nat) : Nat := 0x40030 + 0x40 * i
/-- FRX.ARRIVAL (R162). -/
abbrev FRX_ARRIVAL (i : Nat) (j : Nat) : Nat := 0x40034 + 0x40 * i + 4 * j
/-- FTX.ID (R168). -/
abbrev FTX_ID (i : Nat) : Nat := 0x50000 + 0x40 * i
/-- FTX.CTRL (R168). -/
abbrev FTX_CTRL (i : Nat) : Nat := 0x50004 + 0x40 * i
/-- FTX.STATUS (R168). -/
abbrev FTX_STATUS (i : Nat) : Nat := 0x50008 + 0x40 * i
/-- FTX.EVENT (R168). -/
abbrev FTX_EVENT (i : Nat) : Nat := 0x5000C + 0x40 * i
/-- FTX.EVENT_EN (R168). -/
abbrev FTX_EVENT_EN (i : Nat) : Nat := 0x50010 + 0x40 * i
/-- FTX.FAULT (R168). -/
abbrev FTX_FAULT (i : Nat) : Nat := 0x50014 + 0x40 * i
/-- FTX.FORMAT (R166). -/
abbrev FTX_FORMAT (i : Nat) : Nat := 0x50020 + 0x40 * i
/-- FTX.TIMING (R167). -/
abbrev FTX_TIMING (i : Nat) : Nat := 0x50024 + 0x40 * i
/-- FTX.RTP_OFFSET (R168). -/
abbrev FTX_RTP_OFFSET (i : Nat) : Nat := 0x50028 + 0x40 * i
/-- FTX.LAUNCH (R168). -/
abbrev FTX_LAUNCH (i : Nat) (j : Nat) : Nat := 0x50034 + 0x40 * i + 4 * j
/-- GRF.ID (R230). -/
abbrev GRF_ID : Nat := 0x60000
/-- GRF.CTRL (R230). -/
abbrev GRF_CTRL : Nat := 0x60004
/-- GRF.STATUS (R230). -/
abbrev GRF_STATUS : Nat := 0x60008
/-- GRF.EVENT (R230). -/
abbrev GRF_EVENT : Nat := 0x6000C
/-- GRF.EVENT_EN (R230). -/
abbrev GRF_EVENT_EN : Nat := 0x60010
/-- GRF.FAULT (R230). -/
abbrev GRF_FAULT : Nat := 0x60014
/-- GRF.CFG (R230). -/
abbrev GRF_CFG : Nat := 0x60020
/-- GRF.COMMIT (R230). -/
abbrev GRF_COMMIT : Nat := 0x60024
/-- GRF.COMMIT_STATUS (R230). -/
abbrev GRF_COMMIT_STATUS : Nat := 0x60028
/-- GRF.PLAN_ID (R230). -/
abbrev GRF_PLAN_ID : Nat := 0x6002C
/-- GRF.PENDING_ID (R230). -/
abbrev GRF_PENDING_ID : Nat := 0x60030
/-- GRF.COMMIT_TARGET (R230). -/
abbrev GRF_COMMIT_TARGET : Nat := 0x60034
/-- GRF.STAGE_DROPS (R230). -/
abbrev GRF_STAGE_DROPS : Nat := 0x60038
/-- GRF.LEVEL_CMD (R230). -/
abbrev GRF_LEVEL_CMD : Nat := 0x6003C
/-- GRF.TONE_RUN (R230). -/
abbrev GRF_TONE_RUN : Nat := 0x60040
/-- GRF.LS_ZONES (R230). -/
abbrev GRF_LS_ZONES (j : Nat) : Nat := 0x60060 + 4 * j
/-- GRF.ZSTATE (R232). -/
abbrev GRF_ZSTATE (j : Nat) : Nat := 0x60400 + 4 * j
/-- PLC.ID (R258). -/
abbrev PLC_ID : Nat := 0x61000
/-- PLC.CTRL (R258). -/
abbrev PLC_CTRL : Nat := 0x61004
/-- PLC.STATUS (R258). -/
abbrev PLC_STATUS : Nat := 0x61008
/-- PLC.EVENT (R258). -/
abbrev PLC_EVENT : Nat := 0x6100C
/-- PLC.EVENT_EN (R258). -/
abbrev PLC_EVENT_EN : Nat := 0x61010
/-- PLC.FAULT (R258). -/
abbrev PLC_FAULT : Nat := 0x61014
/-- PLC.CAPACITY (R259). -/
abbrev PLC_CAPACITY : Nat := 0x61020
/-- PLC.LOAD (R259). -/
abbrev PLC_LOAD : Nat := 0x61024
/-- PLC.LOAD_LS (R259). -/
abbrev PLC_LOAD_LS : Nat := 0x61028
/-- PLC.CRIT_PATH (R259). -/
abbrev PLC_CRIT_PATH : Nat := 0x6102C
/-- PLC.PLACE_GEN (R259). -/
abbrev PLC_PLACE_GEN : Nat := 0x61030
/-- PLC.LS_TOTAL (R259). -/
abbrev PLC_LS_TOTAL : Nat := 0x61034
/-- PLC.LS_USED (R259). -/
abbrev PLC_LS_USED : Nat := 0x61038
/-- PLC.DRAM_TOTAL (R259). -/
abbrev PLC_DRAM_TOTAL : Nat := 0x6103C
/-- PLC.DRAM_USED (R259). -/
abbrev PLC_DRAM_USED : Nat := 0x61040
/-- PLC.DRAM_BW (R259). -/
abbrev PLC_DRAM_BW : Nat := 0x61044
/-- PLC.LS_DELAY_MAX (R259). -/
abbrev PLC_LS_DELAY_MAX : Nat := 0x61048
/-- PLC.REPLACE_TIME (R259). -/
abbrev PLC_REPLACE_TIME : Nat := 0x6104C
/-- PLC.ROWS_MIGRATED (R259). -/
abbrev PLC_ROWS_MIGRATED : Nat := 0x61050
/-- ALM.ID (R282). -/
abbrev ALM_ID : Nat := 0x70000
/-- ALM.CTRL (R282). -/
abbrev ALM_CTRL : Nat := 0x70004
/-- ALM.STATUS (R282). -/
abbrev ALM_STATUS : Nat := 0x70008
/-- ALM.EVENT (R282). -/
abbrev ALM_EVENT : Nat := 0x7000C
/-- ALM.EVENT_EN (R282). -/
abbrev ALM_EVENT_EN : Nat := 0x70010
/-- ALM.FAULT (R282). -/
abbrev ALM_FAULT : Nat := 0x70014
/-- ALM.UDP_PORT (R282). -/
abbrev ALM_UDP_PORT : Nat := 0x70020
/-- ALM.DST_IP (R282). -/
abbrev ALM_DST_IP (j : Nat) : Nat := 0x70024 + 4 * j
/-- ALM.TIME_WINDOW (R282). -/
abbrev ALM_TIME_WINDOW : Nat := 0x7002C
/-- ALM.HOST_MAX_PRI (R282). -/
abbrev ALM_HOST_MAX_PRI : Nat := 0x70030
/-- ALM.AUTH_BUCKET (R282). -/
abbrev ALM_AUTH_BUCKET : Nat := 0x70034
/-- ALM.KEY_STATUS (R282). -/
abbrev ALM_KEY_STATUS : Nat := 0x70038
/-- ALM.KEY_DATA (R282). -/
abbrev ALM_KEY_DATA (j : Nat) : Nat := 0x70040 + 4 * j
/-- ALM.KEY_LOAD (R282). -/
abbrev ALM_KEY_LOAD : Nat := 0x70060
/-- ALM.CMD_ZONE (R282). -/
abbrev ALM_CMD_ZONE (j : Nat) : Nat := 0x70080 + 4 * j
/-- ALM.CMD_ARG (R282). -/
abbrev ALM_CMD_ARG : Nat := 0x700A0
/-- ALM.CMD_GO (R282). -/
abbrev ALM_CMD_GO : Nat := 0x700A4
/-- ALM.CMD_STATUS (R282). -/
abbrev ALM_CMD_STATUS : Nat := 0x700A8
/-- ALM.EVAC_STATUS (R282). -/
abbrev ALM_EVAC_STATUS (j : Nat) : Nat := 0x700C0 + 4 * j
/-- ALM.EVAC_CFG (R282). -/
abbrev ALM_EVAC_CFG : Nat := 0x700E0
/-- ALM.EVAC_DEBOUNCE (R282). -/
abbrev ALM_EVAC_DEBOUNCE : Nat := 0x700E4
/-- ALM.EVAC_RELEASE (R282). -/
abbrev ALM_EVAC_RELEASE : Nat := 0x700E8
/-- ALM.TH_SHORT (R282). -/
abbrev ALM_TH_SHORT : Nat := 0x700F0
/-- ALM.TH_ACTIVE (R282). -/
abbrev ALM_TH_ACTIVE : Nat := 0x700F4
/-- ALM.TH_OPEN (R282). -/
abbrev ALM_TH_OPEN : Nat := 0x700F8
/-- ALM.ISSUER_ID (R282). -/
abbrev ALM_ISSUER_ID (j : Nat) : Nat := 0x70100 + 16 * j
/-- ALM.ISSUER_CFG (R282). -/
abbrev ALM_ISSUER_CFG (j : Nat) : Nat := 0x70104 + 16 * j
/-- ALM.ISSUER_SRC_IP (R282). -/
abbrev ALM_ISSUER_SRC_IP (j : Nat) : Nat := 0x70108 + 16 * j
/-- ALM.ISSUER_LAST_SEQ (R282). -/
abbrev ALM_ISSUER_LAST_SEQ (j : Nat) : Nat := 0x7010C + 16 * j
/-- MEM.ID (R314). -/
abbrev MEM_ID : Nat := 0x80000
/-- MEM.CTRL (R314). -/
abbrev MEM_CTRL : Nat := 0x80004
/-- MEM.STATUS (R314). -/
abbrev MEM_STATUS : Nat := 0x80008
/-- MEM.EVENT (R314). -/
abbrev MEM_EVENT : Nat := 0x8000C
/-- MEM.EVENT_EN (R314). -/
abbrev MEM_EVENT_EN : Nat := 0x80010
/-- MEM.FAULT (R314). -/
abbrev MEM_FAULT : Nat := 0x80014
/-- MEM.PARTITION (R314). -/
abbrev MEM_PARTITION : Nat := 0x80020
/-- MEM.SCRUB_PERIOD (R314). -/
abbrev MEM_SCRUB_PERIOD : Nat := 0x80028
/-- MEM.SCRUB_PROGRESS (R314). -/
abbrev MEM_SCRUB_PROGRESS : Nat := 0x8002C
/-- MEM.CORR_CNT (R314). -/
abbrev MEM_CORR_CNT : Nat := 0x80030
/-- MEM.UNCORR_CNT (R314). -/
abbrev MEM_UNCORR_CNT : Nat := 0x80034
/-- MEM.SRAM_CORR_CNT (R314). -/
abbrev MEM_SRAM_CORR_CNT : Nat := 0x80038
/-- MEM.SRAM_UNCORR_CNT (R314). -/
abbrev MEM_SRAM_UNCORR_CNT : Nat := 0x8003C
/-- MEM.RETIRED (R314). -/
abbrev MEM_RETIRED : Nat := 0x80040
/-- MEM.ERR_ADDR (R314). -/
abbrev MEM_ERR_ADDR (j : Nat) : Nat := 0x80044 + 4 * j
/-- MEM.ERR_INFO (R314). -/
abbrev MEM_ERR_INFO : Nat := 0x8004C
/-- MEM.XFER_HOST (R314). -/
abbrev MEM_XFER_HOST (j : Nat) : Nat := 0x80060 + 4 * j
/-- MEM.XFER_OFFSET (R314). -/
abbrev MEM_XFER_OFFSET : Nat := 0x80068
/-- MEM.XFER_LEN (R314). -/
abbrev MEM_XFER_LEN : Nat := 0x8006C
/-- MEM.XFER_CTRL (R314). -/
abbrev MEM_XFER_CTRL : Nat := 0x80070
/-- MEM.XFER_STATUS (R314). -/
abbrev MEM_XFER_STATUS : Nat := 0x80074
/-- MEM.XFER_DATA (R314). -/
abbrev MEM_XFER_DATA : Nat := 0x80078
/-- MSG.ID (R315). -/
abbrev MSG_ID : Nat := 0x81000
/-- MSG.CTRL (R315). -/
abbrev MSG_CTRL : Nat := 0x81004
/-- MSG.STATUS (R315). -/
abbrev MSG_STATUS : Nat := 0x81008
/-- MSG.EVENT (R315). -/
abbrev MSG_EVENT : Nat := 0x8100C
/-- MSG.EVENT_EN (R315). -/
abbrev MSG_EVENT_EN : Nat := 0x81010
/-- MSG.FAULT (R315). -/
abbrev MSG_FAULT : Nat := 0x81014
/-- MSG.LIB_COMMIT (R315). -/
abbrev MSG_LIB_COMMIT : Nat := 0x81020
/-- MSG.LIB_GEN (R315). -/
abbrev MSG_LIB_GEN : Nat := 0x81028
/-- MSG.LIB_DETAIL (R315). -/
abbrev MSG_LIB_DETAIL : Nat := 0x8102C
/-- MSG.BULK_CTRL (R315). -/
abbrev MSG_BULK_CTRL : Nat := 0x81030
/-- MSG.BULK_STATUS (R315). -/
abbrev MSG_BULK_STATUS : Nat := 0x81034
/-- MSG.LIB_CHECK (R315). -/
abbrev MSG_LIB_CHECK : Nat := 0x81038
/-- MSG.PLAYER (R316). -/
abbrev MSG_PLAYER (j : Nat) : Nat := 0x81100 + 4 * j
/-- MSG.DAMAGED (R315). -/
abbrev MSG_DAMAGED (j : Nat) : Nat := 0x81400 + 4 * j
/-- REC.ID (R317). -/
abbrev REC_ID : Nat := 0x82000
/-- REC.CTRL (R317). -/
abbrev REC_CTRL : Nat := 0x82004
/-- REC.STATUS (R317). -/
abbrev REC_STATUS : Nat := 0x82008
/-- REC.EVENT (R317). -/
abbrev REC_EVENT : Nat := 0x8200C
/-- REC.EVENT_EN (R317). -/
abbrev REC_EVENT_EN : Nat := 0x82010
/-- REC.FAULT (R317). -/
abbrev REC_FAULT : Nat := 0x82014
/-- REC.CH_EN (R317). -/
abbrev REC_CH_EN (j : Nat) : Nat := 0x82020 + 4 * j
/-- REC.WRITE_OFS (R317). -/
abbrev REC_WRITE_OFS : Nat := 0x82028
/-- REC.OLDEST_OFS (R317). -/
abbrev REC_OLDEST_OFS : Nat := 0x8202C
/-- REC.LAST_SEQ (R317). -/
abbrev REC_LAST_SEQ : Nat := 0x82030
/-- REC.FRAME_BYTES (R317). -/
abbrev REC_FRAME_BYTES : Nat := 0x82034
/-- REC.DROPPED (R317). -/
abbrev REC_DROPPED : Nat := 0x82038
/-- REC.SIZE (R317). -/
abbrev REC_SIZE : Nat := 0x8203C
/-- TDM.ID (R336). -/
abbrev TDM_ID (i : Nat) : Nat := 0x90000 + 0x400 * i
/-- TDM.CTRL (R336). -/
abbrev TDM_CTRL (i : Nat) : Nat := 0x90004 + 0x400 * i
/-- TDM.STATUS (R336). -/
abbrev TDM_STATUS (i : Nat) : Nat := 0x90008 + 0x400 * i
/-- TDM.EVENT (R336). -/
abbrev TDM_EVENT (i : Nat) : Nat := 0x9000C + 0x400 * i
/-- TDM.EVENT_EN (R336). -/
abbrev TDM_EVENT_EN (i : Nat) : Nat := 0x90010 + 0x400 * i
/-- TDM.FAULT (R336). -/
abbrev TDM_FAULT (i : Nat) : Nat := 0x90014 + 0x400 * i
/-- TDM.CFG (R337). -/
abbrev TDM_CFG (i : Nat) : Nat := 0x90020 + 0x400 * i
/-- TDM.TX_SLOT_EN (R336). -/
abbrev TDM_TX_SLOT_EN (i : Nat) : Nat := 0x90024 + 0x400 * i
/-- TDM.RATIO (R336). -/
abbrev TDM_RATIO (i : Nat) : Nat := 0x90028 + 0x400 * i
/-- TDM.PHASE (R336). -/
abbrev TDM_PHASE (i : Nat) : Nat := 0x9002C + 0x400 * i
/-- TDM.FRAME_ERR_CNT (R336). -/
abbrev TDM_FRAME_ERR_CNT (i : Nat) : Nat := 0x90030 + 0x400 * i
/-- TDM.FRAMES (R336). -/
abbrev TDM_FRAMES (i : Nat) : Nat := 0x90034 + 0x400 * i
/-- TDMC.ID (R338). -/
abbrev TDMC_ID : Nat := 0x90200
/-- TDMC.CTRL (R338). -/
abbrev TDMC_CTRL : Nat := 0x90204
/-- TDMC.STATUS (R338). -/
abbrev TDMC_STATUS : Nat := 0x90208
/-- TDMC.EVENT (R338). -/
abbrev TDMC_EVENT : Nat := 0x9020C
/-- TDMC.EVENT_EN (R338). -/
abbrev TDMC_EVENT_EN : Nat := 0x90210
/-- TDMC.FAULT (R338). -/
abbrev TDMC_FAULT : Nat := 0x90214
/-- AMPC.ID (R374). -/
abbrev AMPC_ID (i : Nat) : Nat := 0xA0000 + 0x100 * i
/-- AMPC.CTRL (R374). -/
abbrev AMPC_CTRL (i : Nat) : Nat := 0xA0004 + 0x100 * i
/-- AMPC.STATUS (R374). -/
abbrev AMPC_STATUS (i : Nat) : Nat := 0xA0008 + 0x100 * i
/-- AMPC.EVENT (R374). -/
abbrev AMPC_EVENT (i : Nat) : Nat := 0xA000C + 0x100 * i
/-- AMPC.EVENT_EN (R374). -/
abbrev AMPC_EVENT_EN (i : Nat) : Nat := 0xA0010 + 0x100 * i
/-- AMPC.FAULT (R374). -/
abbrev AMPC_FAULT (i : Nat) : Nat := 0xA0014 + 0x100 * i
/-- AMPC.PSEN_CTRL (R373). -/
abbrev AMPC_PSEN_CTRL (i : Nat) : Nat := 0xA0020 + 0x100 * i
/-- AMPC.CFG (R373). -/
abbrev AMPC_CFG (i : Nat) : Nat := 0xA0028 + 0x100 * i
/-- AMPC.BUS_SCALE (R373). -/
abbrev AMPC_BUS_SCALE (i : Nat) : Nat := 0xA002C + 0x100 * i
/-- AMPC.BUS_LIMITS (R373). -/
abbrev AMPC_BUS_LIMITS (i : Nat) : Nat := 0xA0030 + 0x100 * i
/-- AMPC.THERM (R373). -/
abbrev AMPC_THERM (i : Nat) : Nat := 0xA0038 + 0x100 * i
/-- AMPC.NTC_CFG (R373). -/
abbrev AMPC_NTC_CFG (i : Nat) : Nat := 0xA0040 + 0x100 * i
/-- AMPC.CL_PLIM (R373). -/
abbrev AMPC_CL_PLIM (i : Nat) : Nat := 0xA0048 + 0x100 * i
/-- AMPC.TEMP (R373). -/
abbrev AMPC_TEMP (i : Nat) : Nat := 0xA0050 + 0x100 * i
/-- AMPC.BUS_V (R373). -/
abbrev AMPC_BUS_V (i : Nat) : Nat := 0xA0054 + 0x100 * i
/-- AMPC.CL_POWER (R373). -/
abbrev AMPC_CL_POWER (i : Nat) : Nat := 0xA0058 + 0x100 * i
/-- AMPC.GAIN (R373). -/
abbrev AMPC_GAIN (i : Nat) : Nat := 0xA005C + 0x100 * i
/-- AMP.ID (R376). -/
abbrev AMP_ID (i : Nat) : Nat := 0xA1000 + 0x200 * i
/-- AMP.CTRL (R376). -/
abbrev AMP_CTRL (i : Nat) : Nat := 0xA1004 + 0x200 * i
/-- AMP.STATUS (R376). -/
abbrev AMP_STATUS (i : Nat) : Nat := 0xA1008 + 0x200 * i
/-- AMP.EVENT (R376). -/
abbrev AMP_EVENT (i : Nat) : Nat := 0xA100C + 0x200 * i
/-- AMP.EVENT_EN (R376). -/
abbrev AMP_EVENT_EN (i : Nat) : Nat := 0xA1010 + 0x200 * i
/-- AMP.FAULT (R376). -/
abbrev AMP_FAULT (i : Nat) : Nat := 0xA1014 + 0x200 * i
/-- AMP.MOD (R375). -/
abbrev AMP_MOD (i : Nat) : Nat := 0xA1020 + 0x200 * i
/-- AMP.SCALE (R375). -/
abbrev AMP_SCALE (i : Nat) : Nat := 0xA1028 + 0x200 * i
/-- AMP.OUT_GAIN (R375). -/
abbrev AMP_OUT_GAIN (i : Nat) : Nat := 0xA102C + 0x200 * i
/-- AMP.ILIM (R375). -/
abbrev AMP_ILIM (i : Nat) : Nat := 0xA1030 + 0x200 * i
/-- AMP.PLIM (R375). -/
abbrev AMP_PLIM (i : Nat) : Nat := 0xA1038 + 0x200 * i
/-- AMP.DC_LIMIT (R375). -/
abbrev AMP_DC_LIMIT (i : Nat) : Nat := 0xA1040 + 0x200 * i
/-- AMP.ZSHORT (R375). -/
abbrev AMP_ZSHORT (i : Nat) : Nat := 0xA1048 + 0x200 * i
/-- AMP.COMP_BANK (R375). -/
abbrev AMP_COMP_BANK (i : Nat) : Nat := 0xA104C + 0x200 * i
/-- AMP.COMP0 (R377). -/
abbrev AMP_COMP0 (i : Nat) (j : Nat) : Nat := 0xA1050 + 0x200 * i + 4 * j
/-- AMP.COMP1 (R377). -/
abbrev AMP_COMP1 (i : Nat) (j : Nat) : Nat := 0xA1078 + 0x200 * i + 4 * j
/-- AMP.GAIN (R375). -/
abbrev AMP_GAIN (i : Nat) : Nat := 0xA10A0 + 0x200 * i
/-- AMP.POWER (R375). -/
abbrev AMP_POWER (i : Nat) : Nat := 0xA10A4 + 0x200 * i
/-- AMP.VOUT_RMS (R375). -/
abbrev AMP_VOUT_RMS (i : Nat) : Nat := 0xA10A8 + 0x200 * i
/-- AMP.IOUT_RMS (R375). -/
abbrev AMP_IOUT_RMS (i : Nat) : Nat := 0xA10AC + 0x200 * i
/-- AMP.DC (R375). -/
abbrev AMP_DC (i : Nat) : Nat := 0xA10B0 + 0x200 * i
/-- AMP.TRIP_CNT (R375). -/
abbrev AMP_TRIP_CNT (i : Nat) : Nat := 0xA10B4 + 0x200 * i
/-- AMP.CLIP_CNT (R375). -/
abbrev AMP_CLIP_CNT (i : Nat) : Nat := 0xA10B8 + 0x200 * i
/-- AMP.TRACK (R375). -/
abbrev AMP_TRACK (i : Nat) : Nat := 0xA10BC + 0x200 * i
/-- AMP.PROBE (R375). -/
abbrev AMP_PROBE (i : Nat) : Nat := 0xA10C0 + 0x200 * i
/-- SFE.ID (R409). -/
abbrev SFE_ID : Nat := 0xB0000
/-- SFE.CTRL (R409). -/
abbrev SFE_CTRL : Nat := 0xB0004
/-- SFE.STATUS (R409). -/
abbrev SFE_STATUS : Nat := 0xB0008
/-- SFE.EVENT (R409). -/
abbrev SFE_EVENT : Nat := 0xB000C
/-- SFE.EVENT_EN (R409). -/
abbrev SFE_EVENT_EN : Nat := 0xB0010
/-- SFE.FAULT (R409). -/
abbrev SFE_FAULT : Nat := 0xB0014
/-- SFE.SYNC (R409). -/
abbrev SFE_SYNC : Nat := 0xB0020
/-- SFE.BUDGET (R409). -/
abbrev SFE_BUDGET : Nat := 0xB0024
/-- SFE.DROPPED (R409). -/
abbrev SFE_DROPPED : Nat := 0xB0028
/-- SFE.PROF_CFG (R410). -/
abbrev SFE_PROF_CFG (j : Nat) : Nat := 0xB0040 + 32 * j
/-- SFE.PROF_FIR (R410). -/
abbrev SFE_PROF_FIR (j : Nat) : Nat := 0xB0044 + 32 * j
/-- SFE.PROF_GD (R410). -/
abbrev SFE_PROF_GD (j : Nat) : Nat := 0xB0048 + 32 * j
/-- SFE.PROF_APPLY (R410). -/
abbrev SFE_PROF_APPLY (j : Nat) : Nat := 0xB004C + 32 * j
/-- SFE.PROF7_CFG (R410). -/
abbrev SFE_PROF7_CFG : Nat := 0xB0120
/-- SFE.PROF7_FIR (R410). -/
abbrev SFE_PROF7_FIR : Nat := 0xB0124
/-- SFE.PROF7_GD (R410). -/
abbrev SFE_PROF7_GD : Nat := 0xB0128
/-- SFE.PROF7_APPLY (R410). -/
abbrev SFE_PROF7_APPLY : Nat := 0xB012C
/-- SFE.PROF_STATUS (R410). -/
abbrev SFE_PROF_STATUS (j : Nat) : Nat := 0xB0050 + 32 * j
/-- SFE.PROF_PERIOD (R410). -/
abbrev SFE_PROF_PERIOD (j : Nat) : Nat := 0xB0054 + 32 * j
/-- SFE.PROF_COST (R410). -/
abbrev SFE_PROF_COST (j : Nat) : Nat := 0xB0058 + 32 * j
/-- SFE.PROF_SEQ (R410). -/
abbrev SFE_PROF_SEQ (j : Nat) : Nat := 0xB005C + 32 * j
/-- SFE.LSP_CFG (R409). -/
abbrev SFE_LSP_CFG : Nat := 0xB0200
/-- SFE.LSP_CMD (R409). -/
abbrev SFE_LSP_CMD : Nat := 0xB0204
/-- SFE.LSP_STATUS (R409). -/
abbrev SFE_LSP_STATUS : Nat := 0xB0208
/-- SFE.LSP_CAPFAIL (R409). -/
abbrev SFE_LSP_CAPFAIL : Nat := 0xB020C
/-- SFE.EF_CFG (R409). -/
abbrev SFE_EF_CFG : Nat := 0xB0210
/-- SFE.DEV_CFG (R409). -/
abbrev SFE_DEV_CFG : Nat := 0xB0214
/-- SFE.LIM_CFG (R409). -/
abbrev SFE_LIM_CFG : Nat := 0xB0218
/-- SFE.SILENCE (R409). -/
abbrev SFE_SILENCE : Nat := 0xB021C
/-- SFE.LSPK_CFG (R411). -/
abbrev SFE_LSPK_CFG (j : Nat) : Nat := 0xB0400 + 96 * j
/-- SFE.LSPK_COND (R411). -/
abbrev SFE_LSPK_COND (j : Nat) : Nat := 0xB0404 + 96 * j
/-- SFE.LSPK_EST0 (R411). -/
abbrev SFE_LSPK_EST0 (j : Nat) : Nat := 0xB0408 + 96 * j
/-- SFE.LSPK_EST1 (R411). -/
abbrev SFE_LSPK_EST1 (j : Nat) : Nat := 0xB040C + 96 * j
/-- SFE.LSPK_EST2 (R411). -/
abbrev SFE_LSPK_EST2 (j : Nat) : Nat := 0xB0410 + 96 * j
/-- SFE.LSPK_EST3 (R411). -/
abbrev SFE_LSPK_EST3 (j : Nat) : Nat := 0xB0414 + 96 * j
/-- SFE.LSPK_EST4 (R411). -/
abbrev SFE_LSPK_EST4 (j : Nat) : Nat := 0xB0418 + 96 * j
/-- SFE.LSPK_EST5 (R411). -/
abbrev SFE_LSPK_EST5 (j : Nat) : Nat := 0xB041C + 96 * j
/-- SFE.LSPK_EST6 (R411). -/
abbrev SFE_LSPK_EST6 (j : Nat) : Nat := 0xB0420 + 96 * j
/-- SFE.LSPK_EST7 (R411). -/
abbrev SFE_LSPK_EST7 (j : Nat) : Nat := 0xB0424 + 96 * j
/-- SFE.LSPK_EST8 (R411). -/
abbrev SFE_LSPK_EST8 (j : Nat) : Nat := 0xB0428 + 96 * j
/-- SFE.LSPK_BASE0 (R411). -/
abbrev SFE_LSPK_BASE0 (j : Nat) : Nat := 0xB042C + 96 * j
/-- SFE.LSPK_BASE1 (R411). -/
abbrev SFE_LSPK_BASE1 (j : Nat) : Nat := 0xB0430 + 96 * j
/-- SFE.LSPK_BASE2 (R411). -/
abbrev SFE_LSPK_BASE2 (j : Nat) : Nat := 0xB0434 + 96 * j
/-- SFE.LSPK_BASE3 (R411). -/
abbrev SFE_LSPK_BASE3 (j : Nat) : Nat := 0xB0438 + 96 * j
/-- SFE.LSPK_BASE4 (R411). -/
abbrev SFE_LSPK_BASE4 (j : Nat) : Nat := 0xB043C + 96 * j
/-- SFE.LSPK_BASE5 (R411). -/
abbrev SFE_LSPK_BASE5 (j : Nat) : Nat := 0xB0440 + 96 * j
/-- SFE.LSPK_BASE6 (R411). -/
abbrev SFE_LSPK_BASE6 (j : Nat) : Nat := 0xB0444 + 96 * j
/-- SFE.LSPK_BASE7 (R411). -/
abbrev SFE_LSPK_BASE7 (j : Nat) : Nat := 0xB0448 + 96 * j
/-- SFE.LSPK_BASE8 (R411). -/
abbrev SFE_LSPK_BASE8 (j : Nat) : Nat := 0xB044C + 96 * j
/-- SNSC.ID (R414). -/
abbrev SNSC_ID (i : Nat) : Nat := 0xB1060 + 0x800 * i
/-- SNSC.CTRL (R414). -/
abbrev SNSC_CTRL (i : Nat) : Nat := 0xB1064 + 0x800 * i
/-- SNSC.STATUS (R414). -/
abbrev SNSC_STATUS (i : Nat) : Nat := 0xB1068 + 0x800 * i
/-- SNSC.EVENT (R414). -/
abbrev SNSC_EVENT (i : Nat) : Nat := 0xB106C + 0x800 * i
/-- SNSC.EVENT_EN (R414). -/
abbrev SNSC_EVENT_EN (i : Nat) : Nat := 0xB1070 + 0x800 * i
/-- SNSC.FAULT (R414). -/
abbrev SNSC_FAULT (i : Nat) : Nat := 0xB1074 + 0x800 * i
/-- SNS.ID (R412). -/
abbrev SNS_ID (i : Nat) : Nat := 0xB1000 + 0x80 * i
/-- SNS.CTRL (R412). -/
abbrev SNS_CTRL (i : Nat) : Nat := 0xB1004 + 0x80 * i
/-- SNS.STATUS (R412). -/
abbrev SNS_STATUS (i : Nat) : Nat := 0xB1008 + 0x80 * i
/-- SNS.EVENT (R412). -/
abbrev SNS_EVENT (i : Nat) : Nat := 0xB100C + 0x80 * i
/-- SNS.EVENT_EN (R412). -/
abbrev SNS_EVENT_EN (i : Nat) : Nat := 0xB1010 + 0x80 * i
/-- SNS.FAULT (R412). -/
abbrev SNS_FAULT (i : Nat) : Nat := 0xB1014 + 0x80 * i
/-- SNS.VALUE (R412). -/
abbrev SNS_VALUE (i : Nat) : Nat := 0xB1020 + 0x80 * i
/-- SNS.SYS_VALUE (R412). -/
abbrev SNS_SYS_VALUE (i : Nat) : Nat := 0xB1024 + 0x80 * i
/-- SNS.DERIVED (R412). -/
abbrev SNS_DERIVED (i : Nat) : Nat := 0xB1028 + 0x80 * i
/-- SNS.CM (R412). -/
abbrev SNS_CM (i : Nat) : Nat := 0xB102C + 0x80 * i
/-- SNS.AUX_CFG (R412). -/
abbrev SNS_AUX_CFG (i : Nat) : Nat := 0xB1030 + 0x80 * i
/-- SNS.TH0_CFG (R413). -/
abbrev SNS_TH0_CFG (i : Nat) : Nat := 0xB1034 + 0x80 * i
/-- SNS.TH0_LEVEL (R412). -/
abbrev SNS_TH0_LEVEL (i : Nat) : Nat := 0xB1038 + 0x80 * i
/-- SNS.TH1_CFG (R413). -/
abbrev SNS_TH1_CFG (i : Nat) : Nat := 0xB103C + 0x80 * i
/-- SNS.TH1_LEVEL (R412). -/
abbrev SNS_TH1_LEVEL (i : Nat) : Nat := 0xB1040 + 0x80 * i
/-- SNS.SAT_CNT (R412). -/
abbrev SNS_SAT_CNT (i : Nat) : Nat := 0xB1044 + 0x80 * i
/-- QM.ID (R436). -/
abbrev QM_ID : Nat := 0xC0000
/-- QM.CTRL (R436). -/
abbrev QM_CTRL : Nat := 0xC0004
/-- QM.STATUS (R436). -/
abbrev QM_STATUS : Nat := 0xC0008
/-- QM.EVENT (R436). -/
abbrev QM_EVENT : Nat := 0xC000C
/-- QM.EVENT_EN (R436). -/
abbrev QM_EVENT_EN : Nat := 0xC0010
/-- QM.FAULT (R436). -/
abbrev QM_FAULT : Nat := 0xC0014
/-- QM.POOL_FREE (R436). -/
abbrev QM_POOL_FREE : Nat := 0xC0020
/-- QM.RSV_TOTAL (R436). -/
abbrev QM_RSV_TOTAL : Nat := 0xC0024
/-- QM.CORR_CNT (R436). -/
abbrev QM_CORR_CNT (j : Nat) : Nat := 0xC0100 + 4 * j
/-- QM.DROP_CNT (R436). -/
abbrev QM_DROP_CNT (j : Nat) : Nat := 0xC0200 + 4 * j
/-- QC.ID (R437). -/
abbrev QC_ID (i : Nat) : Nat := 0xC0800 + 0x40 * i
/-- QC.CTRL (R437). -/
abbrev QC_CTRL (i : Nat) : Nat := 0xC0804 + 0x40 * i
/-- QC.STATUS (R437). -/
abbrev QC_STATUS (i : Nat) : Nat := 0xC0808 + 0x40 * i
/-- QC.EVENT (R437). -/
abbrev QC_EVENT (i : Nat) : Nat := 0xC080C + 0x40 * i
/-- QC.EVENT_EN (R437). -/
abbrev QC_EVENT_EN (i : Nat) : Nat := 0xC0810 + 0x40 * i
/-- QC.FAULT (R437). -/
abbrev QC_FAULT (i : Nat) : Nat := 0xC0814 + 0x40 * i
/-- Q.ID (R434). -/
abbrev Q_ID (i : Nat) : Nat := 0xC1000 + 0x40 * i
/-- Q.CTRL (R434). -/
abbrev Q_CTRL (i : Nat) : Nat := 0xC1004 + 0x40 * i
/-- Q.STATUS (R434). -/
abbrev Q_STATUS (i : Nat) : Nat := 0xC1008 + 0x40 * i
/-- Q.EVENT (R434). -/
abbrev Q_EVENT (i : Nat) : Nat := 0xC100C + 0x40 * i
/-- Q.EVENT_EN (R434). -/
abbrev Q_EVENT_EN (i : Nat) : Nat := 0xC1010 + 0x40 * i
/-- Q.FAULT (R434). -/
abbrev Q_FAULT (i : Nat) : Nat := 0xC1014 + 0x40 * i
/-- Q.CFG (R435). -/
abbrev Q_CFG (i : Nat) : Nat := 0xC1020 + 0x40 * i
/-- Q.POOL (R434). -/
abbrev Q_POOL (i : Nat) : Nat := 0xC1024 + 0x40 * i
/-- Q.LEVEL (R434). -/
abbrev Q_LEVEL (i : Nat) : Nat := 0xC1028 + 0x40 * i
/-- Q.PKTCNT (R434). -/
abbrev Q_PKTCNT (i : Nat) : Nat := 0xC102C + 0x40 * i
/-- Q.POP_LO (R423). -/
abbrev Q_POP_LO (i : Nat) : Nat := 0xC1030 + 0x40 * i
/-- Q.POP_HI (R423). -/
abbrev Q_POP_HI (i : Nat) : Nat := 0xC1034 + 0x40 * i
/-- Q.PUSH_LO (R422). -/
abbrev Q_PUSH_LO (i : Nat) : Nat := 0xC1038 + 0x40 * i
/-- Q.PUSH_HI (R422). -/
abbrev Q_PUSH_HI (i : Nat) : Nat := 0xC103C + 0x40 * i
/-- HLT.ID (R505). -/
abbrev HLT_ID : Nat := 0xD0000
/-- HLT.CTRL (R505). -/
abbrev HLT_CTRL : Nat := 0xD0004
/-- HLT.STATUS (R505). -/
abbrev HLT_STATUS : Nat := 0xD0008
/-- HLT.EVENT (R505). -/
abbrev HLT_EVENT : Nat := 0xD000C
/-- HLT.EVENT_EN (R505). -/
abbrev HLT_EVENT_EN : Nat := 0xD0010
/-- HLT.FAULT (R505). -/
abbrev HLT_FAULT : Nat := 0xD0014
/-- HLT.TMR_CORR (R505). -/
abbrev HLT_TMR_CORR : Nat := 0xD0020
/-- HLT.UPTIME (R505). -/
abbrev HLT_UPTIME (j : Nat) : Nat := 0xD0024 + 4 * j
/-- HLT.TJ_WARN (R505). -/
abbrev HLT_TJ_WARN : Nat := 0xD002C
/-- HLT.MARGIN_WARN (R505). -/
abbrev HLT_MARGIN_WARN : Nat := 0xD0030
/-- HLT.WEAR_LIMIT (R505). -/
abbrev HLT_WEAR_LIMIT : Nat := 0xD0034
/-- HLT.POWER_HOURS (R505). -/
abbrev HLT_POWER_HOURS : Nat := 0xD0038
/-- HLT.EQUIV_HOURS (R505). -/
abbrev HLT_EQUIV_HOURS : Nat := 0xD003C
/-- HLT.RECORD (R505). -/
abbrev HLT_RECORD (j : Nat) : Nat := 0xD0100 + 4 * j
/-- HLT.PARTNER_RECORD (R505). -/
abbrev HLT_PARTNER_RECORD (j : Nat) : Nat := 0xD0200 + 4 * j
/-- GST.ID (R506). -/
abbrev GST_ID : Nat := 0xD1000
/-- GST.CTRL (R506). -/
abbrev GST_CTRL : Nat := 0xD1004
/-- GST.STATUS (R506). -/
abbrev GST_STATUS : Nat := 0xD1008
/-- GST.EVENT (R506). -/
abbrev GST_EVENT : Nat := 0xD100C
/-- GST.EVENT_EN (R506). -/
abbrev GST_EVENT_EN : Nat := 0xD1010
/-- GST.FAULT (R506). -/
abbrev GST_FAULT : Nat := 0xD1014
/-- GST.CLASS (R506). -/
abbrev GST_CLASS (j : Nat) : Nat := 0xD1020 + 4 * j
/-- GST.FAIL_CNT (R506). -/
abbrev GST_FAIL_CNT : Nat := 0xD1048
/-- GST.LAST_PASS (R506). -/
abbrev GST_LAST_PASS (j : Nat) : Nat := 0xD1050 + 4 * j
/-- GST.SENSE_TOL (R506). -/
abbrev GST_SENSE_TOL : Nat := 0xD1058
/-- GST.TMR_TEST (R506). -/
abbrev GST_TMR_TEST : Nat := 0xD105C
/-- GST.SENSE_MISMATCH (R506). -/
abbrev GST_SENSE_MISMATCH (j : Nat) : Nat := 0xD1060 + 4 * j
/-- GST.GATE_MISMATCH (R506). -/
abbrev GST_GATE_MISMATCH : Nat := 0xD106C
/-- GST.AMP_DIFF (R506). -/
abbrev GST_AMP_DIFF : Nat := 0xD1070
/-- GST.ENG_TESTED (R506). -/
abbrev GST_ENG_TESTED : Nat := 0xD1074
/-- GST.NTC_DIFF (R506). -/
abbrev GST_NTC_DIFF : Nat := 0xD1078
/-- ENG.ID (R257). -/
abbrev ENG_ID (i : Nat) : Nat := 0xE0000 + 0x1000 * i
/-- ENG.CTRL (R257). -/
abbrev ENG_CTRL (i : Nat) : Nat := 0xE0004 + 0x1000 * i
/-- ENG.STATUS (R257). -/
abbrev ENG_STATUS (i : Nat) : Nat := 0xE0008 + 0x1000 * i
/-- ENG.EVENT (R257). -/
abbrev ENG_EVENT (i : Nat) : Nat := 0xE000C + 0x1000 * i
/-- ENG.EVENT_EN (R257). -/
abbrev ENG_EVENT_EN (i : Nat) : Nat := 0xE0010 + 0x1000 * i
/-- ENG.FAULT (R257). -/
abbrev ENG_FAULT (i : Nat) : Nat := 0xE0014 + 0x1000 * i
/-- ENG.LOAD (R257). -/
abbrev ENG_LOAD (i : Nat) : Nat := 0xE0020 + 0x1000 * i
/-- ENG.SPEED (R257). -/
abbrev ENG_SPEED (i : Nat) : Nat := 0xE0024 + 0x1000 * i
/-- ENG.SLACK_MIN (R257). -/
abbrev ENG_SLACK_MIN (i : Nat) : Nat := 0xE0028 + 0x1000 * i
/-- ENG.RESIDUE_CNT (R257). -/
abbrev ENG_RESIDUE_CNT (i : Nat) : Nat := 0xE002C + 0x1000 * i
/-- ENG.OVERRUN_CNT (R257). -/
abbrev ENG_OVERRUN_CNT (i : Nat) : Nat := 0xE0030 + 0x1000 * i
/-- ENG.FW_VER (R257). -/
abbrev ENG_FW_VER (i : Nat) : Nat := 0xE0034 + 0x1000 * i
/-- ENGC.ID (R260). -/
abbrev ENGC_ID (i : Nat) : Nat := 0xE0800 + 0x4000 * i
/-- ENGC.CTRL (R260). -/
abbrev ENGC_CTRL (i : Nat) : Nat := 0xE0804 + 0x4000 * i
/-- ENGC.STATUS (R260). -/
abbrev ENGC_STATUS (i : Nat) : Nat := 0xE0808 + 0x4000 * i
/-- ENGC.EVENT (R260). -/
abbrev ENGC_EVENT (i : Nat) : Nat := 0xE080C + 0x4000 * i
/-- ENGC.EVENT_EN (R260). -/
abbrev ENGC_EVENT_EN (i : Nat) : Nat := 0xE0810 + 0x4000 * i
/-- ENGC.FAULT (R260). -/
abbrev ENGC_FAULT (i : Nat) : Nat := 0xE0814 + 0x4000 * i
/-- FRXC.ID (R170). -/
abbrev FRXC_ID (i : Nat) : Nat := 0x50A0000 + 0x100 * i
/-- FRXC.CTRL (R170). -/
abbrev FRXC_CTRL (i : Nat) : Nat := 0x50A0004 + 0x100 * i
/-- FRXC.STATUS (R170). -/
abbrev FRXC_STATUS (i : Nat) : Nat := 0x50A0008 + 0x100 * i
/-- FRXC.EVENT (R170). -/
abbrev FRXC_EVENT (i : Nat) : Nat := 0x50A000C + 0x100 * i
/-- FRXC.EVENT_EN (R170). -/
abbrev FRXC_EVENT_EN (i : Nat) : Nat := 0x50A0010 + 0x100 * i
/-- FRXC.FAULT (R170). -/
abbrev FRXC_FAULT (i : Nat) : Nat := 0x50A0014 + 0x100 * i
/-- FTXC.ID (R170). -/
abbrev FTXC_ID (i : Nat) : Nat := 0x50A0800 + 0x100 * i
/-- FTXC.CTRL (R170). -/
abbrev FTXC_CTRL (i : Nat) : Nat := 0x50A0804 + 0x100 * i
/-- FTXC.STATUS (R170). -/
abbrev FTXC_STATUS (i : Nat) : Nat := 0x50A0808 + 0x100 * i
/-- FTXC.EVENT (R170). -/
abbrev FTXC_EVENT (i : Nat) : Nat := 0x50A080C + 0x100 * i
/-- FTXC.EVENT_EN (R170). -/
abbrev FTXC_EVENT_EN (i : Nat) : Nat := 0x50A0810 + 0x100 * i
/-- FTXC.FAULT (R170). -/
abbrev FTXC_FAULT (i : Nat) : Nat := 0x50A0814 + 0x100 * i
/-- Word j of the table range SNS_COEF (R387). -/
abbrev SNS_COEF (j : Nat) : Nat := 0x1000000 + 4 * j
/-- Word j of the table range MCAST_HASH (R92). -/
abbrev MCAST_HASH (j : Nat) : Nat := 0x2000000 + 4 * j
/-- Word j of the table range NODE_STG (R208). -/
abbrev NODE_STG (j : Nat) : Nat := 0x3000000 + 4 * j
/-- Word j of the table range NODE_ACT (R208). -/
abbrev NODE_ACT (j : Nat) : Nat := 0x3020000 + 4 * j
/-- Word j of the table range ZONE_STG (R208). -/
abbrev ZONE_STG (j : Nat) : Nat := 0x3040000 + 4 * j
/-- Word j of the table range ZONE_ACT (R208). -/
abbrev ZONE_ACT (j : Nat) : Nat := 0x3041000 + 4 * j
/-- Word j of the table range TONE_STG (R208). -/
abbrev TONE_STG (j : Nat) : Nat := 0x3042000 + 4 * j
/-- Word j of the table range TONE_ACT (R208). -/
abbrev TONE_ACT (j : Nat) : Nat := 0x3043000 + 4 * j
/-- Word j of the table range POOL_STG (R208). -/
abbrev POOL_STG (j : Nat) : Nat := 0x3080000 + 4 * j
/-- Word j of the table range POOL_ACT (R208). -/
abbrev POOL_ACT (j : Nat) : Nat := 0x3100000 + 4 * j
/-- Word j of the table range EDGE_STG (R208). -/
abbrev EDGE_STG (j : Nat) : Nat := 0x4000000 + 4 * j
/-- Word j of the table range EDGE_ACT (R208). -/
abbrev EDGE_ACT (j : Nat) : Nat := 0x4020000 + 4 * j
/-- Word j of the table range RX_MAP (R169). -/
abbrev RX_MAP (j : Nat) : Nat := 0x5000000 + 4 * j
/-- Word j of the table range TX_MAP (R169). -/
abbrev TX_MAP (j : Nat) : Nat := 0x5040000 + 4 * j
/-- Word j of the table range TX_TMPL (R169). -/
abbrev TX_TMPL (j : Nat) : Nat := 0x5080000 + 4 * j
/-- Word j of the table range RX_STAT (R169). -/
abbrev RX_STAT (j : Nat) : Nat := 0x5090000 + 4 * j
/-- Word j of the table range TX_STAT (R169). -/
abbrev TX_STAT (j : Nat) : Nat := 0x5094000 + 4 * j
/-- Word j of the table range ALM_ACT (R276). -/
abbrev ALM_ACT (j : Nat) : Nat := 0x6000000 + 4 * j

end Sys2Proof.Machine.Adr
end

