-- ==== Sys2Proof/Machine/RegTable.lean ====
section
/-! DEFINITION. The register map of one half: every page and register of the index (R613 to R620) with its attribute (R8),
implemented bits (R59), reset value (R614), region (R621) and the boundary its writes wait for (R20, R622). -/

namespace Sys2Proof.Machine

/-- Attribute of a register (R8). -/
inductive Attr
  | rw | ro | rc | wo | pw
  deriving DecidableEq, Repr

/-- When a write takes effect: at once, at the next block boundary (R20, R622), or with the next plan commit (R20). -/
inductive Cls
  | imm | held | staged
  deriving DecidableEq, Repr

/-- How a word takes part in a 64-bit value (R63, R64). -/
inductive Wide
  | single | lo | hi
  deriving DecidableEq, Repr

/-- The registers whose write or read does more than store or return the word. -/
inductive Hook
  | none
  | ampCtrl
  | ampcCtrl
  | bootCtrl
  | bulkCtrl
  | cmdGo
  | eeeTw
  | engCtrl
  | engcCtrl
  | evacCfg
  | flashCmd
  | flashData
  | force
  | frxcCtrl
  | ftxcCtrl
  | grfCommit
  | gstCtrl
  | issuerCfg
  | keyData
  | keyLoad
  | killCtrl
  | levelCmd
  | libCommit
  | lspCmd
  | macCtrl
  | maccCtrl
  | mdioCmd
  | mpllOpen
  | partition
  | popLo
  | profApply
  | ptpCfg
  | pushHi
  | pushLo
  | qCfg
  | qCtrl
  | qPool
  | qcCtrl
  | rearm
  | recCtrl
  | refCfg
  | resetCtrl
  | ringCfg
  | roleCtrl
  | rxrCtrl
  | rxrTail
  | sfeSync
  | snsCtrl
  | snscCtrl
  | swFreq
  | swrefPhase
  | tdmcCtrl
  | tmrTest
  | txrCtrl
  | txrTail
  | xferCtrl
  | xferData
  deriving DecidableEq, Repr

/-- One register (or a run of n of them, stride bytes apart) of a page. -/
structure RegDef where
  off : Nat
  n : Nat
  stride : Nat
  attr : Attr
  t : Bool
  m : Bool
  mask : Nat
  cls : Cls
  wide : Wide
  hook : Hook
  reset : HalfId → Nat → Nat → Nat

/-- One page: base, instances, stride between them, region (R621), registers. -/
structure PageDef where
  base : Nat
  count : Nat
  stride : Nat
  region : Region
  regs : List RegDef

/-- One table-memory range (R54, R620). -/
structure TableDef where
  base : Nat
  words : Nat
  attr : Attr
  m : Bool
  mask : Nat
  cls : Cls
  region : Region

/-- `TIM.REF[i].CFG` at reset: the ranks of R204; reference 4 enabled. -/
def refCfgReset (i : Nat) : Nat :=
  0x500 + 0x10000 * getAt [0, 1, 4, 5, 0, 8, 15, 15] i 0 + (if i = 4 then 1 else 0)

/-- `SNS[s].AUX_CFG` at reset (R412). -/
def auxCfgReset (s : Nat) : Nat :=
  if 64 ≤ s ∧ s ≤ 71 then 0x125C else if 72 ≤ s ∧ s ≤ 75 then 0x2710 else 0

/-- Implemented bits of `SNS[s].AUX_CFG` (R412). -/
def auxCfgMask (s : Nat) : Nat := if 64 ≤ s ∧ s ≤ 75 then 0xFFFFFF else 0

/-- `Q[q].CFG` at reset (R432, R619). -/
def qCfgReset (q : Nat) : Nat :=
  getAt [0x88000014, 0x90000014, 0xB0000014, 0x38000014, 0x38010014, 0x38020014, 0x38030014, 0xB0000014,
    0xB0000014, 0xB0000014, 0xB0000014, 0xB0000014, 0x90000014, 0x98000014, 0x98000014, 0x98000014] q 0x80000014

/-- `Q[q].POOL` at reset (R619). -/
def qPoolReset (q : Nat) : Nat :=
  getAt [0xFFFF0100, 0xFFFF0100, 0xFFFF0400, 0, 0, 0, 0, 0xFFFF2000,
    0xFFFF0200, 0xFFFF0400, 0xFFFF0400, 0xFFFF0100, 0xFFFF0100, 0xFFFF0200, 0xFFFF0200, 0xFFFF0200] q 0x01000000

/-- The registers of page DIE (R79). -/
def pageDIERegs : List RegDef := [
  ⟨0x0, 1, 4, .ro, false, false, 0xFFFFFFFF, .imm, .single, .none, fun _ _ _ => 0x010000A0⟩,
  ⟨0x4, 1, 4, .rw, false, false, 0, .imm, .single, .none, fun _ _ _ => 0⟩,
  ⟨0x8, 1, 4, .ro, false, false, 0x7, .imm, .single, .none, fun h _ _ => 4 * h.bit⟩,
  ⟨0xC, 1, 4, .rc, false, false, 0x3, .imm, .single, .none, fun _ _ _ => 0⟩,
  ⟨0x10, 1, 4, .rw, false, false, 0x3, .imm, .single, .none, fun _ _ _ => 0x3⟩,
  ⟨0x14, 1, 4, .rc, false, false, 0xC000FFFF, .imm, .single, .none, fun _ _ _ => 0⟩,
  ⟨0x20, 1, 4, .ro, false, false, 0xFFFFFFFF, .imm, .lo, .none, fun h _ _ => (Config.uid h).toNat % 0x100000000⟩,
  ⟨0x24, 1, 4, .ro, false, false, 0xFFFFFFFF, .imm, .hi, .none, fun h _ _ => (Config.uid h).toNat / 0x100000000⟩,
  ⟨0x28, 1, 4, .ro, false, false, 0x3, .imm, .single, .none, fun h _ _ => h.bit⟩,
  ⟨0x2C, 1, 4, .ro, false, false, 0x007F0F07, .imm, .single, .none, fun _ _ _ => 0⟩,
  ⟨0x30, 1, 4, .ro, false, false, 0xFFFFFFFF, .imm, .single, .none, fun _ _ _ => 0⟩,
  ⟨0x34, 1, 4, .rc, false, false, 0x80FFFF0F, .imm, .single, .none, fun _ _ _ => 0⟩,
  ⟨0x38, 1, 4, .ro, false, false, 0xFFFFFFFF, .imm, .single, .none, fun _ _ _ => 0⟩,
  ⟨0x3C, 1, 4, .rc, false, false, 0x80FFFF00, .imm, .single, .none, fun _ _ _ => 0⟩,
  ⟨0x40, 1, 8, .pw, true, false, 0x800000FF, .imm, .single, .resetCtrl, fun _ _ _ => 0⟩,
  ⟨0x48, 1, 4, .ro, false, false, 0x00FF000F, .imm, .single, .none, fun _ _ _ => 0⟩,
  ⟨0x4C, 1, 4, .ro, false, false, 0xFFFFFCF3, .imm, .single, .none, fun _ _ _ => 0x07700000⟩,
  ⟨0x50, 1, 8, .pw, true, false, 0xF0000001, .imm, .single, .bootCtrl, fun _ _ _ => 0⟩,
  ⟨0x58, 1, 4, .rw, false, false, 0xFFFFFFFF, .imm, .single, .none, fun _ _ _ => 0⟩,
  ⟨0x5C, 1, 4, .rw, false, false, 0xFFFFFFFF, .imm, .single, .flashData, fun _ _ _ => 0⟩,
  ⟨0x60, 1, 4, .wo, false, false, 0x3, .imm, .single, .flashCmd, fun _ _ _ => 0⟩,
  ⟨0x64, 1, 4, .ro, false, false, 0xCF000000, .imm, .single, .none, fun _ _ _ => 0⟩,
  ⟨0x68, 2, 4, .ro, false, false, 0xFFFFFFFF, .imm, .single, .none, fun _ _ _ => 0⟩,
  ⟨0x70, 1, 4, .ro, false, false, 0xFFF, .imm, .single, .none, fun _ _ _ => 0xFFF⟩]

/-- The registers of page EVT (R521). -/
def pageEVTRegs : List RegDef := [
  ⟨0x0, 1, 4, .ro, false, false, 0xFFFFFFFF, .imm, .single, .none, fun _ _ _ => 0x020000A0⟩,
  ⟨0x4, 1, 4, .rw, false, false, 0x3, .imm, .single, .none, fun _ _ _ => 0x3⟩,
  ⟨0x8, 1, 4, .ro, false, false, 0x7, .imm, .single, .none, fun _ _ _ => 0⟩,
  ⟨0xC, 1, 4, .rc, false, false, 0, .imm, .single, .none, fun _ _ _ => 0⟩,
  ⟨0x10, 1, 4, .rw, false, false, 0, .imm, .single, .none, fun _ _ _ => 0⟩,
  ⟨0x14, 1, 4, .rc, false, false, 0xC000FFFF, .imm, .single, .none, fun _ _ _ => 0⟩,
  ⟨0x20, 2, 4, .ro, false, false, 0xFFFFFFFF, .imm, .lo, .none, fun _ _ _ => 0⟩,
  ⟨0x28, 2, 4, .rw, false, false, 0xFFFFFFFF, .imm, .lo, .none, fun _ _ _ => 0xFFFFFFFF⟩,
  ⟨0x30, 2, 4, .ro, false, false, 0xFFFFFFFF, .imm, .lo, .none, fun _ _ _ => 0⟩,
  ⟨0x38, 2, 4, .rw, false, false, 0xFFFFFFFF, .imm, .lo, .none, fun _ _ _ => 0xFFFFFFFF⟩,
  ⟨0x40, 2, 4, .wo, false, false, 0xFFFFFFFF, .imm, .lo, .rearm, fun _ _ _ => 0⟩,
  ⟨0x48, 2, 4, .wo, false, false, 0xFFFFFFFF, .imm, .lo, .force, fun _ _ _ => 0⟩,
  ⟨0x50, 1, 4, .rc, false, false, 0x7, .imm, .single, .none, fun _ _ _ => 0⟩,
  ⟨0x54, 1, 4, .rw, false, false, 0x7, .imm, .single, .none, fun _ _ _ => 0x3⟩,
  ⟨0x58, 1, 4, .rw, false, false, 0x1, .imm, .single, .none, fun _ _ _ => 0⟩]

/-- The registers of page HOST (R82). -/
def pageHOSTRegs : List RegDef := [
  ⟨0x0, 1, 4, .ro, false, false, 0xFFFFFFFF, .imm, .single, .none, fun _ _ _ => 0x030000A0⟩,
  ⟨0x4, 1, 4, .rw, false, false, 0, .imm, .single, .none, fun _ _ _ => 0⟩,
  ⟨0x8, 1, 4, .ro, false, false, 0x3, .imm, .single, .none, fun _ _ _ => 0⟩,
  ⟨0xC, 1, 4, .rc, false, false, 0x1F, .imm, .single, .none, fun _ _ _ => 0⟩,
  ⟨0x10, 1, 4, .rw, false, false, 0x1F, .imm, .single, .none, fun _ _ _ => 0xF⟩,
  ⟨0x14, 1, 4, .rc, false, false, 0xC000FFFF, .imm, .single, .none, fun _ _ _ => 0⟩,
  ⟨0x20, 1, 4, .ro, false, false, 0x103FF, .imm, .single, .none, fun _ _ _ => 0⟩,
  ⟨0x24, 1, 4, .rw, false, false, 0xFFFF, .imm, .single, .none, fun _ _ _ => 0x1000⟩,
  ⟨0x28, 1, 4, .rc, false, false, 0xFFFFFFFF, .imm, .single, .none, fun _ _ _ => 0⟩,
  ⟨0x400, 256, 4, .rw, false, false, 0xFFFFFFFF, .imm, .single, .none, fun _ _ j => if j % 4 = 3 then 1 else 0⟩,
  ⟨0x800, 2, 4, .ro, false, false, 0xFFFFFFFF, .imm, .lo, .none, fun _ _ _ => 0⟩]

/-- The registers of page RDN (R479). -/
def pageRDNRegs : List RegDef := [
  ⟨0x0, 1, 4, .ro, false, false, 0xFFFFFFFF, .imm, .single, .none, fun _ _ _ => 0x040000A0⟩,
  ⟨0x4, 1, 4, .rw, false, false, 0, .imm, .single, .none, fun _ _ _ => 0⟩,
  ⟨0x8, 1, 4, .ro, false, false, 0x1FF8, .imm, .single, .none, fun _ _ _ => 0⟩,
  ⟨0xC, 1, 4, .rc, false, false, 0x1F, .imm, .single, .none, fun _ _ _ => 0⟩,
  ⟨0x10, 1, 4, .rw, false, false, 0x1F, .imm, .single, .none, fun _ _ _ => 0x1F⟩,
  ⟨0x14, 1, 4, .rc, false, false, 0xC000FFFF, .imm, .single, .none, fun _ _ _ => 0⟩,
  ⟨0x20, 1, 4, .ro, false, false, 0x007F0F07, .imm, .single, .none, fun _ _ _ => 0⟩,
  ⟨0x24, 1, 4, .rw, true, true, 0x3FF, .imm, .single, .none, fun _ _ _ => 0x28⟩,
  ⟨0x28, 1, 8, .pw, true, false, 0x7, .imm, .single, .roleCtrl, fun _ _ _ => 0⟩,
  ⟨0x30, 1, 8, .pw, true, false, 0x3, .imm, .single, .killCtrl, fun _ _ _ => 0x1⟩,
  ⟨0x38, 1, 4, .ro, false, false, 0xFF000000, .imm, .single, .none, fun _ _ _ => 0⟩,
  ⟨0x3C, 1, 4, .ro, false, false, 0xFFFFFFFF, .imm, .single, .none, fun _ _ _ => 0⟩,
  ⟨0x40, 1, 4, .ro, false, false, 0xC0FF00FF, .imm, .single, .none, fun _ _ _ => 0⟩,
  ⟨0x44, 1, 4, .rc, false, false, 0xFFFF, .imm, .single, .none, fun _ _ _ => 0⟩,
  ⟨0x48, 1, 4, .rw, false, true, 0x3FFF, .imm, .single, .none, fun _ _ _ => 0x50⟩,
  ⟨0x4C, 1, 4, .ro, false, false, 0xC000FFFF, .imm, .single, .none, fun _ _ _ => 0⟩,
  ⟨0x50, 1, 4, .rc, false, false, 0xFFFF, .imm, .single, .none, fun _ _ _ => 0⟩,
  ⟨0x54, 1, 4, .rc, false, false, 0xFFFFFFFF, .imm, .single, .none, fun _ _ _ => 0⟩,
  ⟨0x58, 1, 4, .ro, false, false, 0x8000000F, .imm, .single, .none, fun _ _ _ => 0⟩,
  ⟨0x5C, 1, 4, .rc, false, false, 0xFFFF, .imm, .single, .none, fun _ _ _ => 0⟩,
  ⟨0x60, 1, 4, .ro, false, false, 0xF000FFFF, .imm, .single, .none, fun _ _ _ => 0⟩,
  ⟨0x64, 1, 4, .ro, false, false, 0x00FFFC00, .imm, .single, .none, fun _ _ _ => 0⟩,
  ⟨0x68, 1, 4, .ro, false, false, 0x00FF00FF, .imm, .single, .none, fun _ _ _ => 0⟩]

/-- The registers of page TIM (R200). -/
def pageTIMRegs : List RegDef := [
  ⟨0x0, 1, 4, .ro, false, false, 0xFFFFFFFF, .imm, .single, .none, fun _ _ _ => 0x050000A0⟩,
  ⟨0x4, 1, 4, .rw, false, false, 0, .imm, .single, .none, fun _ _ _ => 0⟩,
  ⟨0x8, 1, 4, .ro, false, false, 0xF, .imm, .single, .none, fun _ _ _ => 0⟩,
  ⟨0xC, 1, 4, .rc, false, false, 0x3FF, .imm, .single, .none, fun _ _ _ => 0⟩,
  ⟨0x10, 1, 4, .rw, false, false, 0x3FF, .imm, .single, .none, fun _ _ _ => 0x3FF⟩,
  ⟨0x14, 1, 4, .rc, false, false, 0xC000FFFF, .imm, .single, .none, fun _ _ _ => 0⟩,
  ⟨0x20, 1, 4, .ro, false, false, 0x377, .imm, .single, .none, fun _ _ _ => 0x60⟩,
  ⟨0x24, 1, 4, .ro, false, false, 0xF, .imm, .single, .none, fun _ _ _ => 0⟩,
  ⟨0x28, 1, 4, .rw, false, true, 0x77, .imm, .single, .none, fun _ _ _ => 0x32⟩,
  ⟨0x2C, 1, 4, .rw, false, true, 0x3FFF, .imm, .single, .none, fun _ _ _ => 0x3E8⟩,
  ⟨0x30, 1, 4, .rw, false, true, 0xFFFF, .imm, .single, .none, fun _ _ _ => 0x4⟩,
  ⟨0x34, 1, 4, .rw, false, true, 0x3FFF, .imm, .single, .none, fun _ _ _ => 0x64⟩,
  ⟨0x38, 1, 4, .rw, false, true, 0x3FFF, .imm, .single, .none, fun _ _ _ => 0x12C⟩,
  ⟨0x3C, 1, 4, .ro, false, false, 0xFFFFFFFF, .imm, .single, .none, fun _ _ _ => 0⟩,
  ⟨0x40, 1, 4, .ro, false, true, 0xFFFFFFFF, .imm, .single, .none, fun _ _ _ => 0⟩,
  ⟨0x44, 1, 4, .ro, false, true, 0xFFFFFFFF, .imm, .single, .none, fun _ _ _ => 0⟩,
  ⟨0x48, 1, 4, .ro, false, false, 0xFFFFFFFF, .imm, .single, .none, fun _ _ _ => 0⟩,
  ⟨0x4C, 1, 4, .rw, false, true, 0x7, .imm, .single, .none, fun _ _ _ => 0x6⟩,
  ⟨0x50, 1, 8, .pw, true, false, 0x1, .imm, .single, .mpllOpen, fun _ _ _ => 0⟩,
  ⟨0x58, 1, 8, .pw, true, false, 0xFFFFFFFF, .imm, .single, .swFreq, fun _ _ _ => 0⟩,
  ⟨0x60, 1, 4, .wo, false, false, 0xFFFFFFFF, .imm, .single, .swrefPhase, fun _ _ _ => 0⟩,
  ⟨0x64, 1, 4, .rw, false, true, 0xFFFF, .imm, .single, .none, fun _ _ _ => 0x3E8⟩,
  ⟨0x68, 1, 4, .ro, false, false, 0xC000FFFF, .imm, .single, .none, fun _ _ _ => 0⟩,
  ⟨0x6C, 1, 4, .rw, false, true, 0x13, .imm, .single, .none, fun _ _ _ => 0⟩,
  ⟨0x70, 3, 4, .ro, false, false, 0xFFFFFFFF, .imm, .single, .none, fun _ _ _ => 0⟩,
  ⟨0x7C, 1, 4, .rw, false, true, 0x7, .imm, .single, .none, fun _ _ _ => 0⟩,
  ⟨0x80, 2, 4, .rw, false, true, 0xFFFEFFFF, .imm, .single, .ptpCfg, fun _ _ _ => 0x0028D1D3⟩,
  ⟨0x88, 2, 4, .ro, false, false, 0x00FF000F, .imm, .single, .none, fun _ _ _ => 0x3⟩,
  ⟨0x100, 8, 32, .rw, false, true, 0x000FFF01, .imm, .single, .refCfg, fun _ _ j => refCfgReset j⟩,
  ⟨0x104, 8, 32, .rw, false, true, 0x1FFFF, .imm, .single, .none, fun _ _ _ => 0x7D0⟩,
  ⟨0x108, 8, 32, .rw, false, true, 0x3FFF, .imm, .single, .none, fun _ _ _ => 0x14⟩,
  ⟨0x10C, 8, 32, .rw, false, true, 0xFFF, .imm, .single, .none, fun _ _ _ => 0x3C⟩,
  ⟨0x110, 8, 32, .ro, false, false, 0xFF, .imm, .single, .none, fun _ _ _ => 0⟩,
  ⟨0x114, 8, 32, .ro, false, false, 0xFFFFFFFF, .imm, .single, .none, fun _ _ _ => 0⟩,
  ⟨0x118, 8, 32, .ro, false, false, 0xFFFFFFFF, .imm, .single, .none, fun _ _ _ => 0⟩,
  ⟨0x11C, 8, 32, .ro, false, false, 0xFFFFFFFF, .imm, .single, .none, fun _ _ _ => 0⟩]

/-- The registers of page MAC (R120). -/
def pageMACRegs0 : List RegDef := [
  ⟨0x0, 1, 4, .ro, false, false, 0xFFFFFFFF, .imm, .single, .none, fun _ i _ => 0x060000A0 + i * 0x1000⟩,
  ⟨0x4, 1, 4, .rw, false, false, 0x7FFF, .imm, .single, .macCtrl, fun _ _ _ => 0x2810⟩,
  ⟨0x8, 1, 4, .ro, false, false, 0x1FFF, .imm, .single, .none, fun _ _ _ => 0⟩,
  ⟨0xC, 1, 4, .rc, false, false, 0x7F, .imm, .single, .none, fun _ _ _ => 0⟩,
  ⟨0x10, 1, 4, .rw, false, false, 0x7F, .imm, .single, .none, fun _ _ _ => 0x7F⟩,
  ⟨0x14, 1, 4, .rc, false, false, 0xC000FFFF, .imm, .single, .none, fun _ _ _ => 0⟩,
  ⟨0x20, 1, 4, .rw, false, false, 0xFFFFFFFF, .imm, .lo, .none, fun h i _ => (Config.macAddr h i).toNat % 0x100000000⟩,
  ⟨0x24, 1, 4, .rw, false, false, 0xFFFF, .imm, .hi, .none, fun h i _ => (Config.macAddr h i).toNat / 0x100000000⟩,
  ⟨0x28, 1, 4, .rw, false, true, 0xFFFFFFFF, .imm, .lo, .none, fun _ _ _ => 0⟩,
  ⟨0x2C, 1, 4, .rw, false, true, 0xFFFF, .imm, .hi, .none, fun _ _ _ => 0⟩,
  ⟨0x30, 1, 4, .rw, false, false, 0x7FF, .imm, .single, .none, fun _ _ _ => 0x5F2⟩,
  ⟨0x34, 1, 4, .rw, false, false, 0xF, .imm, .single, .none, fun _ _ _ => 0x2⟩,
  ⟨0x38, 1, 4, .rw, false, false, 0x3FFF, .imm, .single, .none, fun _ _ _ => 0xFA⟩,
  ⟨0x3C, 1, 4, .rw, false, false, 0xFFFF, .imm, .single, .none, fun _ _ _ => 0x64⟩,
  ⟨0x40, 1, 4, .rw, false, false, 0xFFFF, .imm, .single, .none, fun _ _ _ => 0x32⟩,
  ⟨0x44, 1, 4, .rw, false, false, 0xFFFF, .imm, .single, .eeeTw, fun _ _ _ => 0⟩,
  ⟨0x48, 1, 4, .rw, false, false, 0xFF, .imm, .single, .none, fun _ _ _ => 0xA⟩,
  ⟨0x4C, 1, 4, .rw, false, false, 0x7, .imm, .single, .none, fun _ _ _ => 0x3⟩,
  ⟨0x50, 1, 4, .rw, false, false, 0xFFFF, .imm, .single, .none, fun _ _ _ => 0⟩,
  ⟨0x54, 1, 4, .rw, false, false, 0xFFFF, .imm, .single, .none, fun _ _ _ => 0⟩,
  ⟨0x58, 1, 4, .rw, false, false, 0x3, .imm, .single, .none, fun _ _ _ => 0x2⟩,
  ⟨0x5C, 1, 4, .ro, false, false, 0xFFFF, .imm, .single, .none, fun _ _ _ => 0⟩,
  ⟨0x60, 16, 4, .rw, false, false, 0x8FFF, .imm, .single, .none, fun _ _ _ => 0⟩,
  ⟨0xA0, 1, 4, .rw, false, false, 0xF3FFFFFF, .imm, .single, .mdioCmd, fun _ _ _ => 0⟩,
  ⟨0xA4, 1, 4, .ro, false, false, 0xFFFF, .imm, .single, .none, fun _ _ _ => 0⟩,
  ⟨0xA8, 1, 4, .rw, false, false, 0xFF, .imm, .single, .none, fun _ _ _ => 0x9⟩,
  ⟨0x100, 32, 8, .rw, false, false, 0xFFFFFFFF, .imm, .lo, .none, fun _ _ _ => 0⟩,
  ⟨0x104, 32, 8, .rw, false, false, 0xF000FFFF, .imm, .hi, .none, fun _ _ _ => 0⟩,
  ⟨0x200, 56, 4, .rc, false, false, 0xFFFFFFFF, .imm, .lo, .none, fun _ _ _ => 0⟩,
  ⟨0x400, 4, 64, .rw, false, false, 0xFFFFFFF0, .imm, .lo, .ringCfg, fun _ _ _ => 0⟩,
  ⟨0x404, 4, 64, .rw, false, false, 0xFFFFFFFF, .imm, .hi, .ringCfg, fun _ _ _ => 0⟩,
  ⟨0x408, 4, 64, .rw, false, false, 0xF, .imm, .single, .ringCfg, fun _ _ _ => 0x3⟩,
  ⟨0x40C, 4, 64, .rw, false, false, 0xF01, .imm, .single, .rxrCtrl, fun _ _ _ => 0x200⟩,
  ⟨0x410, 4, 64, .rw, false, false, 0xFFF, .imm, .single, .rxrTail, fun _ _ _ => 0⟩,
  ⟨0x414, 4, 64, .ro, false, false, 0xFFF, .imm, .single, .none, fun _ _ _ => 0⟩,
  ⟨0x418, 4, 64, .ro, false, false, 0x7, .imm, .single, .none, fun _ _ _ => 0⟩,
  ⟨0x500, 4, 64, .rw, false, false, 0xFFFFFFF0, .imm, .lo, .ringCfg, fun _ _ _ => 0⟩,
  ⟨0x504, 4, 64, .rw, false, false, 0xFFFFFFFF, .imm, .hi, .ringCfg, fun _ _ _ => 0⟩,
  ⟨0x508, 4, 64, .rw, false, false, 0xF, .imm, .single, .ringCfg, fun _ _ _ => 0x3⟩,
  ⟨0x50C, 4, 64, .rw, false, false, 0xF01, .imm, .single, .txrCtrl, fun _ _ _ => 0x200⟩]

def pageMACRegs1 : List RegDef := [
  ⟨0x510, 4, 64, .rw, false, false, 0xFFF, .imm, .single, .txrTail, fun _ _ _ => 0⟩,
  ⟨0x514, 4, 64, .ro, false, false, 0xFFF, .imm, .single, .none, fun _ _ _ => 0⟩,
  ⟨0x518, 4, 64, .ro, false, false, 0x7, .imm, .single, .none, fun _ _ _ => 0⟩]

/-- The registers of page MAC, all parts. -/
def pageMACRegs : List RegDef := pageMACRegs0 ++ pageMACRegs1

/-- The registers of page MACC (R126). -/
def pageMACCRegs : List RegDef := [
  ⟨0x0, 1, 4, .ro, false, false, 0xFFFFFFFF, .imm, .single, .none, fun _ _ _ => 0x860000A0⟩,
  ⟨0x4, 1, 4, .rw, false, false, 0x1, .imm, .single, .maccCtrl, fun _ _ _ => 0⟩,
  ⟨0x8, 1, 4, .ro, false, false, 0x3, .imm, .single, .none, fun _ _ _ => 0⟩,
  ⟨0xC, 1, 4, .rc, false, false, 0, .imm, .single, .none, fun _ _ _ => 0⟩,
  ⟨0x10, 1, 4, .rw, false, false, 0, .imm, .single, .none, fun _ _ _ => 0⟩,
  ⟨0x14, 1, 4, .rc, false, false, 0xC000FFFF, .imm, .single, .none, fun _ _ _ => 0⟩]

/-- The registers of page FRX (R162). -/
def pageFRXRegs : List RegDef := [
  ⟨0x0, 1, 4, .ro, false, false, 0xFFFFFFFF, .imm, .single, .none, fun _ i _ => 0x070000A0 + i * 0x1000⟩,
  ⟨0x4, 1, 4, .rw, false, true, 0xF03, .staged, .single, .none, fun _ _ _ => 0x802⟩,
  ⟨0x8, 1, 4, .ro, false, false, 0x37, .imm, .single, .none, fun _ _ _ => 0⟩,
  ⟨0xC, 1, 4, .rc, false, false, 0x1F, .imm, .single, .none, fun _ _ _ => 0⟩,
  ⟨0x10, 1, 4, .rw, false, false, 0x1F, .imm, .single, .none, fun _ _ _ => 0x1F⟩,
  ⟨0x14, 1, 4, .rc, false, false, 0xC000FFFF, .imm, .single, .none, fun _ _ _ => 0⟩,
  ⟨0x20, 1, 4, .rw, false, true, 0xFFFFFFFF, .staged, .single, .none, fun _ _ _ => 0⟩,
  ⟨0x24, 1, 4, .rw, false, true, 0xFFFFFFFF, .staged, .single, .none, fun _ _ _ => 0⟩,
  ⟨0x28, 1, 4, .rw, false, true, 0xFFFF373F, .staged, .single, .none, fun _ _ _ => 0x138C1301⟩,
  ⟨0x2C, 1, 4, .rw, false, true, 0x83FF17FF, .staged, .single, .none, fun _ _ _ => 0x30⟩,
  ⟨0x30, 1, 4, .rw, false, true, 0xFFFFFFFF, .staged, .single, .none, fun _ _ _ => 0⟩,
  ⟨0x34, 3, 4, .ro, false, false, 0xFFFFFFFF, .imm, .single, .none, fun _ _ _ => 0⟩]

/-- The registers of page FTX (R168). -/
def pageFTXRegs : List RegDef := [
  ⟨0x0, 1, 4, .ro, false, false, 0xFFFFFFFF, .imm, .single, .none, fun _ i _ => 0x080000A0 + i * 0x1000⟩,
  ⟨0x4, 1, 4, .rw, false, true, 0x1, .staged, .single, .none, fun _ _ _ => 0⟩,
  ⟨0x8, 1, 4, .ro, false, false, 0x0FFF0007, .imm, .single, .none, fun _ _ _ => 0⟩,
  ⟨0xC, 1, 4, .rc, false, false, 0x3, .imm, .single, .none, fun _ _ _ => 0⟩,
  ⟨0x10, 1, 4, .rw, false, false, 0x3, .imm, .single, .none, fun _ _ _ => 0x3⟩,
  ⟨0x14, 1, 4, .rc, false, false, 0xC000FFFF, .imm, .single, .none, fun _ _ _ => 0⟩,
  ⟨0x20, 1, 4, .rw, false, true, 0x0000373F, .staged, .single, .none, fun _ _ _ => 0x1301⟩,
  ⟨0x24, 1, 4, .rw, false, true, 0x83FF1000, .staged, .single, .none, fun _ _ _ => 0⟩,
  ⟨0x28, 1, 4, .rw, false, true, 0xFFFFFFFF, .staged, .single, .none, fun _ _ _ => 0⟩,
  ⟨0x34, 3, 4, .ro, false, false, 0xFFFFFFFF, .imm, .single, .none, fun _ _ _ => 0⟩]

/-- The registers of page GRF (R230). -/
def pageGRFRegs : List RegDef := [
  ⟨0x0, 1, 4, .ro, false, false, 0xFFFFFFFF, .imm, .single, .none, fun _ _ _ => 0x090000A0⟩,
  ⟨0x4, 1, 4, .rw, false, false, 0, .imm, .single, .none, fun _ _ _ => 0⟩,
  ⟨0x8, 1, 4, .ro, false, false, 0x1F, .imm, .single, .none, fun _ _ _ => 0⟩,
  ⟨0xC, 1, 4, .rc, false, false, 0x3F, .imm, .single, .none, fun _ _ _ => 0⟩,
  ⟨0x10, 1, 4, .rw, false, false, 0x3F, .imm, .single, .none, fun _ _ _ => 0x3F⟩,
  ⟨0x14, 1, 4, .rc, false, false, 0xC000FFFF, .imm, .single, .none, fun _ _ _ => 0⟩,
  ⟨0x20, 1, 4, .rw, false, true, 0x3F01, .staged, .single, .none, fun _ _ _ => 0⟩,
  ⟨0x24, 1, 4, .wo, false, false, 0x1, .imm, .single, .grfCommit, fun _ _ _ => 0⟩,
  ⟨0x28, 1, 4, .ro, false, false, 0xFFF03FFF, .imm, .single, .none, fun _ _ _ => 0⟩,
  ⟨0x2C, 1, 4, .ro, false, true, 0xFFFFFFFF, .imm, .single, .none, fun _ _ _ => 0⟩,
  ⟨0x30, 1, 4, .ro, false, false, 0xFFFFFFFF, .imm, .single, .none, fun _ _ _ => 0⟩,
  ⟨0x34, 1, 4, .ro, false, false, 0xFFFFFFFF, .imm, .single, .none, fun _ _ _ => 0⟩,
  ⟨0x38, 1, 4, .rc, false, false, 0xFFFF, .imm, .single, .none, fun _ _ _ => 0⟩,
  ⟨0x3C, 1, 4, .wo, false, true, 0x800F00FF, .imm, .single, .levelCmd, fun _ _ _ => 0⟩,
  ⟨0x40, 1, 4, .rw, false, true, 0xFFFFFFFF, .held, .single, .none, fun _ _ _ => 0⟩,
  ⟨0x60, 8, 4, .ro, false, false, 0xFFFFFFFF, .imm, .single, .none, fun _ _ _ => 0⟩,
  ⟨0x400, 256, 4, .ro, false, false, 0xFFF0FFFF, .imm, .single, .none, fun _ _ _ => 0⟩]

/-- The registers of page PLC (R259). -/
def pagePLCRegs : List RegDef := [
  ⟨0x0, 1, 4, .ro, false, false, 0xFFFFFFFF, .imm, .single, .none, fun _ _ _ => 0x0A0000A0⟩,
  ⟨0x4, 1, 4, .rw, false, true, 0x3, .staged, .single, .none, fun _ _ _ => 0x1⟩,
  ⟨0x8, 1, 4, .ro, false, false, 0xF1E, .imm, .single, .none, fun _ _ _ => 0x800⟩,
  ⟨0xC, 1, 4, .rc, false, false, 0x1F, .imm, .single, .none, fun _ _ _ => 0⟩,
  ⟨0x10, 1, 4, .rw, false, false, 0x1F, .imm, .single, .none, fun _ _ _ => 0x1F⟩,
  ⟨0x14, 1, 4, .rc, false, false, 0xC000FFFF, .imm, .single, .none, fun _ _ _ => 0⟩,
  ⟨0x20, 1, 4, .ro, false, false, 0xFFFFFFFF, .imm, .single, .none, fun _ _ _ => 0x195E24⟩,
  ⟨0x24, 1, 4, .ro, false, false, 0xFFFFFFFF, .imm, .single, .none, fun _ _ _ => 0⟩,
  ⟨0x28, 1, 4, .ro, false, false, 0xFFFFFFFF, .imm, .single, .none, fun _ _ _ => 0⟩,
  ⟨0x2C, 1, 4, .ro, false, false, 0xFFFFFFFF, .imm, .single, .none, fun _ _ _ => 0⟩,
  ⟨0x30, 1, 4, .ro, false, false, 0xFFFFFFFF, .imm, .single, .none, fun _ _ _ => 0⟩,
  ⟨0x34, 1, 4, .ro, false, false, 0xFFFFFFFF, .imm, .single, .none, fun _ _ _ => 0x4000⟩,
  ⟨0x38, 1, 4, .ro, false, false, 0xFFFFFFFF, .imm, .single, .none, fun _ _ _ => 0⟩,
  ⟨0x3C, 1, 4, .ro, false, false, 0xFFFFFFFF, .imm, .single, .none, fun _ _ _ => 0x500⟩,
  ⟨0x40, 1, 4, .ro, false, false, 0xFFFFFFFF, .imm, .single, .none, fun _ _ _ => 0⟩,
  ⟨0x44, 1, 4, .ro, false, false, 0xFFFFFFFF, .imm, .single, .none, fun _ _ _ => 0⟩,
  ⟨0x48, 1, 4, .rw, false, true, 0x3FFFF, .staged, .single, .none, fun _ _ _ => 0x12C0⟩,
  ⟨0x4C, 1, 4, .ro, false, false, 0xFFFF, .imm, .single, .none, fun _ _ _ => 0⟩,
  ⟨0x50, 1, 4, .rc, false, false, 0xFFFFFFFF, .imm, .single, .none, fun _ _ _ => 0⟩]

/-- The registers of page ALM (R282). -/
def pageALMRegs : List RegDef := [
  ⟨0x0, 1, 4, .ro, false, false, 0xFFFFFFFF, .imm, .single, .none, fun _ _ _ => 0x0B0000A0⟩,
  ⟨0x4, 1, 4, .rw, false, true, 0x3, .imm, .single, .none, fun _ _ _ => 0x3⟩,
  ⟨0x8, 1, 4, .ro, false, false, 0xFF06, .imm, .single, .none, fun _ _ _ => 0⟩,
  ⟨0xC, 1, 4, .rc, false, false, 0x1F, .imm, .single, .none, fun _ _ _ => 0⟩,
  ⟨0x10, 1, 4, .rw, false, false, 0x1F, .imm, .single, .none, fun _ _ _ => 0x1F⟩,
  ⟨0x14, 1, 4, .rc, false, false, 0xC000FFFF, .imm, .single, .none, fun _ _ _ => 0⟩,
  ⟨0x20, 1, 4, .rw, false, true, 0xFFFF, .imm, .single, .none, fun _ _ _ => 0x1F4A⟩,
  ⟨0x24, 2, 4, .rw, false, true, 0xFFFFFFFF, .imm, .single, .none, fun _ _ _ => 0⟩,
  ⟨0x2C, 1, 4, .rw, false, true, 0xFFFF, .imm, .single, .none, fun _ _ _ => 0x7D0⟩,
  ⟨0x30, 1, 4, .rw, true, true, 0xF, .imm, .single, .none, fun _ _ _ => 0xF⟩,
  ⟨0x34, 1, 4, .rw, false, true, 0xFFFFFF, .imm, .single, .none, fun _ _ _ => 0x1000C8⟩,
  ⟨0x38, 1, 4, .ro, false, false, 0xFF, .imm, .single, .none, fun _ _ _ => 0⟩,
  ⟨0x40, 8, 4, .wo, false, true, 0xFFFFFFFF, .imm, .single, .keyData, fun _ _ _ => 0⟩,
  ⟨0x60, 1, 8, .pw, true, true, 0x80000007, .imm, .single, .keyLoad, fun _ _ _ => 0⟩,
  ⟨0x80, 8, 4, .rw, false, true, 0xFFFFFFFF, .imm, .single, .none, fun _ _ _ => 0⟩,
  ⟨0xA0, 1, 4, .rw, false, true, 0x3FFFF, .imm, .single, .none, fun _ _ _ => 0⟩,
  ⟨0xA4, 1, 4, .wo, false, true, 0xF0F, .imm, .single, .cmdGo, fun _ _ _ => 0⟩,
  ⟨0xA8, 1, 4, .ro, false, false, 0xFF00FFFF, .imm, .single, .none, fun _ _ _ => 0⟩,
  ⟨0xC0, 8, 4, .ro, false, false, 0xFFFF0037, .imm, .single, .none, fun _ _ _ => 0x4⟩,
  ⟨0xE0, 1, 4, .rw, false, true, 0xFF, .imm, .single, .evacCfg, fun _ _ _ => 0xFF⟩,
  ⟨0xE4, 1, 4, .rw, false, true, 0xFFFF, .imm, .single, .none, fun _ _ _ => 0x32⟩,
  ⟨0xE8, 1, 4, .rw, false, true, 0xFFFF, .imm, .single, .none, fun _ _ _ => 0x1F4⟩,
  ⟨0xF0, 1, 4, .rw, false, true, 0x3FFFF, .imm, .single, .none, fun _ _ _ => 0xC8⟩,
  ⟨0xF4, 1, 4, .rw, false, true, 0x3FFFF, .imm, .single, .none, fun _ _ _ => 0x7D0⟩,
  ⟨0xF8, 1, 4, .rw, false, true, 0x3FFFF, .imm, .single, .none, fun _ _ _ => 0x3A98⟩,
  ⟨0x100, 16, 16, .rw, false, true, 0xFFFFFFFF, .imm, .single, .none, fun _ _ _ => 0⟩,
  ⟨0x104, 16, 16, .rw, false, true, 0xC0FF000F, .imm, .single, .issuerCfg, fun _ _ _ => 0⟩,
  ⟨0x108, 16, 16, .rw, false, true, 0xFFFFFFFF, .imm, .single, .none, fun _ _ _ => 0⟩,
  ⟨0x10C, 16, 16, .ro, false, true, 0xFFFFFFFF, .imm, .single, .none, fun _ _ _ => 0⟩]

/-- The registers of page MEM (R314). -/
def pageMEMRegs : List RegDef := [
  ⟨0x0, 1, 4, .ro, false, false, 0xFFFFFFFF, .imm, .single, .none, fun _ _ _ => 0x0C0000A0⟩,
  ⟨0x4, 1, 4, .rw, false, false, 0, .imm, .single, .none, fun _ _ _ => 0⟩,
  ⟨0x8, 1, 4, .ro, false, false, 0xF, .imm, .single, .none, fun _ _ _ => 0⟩,
  ⟨0xC, 1, 4, .rc, false, false, 0x3F, .imm, .single, .none, fun _ _ _ => 0⟩,
  ⟨0x10, 1, 4, .rw, false, false, 0x3F, .imm, .single, .none, fun _ _ _ => 0x1E⟩,
  ⟨0x14, 1, 4, .rc, false, false, 0xC000FFFF, .imm, .single, .none, fun _ _ _ => 0⟩,
  ⟨0x20, 1, 8, .pw, true, false, 0xFFFF, .imm, .single, .partition, fun _ _ _ => 0x818⟩,
  ⟨0x28, 1, 4, .rw, false, false, 0x1F, .imm, .single, .none, fun _ _ _ => 0x18⟩,
  ⟨0x2C, 1, 4, .ro, false, false, 0xFFFF03FF, .imm, .single, .none, fun _ _ _ => 0⟩,
  ⟨0x30, 1, 4, .rc, false, false, 0xFFFFFFFF, .imm, .single, .none, fun _ _ _ => 0⟩,
  ⟨0x34, 1, 4, .rc, false, false, 0xFFFFFFFF, .imm, .single, .none, fun _ _ _ => 0⟩,
  ⟨0x38, 1, 4, .rc, false, false, 0xFFFFFFFF, .imm, .single, .none, fun _ _ _ => 0⟩,
  ⟨0x3C, 1, 4, .rc, false, false, 0xFFFFFFFF, .imm, .single, .none, fun _ _ _ => 0⟩,
  ⟨0x40, 1, 4, .ro, false, false, 0xFFFFFFFF, .imm, .single, .none, fun _ _ _ => 0x10000000⟩,
  ⟨0x44, 2, 4, .ro, false, false, 0xFFFFFFFF, .imm, .lo, .none, fun _ _ _ => 0⟩,
  ⟨0x4C, 1, 4, .rc, false, false, 0xCF000000, .imm, .single, .none, fun _ _ _ => 0⟩,
  ⟨0x60, 2, 4, .rw, false, false, 0xFFFFFFFF, .imm, .lo, .none, fun _ _ _ => 0⟩,
  ⟨0x68, 1, 4, .rw, false, false, 0xFFFFFFC0, .imm, .single, .none, fun _ _ _ => 0⟩,
  ⟨0x6C, 1, 4, .rw, false, false, 0x1FFFFFF, .imm, .single, .none, fun _ _ _ => 0x40⟩,
  ⟨0x70, 1, 4, .wo, false, false, 0x80000007, .imm, .single, .xferCtrl, fun _ _ _ => 0⟩,
  ⟨0x74, 1, 4, .ro, false, false, 0xCFFFFFFF, .imm, .single, .none, fun _ _ _ => 0⟩,
  ⟨0x78, 1, 4, .rw, false, false, 0xFFFFFFFF, .imm, .single, .xferData, fun _ _ _ => 0⟩]

/-- The registers of page MSG (R315). -/
def pageMSGRegs : List RegDef := [
  ⟨0x0, 1, 4, .ro, false, false, 0xFFFFFFFF, .imm, .single, .none, fun _ _ _ => 0x0D0000A0⟩,
  ⟨0x4, 1, 4, .rw, false, false, 0, .imm, .single, .none, fun _ _ _ => 0⟩,
  ⟨0x8, 1, 4, .ro, false, false, 0x7F, .imm, .single, .none, fun _ _ _ => 0⟩,
  ⟨0xC, 1, 4, .rc, false, false, 0xF, .imm, .single, .none, fun _ _ _ => 0⟩,
  ⟨0x10, 1, 4, .rw, false, false, 0xF, .imm, .single, .none, fun _ _ _ => 0xF⟩,
  ⟨0x14, 1, 4, .rc, false, false, 0xC000FFFF, .imm, .single, .none, fun _ _ _ => 0⟩,
  ⟨0x20, 1, 8, .pw, true, false, 0x1FFF, .imm, .single, .libCommit, fun _ _ _ => 0⟩,
  ⟨0x28, 1, 4, .ro, false, true, 0xFFFFFFFF, .imm, .single, .none, fun _ _ _ => 0⟩,
  ⟨0x2C, 1, 4, .ro, false, false, 0xFF000FFF, .imm, .single, .none, fun _ _ _ => 0⟩,
  ⟨0x30, 1, 4, .wo, false, false, 0x1, .imm, .single, .bulkCtrl, fun _ _ _ => 0⟩,
  ⟨0x34, 1, 4, .ro, false, false, 0xC000FFFF, .imm, .single, .none, fun _ _ _ => 0⟩,
  ⟨0x38, 1, 4, .ro, false, false, 0xFFFFFFFF, .imm, .single, .none, fun _ _ _ => 0⟩,
  ⟨0x100, 64, 4, .ro, false, false, 0xF0FFFF00, .imm, .single, .none, fun _ _ _ => 0⟩,
  ⟨0x400, 128, 4, .ro, false, false, 0xFFFFFFFF, .imm, .single, .none, fun _ _ _ => 0⟩]

/-- The registers of page REC (R317). -/
def pageRECRegs : List RegDef := [
  ⟨0x0, 1, 4, .ro, false, false, 0xFFFFFFFF, .imm, .single, .none, fun _ _ _ => 0x0E0000A0⟩,
  ⟨0x4, 1, 4, .rw, false, true, 0x3, .imm, .single, .recCtrl, fun _ _ _ => 0⟩,
  ⟨0x8, 1, 4, .ro, false, false, 0x3, .imm, .single, .none, fun _ _ _ => 0⟩,
  ⟨0xC, 1, 4, .rc, false, false, 0x7, .imm, .single, .none, fun _ _ _ => 0⟩,
  ⟨0x10, 1, 4, .rw, false, false, 0x7, .imm, .single, .none, fun _ _ _ => 0x7⟩,
  ⟨0x14, 1, 4, .rc, false, false, 0xC000FFFF, .imm, .single, .none, fun _ _ _ => 0⟩,
  ⟨0x20, 2, 4, .rw, false, true, 0xFFFFFFFF, .imm, .lo, .none, fun _ _ _ => 0⟩,
  ⟨0x28, 1, 4, .ro, false, false, 0xFFFFFFFF, .imm, .single, .none, fun _ _ _ => 0⟩,
  ⟨0x2C, 1, 4, .ro, false, false, 0xFFFFFFFF, .imm, .single, .none, fun _ _ _ => 0⟩,
  ⟨0x30, 1, 4, .ro, false, false, 0xFFFFFFFF, .imm, .single, .none, fun _ _ _ => 0⟩,
  ⟨0x34, 1, 4, .ro, false, false, 0xFFFFFFFF, .imm, .single, .none, fun _ _ _ => 0x40⟩,
  ⟨0x38, 1, 4, .rc, false, false, 0xFFFF, .imm, .single, .none, fun _ _ _ => 0⟩,
  ⟨0x3C, 1, 4, .ro, false, false, 0xFFFFFFFF, .imm, .single, .none, fun _ _ _ => 0x600⟩]

/-- The registers of page TDM (R336). -/
def pageTDMRegs : List RegDef := [
  ⟨0x0, 1, 4, .ro, false, false, 0xFFFFFFFF, .imm, .single, .none, fun _ i _ => 0x0F0000A0 + i * 0x1000⟩,
  ⟨0x4, 1, 4, .rw, false, true, 0x1, .held, .single, .none, fun _ _ _ => 0⟩,
  ⟨0x8, 1, 4, .ro, false, false, 0x13, .imm, .single, .none, fun _ _ _ => 0⟩,
  ⟨0xC, 1, 4, .rc, false, false, 0x7, .imm, .single, .none, fun _ _ _ => 0⟩,
  ⟨0x10, 1, 4, .rw, false, false, 0x7, .imm, .single, .none, fun _ _ _ => 0x7⟩,
  ⟨0x14, 1, 4, .rc, false, false, 0xC000FFFF, .imm, .single, .none, fun _ _ _ => 0⟩,
  ⟨0x20, 1, 4, .rw, false, true, 0x3F1C001F, .held, .single, .none, fun _ _ _ => 0x140001⟩,
  ⟨0x24, 1, 4, .rw, false, true, 0xFFFFFFFF, .held, .single, .none, fun _ _ _ => 0xFFFFFFFF⟩,
  ⟨0x28, 1, 4, .ro, false, false, 0xFFFFFFFF, .imm, .single, .none, fun _ _ _ => 0⟩,
  ⟨0x2C, 1, 4, .ro, false, false, 0xFFFFFFFF, .imm, .single, .none, fun _ _ _ => 0⟩,
  ⟨0x30, 1, 4, .rc, false, false, 0xFFFF, .imm, .single, .none, fun _ _ _ => 0⟩,
  ⟨0x34, 1, 4, .ro, false, false, 0xFFFFFFFF, .imm, .single, .none, fun _ _ _ => 0⟩]

/-- The registers of page TDMC (R338). -/
def pageTDMCRegs : List RegDef := [
  ⟨0x0, 1, 4, .ro, false, false, 0xFFFFFFFF, .imm, .single, .none, fun _ _ _ => 0x8F0000A0⟩,
  ⟨0x4, 1, 4, .rw, false, false, 0x1, .imm, .single, .tdmcCtrl, fun _ _ _ => 0⟩,
  ⟨0x8, 1, 4, .ro, false, false, 0x3, .imm, .single, .none, fun _ _ _ => 0⟩,
  ⟨0xC, 1, 4, .rc, false, false, 0, .imm, .single, .none, fun _ _ _ => 0⟩,
  ⟨0x10, 1, 4, .rw, false, false, 0, .imm, .single, .none, fun _ _ _ => 0⟩,
  ⟨0x14, 1, 4, .rc, false, false, 0xC000FFFF, .imm, .single, .none, fun _ _ _ => 0⟩]

/-- The registers of page AMPC (R373). -/
def pageAMPCRegs : List RegDef := [
  ⟨0x0, 1, 4, .ro, false, false, 0xFFFFFFFF, .imm, .single, .none, fun _ i _ => 0x100000A0 + i * 0x1000⟩,
  ⟨0x4, 1, 4, .rw, false, false, 0x1, .held, .single, .ampcCtrl, fun _ _ _ => 0⟩,
  ⟨0x8, 1, 4, .ro, false, false, 0x7F, .imm, .single, .none, fun _ _ _ => 0⟩,
  ⟨0xC, 1, 4, .rc, false, false, 0x1F, .imm, .single, .none, fun _ _ _ => 0⟩,
  ⟨0x10, 1, 4, .rw, false, false, 0x1F, .imm, .single, .none, fun _ _ _ => 0x1F⟩,
  ⟨0x14, 1, 4, .rc, false, false, 0xC000FFFF, .imm, .single, .none, fun _ _ _ => 0⟩,
  ⟨0x20, 1, 8, .pw, true, true, 0x1, .held, .single, .none, fun _ _ _ => 0⟩,
  ⟨0x28, 1, 4, .rw, false, true, 0x3, .held, .single, .none, fun _ _ _ => 0x1⟩,
  ⟨0x2C, 1, 4, .rw, false, true, 0xFFFFFFFF, .held, .single, .none, fun _ _ _ => 0⟩,
  ⟨0x30, 1, 8, .pw, true, true, 0xFFFFFFFF, .held, .single, .none, fun _ _ _ => 0⟩,
  ⟨0x38, 1, 8, .pw, true, true, 0xFFFFFFFF, .held, .single, .none, fun _ _ _ => 0x6E0A5564⟩,
  ⟨0x40, 1, 4, .rw, false, true, 0xFFFFFFFF, .held, .single, .none, fun _ _ _ => 0x0D7A03E8⟩,
  ⟨0x48, 1, 8, .pw, true, true, 0xFFFFFFFF, .held, .single, .none, fun _ _ _ => 0x03E80000⟩,
  ⟨0x50, 1, 4, .ro, false, true, 0xFFFFFFFF, .imm, .single, .none, fun _ _ _ => 0⟩,
  ⟨0x54, 1, 4, .ro, false, false, 0xFFFF, .imm, .single, .none, fun _ _ _ => 0⟩,
  ⟨0x58, 1, 4, .ro, false, false, 0xFFFF, .imm, .single, .none, fun _ _ _ => 0⟩,
  ⟨0x5C, 1, 4, .ro, false, true, 0xFFFFFFFF, .imm, .single, .none, fun _ _ _ => 0⟩]

/-- The registers of page AMP (R375). -/
def pageAMPRegs : List RegDef := [
  ⟨0x0, 1, 4, .ro, false, false, 0xFFFFFFFF, .imm, .single, .none, fun _ i _ => 0x110000A0 + i * 0x1000⟩,
  ⟨0x4, 1, 4, .rw, false, true, 0x7, .held, .single, .ampCtrl, fun _ _ _ => 0x2⟩,
  ⟨0x8, 1, 4, .ro, false, false, 0x1FF, .imm, .single, .none, fun _ _ _ => 0⟩,
  ⟨0xC, 1, 4, .rc, false, false, 0x7F, .imm, .single, .none, fun _ _ _ => 0⟩,
  ⟨0x10, 1, 4, .rw, false, false, 0x7F, .imm, .single, .none, fun _ _ _ => 0x7F⟩,
  ⟨0x14, 1, 4, .rc, false, false, 0xC000FFFF, .imm, .single, .none, fun _ _ _ => 0⟩,
  ⟨0x20, 1, 8, .pw, true, true, 0x01FF00FF, .held, .single, .none, fun _ _ _ => 0x500014⟩,
  ⟨0x28, 1, 4, .rw, false, true, 0xFFFFFFFF, .held, .single, .none, fun _ _ _ => 0⟩,
  ⟨0x2C, 1, 4, .rw, false, true, 0xFFFF, .held, .single, .none, fun _ _ _ => 0⟩,
  ⟨0x30, 1, 8, .pw, true, true, 0x000F0FFF, .held, .single, .none, fun _ _ _ => 0x40800⟩,
  ⟨0x38, 1, 8, .pw, true, true, 0xFFFFFFFF, .held, .single, .none, fun _ _ _ => 0x03E80000⟩,
  ⟨0x40, 1, 8, .pw, true, true, 0xFFFF, .held, .single, .none, fun _ _ _ => 0x32⟩,
  ⟨0x48, 1, 4, .rw, false, true, 0xFFFF, .held, .single, .none, fun _ _ _ => 0x7D0⟩,
  ⟨0x4C, 1, 4, .rw, false, true, 0x1, .held, .single, .none, fun _ _ _ => 0⟩,
  ⟨0x50, 10, 4, .rw, true, true, 0xFFFFFFFF, .held, .single, .none, fun _ _ _ => 0⟩,
  ⟨0x78, 10, 4, .rw, true, true, 0xFFFFFFFF, .held, .single, .none, fun _ _ _ => 0⟩,
  ⟨0xA0, 1, 4, .ro, false, true, 0xFFFFFFFF, .imm, .single, .none, fun _ _ _ => 0⟩,
  ⟨0xA4, 1, 4, .ro, false, false, 0xFFFF, .imm, .single, .none, fun _ _ _ => 0⟩,
  ⟨0xA8, 1, 4, .ro, false, false, 0xFFFF, .imm, .single, .none, fun _ _ _ => 0⟩,
  ⟨0xAC, 1, 4, .ro, false, false, 0xFFFF, .imm, .single, .none, fun _ _ _ => 0⟩,
  ⟨0xB0, 1, 4, .ro, false, false, 0xFFFF, .imm, .single, .none, fun _ _ _ => 0⟩,
  ⟨0xB4, 1, 4, .rc, false, false, 0xFFFF, .imm, .single, .none, fun _ _ _ => 0⟩,
  ⟨0xB8, 1, 4, .rc, false, false, 0xFFFF, .imm, .single, .none, fun _ _ _ => 0⟩,
  ⟨0xBC, 1, 4, .ro, false, false, 0x8000FFFF, .imm, .single, .none, fun _ _ _ => 0⟩,
  ⟨0xC0, 1, 4, .ro, false, true, 0xFFFF0003, .imm, .single, .none, fun _ _ _ => 0⟩]

/-- The registers of page SFE (R409). -/
def pageSFERegs0 : List RegDef := [
  ⟨0x0, 1, 4, .ro, false, false, 0xFFFFFFFF, .imm, .single, .none, fun _ _ _ => 0x120000A0⟩,
  ⟨0x4, 1, 4, .rw, false, false, 0, .imm, .single, .none, fun _ _ _ => 0⟩,
  ⟨0x8, 1, 4, .ro, false, false, 0xFF, .imm, .single, .none, fun _ _ _ => 0x80⟩,
  ⟨0xC, 1, 4, .rc, false, false, 0x7, .imm, .single, .none, fun _ _ _ => 0⟩,
  ⟨0x10, 1, 4, .rw, false, false, 0x7, .imm, .single, .none, fun _ _ _ => 0x7⟩,
  ⟨0x14, 1, 4, .rc, false, false, 0xC000FFFF, .imm, .single, .none, fun _ _ _ => 0⟩,
  ⟨0x20, 1, 4, .wo, false, true, 0x7F, .imm, .single, .sfeSync, fun _ _ _ => 0⟩,
  ⟨0x24, 1, 4, .ro, false, false, 0xFFFFFFFF, .imm, .single, .none, fun _ _ _ => 0⟩,
  ⟨0x28, 1, 4, .rc, false, false, 0xFFFF, .imm, .single, .none, fun _ _ _ => 0⟩,
  ⟨0x40, 7, 32, .rw, false, true, 0x8F1C1FFF, .imm, .single, .none, fun _ _ _ => 0⟩,
  ⟨0x44, 7, 32, .rw, false, true, 0x1FFFFF, .imm, .single, .none, fun _ _ _ => 0⟩,
  ⟨0x48, 7, 32, .rw, false, true, 0xFFFFFF, .imm, .single, .none, fun _ _ _ => 0⟩,
  ⟨0x4C, 7, 32, .wo, false, true, 0x1, .imm, .single, .profApply, fun _ _ _ => 0⟩,
  ⟨0x120, 1, 4, .ro, false, false, 0x8F1C1FFF, .imm, .single, .none, fun _ _ _ => 0x0F140BFF⟩,
  ⟨0x124, 1, 4, .ro, false, false, 0x1FFFFF, .imm, .single, .none, fun _ _ _ => 0x3F000⟩,
  ⟨0x128, 1, 4, .ro, false, false, 0xFFFFFF, .imm, .single, .none, fun _ _ _ => 0⟩,
  ⟨0x12C, 1, 4, .wo, false, false, 0x1, .imm, .single, .none, fun _ _ _ => 0⟩,
  ⟨0x50, 8, 32, .ro, false, false, 0xF3FFFFFF, .imm, .single, .none, fun _ _ j => if j = 7 then 0x60206CD2 else 0⟩,
  ⟨0x54, 8, 32, .ro, false, false, 0x1FFFF, .imm, .single, .none, fun _ _ j => if j = 7 then 0xC000 else 0⟩,
  ⟨0x58, 8, 32, .ro, false, false, 0xFFFFFFFF, .imm, .single, .none, fun _ _ _ => 0⟩,
  ⟨0x5C, 8, 32, .ro, false, false, 0xFFFFFFFF, .imm, .single, .none, fun _ _ _ => 0⟩,
  ⟨0x200, 1, 4, .rw, false, true, 0xFFFFFFFF, .held, .single, .none, fun _ _ _ => 0x080A3C3C⟩,
  ⟨0x204, 1, 4, .wo, false, true, 0xF000011F, .imm, .single, .lspCmd, fun _ _ _ => 0⟩,
  ⟨0x208, 1, 4, .ro, false, false, 0xFFFFFFFF, .imm, .single, .none, fun _ _ _ => 0⟩,
  ⟨0x20C, 1, 4, .rc, false, false, 0xFFFFFFFF, .imm, .single, .none, fun _ _ _ => 0⟩,
  ⟨0x210, 1, 4, .rw, false, true, 0xFFFFFFFF, .held, .single, .none, fun _ _ _ => 0x199A0014⟩,
  ⟨0x214, 1, 4, .rw, false, true, 0xFFFFFFFF, .held, .single, .none, fun _ _ _ => 0x03320006⟩,
  ⟨0x218, 1, 4, .rw, false, true, 0xFFFFFFFF, .held, .single, .none, fun _ _ _ => 0x0600E700⟩,
  ⟨0x21C, 1, 4, .rw, false, true, 0xFFFFFFFF, .held, .single, .none, fun _ _ _ => 0x03E8E200⟩,
  ⟨0x400, 32, 96, .rw, false, true, 0xFFF00000, .held, .single, .none, fun _ _ _ => 0x3FF00000⟩,
  ⟨0x404, 32, 96, .ro, false, false, 0xFFFCFFFF, .imm, .single, .none, fun _ _ _ => 0⟩,
  ⟨0x408, 32, 96, .ro, false, false, 0xFFFFFFFF, .imm, .single, .none, fun _ _ _ => 0x80000000⟩,
  ⟨0x40C, 32, 96, .ro, false, false, 0xFFFFFFFF, .imm, .single, .none, fun _ _ _ => 0x80000000⟩,
  ⟨0x410, 32, 96, .ro, false, false, 0xFFFFFFFF, .imm, .single, .none, fun _ _ _ => 0x80000000⟩,
  ⟨0x414, 32, 96, .ro, false, false, 0xFFFFFFFF, .imm, .single, .none, fun _ _ _ => 0x80000000⟩,
  ⟨0x418, 32, 96, .ro, false, false, 0xFFFFFFFF, .imm, .single, .none, fun _ _ _ => 0x80000000⟩,
  ⟨0x41C, 32, 96, .ro, false, false, 0xFFFFFFFF, .imm, .single, .none, fun _ _ _ => 0x80000000⟩,
  ⟨0x420, 32, 96, .ro, false, false, 0xFFFFFFFF, .imm, .single, .none, fun _ _ _ => 0x80000000⟩,
  ⟨0x424, 32, 96, .ro, false, false, 0xFFFFFFFF, .imm, .single, .none, fun _ _ _ => 0x80000000⟩,
  ⟨0x428, 32, 96, .ro, false, false, 0xFFFFFFFF, .imm, .single, .none, fun _ _ _ => 0x80000000⟩]

def pageSFERegs1 : List RegDef := [
  ⟨0x42C, 32, 96, .rw, false, true, 0xFFFFFFFF, .held, .single, .none, fun _ _ _ => 0x80000000⟩,
  ⟨0x430, 32, 96, .rw, false, true, 0xFFFFFFFF, .held, .single, .none, fun _ _ _ => 0x80000000⟩,
  ⟨0x434, 32, 96, .rw, false, true, 0xFFFFFFFF, .held, .single, .none, fun _ _ _ => 0x80000000⟩,
  ⟨0x438, 32, 96, .rw, false, true, 0xFFFFFFFF, .held, .single, .none, fun _ _ _ => 0x80000000⟩,
  ⟨0x43C, 32, 96, .rw, false, true, 0xFFFFFFFF, .held, .single, .none, fun _ _ _ => 0x80000000⟩,
  ⟨0x440, 32, 96, .rw, false, true, 0xFFFFFFFF, .held, .single, .none, fun _ _ _ => 0x80000000⟩,
  ⟨0x444, 32, 96, .rw, false, true, 0xFFFFFFFF, .held, .single, .none, fun _ _ _ => 0x80000000⟩,
  ⟨0x448, 32, 96, .rw, false, true, 0xFFFFFFFF, .held, .single, .none, fun _ _ _ => 0x80000000⟩,
  ⟨0x44C, 32, 96, .rw, false, true, 0xFFFFFFFF, .held, .single, .none, fun _ _ _ => 0x80000000⟩]

/-- The registers of page SFE, all parts. -/
def pageSFERegs : List RegDef := pageSFERegs0 ++ pageSFERegs1

/-- The registers of page SNSC0 (R414). -/
def pageSNSC0Regs : List RegDef := [
  ⟨0x0, 1, 4, .ro, false, false, 0xFFFFFFFF, .imm, .single, .none, fun _ _ _ => 0x930000a0⟩,
  ⟨0x4, 1, 4, .rw, false, false, 0x1, .imm, .single, .snscCtrl, fun _ _ _ => 0⟩,
  ⟨0x8, 1, 4, .ro, false, false, 0x3, .imm, .single, .none, fun _ _ _ => 0⟩,
  ⟨0xC, 1, 4, .rc, false, false, 0, .imm, .single, .none, fun _ _ _ => 0⟩,
  ⟨0x10, 1, 4, .rw, false, false, 0, .imm, .single, .none, fun _ _ _ => 0⟩,
  ⟨0x14, 1, 4, .rc, false, false, 0xC000FFFF, .imm, .single, .none, fun _ _ _ => 0⟩]

/-- The registers of page SNSC1 (R414). -/
def pageSNSC1Regs : List RegDef := [
  ⟨0x0, 1, 4, .ro, false, false, 0xFFFFFFFF, .imm, .single, .none, fun _ _ _ => 0x930010a0⟩,
  ⟨0x4, 1, 4, .rw, false, false, 0x1, .imm, .single, .snscCtrl, fun _ _ _ => 0⟩,
  ⟨0x8, 1, 4, .ro, false, false, 0x3, .imm, .single, .none, fun _ _ _ => 0⟩,
  ⟨0xC, 1, 4, .rc, false, false, 0, .imm, .single, .none, fun _ _ _ => 0⟩,
  ⟨0x10, 1, 4, .rw, false, false, 0, .imm, .single, .none, fun _ _ _ => 0⟩,
  ⟨0x14, 1, 4, .rc, false, false, 0xC000FFFF, .imm, .single, .none, fun _ _ _ => 0⟩]

/-- The registers of page SNSC2 (R414). -/
def pageSNSC2Regs : List RegDef := [
  ⟨0x0, 1, 4, .ro, false, false, 0xFFFFFFFF, .imm, .single, .none, fun _ _ _ => 0x930020a0⟩,
  ⟨0x4, 1, 4, .rw, false, false, 0x1, .imm, .single, .snscCtrl, fun _ _ _ => 0⟩,
  ⟨0x8, 1, 4, .ro, false, false, 0x3, .imm, .single, .none, fun _ _ _ => 0⟩,
  ⟨0xC, 1, 4, .rc, false, false, 0, .imm, .single, .none, fun _ _ _ => 0⟩,
  ⟨0x10, 1, 4, .rw, false, false, 0, .imm, .single, .none, fun _ _ _ => 0⟩,
  ⟨0x14, 1, 4, .rc, false, false, 0xC000FFFF, .imm, .single, .none, fun _ _ _ => 0⟩]

/-- The registers of page SNSC3 (R414). -/
def pageSNSC3Regs : List RegDef := [
  ⟨0x0, 1, 4, .ro, false, false, 0xFFFFFFFF, .imm, .single, .none, fun _ _ _ => 0x930030a0⟩,
  ⟨0x4, 1, 4, .rw, false, false, 0x1, .imm, .single, .snscCtrl, fun _ _ _ => 0⟩,
  ⟨0x8, 1, 4, .ro, false, false, 0x3, .imm, .single, .none, fun _ _ _ => 0⟩,
  ⟨0xC, 1, 4, .rc, false, false, 0, .imm, .single, .none, fun _ _ _ => 0⟩,
  ⟨0x10, 1, 4, .rw, false, false, 0, .imm, .single, .none, fun _ _ _ => 0⟩,
  ⟨0x14, 1, 4, .rc, false, false, 0xC000FFFF, .imm, .single, .none, fun _ _ _ => 0⟩]

/-- The registers of page SNSC4 (R414). -/
def pageSNSC4Regs : List RegDef := [
  ⟨0x0, 1, 4, .ro, false, false, 0xFFFFFFFF, .imm, .single, .none, fun _ _ _ => 0x930040a0⟩,
  ⟨0x4, 1, 4, .rw, false, false, 0x1, .imm, .single, .snscCtrl, fun _ _ _ => 0⟩,
  ⟨0x8, 1, 4, .ro, false, false, 0x3, .imm, .single, .none, fun _ _ _ => 0⟩,
  ⟨0xC, 1, 4, .rc, false, false, 0, .imm, .single, .none, fun _ _ _ => 0⟩,
  ⟨0x10, 1, 4, .rw, false, false, 0, .imm, .single, .none, fun _ _ _ => 0⟩,
  ⟨0x14, 1, 4, .rc, false, false, 0xC000FFFF, .imm, .single, .none, fun _ _ _ => 0⟩]

/-- The registers of page SNS (R412). -/
def pageSNSRegs : List RegDef := [
  ⟨0x0, 1, 4, .ro, false, false, 0xFFFFFFFF, .imm, .single, .none, fun _ i _ => 0x130000A0 + i * 0x1000⟩,
  ⟨0x4, 1, 4, .rw, false, true, 0xF, .held, .single, .snsCtrl, fun _ _ _ => 0xF⟩,
  ⟨0x8, 1, 4, .ro, false, false, 0xFF1, .imm, .single, .none, fun _ _ _ => 0x1⟩,
  ⟨0xC, 1, 4, .rc, false, false, 0x1F, .imm, .single, .none, fun _ _ _ => 0⟩,
  ⟨0x10, 1, 4, .rw, false, false, 0x1F, .imm, .single, .none, fun _ _ _ => 0x1F⟩,
  ⟨0x14, 1, 4, .rc, false, false, 0xC000FFFF, .imm, .single, .none, fun _ _ _ => 0⟩,
  ⟨0x20, 1, 4, .ro, false, false, 0xFFFFFFFF, .imm, .single, .none, fun _ _ _ => 0⟩,
  ⟨0x24, 1, 4, .ro, false, false, 0xFFFFFFFF, .imm, .single, .none, fun _ _ _ => 0⟩,
  ⟨0x28, 1, 4, .ro, false, false, 0xFFFFFF, .imm, .single, .none, fun _ _ _ => 0⟩,
  ⟨0x2C, 1, 4, .ro, false, false, 0xFFFFFFFF, .imm, .single, .none, fun _ _ _ => 0⟩,
  ⟨0x30, 1, 4, .rw, false, true, 0xFFFFFF, .held, .single, .none, fun _ i _ => auxCfgReset i⟩,
  ⟨0x34, 1, 4, .rw, false, true, 0xFFFFFFFF, .held, .single, .none, fun _ _ _ => 0⟩,
  ⟨0x38, 1, 4, .rw, false, true, 0xFFFFFFFF, .held, .single, .none, fun _ _ _ => 0⟩,
  ⟨0x3C, 1, 4, .rw, false, true, 0xFFFFFFFF, .held, .single, .none, fun _ _ _ => 0⟩,
  ⟨0x40, 1, 4, .rw, false, true, 0xFFFFFFFF, .held, .single, .none, fun _ _ _ => 0⟩,
  ⟨0x44, 1, 4, .rc, false, false, 0xFFFF, .imm, .single, .none, fun _ _ _ => 0⟩]

/-- The registers of page QM (R436). -/
def pageQMRegs : List RegDef := [
  ⟨0x0, 1, 4, .ro, false, false, 0xFFFFFFFF, .imm, .single, .none, fun _ _ _ => 0x140000A0⟩,
  ⟨0x4, 1, 4, .rw, false, false, 0, .imm, .single, .none, fun _ _ _ => 0⟩,
  ⟨0x8, 1, 4, .ro, false, false, 0, .imm, .single, .none, fun _ _ _ => 0⟩,
  ⟨0xC, 1, 4, .rc, false, false, 0x1, .imm, .single, .none, fun _ _ _ => 0⟩,
  ⟨0x10, 1, 4, .rw, false, false, 0x1, .imm, .single, .none, fun _ _ _ => 0x1⟩,
  ⟨0x14, 1, 4, .rc, false, false, 0xC000FFFF, .imm, .single, .none, fun _ _ _ => 0⟩,
  ⟨0x20, 1, 4, .ro, false, false, 0x1FFFF, .imm, .single, .none, fun _ _ _ => 0xFFF4⟩,
  ⟨0x24, 1, 4, .ro, false, false, 0x1FFFF, .imm, .single, .none, fun _ _ _ => 0x3800⟩,
  ⟨0x100, 64, 4, .rc, false, false, 0xFFFF, .imm, .single, .none, fun _ _ _ => 0⟩,
  ⟨0x200, 64, 4, .rc, false, false, 0xFFFFFFFF, .imm, .single, .none, fun _ _ _ => 0⟩]

/-- The registers of page QC (R437). -/
def pageQCRegs : List RegDef := [
  ⟨0x0, 1, 4, .ro, false, false, 0xFFFFFFFF, .imm, .single, .none, fun _ i _ => 0x950000A0 + i * 0x1000⟩,
  ⟨0x4, 1, 4, .rw, false, false, 0x1, .imm, .single, .qcCtrl, fun _ _ _ => 0⟩,
  ⟨0x8, 1, 4, .ro, false, false, 0x3, .imm, .single, .none, fun _ _ _ => 0⟩,
  ⟨0xC, 1, 4, .rc, false, false, 0, .imm, .single, .none, fun _ _ _ => 0⟩,
  ⟨0x10, 1, 4, .rw, false, false, 0, .imm, .single, .none, fun _ _ _ => 0⟩,
  ⟨0x14, 1, 4, .rc, false, false, 0xC000FFFF, .imm, .single, .none, fun _ _ _ => 0⟩]

/-- The registers of page Q (R434). -/
def pageQRegs : List RegDef := [
  ⟨0x0, 1, 4, .ro, false, false, 0xFFFFFFFF, .imm, .single, .none, fun _ i _ => 0x150000A0 + i * 0x1000⟩,
  ⟨0x4, 1, 4, .rw, false, false, 0x3, .imm, .single, .qCtrl, fun _ i _ => if i < 16 then 1 else 0⟩,
  ⟨0x8, 1, 4, .ro, false, false, 0xF, .imm, .single, .none, fun _ _ _ => 1⟩,
  ⟨0xC, 1, 4, .rc, false, false, 0x3, .imm, .single, .none, fun _ _ _ => 0⟩,
  ⟨0x10, 1, 4, .rw, false, false, 0x3, .imm, .single, .none, fun _ _ _ => 0x2⟩,
  ⟨0x14, 1, 4, .rc, false, false, 0xC000FFFF, .imm, .single, .none, fun _ _ _ => 0⟩,
  ⟨0x20, 1, 4, .rw, false, false, 0xF8FFF3FF, .imm, .single, .qCfg, fun _ i _ => qCfgReset i⟩,
  ⟨0x24, 1, 4, .rw, false, false, 0xFFFFFFFF, .imm, .single, .qPool, fun _ i _ => qPoolReset i⟩,
  ⟨0x28, 1, 4, .ro, false, false, 0xFFFFF, .imm, .single, .none, fun _ _ _ => 0⟩,
  ⟨0x2C, 1, 4, .ro, false, false, 0xFFFFF, .imm, .single, .none, fun _ _ _ => 0⟩,
  ⟨0x30, 1, 4, .ro, false, false, 0xFFFFFFFF, .imm, .lo, .popLo, fun _ _ _ => 0⟩,
  ⟨0x34, 1, 4, .ro, false, false, 0xFFFFFFFF, .imm, .hi, .none, fun _ _ _ => 0⟩,
  ⟨0x38, 1, 4, .wo, false, false, 0xFFFFFFFF, .imm, .lo, .pushLo, fun _ _ _ => 0⟩,
  ⟨0x3C, 1, 4, .wo, false, false, 0xFFFFFFFF, .imm, .hi, .pushHi, fun _ _ _ => 0⟩]

/-- The registers of page HLT (R505). -/
def pageHLTRegs : List RegDef := [
  ⟨0x0, 1, 4, .ro, false, false, 0xFFFFFFFF, .imm, .single, .none, fun _ _ _ => 0x160000A0⟩,
  ⟨0x4, 1, 4, .rw, false, false, 0x1, .imm, .single, .none, fun _ _ _ => 0x1⟩,
  ⟨0x8, 1, 4, .ro, false, false, 0x1F, .imm, .single, .none, fun _ _ _ => 0⟩,
  ⟨0xC, 1, 4, .rc, false, false, 0xF, .imm, .single, .none, fun _ _ _ => 0⟩,
  ⟨0x10, 1, 4, .rw, false, false, 0xF, .imm, .single, .none, fun _ _ _ => 0xF⟩,
  ⟨0x14, 1, 4, .rc, false, false, 0xC000FFFF, .imm, .single, .none, fun _ _ _ => 0⟩,
  ⟨0x20, 1, 4, .ro, false, false, 0xFFFFFFFF, .imm, .single, .none, fun _ _ _ => 0⟩,
  ⟨0x24, 2, 4, .ro, false, false, 0xFFFFFFFF, .imm, .lo, .none, fun _ _ _ => 0⟩,
  ⟨0x2C, 1, 4, .rw, false, false, 0xFF, .imm, .single, .none, fun _ _ _ => 0x64⟩,
  ⟨0x30, 1, 4, .rw, false, false, 0xFF, .imm, .single, .none, fun _ _ _ => 0xA⟩,
  ⟨0x34, 1, 4, .rw, false, false, 0xFFFF, .imm, .single, .none, fun _ _ _ => 0x12C⟩,
  ⟨0x38, 1, 4, .ro, false, false, 0xFFFFFFFF, .imm, .single, .none, fun _ _ _ => 0⟩,
  ⟨0x3C, 1, 4, .ro, false, false, 0xFFFFFFFF, .imm, .single, .none, fun _ _ _ => 0⟩,
  ⟨0x100, 64, 4, .ro, false, false, 0xFFFFFFFF, .imm, .single, .none, fun _ _ _ => 0⟩,
  ⟨0x200, 64, 4, .ro, false, false, 0xFFFFFFFF, .imm, .single, .none, fun _ _ _ => 0⟩]

/-- The registers of page GST (R506). -/
def pageGSTRegs : List RegDef := [
  ⟨0x0, 1, 4, .ro, false, false, 0xFFFFFFFF, .imm, .single, .none, fun _ _ _ => 0x170000A0⟩,
  ⟨0x4, 1, 4, .rw, false, false, 0x7, .imm, .single, .gstCtrl, fun _ _ _ => 0x7⟩,
  ⟨0x8, 1, 4, .ro, false, false, 0xF, .imm, .single, .none, fun _ _ _ => 0⟩,
  ⟨0xC, 1, 4, .rc, false, false, 0xF, .imm, .single, .none, fun _ _ _ => 0⟩,
  ⟨0x10, 1, 4, .rw, false, false, 0xF, .imm, .single, .none, fun _ _ _ => 0x7⟩,
  ⟨0x14, 1, 4, .rc, false, false, 0xC000FFFF, .imm, .single, .none, fun _ _ _ => 0⟩,
  ⟨0x20, 9, 4, .ro, false, false, 0xC000FFFF, .imm, .single, .none, fun _ _ _ => 0⟩,
  ⟨0x48, 1, 4, .rc, false, false, 0xFFFF, .imm, .single, .none, fun _ _ _ => 0⟩,
  ⟨0x50, 2, 4, .ro, false, false, 0xFFFFFFFF, .imm, .lo, .none, fun _ _ _ => 0⟩,
  ⟨0x58, 1, 4, .rw, false, false, 0xFFFF, .imm, .single, .none, fun _ _ _ => 0x148⟩,
  ⟨0x5C, 1, 4, .rw, true, false, 0xFFFFFFFF, .imm, .single, .tmrTest, fun _ _ _ => 0⟩,
  ⟨0x60, 3, 4, .ro, false, false, 0xFFFFFFFF, .imm, .single, .none, fun _ _ _ => 0⟩,
  ⟨0x6C, 1, 4, .ro, false, false, 0xFFFFFFFF, .imm, .single, .none, fun _ _ _ => 0⟩,
  ⟨0x70, 1, 4, .ro, false, false, 0xFFFFFFFF, .imm, .single, .none, fun _ _ _ => 0⟩,
  ⟨0x74, 1, 4, .ro, false, false, 0xFF, .imm, .single, .none, fun _ _ _ => 0⟩,
  ⟨0x78, 1, 4, .ro, false, false, 0xF, .imm, .single, .none, fun _ _ _ => 0⟩]

/-- The registers of page ENG (R257). -/
def pageENGRegs : List RegDef := [
  ⟨0x0, 1, 4, .ro, false, false, 0xFFFFFFFF, .imm, .single, .none, fun _ i _ => 0x180000A0 + i * 0x1000⟩,
  ⟨0x4, 1, 4, .rw, false, false, 0x1, .imm, .single, .engCtrl, fun _ _ _ => 0x1⟩,
  ⟨0x8, 1, 4, .ro, false, false, 0xFFFF0107, .imm, .single, .none, fun _ _ _ => 0x1⟩,
  ⟨0xC, 1, 4, .rc, false, false, 0x7, .imm, .single, .none, fun _ _ _ => 0⟩,
  ⟨0x10, 1, 4, .rw, false, false, 0x7, .imm, .single, .none, fun _ _ _ => 0x7⟩,
  ⟨0x14, 1, 4, .rc, false, false, 0xC000FFFF, .imm, .single, .none, fun _ _ _ => 0⟩,
  ⟨0x20, 1, 4, .ro, false, false, 0xFFFFFFFF, .imm, .single, .none, fun _ _ _ => 0⟩,
  ⟨0x24, 1, 4, .ro, false, false, 0xFFFFFFFF, .imm, .single, .none, fun _ _ _ => 0⟩,
  ⟨0x28, 1, 4, .ro, false, false, 0xFFFF, .imm, .single, .none, fun _ _ _ => 0⟩,
  ⟨0x2C, 1, 4, .rc, false, false, 0xFFFF, .imm, .single, .none, fun _ _ _ => 0⟩,
  ⟨0x30, 1, 4, .rc, false, false, 0xFFFF, .imm, .single, .none, fun _ _ _ => 0⟩,
  ⟨0x34, 1, 4, .ro, false, false, 0xFFFFFFFF, .imm, .single, .none, fun _ _ _ => 0⟩]

/-- The registers of page ENGC (R260). -/
def pageENGCRegs : List RegDef := [
  ⟨0x0, 1, 4, .ro, false, false, 0xFFFFFFFF, .imm, .single, .none, fun _ i _ => 0x980000A0 + i * 0x1000⟩,
  ⟨0x4, 1, 4, .rw, false, false, 0x1, .imm, .single, .engcCtrl, fun _ _ _ => 0⟩,
  ⟨0x8, 1, 4, .ro, false, false, 0x3, .imm, .single, .none, fun _ _ _ => 0⟩,
  ⟨0xC, 1, 4, .rc, false, false, 0, .imm, .single, .none, fun _ _ _ => 0⟩,
  ⟨0x10, 1, 4, .rw, false, false, 0, .imm, .single, .none, fun _ _ _ => 0⟩,
  ⟨0x14, 1, 4, .rc, false, false, 0xC000FFFF, .imm, .single, .none, fun _ _ _ => 0⟩]

/-- The registers of page FRXC (R170). -/
def pageFRXCRegs : List RegDef := [
  ⟨0x0, 1, 4, .ro, false, false, 0xFFFFFFFF, .imm, .single, .none, fun _ i _ => 0x870000A0 + i * 0x1000⟩,
  ⟨0x4, 1, 4, .rw, false, false, 0x1, .imm, .single, .frxcCtrl, fun _ _ _ => 0⟩,
  ⟨0x8, 1, 4, .ro, false, false, 0x3, .imm, .single, .none, fun _ _ _ => 0⟩,
  ⟨0xC, 1, 4, .rc, false, false, 0, .imm, .single, .none, fun _ _ _ => 0⟩,
  ⟨0x10, 1, 4, .rw, false, false, 0, .imm, .single, .none, fun _ _ _ => 0⟩,
  ⟨0x14, 1, 4, .rc, false, false, 0xC000FFFF, .imm, .single, .none, fun _ _ _ => 0⟩]

/-- The registers of page FTXC (R170). -/
def pageFTXCRegs : List RegDef := [
  ⟨0x0, 1, 4, .ro, false, false, 0xFFFFFFFF, .imm, .single, .none, fun _ i _ => 0x880000A0 + i * 0x1000⟩,
  ⟨0x4, 1, 4, .rw, false, false, 0x1, .imm, .single, .ftxcCtrl, fun _ _ _ => 0⟩,
  ⟨0x8, 1, 4, .ro, false, false, 0x3, .imm, .single, .none, fun _ _ _ => 0⟩,
  ⟨0xC, 1, 4, .rc, false, false, 0, .imm, .single, .none, fun _ _ _ => 0⟩,
  ⟨0x10, 1, 4, .rw, false, false, 0, .imm, .single, .none, fun _ _ _ => 0⟩,
  ⟨0x14, 1, 4, .rc, false, false, 0xC000FFFF, .imm, .single, .none, fun _ _ _ => 0⟩]

/-- Every page of R53 and R616; a page inside the extent of another stands before it. -/
def pages : List PageDef := [
  ⟨0x33000, 1, 0x100, .network, pageMACCRegs⟩,
  ⟨0x90200, 1, 0x100, .output, pageTDMCRegs⟩,
  ⟨0xB1060, 1, 0x20, .output, pageSNSC0Regs⟩,
  ⟨0xB1860, 1, 0x20, .output, pageSNSC1Regs⟩,
  ⟨0xB2060, 1, 0x20, .output, pageSNSC2Regs⟩,
  ⟨0xB2860, 1, 0x20, .output, pageSNSC3Regs⟩,
  ⟨0xB3060, 1, 0x20, .output, pageSNSC4Regs⟩,
  ⟨0xC0800, 4, 0x40, .memory, pageQCRegs⟩,
  ⟨0xE0800, 2, 0x4000, .processing, pageENGCRegs⟩,
  ⟨0x50A0000, 8, 0x100, .flow, pageFRXCRegs⟩,
  ⟨0x50A0800, 8, 0x100, .flow, pageFTXCRegs⟩,
  ⟨0x0, 1, 0x1000, .control, pageDIERegs⟩,
  ⟨0x1000, 1, 0x1000, .control, pageEVTRegs⟩,
  ⟨0x2000, 1, 0x1000, .control, pageHOSTRegs⟩,
  ⟨0x10000, 1, 0x1000, .control, pageRDNRegs⟩,
  ⟨0x20000, 1, 0x1000, .timing, pageTIMRegs⟩,
  ⟨0x30000, 2, 0x4000, .network, pageMACRegs⟩,
  ⟨0x40000, 1024, 0x40, .flow, pageFRXRegs⟩,
  ⟨0x50000, 1024, 0x40, .flow, pageFTXRegs⟩,
  ⟨0x60000, 1, 0x1000, .processing, pageGRFRegs⟩,
  ⟨0x61000, 1, 0x1000, .processing, pagePLCRegs⟩,
  ⟨0x70000, 1, 0x1000, .control, pageALMRegs⟩,
  ⟨0x80000, 1, 0x1000, .memory, pageMEMRegs⟩,
  ⟨0x81000, 1, 0x1000, .memory, pageMSGRegs⟩,
  ⟨0x82000, 1, 0x1000, .memory, pageRECRegs⟩,
  ⟨0x90000, 8, 0x400, .output, pageTDMRegs⟩,
  ⟨0xA0000, 4, 0x100, .output, pageAMPCRegs⟩,
  ⟨0xA1000, 32, 0x200, .output, pageAMPRegs⟩,
  ⟨0xB0000, 1, 0x1000, .output, pageSFERegs⟩,
  ⟨0xB1000, 80, 0x80, .output, pageSNSRegs⟩,
  ⟨0xC0000, 1, 0x1000, .memory, pageQMRegs⟩,
  ⟨0xC1000, 64, 0x40, .memory, pageQRegs⟩,
  ⟨0xD0000, 1, 0x1000, .control, pageHLTRegs⟩,
  ⟨0xD1000, 1, 0x1000, .control, pageGSTRegs⟩,
  ⟨0xE0000, 8, 0x1000, .processing, pageENGRegs⟩]

/-- Every table-memory range of R620. -/
def tables : List TableDef := [
  ⟨0x1000000, 4096, .rw, true, 0x00FFFFFF, .imm, .output⟩,
  ⟨0x2000000, 32, .rw, false, 0xFFFFFFFF, .imm, .network⟩,
  ⟨0x3000000, 32768, .rw, true, 0xFFFFFFFF, .staged, .processing⟩,
  ⟨0x3020000, 32768, .ro, false, 0xFFFFFFFF, .imm, .processing⟩,
  ⟨0x3040000, 1024, .rw, true, 0xFFFFFFFF, .staged, .processing⟩,
  ⟨0x3041000, 1024, .ro, false, 0xFFFFFFFF, .imm, .processing⟩,
  ⟨0x3042000, 1024, .rw, true, 0xFFFFFFFF, .staged, .processing⟩,
  ⟨0x3043000, 1024, .ro, false, 0xFFFFFFFF, .imm, .processing⟩,
  ⟨0x3080000, 131072, .rw, true, 0xFFFFFFFF, .staged, .processing⟩,
  ⟨0x3100000, 131072, .ro, false, 0xFFFFFFFF, .imm, .processing⟩,
  ⟨0x4000000, 32768, .rw, true, 0xFFFFFFFF, .staged, .processing⟩,
  ⟨0x4020000, 32768, .ro, false, 0xFFFFFFFF, .imm, .processing⟩,
  ⟨0x5000000, 65536, .rw, true, 0x800007FF, .staged, .flow⟩,
  ⟨0x5040000, 65536, .rw, true, 0x800007FF, .staged, .flow⟩,
  ⟨0x5080000, 16384, .rw, true, 0xFFFFFFFF, .staged, .flow⟩,
  ⟨0x5090000, 4096, .ro, false, 0xFFFFFFFF, .imm, .flow⟩,
  ⟨0x5094000, 2048, .ro, false, 0xFFFFFFFF, .imm, .flow⟩,
  ⟨0x6000000, 256, .rw, true, 0xFFFFFFFF, .imm, .control⟩]

/-- Where an address leads: the register, its instance and index, the word of a paired-write slot. -/
structure Loc where
  reg : RegDef
  i : Nat
  j : Nat
  region : Region
  block : Nat
  confirm : Bool
  table : Bool

/-- The register of a page that holds the word at an offset, its index, and whether the word is a CONFIRM. -/
def findReg (regs : List RegDef) (off : Nat) : Option (RegDef × Nat × Bool) :=
  match regs with
  | [] => none
  | r :: rest =>
    if r.off ≤ off ∧ (off - r.off) / r.stride < r.n then
      if (off - r.off) % r.stride = 0 then some (r, (off - r.off) / r.stride, false)
      else if r.attr = .pw ∧ (off - r.off) % r.stride = 4 then some (r, (off - r.off) / r.stride, true)
      else findReg rest off
    else findReg rest off

/-- The place of a word address among the pages; none where unimplemented (R53, R59). -/
def findPage (ps : List PageDef) (a : Nat) : Option Loc :=
  match ps with
  | [] => none
  | p :: rest =>
    if p.base ≤ a ∧ (a - p.base) / p.stride < p.count then
      match findReg p.regs ((a - p.base) % p.stride) with
      | some (r, j, c) =>
        some ⟨r, (a - p.base) / p.stride, j, p.region, p.base + p.stride * ((a - p.base) / p.stride), c, false⟩
      | none => findPage rest a
    else findPage rest a

/-- The place of a word address among the table memories. -/
def findTable (ts : List TableDef) (a : Nat) : Option Loc :=
  match ts with
  | [] => none
  | t :: rest =>
    if t.base ≤ a ∧ a < t.base + 4 * t.words then
      some ⟨⟨0, t.words, 4, t.attr, false, t.m, t.mask, t.cls, .single, .none, fun _ _ _ => 0⟩,
        0, (a - t.base) / 4, t.region, t.base, false, true⟩
    else findTable rest a

/-- The place of a word address in the map of R53; none where unimplemented. -/
def locate (a : Nat) : Option Loc :=
  match findPage pages a with
  | some l => some l
  | none => findTable tables a

/-- Implemented bits of word j of a table (R163, R208, R210, R213 to R215). -/
def graphMask (base j : Nat) : Nat :=
  match base with
  | 0x3000000 => if j % 8 = 0 then 0x9F003F00 else 0xFFFFFFFF
  | 0x4000000 => if j % 2 = 0 then 0xBFFFFFFF else 0xFFFFFFFF
  | 0x3040000 => if j % 4 = 0 then 0x80000FFF else 0
  | 0x3042000 => if j % 16 = 0 then 0x8000FF0F else if j % 16 = 1 then 0 else if j % 2 = 0 then 0xFFFFFFFF else 0xFFFFEFFF
  | 0x1000000 => 0x00FFFFFF
  | 0x5000000 => 0x800007FF
  | 0x5040000 => 0x800007FF
  | _ => 0xFFFFFFFF

/-- Implemented bits of the word at a place (R59). -/
def Loc.mask (l : Loc) : Nat :=
  if l.table then graphMask l.block l.j
  else if l.block ≥ 0xB1000 ∧ l.block < 0xB1000 + 80 * 0x80 ∧ l.reg.off = 0x30 then auxCfgMask l.i else l.reg.mask

/-- The value a word holds at reset (R614), and what it reads as while nothing has written it. -/
def resetWord (h : HalfId) (a : Nat) : Word :=
  match locate a with
  | some l => if l.confirm then 0 else BitVec.ofNat 32 (l.reg.reset h l.i l.j)
  | none => 0

end Sys2Proof.Machine
end

