-- ==== Sys2Proof/Machine/Sparse.lean ====
section
/-! DEFINITION. Sparse storage: a list of (index, value) pairs, indices strictly rising, no pair equal to what an
unlisted index reads as. Registers, memories and flash are held so; equal contents are equal lists. -/

namespace Sys2Proof.Machine

/-- The value at k: the listed one, else what an unlisted index reads as. -/
def lookAt {α : Type} (d : Nat → α) : List (Nat × α) → Nat → α
  | [], k => d k
  | (j, v) :: rest, k => if k = j then v else lookAt d rest k

/-- Inserts a pair at its place among rising indices, replacing the pair of its index. -/
def insertAt {α : Type} (k : Nat) (v : α) : List (Nat × α) → List (Nat × α)
  | [] => [(k, v)]
  | (j, w) :: rest =>
    if k < j then (k, v) :: (j, w) :: rest
    else if k = j then (k, v) :: rest
    else (j, w) :: insertAt k v rest

/-- Removes the pair of an index. -/
def eraseAt {α : Type} (k : Nat) : List (Nat × α) → List (Nat × α)
  | [] => []
  | (j, w) :: rest => if k = j then eraseAt k rest else (j, w) :: eraseAt k rest

/-- Writes v at k and keeps the canonical form. -/
def storeAt {α : Type} [DecidableEq α] (d : Nat → α) (m : List (Nat × α)) (k : Nat) (v : α) : List (Nat × α) :=
  if v = d k then eraseAt k m else insertAt k v m

/-- Indices strictly rising. -/
def rising {α : Type} : List (Nat × α) → Bool
  | [] => true
  | [_] => true
  | (i, _) :: (j, w) :: rest => decide (i < j) && rising ((j, w) :: rest)

/-- The canonical form: indices strictly rising, and no pair equal to what an unlisted index reads as. -/
def canonical {α : Type} [DecidableEq α] (d : Nat → α) (m : List (Nat × α)) : Bool :=
  rising m && m.all (fun p => decide (p.2 ≠ d p.1))

/-- Removes every pair whose index satisfies p. -/
def dropWhere {α : Type} (p : Nat → Bool) (m : List (Nat × α)) : List (Nat × α) := m.filter (fun q => !p q.1)

end Sys2Proof.Machine
end

