-- ==== Sys2Proof/Machine/State.lean ====
section
/-! DEFINITION. The state of the package: two halves with everything the spec gives them, the shared lines, and the
queue of waiting commands. Plain data throughout. -/

namespace Sys2Proof.Machine

/-- One access of a requester (R61), with what the check bits of the word show that a pop takes (R430); it may wait behind a
stalled pop (R42). -/
structure Access where
  addr : Nat
  width : Width
  write : Bool
  data : Word
  ecc : Ecc
  deriving DecidableEq, Repr

/-- What the last completed read or write of a requester returned: data, and false on a bus error. -/
structure Resp where
  data : Word
  ok : Bool
  deriving DecidableEq, Repr

/-- The state the fabric keeps for one requester: the shadow of R63 with its tag, the held LO of R64, the last
completion, the queue a pop stalls on (R424), and the accesses that wait behind it (R42). -/
structure Port where
  shadow : Option (Nat × Word)
  heldLo : Option (Nat × Word)
  resp : Resp
  /-- The completion before the last: the first half of a 64-bit access (R61). -/
  prev : Resp
  stall : Option Nat
  backlog : List Access
  deriving DecidableEq, Repr

/-- A pending paired-write value: slot address, requester, value (R67, R69). -/
structure PwPending where
  slot : Nat
  req : Req
  value : Word
  deriving DecidableEq, Repr

/-- A QSPI frame whose accesses are under way (R46 to R52): the accesses still to come, the words read so far. -/
structure QspiFrame where
  read : Bool
  total : Nat
  todo : List Nat
  data : List Word
  words : List Word
  deriving DecidableEq, Repr

/-- The access state of a half: three requesters (R63), pending paired writes, the copies of triplicated fields that
differ from the value in `regs` (R71: copies 1 and 2 beside copy 0), the QSPI frame in progress and the last response. -/
structure AccessSt where
  host : Port
  partner : Port
  mgmt : Port
  pw : List PwPending
  copies : List (Nat × (Word × Word))
  frame : Option QspiFrame
  qspiOut : List Byte
  deriving DecidableEq, Repr

/-- What the management firmware hands to a MAC to send on its rings, by meaning; the bytes, where a standard outside the
spec gives them, come with TX_FRAME_START. -/
inductive FwMsg
  /-- An answer to an ARP request: address asked for, requester. -/
  | arpReply (ip : Nat) (toIp : Nat) (toMac : List Byte)
  /-- A gratuitous ARP for a service address (R465). -/
  | gratuitousArp (ip : Nat)
  /-- An IGMP report of version v from an address: groups with their source filters (R158). -/
  | igmpReport (v src : Nat) (groups : List (Nat × Nat))
  /-- An IGMP leave of version v. -/
  | igmpLeave (v src : Nat) (group : Nat × Nat)
  /-- A SAP announcement or deletion of a transmit slot from the service address: its FORMAT and RTP offset and the
  grandmaster identity (R155). -/
  | sap (slot src : Nat) (delete : Bool) (format offset : Word) (grandmaster : BitVec 64)
  /-- A PTP message: messageType, sequence number, whether it is an event message (R174). -/
  | ptp (type seq : Nat) (event : Bool)
  deriving DecidableEq, Repr

/-- A frame to send: bytes without FCS, transmit queue (R96), timestamp tag asked for, ring with its first descriptor
and their number, flow slot with its RTP sequence number, when its first bit left, when its present fragment began and the bytes
sent before that (R103). -/
structure TxFrame where
  bytes : List Byte
  queue : Nat
  tsTag : Option Nat
  ring : Option (Nat × Nat × Nat)
  slot : Option (Nat × Nat)
  sfd : Nat
  fragAt : Nat
  fragSent : Nat
  deriving DecidableEq, Repr

/-- The memory of one descriptor ring as the device sees it (R113, R114): descriptors by index, and the bytes it has put
into each receive buffer. -/
structure RingMem where
  descs : List (Nat × List Word)
  bufs : List (Nat × List Byte)
  deriving DecidableEq, Repr

/-- A preemptable frame being reassembled (R104): frame number, next fragment count, instant of its first
bit, bytes so far. -/
structure Assembly where
  n : Nat
  next : Nat
  start : Nat
  bytes : List Byte
  deriving DecidableEq, Repr

/-- The working state of one MAC: waiting express frames, the frame on the wire, the frame cut for an express frame, the
last frame sent, reassembly, pause (start instant, length in ns), verification attempts, start of LPI, rings. -/
structure MacSt where
  txq7 : List TxFrame
  txq6 : List TxFrame
  current : Option TxFrame
  cut : Option TxFrame
  lastSent : List Byte
  assembly : Option Assembly
  pause : Option (Nat × Nat)
  verifyTries : Nat
  lpiSince : Nat
  rx : List RingMem
  tx : List RingMem
  /-- Messages of the firmware waiting on ring 2 and ring 3. -/
  fw2 : List FwMsg
  fw3 : List FwMsg
  deriving DecidableEq, Repr

/-- A ring with nothing in it. -/
def RingMem.init : RingMem := ⟨[], []⟩

/-- A MAC with nothing in progress. -/
def MacSt.init : MacSt :=
  { txq7 := [], txq6 := [], current := none, cut := none, lastSent := [], assembly := none, pause := none
    verifyTries := 0, lpiSince := 0
    rx := [RingMem.init, RingMem.init, RingMem.init, RingMem.init]
    tx := [RingMem.init, RingMem.init, RingMem.init, RingMem.init]
    fw2 := [], fw3 := [] }

/-- The network settings of one port (R157): own address, service address, announced clock values; prefix length 0
while an address is not set. -/
structure NetPort where
  ownIp : Word
  ownPrefix : Nat
  svcIp : Word
  svcPrefix : Nat
  priority1 : Nat
  priority2 : Nat
  clockClass : Nat
  clockAccuracy : Nat
  deriving DecidableEq, Repr

/-- The configuration of a receive slot at one moment: the M words of its page, its channel map (R162, R169). -/
structure RxCfg where
  ctrl : Word
  dst : Word
  src : Word
  format : Word
  timing : Word
  offset : Word
  map : List Word
  deriving DecidableEq, Repr

/-- The working state of a receive slot: jitter buffer by media index, packets merged (extended sequence number, RTP
timestamp), sequence tracking of its own path, policing credit, fade gain and concealment in sample counts. -/
structure RxSlot where
  buf : List (Nat × List Word)
  seen : List (Nat × Nat)
  ssrc : Option Nat
  ext : Option Nat
  credit : Nat
  creditAt : Nat
  /-- The fade gain in steps of one sample of 5 ms (R144, R145). -/
  gain : Nat
  /-- What is left of a fade to zero, in the same steps; none while no fade runs. -/
  fade : Option Nat
  /-- What is left of the fade of CHANGING (R161). -/
  leave : Nat
  /-- Consecutive missing positions. -/
  miss : Nat
  last : List Word
  /-- The next media index to release. -/
  next : Nat
  /-- The next release holds the last sample: a step of −1 absorbed (R146, R190). -/
  hold : Bool
  lastArr : Option Nat
  policedAt : Option Nat
  changing : Option RxCfg
  deriving DecidableEq, Repr

/-- The configuration of a transmit slot at one moment (R147, R168). -/
structure TxCfg where
  ctrl : Word
  format : Word
  timing : Word
  offset : Word
  map : List Word
  tmpl : List Word
  deriving DecidableEq, Repr

/-- The working state of a transmit slot: the packet last launched, the first packet allowed, the configuration that runs
on to a packet boundary after a change (R161). -/
structure TxSlot where
  last : Option Nat
  first : Nat
  old : Option (TxCfg × Nat)
  deriving DecidableEq, Repr

/-- A flow announced by SAP (R154). -/
structure SapEntry where
  info : SapInfo
  deriving DecidableEq, Repr

/-- What the management firmware keeps of the flows: slots opened and closing (R156), memberships by port, group and
source (R158), the querier's version by port, announcements heard. -/
structure FlowFw where
  openRx : List Nat
  openTx : List Nat
  closing : List (Bool × Nat)
  joined : List (Nat × Nat × Nat)
  igmpV2 : List Nat
  sap : List SapEntry
  /-- The transmit slots announced (R155). -/
  announced : List Nat
  deriving DecidableEq, Repr

/-- A receive slot with nothing in it. -/
def RxSlot.init : RxSlot :=
  { buf := [], seen := [], ssrc := none, ext := none, credit := 0, creditAt := 0, gain := 0, fade := none, leave := 0
    miss := 0, last := [], next := 0, hold := false, lastArr := none, policedAt := none, changing := none }

/-- A transmit slot with nothing launched. -/
def TxSlot.init : TxSlot := ⟨none, 0, none⟩

/-- The firmware's view of the flows at reset. -/
def FlowFw.init : FlowFw := ⟨[], [], [], [], [], [], []⟩

/-- What the half keeps of one reference: `FOFS` once per second, newest first (60 s and one more), activity lost, wrong
mode or range, agreement seen once since a dispute was lost (R177, R179). -/
structure RefSt where
  hist : List Int
  lost : Bool
  badMode : Bool
  agreed : Bool
  deriving DecidableEq, Repr

/-- One PTP ordinary clock: grandmaster identity, messages sent (R174, R175). -/
structure PtpPort where
  gm : BitVec 64
  seq : Nat
  deriving DecidableEq, Repr

/-- The Timing region's working state: references, PTP clocks, the step that waits for the next boundary with whether it
must be a time jump (R189, R190), a lock has been held, a time-bearing reference has been selected, a dispute stands, CD4
runs, the effective loop bandwidth code (R184), the frequency word once per locked second (R192), the PPS ball. -/
structure TimSt where
  refs : List RefSt
  ptp : List PtpPort
  step : Option (Int × Bool)
  lockHeld : Bool
  timed : Bool
  dispute : Bool
  cd4 : Bool
  bw : Nat
  freqHist : List Int
  pps : Bool
  deriving DecidableEq, Repr

/-- A reference that has measured nothing. -/
def RefSt.init : RefSt := ⟨[], false, false, false⟩

/-- The Timing region at reset. -/
def TimSt.init : TimSt :=
  { refs := List.replicate 8 RefSt.init, ptp := [⟨0, 0⟩, ⟨0, 0⟩], step := none, lockHeld := false, timed := false
    dispute := false, cd4 := true, bw := 0, freqHist := [], pps := false }

/-- What an alarm feed plays (R216): a message player or an alarm tone generator. -/
inductive Source
  | player (p : Nat)
  | tone (g : Nat)
  deriving DecidableEq, Repr

/-- An alarm feed of a zone (R216): level, source, the alarm action entry that created it, whether generator 31 plays in
its place (R221). -/
structure Feed where
  level : Nat
  src : Source
  mark : Option Nat
  replaced : Bool
  deriving DecidableEq, Repr

/-- The arbiter's state of one zone (R216): feeds in order of assignment, control states that are on with their origins,
mute level, VOX levels active with the half's age at their last block (R215), the winner (R218). -/
structure ZoneSt where
  feeds : List Feed
  ctl : List (Nat × Option Nat)
  mute : Nat
  vox : List (Nat × Nat)
  winner : Option Nat
  deriving DecidableEq, Repr

/-- A zone in which nothing is active. -/
def ZoneSt.init : ZoneSt := ⟨[], [], 0, [], none⟩

/-- A message player's position (R307): the sample frame of the message it plays next, at 48 kHz, and whether the feed
repeats. Its page word holds the rest. -/
structure PlayerSt where
  pos : Nat
  half96 : Bool
  repeats : Bool
  deriving DecidableEq, Repr

/-- An alarm tone generator that plays (R263): its pattern, samples played. -/
structure ToneSt where
  pattern : Nat
  pos : Nat
  deriving DecidableEq, Repr

/-- A command accepted for the arbiter (R261, R264): route (0 and 1 ports, 2 EVAC, 3 host), receipt in ns of the half's
count, command code, priority, zones, source, flags, entry mark, and what its log record needs (R281). A removal under
R277 has code 0x80. -/
structure AlarmCmd where
  route : Nat
  at_ : Nat
  code : Nat
  prio : Nat
  zones : List Nat
  source : Nat
  flags : Nat
  mark : Option Nat
  key : Nat
  seq : Nat
  issuer : Nat
  noTime : Bool
  /-- Bytes 0 to 79 of a network command. -/
  head : List Byte
  /-- Receipt in ns of PTP time. -/
  ptp : Nat
  /-- The log already holds its record (R279). -/
  logged : Bool
  /-- Where the reply goes: port, address, UDP port, MAC address. -/
  reply : Option (Nat × Nat × Nat × List Byte)
  deriving DecidableEq, Repr

/-- A frame of alarm class that waits for authentication (R272): its port, its bytes without FCS, its receipt in ns of the
half's count and of PTP time. -/
structure AlarmFrame where
  port : Nat
  bytes : List Byte
  at_ : Nat
  ptp : Nat
  deriving DecidableEq, Repr

/-- The Alarm path's working state: frames that wait for authentication (R272), commands that wait for a boundary (R264),
held commands (R279), the bytes 0 to 79 of each issuer's last accepted frame (R270), the issuers' buckets in 1/10^9 of a
token with the instant of their level (R272), EVAC inputs, the flags of the alarm action entries (R279). -/
structure AlarmSt where
  waiting : List AlarmFrame
  queue : List AlarmCmd
  held : List AlarmCmd
  lastHead : List (Nat × List Byte)
  buckets : List (Nat × (Nat × Nat))
  /-- Last class other than UNKNOWN of each input, for R276. -/
  lastClass : List (Nat × Nat)
  /-- Inputs in a wiring episode (R276). -/
  episode : List Nat
  /-- Alarm action entries executed whose trigger has not ended (R279). -/
  flags : List Nat
  /-- The half has become ACTIVE and owes the first boundary of R279. -/
  firstBoundary : Bool
  deriving DecidableEq, Repr

/-- One part of a node as placed (R243): node, first channel and count, engine, cost. -/
structure Part where
  node : Nat
  first : Nat
  count : Nat
  engine : Nat
  cost : Nat
  deriving DecidableEq, Repr

/-- A placement (R243, R246): parts, nodes left unplaced, critical path, KiB of the local store, MiB and MB/s of DRAM. -/
structure Placement where
  parts : List Part
  unplaced : List Nat
  crit : Nat
  lsKiB : Nat
  dramMiB : Nat
  dramBw : Nat
  deriving DecidableEq, Repr

/-- A submission in progress (R223): its target block once it is PENDING, its placement. -/
structure Submission where
  target : Option Nat
  place : Placement
  deriving DecidableEq, Repr

/-- A re-placement under way (R253): age of the half at the retirement, the stage that comes next. -/
structure Replace where
  since : Nat
  stage : Nat
  deriving DecidableEq, Repr

/-- The state of one graph node between blocks (R228, R235): filter and delay histories as rows of words, small counts,
the last output by channel, positions missing, steps of gain below unity and fade of R238. -/
structure NodeSt where
  rows : List (List Word)
  nums : List Nat
  last : List Word
  miss : Nat
  gain : Nat
  fade : Option Nat
  deriving DecidableEq, Repr

/-- A node in its zero state (R228). -/
def NodeSt.init : NodeSt := ⟨[], [], [], 0, 0, none⟩

/-- The Processing region's working state: submission, answer to a commit record on its way, whether an attempt to accept
the plan in force is due (R224), zones, players, generators, node states, gain ramps by node or by 0x10000 + edge (start
in 1/61440 dB, samples left; R228), placement in force, placement waiting for a boundary (R252, R253), nodes missing
in this block, re-placement, engine overruns by age (R237), engines that leave service or go to test with the next placement,
known-answer tests under way, the cause of each engine's last retirement (R250, R260), rows migrating (R248), rows retired, a
rate change under way (R229), the digests of the block are void (R239). -/
structure GraphSt where
  sub : Option Submission
  recordOut : Bool
  answer : Option Bool
  planDue : Bool
  zones : List (Nat × ZoneSt)
  players : List (Nat × PlayerSt)
  tones : List (Nat × ToneSt)
  nodes : List (Nat × NodeSt)
  ramps : List (Nat × (Int × Nat))
  place : Placement
  nextPlace : Option Placement
  missing : List Nat
  replace : Option Replace
  overruns : List (Nat × Nat)
  disabling : List Nat
  kat : List Nat
  causes : List (Nat × Nat)
  toTest : List Nat
  migrating : List Nat
  retiredRows : Nat
  rateFade : Nat
  voids : Bool
  deriving DecidableEq, Repr

/-- A placement of nothing. -/
def Placement.init : Placement := ⟨[], [], 0, 0, 0, 0⟩

/-- The Alarm path at reset. -/
def AlarmSt.init : AlarmSt := ⟨[], [], [], [], [], [], [], [], false⟩

/-- The Processing region at reset. -/
def GraphSt.init : GraphSt :=
  { sub := none, recordOut := false, answer := none, planDue := true, zones := [], players := [], tones := []
    nodes := [], ramps := [], place := Placement.init, nextPlace := none, missing := [], replace := none
    overruns := [], disabling := [], kat := [], causes := [], toTest := [], migrating := [], retiredRows := 0, rateFade := 0, voids := false }

/-- The message store's working state (R283 to R306): DRAM words by address / 4, poisoned lines, whether the staging bank
is open (R294), the target block of a library switch (R299), a bulk copy under way with what it is for, the transfer in
progress (area, PIO, place in the area, bytes left, a source line was uncorrectable), corrected reads by page and by row as
ages of the half (R287, R292), the age at which the scrub pass began (R286). -/
structure StoreSt where
  dram : List (Nat × Word)
  poison : List Nat
  opened : Bool
  pendingAt : Option Nat
  /-- The bank copied and whether it is the staging bank of a load. -/
  copying : Option Bool
  xferArea : Nat
  xferPio : Bool
  xferOfs : Nat
  xferLeft : Nat
  xferBad : Bool
  corrected : List (Nat × List Nat)
  sramRows : List (Nat × List Nat)
  scrubAt : Nat
  deriving DecidableEq, Repr

/-- The recorder's working state (R309 to R313): the frames in the ring (offset, bytes), oldest first; whether it records,
the channels and the header values of the frame being filled, its sample frames at the half's rate (newest last); a frame
complete but not yet written (data bytes, header bytes 0 to 59); GAP and SESSION_START owed, a wrap seen. -/
structure RecSt where
  ring : List (Nat × Nat)
  on : Bool
  chans : List Nat
  seq : Nat
  startNs : Nat
  planId : Word
  frame : List (List Word)
  ready : Option (List Byte × List Byte)
  ls : Bool
  gap : Bool
  session : Bool
  wrapped : Bool
  deriving DecidableEq, Repr

/-- The store at reset. -/
def StoreSt.init : StoreSt :=
  { dram := [], poison := [], opened := false, pendingAt := none, copying := none, xferArea := 0, xferPio := false
    xferOfs := 0, xferLeft := 0, xferBad := false, corrected := [], sramRows := [], scrubAt := 0 }

/-- The recorder at reset. -/
def RecSt.init : RecSt :=
  { ring := [], on := false, chans := [], seq := 0, startNs := 0, planId := 0, frame := [], ready := none, ls := false
    gap := false, session := true, wrapped := false }

/-- The working state of a TDM port (R327 to R333): a frame start has been seen since WAIT_CLOCK, the frame grid has been
found, consecutive frame errors, the port restarts at the next boundary, frames of the block by position (slave mode: in
order of arrival), slots that conceal. -/
structure TdmPort where
  seen : Bool
  found : Bool
  errs : Nat
  start : Bool
  frames : List (Nat × List Word)
  hold : NodeSt
  deriving DecidableEq, Repr

/-- Sums over loop samples of a channel: number, v, v², v·i, i², in 2^-24 and 2^-48 of full scale (R358, R362, R375). -/
structure Meas where
  n : Nat
  v : Int
  vv : Nat
  vi : Int
  ii : Nat
  deriving DecidableEq, Repr

/-- Nothing measured. -/
def Meas.zero : Meas := ⟨0, 0, 0, 0, 0⟩

/-- The working state of one amplifier channel: trips of the last 16 carrier periods, newest first (R355); cut until the end
of this period (R354); loop history (R347); the modulation index in use, the edges of the period (R343; empty in the
zero-vector); samples of soft start (R353); blocks since a clipped one, a clipped half-period in this block (R345);
measurements of this block, of earlier blocks newest first, of the DC window (R358, R362); a DC window beyond the limit;
power reduction in 1/8000 dB (R358); greatest tracking difference of this block in 2^-24 (R370). -/
structure AmpCh where
  trips : List Bool
  cut : Bool
  e : List Int
  u : List Int
  m : Int
  edges : List Int
  soft : Nat
  clipAgo : Nat
  clipped : Bool
  blk : Meas
  past : List Meas
  dcWin : Meas
  dcOver : Bool
  pgain : Nat
  err : Nat
  deriving DecidableEq, Repr

/-- The working state of one amplifier cluster: `PSENc_n` has read low for 10 ms (R352), stuck level of the ball, the pull
withdrawn after a fault or a shutdown (R361, R367), the bus range armed, left, its pull released (R363), 1 ms of a carrier
change (R342), the carrier in effect, reductions by power and by heat in 1/8000 dB, the T_N term (R359, R360), T_N in
1/16 °C, zero-vector since its last carrier boundary, loop samples since the block boundary, bus code, the request that the
mirror stream carries (R364). -/
structure AmpCl where
  settled : Bool
  stuck : Option Bool
  released : Bool
  armed : Bool
  busBad : Bool
  busRel : Bool
  changing : Bool
  carrier : Nat
  cgain : Nat
  tgain : Nat
  tnTerm : Nat
  tn : Option Int
  zero : Bool
  phase : Nat
  request : Bool
  deriving DecidableEq, Repr

/-- The working state of a converter (R380, R396): causes that make it invalid, cycle of the profile from which it counts,
first outputs still unsettled; CIC integrators and combs, FIR line newest first, CIC outputs since the last output,
consecutive extreme codes, cycles since an overloaded one (R384, R385, R381). -/
structure Conv where
  causes : List Nat
  start : Nat
  unsettled : Nat
  ints : List Nat
  combs : List Nat
  line : List Int
  extreme : Nat
  overAgo : Option Nat
  thCount : List Nat
  join : Bool
  deriving DecidableEq, Repr

/-- A profile as checked (R388): CFG, FIR, GD_PROG, coefficients. -/
structure ProfCfg where
  cfg : Word
  fir : Word
  gd : Word
  coefs : List Int
  deriving DecidableEq, Repr

/-- The working state of a user profile (R388 to R395): in effect, accepted and waiting, a synchronising reset due, the age of the
half at the last one, outputs since. -/
structure ProfSt where
  now : Option ProfCfg
  next : Option ProfCfg
  syncDue : Bool
  block : Nat
  n : Nat
  deriving DecidableEq, Repr

/-- Larkspur's state of one channel (R400 to R405): valid intervals of each band newest first (re, im), last interval valid
by band, updates in DEVIATION, in OPEN and without data, ratio ρ, intervals at or above and below the earth-fault limits,
capture sums by band (n, re, im) and the capture's validity, pilot and its ramp in samples, threshold counts. -/
structure LspCh where
  bands : List (List (Int × Int))
  valid : List Bool
  dev : Nat
  openCnt : Nat
  noData : Nat
  efHigh : Nat
  efLow : Nat
  capture : Option (List (Nat × Int × Int))
  pilot : Bool
  ramp : Nat
  deriving DecidableEq, Repr

/-- The Output region's working state: TDM ports and what `DOUT` carries by port, slot and position (R318 to R333), amplifier
channels and clusters, pulls released under R365, converters, profiles, Larkspur; a system-profile reset waits (R397),
the data plane was forced at the last boundary (R395). -/
structure OutSt where
  tdm : List TdmPort
  dout : List (Nat × Word)
  ch : List (Nat × AmpCh)
  cl : List AmpCl
  pullsOff : Bool
  conv : List (Nat × Conv)
  prof : List ProfSt
  lsp : List (Nat × LspCh)
  sysSync : Bool
  forced : Bool
  deriving DecidableEq, Repr

/-- A port with nothing in progress. -/
def TdmPort.init : TdmPort := ⟨false, false, 0, false, [], NodeSt.init⟩

/-- An amplifier channel at rest. -/
def AmpCh.init : AmpCh :=
  { trips := [], cut := false, e := [], u := [], m := 0, edges := [], soft := 0, clipAgo := 8, clipped := false
    blk := Meas.zero, past := [], dcWin := Meas.zero, dcOver := false, pgain := 0, err := 0 }

/-- An amplifier cluster at reset. -/
def AmpCl.init : AmpCl :=
  { settled := false, stuck := none, released := false, armed := false, busBad := false, busRel := false
    changing := false, carrier := 1, cgain := 0, tgain := 0, tnTerm := 0, tn := none, zero := true, phase := 0
    request := false }

/-- A converter at reset. -/
def Conv.init : Conv := ⟨[], 0, 0, [], [], [], 0, none, [0, 0], false⟩

/-- A profile that is off. -/
def ProfSt.init : ProfSt := ⟨none, none, false, 0, 0⟩

/-- A line that Larkspur has not watched. -/
def LspCh.init : LspCh :=
  { bands := [[], [], [], [], [], [], [], [], []], valid := [], dev := 0, openCnt := 0, noData := 0, efHigh := 0, efLow := 0
    capture := none, pilot := false, ramp := 0 }

/-- The Output region at reset. -/
def OutSt.init : OutSt :=
  { tdm := List.replicate 8 TdmPort.init, dout := [], ch := [], cl := List.replicate 4 AmpCl.init, pullsOff := false
    conv := [], prof := List.replicate 7 ProfSt.init, lsp := [], sysSync := true, forced := false }

/-- A gap marker that R427 holds outside its queue: source of the first dropped item, packets, items. -/
structure HeldGap where
  src : Nat
  packets : Nat
  items : Nat
  deriving DecidableEq, Repr

/-- The contents of one queue (R415): its items oldest first, how many words of the head cell are already popped
(R418), the held gap marker, the requesters whose pops stall, oldest first (R424). -/
structure Queue where
  items : List (BitVec 64)
  headOff : Nat
  held : Option HeldGap
  waiters : List Req
  deriving DecidableEq, Repr

/-- The signal on the Draught wire (R445). -/
inductive Draught
  | still | alive | yield
  deriving DecidableEq, Repr

/-- The role of a half (R438). -/
inductive Role
  | offline | syncing | standby | active | isolated
  deriving DecidableEq, Repr

/-- The stage of a give-up of control (R460): detected and waiting for the carrier boundary, line released and
waiting for the PSEN release, done and waiting for its recovery (R461). -/
inductive GiveUp
  | idle
  | detected (cause : Nat)
  | released (cause : Nat)
  | recover (cause : Nat)
  deriving DecidableEq, Repr

/-- A planned handover (R466 to R468): asked or agreed on the old half, agreed or waiting for the old line on the new
half, released and still launching on the old half. The number is the target block T. -/
inductive Handover
  | idle
  | asked (target : Nat)
  | agreed (target : Nat)
  | taking (target : Nat)
  | waiting (target : Nat)
  | launching (target : Nat)
  deriving DecidableEq, Repr

/-- How far a RELEASE holds off new kills (R455): not, until a heartbeat returns, until it is lost again. -/
inductive KillHold
  | off | untilSeen | untilLost
  deriving DecidableEq, Repr

/-- The sentinel of a half and the role machinery around it. -/
structure Sentinel where
  /-- The half's output on its ownership line (R449). -/
  own : Bool
  /-- The level at which the line sticks when it does not follow the output (R459 cause 0x000A). -/
  ownStuck : Option Bool
  /-- The kill pattern is driven (R450). -/
  kill : Bool
  draught : Draught
  /-- All three copies disagree: no line, no kill, Draught static until power-on or pin reset (R476). -/
  dead : Bool
  /-- Forcing of the three planes (R22). -/
  forceData : Bool
  forceCtl : Bool
  forceMgmt : Bool
  giveUp : GiveUp
  /-- The recovery of a half that goes to ISOLATED after giving up (R452). -/
  toIsolated : Bool
  /-- The half entered ISOLATED after giving up control (R442). -/
  isoFault : Bool
  /-- Ages of the half at its give-ups of the last 24 h (R439). -/
  giveUpAt : List Nat
  /-- The half is ready (R441). -/
  ready : Bool
  /-- The start hold of R441 runs. -/
  holding : Bool
  /-- The 100 µs wait for the partner's yield runs (R447). -/
  yieldWait : Bool
  /-- The partner's heartbeats count as lost (R446, R447). -/
  breezeLost : Bool
  draughtLost : Bool
  /-- A SYNCING half has seen Breeze lost for 10 ms (R454). -/
  syncWaited : Bool
  killHold : KillHold
  /-- The sentinel pulls FAULT_n (R457). -/
  faultPull : Bool
  /-- The sentinel's own supervisor restarted it (R461). -/
  restarted : Bool
  handover : Handover
  /-- The kind of claim the half is about to make, as LAST_TAKEOVER.KIND codes it; 0 for none (R451, R479). -/
  claiming : Nat
  /-- A half made STANDBY by handover and not yet carrier-aligned (R439). -/
  grace : Bool
  /-- The pad watchdog drives the zero-vector (R456). -/
  padWatch : Bool
  /-- A carrier boundary has passed since the half's line was asserted: its channels may modulate (R451). -/
  modulate : Bool
  deriving DecidableEq, Repr

/-- A message in the Breeze format of R444, without its CRC (which is the CRC-32 of the other fields). -/
structure BreezeMsg where
  type : Nat
  role : Nat
  mirrorFmt : Nat
  seq : Nat
  health : Word
  planId : Word
  libGen : Word
  arg : Nat
  image : Word
  deriving DecidableEq, Repr

/-- What a half knows of its partner from the last valid Breeze (R444). -/
structure PartnerView where
  role : Nat
  mirrorFmt : Nat
  health : Word
  planId : Word
  libGen : Word
  image : Word
  deriving DecidableEq, Repr

/-- The eight compare digests of one block (R474); void when R239 or R470 excludes the block. -/
structure Digest where
  block : Nat
  groups : List Word
  voids : Bool
  deriving DecidableEq, Repr

/-- The redundancy traffic of a half: Breeze messages on their way to the partner, sequence numbers, what is known of
the partner, mirror sequence and resync progress (R470 to R472), compare history (R475). -/
structure RdnSt where
  breezeOut : List BreezeMsg
  txSeq : Nat
  rxSeq : Option Nat
  view : Option PartnerView
  mirrorRx : Nat
  /-- Mirror items received and not yet applied: each takes effect at the next block boundary (R470). -/
  mirrorDue : List MirrorKind
  /-- Full resync passes completed since the half became SYNCING, and whether the last corrected nothing. -/
  passes : Nat
  lastClean : Bool
  gapSince : Bool
  /-- The Onar link or Breeze was lost while STANDBY (R472). -/
  lossSeen : Bool
  digests : List Digest
  digestOut : List Digest
  compared : Nat
  badAt : List Nat
  /-- Age of the half at the last mismatch of each group (R483). -/
  groupAt : List (Nat × Nat)
  /-- The last 8000 compared blocks sent the half to SYNCING, and Gust has not yet tested the engines (R475). -/
  compareHold : Bool
  /-- CRC-32 of the partner's library index as the mirror stream carried it (R303). -/
  indexCrc : Option Word
  arpDue : Bool
  /-- The age at which the gratuitous ARP is repeated (R465). -/
  arpAgain : Option Nat
  deriving DecidableEq, Repr

/-- One test class of Gust (R485): units that have completed since every unit last did, whether the class
has completed since the last PASS. -/
structure GustClass where
  done : List Nat
  passed : Bool
  deriving DecidableEq, Repr

/-- Gust's working state: classes, consecutive mismatches and clean windows of a converter (R490), ages at which class 0 and
class 1 last completed for an engine, by 8 × class + engine. -/
structure GustSt where
  classes : List GustClass
  mismatch : List (Nat × (Nat × Nat))
  tested : List (Nat × Nat)
  deriving DecidableEq, Repr

/-- The counts of the health record that never clear on read (R497). -/
inductive Life
  | warmResets | dramCorr | dramUncorr | linkEcc | sramCorr | sramUncorr | queueCorr | onarRetry | mirrorDiff | breezeErr
  | draughtErr | compare | gustFails
  deriving DecidableEq, Repr

/-- What the health record keeps since power-on (R497): records since a reset, the counts of `Life`, Tj in
1/16 °C and its extremes, highest T_N by cluster, present and least rail margins, wear drifts, regions that failed, hours in
10^-6 h, age of the half at its last power-on or pin reset, age at the last partner record. -/
structure HealthSt where
  seq : Nat
  counts : List (Life × Nat)
  tj : Int
  tjMax : Option Int
  tjMin : Option Int
  ntcMax : List (Option Int)
  margins : List Nat
  least : List Nat
  wear : List Int
  failed : Nat
  equiv : Nat
  since : Nat
  partnerAt : Option Nat
  deriving DecidableEq, Repr

/-- A class of which nothing has completed. -/
def GustClass.init : GustClass := ⟨[], false⟩

/-- Gust at reset. -/
def GustSt.init : GustSt := ⟨List.replicate 9 GustClass.init, [], []⟩

/-- Health at power-on. -/
def HealthSt.init : HealthSt :=
  { seq := 0, counts := [], tj := 0, tjMax := none, tjMin := none, ntcMax := [none, none, none, none]
    margins := List.replicate 12 255, least := List.replicate 12 255, wear := List.replicate 8 0, failed := 0, equiv := 0
    since := 0, partnerAt := none }

/-- The event controller's state between boundaries (R511, R514): the accumulated `REARM` and `FORCE` bits, the MSI-X messages sent and not yet seen, the pull on INT. -/
structure EventSt where
  rearm : Nat
  force : Nat
  msixOut : List Nat
  intPull : Bool
  /-- The link has been up, or FAULT cause 0x0001 was recorded, since the last power-on, pin or warm reset (R82). -/
  linkSeen : Bool
  deriving DecidableEq, Repr

/-- The stage of a half between power and run (R528, R540). -/
inductive Phase
  | powerReset | pinReset | warmReset | starting | running
  deriving DecidableEq, Repr

/-- The state of one region (R14 to R17): open, isolated after a failure, or in reset. -/
inductive RegionState
  | up | failed | inReset
  deriving DecidableEq, Repr

/-- One bank of the configuration image (R532, R539): generation, validity of its CRC, M words, wrapped key slots,
network settings. -/
structure ConfigBank where
  gen : Nat
  valid : Bool
  words : List (Nat × Word)
  keys : List (List Byte)
  net : List NetPort
  deriving DecidableEq, Repr

/-- The boot selector, of which the flash holds two equal copies (R532, R535). -/
structure Selector where
  slot : Nat
  trial : Bool
  started : Bool
  deriving DecidableEq, Repr

/-- One bank of the retirement list (R287, R495, R532). -/
structure RetireBank where
  gen : Nat
  valid : Bool
  pages : List Nat
  rows : List Nat
  engines : Nat
  cells : List Nat
  granules : List Nat
  deriving DecidableEq, Repr

/-- A flash or boot operation in progress (R536, R537). -/
inductive FlashOp
  | idle
  | erase (addr : Nat)
  | program (addr : Nat)
  deriving DecidableEq, Repr

/-- A `BOOT_CTRL` operation in progress (R537). -/
inductive BootOp
  | idle
  | select (slot : Nat)
  | saveConfig
  | eraseConfig
  | saveLibrary
  | eraseRetirements
  | raiseFloor
  deriving DecidableEq, Repr

/-- The boot flash and what the boot ROM and firmware keep in it (R532 to R540). `bytes` holds the image slots and the
library image, sparse over the erased value 0xFF; areas whose encoding the spec leaves out are held as what they say. -/
structure BootSt where
  bytes : List (Nat × Byte)
  size : Nat
  selector : Selector
  retire0 : RetireBank
  retire1 : RetireBank
  /-- What ERASE_RETIREMENTS has erased, in effect until the next power-on reset (R537). -/
  erased : Option RetireBank
  hours : List (Nat × Nat)
  cfg0 : ConfigBank
  cfg1 : ConfigBank
  page : List Byte
  flashOp : FlashOp
  bootOp : BootOp
  /-- The anti-rollback floor in OTP (R537). -/
  floor : Nat
  mirrorFmt : Nat
  prevFmt : Nat
  image : Word
  security : Nat
  deriving DecidableEq, Repr

/-- One half of the package (R1). -/
structure Half where
  id : HalfId
  /-- Every register and table word at the value in effect, sparse over its reset value (R614). -/
  regs : List (Nat × Word)
  /-- The last written value of each word whose write waits for a boundary or a plan commit (R20). -/
  held : List (Nat × Word)
  /-- How many free values the half has used (log entry 1): the model's own field. -/
  fv : Nat
  /-- The block number (R21). -/
  block : Nat
  phase : Phase
  regions : List RegionState
  acc : AccessSt
  queues : List (Nat × Queue)
  sent : Sentinel
  rdn : RdnSt
  ev : EventSt
  boot : BootSt
  /-- The network settings of the two ports (R157). -/
  net : List NetPort
  /-- The eight key slots; an empty list where no key is loaded (R282). -/
  keys : List (List Byte)
  macs : List MacSt
  age : Nat
  mediaIdx : Nat
  inBlk : List (Nat × Word)
  procIn : List (Nat × Word)
  outBlk : List (Nat × Word)
  txHist : List (Nat × List (Nat × Word))
  rxs : List (Nat × RxSlot)
  txs : List (Nat × TxSlot)
  flow : FlowFw
  tim : TimSt
  graph : GraphSt
  alarm : AlarmSt
  store : StoreSt
  recd : RecSt
  out : OutSt
  gust : GustSt
  hlt : HealthSt
  deriving DecidableEq, Repr

/-- The state of the package: both halves, the shared lines (R34), the waiting commands. -/
structure State where
  a : Half
  b : Half
  /-- The wired enable logic pulls FAULT_n (R457). -/
  wiredFault : Bool
  /-- The commands that wait, first in, first out. -/
  pending : List Instr
  deriving DecidableEq, Repr

/-- Why the package stops: no command of the spec stops it, so no meaning raises a fault. Safe: nothing is lost. -/
inductive Fault
  /-- Raised by nothing: every command has an effect, be it none. Safe. -/
  | unreachable
  deriving DecidableEq, Repr

/-- Why a command has no meaning. -/
inductive Refusal
  /-- Raised by the dispatcher for a command without a meaning. Safe: the run stops. -/
  | notModelled (mnemonic : String)
  deriving DecidableEq, Repr

/-- A port with nothing in progress. -/
def Port.init : Port := ⟨none, none, ⟨0, true⟩, ⟨0, true⟩, none, []⟩

/-- The access state at reset: nothing pending (R63, R64, R67). -/
def AccessSt.init : AccessSt := ⟨Port.init, Port.init, Port.init, [], [], none, []⟩

/-- The sentinel in its reset state: line released, no kill, Draught static (R37). -/
def Sentinel.init : Sentinel :=
  { own := false, ownStuck := none, kill := false, draught := .still, dead := false, forceData := false
    forceCtl := false, forceMgmt := false, giveUp := .idle, toIsolated := false, isoFault := false, giveUpAt := []
    ready := false, holding := false, yieldWait := false, breezeLost := true, draughtLost := true
    syncWaited := false, killHold := .off, faultPull := false, restarted := false, handover := .idle, claiming := 0
    grace := false, padWatch := false, modulate := false }

/-- The redundancy traffic at reset. -/
def RdnSt.init : RdnSt :=
  { breezeOut := [], txSeq := 0, rxSeq := none, view := none, mirrorRx := 0, mirrorDue := [], passes := 0, lastClean := false
    gapSince := false, lossSeen := false, digests := [], digestOut := [], compared := 0, badAt := [], groupAt := []
    compareHold := false, indexCrc := none, arpDue := false, arpAgain := none }

/-- The event controller at reset. -/
def EventSt.init : EventSt := ⟨0, 0, [], false, false⟩

/-- A retirement list with nothing in it. -/
def RetireBank.init : RetireBank := ⟨0, false, [], [], 0, [], []⟩

/-- A configuration bank that holds nothing valid. -/
def ConfigBank.init : ConfigBank := ⟨0, false, [], [], []⟩

/-- The boot flash as first fitted: erased throughout, slot 0 named, 64 MiB (log entry 5). -/
def BootSt.init : BootSt :=
  { bytes := [], size := 0x4000000, selector := ⟨0, false, false⟩, retire0 := RetireBank.init
    retire1 := RetireBank.init, erased := none, hours := [], cfg0 := ConfigBank.init
    cfg1 := ConfigBank.init, page := [], flashOp := .idle, bootOp := .idle, floor := 0, mirrorFmt := 0
    prevFmt := 0xFFFF, image := 0, security := 0 }

/-- The settings of a port before any are given (R157). -/
def NetPort.init : NetPort := ⟨0, 0, 0, 0, 128, 128, 248, 0xFE⟩

/-- A half in power-on reset (R614, R528). -/
def Half.init (id : HalfId) : Half :=
  { id := id, regs := [], held := [], fv := 0, block := 0, phase := .powerReset
    regions := [.inReset, .inReset, .inReset, .inReset, .inReset, .inReset, .inReset, .inReset]
    acc := AccessSt.init, queues := [], sent := Sentinel.init, rdn := RdnSt.init, ev := EventSt.init
    boot := BootSt.init, net := [NetPort.init, NetPort.init], keys := [[], [], [], [], [], [], [], []]
    macs := [MacSt.init, MacSt.init]
    age := 0
    mediaIdx := 0
    inBlk := []
    procIn := []
    outBlk := []
    txHist := []
    rxs := []
    txs := []
    flow := FlowFw.init
    tim := TimSt.init
    graph := GraphSt.init
    alarm := AlarmSt.init
    store := StoreSt.init
    recd := RecSt.init
    out := OutSt.init
    gust := GustSt.init
    hlt := HealthSt.init
  }

/-- The package right after reset: both halves in power-on reset, every register at its reset value, no line asserted,
FAULT_n pulled by the wired enable logic (R457), no command waiting. -/
def State.reset : State := { a := Half.init .a, b := Half.init .b, wiredFault := true, pending := [] }

end Sys2Proof.Machine
end

