-- ==== Sys2Proof/Machine/Ops.lean ====
section
/-! DEFINITION. The named operations on one half and on the package: reading and writing registers and their fields,
latching events and faults, free values, roles, lines. -/

namespace Sys2Proof.Machine

open Sys2Proof

/-- The word at an address at the value in effect. -/
def Half.rd (h : Half) (a : Nat) : Word := lookAt (resetWord h.id) h.regs a

/-- Writes the value in effect of the word at an address. -/
def Half.wr (h : Half) (a : Nat) (v : Word) : Half := { h with regs := storeAt (resetWord h.id) h.regs a v }

/-- The field of n bits from bit lo of the word at an address. -/
def Half.get (h : Half) (a lo n : Nat) : Nat := getBits (h.rd a) lo n

/-- Writes the field of n bits from bit lo of the word at an address. -/
def Half.put (h : Half) (a lo n v : Nat) : Half := h.wr a (setBits (h.rd a) lo n v)

/-- Bit b of the word at an address. -/
def Half.bit (h : Half) (a b : Nat) : Bool := h.get a b 1 == 1

/-- Writes bit b of the word at an address. -/
def Half.putBit (h : Half) (a b : Nat) (v : Bool) : Half := h.put a b 1 (ofBool v)

/-- Writes a whole word given as a number. -/
def Half.wrNat (h : Half) (a v : Nat) : Half := h.wr a (BitVec.ofNat 32 v)

/-- Adds d to a field that counts and saturates. -/
def Half.count (h : Half) (a lo n d : Nat) : Half := h.put a lo n (satAdd n (h.get a lo n) d)

/-- Adds d to a field that counts and wraps. -/
def Half.wrap (h : Half) (a lo n d : Nat) : Half := h.put a lo n (h.get a lo n + d)

/-- Sets bit b of the EVENT register at an address (R55, R58). -/
def Half.event (h : Half) (a b : Nat) : Half := h.putBit a b true

/-- Sets every bit of EVENT that mask names. -/
def Half.events (h : Half) (a mask : Nat) : Half := h.wrNat a ((h.rd a).toNat ||| mask)

/-- Latches a cause code in the FAULT register at an address: VALID, OVERRUN when VALID was already 1 (R57). -/
def Half.latch (h : Half) (a code : Nat) : Half :=
  h.wrNat a (0x80000000 + (if h.bit a 31 then 0x40000000 else 0) + code % 0x10000)

/-- A free value of w bits (log entry 1), and the half with its counter advanced. -/
def Half.fresh (h : Half) (w : Nat) : BitVec w × Half :=
  (Config.freeValue h.id h.fv w, { h with fv := h.fv + 1 })

/-- Applies f for each index in turn. -/
def Half.each (h : Half) (is : List Nat) (f : Half → Nat → Half) : Half := is.foldl f h

/-- A 64-bit value held as LO at a and HI at a + 4. -/
def Half.rd64 (h : Half) (a : Nat) : Nat := (h.rd a).toNat + 0x100000000 * (h.rd (a + 4)).toNat

/-- Writes a 64-bit value as LO at a and HI at a + 4. -/
def Half.wr64 (h : Half) (a v : Nat) : Half := (h.wrNat a v).wrNat (a + 4) (v / 0x100000000)

/-- The state of a region. -/
def Half.regionState (h : Half) (r : Region) : RegionState := getAt h.regions r.bit .up

/-- A region answers: neither failed nor in reset (R14). -/
def Half.up (h : Half) (r : Region) : Bool := h.regionState r == .up

/-- Changes the state of a region. -/
def Half.setRegion (h : Half) (r : Region) (x : RegionState) : Half := { h with regions := setAt h.regions r.bit x }

/-- The half has been started: it answers its ports. -/
def Half.live (h : Half) : Bool := h.phase == .running || h.phase == .starting

/-- The role that a ROLE field shows (R438). -/
def roleOf : Nat → Role
  | 1 => .syncing
  | 2 => .standby
  | 3 => .active
  | 4 => .isolated
  | _ => .offline

/-- The code of a role (R438). -/
def Role.code : Role → Nat
  | .offline => 0
  | .syncing => 1
  | .standby => 2
  | .active => 3
  | .isolated => 4

/-- The levels of `ROLE[1:0]` in a role (R438). -/
def Role.pins : Role → Nat
  | .offline => 0
  | .syncing => 0
  | .standby => 1
  | .active => 2
  | .isolated => 3

/-- The role of a half (R438). -/
def Half.role (h : Half) : Role := roleOf (h.get Adr.RDN_ROLE_STATUS 0 3)

/-- Changes the role; a change sets `RDN.EVENT.ROLE` (R439). -/
def Half.setRole (h : Half) (r : Role) : Half :=
  if h.role = r then h
  else (h.put Adr.RDN_ROLE_STATUS 0 3 r.code).event Adr.RDN_EVENT 2

/-- A half of the package. -/
def State.half (s : State) : HalfId → Half
  | .a => s.a
  | .b => s.b

/-- Replaces a half of the package. -/
def State.setHalf (s : State) (h : HalfId) (x : Half) : State :=
  match h with
  | .a => { s with a := x }
  | .b => { s with b := x }

/-- Changes one half by f: the shape of every command that acts on one half alone (R35). -/
def State.on (s : State) (h : HalfId) (f : Half → Half) : State := s.setHalf h (f (s.half h))

/-- The level of a half's ownership line (R449): its output unless the line sticks; inactive while the half is
unpowered or its sentinel in reset or disagreeing. -/
def Half.line (h : Half) : Bool := h.sent.ownStuck.getD (h.sent.own && !h.sent.dead)

/-- A half's line counts as asserted: asserted, and its partner asserts no kill (R449). -/
def State.counts (s : State) (h : HalfId) : Bool := (s.half h).line && !(s.half h.other).sent.kill

/-- The pad gate of a half is open (R36): its line is asserted, its partner's does not count as asserted, its partner
asserts no kill. -/
def State.gate (s : State) (h : HalfId) : Bool := s.counts h && !s.counts h.other

/-- Shows the lines in one half's `RDN.STATUS` (R480). -/
def Half.showLines (h : Half) (killIn ownPartner driving : Bool) : Half :=
  h.put Adr.RDN_STATUS 8 5
    (ofBool driving + 2 * ofBool h.line + 4 * ofBool ownPartner + 8 * ofBool killIn + 16 * ofBool h.sent.kill)

/-- The request of a half for the stages of cluster c (R364): EN, and not released under R361, R363 or R367. -/
def Half.psenRequest (h : Half) (c : Nat) : Bool :=
  let x := getAt h.out.cl c AmpCl.init
  h.bit (Adr.AMPC_PSEN_CTRL c) 0 && !x.released && !x.busRel

/-- Whether a half pulls `PSENc_n` (R364, R365): an ACTIVE half by its request, a STANDBY half by the mirrored one; a half that
gives up or is forced keeps its pulls until 2 ms have passed; an unpowered half releases its pads. -/
def Half.wantPull (h : Half) (c : Nat) : Bool :=
  let x := getAt h.out.cl c AmpCl.init
  if !h.live || h.out.pullsOff then false
  else if h.sent.forceData || h.sent.giveUp != .idle then h.bit (Adr.AMPC_STATUS c) 2
  else if h.role == .active then h.psenRequest c
  else h.role == .standby && x.request && !x.released

/-- Shows the ball `PSENc_n` at a half (R366, R374): each change of the ball sets `EVENT.PSEN`, and ends its 10 ms of reading
low (R352). -/
def Half.showPsen (h : Half) (c : Nat) (pull low : Bool) : Half :=
  let h1 := h.putBit (Adr.AMPC_STATUS c) 2 pull
  let seen := (getAt h.out.cl c AmpCl.init).stuck.getD low
  if h1.bit (Adr.AMPC_STATUS c) 3 = seen then h1
  else
    { (h1.putBit (Adr.AMPC_STATUS c) 3 seen).event (Adr.AMPC_EVENT c) 4 with
      out := { h1.out with cl := modAt h1.out.cl c fun x => { x with settled := false } } }

/-- Brings the balls `PSENc_n` into line with what the halves pull (R364). -/
def State.psen (s : State) : State :=
  (List.range 4).foldl (fun (t : State) c =>
    let pa := t.a.wantPull c
    let pb := t.b.wantPull c
    if pa = t.a.bit (Adr.AMPC_STATUS c) 2 ∧ pb = t.b.bit (Adr.AMPC_STATUS c) 2 then t
    else { t with a := t.a.showPsen c pa (pa || pb), b := t.b.showPsen c pb (pa || pb) }) s

/-- Shows the lines in both halves' `RDN.STATUS`, and brings the stage enables into line; done after every change of a line or
a role (R364, R480). -/
def State.lines (s : State) : State :=
  { s with
    a := s.a.showLines s.b.sent.kill (s.counts .b) (s.gate .a)
    b := s.b.showLines s.a.sent.kill (s.counts .a) (s.gate .b) }.psen

/-- FAULT_n is pulled low (R518). -/
def State.faultLow (s : State) : Bool :=
  s.wiredFault || s.a.sent.faultPull || s.b.sent.faultPull ||
    s.a.bit Adr.EVT_FAULT_FORCE 0 || s.b.bit Adr.EVT_FAULT_FORCE 0

/-- Adds d to a count that the health record keeps since power-on (R497). -/
def Half.life (h : Half) (c : Life) (d : Nat) : Half :=
  let old := ((h.hlt.counts.find? fun x => x.1 == c).map fun x => x.2).getD 0
  { h with hlt := { h.hlt with counts := (c, old + d) :: h.hlt.counts.filter fun x => x.1 != c } }

/-- A count that the health record keeps since power-on (R497). -/
def Half.lifeCount (h : Half) (c : Life) : Nat := ((h.hlt.counts.find? fun x => x.1 == c).map fun x => x.2).getD 0

/-- Rewrites the retirement list: the older bank takes the next generation (R287, R495). -/
def BootSt.retire (b : BootSt) (f : RetireBank → RetireBank) : BootSt :=
  let cur := if b.retire1.valid && (!b.retire0.valid || decide (b.retire0.gen < b.retire1.gen)) then b.retire1 else b.retire0
  let new := { f cur with gen := cur.gen + 1, valid := true }
  if cur = b.retire1 && b.retire1.valid then { b with retire0 := new } else { b with retire1 := new }

/-- The retirement list in force. -/
def BootSt.retired (b : BootSt) : RetireBank :=
  if b.retire1.valid && (!b.retire0.valid || decide (b.retire0.gen < b.retire1.gen)) then b.retire1 else b.retire0

/-- Changes the retirement list of a half. -/
def Half.onRetired (h : Half) (f : RetireBank → RetireBank) : Half := { h with boot := h.boot.retire f }

/-- PTP time in ns since its epoch at an offset into the current block (R116): `PTP_TIME` holds 32 bits of nanoseconds
and 48 bits of seconds. -/
def Half.ptpNs (h : Half) (ofs : Nat) : Nat :=
  let sec := (h.rd (Adr.TIM_PTP_TIME 1)).toNat + 0x100000000 * getBits (h.rd (Adr.TIM_PTP_TIME 2)) 0 16
  sec * 1000000000 + (h.rd (Adr.TIM_PTP_TIME 0)).toNat + ofs

/-- The half's own count of ns: its age in blocks of 125 µs and the offset into the current one. -/
def Half.now (h : Half) (ofs : Nat) : Nat := h.age * 125000 + ofs

/-- The whole seconds of PTP time (R200). -/
def Half.ptpSec (h : Half) : Nat := h.ptpNs 0 / 1000000000

/-- The Onar link is up at a half (`RDN.LINK_STATUS.UP`). -/
def Half.linkUp (h : Half) : Bool := h.bit Adr.RDN_LINK_STATUS 31

end Sys2Proof.Machine
end

