-- ==== Sys2Proof/Machine/Audio.lean ====
section
/-! DEFINITION. Audio blocks (R31, R128, R205): sparse blocks of samples by kind, channel and position; media time;
words that wait for a boundary or a plan commit (R20). -/

namespace Sys2Proof.Machine

open Sys2Proof

/-- A quotient that a register shows and whose rounding the spec leaves out: exact where it is a whole number, else one of the two whole numbers beside it (log entry 1). -/
def rounded (n d : Nat) : Nat := n / d + ofBool (n % d != 0 && Config.roundUp n d)

/-- The square root of a measured quotient, in the same manner. -/
def roundedRoot (n d : Nat) : Nat :=
  let r := isqrt (n / d)
  r + ofBool (r * r * d != n && Config.roundUp n d)

/-- The half runs at 96 kHz (R205). -/
def Half.rate96 (h : Half) : Bool := h.bit Adr.GRF_STATUS 4

/-- Samples in a block (R205). -/
def Half.blockLen (h : Half) : Nat := if h.rate96 then 12 else 6

/-- Samples in 5 ms (R144, R220). -/
def Half.fadeLen (h : Half) : Nat := if h.rate96 then 480 else 240

/-- Samples in a second. -/
def Half.sampleRate (h : Half) : Nat := if h.rate96 then 96000 else 48000

/-- The media index that has been reached at an offset in ns into the block (R133). -/
def Half.mediaAt (h : Half) (ofs : Nat) : Nat := h.mediaIdx + ofs * h.blockLen / 125000

/-- The place of a sample in an audio block: its kind, channel and position (R31, R211). -/
def audioKey (kind ch pos : Nat) : Nat := kind * 0x100000 + ch * 16 + pos

/-- A sample of an audio block; silence where none is listed. -/
def audioGet (b : List (Nat × Word)) (kind ch pos : Nat) : Word := lookAt (fun _ => 0) b (audioKey kind ch pos)

/-- Puts a sample into an audio block. -/
def audioPut (b : List (Nat × Word)) (kind ch pos : Nat) (v : Word) : List (Nat × Word) :=
  storeAt (fun _ => 0) b (audioKey kind ch pos) v

/-- The last written value of a word: the one that waits for a boundary or commit, else the value in effect (R20). -/
def Half.staged (h : Half) (a : Nat) : Word := lookAt h.rd h.held a

/-- Leaves a value waiting for its boundary or commit (R20). -/
def Half.stage (h : Half) (a : Nat) (v : Word) : Half := { h with held := insertAt a v h.held }

/-- A field of the last written value. -/
def Half.stagedField (h : Half) (a lo n : Nat) : Nat := getBits (h.staged a) lo n

/-- Packet time in ns by PTIME code; the third of a millisecond is held to 333333 ns (R131). -/
def ptimeNs : Nat → Nat
  | 0 => 125000
  | 1 => 250000
  | 2 => 333333
  | 3 => 1000000
  | 4 => 4000000
  | _ => 0

/-- Samples per channel in a packet at 48 kHz by PTIME code (R131). -/
def ptimeSamples : Nat → Nat
  | 0 => 6
  | 1 => 12
  | 2 => 16
  | 3 => 48
  | 4 => 192
  | _ => 0

/-- Samples per channel in a packet (R131). -/
def packetSamples (rate96 : Bool) (ptime : Nat) : Nat := ptimeSamples ptime * (if rate96 then 2 else 1)

/-- Bytes per sample by ENC code (R130, R131). -/
def encBytes : Nat → Nat
  | 0 => 2
  | 1 => 3
  | _ => 4

/-- C × B × N of a `FORMAT` word (R131). -/
def payloadBytes (rate96 : Bool) (format : Word) : Nat :=
  (getBits format 0 6 + 1) * encBytes (getBits format 12 2) * packetSamples rate96 (getBits format 8 3)

/-- The sample that big-endian bytes hold (R130, R206). -/
def sampleOf (bs : List Byte) : Word := fOfInt (signed (8 * bs.length) (beNat bs)) (8 * bs.length - 1)

/-- The bytes of a sample in B bytes: saturated, rounded to nearest even (R207). -/
def sampleBytes (b : Nat) (w : Word) : List Byte := beBytes b (unsigned (8 * b) (fToInt w (8 * b - 1) (8 * b)))

end Sys2Proof.Machine
end

