-- ==== Sys2Proof/Machine/Plan.lean ====
section
/-! DEFINITION. A plan as the tables hold it (R208 to R215) and the graph checks of a submission (R222, R225, R226). -/

namespace Sys2Proof.Machine

open Sys2Proof

/-- A node record (R210): index, TYPE, output width, words 0 to 7. -/
structure Node where
  idx : Nat
  type : Nat
  width : Nat
  ws : List Word
  deriving DecidableEq, Repr

/-- An edge record (R214): index, channels, ends, first channels, port, gain word. -/
structure Edge where
  idx : Nat
  count : Nat
  src : Nat
  dst : Nat
  srcCh : Nat
  dstCh : Nat
  port : Nat
  gain : Nat
  deriving DecidableEq, Repr

/-- A plan (R223): valid nodes and edges in rising index, valid zones with their PRIORITY nodes, valid tone patterns,
rate, fallback pattern; `ofs` tells the bank of its parameter pool. -/
structure Plan where
  staged : Bool
  nodes : List Node
  edges : List Edge
  zones : List (Nat × Nat)
  tones : List (Nat × List Word)
  rate96 : Bool
  fallback : Nat
  deriving DecidableEq, Repr

/-- The word of a staging bank, or of the active bank ofs above it. -/
def Half.bankWord (h : Half) (staged : Bool) (a ofs : Nat) : Word := h.rd (if staged then a else a + ofs)

/-- The indices of the records of size n bytes, in a window of size bytes at base, whose words are not all zero. -/
def Half.recordsAt (h : Half) (base size n : Nat) : List Nat :=
  ((h.regs.filter fun p => base ≤ p.1 ∧ p.1 < base + size).map fun p => (p.1 - base) / n).dedup

/-- Word w of the parameters of a node. -/
def Node.w (n : Node) (i : Nat) : Word := getAt n.ws i 0

/-- Reads node record i. -/
def Half.nodeAt (h : Half) (staged : Bool) (i : Nat) : Option Node :=
  let ws := (List.range 8).map fun k => h.bankWord staged (Adr.NODE_STG (8 * i + k)) 0x20000
  let w0 := getAt ws 0 0
  if bitAt w0 31 then some ⟨i, getBits w0 24 5, getBits w0 8 6 + 1, ws⟩ else none

/-- Reads edge record i. -/
def Half.edgeAt (h : Half) (staged : Bool) (i : Nat) : Option Edge :=
  let a := h.bankWord staged (Adr.EDGE_STG (2 * i)) 0x20000
  let b := h.bankWord staged (Adr.EDGE_STG (2 * i + 1)) 0x20000
  if bitAt a 31 then
    some ⟨i, getBits a 24 6 + 1, getBits a 12 12, getBits a 0 12, getBits b 26 6, getBits b 20 6, getBits b 16 4,
      getBits b 0 16⟩
  else none

/-- The plan of the staging banks or of the active banks (R208, R223). -/
def Half.plan (h : Half) (staged : Bool) : Plan :=
  let at_ := fun (base ofs : Nat) => if staged then base else base + ofs
  let cfg := if staged then h.staged Adr.GRF_CFG else h.rd Adr.GRF_CFG
  { staged := staged
    nodes := (h.recordsAt (at_ 0x3000000 0x20000) 0x20000 32).filterMap (h.nodeAt staged)
    edges := (h.recordsAt (at_ 0x4000000 0x20000) 0x20000 8).filterMap (h.edgeAt staged)
    zones := (h.recordsAt (at_ 0x3040000 0x1000) 0x1000 16).filterMap fun z =>
      let w := h.bankWord staged (Adr.ZONE_STG (4 * z)) 0x1000
      if bitAt w 31 then some (z, getBits w 0 12) else none
    tones := (h.recordsAt (at_ 0x3042000 0x1000) 0x1000 64).filterMap fun t =>
      let ws := (List.range 16).map fun k => h.bankWord staged (Adr.TONE_STG (16 * t + k)) 0x1000
      if bitAt (getAt ws 0 0) 31 then some (t, ws) else none
    rate96 := bitAt cfg 0
    fallback := getBits cfg 8 6 }

/-- A pool coefficient of the plan. -/
def Half.coef (h : Half) (staged : Bool) (i : Nat) : Word := h.bankWord staged (Adr.POOL_STG i) 0x80000

/-- The node of an index. -/
def Plan.node (p : Plan) (i : Nat) : Option Node := p.nodes.find? fun n => n.idx == i

/-- A dB16 field as a number of 1/128 dB (R209). -/
def dB16 (v : Nat) : Int := signed 16 v

/-- A node type's number of ports (R211). -/
def Node.ports (n : Node) : Nat :=
  match n.type with
  | 0x0 => 0
  | 0xC => 0
  | 0x2 => 16
  | 0xB => 16
  | 0x9 => 2
  | 0xA => 2
  | _ => 1

/-- The width of port l (R211). -/
def Node.portWidth (n : Node) (l : Nat) : Nat :=
  match n.type with
  | 0x3 => getBits (n.w 1) 0 6 + 1
  | 0x9 => if l = 1 then getBits (n.w 3) 16 6 + 1 else n.width
  | 0xA => if l = 1 then 1 else n.width
  | _ => n.width

/-- A node has an output (R211). -/
def Node.hasOutput (n : Node) : Bool := n.type != 0xD && n.type != 0xE

/-- KIND and FIRST of an INPUT or OUTPUT node. -/
def Node.kind (n : Node) : Nat := getBits (n.w 1) 28 4
def Node.first (n : Node) : Nat := getBits (n.w 1) 0 16

/-- The ports of a node that an edge feeds. -/
def Plan.connected (p : Plan) (n : Node) : Nat :=
  (((p.edges.filter fun e => e.dst == n.idx).map fun e => e.port).dedup).length

/-- BAD_TYPE (R225): a reserved TYPE code, a width or a port count outside R211. -/
def Plan.badType (p : Plan) (n : Node) : Bool :=
  decide (0xF ≤ n.type) || (n.type == 0 && n.kind == 2 && decide (2 < n.width)) ||
    (n.type == 0 && n.kind == 3 && decide (1 < n.width)) || (n.type == 0xC && decide (1 < n.width)) ||
    (n.type == 2 && p.connected n == 0)

/-- The range of pool words that a node uses: offset and number (R211). -/
def Node.poolRange (n : Node) : Nat × Nat :=
  match n.type with
  | 0x3 => (getBits (n.w 2) 0 17, n.width * (getBits (n.w 1) 0 6 + 1))
  | 0x4 => (getBits (n.w 2) 0 17, 5 * (getBits (n.w 1) 0 4 + 1))
  | 0x5 => (getBits (n.w 2) 0 17, getBits (n.w 1) 0 10 + 1)
  | _ => (0, 0)

/-- v lies within lo to hi. -/
def inRange (lo hi v : Nat) : Bool := decide (lo ≤ v ∧ v ≤ hi)

/-- v lies within lo to hi, as a number of 1/128 dB. -/
def inDb (lo hi : Int) (v : Nat) : Bool := decide (lo ≤ dB16 v ∧ dB16 v ≤ hi)

/-- BAD_PARAM (R225): a parameter outside its range under R209 or R211. -/
def Half.badParam (h : Half) (p : Plan) (n : Node) : Bool :=
  let f := fun (w lo bits : Nat) => getBits (n.w w) lo bits
  let (po, pn) := n.poolRange
  let pool := (List.range pn).any fun i => decide (po + i < 131072) && fExp (h.coef p.staged (po + i)) == 255
  pool ||
    match n.type with
    | 0x0 => decide (4 < n.kind)
    | 0x6 => decide ((if p.rate96 then 192000 else 96000) < f 1 0 18)
    | 0x7 => !((inRange 16 1024 (f 1 16 16) || f 1 16 16 == 0xFFFF) && inRange 1 10000 (f 2 0 16) &&
        inRange 1 10000 (f 2 16 16) && inDb 0 3072 (f 3 0 16))
    | 0x8 => !inRange 10 60000 (f 3 0 16)
    | 0x9 => !inDb (-7680) 0 (f 1 16 16)
    | 0xA => !(inRange 0 256 (f 1 16 16) && inDb 0 2560 (f 2 0 16) && inRange 1 600 (f 3 0 16))
    | 0xB => !inRange 0 10000 (f 3 0 16)
    | 0xD => !(inRange 1 65535 (f 1 0 16) && inRange 16 63 (f 1 16 6))
    | 0xE => decide (3 < n.kind)
    | _ => false

/-- BAD_EDGE (R214, R225). -/
def Plan.badEdge (p : Plan) (e : Edge) : Bool :=
  match p.node e.src, p.node e.dst with
  | some a, some b =>
    !a.hasOutput || decide (b.ports ≤ e.port) || decide (a.width < e.srcCh + e.count) ||
      decide (b.portWidth e.port < e.dstCh + e.count)
  | _, _ => true

/-- Two edges feed one input channel. -/
def Edge.clash (a b : Edge) : Bool :=
  a.dst == b.dst && a.port == b.port && decide (a.dstCh < b.dstCh + b.count) && decide (b.dstCh < a.dstCh + a.count)

/-- The nodes that a list of nodes reaches along edges, itself included; fuel bounds the rounds. -/
def reach (next : Nat → List Nat) : Nat → List Nat → List Nat
  | 0, l => l
  | fuel + 1, l =>
    let more := ((l.map next).flatten.filter fun x => !l.contains x).dedup
    if more.isEmpty then l else reach next fuel (l ++ more)

/-- Downstream and upstream neighbours. -/
def Plan.down (p : Plan) (i : Nat) : List Nat := (p.edges.filter fun e => e.src == i).map fun e => e.dst
def Plan.up (p : Plan) (i : Nat) : List Nat := (p.edges.filter fun e => e.dst == i).map fun e => e.src

/-- A node lies on a cycle (R214). -/
def Plan.onCycle (p : Plan) (i : Nat) : Bool := (reach p.down p.nodes.length (p.down i)).contains i

/-- The nodes in an order consistent with the edges; those on or behind a cycle are left out (R236). -/
def Plan.orderAux (p : Plan) : Nat → List Nat → List Node → List Nat
  | 0, done, _ => done
  | fuel + 1, done, left =>
    let go := (left.filter fun n => (p.up n.idx).all done.contains).map fun n => n.idx
    if go.isEmpty then done
    else p.orderAux fuel (done ++ go) (left.filter fun n => !go.contains n.idx)

/-- The nodes in an order consistent with the edges (R236). -/
def Plan.order (p : Plan) : List Nat := p.orderAux p.nodes.length [] p.nodes

/-- SOURCE_CONFLICT of one node: an index out of range (R128, R211, R225). -/
def Plan.badIndex (p : Plan) (n : Node) : Bool :=
  let pool := if p.rate96 then 1024 else 2048
  if n.type = 0 then
    match n.kind with
    | 0 => decide (pool < n.first + n.width)
    | 1 => decide (256 < n.first + n.width)
    | 2 => decide (63 < n.first)
    | 3 => decide (30 < n.first)
    | _ => decide (80 < n.first + n.width)
  else if n.type = 0xE then
    match n.kind with
    | 0 => decide (pool < n.first + n.width)
    | 1 => decide (256 < n.first + n.width)
    | 2 => decide (32 < n.first + n.width)
    | _ => decide (64 < n.first + n.width)
  else false

/-- Two OUTPUT nodes name one destination. -/
def Node.sameDest (a b : Node) : Bool :=
  a.type == 0xE && b.type == 0xE && a.idx != b.idx && a.kind == b.kind &&
    decide (a.first < b.first + b.width) && decide (b.first < a.first + a.width)

/-- The mode of level l of a PRIORITY node (R215). -/
def Node.mode (n : Node) (l : Nat) : Nat := getBits (n.w 1) (2 * l) 2

/-- The life-safety path of the zone of a PRIORITY node (R222). -/
def Plan.lsPath (p : Plan) (prio : Nat) : List Nat :=
  let fuel := p.nodes.length
  let ups := (p.edges.filter fun e => e.dst == prio && decide (12 ≤ e.port)).map fun e => e.src
  (reach p.down fuel [prio] ++ reach p.up fuel ups.dedup).dedup

/-- The edges of a life-safety path: those between its nodes (R222). -/
def Plan.lsEdges (p : Plan) (path : List Nat) : List Edge :=
  p.edges.filter fun e => path.contains e.src && path.contains e.dst

/-- Every node on a life-safety path of the plan (R222). -/
def Plan.lsNodes (p : Plan) : List Nat := ((p.zones.map fun z => p.lsPath z.2).flatten).dedup

/-- LS_MUTE of one node or edge (R222). -/
def Node.mutes (n : Node) : Bool := n.type == 9 || ((n.type == 1 || n.type == 2) && getBits (n.w 1) 0 16 == 0x8000)

/-- A tone pattern outside the ranges of R213. -/
def badPattern (ws : List Word) : Bool :=
  let segs := getBits (getAt ws 0 0) 0 4
  let okF := fun f => f == 0 || inRange 20 20000 f
  !inRange 1 7 segs || ((List.range segs).any fun s =>
    let a := getAt ws (2 + 2 * s) 0
    let b := getAt ws (3 + 2 * s) 0
    !okF (getBits a 16 16) || !okF (getBits a 0 16) || getBits b 16 16 == 0 || getBits b 14 2 == 3)

/-- The refusal of a plan: reason, DETAIL_KIND, DETAIL (R225, R230). -/
structure Reject where
  reason : Nat
  kind : Nat
  detail : Nat
  deriving DecidableEq, Repr

/-- The first element that satisfies a check, as a rejection. -/
def firstBad {α : Type} (reason kind : Nat) (l : List α) (bad : α → Bool) (idx : α → Nat) : Option Reject :=
  (l.find? bad).map fun x => ⟨reason, kind, idx x⟩

/-- TONE (R225). -/
def Plan.toneCheck (p : Plan) : Option Reject :=
  let nodes := p.nodes.filter fun n => n.type == 0xC
  let valid := fun t => (p.tones.find? fun x => x.1 == t).isSome
  let twice := fun (n : Node) => nodes.any fun m => decide (m.idx < n.idx) && getBits (m.w 1) 8 5 == getBits (n.w 1) 8 5
  (firstBad 0xD 1 nodes (fun n => twice n || !valid (getBits (n.w 1) 0 6)) (·.idx)).or
    ((firstBad 0xD 6 p.tones (fun t => badPattern t.2) (·.1)).or
      (if !p.zones.isEmpty && !valid p.fallback then some ⟨0xD, 6, p.fallback⟩ else none))

/-- ZONE_TABLE (R215, R225). -/
def Plan.zoneCheck (p : Plan) : Option Reject :=
  let prio := fun i => match p.node i with | some n => n.type == 0xB | none => false
  (firstBad 8 3 p.zones (fun z => !prio z.2) (·.1)).or
    (firstBad 8 1 (p.nodes.filter fun n => n.type == 0xB) (fun n =>
      (p.zones.filter fun z => z.2 == n.idx).length != 1 ||
        ([12, 13, 14, 15].any fun l => n.mode l == 1 || n.mode l == 2)) (·.idx))

/-- LS_MUTE (R222, R225). -/
def Plan.lsMuteCheck (p : Plan) : Option Reject :=
  let ls := p.lsNodes
  (firstBad 9 1 (p.nodes.filter fun n => ls.contains n.idx) Node.mutes (·.idx)).or
    (let paths := p.zones.map fun z => p.lsPath z.2
     firstBad 9 2 (p.edges.filter fun e => paths.any fun l => l.contains e.src && l.contains e.dst) (fun e => e.gain == 0x8000)
       (·.idx))

/-- The checks of R225 on the graph alone, in the order of its table; those judged against the alarms come last. -/
def Half.graphCheck (h : Half) (p : Plan) : Option Reject :=
  (firstBad 2 1 p.nodes p.badType (·.idx)).or <|
  (firstBad 3 1 p.nodes (h.badParam p) (·.idx)).or <|
  (firstBad 4 2 p.edges p.badEdge (·.idx)).or <|
  (firstBad 5 2 p.edges (fun e => p.edges.any fun d => decide (d.idx < e.idx) && d.clash e) (·.idx)).or <|
  (firstBad 6 1 p.nodes (fun n => p.onCycle n.idx) (·.idx)).or <|
  (firstBad 7 1 p.nodes (fun n => p.badIndex n || p.nodes.any fun m => decide (m.idx < n.idx) && m.sameDest n)
    (·.idx)).or <|
  p.zoneCheck.or <|
  p.lsMuteCheck.or <|
  (firstBad 0xA 1 p.nodes (fun n => decide (131072 < n.poolRange.1 + n.poolRange.2)) (·.idx)).or
  p.toneCheck

/-- A life-safety level is active in zone z (R218). -/
def Half.zoneInAlarm (h : Half) (z : Nat) : Bool := h.bit (Adr.GRF_ZSTATE z) 30

/-- Any zone has a life-safety level active. -/
def Half.anyAlarm (h : Half) : Bool := h.bit Adr.GRF_STATUS 3

/-- The routing of an edge (R226). -/
def Edge.routing (e : Edge) : List Nat := [e.src, e.srcCh, e.count, e.dst, e.dstCh, e.port]

/-- ZONE_IN_ALARM of one zone of the running plan (R226). -/
def Plan.breaksAlarm (old new : Plan) (z : Nat × Nat) : Bool :=
  let path := old.lsPath z.2
  let routes := new.edges.map Edge.routing
  !(new.zones.contains z) ||
    (path.any fun i =>
      match old.node i, new.node i with
      | some a, some b => a.type != b.type || a.width != b.width
      | some _, none => true
      | none, _ => false) ||
    ((old.lsEdges path).any fun e => !routes.contains e.routing)

/-- RATE_CHANGE, then ZONE_IN_ALARM, against the running plan (R225, R226). -/
def Half.alarmCheck (h : Half) (new : Plan) : Option Reject :=
  let old := h.plan false
  if new.rate96 != h.rate96 && h.anyAlarm then some ⟨0xB, 0, 0⟩
  else firstBad 0xC 3 (old.zones.filter fun z => h.zoneInAlarm z.1) (old.breaksAlarm new) (·.1)

end Sys2Proof.Machine
end

