-- ==== Sys2Proof/Machine/Queue.lean ====
section
/-! DEFINITION. The queue manager (R415 to R437): items, storage, acceptance and gap markers, pops and stalls. -/

namespace Sys2Proof.Machine

open Sys2Proof

/-- An item: tag bits END, GAP, POISON, source, data; VALID is 1 in every item a queue holds (R415). -/
def mkItem (fin gap poison : Bool) (src data : Nat) : BitVec 64 :=
  BitVec.ofNat 64 (2 ^ 63 + 2 ^ 62 * ofBool fin + 2 ^ 61 * ofBool gap + 2 ^ 60 * ofBool poison
    + 2 ^ 56 * (src % 16) + data % 2 ^ 56)

/-- END of an item. -/
def itemEnd (x : BitVec 64) : Bool := x.toNat.testBit 62

/-- GAP of an item. -/
def itemGap (x : BitVec 64) : Bool := x.toNat.testBit 61

/-- A gap marker (R428). -/
def gapMarker (g : HeldGap) : BitVec 64 :=
  mkItem true true false 0xE (2 ^ 52 * (g.src % 16) + 2 ^ 32 * min g.packets 0xFFFF + min g.items 0xFFFFFFFF)

/-- The counts of a gap marker. -/
def readGap (x : BitVec 64) : HeldGap := ⟨x.toNat / 2 ^ 52 % 16, x.toNat / 2 ^ 32 % 2 ^ 16, x.toNat % 2 ^ 32⟩

/-- A queue with nothing in it. -/
def Queue.empty : Queue := ⟨[], 0, none, []⟩

/-- The contents of queue q. -/
def Half.queue (h : Half) (q : Nat) : Queue := lookAt (fun _ => Queue.empty) h.queues q

/-- Replaces the contents of queue q. -/
def Half.setQueue (h : Half) (q : Nat) (x : Queue) : Half :=
  { h with queues := storeAt (fun _ => Queue.empty) h.queues q x }

/-- Queue q runs: EN is 1 and it is not FAULTED (R420, R431). -/
def Half.queueOn (h : Half) (q : Nat) : Bool := h.bit (Adr.Q_CTRL q) 0 && !h.bit (Adr.Q_STATUS q) 1

/-- Queue q is in pool mode (R435). -/
def Half.queuePool (h : Half) (q : Nat) : Bool := h.bit (Adr.Q_CFG q) 31

/-- Cells a pool queue holds: one when empty, else as many as its words need behind the popped words of its head
cell (R418). -/
def Queue.cells (x : Queue) : Nat := max 1 ((x.headOff + x.items.length + 7) / 8)

/-- Cells held by pool queue q; none while it is off or in ring mode. -/
def Half.cellsOf (h : Half) (q : Nat) : Nat :=
  if h.queueOn q && h.queuePool q then (h.queue q).cells else 0

/-- `POOL_RSV` of queue q. -/
def Half.poolRsv (h : Half) (q : Nat) : Nat := h.get (Adr.Q_POOL q) 0 16

/-- The limit of queue q: `POOL_MAX`, acting as `POOL_RSV` where it lies below (R419). -/
def Half.poolMax (h : Half) (q : Nat) : Nat := max (h.get (Adr.Q_POOL q) 16 16) (h.poolRsv q)

/-- Cells of the pool that tests have retired or lent out (R488). -/
def Half.cellsAway (h : Half) : Nat := h.boot.retired.cells.length

/-- Cells on the free list (R418, R436). -/
def Half.poolFree (h : Half) : Nat :=
  0x10000 - h.cellsAway - ((List.range 64).map h.cellsOf).sum

/-- Reservations of the enabled pool queues (R436). -/
def Half.rsvTotal (h : Half) : Nat :=
  ((List.range 64).map (fun q => if h.queueOn q && h.queuePool q then h.poolRsv q else 0)).sum

/-- Unused reservations of the enabled pool queues other than q (R419). -/
def Half.rsvUnused (h : Half) (q : Nat) : Nat :=
  ((List.range 64).map (fun p =>
    if p ≠ q ∧ h.queueOn p ∧ h.queuePool p then h.poolRsv p - h.cellsOf p else 0)).sum

/-- Words in the slice of ring queue q (R417). -/
def Half.ringWords (h : Half) (q : Nat) : Nat := 256 * 2 ^ h.get (Adr.Q_CFG q) 12 4

/-- The capacity C of queue q at this moment (R417, R419). -/
def Half.capacity (h : Half) (q : Nat) : Nat :=
  if h.queuePool q then
    8 * max (h.cellsOf q)
      (min (h.poolMax q) (max (h.poolRsv q) (h.cellsOf q + (h.poolFree - h.rsvUnused q))))
  else h.ringWords q

/-- The `STATUS` of queue q as read (R434). -/
def Half.qStatus (h : Half) (q : Nat) : Nat :=
  let x := h.queue q
  let newestGap := match x.items.getLast? with | some i => itemGap i | none => false
  ofBool x.items.isEmpty + 2 * h.get (Adr.Q_STATUS q) 1 1 + 4 * ofBool (newestGap || x.held.isSome)
    + 8 * ofBool (!x.waiters.isEmpty)

/-- `PKTCNT` of queue q: items with END not yet popped (R426). -/
def Half.qPackets (h : Half) (q : Nat) : Nat := ((h.queue q).items.filter itemEnd).length

/-- The port of a requester (R63: one for the host port, one for the partner window, one for the processor). -/
def AccessSt.port (x : AccessSt) : Req → Port
  | .pcie => x.host
  | .qspi => x.host
  | .partner => x.partner
  | .mgmt => x.mgmt

/-- Replaces the port of a requester. -/
def AccessSt.setPort (x : AccessSt) (q : Req) (p : Port) : AccessSt :=
  match q with
  | .pcie => { x with host := p }
  | .qspi => { x with host := p }
  | .partner => { x with partner := p }
  | .mgmt => { x with mgmt := p }

/-- Changes the port of a requester. -/
def Half.onPort (h : Half) (q : Req) (f : Port → Port) : Half :=
  { h with acc := h.acc.setPort q (f (h.acc.port q)) }

/-- Completes an access of a requester. -/
def Half.complete (h : Half) (q : Req) (r : Resp) : Half := h.onPort q fun p => { p with prev := p.resp, resp := r }

/-- Completes a pop: the low word is returned, the high word latched into the shadow of `POP_LO` (R423). -/
def Half.finishPop (h : Half) (r : Req) (q : Nat) (x : BitVec 64) : Half :=
  (h.complete r ⟨x.truncate 32, true⟩).onPort r fun p => { p with
    shadow := some (Adr.Q_POP_LO q, (x >>> 32).truncate 32)
    stall := none }

/-- The queue after the removal of its oldest item (R418). -/
def Queue.dropHead (x : Queue) : Queue :=
  { x with items := x.items.drop 1, headOff := if x.headOff + 1 = 8 then 0 else x.headOff + 1 }

/-- Writes the held marker of queue q where a word is free (R427). -/
def Half.writeHeld (h : Half) (q : Nat) : Half :=
  let x := h.queue q
  match x.held with
  | none => h
  | some g =>
    if x.items.length + 1 ≤ h.capacity q then
      h.setQueue q { x with items := x.items ++ [gapMarker g], held := none }
    else h

/-- Removes the oldest item of queue q and returns what a pop delivers, by what its check bits show (R430). -/
def Half.takeItem (h : Half) (q : Nat) (ecc : Ecc) : BitVec 64 × Half :=
  let x := h.queue q
  match x.items with
  | [] => (0, h)
  | item :: _ =>
    let h1 := (h.setQueue q x.dropHead).writeHeld q
    match ecc with
    | .ok => (item, h1)
    | .single => (item, ((h1.count (Adr.QM_CORR_CNT q) 0 16 1).event (Adr.Q_EVENT q) 0).life .queueCorr 1)
    | .double => (mkItem true false true 0xE 0, h1.event (Adr.Q_EVENT q) 1)

/-- Gives the oldest item to the oldest stalled pop, when both are there (R433). -/
def Half.serveStall (h : Half) (q : Nat) : Half :=
  let x := h.queue q
  match x.waiters, x.items with
  | r :: rest, _ :: _ =>
    let (v, h1) := (h.setQueue q { x with waiters := rest }).takeItem q .ok
    h1.finishPop r q v
  | _, _ => h

/-- Records the drop of k items as one packet (or as loose items) from a source (R427, R428). -/
def Half.dropItems (h : Half) (q k packets src : Nat) : Half :=
  let h1 := h.count (Adr.QM_DROP_CNT q) 0 32 k
  let x := h1.queue q
  let add := fun (g : HeldGap) => (⟨g.src, g.packets + packets, g.items + k⟩ : HeldGap)
  match x.held with
  | some g => h1.setQueue q { x with held := some (add g) }
  | none =>
    match x.items.getLast? with
    | some last =>
      if itemGap last then
        h1.setQueue q { x with items := x.items.dropLast ++ [gapMarker (add (readGap last))] }
      else (h1.setQueue q { x with held := some ⟨src, packets, k⟩ }).writeHeld q
    | none => (h1.setQueue q { x with held := some ⟨src, packets, k⟩ }).writeHeld q

/-- Pushes a packet whole when it is accepted, else drops it (R421, R427). -/
def Half.pushItems (h : Half) (q : Nat) (items : List (BitVec 64)) (packets src : Nat) : Half :=
  let x := h.queue q
  if x.held.isNone && decide (x.items.length + items.length + 1 ≤ h.capacity q) then
    (h.setQueue q { x with items := x.items ++ items }).serveStall q
  else h.dropItems q items.length packets src

/-- The items of a hardware packet: END on the last, the source in each (R415, R416). -/
def packetItems (src : Nat) : List Nat → List (BitVec 64)
  | [] => []
  | [d] => [mkItem true false false src d]
  | d :: e :: rest => mkItem false false false src d :: packetItems src (e :: rest)

/-- A hardware producer pushes a packet of these data words to queue q; without a running queue, or while the Memory
region does not answer, nothing enters it (R14, R421, R432). -/
def Half.hwPush (h : Half) (q src : Nat) (data : List Nat) : Half :=
  if !h.up .memory || data.isEmpty then h
  else if !h.queueOn q then h.count (Adr.QM_DROP_CNT q) 0 32 data.length
  else h.pushItems q (packetItems src data) 1 src

/-- A packet of the graph or the engines for a user queue: without an enabled queue whose PRODUCER is GRAPH its items are
counted as dropped (R432). -/
def Half.graphPush (h : Half) (q : Nat) (data : List Nat) : Half :=
  if q < 16 then h
  else if h.get (Adr.Q_CFG q) 28 3 = 2 then h.hwPush q 9 data
  else if !h.up .memory then h
  else h.count (Adr.QM_DROP_CNT q) 0 32 data.length

/-- The requester is the named producer of queue q (R421, R422, R435). -/
def Half.isProducer (h : Half) (q : Nat) (r : Req) : Bool :=
  let p := h.get (Adr.Q_CFG q) 28 3
  match r with
  | .mgmt => p == 1
  | _ => p == 0 || (p == 3 && decide (16 ≤ q)) || decide (4 ≤ p)

/-- The requester is the named consumer of queue q (R423, R435). -/
def Half.isConsumer (h : Half) (q : Nat) (r : Req) : Bool :=
  match r with
  | .mgmt => h.bit (Adr.Q_CFG q) 27
  | _ => !h.bit (Adr.Q_CFG q) 27

/-- The source code of a requester's pushes (R416, R422). -/
def pushSrc : Req → Nat
  | .partner => 0xA
  | .mgmt => 1
  | _ => 0

/-- A write of `PUSH_HI` with the held `PUSH_LO`: the push of one host item (R422). -/
def Half.hostPushItem (h : Half) (r : Req) (q : Nat) (lo hi : Word) : Half :=
  if !h.isProducer q r || !h.queueOn q then h.count (Adr.QM_DROP_CNT q) 0 32 1
  else
    let fin := bitAt hi 30
    let item := mkItem fin false false (pushSrc r) (lo.toNat + 2 ^ 32 * getBits hi 0 24)
    h.pushItems q [item] (ofBool fin) (pushSrc r)

/-- A read of `POP_LO` by a requester (R423, R424, R76): an item, or a stall, or 0. -/
def Half.popQueue (h : Half) (r : Req) (q : Nat) (ecc : Ecc) : Half :=
  let x := h.queue q
  if !h.isConsumer q r || !h.queueOn q then h.finishPop r q 0
  else if x.items.isEmpty then
    if r = .partner ∨ h.get (Adr.Q_CFG q) 0 10 = 0 then h.finishPop r q 0
    else (h.setQueue q { x with waiters := x.waiters ++ [r] }).onPort r fun p => { p with stall := some q }
  else
    let (v, h1) := h.takeItem q ecc
    h1.finishPop r q v

/-- Completes every stalled pop of queue q with no item (R420). -/
def Half.endStalls (h : Half) (q : Nat) : Half :=
  let ws := (h.queue q).waiters
  ws.foldl (fun x r => x.finishPop r q 0) (h.setQueue q { h.queue q with waiters := [] })

/-- Empties queue q, its gap markers with it (R433). -/
def Half.flushQueue (h : Half) (q : Nat) : Half :=
  h.setQueue q { Queue.empty with waiters := (h.queue q).waiters }

/-- The slices of two ring queues overlap (R420). -/
def Half.sliceOverlap (h : Half) (p q : Nat) : Bool :=
  let s := fun i => h.get (Adr.Q_CFG i) 16 8
  let n := fun i => 2 ^ h.get (Adr.Q_CFG i) 12 4
  decide (s p < s q + n q) && decide (s q < s p + n p)

/-- The FAULT cause that refuses an enable of queue q, if any (R420). -/
def Half.enableRefusal (h : Half) (q : Nat) : Option Nat :=
  if h.queuePool q then
    if h.rsvTotal + h.poolRsv q > 0x10000 then some 3 else none
  else
    let lg := h.get (Adr.Q_CFG q) 12 4
    let base := h.get (Adr.Q_CFG q) 16 8
    if lg > 8 ∨ base % 2 ^ lg ≠ 0 ∨ base + 2 ^ lg > 256 ∨
        (List.range 64).any (fun p => p != q && h.queueOn p && !h.queuePool p && h.sliceOverlap p q) then some 2
    else none

/-- A write of `CTRL.EN` as 1: the check of the configuration, then the queue starts empty; nothing while it is
already enabled (R420). -/
def Half.enableQueue (h : Half) (q : Nat) : Half :=
  if h.bit (Adr.Q_CTRL q) 0 then h
  else
    match h.enableRefusal q with
    | some cause => h.latch (Adr.Q_FAULT q) cause
    | none => ((h.setQueue q Queue.empty).putBit (Adr.Q_CTRL q) 0 true).putBit (Adr.Q_STATUS q) 1 false

/-- A write of `CTRL.EN` as 0: every item is discarded, stalled pops complete, FAULTED ends (R420, R431). -/
def Half.disableQueue (h : Half) (q : Nat) : Half :=
  (((h.endStalls q).setQueue q Queue.empty).putBit (Adr.Q_CTRL q) 0 false).putBit (Adr.Q_STATUS q) 1 false

/-- A write of `Q[q].CTRL` (R434): FLUSH first, then EN. -/
def Half.writeQCtrl (h : Half) (q : Nat) (v : Word) : Half :=
  let h1 := if bitAt v 1 then h.flushQueue q else h
  if bitAt v 0 then h1.enableQueue q else h1.disableQueue q

/-- The bits of `Q[q].CFG` that a write may change: MODE, PRODUCER, RING and CONSUMER only while EN is 0, and in
Q0 to Q15 as R432 fixes them; STALL_LIMIT always (R420, R432, R435). -/
def Half.qCfgMask (h : Half) (q : Nat) : Nat :=
  if h.bit (Adr.Q_CTRL q) 0 then 0x3FF
  else if 16 ≤ q then 0xF8FFF3FF
  else if 3 ≤ q ∧ q ≤ 6 then 0x08FFF3FF
  else 0x00FFF3FF

/-- A write of `Q[q].CFG` (R420, R435). -/
def Half.writeQCfg (h : Half) (q : Nat) (v : Word) : Half :=
  let m := h.qCfgMask q
  h.wrNat (Adr.Q_CFG q) ((v.toNat &&& m) ||| ((h.rd (Adr.Q_CFG q)).toNat &&& (0xFFFFFFFF - m)))

/-- A write of `Q[q].POOL`: ignored while EN is 1 (R420). -/
def Half.writeQPool (h : Half) (q : Nat) (v : Word) : Half :=
  if h.bit (Adr.Q_CTRL q) 0 then h else h.wr (Adr.Q_POOL q) v

/-- The queues of queue cluster c (R437). -/
def clusterQueues (c : Nat) : List Nat := (List.range 16).map (16 * c + ·)

/-- A fault of queue cluster c: its queues are emptied and disabled with cause 0x0004 (R433, R437). -/
def Half.queueClusterFault (h : Half) (c : Nat) : Half :=
  ((clusterQueues c).foldl (fun x q =>
    (((x.endStalls q).setQueue q Queue.empty).putBit (Adr.Q_STATUS q) 1 true).latch (Adr.Q_FAULT q) 4) h).putBit
    (Adr.QC_STATUS c) 1 true

/-- A write of 1 to a queue cluster's CTRL bit: its queues start again from their configuration (R437). -/
def Half.queueClusterInit (h : Half) (c : Nat) : Half :=
  ((clusterQueues c).foldl (fun x q =>
    ((x.endStalls q).setQueue q Queue.empty).putBit (Adr.Q_STATUS q) 1 false) h).putBit (Adr.QC_STATUS c) 1 false

/-- A uncorrectable link of pool queue q: a unit fault of that queue, which discards its items (R431). -/
def Half.queueLinkFault (h : Half) (q : Nat) : Half :=
  ((((h.endStalls q).setQueue q Queue.empty).putBit (Adr.Q_STATUS q) 1 true).latch (Adr.Q_FAULT q) 1).event
    (Adr.Q_EVENT q) 1

end Sys2Proof.Machine
end

