-- ==== Sys2Proof/Machine/Crc.lean ====
section
/-! DEFINITION. The two checksums of the spec: the CRC-8 of QSPI frames (R49) and the CRC-32 of R297, which frames,
digests, messages and flash banks share. -/

namespace Sys2Proof.Machine

/-- One bit step of the CRC-8 register: polynomial 0x07, not reflected (R49). -/
def crc8Bit (c : Nat) : Nat := if c ≥ 128 then (2 * c % 256) ^^^ 0x07 else 2 * c

/-- One byte into the CRC-8. -/
def crc8Byte (c : Nat) (b : Byte) : Nat := (List.range 8).foldl (fun x _ => crc8Bit x) (c ^^^ b.toNat)

/-- The CRC-8 of a byte string: initial value 0x00, no final XOR (R49). -/
def crc8 (bs : List Byte) : Byte := BitVec.ofNat 8 (bs.foldl crc8Byte 0)

/-- One bit step of the reflected CRC-32 register (R297). -/
def crc32Bit (c : Nat) : Nat := if c % 2 = 1 then (c / 2) ^^^ 0xEDB88320 else c / 2

/-- One byte into the CRC-32. -/
def crc32Byte (c : Nat) (b : Byte) : Nat := (List.range 8).foldl (fun x _ => crc32Bit x) (c ^^^ b.toNat)

/-- The CRC-32 of a byte string (R297). -/
def crc32 (bs : List Byte) : Word := BitVec.ofNat 32 (bs.foldl crc32Byte 0xFFFFFFFF ^^^ 0xFFFFFFFF)

end Sys2Proof.Machine
end

