-- ==== Sys2Proof/Machine/Store.lean ====
section
/-! DEFINITION. The LPDDR5 as store addresses, its partition, the library's layout, and message players (R283 to R289,
R295 to R297, R301, R307, R308). -/

namespace Sys2Proof.Machine

open Sys2Proof

/-- Changes the working state of the store. -/
def Half.onStore (h : Half) (f : StoreSt → StoreSt) : Half := { h with store := f h.store }

/-- The word that holds four bytes of the store, the first in its low byte. A line nothing has written reads 0
(log entry 4). -/
def StoreSt.word (s : StoreSt) (i : Nat) : Word := lookAt (fun _ => 0) s.dram i

/-- A byte of the store. -/
def StoreSt.byte (s : StoreSt) (a : Nat) : Byte := BitVec.ofNat 8 ((s.word (a / 4)).toNat / 2 ^ (8 * (a % 4)))

/-- Bytes of the store. -/
def StoreSt.read (s : StoreSt) (a n : Nat) : List Byte := (List.range n).map fun i => s.byte (a + i)

/-- Writes four bytes as one word; the line is no longer poisoned. -/
def StoreSt.setWord (s : StoreSt) (i : Nat) (w : Word) : StoreSt :=
  { s with dram := storeAt (fun _ => 0) s.dram i w, poison := s.poison.filter (· != i / 16) }

/-- Writes bytes at a 4-byte aligned address. -/
def StoreSt.write (s : StoreSt) (a : Nat) (bs : List Byte) : StoreSt :=
  ((chunks 4 (bs.length + 1) bs).zipIdx).foldl (fun x p =>
    x.setWord (a / 4 + p.2) (BitVec.ofNat 32 (leNat p.1))) s

/-- Some line of a range is poisoned (R285). -/
def StoreSt.poisoned (s : StoreSt) (a n : Nat) : Bool := s.poison.any fun l => decide (64 * l < a + n ∧ a < 64 * l + 64)

/-- The scrub pass in 1/1000, spread evenly over `SCRUB_PERIOD`; a late pass shows 1000 (R286, R314). -/
def Half.scrubPermille (h : Half) : Nat :=
  min 1000 ((h.age - h.store.scrubAt) * 1000 / (28800000 * clampNat 1 24 (h.get Adr.MEM_SCRUB_PERIOD 0 5)))

/-- Bytes in a MiB. -/
def mib : Nat := 0x100000

/-- B and C of the partition in bytes (R289). -/
def Half.bankBytes (h : Half) : Nat := h.get Adr.MEM_PARTITION 8 8 * 64 * mib
def Half.recBytes (h : Half) : Nat := h.get Adr.MEM_PARTITION 0 8 * 64 * mib

/-- The base of a library bank and of the recorder ring (R289). -/
def Half.bankBase (h : Half) (b : Nat) : Nat := b * h.bankBytes
def Half.recBase (h : Half) : Nat := 2 * h.bankBytes

/-- The bank in service, and the staging bank (R293). -/
def Half.bankIn (h : Half) : Nat := h.get Adr.MSG_STATUS 1 1
def Half.bankOut (h : Half) : Nat := 1 - h.bankIn

/-- The region of the store that an address lies in: 0 library, 1 recorder, 2 placement, 3 firmware (R289, R314). -/
def Half.storeRegion (h : Half) (a : Nat) : Nat :=
  if a < 2 * h.bankBytes then 0
  else if a < 2 * h.bankBytes + h.recBytes then 1
  else if a < 0xF0000000 then 2
  else 3

/-- A big-endian 32-bit field of the store. -/
def StoreSt.be32 (s : StoreSt) (a : Nat) : Nat := beNat (s.read a 4)

/-- An index entry (R296). -/
structure Entry where
  valid : Bool
  stereo : Bool
  bits24 : Bool
  line : Nat
  frames : Nat
  crc : Nat
  deriving DecidableEq, Repr

/-- Reads index entry m of a bank (R295, R296). -/
def Half.entry (h : Half) (bank m : Nat) : Entry :=
  let a := h.bankBase bank + 32 * m
  let w0 := h.store.be32 a
  ⟨w0.testBit 31, w0.testBit 28, w0.testBit 27, h.store.be32 (a + 4), h.store.be32 (a + 8), h.store.be32 (a + 12)⟩

/-- Bytes of one sample and of one sample frame. -/
def Entry.sampleBytes (e : Entry) : Nat := if e.bits24 then 3 else 2
def Entry.frameBytes (e : Entry) : Nat := e.sampleBytes * (if e.stereo then 2 else 1)

/-- Bytes of a message's content. -/
def Entry.bytes (e : Entry) : Nat := e.frames * e.frameBytes

/-- The messages whose entries in a bank are VALID; only entries whose format word is written can be. -/
def Half.validMessages (h : Half) (bank : Nat) : List Nat :=
  let base := h.bankBase bank / 4
  (h.store.dram.filterMap fun p =>
    if base ≤ p.1 ∧ p.1 < base + 32768 ∧ (p.1 - base) % 8 = 0 ∧ (h.entry bank ((p.1 - base) / 8)).valid then
      some ((p.1 - base) / 8) else none)

/-- The CRC-32 of a bank's index (R297). -/
def Half.bankCrc (h : Half) (bank : Nat) : Word := crc32 (h.store.read (h.bankBase bank) 0x20000)

/-- The CRC-32 of the index in service (R303). -/
def Half.indexCrc (h : Half) : Word := h.bankCrc h.bankIn

/-- The sample of one channel of a frame of a message (R296, R307). -/
def Half.messageSample (h : Half) (bank : Nat) (e : Entry) (frame ch : Nat) : Word :=
  if frame < e.frames then
    let a := h.bankBase bank + 64 * e.line + frame * e.frameBytes + (if e.stereo then ch * e.sampleBytes else 0)
    sampleOf (h.store.read a e.sampleBytes)
  else 0

/-- Message m is marked DAMAGED (R306). -/
def Half.damaged (h : Half) (m : Nat) : Bool := h.bit (Adr.MSG_DAMAGED (m / 32)) (m % 32)

/-- The working state of player p, when it is assigned. -/
def Half.player (h : Half) (p : Nat) : Option PlayerSt := (h.graph.players.find? fun x => x.1 == p).map fun x => x.2

/-- Changes the Processing region's working state. -/
def Half.onGraph (h : Half) (f : GraphSt → GraphSt) : Half := { h with graph := f h.graph }

/-- Sets the working state of player p. -/
def Half.setPlayer (h : Half) (p : Nat) (x : PlayerSt) : Half :=
  h.onGraph fun g => { g with players := insertAt p x g.players }

/-- `BANK_BUSY`: a player is in a pass of a bank that is not in service (R301). -/
def Half.showBankBusy (h : Half) : Half :=
  h.putBit Adr.MSG_STATUS 2 ((List.range 64).any fun p =>
    h.bit (Adr.MSG_PLAYER p) 31 && h.get (Adr.MSG_PLAYER p) 29 1 != h.bankIn)

/-- Player p faults: it stops, and R221 replaces its feeds (R308). -/
def Half.playerFault (h : Half) (p cause : Nat) : Half :=
  let a := Adr.MSG_PLAYER p
  ((((h.putBit a 31 false).putBit a 30 true).put a 8 4 cause).event Adr.MSG_EVENT 2).showBankBusy

/-- Player p starts a pass of message m from the bank in service, or faults (R301, R307, R308). -/
def Half.playerPass (h : Half) (p m : Nat) (repeats : Bool) : Half :=
  let b := h.bankIn
  let e := h.entry b m
  let w := 0x80000000 + 2 ^ 29 * b + 2 ^ 28 * ofBool e.stereo + 2 ^ 12 * (m % 4096)
  let h1 := (h.wrNat (Adr.MSG_PLAYER p) w).setPlayer p ⟨0, false, repeats⟩
  if !h.bit Adr.MSG_STATUS 0 || !e.valid || decide (4096 ≤ m) then h1.playerFault p 1
  else if h.damaged m then h1.playerFault p 2
  else h1.showBankBusy

/-- The message that player p plays. -/
def Half.playerMsg (h : Half) (p : Nat) : Nat := h.get (Adr.MSG_PLAYER p) 12 12

/-- The entry that player p reads. -/
def Half.playerEntry (h : Half) (p : Nat) : Entry := h.entry (h.get (Adr.MSG_PLAYER p) 29 1) (h.playerMsg p)

/-- Player p has played its message to the end. -/
def Half.playerAtEnd (h : Half) (p : Nat) : Bool :=
  match h.player p with
  | some x => h.bit (Adr.MSG_PLAYER p) 31 && decide ((h.playerEntry p).frames ≤ x.pos)
  | none => false

/-- The end of a pass: a repeating player starts again, another is no longer in a pass, and its feeds end at the next
boundary (R219, R301). -/
def Half.passEnd (h : Half) (p : Nat) : Half :=
  match h.player p with
  | some x =>
    if x.repeats then h.playerPass p (h.playerMsg p) true
    else (h.putBit (Adr.MSG_PLAYER p) 31 false).showBankBusy
  | none => h

/-- The 48 kHz samples of one channel about the place a player has reached. -/
def Half.playerWindow (h : Half) (p ch pos : Nat) : List Word :=
  let e := h.playerEntry p
  (List.range 33).map fun i => if pos + i < 16 then 0 else h.messageSample (h.get (Adr.MSG_PLAYER p) 29 1) e (pos + i - 16) ch

/-- The two channels a player gives at its place: the sample, or the interpolated one at 96 kHz (R307). -/
def Half.playerSample (h : Half) (p : Nat) (x : PlayerSt) (ch : Nat) : Word :=
  if h.rate96 then Config.halfBandUp (h.playerWindow p ch x.pos) x.half96
  else h.messageSample (h.get (Adr.MSG_PLAYER p) 29 1) (h.playerEntry p) x.pos ch

/-- One sample of player p, left and right, and the half with the player moved on; silence while it is in no pass
(R307). -/
def Half.playerStep (h : Half) (p : Nat) : Word × Word × Half :=
  let h0 := if h.playerAtEnd p then h.passEnd p else h
  match h0.player p with
  | some x =>
    if !h0.bit (Adr.MSG_PLAYER p) 31 then (0, 0, h0)
    else
      let next : PlayerSt :=
        if h0.rate96 then { x with half96 := !x.half96, pos := if x.half96 then x.pos + 1 else x.pos }
        else { x with pos := x.pos + 1 }
      (h0.playerSample p x 0, h0.playerSample p x 1, h0.setPlayer p next)
  | none => (0, 0, h0)

/-- A player's samples as W channels take them: one channel the mean of a stereo message, more channels left and right
in turn (R307). -/
def spread (stereo : Bool) (w : Nat) (l r : Word) : List Word :=
  if !stereo then List.replicate w l
  else if w = 1 then [fMul (fAdd l r) 0x3F000000]
  else (List.range w).map fun i => if i % 2 = 0 then l else r

end Sys2Proof.Machine
end

