-- ==== Sys2Proof/Machine/Arbiter.lean ====
section
/-! DEFINITION. The priority arbiter (R215 to R221, R262, R263): zones, feeds, control states, the evaluation of a
boundary. -/

namespace Sys2Proof.Machine

open Sys2Proof

/-- The arbiter's state of zone z. -/
def Half.zone (h : Half) (z : Nat) : ZoneSt := lookAt (fun _ => ZoneSt.init) h.graph.zones z

/-- Changes the arbiter's state of zone z. -/
def Half.onZone (h : Half) (z : Nat) (f : ZoneSt → ZoneSt) : Half :=
  h.onGraph fun g => { g with zones := storeAt (fun _ => ZoneSt.init) g.zones z (f (h.zone z)) }

/-- The valid zones of the committed plan with their PRIORITY nodes (R215). -/
def Half.zones (h : Half) : List (Nat × Nat) := (h.plan false).zones

/-- Every feed of every zone. -/
def Half.feeds (h : Half) : List Feed := (h.graph.zones.map fun z => z.2.feeds).flatten

/-- The zones of a set that are valid (R261). -/
def Half.validOf (h : Half) (zs : List Nat) : List Nat := (h.zones.map fun z => z.1).filter zs.contains

/-- A source is assigned. -/
def Half.inUse (h : Half) : Source → Bool
  | .player p => (h.player p).isSome
  | .tone g => (h.graph.tones.find? fun x => x.1 == g).isSome

/-- The sources of one kind that feeds can be assigned (R263): 64 players, or generators 0 to 30. -/
def sourcesOf (tone : Bool) : List Source :=
  if tone then (List.range 31).map Source.tone else (List.range 64).map Source.player

/-- Removes the feeds of a source from every zone (R263). -/
def Half.dropSource (h : Half) (x : Source) : Half :=
  h.onGraph fun g => { g with zones := g.zones.map fun z => (z.1, { z.2 with feeds := z.2.feeds.filter fun f => f.src != x }) }

/-- The levels of a source's feeds when they all lie at one level below p. -/
def Half.stealLevel (h : Half) (p : Nat) (x : Source) : Option Nat :=
  match (h.feeds.filter fun f => f.src == x).map fun f => f.level with
  | [] => none
  | l :: ls => if l < p ∧ ls.all (· == l) then some l else none

/-- A player or generator for a command of priority p: a free one, or for p of at least 12 the one whose feeds all lie at
the lowest level below p, the oldest on a tie: the first in the order of its feeds (R263). -/
def Half.pickSource (h : Half) (tone : Bool) (p : Nat) : Option (Source × Half) :=
  let all := sourcesOf tone
  match all.find? fun x => !h.inUse x with
  | some x => some (x, h)
  | none =>
    if p < 12 then none
    else
      let order := ((h.feeds.map fun f => f.src).dedup).filter all.contains
      let cand := order.filterMap fun x => (h.stealLevel p x).map fun l => (l, x)
      match cand with
      | [] => none
      | c :: cs =>
        let best := cs.foldl (fun b x => if x.1 < b.1 then x else b) c
        some (best.2, h.dropSource best.2)

/-- Starts a source: a player on a message, a generator on a pattern (R262). -/
def Half.startSource (h : Half) (x : Source) (what : Nat) (repeats : Bool) : Half :=
  match x with
  | .player p => (h.wrNat (Adr.MSG_PLAYER p) 0).playerPass p what repeats
  | .tone g => h.onGraph fun y => { y with tones := insertAt g ⟨what, 0⟩ y.tones }

/-- Assigns a source as a feed at a level in zones (R216, R262). -/
def Half.assign (h : Half) (x : Source) (level : Nat) (mark : Option Nat) (zs : List Nat) : Half :=
  h.each zs fun y z => y.onZone z fun s => { s with feeds := s.feeds ++ [⟨level, x, mark, false⟩] }

/-- Sets or clears a control state (R216). -/
def ZoneSt.setCtl (s : ZoneSt) (l : Nat) (on : Bool) (origin : Option Nat) : ZoneSt :=
  let rest := s.ctl.filter fun c => c.1 != l
  { s with ctl := if on then rest ++ [(l, origin)] else rest }

/-- The effect of one command on one zone without a source (R262). -/
def ZoneSt.apply (s : ZoneSt) (code p : Nat) : ZoneSt :=
  match code with
  | 2 => { s with feeds := s.feeds.filter fun f => f.level != p, ctl := s.ctl.filter fun c => c.1 != p }
  | 3 => { s with mute := max s.mute (min p 12) }
  | 5 => { s with
      feeds := s.feeds.filter fun f => decide (p < f.level)
      ctl := s.ctl.filter fun c => decide (p < c.1)
      mute := if s.mute ≤ p then 0 else s.mute }
  | _ => s

/-- Removes what an alarm action entry created: its feeds, and the control states it is still the origin of (R277). -/
def ZoneSt.unmark (s : ZoneSt) (entry : Nat) : ZoneSt :=
  { s with feeds := s.feeds.filter fun f => f.mark != some entry, ctl := s.ctl.filter fun c => c.2 != some entry }

/-- The arbiter applies a command (R262, R263): the half, and the RESULT code of R281. -/
def Half.applyCmd (h : Half) (c : AlarmCmd) : Half × Nat :=
  let zs := h.validOf c.zones
  if c.code = 0x80 then
    match c.mark with
    | some e => (h.each (h.graph.zones.map fun z => z.1) fun x z => x.onZone z fun s => s.unmark e, 0)
    | none => (h, 0)
  else if c.code = 6 then (h, 2)
  else if zs.isEmpty then (h, 0)
  else if c.code = 1 ∧ c.flags.testBit 1 then
    (h.each zs fun x z => x.onZone z fun s => s.setCtl c.prio true c.mark, 0)
  else if c.code = 1 ∨ c.code = 4 then
    match h.pickSource (c.code == 4) c.prio with
    | some (x, h1) => ((h1.startSource x c.source (c.flags.testBit 0)).assign x c.prio c.mark zs, 0)
    | none => (if 12 ≤ c.prio then h.latch Adr.ALM_FAULT 3 else h, 0x17)
  else (h.each zs fun x z => x.onZone z fun s => s.apply c.code c.prio, 0)

/-- A feed names something that cannot play (R221): a faulted player, or a pattern that is not VALID. -/
def Half.cannotPlay (h : Half) (plan : Plan) (f : Feed) : Bool :=
  match f.src with
  | .player p => h.bit (Adr.MSG_PLAYER p) 30
  | .tone g =>
    match h.graph.tones.find? fun x => x.1 == g with
    | some t => !(plan.tones.any fun y => y.1 == t.2.pattern)
    | none => true

/-- A feed has ended: its player is in no pass and has not faulted (R219). -/
def Half.feedEnded (h : Half) (f : Feed) : Bool :=
  match f.src with
  | .player p => !f.replaced && (!h.bit (Adr.MSG_PLAYER p) 31 || (h.playerAtEnd p && !((h.player p).map (·.repeats)).getD false))
      && !h.bit (Adr.MSG_PLAYER p) 30
  | .tone _ => false

/-- The levels of a zone that are active, muting apart (R215, R218): with a feed, or by the mode of their port. -/
def ZoneSt.activeMask (s : ZoneSt) (n : Node) : Nat :=
  maskOf 16 fun l =>
    (s.feeds.any fun f => f.level == l) ||
      (match n.mode l with
       | 1 => true
       | 2 => s.vox.any fun v => v.1 == l
       | 3 => s.ctl.any fun c => c.1 == l
       | _ => false)

/-- A level is active: a level below M only with a feed (R218). -/
def ZoneSt.active (s : ZoneSt) (n : Node) (l : Nat) : Bool :=
  (s.activeMask n).testBit l && (decide (s.mute ≤ l) || s.feeds.any fun f => f.level == l)

/-- The highest active level (R218). -/
def ZoneSt.winnerOf (s : ZoneSt) (n : Node) : Option Nat := (List.range 16).reverse.find? fun l => s.active n l

/-- The evaluation of one zone at step 4 of R21 (R218 to R221, R232). -/
def Half.evalZone (h : Half) (plan : Plan) (zp : Nat × Nat) : Half :=
  match plan.node zp.2 with
  | none => h
  | some n =>
    let z := zp.1
    let s0 := h.zone z
    let kept := s0.feeds.filter fun f => !h.feedEnded f
    let marked := kept.map fun f => { f with replaced := f.replaced || h.cannotPlay plan f }
    let fresh_ := marked.any fun f => f.replaced && !(kept.contains f)
    let s1 := { s0 with feeds := marked }
    let w := s1.winnerOf n
    let ls := (List.range 16).any fun l => decide (12 ≤ l) && s1.active n l
    let fb := marked.any fun f => f.replaced
    let word := 2 ^ 31 + 2 ^ 30 * ofBool ls + 2 ^ 29 * ofBool fb + 2 ^ 28 * ofBool w.isNone + 2 ^ 24 * s1.mute
      + 2 ^ 20 * w.getD 0 + s1.activeMask n
    let h1 := (h.onZone z fun _ => { s1 with winner := w }).wrNat (Adr.GRF_ZSTATE z) word
    let h2 := if w == s0.winner then h1 else h1.event Adr.GRF_EVENT 3
    if fresh_ then (h2.event Adr.GRF_EVENT 4).latch Adr.GRF_FAULT 2 else h2

/-- Releases players and generators of which no zone holds a feed; generator 31 plays while a feed is replaced
(R221, R263). -/
def Half.releaseSources (h : Half) (plan : Plan) : Half :=
  let fs := h.feeds
  let used := fun x => fs.any fun f => f.src == x
  let gone := (h.graph.players.map fun x => x.1).filter fun p => !used (.player p)
  let h1 := h.each gone fun x p => (x.putBit (Adr.MSG_PLAYER p) 31 false)
  let h2 := h1.onGraph fun g => { g with
    players := g.players.filter fun x => !gone.contains x.1
    tones := g.tones.filter fun x => if x.1 = 31 then fs.any (·.replaced) else used (.tone x.1) }
  let h3 := if fs.any (·.replaced) && !(h2.inUse (.tone 31)) then
      h2.onGraph fun g => { g with tones := insertAt 31 ⟨plan.fallback, 0⟩ g.tones }
    else h2
  h3.showBankBusy

/-- The evaluation of every zone (R218), and what shows it. -/
def Half.arbitrate (h : Half) : Half :=
  let plan := h.plan false
  let h1 := plan.zones.foldl (fun (x : Half) z => x.evalZone plan z) h
  let h2 := h1.each ((h1.recordsAt 0x60400 0x400 4).filter fun z => !(plan.zones.any fun y => y.1 == z)) fun x z =>
    x.wrNat (Adr.GRF_ZSTATE z) 0
  let h3 := h2.each (List.range 8) fun x w =>
    x.wrNat (Adr.GRF_LS_ZONES w) (maskOf 32 fun b => x.bit (Adr.GRF_ZSTATE (32 * w + b)) 30)
  let any := (List.range 8).any fun w => (h3.rd (Adr.GRF_LS_ZONES w)).toNat != 0
  (h3.putBit Adr.GRF_STATUS 3 any).releaseSources plan

/-- The arbiter's state after a plan commit (R221, R228, R263): zones no longer valid lose their feeds; control states of
levels no longer CONTROLLED, and VOX levels no longer VOX, are set off. -/
def Half.commitZones (h : Half) : Half :=
  let plan := h.plan false
  let keep := fun (z : Nat × ZoneSt) =>
    match (plan.zones.find? (fun y => y.1 == z.1)).bind (fun y => plan.node y.2) with
    | none => none
    | some n =>
      let s := { z.2 with
        ctl := z.2.ctl.filter fun c => n.mode c.1 == 3
        vox := z.2.vox.filter fun v => n.mode v.1 == 2 }
      if s = ZoneSt.init then none else some (z.1, s)
  h.onGraph fun g => { g with zones := g.zones.filterMap keep }

/-- A `LEVEL_CMD` write (R216, R217): refused for a level of 12 or above, a zone not valid, a level not CONTROLLED. -/
def Half.levelCmd (h : Half) (on : Bool) (level zone : Nat) : Half :=
  let plan := h.plan false
  let mode : Option Nat := ((plan.zones.find? (fun y => y.1 == zone)).bind (fun y => plan.node y.2)).map (fun n => n.mode level)
  if 12 ≤ level ∨ mode ≠ some 3 then h.event Adr.GRF_EVENT 5
  else h.onZone zone fun s => s.setCtl level on none

/-- VOX_HOLD_EXPIRY: VOX_HOLD has passed since the last block that reached the threshold (R215). -/
def execVoxHoldExpiry (h : HalfId) (zone : BitVec 8) (level : Fin 16) (s : State) : Host.Outcome State Fault Refusal :=
  .next (s.on h fun x =>
    let plan := x.plan false
    match (plan.zones.find? (fun y => y.1 == zone.toNat)).bind (fun y => plan.node y.2) with
    | some n =>
      let hold := 8 * getBits (n.w 3) 0 16
      x.onZone zone.toNat fun st => { st with
        vox := st.vox.filter fun v => !(v.1 == (level : Nat) && decide (v.2 + hold ≤ x.age)) }
    | none => x)

/-- PLAYER_PASS_END (R219, R301). -/
def execPlayerPassEnd (h : HalfId) (p : Fin 64) (s : State) : Host.Outcome State Fault Refusal :=
  .next (s.on h fun x => if x.playerAtEnd p then x.passEnd p else x)

/-- PLAYER_FAULT: a read is uncorrectable or the buffer runs empty (R308). -/
def execPlayerFault (h : HalfId) (p : Fin 64) (empty : Bool) (s : State) : Host.Outcome State Fault Refusal :=
  .next (s.on h fun x => if x.bit (Adr.MSG_PLAYER p) 31 then x.playerFault p (if empty then 4 else 3) else x)

end Sys2Proof.Machine
end

