-- ==== Sys2Proof/Machine/Frame.lean ====
section
/-! DEFINITION. Ethernet, IPv4 and UDP fields of a frame, as the MAC and the firmware read and build them (R91 to R94,
R134, R266). -/

namespace Sys2Proof.Machine

open Sys2Proof

/-- What the classifier reads of a frame without its FCS. -/
structure Parsed where
  da : List Byte
  sa : List Byte
  tci : Option Nat
  /-- A second tag, or TPID 0x88A8 (R93). -/
  badTag : Bool
  etype : Nat
  /-- What follows the Ethertype. -/
  body : List Byte
  deriving DecidableEq, Repr

/-- Reads the Ethernet header of a frame without its FCS. -/
def parseFrame (f : List Byte) : Parsed :=
  let t := beAt f 12 2
  if t = 0x8100 then
    let t2 := beAt f 16 2
    ⟨f.take 6, slice f 6 6, some (beAt f 14 2), t2 == 0x8100 || t2 == 0x88A8, t2, f.drop 18⟩
  else ⟨f.take 6, slice f 6 6, none, t == 0x88A8, t, f.drop 14⟩

/-- The fields of an IPv4 datagram. -/
structure Ipv4 where
  proto : Nat
  src : Nat
  dst : Nat
  /-- A fragment: MF set or a fragment offset. -/
  fragment : Bool
  payload : List Byte
  deriving DecidableEq, Repr

/-- Reads an IPv4 datagram: version 4, a header of at least 20 bytes, its total length within the frame. -/
def Parsed.ipv4 (p : Parsed) : Option Ipv4 :=
  if p.etype ≠ 0x0800 then none
  else
    let v := byteAt p.body 0
    let hl := 4 * (v % 16)
    let total := beAt p.body 2 2
    if v / 16 ≠ 4 ∨ hl < 20 ∨ total < hl ∨ p.body.length < total then none
    else
      let fl := beAt p.body 6 2
      some ⟨byteAt p.body 9, beAt p.body 12 4, beAt p.body 16 4, fl % 0x4000 != 0, slice p.body hl (total - hl)⟩

/-- The fields of a UDP datagram. -/
structure Udp where
  srcIp : Nat
  dstIp : Nat
  srcPort : Nat
  dstPort : Nat
  payload : List Byte
  deriving DecidableEq, Repr

/-- Reads an unfragmented IPv4 UDP datagram. -/
def Parsed.udp (p : Parsed) : Option Udp :=
  match p.ipv4 with
  | none => none
  | some d =>
    let len := beAt d.payload 4 2
    if d.proto ≠ 17 ∨ d.fragment ∨ len < 8 ∨ d.payload.length < len then none
    else some ⟨d.src, d.dst, beAt d.payload 0 2, beAt d.payload 2 2, slice d.payload 8 (len - 8)⟩

/-- The FCS of a frame: the CRC-32, sent least significant byte first. -/
def fcsBytes (f : List Byte) : List Byte := leBytes 4 (crc32 f).toNat

/-- The ones'-complement sum of IPv4: carries folded twice. -/
def onesSum (bs : List Byte) : Nat :=
  let s := ((chunks 2 (bs.length + 1) bs).map (fun c => beNat (c ++ List.replicate (2 - c.length) 0))).sum
  let f := s % 0x10000 + s / 0x10000
  0xFFFF - (f % 0x10000 + f / 0x10000) % 0x10000

/-- An IPv4 header without options: DSCP and ECN byte, protocol, addresses, payload length. -/
def ipv4Header (tos ttl proto src dst len : Nat) : List Byte :=
  let h := beBytes 1 0x45 ++ beBytes 1 tos ++ beBytes 2 (20 + len) ++ beBytes 2 0 ++ beBytes 2 0x4000 ++ beBytes 1 ttl
    ++ beBytes 1 proto
  let a := beBytes 4 src ++ beBytes 4 dst
  h ++ beBytes 2 (onesSum (h ++ [0, 0] ++ a)) ++ a

/-- A UDP datagram in IPv4, checksum 0. -/
def udpDatagram (tos ttl src dst sport dport : Nat) (payload : List Byte) : List Byte :=
  ipv4Header tos ttl 17 src dst (8 + payload.length) ++ beBytes 2 sport ++ beBytes 2 dport
    ++ beBytes 2 (8 + payload.length) ++ [0, 0] ++ payload

/-- The MAC group address of an IPv4 multicast address. -/
def groupMac (ip : Nat) : List Byte := [0x01, 0x00, 0x5E] ++ beBytes 3 (ip % 0x800000)

/-- An Ethernet frame, padded to 60 bytes. -/
def etherFrame (da sa : List Byte) (etype : Nat) (body : List Byte) : List Byte :=
  let f := da ++ sa ++ beBytes 2 etype ++ body
  f ++ List.replicate (60 - f.length) 0

/-- The broadcast address. -/
def broadcastMac : List Byte := List.replicate 6 0xFF

end Sys2Proof.Machine
end

