-- ==== Sys2Proof/Machine/Capture.lean ====
section
/-! DEFINITION. The captures of bus errors and of paired-write failures (R68, R80, R81). -/

namespace Sys2Proof.Machine

open Sys2Proof

/-- The SIZE code of an access (R80); a 64-bit access is two 32-bit ones, a gapped one is captured as 32-bit. -/
def Width.code : Width → Nat
  | .w8 => 0
  | .w16 => 1
  | _ => 2

/-- Captures a bus error: the first since `BUSERR_INFO` was read, later ones counted in MORE (R80). -/
def Half.busError (h : Half) (q : Req) (addr : Nat) (w : Width) (write : Bool) (cause : Nat) : Half :=
  let h1 :=
    if h.bit Adr.DIE_BUSERR_INFO 31 then h.count Adr.DIE_BUSERR_INFO 16 8 1
    else
      (h.wrNat Adr.DIE_BUSERR_ADDR addr).wrNat Adr.DIE_BUSERR_INFO
        (0x80000000 + 0x1000 * q.code + 0x100 * cause + 2 * Width.code w + ofBool write)
  h1.event Adr.DIE_EVENT 0

/-- Captures a paired-write failure in the same manner (R68, R81). -/
def Half.pwFail (h : Half) (q : Req) (slot cause : Nat) : Half :=
  let h1 :=
    if h.bit Adr.DIE_PWFAIL_INFO 31 then h.count Adr.DIE_PWFAIL_INFO 16 8 1
    else (h.wrNat Adr.DIE_PWFAIL_ADDR slot).wrNat Adr.DIE_PWFAIL_INFO (0x80000000 + 0x1000 * q.code + 0x100 * cause)
  h1.event Adr.DIE_EVENT 1

/-- Each refusal of a confirmed value by its owning block (R68 cause 0x5). -/
def Half.pwRefuse (h : Half) (q : Req) (slot : Nat) : Half := h.pwFail q slot 5

end Sys2Proof.Machine
end

