-- ==== Sys2Proof/Machine/Region.lean ====
section
/-! DEFINITION. What a reset of one region leaves (R17): its status and counters at their reset values, its units'
working state at its start, its configuration as last committed. -/

namespace Sys2Proof.Machine

open Sys2Proof

/-- The word at an address is a status or counter of region r: a region reset puts it back to its reset value, while
configuration, tables and mirrored words keep the last committed copy (R17). -/
def regionStatus (r : Region) (a : Nat) : Bool :=
  match locate a with
  | some l => l.region == r && !l.table && !l.reg.m && (l.reg.attr == .ro || l.reg.attr == .rc)
  | none => false

/-- The word at an address shows what a reset of its region does not undo: the plan in force and its rate (R223, R229),
engine states (R495), counts since power-on (R497), the recorder ring's places (R313). -/
def keptStatus (a : Nat) : Bool :=
  a == Adr.GRF_PLAN_ID || a == Adr.GRF_PENDING_ID || a == Adr.GRF_STATUS || a == Adr.HLT_TMR_CORR ||
    a == Adr.REC_WRITE_OFS || a == Adr.REC_OLDEST_OFS || a == Adr.REC_LAST_SEQ || a == Adr.MEM_RETIRED ||
    (List.range 8).any (fun e => a == Adr.ENG_STATUS e)

/-- The working state of a region's units at its start. The alarm state of the zones, like the plan, is restored by the
resync that follows the reset of a half that is not ACTIVE (R16); Q0 to Q15 restart with their reset configuration (R433). -/
def Half.clearUnits (h : Half) (r : Region) : Half :=
  match r with
  | .network => { h with macs := [MacSt.init, MacSt.init] }
  | .flow => { h with rxs := [], txs := [], txHist := [] }
  | .timing => { h with tim := TimSt.init }
  | .processing =>
    { (h.put Adr.GRF_STATUS 0 4 0) with
      inBlk := [], procIn := [], outBlk := []
      graph := { GraphSt.init with place := h.graph.place, causes := h.graph.causes, retiredRows := h.graph.retiredRows } }
  | .output => { h with out := { OutSt.init with
      pullsOff := h.out.pullsOff, prof := h.out.prof.map fun p => { p with syncDue := true, n := 0 } } }
  | .memory =>
    { h with
      regs := dropWhere (fun a => decide (Adr.Q_CTRL 0 ≤ a ∧ a < Adr.Q_ID 16)) h.regs
      queues := [], recd := { RecSt.init with ring := h.recd.ring }
      store := { StoreSt.init with
        dram := h.store.dram, poison := h.store.poison, corrected := h.store.corrected, sramRows := h.store.sramRows, scrubAt := h.store.scrubAt
        opened := h.store.opened || decide (1 ≤ h.get Adr.MSG_STATUS 4 3 ∧ h.get Adr.MSG_STATUS 4 3 ≤ 4) } }
  | .control => h
  | .sentinel => h

/-- Stalled pops of a Memory region that is isolated or reset end in bus errors (R60). -/
def Half.breakStalls (h : Half) : Half :=
  [Req.pcie, Req.mgmt].foldl (fun (x : Half) (q : Req) =>
    match (x.acc.port q).stall with
    | none => x
    | some i =>
      let r := if q == .pcie && x.bit Adr.DIE_STRAPS 1 then Req.qspi else q
      ((x.busError r (Adr.Q_POP_LO i) .w32 false 0xC).complete q ⟨0, false⟩).onPort q fun p => { p with stall := none }) h

/-- Puts a region into reset (R16, R17); the Sentinel region is reset only with its half. -/
def Half.resetRegion (h : Half) (r : Region) : Half :=
  if r = .sentinel then h
  else
    let h0 := if r = .memory then h.breakStalls else h
    let h1 := h0.clearUnits r
    let mine := fun (a : Nat) => match locate a with | some l => l.region == r | none => false
    { h1 with acc := { h1.acc with copies := dropWhere mine h1.acc.copies }, regs := dropWhere (fun a => regionStatus r a && !keptStatus a) h1.regs }.setRegion r .inReset

end Sys2Proof.Machine
end

