-- ==== Sys2Proof/Machine/Sentinel.lean ====
section
/-! DEFINITION. The sentinel's shared operations: the Breeze message and its HEALTH word (R444, R484), giving up control
(R459 to R461), the failure of a region (R15, R16), the release and the taking of the ACTIVE role (R463). -/

namespace Sys2Proof.Machine

open Sys2Proof

/-- 24 h in blocks of 125 µs (R439). -/
def dayBlocks : Nat := 691200000

/-- Amplifier channels whose STATE reads RUN (R351). -/
def Half.running (h : Half) (k : Nat) : Bool := h.get (Adr.AMP_STATUS k) 0 4 == 2

/-- `TRACKED` holds on every channel in RUN (R484). -/
def Half.allTracked (h : Half) : Bool :=
  (List.range 32).all fun k => !h.running k || h.bit (Adr.AMP_TRACK k) 31

/-- The HEALTH word of a half (R484). -/
def Half.health (h : Half) : Word :=
  let mpll := h.get Adr.TIM_MPLL_STATUS 0 3
  BitVec.ofNat 32 (2 ^ 16 * maskOf 8 (fun i => getAt h.regions i .up == .up)
    + 2 ^ 15 * h.get Adr.PLC_STATUS 3 1
    + 2 ^ 14 * ofBool (mpll == 2 || mpll == 3)
    + 2 ^ 13 * h.get Adr.TIM_CARRIER_ALIGN 30 1
    + 2 ^ 12 * ofBool h.allTracked
    + 2 ^ 11 * h.get Adr.MSG_STATUS 0 1
    + 2 ^ 10 * h.get Adr.RDN_KILL_CTRL 0 1)

/-- The message a half sends now, with its type and argument (R444). -/
def Half.message (h : Half) (type arg : Nat) : BreezeMsg :=
  { type := type, role := h.role.code, mirrorFmt := h.boot.mirrorFmt, seq := h.rdn.txSeq, health := h.health
    planId := h.rd Adr.GRF_PLAN_ID, libGen := h.rd Adr.MSG_LIB_GEN, arg := arg % 2 ^ 32, image := h.boot.image }

/-- The bytes of a message: the fields of R444, then their CRC-32. -/
def BreezeMsg.bytes (m : BreezeMsg) : List Byte :=
  let body := beBytes 1 m.type ++ beBytes 1 m.role ++ beBytes 2 m.mirrorFmt ++ beBytes 4 m.seq
    ++ beBytes 4 m.health.toNat ++ beBytes 4 m.planId.toNat ++ beBytes 4 m.libGen.toNat ++ beBytes 4 m.arg
    ++ beBytes 4 m.image.toNat
  body ++ beBytes 4 (crc32 body).toNat

/-- Sends a message in the Breeze format; nothing leaves while the link is down or the management processor does not
run (R444, R460 step 3). -/
def Half.send (h : Half) (type arg : Nat) : Half :=
  if h.linkUp && h.up .control && h.live then
    { h with rdn := { h.rdn with
        breezeOut := h.rdn.breezeOut ++ [h.message type arg]
        txSeq := (h.rdn.txSeq + 1) % 2 ^ 32 } }
  else h

/-- The target of a handover in progress. -/
def Handover.target : Handover → Option Nat
  | .idle => none
  | .asked t => some t
  | .agreed t => some t
  | .taking t => some t
  | .waiting t => some t
  | .launching _ => none

/-- Ends a handover with a result code: BUSY falls, `RESULT` shows the code, `EVENT.ROLE` is set (R466, R482). -/
def Half.endHandover (h : Half) (result : Nat) : Half :=
  (({ h with sent := { h.sent with handover := .idle } }.put Adr.RDN_HANDOVER_STATUS 31 1 0).put
    Adr.RDN_HANDOVER_STATUS 24 7 result).event Adr.RDN_EVENT 2

/-- Ends a handover ABANDONED before T; tell says whether HO_ABANDON is sent (R477). -/
def Half.abandon (h : Half) (tell : Bool) : Half :=
  match h.sent.handover.target with
  | none => h
  | some t => if tell then (h.endHandover 9).send 0x14 t else h.endHandover 9

/-- The state a transmit slot shows (R152): 0 DISABLED, 1 RUNNING, 2 SILENT, 3 STOPPED. -/
def Half.txState (h : Half) (n : Nat) : Nat :=
  if !h.bit (Adr.FTX_CTRL n) 0 then 0
  else if h.sent.forceData || h.bit (Adr.FTXC_STATUS (n / 128)) 1 then 3
  else if h.role == .active then 1
  else 2

/-- Brings the STATE of transmit slot n into line; a change sets `EVENT.STATE` (R152). -/
def Half.txRefreshOne (h : Half) (n : Nat) : Half :=
  if h.get (Adr.FTX_STATUS n) 0 3 = h.txState n then h
  else (h.put (Adr.FTX_STATUS n) 0 3 (h.txState n)).event (Adr.FTX_EVENT n) 0

/-- The transmit slots that the committed plan or their status names. -/
def Half.txSlots (h : Half) : List Nat :=
  (h.regs.filter (fun p => 0x50000 ≤ p.1 ∧ p.1 < 0x60000 ∧ (p.1 % 0x40 = 4 ∨ p.1 % 0x40 = 8))).map
    (fun p => (p.1 - 0x50000) / 0x40)

/-- Brings every transmit slot's STATE into line with role, forcing and cluster faults (R100, R152). -/
def Half.txRefresh (h : Half) : Half := h.each h.txSlots Half.txRefreshOne

/-- `SVC_ACTIVE` on both ports (R465). -/
def Half.setSvc (h : Half) (on : Bool) : Half :=
  (h.putBit (Adr.MAC_STATUS 0) 11 on).putBit (Adr.MAC_STATUS 1) 11 on

/-- Changes the sentinel of a half. -/
def Half.onSent (h : Half) (f : Sentinel → Sentinel) : Half := { h with sent := f h.sent }

/-- Changes the redundancy state of a half. -/
def Half.onRdn (h : Half) (f : RdnSt → RdnSt) : Half := { h with rdn := f h.rdn }

/-- Forces all three planes to their fail-safe states (R22, R460). -/
def Half.forceAll (h : Half) : Half :=
  h.onSent fun x => { x with forceData := true, forceCtl := true, forceMgmt := true }

/-- Ends the forcing of all three planes (R460). -/
def Half.unforce (h : Half) : Half :=
  h.onSent fun x => { x with forceData := false, forceCtl := false, forceMgmt := false }

/-- Records one give-up: last cause, and the give-ups of the last 24 h (R439, R479). -/
def Half.countGiveUp (h : Half) (cause : Nat) : Half :=
  let recent := h.age :: h.sent.giveUpAt.filter (fun b => decide (h.age < b + dayBlocks))
  ((h.onSent fun x => { x with giveUpAt := recent }).put Adr.RDN_YIELD_COUNT 16 8 cause).put
    Adr.RDN_YIELD_COUNT 0 8 (min recent.length 255)

/-- Steps 2 to 4 of R460: the line is released, YIELD sent, Draught switched, transmit slots stopped, `SVC_ACTIVE`
cleared; the half is OFFLINE, or ISOLATED on a third give-up within 24 h or under R452 (R439, R442). -/
def Half.releaseControl (h : Half) (cause : Nat) : Half :=
  let isolate := decide (3 ≤ h.sent.giveUpAt.length) || h.sent.toIsolated
  let h1 := h.onSent fun x => { x with
    own := false, draught := .yield, giveUp := .released cause, ready := false, modulate := false
    holding := false, yieldWait := false, claiming := 0, grace := false, isoFault := isolate, toIsolated := false
    forceData := !isolate, forceMgmt := !isolate, forceCtl := true }
  let h2 := (h1.setRole (if isolate then .isolated else .offline)).send 0x02 cause
  ((h2.setSvc false).onRdn fun x => { x with arpDue := false, arpAgain := none }).txRefresh

/-- A cause of R459 on a half: recorded, and acted on by role (R460, R461). An ACTIVE half forces its planes and waits
for the carrier boundary; a STANDBY or SYNCING half carries out steps 3 and 4 at once; cause 0x0008 there follows
R16. -/
def Half.giveUpFor (h : Half) (cause : Nat) : Half :=
  let h1 := h.latch Adr.RDN_FAULT cause
  if h.sent.giveUp ≠ .idle ∨ h.sent.dead then h1
  else
    match h.role with
    | .active =>
      (((h1.abandon true).countGiveUp cause).forceAll).onSent fun x => { x with giveUp := .detected cause }
    | .standby | .syncing =>
      if cause = 8 then h1
      else (((h1.abandon true).countGiveUp cause).forceAll).releaseControl cause
    | .offline | .isolated => h1

/-- A carrier boundary, or 3.0 µs without one, at a half that gives up control: steps 1 and 2 of R460. -/
def Half.giveUpBoundary (h : Half) : Half :=
  match h.sent.giveUp with
  | .detected cause => h.releaseControl cause
  | _ => h

/-- Goes to SYNCING: the resync starts over (R439, R440, R471). -/
def Half.goSyncing (h : Half) : Half :=
  ((h.abandon true).setRole .syncing).onRdn fun x => { x with passes := 0, lastClean := false, gapSince := false }

/-- The partner's latest Breeze reports it STANDBY with region r healthy (R16). -/
def Half.partnerCovers (h : Half) (r : Region) : Bool :=
  match h.rdn.view with
  | some v => h.bit Adr.RDN_STATUS 5 && v.role == 2 && bitAt v.health (16 + r.bit)
  | none => false

/-- A region is declared failed (R15): the health record keeps it, its edge guards isolate it, and the half acts by its
role (R16). -/
def Half.failRegion (h : Half) (r : Region) : Half :=
  if !h.up r then h
  else
    let h0 := if r = .memory then h.breakStalls else h
    let h1 := { h0.setRegion r .failed with hlt := { h.hlt with failed := h.hlt.failed ||| 2 ^ r.bit } }
    match h.role with
    | .active =>
      if r.required || h.partnerCovers r then h1.giveUpFor 8 else h1.resetRegion r
    | .standby | .syncing => h1.goSyncing.resetRegion r
    | .offline | .isolated => h1.resetRegion r

/-- A three-way disagreement in a triplicated field that region r holds: bus source 52, a die-level fault, a failed
region (R15, R71). -/
def Half.tmrDisagree (h : Half) (r : Region) : Half :=
  ((h.event Adr.EVT_SYS_EVENT 1).giveUpFor 1).failRegion r

/-- A single-copy correction outside Gust injection: counted, and reported by source 52 (R71, R522). -/
def Half.tmrCorrected (h : Half) : Half := (h.count Adr.HLT_TMR_CORR 0 32 1).event Adr.EVT_SYS_EVENT 2

/-- A reference fails with a cause: FAILED, the cause kept, `EVENT.REF_STATE`; nothing while DISABLED (R178, R179). -/
def Half.refFail (h : Half) (i cause : Nat) : Half :=
  if h.get (Adr.TIM_REF_STATUS i) 0 3 = 0 then h
  else ((h.put (Adr.TIM_REF_STATUS i) 0 3 4).put (Adr.TIM_REF_STATUS i) 4 4 cause).event Adr.TIM_EVENT 0

/-- The half that takes over restarts in full every probe that it finds in progress, which is not counted (R372): the channel
is in SHORT with its time served. -/
def Half.restartProbes (h : Half) : Half :=
  h.each ((List.range 32).filter fun k => h.get (Adr.AMP_STATUS k) 0 4 == 4) fun x k =>
    ((x.put (Adr.AMP_PROBE k) 16 16 0).put (Adr.AMP_STATUS k) 0 4 3).event (Adr.AMP_EVENT k) 0

/-- What becoming ACTIVE does within the half (R372, R463, R465): the role, `SVC_ACTIVE`, the failure of reference 4 with
cause 0x7, probes, transmit slots, gratuitous ARP, the mirror and compare status of an ACTIVE half. The Lull of `LAST_TAKEOVER` in 10 ns is
measured below the block, so it is a free value (log entry 110). -/
def Half.becomeActive (h : Half) (kind : Nat) : Half :=
  let h1 := { (h.setRole .active).setSvc true with alarm := { h.alarm with firstBoundary := true } }
  let h2 := (h1.refFail 4 7).restartProbes
  let h3 := ((h2.putBit Adr.RDN_MIRROR_STATUS 31 false).putBit Adr.RDN_COMPARE_STATUS 31 false).put
    Adr.TIM_CARRIER_ALIGN 30 2 0
  let (lull, h3) := h3.fresh 16
  let h4 := (h3.put Adr.RDN_LAST_TAKEOVER 28 4 kind).put Adr.RDN_LAST_TAKEOVER 0 16 lull.toNat
  ((h4.onRdn fun x => { x with arpDue := true, arpAgain := none, lossSeen := false }).onSent fun x =>
    { x with yieldWait := false, holding := false, modulate := false, claiming := 0 }).txRefresh

/-- Steps 1 to 3 of R460 as far as a pin or power-on reset leaves time for (R529): an ACTIVE half sends YIELD and
releases its line before it enters reset. -/
def Half.releaseForReset (h : Half) : Half :=
  match h.role with
  | .active => (h.send 0x02 0).onSent fun x => { x with own := false, draught := .yield }
  | _ => h

end Sys2Proof.Machine
end

