-- ==== Sys2Proof/Machine/Mac.lean ====
section
/-! DEFINITION. The Ethernet MACs: link, MDIO, filters, receive and transmit rings, transmission, preemption, pause,
low-power idle, timestamps (R83 to R126). -/

namespace Sys2Proof.Machine

open Sys2Proof

/-- The working state of MAC p. -/
def Half.mac (h : Half) (p : Nat) : MacSt := getAt h.macs p MacSt.init

/-- Changes the working state of MAC p. -/
def Half.onMac (h : Half) (p : Nat) (f : MacSt → MacSt) : Half := { h with macs := modAt h.macs p f }

/-- The counters of R120 by the order of their offsets. -/
inductive MacCnt
  | rxOctets | rxFrames | rxBcast | rxMcast | rxRunt | rxFcsErr | rxOversize | rxFiltered | rxVlanDrop | rxOverrun
  | rxNobuf | rxPause | rxMacctrlUnsup | rxFragments | rxAssyErr | rxSmdErr | txOctets | txFrames | txBcast | txMcast
  | txUnderrun | txLateDrop | txLinkdownDrop | txFragments | txPreemptions | pausedNs | lpiEntries | lpiNs
  deriving DecidableEq, Repr

/-- The place of a counter (R120). -/
def MacCnt.idx : MacCnt → Nat
  | .rxOctets => 0 | .rxFrames => 1 | .rxBcast => 2 | .rxMcast => 3 | .rxRunt => 4 | .rxFcsErr => 5
  | .rxOversize => 6 | .rxFiltered => 7 | .rxVlanDrop => 8 | .rxOverrun => 9 | .rxNobuf => 10 | .rxPause => 11
  | .rxMacctrlUnsup => 12 | .rxFragments => 13 | .rxAssyErr => 14 | .rxSmdErr => 15 | .txOctets => 16
  | .txFrames => 17 | .txBcast => 18 | .txMcast => 19 | .txUnderrun => 20 | .txLateDrop => 21
  | .txLinkdownDrop => 22 | .txFragments => 23 | .txPreemptions => 24 | .pausedNs => 25 | .lpiEntries => 26
  | .lpiNs => 27

/-- Adds d to a counter of MAC p (R120). -/
def Half.tally (h : Half) (p : Nat) (c : MacCnt) (d : Nat) : Half :=
  let a := Adr.MAC_CNT p (2 * c.idx)
  h.wr64 a (h.rd64 a + d)

/-- A station address held in a LO and a HI register (R120). -/
def Half.stationAddr (h : Half) (lo hi : Nat) : List Byte := beBytes 2 (h.get hi 0 16) ++ beBytes 4 (h.rd lo).toNat

/-- The half's own address on port p. -/
def Half.halfAddr (h : Half) (p : Nat) : List Byte := h.stationAddr (Adr.MAC_HALF_ADDR_LO p) (Adr.MAC_HALF_ADDR_HI p)

/-- The package service address on port p. -/
def Half.svcAddr (h : Half) (p : Nat) : List Byte := h.stationAddr (Adr.MAC_SVC_ADDR_LO p) (Adr.MAC_SVC_ADDR_HI p)

/-- The link of port p is up. -/
def Half.portUp (h : Half) (p : Nat) : Bool := h.bit (Adr.MAC_STATUS p) 0

/-- MAC p runs. -/
def Half.macOn (h : Half) (p : Nat) : Bool := h.bit (Adr.MAC_CTRL p) 0 && h.up .network && h.live

/-- The bit time of port p in units of 0.1 ns, by SPEED (R106). -/
def Half.bitTenths (h : Half) (p : Nat) : Nat :=
  match h.get (Adr.MAC_STATUS p) 1 2 with
  | 3 => 1
  | 2 => 4
  | _ => 10

/-- Preemption is active (R101). -/
def Half.preemptOn (h : Half) (p : Nat) : Bool := h.bit (Adr.MAC_STATUS p) 10

/-- Moves the verification state; a change sets `EVENT.VERIFY_CHANGE`, and PREEMPT_ACTIVE follows (R101, R102). -/
def Half.setVerify (h : Half) (p v : Nat) : Half :=
  let h1 := if h.get (Adr.MAC_STATUS p) 7 3 = v then h
    else (h.put (Adr.MAC_STATUS p) 7 3 v).event (Adr.MAC_EVENT p) 6
  h1.putBit (Adr.MAC_STATUS p) 10 (h1.bit (Adr.MAC_CTRL p) 6 && (v == 3 || h1.bit (Adr.MAC_CTRL p) 7))

/-- Brings verification into line with the link and `CTRL`: DISABLED, or a first verify mPacket is sent (R102). -/
def Half.startVerify (h : Half) (p : Nat) : Half :=
  if !h.portUp p || !h.bit (Adr.MAC_CTRL p) 6 || h.bit (Adr.MAC_CTRL p) 7 then h.setVerify p 0
  else ((h.setVerify p 1).setVerify p 2).onMac p fun m => { m with verifyTries := 1 }

/-- Writes a descriptor back: OWN 0, its status (R114). -/
def closeDesc (status : Nat) (d : List Word) : List Word :=
  d.modify 2 fun w => setBits (setBits w 31 1 0) 16 4 status

/-- The descriptors of a ring. -/
def RingMem.desc (m : RingMem) (i : Nat) : List Word := lookAt (fun _ => [0, 0, 0, 0]) m.descs i

/-- Writes a descriptor of a ring. -/
def RingMem.setDesc (m : RingMem) (i : Nat) (d : List Word) : RingMem :=
  { m with descs := storeAt (fun _ => [0, 0, 0, 0]) m.descs i d }

/-- Register addresses of a ring. -/
def ringAdr (p : Nat) (tx : Bool) (r ofs : Nat) : Nat :=
  0x30000 + 0x4000 * p + (if tx then 0x500 else 0x400) + 0x40 * r + ofs

/-- The number of descriptors of a ring, 2^LOG2 with LOG2 held to 3 to 12 (R113). -/
def Half.ringSize (h : Half) (p : Nat) (tx : Bool) (r : Nat) : Nat :=
  2 ^ clampNat 3 12 (h.get (ringAdr p tx r 8) 0 4)

/-- HEAD and TAIL of a ring, modulo its size. -/
def Half.ringHead (h : Half) (p : Nat) (tx : Bool) (r : Nat) : Nat := h.get (ringAdr p tx r 0x14) 0 12 % h.ringSize p tx r
def Half.ringTail (h : Half) (p : Nat) (tx : Bool) (r : Nat) : Nat := h.get (ringAdr p tx r 0x10) 0 12 % h.ringSize p tx r

/-- Descriptors available to the device (R113). -/
def Half.ringAvail (h : Half) (p : Nat) (tx : Bool) (r : Nat) : Nat :=
  let n := h.ringSize p tx r
  (h.ringTail p tx r + n - h.ringHead p tx r) % n

/-- A host ring has its bus: PCIe selected and BME 1 (R112). -/
def Half.ringBus (h : Half) (r : Nat) : Bool := decide (2 ≤ r) || (!h.bit Adr.DIE_STRAPS 1 && h.bit Adr.HOST_LINK 16)

/-- A ring runs: enabled and not stopped by an error (R113). -/
def Half.ringOn (h : Half) (p : Nat) (tx : Bool) (r : Nat) : Bool :=
  h.bit (ringAdr p tx r 0xC) 0 && h.bit (ringAdr p tx r 0x18) 0

/-- The memory of a ring. -/
def Half.ringMem (h : Half) (p : Nat) (tx : Bool) (r : Nat) : RingMem :=
  getAt (if tx then (h.mac p).tx else (h.mac p).rx) r RingMem.init

/-- Changes the memory of a ring. -/
def Half.onRing (h : Half) (p : Nat) (tx : Bool) (r : Nat) (f : RingMem → RingMem) : Half :=
  h.onMac p fun m => if tx then { m with tx := modAt m.tx r f } else { m with rx := modAt m.rx r f }

/-- Stops a ring with ERROR and a FAULT cause (R113). -/
def Half.ringError (h : Half) (p : Nat) (tx : Bool) (r cause : Nat) : Half :=
  (((h.putBit (ringAdr p tx r 0x18) 2 true).putBit (ringAdr p tx r 0x18) 0 false)).latch (Adr.MAC_FAULT p) cause

/-- Stops a ring without an error: RUNNING and EN fall. -/
def Half.stopRing (h : Half) (p : Nat) (tx : Bool) (r : Nat) : Half :=
  (h.putBit (ringAdr p tx r 0xC) 0 false).wrNat (ringAdr p tx r 0x18) 0

/-- Sets EN of a ring: HEAD takes the value of TAIL and the ring runs; a host ring on a QSPI half stays off with cause
0x0006 (R112, R113, R125). -/
def Half.enableRing (h : Half) (p : Nat) (tx : Bool) (r : Nat) : Half :=
  if h.bit (ringAdr p tx r 0xC) 0 then h
  else if r < 2 ∧ h.bit Adr.DIE_STRAPS 1 then h.latch (Adr.MAC_FAULT p) 6
  else
    ((h.putBit (ringAdr p tx r 0xC) 0 true).wrNat (ringAdr p tx r 0x14) (h.ringTail p tx r)).wrNat
      (ringAdr p tx r 0x18) 1

/-- A write of a ring's CTRL (R125): EN, and BUFSZ or TXQ only while EN is 0. -/
def Half.writeRingCtrl (h : Half) (p : Nat) (tx : Bool) (r : Nat) (v : Word) : Half :=
  let h1 := if h.bit (ringAdr p tx r 0xC) 0 then h else h.put (ringAdr p tx r 0xC) 8 4 (getBits v 8 4)
  if bitAt v 0 then h1.enableRing p tx r else h1.stopRing p tx r

/-- A write of BASE or SIZE: ignored while EN is 1 (R125). -/
def Half.writeRingCfg (h : Half) (p : Nat) (tx : Bool) (r ofs : Nat) (v : Word) (mask : Nat) : Half :=
  if h.bit (ringAdr p tx r 0xC) 0 then h else h.wrNat (ringAdr p tx r ofs) (v.toNat &&& mask)

/-- The rings' registers 2 and 3 are written by the management processor only (R112, R125). -/
def ringWritable (q : Req) (r : Nat) : Bool := q == .mgmt || decide (r < 2)

/-- Places descriptors from an index on, as software did before it wrote TAIL. -/
def RingMem.place (m : RingMem) (size from_ : Nat) (ds : List (List Word)) : RingMem :=
  (ds.zipIdx).foldl (fun (x : RingMem) p => x.setDesc ((from_ + p.2) % size) p.1) m

/-- A write of TAIL gives descriptors to the device (R113). -/
def Half.giveTail (h : Half) (p : Nat) (tx : Bool) (r tail : Nat) (ds : List (List Word)) : Half :=
  let n := h.ringSize p tx r
  let from_ := h.ringTail p tx r
  (h.onRing p tx r fun m => m.place n from_ ds).wrNat (ringAdr p tx r 0x10) tail

/-- Stops the host rings of both ports (R40). -/
def Half.stopHostRings (h : Half) : Half :=
  h.each [0, 1] fun x p => x.each [0, 1] fun y r =>
    (y.putBit (ringAdr p false r 0x18) 0 false).putBit (ringAdr p true r 0x18) 0 false

/-- A TXQ7 or TXQ6 frame, or a ring frame, is express (R96). -/
def Half.express (h : Half) (p queue : Nat) : Bool := queue == 7 || (queue == 6 && !h.bit (Adr.MAC_CTRL p) 10)

/-- The transmit queue of a ring (R125). -/
def Half.ringQueue (h : Half) (p r : Nat) : Nat := if r = 3 then 7 else min 5 (h.get (ringAdr p true r 0xC) 8 4)

/-- Queues a frame that the device has built whole for TXQ7 or TXQ6; while the link is down it is discarded (R86, R97). -/
def Half.queueFrame (h : Half) (p queue : Nat) (bytes : List Byte) (slot : Option (Nat × Nat)) : Half :=
  if !h.macOn p then h
  else if !h.portUp p then h.tally p .txLinkdownDrop 1
  else
    let f : TxFrame := ⟨bytes, queue, none, none, slot, 0, 0, 0⟩
    h.onMac p fun m => if queue = 7 then { m with txq7 := m.txq7 ++ [f] } else { m with txq6 := m.txq6 ++ [f] }

/-- The descriptors of the transmit frame at HEAD: from HEAD to the one marked LAST, at most those available. -/
def RingMem.frameDescs (m : RingMem) (size head : Nat) : Nat → List (Nat × List Word)
  | 0 => []
  | avail + 1 =>
    let d := m.desc head
    if bitAt (getAt d 2 0) 29 then [(head, d)] else (head, d) :: m.frameDescs size ((head + 1) % size) avail

/-- Closes n transmit descriptors from an index with a TXSTATUS and advances HEAD past them (R114). -/
def Half.closeFrame (h : Half) (p r first n status : Nat) : Half :=
  let size := h.ringSize p true r
  let h1 := h.onRing p true r fun m =>
    (List.range n).foldl (fun (x : RingMem) i =>
      x.setDesc ((first + i) % size) (closeDesc status (x.desc ((first + i) % size)))) m
  h1.wrNat (ringAdr p true r 0x14) ((first + n) % size)

/-- A frame that waits or is being sent as the link goes down is discarded and counted, a ring's frame written back DISCARDED
(R86). -/
def Half.discardFrame (h : Half) (p : Nat) (f : TxFrame) : Half :=
  (match f.ring with
    | some (r, first, n) => h.closeFrame p r first n 2
    | none => h).tally p .txLinkdownDrop 1

/-- The frames that a MAC holds for transmission. -/
def MacSt.frames (m : MacSt) : List TxFrame := m.current.toList ++ m.cut.toList ++ m.txq7 ++ m.txq6

/-- Discards what a MAC holds for transmission (R86). -/
def Half.discardFrames (h : Half) (p : Nat) : Half :=
  let m := h.mac p
  (((m.frames.foldl (fun (x : Half) f => x.discardFrame p f) h).tally p .txLinkdownDrop (m.fw2.length + m.fw3.length))).onMac p
    fun y => { y with txq7 := [], txq6 := [], current := none, cut := none, fw2 := [], fw3 := [] }

/-- Takes the link of port p down: what is under way in either direction is discarded, verification is DISABLED (R85, R86, R89,
R102). -/
def Half.portLinkDown (h : Half) (p : Nat) : Half :=
  if !h.portUp p then h
  else
    let h1 := ((h.put (Adr.MAC_STATUS p) 0 3 0).event (Adr.MAC_EVENT p) 0).discardFrames p
    let h2 := match (h.mac p).assembly with | some _ => h1.tally p .rxFcsErr 1 | none => h1
    ((h2.putBit (Adr.MAC_STATUS p) 4 false).putBit (Adr.MAC_STATUS p) 5 false).onMac p
      (fun m => { m with assembly := none, pause := none }) |>.setVerify p 0

/-- SPEED of a negotiated rate in a mode, 0 where the mode does not support it (R83, R84, R122). -/
def lineSpeed (mode : Nat) (rate : LineRate) : Nat :=
  match mode, rate with
  | 1, .g10 => 3
  | 1, .g2_5 => 2
  | 1, .g1 => 1
  | 2, .g2_5 => 2
  | 3, .g1 => 1
  | 4, .g1 => 1
  | _, _ => 0

/-- PORT_LINK_UP (R83 to R85): where auto-negotiation is off, rate and duplex are the mode's; an unsupported rate, half duplex or a reserved mode holds the link down with cause
0x0002. -/
def execPortLinkUp (h : HalfId) (p : PortId) (rate : LineRate) (fullDuplex : Bool) (s : State) :
    Host.Outcome State Fault Refusal :=
  .next (s.on h fun x =>
    let mode := x.get (Adr.MAC_CTRL p) 1 3
    let forced := (mode == 2 || mode == 4) && !x.bit (Adr.MAC_CTRL p) 13
    let speed := if forced then (if mode = 2 then 2 else 1) else lineSpeed mode rate
    if !x.macOn p || mode == 0 || x.portUp p then x
    else if speed = 0 ∨ (!fullDuplex ∧ !forced) ∨ 5 ≤ mode then x.latch (Adr.MAC_FAULT p) 2
    else ((x.put (Adr.MAC_STATUS p) 0 3 (1 + 2 * speed)).event (Adr.MAC_EVENT p) 0).startVerify p)

/-- PORT_LINK_DOWN (R85). -/
def execPortLinkDown (h : HalfId) (p : PortId) (s : State) : Host.Outcome State Fault Refusal :=
  .next (s.on h fun x => x.portLinkDown p)

/-- PCS_SYNC_TIMEOUT: `FAULT` cause 0x0001, and the MAC keeps trying (R85). -/
def execPcsSyncTimeout (h : HalfId) (p : PortId) (s : State) : Host.Outcome State Fault Refusal :=
  .next (s.on h fun x => if x.macOn p && !x.portUp p then x.latch (Adr.MAC_FAULT p) 1 else x)

/-- Stops MAC p in both directions: receive buffer flushed, all rings stopped (R121). -/
def Half.macStop (h : Half) (p : Nat) : Half :=
  let h1 := h.portLinkDown p
  let h2 := h1.each [0, 1, 2, 3] fun x r => (x.stopRing p false r).stopRing p true r
  h2.onMac p fun m => { m with txq7 := [], txq6 := [], current := none, cut := none, assembly := none, pause := none, fw2 := [], fw3 := [] }

/-- A write of `MAC[p].CTRL`: EN, a change of MODE or AN_EN retrains the link, a reserved MODE is cause 0x0002
(R83, R86, R117, R121). -/
def Half.writeMacCtrl (h : Half) (p : Nat) (v : Word) : Half :=
  let old := h.rd (Adr.MAC_CTRL p)
  let new := BitVec.ofNat 32 (v.toNat &&& 0x7FFF)
  let retrain := getBits old 1 3 != getBits new 1 3 || bitAt old 13 != bitAt new 13
  let h1 := h.wr (Adr.MAC_CTRL p) new
  let h2 := if 5 ≤ getBits new 1 3 ∧ bitAt new 0 then h1.latch (Adr.MAC_FAULT p) 2 else h1
  if !bitAt new 0 then (if bitAt old 0 then h2.macStop p else h2)
  else if !bitAt old 0 then h2.wrNat (Adr.MAC_RX_TS_TAG p) 0
  else if retrain then h2.portLinkDown p
  else if getBits old 6 2 != getBits new 6 2 then h2.startVerify p
  else h2

/-- Starts one management frame by a word for `MDIO_CMD`; ignored while GO reads 1 (R88). -/
def Half.writeMdio (h : Half) (p : Nat) (v : Word) : Half :=
  if h.bit (Adr.MAC_MDIO_CMD p) 31 then h else h.wrNat (Adr.MAC_MDIO_CMD p) (v.toNat &&& 0xF3FFFFFF)

/-- The `MDIO_CMD` word of a frame (R88). -/
def mdioWord (c45 op phyad regad wdata : Nat) : Word :=
  BitVec.ofNat 32 (0x80000000 + 0x40000000 * c45 + 0x10000000 * op + 0x200000 * phyad + 0x10000 * regad + wdata)

/-- MDIO_FRAME_COMPLETE: GO falls; a read frame leaves its data in `MDIO_DATA` (R88). -/
def execMdioFrameComplete (h : HalfId) (p : PortId) (data : BitVec 16) (s : State) : Host.Outcome State Fault Refusal :=
  .next (s.on h fun x =>
    let c := x.rd (Adr.MAC_MDIO_CMD p)
    let reads := if bitAt c 30 then decide (2 ≤ getBits c 28 2) else getBits c 28 2 == 2
    if !bitAt c 31 then x
    else
      let x1 := x.putBit (Adr.MAC_MDIO_CMD p) 31 false
      if reads then x1.wrNat (Adr.MAC_MDIO_DATA p) data.toNat else x1)

/-- The frame that a ring offers: its bytes with a tag inserted where VLAN_INS asks, its timestamp tag (R114). -/
def ringFrame (r queue : Nat) (ds : List (Nat × List Word)) (data : List Byte) : Option TxFrame :=
  match ds with
  | [] => none
  | (first, d) :: _ =>
    let len := (ds.map (fun x => getBits (getAt x.2 2 0) 0 12)).sum
    let body := data.take len
    let w2 := getAt d 2 0
    let w3 := getAt d 3 0
    let tagged := if bitAt w2 27 then
        body.take 12 ++ beBytes 2 0x8100 ++ beBytes 2 (getBits w3 16 16) ++ body.drop 12
      else body
    some ⟨tagged, queue, if bitAt w2 28 then some (getBits w3 0 16) else none, some (r, first, ds.length), none, 0, 0, 0⟩

/-- No frame of a higher queue waits (R96). -/
def Half.firstInLine (h : Half) (p queue : Nat) : Bool :=
  let m := h.mac p
  (decide (7 ≤ queue) || (m.txq7.isEmpty && m.fw3.isEmpty)) && (decide (6 ≤ queue) || m.txq6.isEmpty) &&
    (m.fw2.isEmpty || decide (h.ringQueue p 2 ≤ queue)) &&
    ([0, 1, 2, 3].all fun r =>
      !(h.ringOn p true r && h.ringBus r && decide (queue < h.ringQueue p r) && decide (0 < h.ringAvail p true r)))

/-- The bytes of the fragment being sent that have left by an instant of the block (R103). -/
def Half.fragBytes (h : Half) (p : Nat) (f : TxFrame) (ofs : Nat) : Nat := (h.now ofs - f.fragAt) * 10 / (8 * h.bitTenths p)

/-- The frame being sent may be cut for an express frame of a queue: preemption is active, the frame is preemptable, no other is
cut, enough of the fragment has been sent and enough of the frame remains (R96, R101, R103). -/
def Half.mayCut (h : Half) (p queue : Nat) (c : TxFrame) (ofs : Nat) : Bool :=
  let n := h.fragBytes p c ofs
  h.preemptOn p && h.express p queue && !h.express p c.queue && (h.mac p).cut.isNone &&
    decide (64 * (1 + h.get (Adr.MAC_CTRL p) 8 2) ≤ n) && decide (c.fragSent + n + 64 ≤ c.bytes.length + 4)

/-- A frame that starts at an instant. -/
def TxFrame.onWire (f : TxFrame) (t : Nat) : TxFrame := { f with sfd := t, fragAt := t, fragSent := 0 }

/-- Puts a frame on the wire, when nothing is being sent or the frame being sent may be cut (R96, R101, R103). -/
def Half.putOnWire (h : Half) (p : Nat) (f : TxFrame) (ofs : Nat) : Half :=
  let g := f.onWire (h.now ofs)
  match (h.mac p).current with
  | none => h.onMac p fun x => { x with current := some g }
  | some c =>
    let c1 := { c with fragSent := c.fragSent + h.fragBytes p c ofs }
    ((h.onMac p fun x => { x with current := some g, cut := some c1 }).tally p .txPreemptions 1).tally p .txFragments 1

/-- The MAC can start a frame of a queue at an instant of the block (R96, R101, R103, R106, R111). -/
def Half.canStart (h : Half) (p queue ofs : Nat) : Bool :=
  let m := h.mac p
  h.macOn p && h.portUp p && m.pause.isNone && !h.bit (Adr.MAC_STATUS p) 5 && h.firstInLine p queue &&
    (match m.current with
     | none => m.cut.isNone || h.express p queue
     | some c => h.mayCut p queue c ofs)

/-- A transmit ring's fetch at HEAD: a descriptor without OWN stops the ring with cause 0x0008 (R113); a frame of which the LAST
descriptor is not yet given waits. -/
def Half.fetchTx (h : Half) (p r : Nat) : Sum Half (List (Nat × List Word)) :=
  let ds := (h.ringMem p true r).frameDescs (h.ringSize p true r) (h.ringHead p true r) (h.ringAvail p true r)
  if !ds.all (fun x => bitAt (getAt x.2 2 0) 31) then .inl (h.ringError p true r 8)
  else if ds.any fun x => bitAt (getAt x.2 2 0) 29 then .inr ds
  else .inl h

/-- A ring frame offered while the link is down: written back DISCARDED and counted (R86). -/
def Half.discardRing (h : Half) (p r : Nat) : Half :=
  match h.fetchTx p r with
  | .inl x => x
  | .inr [] => h
  | .inr ((first, d) :: rest) => (h.closeFrame p r first ((first, d) :: rest).length 2).tally p .txLinkdownDrop 1

/-- The words of a 96-bit flow timestamp: sequence number, nanoseconds, seconds of a PTP instant in ns (R162). -/
def Half.flowStamp (h : Half) (a seq ns : Nat) : Half :=
  let v := seq % 0x10000 + 0x10000 * (ns % 1000000000) + 2 ^ 48 * (ns / 1000000000 % 2 ^ 48)
  ((h.wrNat a v).wrNat (a + 4) (v / 2 ^ 32)).wrNat (a + 8) (v / 2 ^ 64)

/-- A launched flow packet: counted, its MII transmit time kept (R168, R169). -/
def Half.flowLaunched (h : Half) (slot : Option (Nat × Nat)) (ofs : Nat) : Half :=
  match slot with
  | none => h
  | some (n, seq) => (h.flowStamp (Adr.FTX_LAUNCH n 0) seq (h.ptpNs ofs)).wrap (Adr.TX_STAT (2 * n)) 0 32 1

/-- A message of the firmware that waits on ring 2 or 3 starts, with the bytes the command gives (R96). -/
def Half.startFirmware (h : Half) (p r : Nat) (m : FwMsg) (data : List Byte) (ofs : Nat) : Half :=
  let tag := match m with | .ptp _ seq true => some (seq % 0x10000) | _ => none
  let f : TxFrame := ⟨data, h.ringQueue p r, tag, none, none, 0, 0, 0⟩
  (h.onMac p fun x => if r = 3 then { x with fw3 := x.fw3.drop 1 } else { x with fw2 := x.fw2.drop 1 }).putOnWire p f ofs

/-- The oldest message of the firmware on a ring. -/
def Half.fwHead (h : Half) (p r : Nat) : Option FwMsg :=
  if r = 2 then (h.mac p).fw2.head? else if r = 3 then (h.mac p).fw3.head? else none

/-- Hands a message of the firmware to a MAC; while the link is down it is discarded (R86). -/
def Half.fwSend (h : Half) (p r : Nat) (m : FwMsg) : Half :=
  if !h.macOn p then h
  else if !h.portUp p then h.tally p .txLinkdownDrop 1
  else h.onMac p fun x => if r = 3 then { x with fw3 := x.fw3 ++ [m] } else { x with fw2 := x.fw2 ++ [m] }

/-- TX_FRAME_START (R96, R97, R113). -/
def Half.startFrame (h : Half) (p : Nat) (src : TxSource) (ofs : Nat) : Half :=
  match src with
  | .txq7 =>
    match (h.mac p).txq7 with
    | f :: rest => if h.canStart p 7 ofs then (h.onMac p fun m => { m with txq7 := rest }).putOnWire p f ofs else h
    | [] => h
  | .txq6 =>
    match (h.mac p).txq6 with
    | f :: rest =>
      if h.canStart p 6 ofs then ((h.onMac p fun m => { m with txq6 := rest }).putOnWire p f ofs).flowLaunched f.slot ofs
      else h
    | [] => h
  | .ring r data =>
    match h.fwHead p r with
    | some m => if h.canStart p (h.ringQueue p r) ofs then h.startFirmware p r m data ofs else h
    | none =>
    if !h.macOn p || !h.ringOn p true r || !h.ringBus r || h.ringAvail p true r == 0 then h
    else if !h.portUp p then h.discardRing p r
    else if !h.canStart p (h.ringQueue p r) ofs then h
    else
      match h.fetchTx p r with
      | .inl x => x
      | .inr ds =>
        match ringFrame r (h.ringQueue p r) ds data with
        | none => h
        | some f => h.putOnWire p f ofs

/-- TX_FRAME_START (R97). -/
def execTxFrameStart (h : HalfId) (p : PortId) (src : TxSource) (ofs : BlockOfs) (s : State) :
    Host.Outcome State Fault Refusal :=
  .next (s.on h fun x => x.startFrame p src ofs)

/-- After a frame has ended, one cut for an express frame goes on: its next fragment begins after the FCS, the gap and a preamble
(R103). -/
def Half.resumeCut (h : Half) (p : Nat) : Half :=
  h.onMac p fun m =>
    let at_ := match m.current with
      | some e => e.fragAt + (e.bytes.length + 24) * 8 * h.bitTenths p / 10
      | none => 0
    { m with current := m.cut.map fun c => { c with fragAt := at_ }, cut := none }

/-- The frame being sent ends with a bad FCS, its descriptors read UNDERRUN (STEPS rises) or POISONED (`FAULT` cause
0x0007); only ring frames are read while they are sent (R98). -/
def Half.txUnderrun (x : Half) (p : Nat) (poisoned : Bool) : Half :=
  match (x.mac p).current with
  | some f =>
    match f.ring with
    | some (r, first, n) =>
      let x1 := (x.closeFrame p r first n (if poisoned then 3 else 1)).resumeCut p
      let x2 := (x1.tally p .txUnderrun 1).event (Adr.MAC_EVENT p) 5
      let steps := clampNat 1 8 (x2.get (Adr.MAC_TX_START_THRESH p) 0 4)
      if poisoned then x2.latch (Adr.MAC_FAULT p) 7 else x2.put (Adr.MAC_TX_START_THRESH p) 0 4 (min 8 (steps + 1))
    | none => x
  | none => x

/-- TX_UNDERRUN (R98). -/
def execTxUnderrun (h : HalfId) (p : PortId) (poisoned : Bool) (s : State) : Host.Outcome State Fault Refusal :=
  .next (s.on h fun x => x.txUnderrun p poisoned)

/-- The two items of a timestamp entry (R118). -/
def tsItems (tx : Bool) (p tag ns : Nat) : List Nat :=
  [2 ^ 55 * ofBool tx + 2 ^ 54 * p + 2 ^ 32 * (tag % 2 ^ 16) + ns % 1000000000, ns / 1000000000 % 2 ^ 48]

/-- PTP time in ns of an instant of the half's own count. -/
def Half.ptpAtNow (h : Half) (t : Nat) : Nat := h.ptpNs 0 + t - h.now 0

/-- TX_FRAME_COMPLETE: counters, descriptors SENT, transmit timestamp (R114 to R118). -/
def execTxFrameComplete (h : HalfId) (p : PortId) (s : State) : Host.Outcome State Fault Refusal :=
  .next (s.on h fun x =>
    match (x.mac p).current with
    | none => x
    | some f =>
      let x1 := match f.ring with | some (r, first, n) => x.closeFrame p r first n 0 | none => x
      let x2 := ((x1.tally p .txOctets (f.bytes.length + 4)).tally p .txFrames 1)
      let x3 := if f.bytes.take 6 = broadcastMac then x2.tally p .txBcast 1
        else if byteAt f.bytes 0 % 2 = 1 then x2.tally p .txMcast 1 else x2
      let x4 := (x3.onMac p fun m => { m with lastSent := f.bytes ++ fcsBytes f.bytes }).resumeCut p
      match f.tsTag with
      | some tag => x4.hwPush (3 + p) 3 (tsItems true p tag (x4.ptpAtNow f.sfd + x4.get (Adr.MAC_TS_EGRESS_LAT p) 0 16))
      | none => x4)

/-- A packet of transmit slot n is dropped under R99 or R107: `EVENT.LATE`, and a count (R152, R169). -/
def Half.flowDropped (h : Half) (n : Nat) : Half := (h.event (Adr.FTX_EVENT n) 1).wrap (Adr.TX_STAT (2 * n + 1)) 0 32 1

/-- TX_LATE_DROP: the oldest waiting audio frame is discarded and counted; its slot reports LATE (R99, R152). -/
def execTxLateDrop (h : HalfId) (p : PortId) (s : State) : Host.Outcome State Fault Refusal :=
  .next (s.on h fun x =>
    match (x.mac p).txq6 with
    | [] => x
    | f :: rest =>
      let x1 := (x.onMac p fun m => { m with txq6 := rest }).tally p .txLateDrop 1
      match f.slot with | some (n, _) => x1.flowDropped n | none => x1)

/-- VERIFY_RESPOND (R102). -/
def execVerifyRespond (h : HalfId) (p : PortId) (s : State) : Host.Outcome State Fault Refusal :=
  .next (s.on h fun x => if x.get (Adr.MAC_STATUS p) 7 3 = 2 then x.setVerify p 3 else x)

/-- VERIFY_TIMEOUT: another attempt, or FAILED with cause 0x0004 after VERIFY_LIMIT attempts (R102). -/
def execVerifyTimeout (h : HalfId) (p : PortId) (s : State) : Host.Outcome State Fault Refusal :=
  .next (s.on h fun x =>
    if x.get (Adr.MAC_STATUS p) 7 3 = 2 then
      if (x.mac p).verifyTries ≥ clampNat 1 7 (x.get (Adr.MAC_VERIFY_LIMIT p) 0 3) then
        (x.setVerify p 4).latch (Adr.MAC_FAULT p) 4
      else x.onMac p fun m => { m with verifyTries := m.verifyTries + 1 }
    else x)

/-- Ends the pause in effect at an instant: its time is added to `PAUSED_NS` (R106). -/
def Half.closePause (h : Half) (p t : Nat) : Half :=
  match (h.mac p).pause with
  | none => h
  | some (start, len) =>
    ((h.tally p .pausedNs (min len (t - start))).onMac p fun m => { m with pause := none }).putBit (Adr.MAC_STATUS p) 4 false

/-- A pause frame: counted; while PAUSE_EN is 1 it starts or restarts the timer, and a quanta of 0 ends the pause
(R106). -/
def Half.takePause (h : Half) (p quanta ofs : Nat) : Half :=
  let h1 := h.tally p .rxPause 1
  if !h1.bit (Adr.MAC_CTRL p) 4 then h1
  else
    let h2 := h1.closePause p (h1.now ofs)
    if quanta = 0 then h2
    else (h2.onMac p fun m => { m with pause := some (h2.now ofs, quanta * 512 * h2.bitTenths p / 10) }).putBit
      (Adr.MAC_STATUS p) 4 true

/-- PAUSE_FRAME (R106). -/
def execPauseFrame (h : HalfId) (p : PortId) (quanta : BitVec 16) (ofs : BlockOfs) (s : State) :
    Host.Outcome State Fault Refusal :=
  .next (s.on h fun x => if x.macOn p && x.portUp p then x.takePause p quanta.toNat ofs else x)

/-- PAUSE_EXPIRY (R106). -/
def execPauseExpiry (h : HalfId) (p : PortId) (s : State) : Host.Outcome State Fault Refusal :=
  .next (s.on h fun x =>
    match (x.mac p).pause with
    | some (start, len) => x.closePause p (start + len)
    | none => x)

/-- PORT_IMPAIRED (R107). -/
def execPortImpaired (h : HalfId) (p : PortId) (s : State) : Host.Outcome State Fault Refusal :=
  .next (s.on h fun x =>
    if (x.mac p).pause.isSome && !x.bit (Adr.MAC_STATUS p) 3 then
      ((x.putBit (Adr.MAC_STATUS p) 3 true).event (Adr.MAC_EVENT p) 1).latch (Adr.MAC_FAULT p) 3
    else x)

/-- IMPAIRMENT_END (R107). -/
def execImpairmentEnd (h : HalfId) (p : PortId) (s : State) : Host.Outcome State Fault Refusal :=
  .next (s.on h fun x =>
    if x.bit (Adr.MAC_STATUS p) 3 && (x.mac p).pause.isNone then
      (x.putBit (Adr.MAC_STATUS p) 3 false).event (Adr.MAC_EVENT p) 1
    else x)

/-- Every enabled transmit flow on port p allows low-power idle (R109). -/
def Half.lpiAllowed (h : Half) (p : Nat) : Bool :=
  let tw := h.get (Adr.MAC_EEE_TW p) 0 16
  h.bit (Adr.MAC_CTRL p) 5 && tw != 0 &&
    (h.txSlots.all fun n => !(h.bit (Adr.FTX_CTRL n) 0 && h.get (Adr.FTX_TIMING n) 12 1 == p)
      || decide (1000 * (tw + 4) ≤ ptimeNs (h.get (Adr.FTX_FORMAT n) 8 3)))

/-- Leaves low-power idle at an instant: its time is added to `LPI_NS` (R111). -/
def Half.leaveLpi (h : Half) (p ofs : Nat) : Half :=
  if !h.bit (Adr.MAC_STATUS p) 5 then h
  else (h.putBit (Adr.MAC_STATUS p) 5 false).tally p .lpiNs (h.now ofs - (h.mac p).lpiSince)

/-- The transmitter has nothing to send (R109). -/
def Half.txIdle (h : Half) (p : Nat) : Bool :=
  let m := h.mac p
  m.frames.isEmpty && m.fw2.isEmpty && m.fw3.isEmpty &&
    [0, 1, 2, 3].all fun r => !(h.ringOn p true r && h.ringBus r && decide (0 < h.ringAvail p true r))

/-- LPI_ENTRY (R109, R111). -/
def execLpiEntry (h : HalfId) (p : PortId) (ofs : BlockOfs) (s : State) : Host.Outcome State Fault Refusal :=
  .next (s.on h fun x =>
    if x.macOn p && x.portUp p && x.txIdle p && x.lpiAllowed p && !x.bit (Adr.MAC_STATUS p) 5 then
      ((x.putBit (Adr.MAC_STATUS p) 5 true).tally p .lpiEntries 1).onMac p fun y => { y with lpiSince := x.now ofs }
    else x)

/-- LPI_WAKE (R111). -/
def execLpiWake (h : HalfId) (p : PortId) (ofs : BlockOfs) (s : State) : Host.Outcome State Fault Refusal :=
  .next (s.on h fun x => x.leaveLpi p ofs)

/-- A write of EEE_TW takes effect at once, and leaves LPI when it violates R109 (R110). -/
def Half.writeEeeTw (h : Half) (p us : Nat) : Half :=
  let h1 := h.wrNat (Adr.MAC_EEE_TW p) (us % 0x10000)
  if h1.lpiAllowed p then h1 else h1.leaveLpi p 0

/-- Re-initialises both ports (R23, R126). -/
def Half.macReinit (h : Half) : Half :=
  h.each [0, 1] fun x p =>
    let en := x.bit (Adr.MAC_CTRL p) 0
    let x1 := x.macStop p
    if en then x1.wrNat (Adr.MAC_RX_TS_TAG p) 0 else x1

/-- LLDP_FRAME: the firmware writes `CTRL.ADD_FRAG` and `EEE_TW` (R103, R110). -/
def execLldpFrame (h : HalfId) (p : PortId) (addFrag : Fin 4) (tw : Option (BitVec 16)) (s : State) :
    Host.Outcome State Fault Refusal :=
  .next (s.on h fun x =>
    if x.macOn p && x.portUp p then
      let x1 := x.put (Adr.MAC_CTRL p) 8 2 addFrag
      match tw with | some v => x1.writeEeeTw p v.toNat | none => x1
    else x)

/-- The hash bin of a group address (R92). -/
def hashBin (da : List Byte) : Nat := (crc32 da).toNat / 2 ^ 23

/-- The `EXACT` entry that a destination matches, if any (R91, R124). -/
def Half.exactMatch (h : Half) (p : Nat) (da : List Byte) : Option Nat :=
  (List.range 32).find? fun i =>
    h.bit (Adr.MAC_EXACT_HI p i) 31 && h.stationAddr (Adr.MAC_EXACT_LO p i) (Adr.MAC_EXACT_HI p i) == da

/-- Destination filtering (R91). -/
def Half.daAccepted (h : Half) (p : Nat) (da : List Byte) : Bool :=
  let bin := hashBin da
  da == h.halfAddr p || (h.bit (Adr.MAC_STATUS p) 11 && da == h.svcAddr p) || (h.exactMatch p da).isSome ||
    (da == broadcastMac && h.bit (Adr.MAC_CTRL p) 11) ||
    (byteAt da 0 % 2 == 1 && h.bit (Adr.MCAST_HASH (16 * p + bin / 32)) (bin % 32))

/-- VLAN filtering: the frame is accepted (R93). -/
def Half.vlanAccepted (h : Half) (p : Nat) (f : Parsed) : Bool :=
  if f.badTag then false
  else
    match f.tci with
    | none => true
    | some tci =>
      let vid := tci % 4096
      !h.bit (Adr.MAC_CTRL p) 14 || vid == 0 ||
        (List.range 16).any fun i => h.bit (Adr.MAC_VID p i) 15 && h.get (Adr.MAC_VID p i) 0 12 == vid

/-- The receive buffer has room for a frame of len bytes of a class (0 other, 1 PTP, 2 alarm): reserved cells of its
class first, then shared ones (R90). -/
def bufferRoom (occ : RxOcc) (cls len : Nat) : Bool :=
  let need := (len + 255) / 256
  let own := if cls = 2 then 64 - occ.alarm else if cls = 1 then 16 - occ.ptp else 0
  decide (need ≤ own + (944 - occ.shared))

/-- The bytes of a receive buffer of a ring (R114, R125). -/
def Half.bufBytes (h : Half) (p r : Nat) : Nat := 256 * clampNat 1 8 (h.get (ringAdr p false r 0xC) 8 4)

/-- Receive tag counter: the tag of this frame, and the half with the next (R117). -/
def Half.nextTag (h : Half) (p : Nat) : Nat × Half :=
  (h.get (Adr.MAC_RX_TS_TAG p) 0 16, h.wrap (Adr.MAC_RX_TS_TAG p) 0 16 1)

/-- Counts a frame that a receive ring cannot take and puts the ring into the no-buffer state (R115). -/
def Half.noBuf (h : Half) (p r : Nat) : Half :=
  ((h.tally p .rxNobuf 1).event (Adr.MAC_EVENT p) 4).putBit (ringAdr p false r 0x18) 1 true

/-- Stores the pieces of a frame into the descriptors from HEAD on; returns the half and whether a descriptor without
OWN stopped the ring (R113 to R115). Words 2 and 3 of each descriptor are written by the device. -/
def Half.fillRing (h : Half) (p r : Nat) (pieces : List (List Byte)) (trunc : Bool) (flags w3 : Nat) : Half :=
  let size := h.ringSize p false r
  let head := h.ringHead p false r
  if (List.range pieces.length).all (fun i =>
      bitAt (getAt ((h.ringMem p false r).desc ((head + i) % size)) 2 0) 31) then
    let n := pieces.length
    let h1 := h.onRing p false r fun m =>
      (pieces.zipIdx).foldl (fun (x : RingMem) (pc : List Byte × Nat) =>
        let i := (head + pc.2) % size
        let d := x.desc i
        let w2 := 2 ^ 30 * ofBool (pc.2 == 0) + 2 ^ 29 * ofBool (pc.2 + 1 == n) + flags
          + 2 ^ 16 * ofBool (trunc && pc.2 + 1 == n) + pc.1.length
        { x.setDesc i [getAt d 0 0, getAt d 1 0, BitVec.ofNat 32 w2, BitVec.ofNat 32 w3] with
          bufs := storeAt (fun _ => []) x.bufs i pc.1 }) m
    h1.wrNat (ringAdr p false r 0x14) ((head + n) % size)
  else h.ringError p false r 8

/-- Delivers a frame without its FCS to receive ring r; tag is its receive timestamp tag (R94, R112 to R115). -/
def Half.deliverRing (h : Half) (p r0 : Nat) (f : List Byte) (tag : Option Nat) : Half :=
  let r := if r0 < 2 ∧ h.bit Adr.DIE_STRAPS 1 then 2 else r0
  if !h.ringOn p false r then h.tally p .rxFiltered 1
  else
    let avail := if h.ringBus r then h.ringAvail p false r else 0
    let nobuf := h.bit (ringAdr p false r 0x18) 1
    if avail = 0 ∨ (nobuf ∧ avail < 4) then h.noBuf p r
    else
      let h0 := h.putBit (ringAdr p false r 0x18) 1 false
      let pf := parseFrame f
      let strip := pf.tci.isSome && h.bit (Adr.MAC_CTRL p) 12
      let body := if strip then f.take 12 ++ f.drop 16 else f
      let pieces := chunks (h.bufBytes p r) (body.length + 1) body
      let flags := 2 ^ 28 * ofBool tag.isSome + 2 ^ 27 * ofBool pf.tci.isSome + 2 ^ 26 * ofBool strip
      let w3 := 2 ^ 16 * pf.tci.getD 0 + tag.getD 0
      if pieces.length ≤ avail then h0.fillRing p r pieces false flags w3
      else (h0.fillRing p r (pieces.take avail) true flags w3).noBuf p r

/-- The timestamp entry of a received frame whose first bit came at an instant (R94, R116 to R118): queued to Q5 or Q6, with the
tag it takes. -/
def Half.rxTimestamp (h : Half) (p sfd : Nat) : Nat × Half :=
  let (tag, h1) := h.nextTag p
  (tag, h1.hwPush (5 + p) 3 (tsItems false p tag (h1.ptpAtNow sfd - h1.get (Adr.MAC_TS_INGRESS_LAT p) 0 16)))

end Sys2Proof.Machine
end

