-- ==== Sys2Proof/Machine/Flow.lean ====
section
/-! DEFINITION. Receive and transmit flow slots (R127 to R153, R159 to R170): matching, policing, jitter buffers, seamless
pairs, release and concealment, launch, changes of configuration, flow clusters. -/

namespace Sys2Proof.Machine

open Sys2Proof

/-- The working state of receive slot n. -/
def Half.rxs_ (h : Half) (n : Nat) : RxSlot := lookAt (fun _ => RxSlot.init) h.rxs n

/-- Changes the working state of receive slot n. -/
def Half.onRx (h : Half) (n : Nat) (f : RxSlot → RxSlot) : Half :=
  { h with rxs := storeAt (fun _ => RxSlot.init) h.rxs n (f (h.rxs_ n)) }

/-- The working state of transmit slot n. -/
def Half.txs_ (h : Half) (n : Nat) : TxSlot := lookAt (fun _ => TxSlot.init) h.txs n

/-- Changes the working state of transmit slot n. -/
def Half.onTx (h : Half) (n : Nat) (f : TxSlot → TxSlot) : Half :=
  { h with txs := storeAt (fun _ => TxSlot.init) h.txs n (f (h.txs_ n)) }

/-- The committed configuration of receive slot n (R159). -/
def Half.rxCommitted (h : Half) (n : Nat) : RxCfg :=
  { ctrl := h.rd (Adr.FRX_CTRL n), dst := h.rd (Adr.FRX_DST_IP n), src := h.rd (Adr.FRX_SRC_IP n)
    format := h.rd (Adr.FRX_FORMAT n), timing := h.rd (Adr.FRX_TIMING n), offset := h.rd (Adr.FRX_RTP_OFFSET n)
    map := (List.range 64).map fun i => h.rd (Adr.RX_MAP (64 * n + i)) }

/-- The configuration that receive slot n runs under: the old one while it is CHANGING (R161). -/
def Half.rxCfg (h : Half) (n : Nat) : RxCfg := (h.rxs_ n).changing.getD (h.rxCommitted n)

/-- The committed configuration of transmit slot n (R159). -/
def Half.txCommitted (h : Half) (n : Nat) : TxCfg :=
  { ctrl := h.rd (Adr.FTX_CTRL n), format := h.rd (Adr.FTX_FORMAT n), timing := h.rd (Adr.FTX_TIMING n)
    offset := h.rd (Adr.FTX_RTP_OFFSET n)
    map := (List.range 64).map fun i => h.rd (Adr.TX_MAP (64 * n + i))
    tmpl := (List.range 16).map fun i => h.rd (Adr.TX_TMPL (16 * n + i)) }

/-- Fields of a receive configuration (R163, R166, R167). -/
def RxCfg.en (c : RxCfg) : Bool := bitAt c.ctrl 0
def RxCfg.paired (c : RxCfg) : Bool := bitAt c.timing 31
def RxCfg.pair (c : RxCfg) : Nat := getBits c.timing 16 10
def RxCfg.port (c : RxCfg) : Nat := getBits c.timing 12 1
def RxCfg.link (c : RxCfg) : Nat := getBits c.timing 0 11
def RxCfg.channels (c : RxCfg) : Nat := getBits c.format 0 6 + 1
def RxCfg.bytes (c : RxCfg) : Nat := encBytes (getBits c.format 12 2)
def RxCfg.ptime (c : RxCfg) : Nat := getBits c.format 8 3

/-- The slots whose page or working state is not as at reset. -/
def Half.rxSlots (h : Half) : List Nat :=
  ((h.regs.filter (fun p => 0x40000 ≤ p.1 ∧ p.1 < 0x50000)).map (fun p => (p.1 - 0x40000) / 0x40)).dedup

/-- The slot whose map, offset and buffer receive slot n uses: its primary when it is a secondary (R140). -/
def Half.rxPrimary (h : Half) (n : Nat) : Nat :=
  let c := h.rxCfg n
  if c.paired then c.pair else n

/-- The members of the pair of primary n, itself first (R140). -/
def Half.rxMembers (h : Half) (n : Nat) : List Nat :=
  n :: h.rxSlots.filter fun m => m != n && (h.rxCfg m).en && (h.rxCfg m).paired && (h.rxCfg m).pair == n

/-- Shows a STATE at one slot; a change sets `EVENT.STATE` (R143). -/
def Half.rxShow (h : Half) (n v : Nat) : Half :=
  if h.get (Adr.FRX_STATUS n) 0 3 = v then h else (h.put (Adr.FRX_STATUS n) 0 3 v).event (Adr.FRX_EVENT n) 0

/-- Moves the STATE of a slot and of its pair; each change sets `EVENT.STATE` (R143). -/
def Half.rxSetState (h : Half) (n v : Nat) : Half := h.each (h.rxMembers n) fun x m => x.rxShow m v

/-- The STATE of slot n (R143). -/
def Half.rxState (h : Half) (n : Nat) : Nat := h.get (Adr.FRX_STATUS n) 0 3

/-- An IPv4 UDP packet as R132 and R134 read it: addresses, port, whether a check of R132 before the RTP header fails. -/
structure FlowPkt where
  src : Nat
  dst : Nat
  dport : Nat
  bad : Bool
  payload : List Byte
  deriving DecidableEq, Repr

/-- Reads the IPv4 and UDP headers of a frame for flow matching; the checks of R132 on them decide `bad`. -/
def Parsed.flowPkt (f : Parsed) : Option FlowPkt :=
  match f.ipv4 with
  | none => none
  | some d =>
    if d.proto ≠ 17 ∨ d.payload.length < 8 then none
    else
      let hl := 4 * (byteAt f.body 0 % 16)
      let len := beAt d.payload 4 2
      let udp := d.payload.take len
      let pseudo := beBytes 4 d.src ++ beBytes 4 d.dst ++ beBytes 2 17 ++ beBytes 2 len
      let bad := onesSum (f.body.take hl) != 0 || hl != 20 || d.fragment || decide (len < 8 ∨ d.payload.length < len)
        || (beAt d.payload 6 2 != 0 && onesSum (pseudo ++ udp) != 0)
      some ⟨d.src, d.dst, beAt d.payload 2 2, bad, udp.drop 8⟩

/-- The enabled slots of port p whose destination address and UDP port are those of a packet (R134). -/
def Half.flowCandidates (h : Half) (p : Nat) (k : FlowPkt) : List Nat :=
  h.rxSlots.filter fun n =>
    let c := h.rxCfg n
    c.en && c.port == p && c.dst.toNat == k.dst && getBits c.format 16 16 == k.dport

/-- The slot that takes a packet, and whether it counts as malformed there for its source (R134). -/
def Half.flowMatch (h : Half) (p : Nat) (k : FlowPkt) : Option (Nat × Bool) :=
  let cs := h.flowCandidates p k
  match cs.find? fun n => (h.rxCfg n).src.toNat != 0 && (h.rxCfg n).src.toNat == k.src with
  | some n => some (n, false)
  | none =>
    match cs.find? fun n => (h.rxCfg n).src.toNat == 0 with
    | some n => some (n, false)
    | none => cs.head?.map fun n => (n, true)

/-- An RTP packet after its header is read: sequence number, timestamp, SSRC, payload (R132). -/
structure Rtp where
  seq : Nat
  ts : Nat
  ssrc : Nat
  payload : List Byte
  deriving DecidableEq, Repr

/-- Reads an RTP packet: version 2; CSRC entries, header extension and padding removed (R132). -/
def readRtp (bs : List Byte) : Option Rtp :=
  let b0 := byteAt bs 0
  if b0 / 64 ≠ 2 ∨ bs.length < 12 then none
  else
    let ofs := 12 + 4 * (b0 % 16)
    let ofs2 := if b0 / 16 % 2 = 1 then ofs + 4 + 4 * beAt bs (ofs + 2) 2 else ofs
    let pad := if b0 / 32 % 2 = 1 then byteAt bs (bs.length - 1) else 0
    if bs.length < ofs2 + pad then none
    else some ⟨beAt bs 2 2, beAt bs 4 4, beAt bs 8 4, slice bs ofs2 (bs.length - ofs2 - pad)⟩

/-- The number nearest to ref that is congruent to v modulo 2^n; never below 0 (R133). -/
def nearest (n ref v : Nat) : Nat :=
  let d := (v + 2 ^ n * 2 - ref % 2 ^ n) % 2 ^ n
  if 2 * d < 2 ^ n then ref + d else ref + d - 2 ^ n

/-- Statistics word w of receive slot n: adds d to its field (R169). -/
def Half.rxStat (h : Half) (n w lo bits d : Nat) : Half := h.wrap (Adr.RX_STAT (4 * n + w)) lo bits d

/-- The cost of one packet in policing credit, in units of 1/30000 ns: the packet time over 1.0005 per unit of elapsed
time 10005/30000 ns (R135). -/
def policeCost (ptime : Nat) : Nat := getAt [375000, 750000, 1000000, 3000000, 12000000] ptime 0 * 10000

/-- Takes one packet from the policing bucket of slot n at an instant; none when it is empty (R135). -/
def Half.police (h : Half) (n t : Nat) : Option Half :=
  let c := h.rxCfg n
  let s := h.rxs_ n
  let cost := policeCost c.ptime
  let cap := cost * max 1 (h.get (Adr.FRX_CTRL n) 8 4)
  let have_ := min cap (s.credit + (t - s.creditAt) * 3 * 10005)
  if have_ < cost then none
  else some (h.onRx n fun x => { x with credit := have_ - cost, creditAt := t })

/-- A policed packet (R135, R164, R169). -/
def Half.policed (h : Half) (n : Nat) : Half :=
  (((h.rxStat n 3 16 16 1).event (Adr.FRX_EVENT n) 4).putBit (Adr.FRX_STATUS n) 5 true).onRx n fun x =>
    { x with policedAt := some h.age }

/-- Sequence tracking of one path: sequence numbers skipped are counted missing; a new SSRC restarts it (R132, R169). -/
def Half.trackSeq (h : Half) (n : Nat) (k : Rtp) : Half :=
  let s := h.rxs_ n
  match s.ssrc, s.ext with
  | some a, some e =>
    if a = k.ssrc then
      let e2 := nearest 16 e k.seq
      let h1 := if e + 1 < e2 then h.rxStat n 1 0 32 (e2 - e - 1) else h
      h1.onRx n fun x => { x with ext := some (max e e2) }
    else h.onRx n fun x => { x with ssrc := some k.ssrc, ext := some (0x10000 + k.seq) }
  | _, _ => h.onRx n fun x => { x with ssrc := some k.ssrc, ext := some (0x10000 + k.seq) }

/-- The samples of a packet for the jitter buffer: media index and one word a channel (R131, R133). -/
def RxCfg.frames (c : RxCfg) (m0 count : Nat) (payload : List Byte) : List (Nat × List Word) :=
  (List.range count).map fun i =>
    (m0 + i, (List.range c.channels).map fun ch => sampleOf (slice payload ((i * c.channels + ch) * c.bytes) c.bytes))

/-- A packet of slot n accepted on its path: counted, timestamped at the instant of its first bit, the path up (R116, R141, R162,
R169). -/
def Half.pathAccepts (h : Half) (n seq ofs sfd : Nat) : Half :=
  let h1 := ((h.rxStat n 0 0 32 1).flowStamp (Adr.FRX_ARRIVAL n 0) seq (h.ptpAtNow sfd)).onRx n fun x =>
    { x with lastArr := some (h.now ofs) }
  if h1.bit (Adr.FRX_STATUS n) 4 then h1 else (h1.putBit (Adr.FRX_STATUS n) 4 true).event (Adr.FRX_EVENT n) 1

/-- Writes a packet's samples into the jitter buffer of slot g: those whose release instant has passed are discarded, and
the packet counted late once on its path n (R136, R137). -/
def Half.bufferPacket (h : Half) (n g : Nat) (frames : List (Nat × List Word)) (link now_ : Nat) : Half :=
  let keep := frames.filter fun f => decide (now_ < f.1 + link ∧ (h.rxs_ g).next ≤ f.1 + link)
  let h1 := if keep.length < frames.length then (h.rxStat n 2 16 16 1).event (Adr.FRX_EVENT n) 2 else h
  h1.onRx g fun x => { x with buf := keep.foldl (fun b f => insertAt f.1 f.2 b) x.buf }

/-- The device keeps the merged packets of the last 256 sequence numbers. -/
def pruneSeen (latest : Nat) (l : List (Nat × Nat)) : List (Nat × Nat) := l.filter fun p => decide (latest < p.1 + 256)

/-- Merges one packet of slot n into the flow of its primary: the first copy is used, a later copy is a duplicate, and
copies with different timestamps are recorded (R140, R141). -/
def Half.mergePacket (h : Half) (n : Nat) (k : Rtp) (frames : List (Nat × List Word)) (link now_ : Nat) : Half :=
  let g := h.rxPrimary n
  let s := h.rxs_ g
  let latest := (s.seen.map (fun p => p.1)).foldl max 0
  let e := if s.seen.isEmpty then 0x10000 + k.seq else nearest 16 latest k.seq
  match s.seen.find? fun p => p.1 == e with
  | some (_, ts) => if ts = k.ts then h else (h.event (Adr.FRX_EVENT g) 1).latch (Adr.FRX_FAULT g) 2
  | none =>
    (h.bufferPacket n g frames link now_).onRx g fun x =>
      { x with seen := pruneSeen (max latest e) (x.seen ++ [(e, k.ts)]) }

/-- A matched packet at slot n (R132, R135 to R141), at ofs ns into the block, its first bit at an instant: malformed, policed,
early, or merged. -/
def Half.flowArrive (h : Half) (n : Nat) (badSrc : Bool) (k : FlowPkt) (ofs sfd : Nat) : Half :=
  let c := h.rxCfg n
  let g := h.rxPrimary n
  let cg := h.rxCfg g
  let count := packetSamples h.rate96 c.ptime
  let malformed := h.rxStat n 3 0 16 1
  if h.bit (Adr.FRXC_STATUS (n / 128)) 1 || !h.up .flow then h
  else if badSrc || k.bad then malformed
  else
    match readRtp k.payload with
    | none => malformed
    | some r =>
      if r.payload.length ≠ c.channels * c.bytes * count then malformed
      else
        match (if bitAt (h.rd (Adr.FRX_CTRL n)) 1 then h.police n (h.now ofs) else some h) with
        | none => h.policed n
        | some h1 =>
          let now_ := h1.mediaAt ofs
          let m0 := nearest 32 now_ ((r.ts + 2 ^ 32 - cg.offset.toNat) % 2 ^ 32)
          if now_ + 2 * count < m0 + count - 1 then
            ((h1.trackSeq n r).rxStat n 2 0 16 1).event (Adr.FRX_EVENT n) 3
          else
            ((h1.trackSeq n r).pathAccepts n r.seq ofs sfd).mergePacket n r (c.frames m0 count r.payload) cg.link now_

/-- Puts the output words of a slot at a position into the receive pool by its channel map (R128, R144). -/
def Half.rxPool (h : Half) (c : RxCfg) (pos : Nat) (ws : List Word) : Half :=
  { h with inBlk := ((List.range c.channels).foldl (fun b ch =>
      let e := getAt c.map ch 0
      if bitAt e 31 then audioPut b 0 (getBits e 0 11) pos (getAt ws ch 0) else b) h.inBlk) }

/-- Gain g of 5 ms in steps of one sample as a word. -/
def Half.gainWord (h : Half) (g : Nat) : Word := if g = h.fadeLen then fOne else fRatio g h.fadeLen

/-- One release position of slot g (R144, R145): what it puts out, and its new working state and STATE. -/
def Half.concealStep (h : Half) (g : Nat) (sample : Option (List Word)) : List Word × RxSlot × Nat × Bool :=
  let s := h.rxs_ g
  let f := h.fadeLen
  let st := h.rxState g
  let leaving := s.changing.isSome
  let lost := s.fade.isSome
  match sample with
  | some ws =>
    let base := match s.fade with | some k => s.gain * k / f | none => s.gain
    let up := if leaving && lost then base else min f (base + 1)
    let out := ws.map fun w => fMul w (h.gainWord up)
    (out, { s with gain := up, fade := none, miss := 0, last := out }, if leaving then st else 2, false)
  | none =>
    if st = 1 then ([], s, 1, false)
    else
      match s.fade with
      | some k => (s.last.map fun w => fMul w (h.gainWord (k - 1)), { s with fade := some (k - 1) }, st, false)
      | none =>
        if s.miss < 4 then (s.last, { s with miss := s.miss + 1 }, st, false)
        else
          (s.last.map fun w => fMul w (h.gainWord (f - 1)), { s with fade := some (f - 1), miss := 5 },
            if leaving then st else 3, !leaving)

/-- Releases the position of media index m + L of slot g (R136, R144 to R146, R161). -/
def Half.releaseSlot (h : Half) (g mi : Nat) (pool : Bool) : Half :=
  let c := h.rxCfg g
  let s := h.rxs_ g
  if s.hold then
    let h1 := h.onRx g fun x => { x with hold := false, next := mi + 1 }
    if pool then h1.rxPool c (mi - h.mediaIdx) s.last else h1
  else
    let m := mi - c.link
    let sample := (s.buf.find? fun e => e.1 == m && decide (c.link ≤ mi)).map fun e => e.2
    let (out, s1, st, isLost) := h.concealStep g sample
    let leave := s.leave - 1
    let out1 := if s.changing.isSome then out.map fun w => fMul w (h.gainWord leave) else out
    let h1 := h.onRx g fun _ => { s1 with
      next := mi + 1, leave := leave, buf := s1.buf.filter fun e => decide (mi < e.1 + c.link) }
    let h2 := h1.rxSetState g st
    let h3 := if isLost then h2.latch (Adr.FRX_FAULT g) 1 else h2
    if pool then h3.rxPool c (mi - h.mediaIdx) out1 else h3

/-- PLAYOUT_RELEASE: one position of one slot; a secondary releases nothing of its own (R140, R144). -/
def execPlayoutRelease (h : HalfId) (n : SlotId) (pos : Fin 12) (s : State) : Host.Outcome State Fault Refusal :=
  .next (s.on h fun x =>
    let mi := x.mediaIdx + pos
    let c := x.rxCfg n
    if x.up .flow && x.live && c.en && !c.paired && decide (pos < x.blockLen) && decide ((x.rxs_ n).next ≤ mi)
        && x.rxState n != 0 then
      x.releaseSlot n mi true
    else x)

/-- The receive slots that release: enabled, not secondaries. -/
def Half.rxPrimaries (h : Half) : List Nat := h.rxSlots.filter fun n => (h.rxCfg n).en && !(h.rxCfg n).paired

/-- A step of one sample absorbed by playout: forward drops the next sample, back holds one (R146, R190). -/
def Half.rxAbsorb (h : Half) (forward : Bool) : Half :=
  h.each h.rxPrimaries fun x n =>
    x.onRx n fun s => if forward then { s with next := s.next + 1 } else { s with hold := true, next := x.mediaIdx }

/-- A time jump of the media index from a to b: positions skipped are missing (R191); after 5 + 5 ms of them more change
nothing. -/
def Half.rxJump (h : Half) (a b : Nat) : Half :=
  h.each h.rxPrimaries fun x n =>
    let y := (List.range (min (b - a) (5 + x.fadeLen))).foldl (fun (z : Half) _ =>
      let (_, s1, st, isLost) := z.concealStep n none
      let z1 := (z.onRx n fun _ => s1).rxSetState n st
      if isLost then z1.latch (Adr.FRX_FAULT n) 1 else z1) x
    y.onRx n fun s => { s with next := b }

/-- PATH_TIMEOUT: nothing accepted for 4 packet times and at least 1 ms (R141). -/
def execPathTimeout (h : HalfId) (n : SlotId) (s : State) : Host.Outcome State Fault Refusal :=
  .next (s.on h fun x =>
    let wait := max 1000000 (4 * ptimeNs (x.rxCfg n).ptime)
    match (x.rxs_ n).lastArr with
    | some t =>
      if x.bit (Adr.FRX_STATUS n) 4 && decide (t + wait ≤ x.now 125000) then
        (x.putBit (Adr.FRX_STATUS n) 4 false).event (Adr.FRX_EVENT n) 1
      else x
    | none => x)

/-- A receive slot starts from its committed configuration: WAITING when enabled, else DISABLED; statistics start at 0,
the policing bucket full (R143, R169). -/
def Half.rxStart (h : Half) (n : Nat) : Half :=
  let c := h.rxCommitted n
  let cost := policeCost c.ptime
  let h0 := if h.bit (Adr.FRX_STATUS n) 4 then (h.putBit (Adr.FRX_STATUS n) 4 false).event (Adr.FRX_EVENT n) 1 else h
  let h1 := (h0.putBit (Adr.FRX_STATUS n) 5 false).onRx n fun _ => { RxSlot.init with
    credit := if c.en then cost * max 1 (getBits c.ctrl 8 4) else 0, creditAt := if c.en then h.now 0 else 0
    next := if c.en then h.mediaIdx else 0 }
  let h2 := if c.en then h1.each [0, 1, 2, 3] fun x w => x.wrNat (Adr.RX_STAT (4 * n + w)) 0 else h1
  let v := if !c.en then 0 else if c.paired then h2.rxState c.pair else 1
  if c.paired then h2.rxShow n v else h2.rxSetState n v

/-- CHANGING_END: the fade has ended, and the slot takes its new configuration, and with it a secondary that changes (R161). -/
def execChangingEnd (h : HalfId) (n : SlotId) (s : State) : Host.Outcome State Fault Refusal :=
  .next (s.on h fun x =>
    if x.rxState n = 4 ∧ (x.rxs_ n).leave = 0 ∧ (x.rxs_ n).changing.isSome ∧ !(x.rxCfg n).paired then
      ((x.rxMembers n).drop 1).foldl Half.rxStart (x.rxStart n)
    else x)

/-- Two receive configurations differ in a field other than POLICE_EN and POLICE_DEPTH (R161). -/
def RxCfg.differs (a b : RxCfg) : Bool :=
  bitAt a.ctrl 0 != bitAt b.ctrl 0 || { a with ctrl := 0 } != { b with ctrl := 0 }

/-- A plan commit at receive slot n, whose configuration before it was old (R161): a RUNNING or LOST slot fades out under
the old one, and a secondary with its primary (R143); another slot takes the new one at once; a CHANGING slot goes on. -/
def Half.rxCommit (h : Half) (n : Nat) (old : RxCfg) : Half :=
  if (h.rxs_ n).changing.isSome || !old.differs (h.rxCommitted n) then h
  else if (h.rxState n = 2 ∨ h.rxState n = 3) ∧ !old.paired then
    (h.onRx n fun x => { x with changing := some old, leave := h.fadeLen }).rxSetState n 4
  else if old.paired && old.en && (h.rxs_ old.pair).changing.isSome then
    (h.onRx n fun x => { x with changing := some old }).rxShow n 4
  else h.rxStart n

/-- The configuration that transmit slot n runs under for a packet from media index m0 on: the old one until its packet
boundary, the committed one from its first packet on (R161). -/
def Half.txCfgAt (h : Half) (n now_ : Nat) : Option (TxCfg × Nat) :=
  let s := h.txs_ n
  let cand := fun (c : TxCfg) =>
    let k := packetSamples h.rate96 (getBits c.format 8 3)
    if k = 0 then none else if now_ < k then none else some ((now_ - k) / k * k)
  let fresh_ := fun (m0 : Nat) => match s.last with | some l => decide (l < m0) | none => true
  let new := h.txCommitted n
  let useNew := match cand new with
    | some m0 => if decide (s.first ≤ m0) && fresh_ m0 && bitAt new.ctrl 0 then some (new, m0) else none
    | none => none
  match s.old with
  | some (c, stop) =>
    match cand c with
    | some m0 =>
      let k := packetSamples h.rate96 (getBits c.format 8 3)
      if decide (m0 + k ≤ stop) && fresh_ m0 && bitAt c.ctrl 0 then some (c, m0) else useNew
    | none => useNew
  | none => useNew

/-- The transmit pool sample of a media index (R128). -/
def Half.txSample (h : Half) (m ch : Nat) : Word :=
  match h.txHist.find? fun e => e.1 == m with
  | some e => lookAt (fun _ => 0) e.2 ch
  | none => 0

/-- The frame of a packet (R147 to R149): template of the slot, samples, sequence number and timestamp of its primary. -/
def Half.txFrame (h : Half) (c g : TxCfg) (m0 : Nat) : List Byte :=
  let k := packetSamples h.rate96 (getBits c.format 8 3)
  let port := getBits c.timing 12 1
  let chans := getBits c.format 0 6 + 1
  let b := encBytes (getBits c.format 12 2)
  let tagged := bitAt (getAt c.tmpl 15 0) 8
  let hdr := ((c.tmpl.take 15).map fun w => beBytes 4 w.toNat).flatten
  let ip := if tagged then 18 else 14
  let payload := ((List.range k).map fun i => ((List.range chans).map fun ch =>
    let e := getAt g.map ch 0
    sampleBytes b (if bitAt e 31 then h.txSample (m0 + i) (getBits e 0 11) else 0)).flatten).flatten
  let udpLen := 8 + 12 + payload.length
  let ipHdr := (hdr.drop ip).take 2 ++ beBytes 2 (20 + udpLen) ++ [0, 0] ++ beBytes 2 0x4000 ++ slice hdr (ip + 8) 2
  let ipEnd := slice hdr (ip + 12) 8
  let sum := onesSum (ipHdr ++ [0, 0] ++ ipEnd)
  let seq := (m0 / k + getBits (getAt g.tmpl 15 0) 16 16) % 0x10000
  hdr.take 6 ++ h.svcAddr port ++ slice hdr 12 (ip - 12) ++ ipHdr ++ beBytes 2 sum ++ ipEnd
    ++ slice hdr (ip + 20) 4 ++ beBytes 2 udpLen ++ [0, 0]
    ++ slice hdr (ip + 28) 2 ++ beBytes 2 seq ++ beBytes 4 (m0 + g.offset.toNat) ++ slice hdr (ip + 36) 4 ++ payload

/-- PACKET_LAUNCH: a RUNNING slot builds the packet whose nominal launch instant and offset have come, and hands it to its
port; an impaired port discards it (R107, R148, R150, R152). -/
def execPacketLaunch (h : HalfId) (n : SlotId) (ofs : BlockOfs) (s : State) : Host.Outcome State Fault Refusal :=
  .next (s.on h fun x =>
    match x.txCfgAt n (x.mediaAt ofs) with
    | none => x
    | some (c, m0) =>
      let k := packetSamples x.rate96 (getBits c.format 8 3)
      let port := getBits c.timing 12 1
      let g := if bitAt c.timing 31 then x.txCommitted (getBits c.timing 16 10) else c
      let due := (m0 + k) * 125000 / x.blockLen + 500 * x.get (Adr.FTX_STATUS n) 16 12
      if x.get (Adr.FTX_STATUS n) 0 3 = 1 ∧ x.up .flow ∧ x.live ∧ due ≤ x.mediaIdx * 125000 / x.blockLen + ofs then
        let x1 := x.onTx n fun t => { t with last := some m0, old := if t.first ≤ m0 then none else t.old }
        if x1.bit (Adr.MAC_STATUS port) 3 then (x1.tally port .txLateDrop 1).flowDropped n
        else
          x1.queueFrame port 6 (x1.txFrame c g m0)
            (some (n, (m0 / k + getBits (getAt g.tmpl 15 0) 16 16) % 0x10000))
      else x)

/-- The wire time of a slot's frame in bytes: the frame with FCS, preamble and gap (R151). -/
def TxCfg.wireBytes (rate96 : Bool) (c : TxCfg) : Nat :=
  (if bitAt (getAt c.tmpl 15 0) 8 then 58 else 54) + payloadBytes rate96 c.format + 4 + 20

/-- Wire bytes booked at a launch offset on a port by the running slots other than n (R150). -/
def Half.booked (h : Half) (n port step : Nat) : Nat :=
  ((h.txSlots.dedup.filter fun m => m != n && h.bit (Adr.FTX_CTRL m) 0 && h.get (Adr.FTX_TIMING m) 12 1 == port
      && h.get (Adr.FTX_STATUS m) 16 12 == step && h.get (Adr.FTX_STATUS m) 0 3 != 0).map
    fun m => (h.txCommitted m).wireBytes h.rate96).sum

/-- The launch offset of a newly enabled slot: the step below P/2 with the least booked wire time on its port, the lowest
on a tie (R150). -/
def Half.launchOffset (h : Half) (n : Nat) : Nat :=
  let c := h.txCommitted n
  let port := getBits c.timing 12 1
  let steps := (ptimeNs (getBits c.format 8 3) + 999) / 1000
  (List.range steps).foldl (fun best s => if h.booked n port s < h.booked n port best then s else best) 0

/-- A plan commit at transmit slot n, whose configuration before it was old (R150, R161). -/
def Half.txCommit (h : Half) (n : Nat) (old : TxCfg) : Half :=
  let new := h.txCommitted n
  if old = new then h
  else
    let ko := packetSamples h.rate96 (getBits old.format 8 3)
    let kn := max 1 (packetSamples h.rate96 (getBits new.format 8 3))
    let wasOn := bitAt old.ctrl 0 && decide (0 < ko)
    let stop := if wasOn then (h.mediaIdx + ko - 1) / ko * ko else h.mediaIdx
    let first := if wasOn then (stop / kn + 1) * kn else (stop + kn - 1) / kn * kn
    let h1 := h.onTx n fun t => { t with first := first, old := if wasOn then some (old, stop) else none }
    let h2 := if bitAt new.ctrl 0 && !wasOn then
        ((h1.wrNat (Adr.TX_STAT (2 * n)) 0).wrNat (Adr.TX_STAT (2 * n + 1)) 0).put (Adr.FTX_STATUS n) 16 12
          (h1.launchOffset n)
      else h1
    h2.txRefreshOne n

/-- A transmit slot starts again at its next packet boundary (R229, R170). -/
def Half.txStart (h : Half) (n : Nat) : Half :=
  let k := max 1 (packetSamples h.rate96 (h.get (Adr.FTX_FORMAT n) 8 3))
  let on := h.bit (Adr.FTX_CTRL n) 0
  (h.onTx n fun _ => if on then ⟨none, (h.mediaIdx + k - 1) / k * k, none⟩ else TxSlot.init).txRefreshOne n

/-- The slots of a flow cluster (R127). -/
def clusterSlots (c : Nat) : List Nat := (List.range 128).map (128 * c + ·)

/-- A write of 1 to CTRL of a flow cluster page: its slots start again from the committed plan, and FAULTED ends (R170). -/
def Half.flowClusterInit (h : Half) (tx : Bool) (c : Nat) : Half :=
  if tx then (h.putBit (Adr.FTXC_STATUS c) 1 false).each ((clusterSlots c).filter fun n => h.txSlots.contains n) Half.txStart
  else
    ((h.putBit (Adr.FRXC_STATUS c) 1 false)).each ((clusterSlots c).filter fun n => h.rxSlots.contains n) Half.rxStart

/-- The shared state of a flow cluster fails its check: every slot of it stops; transmit slots record cause 0x0001
(R23, R168, R170). -/
def Half.flowClusterFault (h : Half) (tx : Bool) (c : Nat) : Half :=
  if tx then
    (h.putBit (Adr.FTXC_STATUS c) 1 true).each (clusterSlots c) fun x n =>
      if x.bit (Adr.FTX_CTRL n) 0 then (x.txRefreshOne n).latch (Adr.FTX_FAULT n) 1 else x
  else h.putBit (Adr.FRXC_STATUS c) 1 true

/-- Re-initialises every flow slot from the committed plan (R17, R229). -/
def Half.flowReinit (h : Half) : Half :=
  h.each [0, 1, 2, 3, 4, 5, 6, 7] fun x c => (x.flowClusterInit false c).flowClusterInit true c

/-- `STATUS[0]` of a flow cluster page: an event pending, or a slot in LOST, CHANGING or STOPPED (R170). -/
def Half.flowSummary (h : Half) (tx : Bool) (c : Nat) : Bool :=
  if tx then (h.txSlots.dedup.filter fun n => n / 128 == c).any fun n =>
    (h.rd (Adr.FTX_EVENT n)).toNat != 0 || h.get (Adr.FTX_STATUS n) 0 3 == 3
  else (h.rxSlots.filter fun n => n / 128 == c).any fun n =>
    (h.rd (Adr.FRX_EVENT n)).toNat != 0 || h.rxState n == 3 || h.rxState n == 4

/-- At a block boundary POLICING falls 10 ms after the last policed packet (R164). -/
def Half.policingTick (h : Half) : Half :=
  h.each h.rxSlots fun x n =>
    match (x.rxs_ n).policedAt with
    | some b => if b + 80 ≤ x.age then (x.putBit (Adr.FRX_STATUS n) 5 false).onRx n fun s => { s with policedAt := none } else x
    | none => x

end Sys2Proof.Machine
end

