-- ==== Sys2Proof/Machine/Timing.lean ====
section
/-! DEFINITION. The Timing region: PTP clocks, references, selection, the media and carrier ADPLLs, phase steps, holdover
(R171 to R204, R565). -/

namespace Sys2Proof.Machine

open Sys2Proof

/-- Changes the working state of the Timing region. -/
def Half.onTim (h : Half) (f : TimSt → TimSt) : Half := { h with tim := f h.tim }

/-- What the half keeps of reference i. -/
def Half.refSt (h : Half) (i : Nat) : RefSt := getAt h.tim.refs i RefSt.init

/-- Changes what the half keeps of reference i. -/
def Half.onRef (h : Half) (i : Nat) (f : RefSt → RefSt) : Half := h.onTim fun t => { t with refs := modAt t.refs i f }

/-- A signed register, and its write: saturating at 32 bits. -/
def Half.rdS (h : Half) (a : Nat) : Int := signed 32 (h.rd a).toNat
def Half.wrS (h : Half) (a : Nat) (v : Int) : Half := h.wrNat a (unsigned 32 (satSigned 32 v))

/-- A frequency word held within ±500 ppm (R173). -/
def clampFreq (v : Int) : Int := clampInt (-549755814) 549755814 v

/-- |v| in fu is at most a limit in ppb: 1 fu is 2^-40 (R179). -/
def withinPpb (v : Int) (ppb : Nat) : Bool := decide (v.natAbs * 1000000000 ≤ ppb * 2 ^ 40)

/-- The state of reference i (R178). -/
def Half.refState (h : Half) (i : Nat) : Nat := h.get (Adr.TIM_REF_STATUS i) 0 3

/-- PTP port p uses UDP transport (R174, R202). -/
def Half.ptpUdp (h : Half) (p : Nat) : Bool := !h.bit (Adr.TIM_PTP_CFG p) 18 && h.get (Adr.TIM_PTP_CFG p) 20 4 != 4

/-- The source of reference i is on (R178). -/
def Half.refOn (h : Half) (i : Nat) : Bool :=
  match i with
  | 0 => h.bit (Adr.TIM_PTP_CFG 0) 17
  | 1 => h.bit (Adr.TIM_PTP_CFG 1) 17
  | 3 => !h.bit (Adr.TDM_CTRL (h.get Adr.TIM_TDMREF 0 3)) 1
  | _ => true

/-- The deviation of reference i (R177). -/
def Half.deviation (h : Half) (i : Nat) : Int :=
  h.rdS (Adr.TIM_REF_FOFS i) - (if h.bit Adr.TIM_STATUS 3 then h.rdS Adr.TIM_SEL_BASE else 0)

/-- `DRIFT_LIMIT` as it acts (R203). -/
def Half.driftLimit (h : Half) (i : Nat) : Nat := clampNat 100 100000 (h.get (Adr.TIM_REF_DRIFT_LIMIT i) 0 17)

/-- The failure cause of the first check of R179 that reference i does not pass. -/
def Half.refCheck (h : Half) (i : Nat) : Option Nat :=
  let s := h.refSt i
  if i < 2 ∧ h.get (Adr.TIM_PTP_STATUS i) 0 4 ≠ 9 then some 5
  else if s.lost || (decide (i < 2) && !h.tim.cd4) then some 1
  else if s.badMode || decide (549755814 < (h.rdS (Adr.TIM_REF_FOFS i)).natAbs) then some 6
  else if h.bit Adr.TIM_STATUS 3 && !withinPpb (h.deviation i) (h.driftLimit i) then some 2
  else if 60 < s.hist.length ∧ !withinPpb (h.rdS (Adr.TIM_REF_DRIFT i)) (h.get (Adr.TIM_REF_RATE_LIMIT i) 0 14) then some 3
  else if i = 4 then
    match h.role, h.rdn.view with
    | .syncing, some v => if h.bit Adr.RDN_STATUS 5 && v.role == 3 then none else some 7
    | .standby, some v => if h.bit Adr.RDN_STATUS 5 && v.role == 3 then none else some 7
    | _, _ => some 7
  else none

/-- Moves reference i to a state; each change sets `EVENT.REF_STATE` (R178). -/
def Half.setRef (h : Half) (i v : Nat) : Half :=
  if h.refState i = v then h else (h.put (Adr.TIM_REF_STATUS i) 0 3 v).event Adr.TIM_EVENT 0

/-- Fails reference i with a cause; references 2 and 5 with cause 0x1 or 0x6 set `EVENT.WCLK` too (R178). -/
def Half.refFailed (h : Half) (i cause : Nat) : Half :=
  let h1 := (h.setRef i 4).put (Adr.TIM_REF_STATUS i) 4 4 cause
  if (i = 2 ∨ i = 5) ∧ (cause = 1 ∨ cause = 6) then h1.event Adr.TIM_EVENT 6 else h1

/-- The selected reference, as the `REFACT` balls show it; 6 for none (R181). -/
def Half.selected (h : Half) : Nat := h.get Adr.TIM_MPLL_STATUS 4 3

/-- References i and j agree (R180). -/
def Half.agree (h : Half) (i j : Nat) : Bool :=
  withinPpb (h.rdS (Adr.TIM_REF_FOFS i) - h.rdS (Adr.TIM_REF_FOFS j)) (h.get Adr.TIM_AGREE_WINDOW 0 14)

/-- A FAILED reference whose checks hold again leaves to WTR, or to QUALIFIED with WTR 0 (R179). -/
def Half.refReturns (h : Half) (i : Nat) : Half :=
  (h.setRef i (if h.get (Adr.TIM_REF_WTR i) 0 12 = 0 then 2 else 3)).onRef i fun s => { s with agreed := false }

/-- Brings the state of reference i into line with its enable and its checks (R178, R179); second says that a whole second
of `FOFS` has passed, as the return from cause 0x4 needs. -/
def Half.refEval (h : Half) (second : Bool) (i : Nat) : Half :=
  if i = 6 then h.put (Adr.TIM_REF_STATUS 6) 0 3 2
  else if !h.bit (Adr.TIM_REF_CFG i) 0 || !h.refOn i then h.setRef i 0
  else
    match h.refState i, h.refCheck i with
    | 0, _ => (h.setRef i 1).onRef i fun _ => RefSt.init
    | 4, none =>
      if h.get (Adr.TIM_REF_STATUS i) 4 4 = 4 then
        if h.selected ≠ 6 ∧ !h.agree i h.selected then h.onRef i fun s => { s with agreed := false }
        else if !second then h
        else if (h.refSt i).agreed then h.refReturns i
        else h.onRef i fun s => { s with agreed := true }
      else h.refReturns i
    | 4, some _ => h.onRef i fun s => { s with agreed := false }
    | _, some c => h.refFailed i c
    | _, none => h

/-- The kind of a reference: 0 time-bearing, 1 phase-bearing, 2 frequency-only (R176). -/
def Half.refKind (h : Half) (i : Nat) : Nat :=
  if i = 0 ∨ i = 1 ∨ i = 4 ∨ i = 7 then 0
  else if i = 3 then 1
  else if i = 2 then (if h.get Adr.TIM_WCLK_CFG 0 2 = 2 then 2 else 1)
  else 2

/-- The period of a phase-bearing reference in thirds of a nanosecond (R176). -/
def Half.refPeriod3 (h : Half) (i : Nat) : Int :=
  if i = 2 then
    match h.get Adr.TIM_WCLK_CFG 0 2 with
    | 0 => 62500
    | 1 => 31250
    | _ => 3000000000
  else if h.rate96 then 31250 else 62500

/-- Δ of a switch to reference i in ns (R189). -/
def Half.stepTo (h : Half) (i : Nat) : Int :=
  let ph := h.rdS (Adr.TIM_REF_PHASE i)
  match h.refKind i with
  | 0 => ph
  | 1 =>
    let t := h.refPeriod3 i
    let r := (3 * ph) % t
    let c := if t < 2 * r then r - t else r
    (2 * c + 3) / 6
  | _ => 0

/-- Moves the media ADPLL; each change sets `EVENT.MEDIA_PLL`, entry into and exit from HOLDOVER `EVENT.HOLDOVER`;
`MEDIA_LOCKED` follows (R186, R187). -/
def Half.setMpll (h : Half) (v : Nat) : Half :=
  let old := h.get Adr.TIM_MPLL_STATUS 0 3
  if old = v then h
  else
    let h1 := ((h.put Adr.TIM_MPLL_STATUS 0 3 v).event Adr.TIM_EVENT 2).putBit Adr.TIM_STATUS 0 (v == 2 || v == 3)
    let h2 := if old = 4 ∨ v = 4 then h1.event Adr.TIM_EVENT 4 else h1
    let code := fun (c : Nat) => min 6 c
    if v = 1 then h2.onTim fun t => { t with bw := code (h2.get Adr.TIM_MPLL_BW 4 3) }
    else if v = 2 ∨ v = 3 then h2.onTim fun t => { t with lockHeld := true }
    else h2

/-- What the `CLKST` balls of a half show (R186). -/
def Half.clkstBalls (h : Half) : Nat :=
  if h.get Adr.TIM_CPLL_STATUS 0 3 = 7 then 7 else h.get Adr.TIM_MPLL_STATUS 0 3

/-- Moves the carrier ADPLL; each change sets `EVENT.CARRIER_PLL`; `CARRIER_LOCKED` follows (R199). -/
def Half.setCpll (h : Half) (v : Nat) : Half :=
  if h.get Adr.TIM_CPLL_STATUS 0 3 = v then h
  else ((h.put Adr.TIM_CPLL_STATUS 0 3 v).event Adr.TIM_EVENT 3).putBit Adr.TIM_STATUS 1 (v == 2)

/-- The frequency word on entry into HOLDOVER: `HOLD_EST` where valid, else the mean over the last second, which the model
leaves free (R192, log entry 1). -/
def Half.holdFreq (h : Half) : Half :=
  if h.bit Adr.TIM_STATUS 3 then h.wr Adr.TIM_MPLL_FREQ (h.rd Adr.TIM_HOLD_EST)
  else
    let (v, h1) := h.fresh 32
    h1.wrS Adr.TIM_MPLL_FREQ (clampFreq v.toInt)

/-- No reference is selected any more: HOLDOVER after a lock has been held, else FREERUN (R187). -/
def Half.freeRun (h : Half) : Half :=
  if h.tim.lockHeld then h.holdFreq.setMpll 4 else (h.wrNat Adr.TIM_MPLL_FREQ 0).setMpll 0

/-- Leaves Δ waiting for the next boundary: the net of the steps of one block; the first time-bearing selection is a time
jump (R189 to R191). -/
def Half.addStep (h : Half) (i : Nat) : Half :=
  let d := h.stepTo i
  let first := h.refKind i == 0 && !h.tim.timed
  let h1 := if d = 0 then h else (h.wrS Adr.TIM_PHASE_STEP d).event Adr.TIM_EVENT 5
  if d = 0 ∧ !first then h1
  else
    h1.onTim fun t => { t with
      timed := t.timed || first
      step := match t.step with | some (x, j) => some (x + d, j || first) | none => some (d, first) }

/-- The loop takes reference i: its frequency, the step, and the state after the switch (R187 to R189). -/
def Half.follow (h : Half) (i : Nat) : Half :=
  let h1 := (h.wr Adr.TIM_MPLL_FREQ (h.rd (Adr.TIM_REF_FOFS i))).addStep i
  let locked := if h.refKind i = 0 then 2 else 3
  if i = 7 then h1.setMpll 5
  else
    match h.get Adr.TIM_MPLL_STATUS 0 3 with
    | 2 => h1.setMpll locked
    | 3 => h1.setMpll locked
    | _ => h1.setMpll 1

/-- Selects reference i, or none as 6 (R181, R183, R188). While the loop is open or in FAULT only the selection moves. -/
def Half.selectRef (h : Half) (i : Nat) : Half :=
  if h.selected = i then h
  else
    let h1 := h.each (List.range 8) fun x j => x.putBit (Adr.TIM_REF_STATUS j) 3 (j == i && i != 6)
    let h2 := h1.put Adr.TIM_MPLL_STATUS 4 3 i
    let st := h.get Adr.TIM_MPLL_STATUS 0 3
    let h3 := if i = 6 then h2 else h2.wr Adr.TIM_SEL_BASE (h.rd Adr.TIM_HOLD_EST)
    if st = 6 ∨ st = 7 then h3
    else if i = 6 then (if st = 0 ∨ st = 4 then h3 else h3.freeRun)
    else h3.follow i

/-- The carrier ADPLL takes the partner's carrier while the half is SYNCING or STANDBY on reference 4 (R197). -/
def Half.cpllInput (h : Half) : Half :=
  let partner := (h.role == .syncing || h.role == .standby) && h.selected == 4
  let h1 := h.putBit Adr.TIM_CPLL_STATUS 3 partner
  if partner then h1 else h1.put Adr.TIM_CARRIER_ALIGN 30 2 0

/-- The votes for candidate c: of the XO's estimate, and of the partner's measurement of c against its own estimate while
the link is up (R182). -/
def Half.votes (h partner : Half) (c : Nat) : Nat :=
  let w := h.get Adr.TIM_AGREE_WINDOW 0 14
  ofBool (h.bit Adr.TIM_STATUS 3 && withinPpb (h.rdS (Adr.TIM_REF_FOFS c) - h.rdS Adr.TIM_HOLD_EST) w)
    + ofBool (h.linkUp && partner.live && partner.bit Adr.TIM_STATUS 3 && partner.refState c != 0 &&
        withinPpb (partner.rdS (Adr.TIM_REF_FOFS c) - partner.rdS Adr.TIM_HOLD_EST) w)

/-- A disputed selection (R182). -/
def Half.dispute (h partner : Half) (cs : List Nat) : Half :=
  let h1 := if h.tim.dispute then h else (h.event Adr.TIM_EVENT 1).onTim fun t => { t with dispute := true }
  match cs.find? fun c => decide (0 < h.votes partner c) &&
      (cs.all fun d => d == c || decide (h.votes partner d < h.votes partner c)) with
  | none => h1
  | some c =>
    ((cs.filter fun d => !h.agree c d).foldl (fun (x : Half) d => x.refFailed d 4) h1).selectRef c

/-- The QUALIFIED references of lowest rank, without 4 and 6 (R180). -/
def Half.candidates (h : Half) : List Nat :=
  let qs := [0, 1, 2, 3, 5, 7].filter fun i => h.refState i == 2
  let rank := fun i => h.get (Adr.TIM_REF_CFG i) 16 4
  qs.filter fun i => qs.all fun j => decide (rank i ≤ rank j)

/-- The selector's evaluation (R180 to R182). -/
def Half.evaluate (h partner : Half) : Half :=
  let calm := fun (x : Half) => x.onTim fun t => { t with dispute := false }
  let cs := h.candidates
  let h1 :=
    if (h.role = .syncing ∨ h.role = .standby) ∧ h.refState 4 = 2 then (calm h).selectRef 4
    else
      match cs with
      | [] => (calm h).selectRef 6
      | c0 :: _ =>
        if cs.contains h.selected && (cs.all fun j => h.agree h.selected j) then calm h
        else if cs.all fun i => cs.all fun j => h.agree i j then (calm h).selectRef c0
        else h.dispute partner cs
  h1.cpllInput

/-- The selector of a half evaluates, the partner as referee. -/
def State.select (s : State) (h : HalfId) : State := s.setHalf h ((s.half h).evaluate (s.half h.other))

/-- A change f of a half's references, after which the selector evaluates when a reference changed its state (R180). -/
def State.refChange (s : State) (h : HalfId) (f : Half → Half) : State :=
  let me := s.half h
  if !me.live || !me.up .timing then s
  else
    let s1 := s.on h f
    if (List.range 8).all fun i => (s1.half h).refState i == me.refState i then s1 else s1.select h

/-- DRIFT from the history of `FOFS`: the change over the last 60 s, or over the seconds there are (R177). -/
def slope (hist : List Int) : Int :=
  let n := min 60 (hist.length - 1)
  match hist with
  | [] => 0
  | new :: _ => if n = 0 then 0 else (new - getAt hist n new) / n

/-- One whole second of reference i (R177, R179). -/
def Half.measure (h : Half) (i : Nat) (fofs : Int) (phase : Option Int) (inMode : Bool) : Half :=
  let hist := (fofs :: (h.refSt i).hist).take 61
  let h1 := (h.wrS (Adr.TIM_REF_FOFS i) fofs).wrS (Adr.TIM_REF_DRIFT i) (slope hist)
  let h2 := match phase with | some p => h1.wrS (Adr.TIM_REF_PHASE i) p | none => h1
  (h2.onRef i fun s => { s with hist := hist, badMode := !inMode, lost := s.lost && phase.isNone }).refEval true i

/-- REFERENCE_MEASUREMENT (R177). -/
def execReferenceMeasurement (h : HalfId) (i : RefId) (fofs : Int) (phase : Option Int) (inMode : Bool) (s : State) :
    Host.Outcome State Fault Refusal :=
  .next (s.refChange h fun x => if i = 6 ∨ !x.bit (Adr.TIM_REF_CFG i) 0 then x else x.measure i fofs phase inMode)

/-- REFERENCE_ACTIVITY_TIMEOUT (R179). -/
def execReferenceActivityTimeout (h : HalfId) (i : RefId) (s : State) : Host.Outcome State Fault Refusal :=
  .next (s.refChange h fun x => (x.onRef i fun r => { r with lost := true }).refEval false i)

/-- QUALIFICATION_COMPLETE (R179). -/
def execQualificationComplete (h : HalfId) (i : RefId) (s : State) : Host.Outcome State Fault Refusal :=
  .next (s.refChange h fun x => if x.refState i = 1 ∧ x.refCheck i = none then x.setRef i 2 else x.refEval false i)

/-- WTR_EXPIRY (R179). -/
def execWtrExpiry (h : HalfId) (i : RefId) (s : State) : Host.Outcome State Fault Refusal :=
  .next (s.refChange h fun x => if x.refState i = 3 ∧ x.refCheck i = none then x.setRef i 2 else x.refEval false i)

/-- SELECTOR_EVALUATION (R180). -/
def execSelectorEvaluation (h : HalfId) (s : State) : Host.Outcome State Fault Refusal :=
  .next (if (s.half h).live && (s.half h).up .timing then
      (s.on h fun x => x.each (List.range 8) (Half.refEval · false)).select h
    else s)

/-- SEL_BASE_REFRESH: `SEL_BASE` is set to `HOLD_EST` again while the selected reference agrees with another QUALIFIED
one (R183). -/
def execSelBaseRefresh (h : HalfId) (s : State) : Host.Outcome State Fault Refusal :=
  .next (s.on h fun x =>
    let cur := x.selected
    if cur ≠ 6 ∧ ((List.range 8).any fun j => j != cur && j != 6 && x.refState j == 2 && x.agree cur j) then
      x.wr Adr.TIM_SEL_BASE (x.rd Adr.TIM_HOLD_EST)
    else x)

/-- The loop filter's word after a phase sample of the selected reference, free within its clamp while the loop is closed
on a reference (R173, log entry 1). -/
def Half.loopWord (h : Half) (i : Nat) : Half :=
  let st := h.get Adr.TIM_MPLL_STATUS 0 3
  if h.selected = i ∧ (st = 1 ∨ st = 2 ∨ st = 3 ∨ st = 5) then
    let (v, h1) := h.fresh 32
    h1.wrS Adr.TIM_MPLL_FREQ (clampFreq v.toInt)
  else h

/-- One phase sample of reference i in ns (R177). -/
def Half.phaseSample (h : Half) (i : Nat) (ns : Int) : Half :=
  ((h.wrS (Adr.TIM_REF_PHASE i) ns).onRef i fun s => { s with lost := false }).loopWord i |>.refEval false i

/-- PTP_PHASE_SAMPLE: offsetFromMaster is the half's time minus the master's, so the reference's phase is its negative
(R175, R177). -/
def execPtpPhaseSample (h : HalfId) (p : PortId) (offset : Int) (s : State) : Host.Outcome State Fault Refusal :=
  .next (s.refChange h fun x =>
    if x.get (Adr.TIM_PTP_STATUS p) 0 4 = 9 ∧ x.tim.cd4 ∧ x.refState p ≠ 0 then x.phaseSample p (-offset) else x)

/-- MEDIA_LOCK_ACQUIRED (R185, R187). -/
def execMediaLockAcquired (h : HalfId) (s : State) : Host.Outcome State Fault Refusal :=
  .next (s.on h fun x =>
    match x.get Adr.TIM_MPLL_STATUS 0 3 with
    | 1 => x.setMpll (if x.refKind x.selected = 0 then 2 else 3)
    | 5 => x.putBit Adr.TIM_STATUS 0 true
    | _ => x)

/-- MEDIA_LOCK_LOST (R185, R187). -/
def execMediaLockLost (h : HalfId) (s : State) : Host.Outcome State Fault Refusal :=
  .next (s.on h fun x =>
    match x.get Adr.TIM_MPLL_STATUS 0 3 with
    | 2 => x.setMpll 1
    | 3 => x.setMpll 1
    | 5 => x.putBit Adr.TIM_STATUS 0 false
    | _ => x)

/-- BANDWIDTH_STEP: one code down toward the tracking bandwidth while locked (R184). -/
def execBandwidthStep (h : HalfId) (s : State) : Host.Outcome State Fault Refusal :=
  .next (s.on h fun x =>
    let st := x.get Adr.TIM_MPLL_STATUS 0 3
    if (st = 2 ∨ st = 3) ∧ min 6 (x.get Adr.TIM_MPLL_BW 0 3) < x.tim.bw then x.onTim fun t => { t with bw := t.bw - 1 }
    else x)

/-- ADPLL_FAULT: FAULT with its cause, a die-level fault (R187, R199, R459). -/
def execAdpllFault (h : HalfId) (carrier oscillator : Bool) (s : State) : Host.Outcome State Fault Refusal :=
  .next (s.on h fun x =>
    if x.live && x.up .timing then
      let y := x.latch Adr.TIM_FAULT (1 + 2 * ofBool carrier + ofBool oscillator)
      (if carrier then y.setCpll 7 else y.setMpll 7).giveUpFor 4
    else x).lines

/-- `MPLL_OPEN` takes effect (R187, R189, R190, R194). -/
def Half.writeMpllOpen (h : Half) (on : Bool) : Half :=
  let h1 := h.putBit Adr.TIM_MPLL_OPEN 0 on
  let st := h.get Adr.TIM_MPLL_STATUS 0 3
  if on then
    if st = 6 ∨ st = 7 then h1
    else
      ((h1.setMpll 6).wrS Adr.TIM_MPLL_FREQ (clampFreq (h.rdS Adr.TIM_SW_FREQ))).onTim fun t => { t with
        step := none, timed := h.bit Adr.TIM_STATUS 2 }
  else if st ≠ 6 then h1
  else if h1.selected = 6 then h1.freeRun
  else h1.follow h1.selected

/-- `SW_FREQ` takes effect at the next CD1 cycle (R173, R194). -/
def Half.writeSwFreq (h : Half) (v : Word) : Half :=
  let f := clampFreq (signed 32 v.toNat)
  let h1 := h.wrS Adr.TIM_SW_FREQ f
  if h.get Adr.TIM_MPLL_STATUS 0 3 = 6 then h1.wrS Adr.TIM_MPLL_FREQ f else h1

/-- A write of `SWREF_PHASE`: one phase sample of reference 7, in 2^-8 ns, kept in whole ns (R195). -/
def Half.writeSwref (h : Half) (v : Word) : Half :=
  if h.refState 7 = 0 then h else h.phaseSample 7 (signed 32 v.toNat / 256)

/-- TIMING_MARKER_RECEIVE: the phase sample of reference 4, and the carrier offset on a half that follows it (R196,
R197). -/
def execTimingMarkerReceive (h : HalfId) (offset carrier : Int) (s : State) : Host.Outcome State Fault Refusal :=
  .next (s.refChange h fun x =>
    if !x.linkUp then x
    else
      let x1 := if x.refState 4 = 0 then x else x.phaseSample 4 offset
      if x1.bit Adr.TIM_CPLL_STATUS 3 then
        (x1.putBit Adr.TIM_CARRIER_ALIGN 31 true).put Adr.TIM_CARRIER_ALIGN 0 16 (unsigned 16 (satSigned 16 carrier))
      else x1)

/-- ALIGNED_CHANGE (R197). -/
def execAlignedChange (h : HalfId) (within : Bool) (s : State) : Host.Outcome State Fault Refusal :=
  .next (s.on h fun x =>
    if x.bit Adr.TIM_CPLL_STATUS 3 && x.bit Adr.TIM_CARRIER_ALIGN 31 then x.putBit Adr.TIM_CARRIER_ALIGN 30 within else x)

/-- CARRIER_LOCK_ACQUIRED (R199). -/
def execCarrierLockAcquired (h : HalfId) (s : State) : Host.Outcome State Fault Refusal :=
  .next (s.on h fun x =>
    if x.live && x.up .timing && x.get Adr.TIM_CPLL_STATUS 0 3 != 7 then x.setCpll 2 else x)

/-- CARRIER_LOCK_LOST (R199). -/
def execCarrierLockLost (h : HalfId) (s : State) : Host.Outcome State Fault Refusal :=
  .next (s.on h fun x => if x.get Adr.TIM_CPLL_STATUS 0 3 = 2 then x.setCpll 1 else x)

/-- The state of PTP port p; each change of it or of the grandmaster sets `EVENT.PTPp` (R175). -/
def Half.setPtp (h : Half) (p st : Nat) (gm : BitVec 64) : Half :=
  if h.get (Adr.TIM_PTP_STATUS p) 0 4 = st ∧ (getAt h.tim.ptp p ⟨0, 0⟩).gm = gm then h
  else
    ((h.put (Adr.TIM_PTP_STATUS p) 0 4 st).onTim fun t => { t with ptp := modAt t.ptp p fun x => { x with gm := gm } }).event
      Adr.TIM_EVENT (8 + p)

/-- The grandmaster identity that port p follows (R155). -/
def Half.grandmaster (h : Half) (p : Nat) : BitVec 64 := (getAt h.tim.ptp p ⟨0, 0⟩).gm

/-- Port p may go to a state the protocol asks for: enabled, a supported profile, UDP transport only with an own address,
MASTER states only when master-capable (R157, R174, R202). -/
def Half.ptpAllowed (h : Half) (p next : Nat) : Bool :=
  h.bit (Adr.TIM_PTP_CFG p) 17 && decide (h.get (Adr.TIM_PTP_CFG p) 20 4 ≤ 4) && decide (4 ≤ next) &&
    !(h.ptpUdp p && (getAt h.net p NetPort.init).ownPrefix == 0) &&
    !(h.bit (Adr.TIM_PTP_CFG p) 19 && (next == 5 || next == 6 || next == 7))

/-- A write of `PTP_CFG[p]`: a change while EN is 1 restarts the port at INITIALIZING, FAULTY for a reserved profile;
EN 0 is DISABLED (R202). -/
def Half.writePtpCfg (h : Half) (p : Nat) (v : Word) : Half :=
  let a := Adr.TIM_PTP_CFG p
  let new := BitVec.ofNat 32 (v.toNat &&& 0xFFFEFFFF)
  let changed := h.rd a != new
  let h1 := h.wr a new
  let st := if !bitAt new 17 then 3 else if 4 < getBits new 20 4 then 2 else 1
  let h2 := if changed then h1.setPtp p st 0 else h1
  h2.refEval false p

/-- A PTP message that the port does not support is ignored: another domain or transport (R174). -/
def Half.ptpHears (h : Half) (p : Nat) (m : PtpMsg) : Bool :=
  m.domain.toNat == min 127 (h.get (Adr.TIM_PTP_CFG p) 24 8) && m.l2 == !h.ptpUdp p && h.up .control && h.macOn p &&
    h.portUp p

/-- PTP_MESSAGE_RECEIVE: the port state that the protocol reaches, the grandmaster and stepsRemoved of an Announce (R174,
R175, R200). -/
def execPtpMessageReceive (h : HalfId) (p : PortId) (m : PtpMsg) (next : Fin 10) (s : State) :
    Host.Outcome State Fault Refusal :=
  .next (s.refChange h fun x =>
    if x.ptpHears p m && x.ptpAllowed p next then
      let announce := (m.type : Nat) == 0xB && (next == (9 : Nat) || next == (8 : Nat))
      let gm := if announce then m.grandmaster else x.grandmaster p
      let x1 := if announce then x.put (Adr.TIM_PTP_STATUS p) 16 8 (min 255 m.steps.toNat) else x
      (x1.setPtp p next gm).refEval false p
    else x)

/-- PTP_ANNOUNCE_TIMEOUT (R174). -/
def execPtpAnnounceTimeout (h : HalfId) (p : PortId) (next : Fin 10) (s : State) : Host.Outcome State Fault Refusal :=
  .next (s.refChange h fun x =>
    if x.ptpAllowed p next then (x.setPtp p next (if next = (6 : Nat) then 0 else x.grandmaster p)).refEval false p else x)

/-- The messages a port sends in a state: a MASTER Sync, Follow_Up and Announce, and answers; a SLAVE or UNCALIBRATED port
delay requests, by its delay mechanism (R174). -/
def Half.ptpSends (h : Half) (p type : Nat) : Bool :=
  let st := h.get (Adr.TIM_PTP_STATUS p) 0 4
  let prof := h.get (Adr.TIM_PTP_CFG p) 20 4
  let p2p := prof == 1 || prof == 4
  if type = 0 ∨ type = 8 ∨ type = 0xB then st == 6
  else if type = 9 then st == 6 && !p2p
  else if type = 1 then (st == 8 || st == 9) && !p2p
  else if type = 2 ∨ type = 3 ∨ type = 0xA then p2p && decide (4 ≤ st)
  else false

/-- PTP_MESSAGE_SEND (R174). -/
def execPtpMessageSend (h : HalfId) (p : PortId) (type : Fin 16) (s : State) : Host.Outcome State Fault Refusal :=
  .next (s.on h fun x =>
    if x.live && x.up .control && x.bit (Adr.TIM_PTP_CFG p) 17 && x.ptpSends p type then
      let seq := (getAt x.tim.ptp p ⟨0, 0⟩).seq
      (x.fwSend p 3 (.ptp type seq ((type : Nat) < 4))).onTim fun t =>
        { t with ptp := modAt t.ptp p fun y => { y with seq := (seq + 1) % 2 ^ 16 } }
    else x)

/-- CD4 is lost: cause 0x0005, both PTP references fail with cause 0x1 (R175). -/
def Half.losePtpClock (h : Half) : Half :=
  let h1 := (h.latch Adr.TIM_FAULT 5).onTim fun t => { t with cd4 := false }
  let fail := fun (x : Half) (i : Nat) => if x.refState i = 0 then x else x.refFailed i 1
  fail (fail h1 0) 1

/-- CD4_RETURN: the time counter restarts from CD0; the time it restarts at is not given, and free (R175, log entry 1). -/
def execCd4Return (h : HalfId) (s : State) : Host.Outcome State Fault Refusal :=
  .next (s.refChange h fun x =>
    if x.tim.cd4 then x
    else
      let (ns, x1) := x.fresh 30
      let (lo, x2) := x1.fresh 32
      let (hi, x3) := x2.fresh 16
      let x4 := x3.onTim fun t => { t with cd4 := true }
      (((x4.wrNat (Adr.TIM_PTP_TIME 0) (ns.toNat % 1000000000)).wr (Adr.TIM_PTP_TIME 1) lo).wrNat (Adr.TIM_PTP_TIME 2)
        hi.toNat).refEval false 0 |>.refEval false 1)

/-- PPS_PULSE (R565). -/
def execPpsPulse (h : HalfId) (rise : Bool) (s : State) : Host.Outcome State Fault Refusal :=
  .next (s.on h fun x => x.onTim fun t => { t with pps := rise && x.bit Adr.TIM_STATUS 2 })

/-- Moves PTP time by ns (R171, R190). -/
def Half.addPtp (h : Half) (ns : Int) : Half :=
  let t := ((h.ptpNs 0 : Int) + ns).toNat
  ((h.wrNat (Adr.TIM_PTP_TIME 0) (t % 1000000000)).wrNat (Adr.TIM_PTP_TIME 1) (t / 1000000000)).wrNat
    (Adr.TIM_PTP_TIME 2) (t / 1000000000 / 2 ^ 32 % 2 ^ 16)

/-- Applies the step that waits, before step 1 of R21 (R190, R191). -/
def Half.applyStep (h : Half) : Half :=
  match h.tim.step with
  | none => h
  | some (d, jump) =>
    let h1 := (h.addPtp d).onTim fun t => { t with step := none }
    let len := h.blockLen
    let half3 : Int := if h.rate96 then 46875 else 93750
    if !jump && decide (3 * d.natAbs < half3) then
      let t : Int := if h.rate96 then 31250 else 62500
      let n := (6 * d + t) / (2 * t)
      if n = 0 then h1.put Adr.TIM_MPLL_STATUS 8 2 0
      else if 0 < n then ({ h1 with mediaIdx := h1.mediaIdx + 1 }.put Adr.TIM_MPLL_STATUS 8 2 1).rxAbsorb true
      else ({ h1 with mediaIdx := h1.mediaIdx - 1 }.put Adr.TIM_MPLL_STATUS 8 2 2).rxAbsorb false
    else
      let blk := divRound (h1.ptpNs 0) 125000
      let h2 := { h1 with block := blk, mediaIdx := blk * len }.rxJump h.mediaIdx (blk * len)
      let h3 := (h2.put Adr.TIM_MPLL_STATUS 8 2 3).event Adr.TIM_EVENT 7
      if jump then h3.putBit Adr.TIM_STATUS 2 true else h3

/-- The holdover estimate, once per second: the mean of the frequency word over `HOLD_AVG` seconds of lock that ended 10 s
before (R192). -/
def Half.holdTick (h : Half) : Half :=
  let st := h.get Adr.TIM_MPLL_STATUS 0 3
  if st ≠ 2 ∧ st ≠ 3 then h
  else
    let n := max 1 (h.get Adr.TIM_HOLD_AVG 0 14)
    let hist := (h.rdS Adr.TIM_MPLL_FREQ :: h.tim.freqHist).take 16394
    let h1 := h.onTim fun t => { t with freqHist := hist }
    let win := (hist.drop 10).take n
    if win.length < n then h1
    else (h1.wrS Adr.TIM_HOLD_EST (win.sum / n)).putBit Adr.TIM_STATUS 3 true

/-- One block of media time: the block number, the media index, PTP time (R21, R171). -/
def Half.advanceTime (h : Half) : Half :=
  let h1 := { h with block := h.block + 1, age := h.age + 1, mediaIdx := h.mediaIdx + h.blockLen }
  let h2 := if h.tim.cd4 then h1.addPtp 125000 else h1
  if h2.age % 8000 = 0 then h2.holdTick else h2

/-- The Timing region's start: reference 6 QUALIFIED, the carrier ADPLL acquires, enabled references qualify (R203,
R540). -/
def Half.timStart (h : Half) : Half := ((h.each (List.range 8) (Half.refEval · false)).setCpll 1)

end Sys2Proof.Machine
end

