-- ==== Sys2Proof/Machine/FlowFirmware.lean ====
section
/-! DEFINITION. What the management firmware does for the flows: allocation and network settings on Q0 (R156, R157),
memberships (R158), SAP (R154, R155), ARP (R157, R465). -/

namespace Sys2Proof.Machine

open Sys2Proof

/-- The opcode of a Q0 item is one that R156 or R157 defines. -/
def knownOp (x : BitVec 64) : Bool :=
  let op := x.toNat / 2 ^ 48 % 256
  op == 0x11 || op == 0x12 || op == 0x21 || op == 0x22

/-- The firmware takes the next Q0 item when its opcode is op, discarding items before it that it does not know
(log entry 22); the data bits of the item. -/
def Half.takeCommand (h : Half) (op : Nat) : Option (Nat × Half) :=
  let q := h.queue 0
  let skip := (q.items.takeWhile fun x => !knownOp x).length
  match q.items.drop skip with
  | x :: _ =>
    if h.live && h.up .control && h.up .memory && h.queueOn 0 && decide (x.toNat / 2 ^ 48 % 256 = op) then
      some (x.toNat % 2 ^ 56, (List.range (skip + 1)).foldl (fun y _ => (y.takeItem 0 .ok).2) h)
    else none
  | [] => none

/-- The firmware's answer on Q1: opcode, tag, result, low bits (R156). -/
def Half.answer (h : Half) (op tag result low : Nat) : Half :=
  h.hwPush 1 1 [2 ^ 48 * op + 2 ^ 40 * tag + 2 ^ 32 * result + low]

/-- The open slots of a direction. -/
def FlowFw.slots (f : FlowFw) (tx : Bool) : List Nat := if tx then f.openTx else f.openRx

/-- Opens or closes slots of a direction. -/
def FlowFw.setSlots (f : FlowFw) (tx : Bool) (l : List Nat) : FlowFw :=
  if tx then { f with openTx := l } else { f with openRx := l }

/-- The lowest free slot in the cluster with the fewest open slots among those not excluded; a full cluster is passed
over, the lowest cluster taken on a tie (R156). -/
def pickSlot (used : List Nat) (except : Option Nat) : Option Nat :=
  let count := fun c => (used.filter fun n => n / 128 == c).length
  let cs := (List.range 8).filter fun c => except != some c && decide (count c < 128)
  match cs with
  | [] => none
  | c0 :: rest =>
    let c := rest.foldl (fun best x => if count x < count best then x else best) c0
    ((List.range 128).map (128 * c + ·)).find? fun n => !used.contains n

/-- FLOW_OPEN (R156). -/
def Half.openFlow (h : Half) (d : Nat) : Half :=
  let tag := d / 2 ^ 40 % 256
  let tx := d.testBit 39
  let used := h.flow.slots tx
  match pickSlot used none with
  | none => h.answer 0x21 tag 1 0
  | some a =>
    if d.testBit 38 then
      match pickSlot (a :: used) (some (a / 128)) with
      | none => h.answer 0x21 tag 1 0
      | some b => { h with flow := h.flow.setSlots tx (b :: a :: used) }.answer 0x21 tag 0 (2 ^ 16 * b + a)
    else { h with flow := h.flow.setSlots tx (a :: used) }.answer 0x21 tag 0 a

/-- FLOW_OPEN. -/
def execFlowOpen (h : HalfId) (s : State) : Host.Outcome State Fault Refusal :=
  .next (s.on h fun x => match x.takeCommand 0x21 with | some (d, y) => y.openFlow d | none => x)

/-- CTRL and TIMING of a slot of a direction. -/
def slotCtrl (tx : Bool) (n : Nat) : Nat := if tx then Adr.FTX_CTRL n else Adr.FRX_CTRL n
def slotTiming (tx : Bool) (n : Nat) : Nat := if tx then Adr.FTX_TIMING n else Adr.FRX_TIMING n

/-- Stages EN = 0 in a slot; it becomes free after the commit that applies it (R156). -/
def Half.closeSlot (h : Half) (tx : Bool) (n : Nat) : Half :=
  let a := slotCtrl tx n
  let h1 := h.stage a (setBits (h.staged a) 0 1 0)
  { h1 with flow := { h1.flow with closing := (tx, n) :: h1.flow.closing } }

/-- FLOW_CLOSE (R156): the slot, and the secondary that names it when it is a primary. -/
def Half.closeFlow (h : Half) (d : Nat) : Half :=
  let tag := d / 2 ^ 40 % 256
  let tx := d.testBit 39
  let n := d % 1024
  let used := h.flow.slots tx
  if !used.contains n then h.answer 0x22 tag 2 n
  else
    let partners := used.filter fun m => m != n && h.stagedField (slotTiming tx m) 31 1 == 1
      && h.stagedField (slotTiming tx m) 16 10 == n && h.stagedField (slotTiming tx n) 31 1 == 0
    let h1 := (n :: partners).foldl (fun (x : Half) m => x.closeSlot tx m) h
    h1.answer 0x22 tag 0 (2 ^ 16 * partners.headD 0 + n)

/-- FLOW_CLOSE; it waits while a submission holds the staging (log entry 22). -/
def execFlowClose (h : HalfId) (s : State) : Host.Outcome State Fault Refusal :=
  .next (s.on h fun x =>
    if x.get Adr.GRF_STATUS 0 3 ≠ 0 then x
    else match x.takeCommand 0x22 with | some (d, y) => y.closeFlow d | none => x)

/-- Slots being closed whose EN the committed plan holds at 0 become free (R156). -/
def Half.freeSlots (h : Half) : Half :=
  let gone := h.flow.closing.filter fun p => !h.bit (slotCtrl p.1 p.2) 0
  { h with flow := { h.flow with
      closing := h.flow.closing.filter fun p => !gone.contains p
      openRx := h.flow.openRx.filter fun n => !gone.contains (false, n)
      openTx := h.flow.openTx.filter fun n => !gone.contains (true, n) } }

/-- The network settings of port p. -/
def Half.netOf (h : Half) (p : Nat) : NetPort := getAt h.net p NetPort.init

/-- Changes the network settings of port p. -/
def Half.onNet (h : Half) (p : Nat) (f : NetPort → NetPort) : Half := { h with net := modAt h.net p f }

/-- The half accepts settings that are M fields: ACTIVE, OFFLINE or ISOLATED (R72, R157). -/
def Half.acceptsM (h : Half) : Bool :=
  match h.role with
  | .active | .offline | .isolated => true
  | _ => false

/-- An address that NET_ADDR refuses: 0, multicast, broadcast on its prefix, 255.255.255.255; a prefix outside 1 to 30
(R157). -/
def badAddr (ip prefix_ : Nat) : Bool :=
  decide (prefix_ < 1 ∨ 30 < prefix_) || ip == 0 || ip / 2 ^ 28 == 0xE || ip == 0xFFFFFFFF ||
    ip % 2 ^ (32 - prefix_) == 2 ^ (32 - prefix_) - 1

/-- NET_ADDR (R157). -/
def Half.setNetAddr (h : Half) (d : Nat) : Half :=
  let tag := d / 2 ^ 40 % 256
  let p := d / 2 ^ 39 % 2
  let svc := d.testBit 38
  let pre := d / 2 ^ 32 % 64
  let ip := d % 2 ^ 32
  if badAddr ip pre then h.answer 0x11 tag 3 0
  else if svc && !h.acceptsM then h.answer 0x11 tag 4 0
  else
    (h.onNet p fun x =>
      if svc then { x with svcIp := BitVec.ofNat 32 ip, svcPrefix := pre }
      else { x with ownIp := BitVec.ofNat 32 ip, ownPrefix := pre }).answer 0x11 tag 0 0

/-- NET_ADDR. -/
def execNetAddr (h : HalfId) (s : State) : Host.Outcome State Fault Refusal :=
  .next (s.on h fun x => match x.takeCommand 0x11 with | some (d, y) => y.setNetAddr d | none => x)

/-- PTP_ATTR (R157). -/
def Half.setPtpAttr (h : Half) (d : Nat) : Half :=
  let tag := d / 2 ^ 40 % 256
  if !h.acceptsM then h.answer 0x12 tag 4 0
  else
    (h.onNet (d / 2 ^ 39 % 2) fun x => { x with
      priority1 := d / 2 ^ 24 % 256, priority2 := d / 2 ^ 16 % 256, clockClass := d / 2 ^ 8 % 256
      clockAccuracy := d % 256 }).answer 0x12 tag 0 0

/-- PTP_ATTR. -/
def execPtpAttr (h : HalfId) (s : State) : Host.Outcome State Fault Refusal :=
  .next (s.on h fun x => match x.takeCommand 0x12 with | some (d, y) => y.setPtpAttr d | none => x)

/-- An IPv4 address is multicast. -/
def isMulticast (ip : Nat) : Bool := ip / 2 ^ 28 == 0xE

/-- The memberships that the committed plan and the alarm groups need: port, group, source; without source filter on a
port whose querier runs IGMPv2 (R158, R267). -/
def Half.neededGroups (h : Half) : List (Nat × Nat × Nat) :=
  let flows := (h.rxSlots.filter fun n => h.bit (Adr.FRX_CTRL n) 0).map fun n =>
    let p := h.get (Adr.FRX_TIMING n) 12 1
    (p, (h.rd (Adr.FRX_DST_IP n)).toNat, if h.flow.igmpV2.contains p then 0 else (h.rd (Adr.FRX_SRC_IP n)).toNat)
  let alarms := ([0, 1].map fun p => [0, 1].map fun i => (p, (h.rd (Adr.ALM_DST_IP i)).toNat, 0)).flatten
  ((flows ++ alarms).filter fun g => isMulticast g.2.1).dedup

/-- The IGMP version on port p (R158). -/
def Half.igmpVersion (h : Half) (p : Nat) : Nat := if h.flow.igmpV2.contains p then 2 else 3

/-- Brings the memberships into line: joins reported, groups left that no slot needs (R158). -/
def Half.updateGroups (h : Half) : Half :=
  let need := h.neededGroups
  let h1 := (need.filter fun g => !h.flow.joined.contains g).foldl (fun (x : Half) g =>
    x.fwSend g.1 2 (.igmpReport (x.igmpVersion g.1) (x.netOf g.1).ownIp.toNat [g.2])) h
  let h2 := (h.flow.joined.filter fun g => !need.contains g).foldl (fun (x : Half) g =>
    x.fwSend g.1 2 (.igmpLeave (x.igmpVersion g.1) (x.netOf g.1).ownIp.toNat g.2)) h1
  { h2 with flow := { h2.flow with joined := need } }

/-- The firmware of a half runs. -/
def Half.fwRuns (h : Half) : Bool := h.live && h.up .control

/-- MEMBERSHIP_UPDATE (R158). -/
def execMembershipUpdate (h : HalfId) (s : State) : Host.Outcome State Fault Refusal :=
  .next (s.on h fun x => if x.fwRuns then x.updateGroups else x)

/-- IGMP_QUERY: answered from the half's own address; the querier's version is noted (R158). -/
def execIgmpQuery (h : HalfId) (p : PortId) (v2 : Bool) (s : State) : Host.Outcome State Fault Refusal :=
  .next (s.on h fun x =>
    if x.fwRuns && x.macOn p && x.portUp p then
      let others := x.flow.igmpV2.filter (· != (p : Nat))
      let x1 := { x with flow := { x.flow with igmpV2 := if v2 then (p : Nat) :: others else others } }
      let gs := (x1.flow.joined.filter fun g => g.1 == (p : Nat)).map fun g => g.2
      if gs.isEmpty then x1
      else x1.fwSend p 2 (.igmpReport (x1.igmpVersion p) (x1.netOf p).ownIp.toNat gs)
    else x)

/-- ARP_REQUEST: answered for the half's own address, and on the ACTIVE half for the service address (R157). -/
def execArpRequest (h : HalfId) (p : PortId) (target sender : BitVec 32) (mac : BitVec 48) (s : State) :
    Host.Outcome State Fault Refusal :=
  .next (s.on h fun x =>
    let n := x.netOf p
    let mine := target != 0 && (target == n.ownIp || (target == n.svcIp && x.role == .active))
    if x.fwRuns && x.macOn p && x.portUp p && mine then
      x.fwSend p 2 (.arpReply target.toNat sender.toNat (beBytes 6 mac.toNat))
    else x)

/-- GRATUITOUS_ARP: one for the service address of each port whose link is up and whose service address is set, from the
ACTIVE half that owes it (R157, R465). -/
def execGratuitousArp (h : HalfId) (s : State) : Host.Outcome State Fault Refusal :=
  .next (s.on h fun x =>
    if x.fwRuns && x.role == .active && x.rdn.arpDue then
      let x0 := { x with rdn := { x.rdn with
        arpDue := false, arpAgain := if x.rdn.arpAgain = none then some (x.age + 800) else none } }
      (x0.each [0, 1] fun y p =>
        if y.portUp p && (y.netOf p).svcIp != 0 then y.fwSend p 2 (.gratuitousArp (y.netOf p).svcIp.toNat) else y)
    else x)

/-- The device can receive a flow (R130, R131). -/
def sapReceivable (i : SapInfo) : Bool :=
  let bytes := ((i.channels : Nat) + 1) * encBytes i.enc * packetSamples i.rate96 i.ptime
  decide ((i.enc : Nat) < 3 ∧ (i.ptime : Nat) ≤ 4 ∧ bytes ≤ 1440)

/-- The four items of a discovery record (R154). -/
def sapRecord (i : SapInfo) (kind : Nat) : List Nat :=
  [2 ^ 48 * kind + 2 ^ 32 * i.version.toNat + i.src.toNat,
   2 ^ 32 * i.port.toNat + i.dst.toNat,
   2 ^ 50 * i.channels + 2 ^ 48 * i.enc + 2 ^ 45 * i.ptime + 2 ^ 44 * ofBool i.rate96 + i.offset.toNat,
   i.session.toNat]

/-- Reports a flow to Q12 and raises event source 10 (R154, R510). -/
def Half.discover (h : Half) (i : SapInfo) (kind : Nat) : Half :=
  (h.hwPush 12 1 (sapRecord i kind)).event Adr.EVT_SYS_EVENT 0

/-- One announcement names the flow that another did: talker and origin session. -/
def sapSame (a b : SapInfo) : Bool := a.src == b.src && a.session == b.session

/-- What the firmware does with an announcement: new, changed, refreshed or deleted (R154). -/
def Half.hearSap (h : Half) (i : SapInfo) (delete : Bool) : Half :=
  let others := h.flow.sap.filter fun e => !sapSame e.info i
  let put := fun (x : Half) (l : List SapEntry) => { x with flow := { x.flow with sap := l } }
  match h.flow.sap.find? fun e => sapSame e.info i with
  | none => if delete || !sapReceivable i then h else (put h (others ++ [⟨i⟩])).discover i 1
  | some e =>
    if delete then (put h others).discover e.info 3
    else if e.info.version = i.version then h
    else if sapReceivable i then (put h (others ++ [⟨i⟩])).discover i 2
    else (put h others).discover e.info 3

/-- SAP_ANNOUNCEMENT (R154). -/
def execSapAnnouncement (h : HalfId) (info : SapInfo) (delete : Bool) (s : State) : Host.Outcome State Fault Refusal :=
  .next (s.on h fun x => if x.fwRuns then x.hearSap info delete else x)

/-- SAP_EXPIRY (R154). -/
def execSapExpiry (h : HalfId) (src : BitVec 32) (session : BitVec 48) (s : State) : Host.Outcome State Fault Refusal :=
  .next (s.on h fun x =>
    match x.flow.sap.find? fun e => e.info.src == src && e.info.session == session with
    | some e => if x.fwRuns then x.hearSap e.info true else x
    | none => x)

/-- A SAP announcement, or its deletion, of a transmit slot from the service address of its port (R155, R157). -/
def Half.saySap (h : Half) (delete : Bool) (n : Nat) : Half :=
  let p := h.get (Adr.FTX_TIMING n) 12 1
  if (h.netOf p).svcIp = 0 then h
  else
    h.fwSend p 2 (.sap n (h.netOf p).svcIp.toNat delete (h.rd (Adr.FTX_FORMAT n)) (h.rd (Adr.FTX_RTP_OFFSET n))
      (h.grandmaster p))

/-- A SAP deletion for each slot announced that has become DISABLED (R155). -/
def Half.sapDelete (h : Half) : Half :=
  if h.fwRuns && h.role == .active then
    let gone := h.flow.announced.filter fun n => h.get (Adr.FTX_STATUS n) 0 3 == 0
    let h1 := gone.foldl (fun (x : Half) n => x.saySap true n) h
    { h1 with flow := { h1.flow with announced := h1.flow.announced.filter fun n => !gone.contains n } }
  else h

/-- SAP_ANNOUNCE_TIMER: the ACTIVE half announces each RUNNING transmit slot from the service address of its port (R155,
R157). -/
def execSapAnnounceTimer (h : HalfId) (s : State) : Host.Outcome State Fault Refusal :=
  .next (s.on h fun x =>
    if x.fwRuns && x.role == .active then
      let y := x.sapDelete
      let running := y.txSlots.dedup.filter fun n => y.get (Adr.FTX_STATUS n) 0 3 == 1
      let x1 := running.foldl (fun (z : Half) n => z.saySap false n) y
      { x1 with flow := { x1.flow with announced := running } }
    else x)

end Sys2Proof.Machine
end

