-- ==== Sys2Proof/Machine/Class.lean ====
section
/-! DEFINITION. The bookkeeping of Gust's test classes (R485, R506): which class runs, what a completed or failed test of a
unit leaves. -/

namespace Sys2Proof.Machine

open Sys2Proof

/-- Changes Gust's working state. -/
def Half.onGust (h : Half) (f : GustSt → GustSt) : Half := { h with gust := f h.gust }

/-- Class i runs: enabled (R506), not suspended by a forcing of the data plane (R504). -/
def Half.gustRuns (h : Half) (i : Nat) : Bool :=
  h.live && h.up .control && h.bit Adr.GST_CTRL 0 && (i != 1 || h.bit Adr.GST_CTRL 1) && (i != 5 || h.bit Adr.GST_CTRL 2)
    && !(h.sent.forceData && [0, 1, 2, 3, 6, 7].contains i)

/-- Class i has units on this half: class 7 runs on a STANDBY half only (R485). -/
def Half.gustHas (h : Half) (i : Nat) : Bool := i != 7 || h.role == .standby

/-- Engines in service, or SPARE ones alone (R485, R250). -/
def Half.gustEngines (h : Half) (spareOnly : Bool) : List Nat :=
  (List.range 8).filter fun e =>
    let st := h.get (Adr.ENG_STATUS e) 0 3
    if spareOnly then st == 1 else decide (1 ≤ st ∧ st ≤ 3)

/-- Every unit of class i has completed (R485). -/
def Half.gustComplete (h : Half) (i : Nat) (done : List Nat) : Bool :=
  match i with
  | 0 => (h.gustEngines false).all done.contains
  | 1 => (h.gustEngines (h.role == .active)).all done.contains
  | 2 => decide (2048 ≤ done.length)
  | 3 => decide (0x10100 ≤ done.length + h.boot.retired.cells.length)
  | 8 => (List.range 12).all done.contains
  | _ => !done.isEmpty

/-- Whether class i is OVERDUE. -/
def Half.overdue (h : Half) (i : Nat) : Bool := h.bit (Adr.GST_CLASS i) 30

/-- Every class that the half has completed within its period: `EVENT.PASS` and `LAST_PASS` (R497, R506). -/
def Half.gustPass (h : Half) : Half :=
  if (List.range 9).all fun i => !h.gustHas i || ((getAt h.gust.classes i GustClass.init).passed && !h.overdue i) then
    ((h.wr64 (Adr.GST_LAST_PASS 0) (h.ptpSec % 2 ^ 48)).event Adr.GST_EVENT 3).onGust fun g => { g with
      classes := g.classes.map fun c => { c with passed := false } }
  else h

/-- A failed test of class i: `FAIL`, `FAIL_CNT`, `EVENT.FAIL`, a `GST.FAULT` cause (R485, R506). -/
def Half.gustFail (h : Half) (i cause : Nat) : Half :=
  ((((h.putBit (Adr.GST_CLASS i) 31 true).count Adr.GST_FAIL_CNT 0 16 1).life .gustFails 1).event Adr.GST_EVENT 0).latch
    Adr.GST_FAULT cause

/-- A unit of class i has completed its test: passed, or failed with a cause (R485). Where that completes the class, its
AGE starts again and OVERDUE ends. -/
def Half.gustDone (h : Half) (i unit : Nat) (fault : Option Nat) : Half :=
  let h1 := match fault with
    | some cause => h.gustFail i cause
    | none => h.putBit (Adr.GST_CLASS i) 31 false
  let done := unit :: (getAt h1.gust.classes i GustClass.init).done.filter (· != unit)
  let h2 := h1.onGust fun g => { g with
    classes := modAt g.classes i fun c => { c with done := done }
    tested := if i < 2 then insertAt (8 * i + unit) h.age g.tested else g.tested }
  let clear := fun (x : Half) => if i = 0 then { x with rdn := { x.rdn with compareHold := false } } else x
  if h2.gustComplete i done then
    (((clear h2).onGust fun g => { g with classes := modAt g.classes i fun _ => ⟨[], true⟩ }).put (Adr.GST_CLASS i) 0 31 0).gustPass
  else h2

/-- The age of each class grows by 1 s (R506). -/
def Half.gustSecond (h : Half) : Half := h.each (List.range 9) fun x i => x.count (Adr.GST_CLASS i) 0 16 1

/-- Classes 0 and 1 both complete for engine e within their 60 s (R497). -/
def Half.engTested (h : Half) : Nat :=
  maskOf 8 fun e => [e, 8 + e].all fun k =>
    match h.gust.tested.find? fun t => t.1 == k with
    | some (_, at_) => decide (h.age ≤ at_ + 480000)
    | none => false

/-- The `STATUS` of Gust as read (R506). -/
def Half.gstStatus (h : Half) : Nat :=
  8 * ofBool ((List.range 8).any fun e => h.get (Adr.ENG_STATUS e) 0 3 == 3) + 4 * ofBool (h.get Adr.PLC_CTRL 0 2 == 0)
    + 2 * ofBool ((List.range 9).any h.overdue) + ofBool (h.gustRuns 0 || h.gustRuns 4)

/-- GUST_CLASS_OVERDUE (R485). -/
def execGustClassOverdue (h : HalfId) (cls : Fin 9) (s : State) : Host.Outcome State Fault Refusal :=
  .next (s.on h fun x =>
    if x.live && x.up .control && x.gustHas cls then (x.putBit (Adr.GST_CLASS cls) 30 true).event Adr.GST_EVENT 1 else x)

end Sys2Proof.Machine
end

