-- ==== Sys2Proof/Machine/Placement.lean ====
section
/-! DEFINITION. Admission and placement of a plan (R129, R151, R160, R240 to R249), and the engines (R233 to R239, R250 to
R256, R260). -/

namespace Sys2Proof.Machine

open Sys2Proof

/-- A receive configuration as staged (R159). -/
def Half.rxStaged (h : Half) (n : Nat) : RxCfg :=
  { ctrl := h.staged (Adr.FRX_CTRL n), dst := h.staged (Adr.FRX_DST_IP n), src := h.staged (Adr.FRX_SRC_IP n)
    format := h.staged (Adr.FRX_FORMAT n), timing := h.staged (Adr.FRX_TIMING n)
    offset := h.staged (Adr.FRX_RTP_OFFSET n)
    map := (List.range 64).map fun i => h.staged (Adr.RX_MAP (64 * n + i)) }

/-- A transmit configuration as staged (R159). -/
def Half.txStaged (h : Half) (n : Nat) : TxCfg :=
  { ctrl := h.staged (Adr.FTX_CTRL n), format := h.staged (Adr.FTX_FORMAT n), timing := h.staged (Adr.FTX_TIMING n)
    offset := h.staged (Adr.FTX_RTP_OFFSET n)
    map := (List.range 64).map fun i => h.staged (Adr.TX_MAP (64 * n + i))
    tmpl := (List.range 16).map fun i => h.staged (Adr.TX_TMPL (16 * n + i)) }

/-- Insertion sort. -/
def insertNat (x : Nat) : List Nat → List Nat
  | [] => [x]
  | y :: ys => if x ≤ y then x :: y :: ys else y :: insertNat x ys

/-- A list of numbers in rising order, without repeats. -/
def sortNat (l : List Nat) : List Nat := l.dedup.foldr insertNat []

/-- The slots of a direction that the staged plan enables, in rising order. -/
def Half.stagedSlots (h : Half) (tx : Bool) : List Nat :=
  let base := if tx then 0x50000 else 0x40000
  let pages := (h.regs ++ h.held).filterMap fun p =>
    if base ≤ p.1 ∧ p.1 < base + 0x10000 ∧ p.1 % 0x40 = 4 then some ((p.1 - base) / 0x40) else none
  (sortNat pages).filter fun n => h.stagedField (if tx then Adr.FTX_CTRL n else Adr.FRX_CTRL n) 0 1 == 1

/-- The pool channels that a slot's valid map entries name (R128, R169). -/
def mapEntries (channels : Nat) (map : List Word) : List Nat :=
  ((map.take channels).filter fun e => bitAt e 31).map fun e => getBits e 0 11

/-- FLOW_FORMAT (R160, R244). -/
def badFormat (rate96 : Bool) (format : Word) : Bool :=
  getBits format 12 2 == 3 || decide (4 < getBits format 8 3) || decide (1440 < payloadBytes rate96 format)

/-- FLOW_PAIR of a secondary and its primary: enabled, not itself paired, another port, one format, one secondary (R140,
R149, R160). -/
def badPair (slots : List Nat) (timing format : Nat → Word) (n : Nat) : Bool :=
  let t := timing n
  let p := getBits t 16 10
  bitAt t 31 && (!slots.contains p || bitAt (timing p) 31 || getBits (timing p) 12 1 == getBits t 12 1 ||
    getBits (format p) 0 14 != getBits (format n) 0 14 ||
    slots.any fun m => decide (m < n) && bitAt (timing m) 31 && getBits (timing m) 16 10 == p)

/-- Running check over slots: the first slot with which an accumulated quantity exceeds its limit. -/
def firstOver (limit : Nat) (cost : Nat → Nat) : Nat → List Nat → Option Nat
  | _, [] => none
  | acc, n :: rest => if limit < acc + cost n then some n else firstOver limit cost (acc + cost n) rest

/-- RX_POOL (R129): the first slot that exceeds the pool or names a channel that an earlier one names. -/
def rxPoolOver (pool : Nat) (entries : Nat → List Nat) : List Nat → List Nat → Option Nat
  | _, [] => none
  | used, n :: rest =>
    let es := entries n
    if pool < used.length + es.length ∨ es.any (fun c => used.contains c || decide (pool ≤ c)) ∨ !(es.Nodup) then some n
    else rxPoolOver pool entries (used ++ es) rest

/-- Tenths of ns a bit of port p takes for R151: as negotiated while the link is up, else the fastest rate of its mode. -/
def Half.planBitTenths (h : Half) (p : Nat) : Nat :=
  if h.portUp p then h.bitTenths p
  else match h.get (Adr.MAC_CTRL p) 1 3 with | 1 => 1 | 2 => 4 | _ => 10

/-- Wire bits of a transmit slot in 12 ms (R151). -/
def TxCfg.wireBits (rate96 : Bool) (c : TxCfg) : Nat :=
  8 * c.wireBytes rate96 * getAt [96, 48, 36, 12, 3] (getBits c.format 8 3) 0

/-- The flow checks of R160 on the staged slots, in the order of R244. -/
def Half.flowCheck (h : Half) (rate96 : Bool) : Option Reject :=
  let rx := h.stagedSlots false
  let tx := h.stagedSlots true
  let r := h.rxStaged
  let t := h.txStaged
  let pool := if rate96 then 1024 else 2048
  let (lo, hi) := if rate96 then (24, 1920) else (12, 960)
  let prim := rx.filter fun n => !(r n).paired
  let key := fun n => ((r n).port, (r n).dst, (r n).src, getBits (r n).format 16 16)
  let sec := fun (n : Nat) => bitAt (t n).timing 31
  let load := fun p => firstOver (48000000 / h.planBitTenths p) (fun n => (t n).wireBits rate96) 0
    (tx.filter fun n => getBits (t n).timing 12 1 == p)
  (firstBad 0x40 4 rx (fun n => badFormat rate96 (r n).format) (fun n => n)).or <|
  (firstBad 0x40 5 tx (fun n => badFormat rate96 (t n).format) (fun n => n)).or <|
  (firstBad 0x41 4 prim (fun n => !inRange lo hi (r n).link) (fun n => n)).or <|
  (firstBad 0x42 4 rx (fun n => rx.any fun m => decide (m < n) && key m == key n) (fun n => n)).or <|
  (firstBad 0x43 4 rx (badPair rx (fun n => (r n).timing) (fun n => (r n).format)) (fun n => n)).or <|
  (firstBad 0x43 5 tx (badPair tx (fun n => (t n).timing) (fun n => (t n).format)) (fun n => n)).or <|
  ((rxPoolOver pool (fun n => mapEntries (r n).channels (r n).map) [] prim).map fun n => ⟨0x44, 4, n⟩).or <|
  ((firstOver pool (fun n => (mapEntries (getBits (t n).format 0 6 + 1) (t n).map).length) 0
    (tx.filter fun n => !sec n)).map fun n => ⟨0x45, 5, n⟩).or <|
  (((load 0).or (load 1)).map fun n => ⟨0x46, 5, n⟩)

/-- Per-sample cost of a node with k of its channels (R240). -/
def Plan.cost (p : Plan) (n : Node) (k : Nat) : Nat :=
  match n.type with
  | 0x0 =>
    match n.kind with
    | 2 => 2 * k
    | 3 => 8
    | 4 => 32 * k
    | _ => k
  | 0x1 => 2 * k
  | 0x2 => (p.connected n + 1) * k
  | 0x3 => (n.portWidth 0 + 1) * k
  | 0x4 => 5 * (getBits (n.w 1) 0 4 + 1) * k
  | 0x5 => (getBits (n.w 1) 0 10 + 1) * k
  | 0x6 => 3 * k
  | 0x7 => 12 * k + 4
  | 0x8 => 10 * k
  | 0x9 => 8 * k + 4 * n.portWidth 1
  | 0xA => 6 * k + 16
  | 0xB => (18 + 2 * ((List.range 16).filter fun l => n.mode l == 2).length) * k
  | 0xC => 24
  | 0xD => 3 * k
  | _ => if n.kind = 2 then 2 * k else k

/-- Samples per block (R240). -/
def Plan.samples (p : Plan) : Nat := if p.rate96 then 12 else 6

/-- Channels of an edge that land in a part of its destination; a port that is not W wide is needed whole by every part
(R243). -/
def Node.edgeChannels (n : Node) (e : Edge) (first count : Nat) : Nat :=
  if n.portWidth e.port ≠ n.width then e.count
  else min (first + count) (e.dstCh + e.count) - max first e.dstCh

/-- The block cost of a part of a node: S × c + 40, and S for each edge channel into it (R240, R243). -/
def Plan.partCost (p : Plan) (n : Node) (first count : Nat) : Nat :=
  p.samples * p.cost n count + 40
    + p.samples * ((p.edges.filter fun e => e.dst == n.idx).map fun e => n.edgeChannels e first count).sum

/-- The limit of R242: 95 % of the floor. -/
def engineRoom : Nat := 237500

/-- The fixed share of R240. -/
def Plan.fixedShare (p : Plan) : Nat := (64 * 2 + 31 * 8) * p.samples

/-- The load that parts put on engine e. -/
def loadOf (ps : List Part) (e : Nat) : Nat := ((ps.filter fun x => x.engine == e).map fun x => x.cost).sum

/-- The least loaded engine, the lowest on a tie. -/
def leastLoaded (ps : List Part) : List Nat → Option Nat
  | [] => none
  | e :: es => some (es.foldl (fun b x => if loadOf ps x < loadOf ps b then x else b) e)

/-- The most channels from first on, at most count, that fit in a room. -/
def Plan.fits (p : Plan) (n : Node) (first room : Nat) : Nat → Nat
  | 0 => 0
  | k + 1 => if p.partCost n first (k + 1) ≤ room then k + 1 else p.fits n first room k

/-- Splits the channels of a node from first on over engines in order of least load (R243); none when they do not fit. -/
def Plan.splitNode (p : Plan) (n : Node) : Nat → Nat → List Nat → List Part → Option (List Part)
  | 0, _, _, _ => none
  | fuel + 1, first, es, ps =>
    if n.width ≤ first then some ps
    else
      match leastLoaded ps es with
      | none => none
      | some e =>
        let k := p.fits n first (engineRoom - loadOf ps e) (n.width - first)
        let ps1 := if k = 0 then ps else ps ++ [⟨n.idx, first, k, e, p.partCost n first k⟩]
        p.splitNode n fuel (first + k) (es.filter (· != e)) ps1

/-- Places one node on the eligible engines (R243). -/
def Plan.placeNode (p : Plan) (es : List Nat) (ps : List Part) (n : Node) : Option (List Part) :=
  let c := p.partCost n 0 n.width
  match leastLoaded ps es with
  | none => none
  | some e =>
    if loadOf ps e + c ≤ engineRoom then some (ps ++ [⟨n.idx, 0, n.width, e, c⟩])
    else if n.width = 1 then none
    else p.splitNode n 65 0 es ps

/-- The nodes in placement order: life-safety paths first, then the others, each in rising index (R243). -/
def Plan.placeOrder (p : Plan) : List Node :=
  let ls := p.lsNodes
  (p.nodes.filter fun n => ls.contains n.idx) ++ (p.nodes.filter fun n => !ls.contains n.idx)

/-- The sum of the costs of parts. -/
def totalCost (ps : List Part) : Nat := (ps.map fun x => x.cost).sum

/-- Places nodes in order within a total; the node that breaks the total or that no engine can hold (R242, R243). -/
def Plan.placeAll (p : Plan) (es : List Nat) (total : Nat) : List Node → List Part → Except Nat (List Part)
  | [], ps => .ok ps
  | n :: rest, ps =>
    match p.placeNode es ps n with
    | none => .error n.idx
    | some ps1 => if total < p.fixedShare + totalCost ps1 then .error n.idx else p.placeAll es total rest ps1

/-- Places nodes in order, skipping those that do not fit (R253). -/
def Plan.placeSome (p : Plan) (es : List Nat) (total : Nat) : List Node → List Part → List Nat → List Part × List Nat
  | [], ps, out => (ps, out)
  | n :: rest, ps, out =>
    match p.placeNode es ps n with
    | none => p.placeSome es total rest ps (out ++ [n.idx])
    | some ps1 =>
      if total < p.fixedShare + totalCost ps1 then p.placeSome es total rest ps (out ++ [n.idx])
      else p.placeSome es total rest ps1 out

/-- The cost with which a node counts on a chain: that of its largest part (R241). -/
def chainCost (ps : List Part) (i : Nat) : Nat := ((ps.filter fun x => x.node == i).map fun x => x.cost).foldl max 0

/-- The longest chain that ends at each node, over nodes in order (R241). -/
def chains (ps : List Part) (before : Nat → List Nat) (order : List Nat) : List (Nat × Nat) :=
  order.foldl (fun acc i =>
    let best := ((before i).map fun j => ((acc.find? fun x => x.1 == j).map fun x => x.2 + 100).getD 0).foldl max 0
    acc ++ [(i, best + chainCost ps i)]) []

/-- The critical path, and the first node in an order that lies on a chain beyond the limit (R241, R244). -/
def Plan.critical (p : Plan) (ps : List Part) : Nat × Option Nat :=
  let ord := p.order
  let a := chains ps p.up ord
  let b := chains ps p.down ord.reverse
  let at_ := fun (l : List (Nat × Nat)) i => ((l.find? fun x => x.1 == i).map fun x => x.2).getD 0
  ((a.map fun x => x.2).foldl max 0,
    (p.placeOrder.find? fun n => decide (engineRoom < at_ a n.idx + at_ b n.idx - chainCost ps n.idx)).map (·.idx))

/-- Bytes of the state of a node, which is open, and of its port buffers of one block (R246; log entry 24). -/
def Plan.stateBytes (p : Plan) (n : Node) : Nat :=
  Config.nodeState n.ws p.rate96 + 4 * p.samples * ((List.range n.ports).map n.portWidth).sum

/-- Class 0 bytes: node states, port and edge buffers, pool, TDM and player blocks (R246). -/
def Plan.class0 (p : Plan) : Nat :=
  let s := p.samples
  (p.nodes.map p.stateBytes).sum + (p.edges.map fun e => 4 * s * e.count).sum
    + 4 * s * (2 * (if p.rate96 then 1024 else 2048) + 2 * 256 + 2 * 64)

/-- Samples of a DELAY node. -/
def Node.delay (n : Node) : Nat := getBits (n.w 1) 0 18

/-- The class 1 and class 2 buffers: bytes, channels, node when a DELAY line (R246). -/
def Half.buffers (h : Half) (p : Plan) : List (Nat × Nat × Option Nat × Bool) :=
  let lim := h.stagedField Adr.PLC_LS_DELAY_MAX 0 18
  let delays := (p.placeOrder.filter fun n => n.type == 6 && decide (0 < n.delay)).map fun n =>
    (4 * n.delay * n.width, n.width, some n.idx, decide (lim < n.delay))
  let slots := ((h.stagedSlots false).filter fun n => !(h.rxStaged n).paired).map fun n =>
    let c := h.rxStaged n
    (4 * (c.link + 2 * packetSamples p.rate96 c.ptime) * c.channels, c.channels, none, false)
  delays ++ slots

/-- Inserts a buffer by ascending size. -/
def insertBuf (x : Nat × Nat × Option Nat × Bool) :
    List (Nat × Nat × Option Nat × Bool) → List (Nat × Nat × Option Nat × Bool)
  | [] => [x]
  | y :: ys => if x.1 ≤ y.1 then x :: y :: ys else y :: insertBuf x ys

/-- Rows of 8 KiB that bytes take. -/
def rowsOf (bytes : Nat) : Nat := (bytes + 8191) / 8192

/-- Puts class 1 buffers into free rows in order of ascending size: rows left, buffers that go to DRAM (R246). -/
def fillRows : Nat → List (Nat × Nat × Option Nat × Bool) → Nat × List (Nat × Nat × Option Nat × Bool)
  | free, [] => (free, [])
  | free, b :: bs =>
    if rowsOf b.1 ≤ free then fillRows (free - rowsOf b.1) bs
    else
      let (f, rest) := fillRows free bs
      (f, b :: rest)

/-- The placement-managed DRAM in bytes (R289). -/
def Half.placementDram (h : Half) : Nat := 3840 * mib - 2 * h.bankBytes - h.recBytes

/-- Rows of the placement area that are retired (R248). -/
def Half.retiredRows (h : Half) : Nat := h.graph.retiredRows

/-- Places the buffers: KiB of the local store, MiB and MB/s of DRAM, or the reason (R242, R246). -/
def Half.placeBuffers (h : Half) (p : Plan) : Except (Nat × Nat) (Nat × Nat × Nat) :=
  let free := 2048 - h.retiredRows - 2
  let c0 := rowsOf p.class0
  let first := fun (l : List (Nat × Nat × Option Nat × Bool)) => (l.findSome? fun b => b.2.2.1).getD 0
  if free < c0 then .error (0x52, ((p.placeOrder.head?).map (·.idx)).getD 0)
  else
    let bufs := h.buffers p
    let (left, spill) := fillRows (free - c0) ((bufs.filter fun b => !b.2.2.2).foldr insertBuf [])
    let dram := (bufs.filter fun b => b.2.2.2) ++ spill
    let bytes := (dram.map fun b => b.1).sum
    let bw := (dram.map fun b => b.2.1).sum * (if p.rate96 then 96000 else 48000) * 8
    if h.placementDram < bytes then .error (0x53, first dram)
    else if 6400000000 < bw then .error (0x54, first dram)
    else .ok (8 * (free - left + h.retiredRows), rounded bytes mib, rounded bw 1000000)

/-- The state of engine e (R250). -/
def Half.engState (h : Half) (e : Nat) : Nat := h.get (Adr.ENG_STATUS e) 0 3

/-- Moves engine e; each change sets `EVENT.STATE` (R250). -/
def Half.setEng (h : Half) (e v : Nat) : Half :=
  if h.engState e = v then h else (h.put (Adr.ENG_STATUS e) 0 3 v).event (Adr.ENG_EVENT e) 0

/-- The engines in service (R242). -/
def Half.inService (h : Half) : List Nat :=
  (List.range 8).filter fun e => inRange 1 3 (h.engState e) && !h.graph.disabling.contains e

/-- `SPARE_ENGINES` of a plan: 3 acts as 2 (R259). -/
def Half.spareEngines (h : Half) (staged : Bool) : Nat :=
  min 2 (if staged then h.stagedField Adr.PLC_CTRL 0 2 else h.get Adr.PLC_CTRL 0 2)

/-- The admission and placement of a plan on engines in service (R242 to R244). -/
def Half.admission (h : Half) (p : Plan) : Except Reject Placement :=
  let serv := h.inService
  let spare := h.spareEngines p.staged
  let es := serv.take (serv.length - spare)
  if serv.length ≤ spare then .error ⟨0x55, 0, 0⟩
  else
    match p.placeAll es (es.length * engineRoom) p.placeOrder [] with
    | .error i => .error ⟨0x50, 1, i⟩
    | .ok ps =>
      let (crit, bad) := p.critical ps
      match bad with
      | some i => .error ⟨0x51, 1, i⟩
      | none =>
        match h.placeBuffers p with
        | .error (r, i) => .error ⟨r, 1, i⟩
        | .ok (ls, dm, bw) => .ok ⟨ps, [], crit, ls, dm, bw⟩

/-- Whether engine e holds a life-safety node (R257). -/
def lsOn (ls : List Nat) (ps : List Part) (e : Nat) : Bool := ps.any fun x => x.engine == e && ls.contains x.node

/-- What shows the engines in service: `IN_SERVICE`, `NO_SPARE`, `CAPACITY` (R258, R259). -/
def Half.showPlc (h : Half) : Half :=
  let serv := h.inService
  let spare := h.spareEngines false
  let empty := (serv.filter fun e => h.engState e == 1).length
  let changed := h.get Adr.PLC_STATUS 8 4 != serv.length
  (((h.put Adr.PLC_STATUS 8 4 serv.length).putBit Adr.PLC_STATUS 1 (decide (empty < spare))).wrNat Adr.PLC_CAPACITY
    ((serv.length - spare) * engineRoom)).onGraph fun g => { g with planDue := g.planDue || changed }

/-- Puts a placement into force at a boundary: engines LOADED or SPARE, their loads, the PLC page (R250, R257, R259). -/
def Half.applyPlacement (h : Half) (x : Placement) : Half :=
  let ls := (h.plan false).lsNodes
  let h1 := h.each (List.range 8) fun y e =>
    let mine := x.parts.filter fun p => p.engine == e
    let st := h.engState e
    let y1 := ((y.put (Adr.ENG_STATUS e) 16 16 mine.length).putBit (Adr.ENG_STATUS e) 8 (lsOn ls x.parts e)).wrNat
      (Adr.ENG_LOAD e) (loadOf x.parts e)
    if st = 1 ∧ !mine.isEmpty then y1.setEng e 2
    else if st = 2 ∧ mine.isEmpty then y1.setEng e 1
    else if st = 3 ∧ !mine.isEmpty then y1.setEng e 2
    else y1
  let lsOut := x.unplaced.any ls.contains
  let h2 := ((h1.putBit Adr.PLC_STATUS 2 (!x.unplaced.isEmpty)).putBit Adr.PLC_STATUS 3 lsOut)
  let h3 := if !x.unplaced.isEmpty && !h.bit Adr.PLC_STATUS 2 then h2.event Adr.PLC_EVENT 3 else h2
  let h4 := if lsOut && !h.bit Adr.PLC_STATUS 3 then h3.latch Adr.PLC_FAULT 1 else h3
  let h5 := (((h4.wrNat Adr.PLC_LOAD (totalCost x.parts)).wrNat Adr.PLC_LOAD_LS
    (totalCost (x.parts.filter fun p => ls.contains p.node))).wrNat Adr.PLC_CRIT_PATH x.crit).wrap Adr.PLC_PLACE_GEN 0 32 1
  let h6 := ((h5.wrNat Adr.PLC_LS_USED x.lsKiB).wrNat Adr.PLC_DRAM_USED x.dramMiB).wrNat Adr.PLC_DRAM_BW x.dramBw
  (h6.onGraph fun g => { g with place := x }).showPlc

/-- Moves the parts of one engine to another (R252). -/
def Placement.move (x : Placement) (a b : Nat) : Placement :=
  { x with parts := x.parts.map fun p => if p.engine = a then { p with engine := b } else p }

/-- The placement that the next boundary puts into force, or the one in force. -/
def Half.comingPlace (h : Half) : Placement := h.graph.nextPlace.getD h.graph.place

/-- The lowest SPARE engine that no coming placement uses (R252). -/
def Half.spareFor (h : Half) (e : Nat) : Option Nat :=
  (List.range 8).find? fun d => d != e && h.engState d == 1 && !(h.comingPlace.parts.any fun p => p.engine == d)

/-- With no SPARE engine, one whose deep test is abandoned for a retired engine's nodes (R504). -/
def Half.testingFor (h : Half) (e : Nat) : Option Nat :=
  (List.range 8).find? fun d => d != e && h.engState d == 3 && !(h.comingPlace.parts.any fun p => p.engine == d)

/-- A mask with bit e set or cleared. -/
def maskSet (m e : Nat) (on : Bool) : Nat := if on then m ||| 2 ^ e else m &&& (0xFFFFFFFF - 2 ^ e)

/-- Places the whole committed plan again (R253): with the spare engines empty when it fits so, else on every engine in
service, and as far as it goes. -/
def Half.replaceAll (h : Half) : Placement :=
  let p := h.plan false
  match h.admission p with
  | .ok x => x
  | .error _ =>
    let serv := h.inService
    let (ps, out) := p.placeSome serv (serv.length * engineRoom) p.placeOrder [] []
    let cur := h.graph.place
    ⟨ps, out, (p.critical ps).1, cur.lsKiB, cur.dramMiB, cur.dramBw⟩

/-- Stage 1 of a re-placement without a spare: the life-safety nodes that no engine in service holds (R253). -/
def Half.replaceLs (h : Half) : Placement :=
  let p := h.plan false
  let serv := h.inService
  let cur := h.comingPlace
  let kept := cur.parts.filter fun x => serv.contains x.engine
  let lost := (cur.parts.filter fun x => !serv.contains x.engine).map fun x => x.node
  let ls := p.lsNodes
  let kept1 := kept.filter fun x => !(lost.contains x.node && ls.contains x.node)
  let (ps, out) := p.placeSome serv (serv.length * engineRoom)
    (p.placeOrder.filter fun n => ls.contains n.idx && lost.contains n.idx) kept1 []
  { cur with parts := ps, unplaced := out }

/-- A submission that waits is placed again on the engines in service; it moves its target, or is rejected with
LOST_PLACEMENT (R254). -/
def Half.resubmit (h : Half) (e : Nat) : Half :=
  let st := h.get Adr.GRF_STATUS 0 3
  match h.graph.sub with
  | some s =>
    if (st = 2 ∨ st = 3) ∧ s.place.parts.any (fun p => p.engine == e) then
      match h.admission (h.plan true) with
      | .ok x =>
        let target := s.target.map fun t => max t (h.block + 3)
        let h1 := h.onGraph fun g => { g with sub := some ⟨target, x⟩ }
        match target with | some t => h1.wrNat Adr.GRF_COMMIT_TARGET t | none => h1
      | .error _ =>
        (((h.onGraph fun g => { g with sub := none, recordOut := false }).put Adr.GRF_STATUS 0 3 0).wrNat
          Adr.GRF_COMMIT_STATUS 0x56800000).event Adr.GRF_EVENT 1 |>.event Adr.PLC_EVENT 1
    else h
  | none => h

/-- An engine leaves service with its nodes: a spare swap at the next boundary, or the two stages (R252, R253,
R504). -/
def Half.vacate (h : Half) (e : Nat) : Half :=
  let held := h.comingPlace.parts.any fun p => p.engine == e
  if !held then h.showPlc
  else
    let start := fun (x : Half) (stage : Nat) =>
      (x.onGraph fun g => { g with replace := some ⟨h.age, stage⟩ }).putBit Adr.PLC_STATUS 4 true
    match (h.spareFor e).or (h.testingFor e) with
    | some d => (start (h.onGraph fun g => { g with nextPlace := some (h.comingPlace.move e d) }) 2).showPlc
    | none => (start h 1).showPlc

/-- The cause with which engine e was last retired; 0 where none is kept (R250, R260). -/
def Half.engCause (h : Half) (e : Nat) : Nat := lookAt (fun _ => 0) h.graph.causes e

/-- Engine e becomes RETIRED with a cause, which `FAULT` shows (R250). -/
def Half.markRetired (h : Half) (e cause : Nat) : Half :=
  ((h.setEng e 4).latch (Adr.ENG_FAULT e) cause).onGraph fun g => { g with causes := insertAt e cause g.causes }

/-- Engine e is retired with a cause: it holds no nodes, its nodes of the block in progress are missing and the block's
digests void, the retirement is listed, waiting submissions are placed again (R238, R239, R250 to R254, R495). -/
def Half.retireEngine (h : Half) (e cause : Nat) : Half :=
  if !inRange 1 3 (h.engState e) then h
  else
    let nodes := (h.graph.place.parts.filter fun p => p.engine == e).map fun p => p.node
    let h1 := h.markRetired e cause
    let h2 := h1.onGraph fun g => { g with missing := g.missing ++ nodes, voids := true, kat := g.kat.filter (· != e) }
    let h3 := h2.onRetired fun r => { r with engines := maskSet r.engines e true }
    (((h3.vacate e).put (Adr.ENG_STATUS e) 16 16 0).putBit (Adr.ENG_STATUS e) 8 false).wrNat (Adr.ENG_LOAD e) 0 |>.resubmit e

/-- RESIDUE_ERROR: the engine stops and is retired; on a life-safety path it is a die-level fault, cause 0x0002 (R234,
R251, R459). -/
def execResidueError (h : HalfId) (e : Fin 8) (node : Fin 4096) (s : State) : Host.Outcome State Fault Refusal :=
  .next (s.on h fun x =>
    if x.live && x.up .processing && inRange 1 3 (x.engState e) then
      let y := ((x.count (Adr.ENG_RESIDUE_CNT e) 0 16 1).event (Adr.ENG_EVENT e) 2).retireEngine e 1
      if (x.plan false).lsNodes.contains node && x.graph.place.parts.any (fun p => p.engine == e && p.node == node) then
        y.giveUpFor 2
      else y
    else x).lines

/-- An overrun of engine e at a boundary: counted, its nodes of the block missing, its third within 1 s retires it
(R237, R239). -/
def Half.overrun (h : Half) (e : Nat) : Half :=
  if h.engState e ≠ 2 then h
  else
    let nodes := (h.graph.place.parts.filter fun p => p.engine == e).map fun p => p.node
    let recent := (h.graph.overruns.filter fun o => decide (h.age < o.2 + 8000)) ++ [(e, h.age)]
    let h1 := ((h.event (Adr.ENG_EVENT e) 1).count (Adr.ENG_OVERRUN_CNT e) 0 16 1).onGraph fun g => { g with
      missing := g.missing ++ nodes, voids := true, overruns := recent }
    if 3 ≤ (recent.filter fun o => o.1 == e).length then h1.retireEngine e 2 else h1

/-- REPLACEMENT_STAGE_COMPLETE: the placement waits for the next boundary (R253). -/
def execReplacementStageComplete (h : HalfId) (s : State) : Host.Outcome State Fault Refusal :=
  .next (s.on h fun x =>
    match x.graph.replace with
    | some r =>
      let late := decide ((if r.stage = 1 then 80 else 8000) < x.age - r.since)
      let x1 := if late then x.latch Adr.PLC_FAULT 2 else x
      if r.stage = 1 then
        x1.onGraph fun g => { g with nextPlace := some x.replaceLs, replace := some { r with stage := 2 } }
      else
        ((x1.onGraph fun g => { g with nextPlace := some x.replaceAll, replace := none }).putBit Adr.PLC_STATUS 4 false).wrNat
          Adr.PLC_REPLACE_TIME (min 0xFFFF (rounded (x.age - r.since) 8))
    | none => x)

/-- A write of `ENG[e].CTRL.EN` (R250, R255). -/
def Half.writeEng (h : Half) (e : Nat) (en : Bool) : Half :=
  let st := h.engState e
  if en then
    let h1 := (h.putBit (Adr.ENG_CTRL e) 0 true).onGraph fun g => { g with disabling := g.disabling.filter (· != e) }
    if st = 0 ∨ st = 4 then h1.onGraph fun g => { g with kat := e :: g.kat.filter (· != e) } else h1
  else
    match st with
    | 1 => ((h.putBit (Adr.ENG_CTRL e) 0 false).setEng e 0).showPlc
    | 2 =>
      let room := (h.spareFor e).isSome ||
        (let p := h.plan false
         let es := h.inService.filter (· != e)
         match p.placeAll es (es.length * engineRoom) p.placeOrder [] with | .ok _ => true | .error _ => false)
      if !room then h.event Adr.PLC_EVENT 4
      else
        let next := match h.spareFor e with
          | some d => h.comingPlace.move e d
          | none =>
            let p := h.plan false
            let es := h.inService.filter (· != e)
            { h.comingPlace with parts := (p.placeSome es (es.length * engineRoom) p.placeOrder [] []).1 }
        ((h.putBit (Adr.ENG_CTRL e) 0 false).onGraph fun g => { g with
          nextPlace := some next, disabling := e :: g.disabling }).resubmit e
    | 3 => ((h.putBit (Adr.ENG_CTRL e) 0 false).setEng e 0).showPlc
    | _ => (h.putBit (Adr.ENG_CTRL e) 0 false).onGraph fun g => { g with kat := g.kat.filter (· != e) }

/-- KNOWN_ANSWER_TEST_COMPLETE: SPARE on a pass, RETIRED with cause 0x0003 on a failure (R250, R260). -/
def execKnownAnswerTestComplete (h : HalfId) (e : Fin 8) (pass : Bool) (s : State) : Host.Outcome State Fault Refusal :=
  .next (s.on h fun x =>
    if x.graph.kat.contains e then
      let x1 := x.onGraph fun g => { g with kat := g.kat.filter (· != (e : Nat)) }
      if pass then
        ((x1.setEng e 1).onRetired fun r => { r with engines := maskSet r.engines e false }).showPlc
      else
        ((x1.markRetired e 3).onRetired fun r => { r with engines := maskSet r.engines e true }).showPlc
    else x)

/-- The engines of engine cluster c (R233). -/
def clusterEngines (c : Nat) : List Nat := [4 * c, 4 * c + 1, 4 * c + 2, 4 * c + 3]

/-- A fault of engine cluster c: its four engines are RETIRED with cause 0x0005 (R260). -/
def Half.engineClusterFault (h : Half) (c : Nat) : Half :=
  (clusterEngines c).foldl (fun x e => x.retireEngine e 5) (h.putBit (Adr.ENGC_STATUS c) 1 true)

/-- A write of 1 to CTRL of an engine cluster page (R260). -/
def Half.engineClusterInit (h : Half) (c : Nat) : Half :=
  if (clusterEngines c).any fun e => h.engState e == 2 then h
  else
    (clusterEngines c).foldl (fun (x : Half) e =>
      let st := x.engState e
      if x.bit (Adr.ENG_CTRL e) 0 && (st == 1 || st == 3 || (st == 4 && x.engCause e == 5)) then
        x.onGraph fun g => { g with kat := e :: g.kat.filter (· != e) }
      else x) (h.putBit (Adr.ENGC_STATUS c) 1 false)

/-- Class 1 may take its turn: it runs, and no commit, library load or handover is in progress (R504). -/
def Half.deepTurn (h : Half) : Bool :=
  h.gustRuns 1 && h.get Adr.GRF_STATUS 0 3 == 0 && h.get Adr.MSG_STATUS 4 3 == 0 && !h.bit Adr.RDN_HANDOVER_STATUS 31

/-- DEEP_TEST_TURN: a SPARE engine goes to TESTING; a LOADED one on a STANDBY half after a spare swap (R250, R256). -/
def execDeepTestTurn (h : HalfId) (e : Fin 8) (s : State) : Host.Outcome State Fault Refusal :=
  .next (s.on h fun x =>
    if !x.deepTurn then x
    else if x.engState e = 1 ∧ !(x.comingPlace.parts.any fun p => p.engine == e) then (x.setEng e 3).showPlc
    else if x.engState e = 2 ∧ x.role = .standby then
      match x.spareFor e with
      | some d => x.onGraph fun g => { g with nextPlace := some (x.comingPlace.move e d), toTest := e :: g.toTest }
      | none => x
    else x)

/-- DEEP_TEST_COMPLETE (R250, R256); an abandoned test is not counted (R504). -/
def execDeepTestComplete (h : HalfId) (e : Fin 8) (pass : Bool) (s : State) : Host.Outcome State Fault Refusal :=
  .next (s.on h fun x =>
    if x.engState e = 3 ∧ !(x.comingPlace.parts.any fun p => p.engine == e) then
      ((if pass then x.setEng e 1 else x.retireEngine e 3).gustDone 1 e (if pass then none else some 2)).showPlc
    else x)

/-- Engines that were to leave service or to go to test do so once a placement without them is in force (R255, R256). -/
def Half.leaveEngines (h : Half) : Half :=
  let free := fun (y : Half) (e : Nat) => !(y.graph.place.parts.any fun p => p.engine == e)
  let h1 := (h.graph.disabling.filter (free h)).foldl (fun (y : Half) e => y.setEng e 0) h
  let h2 := (h.graph.toTest.filter (free h)).foldl (fun (y : Half) e => if y.engState e = 1 then y.setEng e 3 else y) h1
  (h2.onGraph fun g => { g with nextPlace := none, disabling := [], toTest := [] }).showPlc

/-- A coming placement applies at a boundary without a plan commit, and is reported (R252 to R256). -/
def Half.applyNextPlace (h : Half) : Half :=
  match h.graph.nextPlace with
  | none => h
  | some x => ((h.applyPlacement x).leaveEngines).event Adr.PLC_EVENT 2

/-- ROW_MIGRATION: the row is copied to a free row and switched at the next boundary (R248). -/
def execRowMigration (h : HalfId) (row : Fin 2048) (s : State) : Host.Outcome State Fault Refusal :=
  .next (s.on h fun x =>
    if x.live && x.up .processing && decide (x.graph.migrating.length + x.retiredRows < 2046) then
      x.onGraph fun g => { g with migrating := (row : Nat) :: g.migrating.filter (· != (row : Nat)) }
    else x)

/-- The buffer map switches at step 2 of R21 when no commit applies: each migrated row counts (R248, R249). -/
def Half.switchRows (h : Half) : Half :=
  (h.count Adr.PLC_ROWS_MIGRATED 0 32 h.graph.migrating.length).onGraph fun g => { g with migrating := [] }

/-- Retires a row of the placement area (R248, R292). -/
def Half.retireRow (h : Half) (row : Nat) : Half :=
  if h.boot.retired.rows.contains row then h
  else
    (h.onRetired fun r => { r with rows := r.rows ++ [row] }).onGraph fun g => { g with retiredRows := g.retiredRows + 1 }

/-- At start-up the listed engines are retired again (R250, R495). -/
def Half.retiredEngines (h : Half) : Half :=
  (h.each (List.range 8) fun x e => if h.boot.retired.engines.testBit e then x.put (Adr.ENG_STATUS e) 0 3 4 else x).showPlc

end Sys2Proof.Machine
end

