-- ==== Sys2Proof/Machine/Commit.lean ====
section
/-! DEFINITION. Plan commits (R159, R205, R208, R223 to R230): submission, validation, the standby's part, the target
boundary. -/

namespace Sys2Proof.Machine

open Sys2Proof

/-- `GRF.STATUS.COMMIT_STATE` (R223). -/
def Half.commitState (h : Half) : Nat := h.get Adr.GRF_STATUS 0 3

/-- Writes a rejection into `COMMIT_STATUS` and sets `EVENT.REJECT` (R225, R230). -/
def Half.showReject (h : Half) (r : Reject) : Half :=
  (h.wrNat Adr.GRF_COMMIT_STATUS (2 ^ 24 * r.reason + 2 ^ 23 + 2 ^ 20 * r.kind + r.detail)).event Adr.GRF_EVENT 1

/-- A submission ends in IDLE. -/
def Half.endSubmission (h : Half) : Half :=
  (h.onGraph fun g => { g with sub := none, recordOut := false, answer := none, rateFade := 0 }).put Adr.GRF_STATUS 0 3 0

/-- A submission is rejected, and the running plan stays in force (R223, R225). -/
def Half.rejectPlan (h : Half) (r : Reject) : Half := h.endSubmission.showReject r

/-- `GRF.COMMIT.GO` (R223, R225): BUSY or NOT_ACTIVE at once, else VALIDATING; a handover that waits for T is abandoned
(R477). -/
def Half.submitPlan (h : Half) : Half :=
  if h.commitState ≠ 0 then h.showReject ⟨1, 0, 0⟩
  else if !h.acceptsM then h.showReject ⟨0xF, 0, 0⟩
  else
    (((h.abandon true).put Adr.GRF_STATUS 0 3 1).wrNat Adr.GRF_COMMIT_STATUS 0).onGraph fun g => { g with
      sub := none, recordOut := false, answer := none }

/-- Every check of a submission, in the order of R225, with its placement (R160, R225, R226, R242 to R244). -/
def Half.checkPlan (h : Half) : Except Reject Placement :=
  let p := h.plan true
  match (h.graphCheck p).or (h.flowCheck p.rate96) with
  | some r => .error r
  | none =>
    match h.admission p with
    | .error r => .error r
    | .ok x => match h.alarmCheck p with | some r => .error r | none => .ok x

/-- The first block boundary at least 250 µs after an instant of this block (R223). -/
def Half.targetAfter (h : Half) (ofs : Nat) : Nat := h.block + (if ofs = 0 then 2 else 3)

/-- A submission becomes PENDING with its target (R223). -/
def Half.pend (h : Half) (target : Nat) : Half :=
  match h.graph.sub with
  | some s =>
    ((h.onGraph fun g => { g with sub := some { s with target := some target }, recordOut := false, answer := none }).put
      Adr.GRF_STATUS 0 3 3).wrNat Adr.GRF_COMMIT_TARGET target
  | none => h

/-- The half knows its partner as STANDBY (R223, R444). -/
def Half.standbyPresent (h : Half) : Bool :=
  match h.rdn.view with
  | some v => h.role == .active && h.bit Adr.RDN_STATUS 5 && v.role == 2
  | none => false

/-- The checks and the placement of a submission end (R223 to R225). -/
def Half.validated (h : Half) (ofs : Nat) : Half :=
  match h.checkPlan with
  | .error r => h.rejectPlan r
  | .ok x =>
    let h1 := (h.onGraph fun g => { g with sub := some ⟨none, x⟩ }).wrap Adr.GRF_PENDING_ID 0 32
      ((h.rd Adr.GRF_PLAN_ID).toNat + 1 + (2 ^ 32 - (h.rd Adr.GRF_PENDING_ID).toNat))
    if h.standbyPresent then (h1.put Adr.GRF_STATUS 0 3 2).onGraph fun g => { g with recordOut := true }
    else h1.pend (h.targetAfter ofs)

/-- PLAN_VALIDATION_COMPLETE (R223, R225). -/
def execPlanValidationComplete (h : HalfId) (ofs : BlockOfs) (s : State) : Host.Outcome State Fault Refusal :=
  .next (s.on h fun x =>
    if x.live && x.up .processing && x.commitState == 1 && x.graph.sub.isNone && x.acceptsM then x.validated ofs else x)

/-- The windows of the graph's staging banks: base, size, distance of the active bank (R208). -/
def stagingBanks : List (Nat × Nat × Nat) :=
  [(0x3000000, 0x20000, 0x20000), (0x3040000, 0x1000, 0x1000), (0x3042000, 0x1000, 0x1000),
    (0x3080000, 0x80000, 0x80000), (0x4000000, 0x20000, 0x20000)]

/-- A word address lies in a staging bank (R208). -/
def inStagingBank (a : Nat) : Bool := stagingBanks.any fun b => decide (b.1 ≤ a ∧ a < b.1 + b.2.1)

/-- A staged field outside the graph banks: it waits for a plan commit (R159, R223). -/
def waitsForPlan (a : Nat) : Bool :=
  match locate a with
  | some l => l.reg.cls == .staged && !inStagingBank a
  | none => false

/-- Replaces the words of a window by the words that lie ofs below it. -/
def copyWindow (regs : List (Nat × Word)) (base size ofs : Nat) (src : List (Nat × Word)) : List (Nat × Word) :=
  (src.filter fun p => decide (base ≤ p.1 ∧ p.1 < base + size)).foldl (fun m p => insertAt (p.1 + ofs) p.2 m)
    (dropWhere (fun a => decide (base + ofs ≤ a ∧ a < base + ofs + size)) regs)

/-- The standby takes the plan of the active half into its own staging: the staged one with a commit record, the committed
one for a later attempt (R224). -/
def Half.takeStaging (h act : Half) (committed : Bool) : Half :=
  let regs := stagingBanks.foldl (fun m b =>
    let src := if committed then
        (act.regs.filter fun p => decide (b.1 + b.2.2 ≤ p.1)).map fun p => (p.1 - b.2.2, p.2)
      else act.regs
    copyWindow m b.1 b.2.1 0 src) h.regs
  let fields := ((act.regs ++ h.regs ++ act.held ++ h.held).map fun p => p.1).filter waitsForPlan
  let keep := h.held.filter fun p => !waitsForPlan p.1
  let held := fields.foldl (fun m a =>
    let v := if committed then act.rd a else act.staged a
    if v = h.rd a then m else insertAt a v m) keep
  let clearLs := (h.recordsAt 0x3000000 0x20000 32)
  let x := { h with regs := regs, held := held }
  if committed then (clearLs ++ (x.recordsAt 0x3000000 0x20000 32)).foldl (fun y i =>
    y.putBit (Adr.NODE_STG (8 * i)) 23 false) x else x

/-- COMMIT_RECORD_RECEIVE: the standby checks and places the plan that the active half accepted (R223, R224). -/
def execCommitRecordReceive (h : HalfId) (s : State) : Host.Outcome State Fault Refusal :=
  .next (
    let act := s.half h.other
    let me := s.half h
    if act.graph.recordOut && me.live && me.up .processing && me.linkUp && me.role == .standby then
      let x := me.takeStaging act false
      let y := match x.checkPlan with
        | .ok pl =>
          ((x.onGraph fun g => { g with sub := some ⟨none, pl⟩, answer := some true }).put Adr.GRF_STATUS 0 3 1).wr
            Adr.GRF_PENDING_ID (act.rd Adr.GRF_PENDING_ID)
        | .error _ => (x.endSubmission).onGraph fun g => { g with answer := some false }
      (s.setHalf h y).on h.other fun z => z.onGraph fun g => { g with recordOut := false }
    else s)

/-- The active half h waits for its standby's answer. -/
def State.awaits (s : State) (h : HalfId) : Bool := (s.half h).commitState == 2 && (s.half h).graph.sub.isSome

/-- STANDBY_PLAN_ACCEPT: the acceptance reaches the active half h; both halves are PENDING with one target (R223). -/
def execStandbyPlanAccept (h : HalfId) (ofs : BlockOfs) (s : State) : Host.Outcome State Fault Refusal :=
  .next (
    if s.awaits h && (s.half h.other).graph.answer == some true then
      let t := (s.half h).targetAfter ofs
      (s.on h fun x => x.pend t).on h.other fun x => x.pend t
    else s)

/-- The active half proceeds without its standby: FAULT cause 0x0001, and the standby's part of the submission ends
(R223, R224). -/
def State.proceedAlone (s : State) (h : HalfId) (ofs : Nat) : State :=
  (s.on h fun x => (x.pend (x.targetAfter ofs)).latch Adr.GRF_FAULT 1).on h.other fun x =>
    match x.role with
    | .standby => if x.graph.answer == some false then x else x.endSubmission
    | _ => x

/-- STANDBY_PLAN_REJECT (R223). -/
def execStandbyPlanReject (h : HalfId) (ofs : BlockOfs) (s : State) : Host.Outcome State Fault Refusal :=
  .next (if s.awaits h && (s.half h.other).graph.answer == some false then s.proceedAlone h ofs else s)

/-- STANDBY_ANSWER_TIMEOUT: 100 ms without an answer (R223). -/
def execStandbyAnswerTimeout (h : HalfId) (ofs : BlockOfs) (s : State) : Host.Outcome State Fault Refusal :=
  .next (if s.awaits h then s.proceedAlone h ofs else s)

/-- The level a gain stands at, in 1/61440 dB: on its ramp, or at its target of v in 1/128 dB (R228). -/
def Half.gainNow (h : Half) (key : Nat) (v : Int) : Int :=
  match h.graph.ramps.find? fun r => r.1 == key with
  | some (_, start, left) =>
    let len := h.fadeLen
    (start * left + v * 480 * (len - left : Nat)) / len
  | none => v * 480

/-- The ramp of a gain after a commit: old key and target, new key and target (R228). -/
def Half.newRamp (h : Half) (k0 : Nat) (v0 : Int) (k1 : Nat) (v1 : Int) : Option (Nat × (Int × Nat)) :=
  if v0 = v1 then (h.graph.ramps.find? fun r => r.1 == k0).map fun r => (k1, r.2)
  else if h.gainNow k0 v0 = v1 * 480 then none
  else some (k1, h.gainNow k0 v0, h.fadeLen)

/-- The GAIN parameter of a GAIN or MIX node in 1/128 dB. -/
def Node.gain (n : Node) : Int := dB16 (getBits (n.w 1) 0 16)

/-- The ramps that a commit from one plan to another leaves (R228). -/
def Half.newRamps (h : Half) (old new : Plan) : List (Nat × (Int × Nat)) :=
  let nodes := new.nodes.filterMap fun n =>
    match old.node n.idx with
    | some m =>
      if (n.type = 1 ∨ n.type = 2) ∧ m.type = n.type ∧ m.width = n.width then h.newRamp n.idx m.gain n.idx n.gain else none
    | none => none
  let edges := new.edges.filterMap fun e =>
    match old.edges.find? fun d => d.routing == e.routing with
    | some d => h.newRamp (0x10000 + d.idx) (dB16 d.gain) (0x10000 + e.idx) (dB16 e.gain)
    | none => none
  (nodes ++ edges).foldl (fun m r => insertAt r.1 r.2 m) []

/-- The node states that a commit keeps: type and width unchanged; a changed DELAY starts its crossfade (R228). -/
def Half.keptNodes (h : Half) (old new : Plan) : List (Nat × NodeSt) :=
  h.graph.nodes.filterMap fun x =>
    match old.node x.1, new.node x.1 with
    | some a, some b =>
      if a.type ≠ b.type ∨ a.width ≠ b.width then none
      else if b.type = 6 ∧ a.delay ≠ b.delay then some (x.1, { x.2 with nums := [a.delay, h.fadeLen] })
      else some x
    | _, _ => none

/-- The active banks take the staged content, with LS set on the nodes of life-safety paths (R208, R210, R228). -/
def Half.copyBanks (h : Half) : Half :=
  let regs := stagingBanks.foldl (fun m b => copyWindow m b.1 b.2.1 b.2.2 m) h.regs
  let h1 := { h with regs := regs }
  h1.each (h1.plan false).lsNodes fun x i => x.putBit (Adr.NODE_STG (8 * i) + 0x20000) 23 true

/-- The staged fields take effect (R20, R159). -/
def Half.applyStaged (h : Half) : Half :=
  let due := h.held.filter fun p => waitsForPlan p.1
  (due.foldl (fun (x : Half) p => x.wr p.1 p.2) { h with held := h.held.filter fun p => !waitsForPlan p.1 })

/-- A change of the sample rate is a restart: node states, delay lines and jitter buffers clear, receive slots WAITING,
transmit slots at their next packet boundary, crossfade weights 0 (R220, R229). -/
def Half.restartRate (h : Half) : Half :=
  let h1 := { h with
    mediaIdx := h.block * h.blockLen, inBlk := [], procIn := [], outBlk := [], txHist := []
    graph := { h.graph with nodes := [], ramps := [] } }
  h1.flowReinit

/-- The plan is applied, at the receive slots first to primaries (R155, R156, R161, R223, R228). -/
def Half.takePlan (h : Half) (pl : Placement) : Half :=
  let old := h.plan false
  let new := h.plan true
  let rateChange := new.rate96 != h.rate96
  let addrSlots := fun (base : Nat) => ((h.regs ++ h.held).filterMap fun p =>
    if base ≤ p.1 ∧ p.1 < base + 0x10000 then some ((p.1 - base) / 0x40) else none)
  let mapSlots := fun (base sh : Nat) => (h.held.filterMap fun p =>
    if base ≤ p.1 ∧ p.1 < base + 1024 * sh then some ((p.1 - base) / sh) else none)
  let rx := (addrSlots 0x40000 ++ mapSlots 0x5000000 0x100).dedup.map fun n => (n, h.rxCommitted n)
  let tx := (addrSlots 0x50000 ++ mapSlots 0x5040000 0x100 ++ mapSlots 0x5080000 0x40).dedup.map fun n =>
    (n, h.txCommitted n)
  let h1 := h.onGraph fun g => { g with ramps := h.newRamps old new, nodes := h.keptNodes old new }
  let h2 := (h1.applyStaged.copyBanks.endSubmission).wr Adr.GRF_PLAN_ID (h.rd Adr.GRF_PENDING_ID)
  let h3 := ((h2.putBit Adr.GRF_STATUS 4 new.rate96).event Adr.GRF_EVENT 0).commitZones
  let h4 := ((h3.applyPlacement pl).leaveEngines).wrNat Adr.PLC_DRAM_TOTAL (h3.placementDram / mib)
  let h5 :=
    if rateChange then h4.restartRate
    else
      let x := (rx.filter (fun c => !c.2.paired) ++ rx.filter fun c => c.2.paired).foldl (fun (y : Half) c => y.rxCommit c.1 c.2) h4
      tx.foldl (fun (y : Half) c => y.txCommit c.1 c.2) x
  h5.freeSlots.sapDelete

/-- Step 2 of R21: a submission whose target has come is judged against the alarms once more and applied; a change of rate
first fades out; nothing while the data plane is forced (R22, R226, R227, R229). Without a commit, a waiting placement
applies, and without either the buffer map switches (R249, R254). -/
def Half.applyPending (h : Half) : Half :=
  let other := fun (x : Half) => if x.graph.nextPlace.isSome then x.applyNextPlace else x.switchRows
  match h.graph.sub with
  | some ⟨some t, pl⟩ =>
    if h.commitState ≠ 3 ∨ h.block < t ∨ h.sent.forceData then other h
    else if h.graph.rateFade = 1 then h.takePlan pl
    else if 1 < h.graph.rateFade then other h
    else
      match h.alarmCheck (h.plan true) with
      | some r => h.rejectPlan r
      | none =>
        if (h.plan true).rate96 != h.rate96 then h.onGraph fun g => { g with rateFade := h.fadeLen + 1 }
        else h.takePlan pl
  | _ => other h

/-- While both halves hold one submission, it applies at one boundary on both: at the later target (R223, R254). -/
def State.shareTarget (s : State) (h : HalfId) : State :=
  let a := s.half h
  let b := s.half h.other
  match a.graph.sub.bind (·.target), b.graph.sub.bind (·.target) with
  | some t, some u =>
    if a.linkUp && a.commitState == 3 && b.commitState == 3 &&
        ((a.role == .active && b.role == .standby) || (a.role == .standby && b.role == .active)) then
      (s.on h fun x => x.pend (max t u)).on h.other fun x => x.pend (max t u)
    else s
  | _, _ => s

/-- A SYNCING half tries once to accept the plan in force on its partner; when its checks pass it applies at the next
boundary (R224). -/
def Half.tryPlan (h act : Half) : Half :=
  if h.graph.planDue && h.role == .syncing && h.up .processing && h.commitState == 0 then
    let x := (h.takeStaging act true).onGraph fun g => { g with planDue := false }
    match x.checkPlan with
    | .ok pl =>
      ((x.onGraph fun g => { g with sub := some ⟨none, pl⟩ }).wr Adr.GRF_PENDING_ID (act.rd Adr.GRF_PLAN_ID)).pend (h.block + 1)
    | .error _ => x
  else h

end Sys2Proof.Machine
end

