-- ==== Sys2Proof/Machine/Boot.lean ====
section
/-! DEFINITION. The boot flash: image slots and their checks, the boot selector, host writes of the flash, the
configuration banks (R532 to R539, R544 to R546). -/

namespace Sys2Proof.Machine

open Sys2Proof

/-- The flash byte at an offset; an erased byte reads 0xFF (R532). -/
def BootSt.byte (b : BootSt) (a : Nat) : Byte := lookAt (fun _ => 0xFF) b.bytes a

/-- Bytes of the flash from an offset. -/
def BootSt.read (b : BootSt) (a n : Nat) : List Byte := (List.range n).map (fun i => b.byte (a + i))

/-- Writes bytes to the flash from an offset. -/
def BootSt.write (b : BootSt) (a : Nat) (bs : List Byte) : BootSt :=
  { b with bytes := (bs.zipIdx).foldl (fun m p => storeAt (fun _ => (0xFF : Byte)) m (a + p.2) p.1) b.bytes }

/-- Erases the 64 KiB sector at an offset. -/
def BootSt.eraseSector (b : BootSt) (a : Nat) : BootSt :=
  { b with bytes := dropWhere (fun k => decide (a / 0x10000 = k / 0x10000)) b.bytes }

/-- The offset of an image slot (R532). -/
def slotBase (slot : Nat) : Nat := 0x1000000 + 0x1000000 * (slot % 2)

/-- The IMAGE field of a slot header (R533). -/
def BootSt.slotImage (b : BootSt) (slot : Nat) : Nat := beNat (b.read (slotBase slot + 8) 4)

/-- The checks of R534 on a slot, in order: the code of the first that fails, 0 when the slot is valid (R546). -/
def Half.slotResult (h : Half) (slot : Nat) : Nat :=
  let hd := h.boot.read (slotBase slot) 256
  let len := beAt hd 16 4
  let key := slice hd 52 64
  if slice hd 0 4 ≠ [0x42, 0x53, 0x59, 0x46] ∨ byteAt hd 4 ≠ 1 then 1
  else if len = 0 ∨ 0xFFF000 < len then 2
  else if sha256 key ≠ Config.bootKeyHash h.id then 3
  else if !Config.ecdsaVerify key (slice hd 116 64) (sha256 (slice hd 0 116 ++ slice hd 180 76)) then 4
  else if sha256 (h.boot.read (slotBase slot + 0x1000) len) ≠ slice hd 20 32 then 5
  else if beAt hd 12 4 < h.boot.floor then 6
  else 0

/-- The slot the half runs, as `BOOT_STATUS` shows it. -/
def Half.slotRunning (h : Half) : Nat := h.get Adr.DIE_BOOT_STATUS 29 1

/-- The running image is in trial (R535). -/
def Half.inTrial (h : Half) : Bool := h.bit Adr.DIE_BOOT_STATUS 31

/-- What the boot ROM decides (R535): the selector it leaves, the slot it boots (none: NO_IMAGE), trial, reverted. -/
def bootChoice (sel : Selector) (r0 r1 : Nat) : Selector × Option Nat × Bool × Bool :=
  let valid := fun (s : Nat) => if s = 0 then r0 == 0 else r1 == 0
  let other := 1 - sel.slot
  let pick := fun (s : Nat) => if valid s then some s else if valid (1 - s) then some (1 - s) else none
  if sel.trial && sel.started then
    (⟨other, false, false⟩, pick other, false, true)
  else if sel.trial then
    (⟨sel.slot, true, true⟩, pick sel.slot, valid sel.slot, false)
  else (sel, pick sel.slot, false, false)

/-- Step 3 of R540 with R534 and R535: checks both slots, chooses, takes the header fields of the image it boots. -/
def Half.bootRom (h : Half) : Half :=
  let r0 := h.slotResult 0
  let r1 := h.slotResult 1
  let (sel, slot, trial, reverted) := bootChoice h.boot.selector r0 r1
  let h1 := { h with boot := { h.boot with selector := sel } }
  let h2 := (((h1.put Adr.DIE_BOOT_STATUS 24 4 r0).put Adr.DIE_BOOT_STATUS 20 4 r1).putBit Adr.DIE_BOOT_STATUS 31
    trial).putBit Adr.DIE_BOOT_STATUS 30 reverted
  let h3 := ((h2.put Adr.DIE_BOOT_STATUS 10 6 h.boot.floor).wrNat (Adr.DIE_SLOT_VER 0)
    (if r0 = 0 then h.boot.slotImage 0 else 0)).wrNat (Adr.DIE_SLOT_VER 1) (if r1 = 0 then h.boot.slotImage 1 else 0)
  match slot with
  | none => h3.putBit Adr.DIE_BOOT_STATUS 28 true
  | some s =>
    let hd := h.boot.read (slotBase s) 256
    { h3.put Adr.DIE_BOOT_STATUS 29 1 s with boot := { h3.boot with
        mirrorFmt := beAt hd 6 2, prevFmt := beAt hd 180 2, image := BitVec.ofNat 32 (beAt hd 8 4)
        security := beAt hd 12 4 } }

/-- TRIAL_CONFIRM: the image in trial clears TRIAL and STARTED when its half first reaches STANDBY or ACTIVE (R535). -/
def execTrialConfirm (h : HalfId) (s : State) : Host.Outcome State Fault Refusal :=
  .next (s.on h fun x =>
    if x.inTrial && (x.role == .standby || x.role == .active) then
      { x.putBit Adr.DIE_BOOT_STATUS 31 false with boot := { x.boot with
          selector := { x.boot.selector with trial := false, started := false } } }
    else x)

/-- `BOOT_STATUS.OP_STATE` (R546). -/
def Half.opState (h : Half) (v : Nat) : Half := h.put Adr.DIE_BOOT_STATUS 0 2 v

/-- A `BOOT_CTRL` operation is in progress. -/
def Half.bootBusy (h : Half) : Bool := h.boot.bootOp != .idle

/-- A flash operation is in progress. -/
def Half.flashBusy (h : Half) : Bool := h.boot.flashOp != .idle

/-- An area that host software may erase and program: the slot the half is not running, and the library image (R536). -/
def Half.flashArea (h : Half) (a : Nat) : Bool :=
  let other := slotBase (1 - h.slotRunning)
  (decide (other ≤ a) && decide (a < other + 0x1000000)) || (decide (0x3000000 ≤ a) && decide (a < h.boot.size))

/-- Refuses a flash command with a cause (R536, R545). -/
def Half.flashRefuse (h : Half) (cause : Nat) : Half := h.wrNat Adr.DIE_FLASH_STATUS (0x40000000 + 0x1000000 * cause)

/-- A write of `FLASH_CMD`: ERASE or PROGRAM at `FLASH_ADDR`, refused with a cause, others ignored (R536, R545). -/
def Half.flashCommand (h : Half) (v : Word) : Half :=
  let a := (h.rd Adr.DIE_FLASH_ADDR).toNat
  let start := fun (align : Nat) (op : FlashOp) =>
    if h.flashBusy || h.bootBusy then h.putBit Adr.DIE_FLASH_STATUS 30 true |>.put Adr.DIE_FLASH_STATUS 24 4 4
    else if a % align ≠ 0 then h.flashRefuse 2
    else if !h.flashArea a then h.flashRefuse 1
    else { h.wrNat Adr.DIE_FLASH_STATUS 0x80000000 with boot := { h.boot with flashOp := op } }
  match getBits v 0 2 with
  | 1 => start 0x10000 (.erase a)
  | 2 => start 0x100 (.program a)
  | _ => h

/-- A write of `FLASH_DATA`: four bytes into the page buffer, which holds the last 256 (R536). -/
def Half.flashDataWrite (h : Half) (v : Word) : Half :=
  let all := h.boot.page ++ leBytes 4 v.toNat
  { h with boot := { h.boot with page := all.drop (all.length - 256) } }

/-- `FLASH_ADDR` lies where the spec gives the flash no content byte by byte: selector, retirement list, hours area, configuration
banks (R532), or beyond the device. -/
def Half.flashUnlaid (h : Half) : Bool :=
  let a := (h.rd Adr.DIE_FLASH_ADDR).toNat
  decide (a < 0x140000) || (decide (0x400000 ≤ a) && decide (a < 0xC00000)) || decide (h.boot.size ≤ a)

/-- The value a read of `FLASH_DATA` returns (R536); a free value where the content is not laid out (log entry 134). -/
def Half.flashDataValue (h : Half) : Word :=
  if h.flashUnlaid then Config.freeValue h.id h.fv 32
  else BitVec.ofNat 32 (leNat (h.boot.read (h.rd Adr.DIE_FLASH_ADDR).toNat 4))

/-- A read of `FLASH_DATA` advances `FLASH_ADDR` by 4 (R536). -/
def Half.flashDataAdvance (h : Half) : Half :=
  { h.wrap Adr.DIE_FLASH_ADDR 0 32 4 with fv := if h.flashUnlaid then h.fv + 1 else h.fv }

/-- Free bytes, as a failed flash operation leaves them (log entry 1). -/
def Half.freeBytes (h : Half) (n : Nat) : List Byte × Half :=
  ((List.range n).map (fun i => Config.freeValue h.id (h.fv + i) 8), { h with fv := h.fv + n })

/-- FLASH_OPERATION_COMPLETE: the sector is erased or the page holds the buffer; a failed operation leaves it open and
reports cause 0x3 (R536, R545). -/
def execFlashOperationComplete (h : HalfId) (ok : Bool) (s : State) : Host.Outcome State Fault Refusal :=
  .next (s.on h fun x =>
    let fin := fun (y : Half) => { y with boot := { y.boot with flashOp := .idle } }
    match x.boot.flashOp with
    | .idle => x
    | .erase a =>
      if ok then fin { x.wrNat Adr.DIE_FLASH_STATUS 0 with boot := x.boot.eraseSector a }
      else
        let (bs, x1) := x.freeBytes 0x10000
        fin { x1.flashRefuse 3 with boot := x1.boot.write a bs }
    | .program a =>
      let page := x.boot.page ++ List.replicate (256 - x.boot.page.length) 0xFF
      if ok then fin { x.wrNat Adr.DIE_FLASH_STATUS 0 with boot := x.boot.write a page }
      else
        let (bs, x1) := x.freeBytes 256
        fin { x1.flashRefuse 3 with boot := x1.boot.write a bs })

/-- The newer of two configuration banks by generation, of those that are valid (R532): its index. -/
def BootSt.newerBank (b : BootSt) : Option Nat :=
  if b.cfg0.valid && b.cfg1.valid then some (if b.cfg0.gen < b.cfg1.gen then 1 else 0)
  else if b.cfg0.valid then some 0
  else if b.cfg1.valid then some 1
  else none

/-- The bank that the next save writes: the older one (R532). -/
def BootSt.olderBank (b : BootSt) : Nat := match b.newerBank with | some 0 => 1 | _ => 0

/-- A configuration bank by its index. -/
def BootSt.cfg (b : BootSt) (i : Nat) : ConfigBank := if i = 0 then b.cfg0 else b.cfg1

/-- Replaces a configuration bank. -/
def BootSt.setCfg (b : BootSt) (i : Nat) (c : ConfigBank) : BootSt :=
  if i = 0 then { b with cfg0 := c } else { b with cfg1 := c }

/-- Starts a `BOOT_CTRL` operation. -/
def Half.bootStart (h : Half) (op : BootOp) : Half := ({ h with boot := { h.boot with bootOp := op } }).opState 1

end Sys2Proof.Machine
end

