-- ==== Sys2Proof/Machine/Library.lean ====
section
/-! DEFINITION. The message library (R295 to R306, R538): selection, loads, verification, bulk copies, the daily check. -/

namespace Sys2Proof.Machine

open Sys2Proof

/-- `MSG.STATUS.LIB_STATE` (R299). -/
def Half.libState (h : Half) : Nat := h.get Adr.MSG_STATUS 4 3
def Half.setLib (h : Half) (v : Nat) : Half := h.put Adr.MSG_STATUS 4 3 v

/-- Where the commit record of a bank lies (R295). -/
def Half.recordBase (h : Half) (bank : Nat) : Nat := h.bankBase bank + 0x20000

/-- The 64 bytes of a commit record (R297). -/
def Half.commitRecord (h : Half) (bank gen : Nat) : List Byte :=
  let body := [0x42, 0x53, 0x59, 0x4C, 0x01] ++ beBytes 1 bank ++ [0, 0] ++ beBytes 4 gen
    ++ beBytes 2 (h.validMessages bank).length ++ [0, 0] ++ beBytes 4 (h.bankCrc bank).toNat ++ List.replicate 40 0
  body ++ beBytes 4 (crc32 body).toNat

/-- Writes the commit record of a generation into a bank. -/
def Half.writeRecord (h : Half) (bank gen : Nat) : Half :=
  h.onStore fun s => s.write (h.recordBase bank) (h.commitRecord bank gen)

/-- Erases the commit record of a bank. -/
def Half.eraseRecord (h : Half) (bank : Nat) : Half :=
  h.onStore fun s => s.write (h.recordBase bank) (List.replicate 64 0)

/-- The generation of a bank whose commit record and index CRCs are correct and readable (R285, R298). -/
def Half.bankGen (h : Half) (bank : Nat) : Option Nat :=
  let r := h.store.read (h.recordBase bank) 64
  if r.take 4 = [0x42, 0x53, 0x59, 0x4C] ∧ byteAt r 4 = 1 ∧ byteAt r 5 = bank ∧ beAt r 60 4 = (crc32 (r.take 60)).toNat
      ∧ beAt r 16 4 = (h.bankCrc bank).toNat ∧ !h.store.poisoned (h.bankBase bank) 0x20040 then
    some (beAt r 8 4)
  else none

/-- a is later than b in 32-bit serial order (R298). -/
def serialLater (a b : Nat) : Bool := let d := (a + 2 ^ 32 - b) % 2 ^ 32; decide (1 ≤ d ∧ d < 2 ^ 31)

/-- The bank that R298 selects, with its generation. -/
def Half.bestBank (h : Half) : Option (Nat × Nat) :=
  match h.bankGen 0, h.bankGen 1 with
  | some a, some b => if serialLater b a then some (1, b) else some (0, a)
  | some a, none => some (0, a)
  | none, some b => some (1, b)
  | none, none => none

/-- Puts a bank into service with its generation; a library newly in service has no DAMAGED message (R299, R306). -/
def Half.serveBank (h : Half) (bank gen : Nat) : Half :=
  let h1 := (((h.putBit Adr.MSG_STATUS 1 (bank == 1)).putBit Adr.MSG_STATUS 0 true).wrNat Adr.MSG_LIB_GEN gen)
  ((h1.each (List.range 128) fun x w => x.wrNat (Adr.MSG_DAMAGED w) 0).put Adr.MSG_LIB_CHECK 16 16 0).showBankBusy

/-- The first failure of a verification: RESULT and message of `LIB_DETAIL`; an unreadable line of the index fails at its
first entry (R300). -/
def Half.verifyBank (h : Half) (bank count : Nat) : Option (Nat × Nat) :=
  let ms := h.validMessages bank
  let base := h.bankBase bank
  let first := ms.findSome? fun m =>
      let e := h.entry bank m
      let a := 64 * e.line
      if a < 0x40000 ∨ h.bankBytes < a + e.bytes ∨ e.frames = 0 then some (2, m)
      else if h.store.poisoned (base + a) e.bytes then some (4, m)
      else if (crc32 (h.store.read (base + a) e.bytes)).toNat ≠ e.crc then some (3, m)
      else none
  let unread := (h.store.poison.filter fun l => decide (base ≤ 64 * l ∧ 64 * l < base + 0x20000)).map fun l => (64 * l - base) / 32
  if ms.length ≠ count then some (1, 0)
  else
    match unread.min?, first with
    | some i, some (r, m) => if i ≤ m then some (4, i) else some (r, m)
    | some i, none => some (4, i)
    | none, r => r

/-- The length of a copy of a bank: from offset 0 to the end of its last content line (R538). -/
def Half.copyLength (h : Half) (bank : Nat) : Nat :=
  (h.validMessages bank).foldl (fun n m =>
    let e := h.entry bank m
    max n (64 * e.line + (e.bytes + 63) / 64 * 64)) 0x40000

/-- The library image in the boot flash, when it is valid: generation and copy (R538). -/
def Half.flashLibrary (h : Half) : Option (Nat × List Byte) :=
  let r := h.boot.read 0x3000000 64
  let n := beAt r 12 4
  if r.take 4 = [0x42, 0x53, 0x59, 0x49] ∧ byteAt r 4 = 1 ∧ beAt r 60 4 = (crc32 (r.take 60)).toNat ∧
      0x3010000 + n ≤ h.boot.size then
    let copy := h.boot.read 0x3010000 n
    if (crc32 copy).toNat = beAt r 16 4 then some (beAt r 8 4, copy) else none
  else none

/-- SAVE_LIBRARY: header sector first, header last (R538). -/
def Half.saveLibraryImage (h : Half) : Half :=
  let n := h.copyLength h.bankIn
  let copy := h.store.read (h.bankBase h.bankIn) n
  let body := [0x42, 0x53, 0x59, 0x49, 0x01, 0, 0, 0] ++ beBytes 4 (h.rd Adr.MSG_LIB_GEN).toNat ++ beBytes 4 n
    ++ beBytes 4 (crc32 copy).toNat ++ List.replicate 40 0
  let image := (h.boot.eraseSector 0x3000000).write 0x3010000 copy
  { h with boot := image.write 0x3000000 (body ++ beBytes 4 (crc32 body).toNat) }

/-- `BOOT_STATUS.LIB_SOURCE` (R546). -/
def Half.libSource (h : Half) (v : Nat) : Half := h.put Adr.DIE_BOOT_STATUS 4 4 v

/-- Start-up (R298, R302, R305): a retained library is selected; without one, and without an ACTIVE partner that has one,
the image of the boot flash is copied to bank 0, verified and selected. A load that the reset cut short reads OPEN. -/
def Half.selectLibrary (h : Half) (partnerHas : Bool) : Half :=
  let h0 := if h.store.opened then h.setLib 1 else h
  match h0.bestBank with
  | some (b, g) => (h0.serveBank b g).libSource 0
  | none =>
    let h1 := h0.latch Adr.MSG_FAULT 4
    if partnerHas then h1.libSource 4
    else
      match h1.flashLibrary with
      | none => h1.libSource 3
      | some (g, copy) =>
        let h2 := h1.onStore fun s => s.write (h1.bankBase 0) copy
        match h2.verifyBank 0 (h2.validMessages 0).length with
        | none => ((h2.writeRecord 0 g).serveBank 0 g).libSource 2
        | some _ => h1.libSource 3

/-- What the LPDDR5 keeps through a reset that is no power-on reset (R288, R302, R313): its content, and what follows from
it: whether a load was open, the frames in the recorder ring. -/
def Half.retainMemory (h : Half) (h0 : Half) : Half :=
  let open_ := inLoad h0.libState
  { h with
    store := { StoreSt.init with
      dram := h0.store.dram, poison := h0.store.poison, opened := open_, corrected := h0.store.corrected }
    recd := { RecSt.init with ring := h0.recd.ring }
    regs := (storeAt (resetWord h.id) (storeAt (resetWord h.id) (storeAt (resetWord h.id) h.regs Adr.REC_WRITE_OFS
      (h0.rd Adr.REC_WRITE_OFS)) Adr.REC_OLDEST_OFS (h0.rd Adr.REC_OLDEST_OFS)) Adr.REC_LAST_SEQ (h0.rd Adr.REC_LAST_SEQ)) }
where
  /-- OPEN to PARTNER_VERIFY. -/
  inLoad (v : Nat) : Bool := decide (1 ≤ v ∧ v ≤ 4)

/-- The confirmed value of `LIB_COMMIT` (R299). -/
def Half.writeLibCommit (h : Half) (q : Req) (v : Word) : Half :=
  let may := match h.role with | .active | .offline | .isolated => true | _ => false
  if !may || h.libState != 1 then h.pwRefuse q Adr.MSG_LIB_COMMIT
  else (h.wrNat Adr.MSG_LIB_COMMIT (v.toNat % 0x2000)).setLib 2

/-- Enters PENDING: the commit record of generation `LIB_GEN` + 1 is written last, and the switch waits for its boundary
(R299). -/
def Half.pendLibrary (h : Half) (gen target : Nat) : Half :=
  ((h.writeRecord h.bankOut gen).setLib 5).onStore fun s => { s with pendingAt := some target, copying := none }

/-- The first block boundary at least 250 µs after an instant of this block (R299). -/
def Half.libTarget (h : Half) (ofs : Nat) : Nat := h.block + (if ofs = 0 then 2 else 3)

/-- The next generation. -/
def Half.nextGen (h : Half) : Nat := ((h.rd Adr.MSG_LIB_GEN).toNat + 1) % 2 ^ 32

/-- The active half commits its load alone, with a FAULT cause (R299). -/
def Half.commitAlone (h : Half) (cause ofs : Nat) : Half :=
  let h1 := if cause = 2 then h.wrNat Adr.MSG_LIB_DETAIL 0x05000000 else h
  ((h1.latch Adr.MSG_FAULT cause).putBit Adr.MSG_BULK_STATUS 31 false).pendLibrary h.nextGen (h.libTarget ofs)

/-- The half knows its partner as STANDBY (R299). -/
def Half.partnerStandby (h : Half) : Bool :=
  match h.rdn.view with
  | some v => h.bit Adr.RDN_STATUS 5 && v.role == 2
  | none => false

/-- Starts a bulk copy; `load` tells the staging bank of a load from the bank in service (R304). -/
def Half.startCopy (h : Half) (load : Bool) : Half :=
  (h.wrNat Adr.MSG_BULK_STATUS 0x80000000).onStore fun s => { s with copying := some load }

/-- LIBRARY_VERIFICATION_COMPLETE (R299, R300). -/
def execLibraryVerificationComplete (h : HalfId) (ofs : BlockOfs) (s : State) : Host.Outcome State Fault Refusal :=
  .next (s.on h fun x =>
    if x.libState ≠ 2 ∨ !x.live then x
    else
      match x.verifyBank x.bankOut (x.get Adr.MSG_LIB_COMMIT 0 13) with
      | some (r, m) => (((x.setLib 1).event Adr.MSG_EVENT 1).latch Adr.MSG_FAULT 1).wrNat Adr.MSG_LIB_DETAIL (2 ^ 24 * r + m)
      | none =>
        let y := x.wrNat Adr.MSG_LIB_DETAIL 0
        if y.role == .active && y.partnerStandby then (y.setLib 3).startCopy true
        else y.pendLibrary y.nextGen (y.libTarget ofs))

/-- The words that a bulk copy of a bank moves: its index and the content lines of its VALID entries (R304). -/
def Half.copyWords (h : Half) (bank : Nat) : List (Nat × Word) :=
  let base := h.bankBase bank / 4
  let content := fun (i : Nat) => (h.validMessages bank).any fun m =>
    let e := h.entry bank m
    decide (16 * e.line ≤ i ∧ i < 16 * e.line + 16 * ((e.bytes + 63) / 64))
  (h.store.dram.filter fun p => decide (base ≤ p.1 ∧ p.1 < base + h.bankBytes / 4) &&
    (decide (p.1 - base < 0x8000) || content (p.1 - base))).map fun p => (p.1 - base, p.2)

/-- The partner's staging bank takes a copy: its former content and record go, as far as the copy does not overwrite it
nothing refers to it (R304). -/
def Half.takeCopy (h : Half) (ws : List (Nat × Word)) : Half :=
  let base := h.bankBase h.bankOut / 4
  let n := h.bankBytes / 4
  h.onStore fun s => { s with
    dram := ws.foldl (fun m p => insertAt (base + p.1) p.2 m)
      (dropWhere (fun i => decide (base ≤ i ∧ i < base + n)) s.dram)
    poison := s.poison.filter fun l => !decide (base ≤ 16 * l ∧ 16 * l < base + n) }

/-- A bulk copy that reaches its end (R299, R303, R304): of a load, the standby checks its copy next; of the library in
service, the partner verifies it and commits it with the same generation at its next boundary. -/
def State.finishCopy (s : State) (h : HalfId) (load : Bool) : State :=
  let act := s.half h
  let from_ := if load then act.bankOut else act.bankIn
  let ws := act.copyWords from_
  let mb := min 0xFFFF ((act.copyLength from_ + mib - 1) / mib)
  let s1 := s.on h.other fun x => x.takeCopy ws
  let s2 := s1.on h fun x => (x.wrNat Adr.MSG_BULK_STATUS mb).onStore fun t => { t with copying := none }
  if load then s2.on h fun x => x.setLib 4
  else
    s2.on h.other fun x =>
      match x.verifyBank x.bankOut (x.validMessages x.bankOut).length with
      | none =>
        let y := x.pendLibrary (act.rd Adr.MSG_LIB_GEN).toNat (x.block + 1)
        if y.get Adr.DIE_BOOT_STATUS 4 4 = 4 then y.libSource 1 else y
      | some _ => x

/-- The receiver of a copy: powered, linked, SYNCING or STANDBY, its staging bank free, with banks of the same size (R290,
R303). -/
def State.canCopy (s : State) (h : HalfId) : Bool :=
  let p := s.half h.other
  p.live && (s.half h).linkUp && (p.role == .syncing || p.role == .standby) && !p.bit Adr.MSG_STATUS 2 &&
    p.bankBytes == (s.half h).bankBytes

/-- BULK_COPY_COMPLETE: complete, or aborted by a link failure or refused for banks that differ (R290, R299, R304). -/
def execBulkCopyComplete (h : HalfId) (ok : Bool) (ofs : BlockOfs) (s : State) : Host.Outcome State Fault Refusal :=
  .next (
    match (s.half h).store.copying with
    | none => s
    | some load =>
      if ok && s.canCopy h then s.finishCopy h load
      else
        s.on h fun x =>
          let y := (x.wrNat Adr.MSG_BULK_STATUS 0x40000000).onStore fun t => { t with copying := none }
          if load then y.commitAlone 3 ofs else y.latch Adr.MSG_FAULT 3)

/-- PARTNER_VERIFY_RESULT: the standby's own verification of its copy decides; both halves write their records (R299). -/
def execPartnerVerifyResult (h : HalfId) (ofs : BlockOfs) (s : State) : Host.Outcome State Fault Refusal :=
  .next (
    let act := s.half h
    let sby := s.half h.other
    if act.libState ≠ 4 then s
    else if !act.linkUp || sby.role != .standby then s.on h fun x => x.commitAlone 2 ofs
    else
      match sby.verifyBank sby.bankOut (act.get Adr.MSG_LIB_COMMIT 0 13) with
      | some _ => s.on h fun x => x.commitAlone 2 ofs
      | none =>
        let t := act.libTarget ofs
        (s.on h fun x => x.pendLibrary x.nextGen t).on h.other fun x => x.pendLibrary act.nextGen t)

/-- PARTNER_VERIFY_TIMEOUT: no answer within 2 s (R299). -/
def execPartnerVerifyTimeout (h : HalfId) (ofs : BlockOfs) (s : State) : Host.Outcome State Fault Refusal :=
  .next (s.on h fun x => if x.libState = 3 ∨ x.libState = 4 then x.commitAlone 2 ofs else x)

/-- The standby has left STANDBY during a load (R299). -/
def Half.loadWithoutStandby (h : Half) : Half :=
  if (h.libState = 3 ∨ h.libState = 4) ∧ !h.partnerStandby then h.commitAlone 2 0 else h

/-- Step 2 of R21, after any plan commit: the library switches at its target (R299, R301). -/
def Half.switchLibrary (h : Half) : Half :=
  match h.store.pendingAt with
  | none => h
  | some t =>
    if h.libState ≠ 5 ∨ h.block < t then h
    else
      let b := h.bankOut
      let gen := h.store.be32 (h.recordBase b + 8)
      (((h.serveBank b gen).setLib 0).event Adr.MSG_EVENT 0).onStore fun s => { s with pendingAt := none, opened := false }

/-- A copy of the library in service may start (R303, R304). -/
def State.mayResync (s : State) (h : HalfId) : Bool :=
  let act := s.half h
  act.role == .active && decide (act.libState ≤ 1) && act.store.copying.isNone && act.bit Adr.MSG_STATUS 0 && s.canCopy h

/-- LIBRARY_RESYNC_COPY: the partner's generation or index CRC differs (R303). -/
def execLibraryResyncCopy (h : HalfId) (s : State) : Host.Outcome State Fault Refusal :=
  .next (
    let act := s.half h
    let sby := s.half h.other
    let differs := act.rd Adr.MSG_LIB_GEN != sby.rd Adr.MSG_LIB_GEN || act.indexCrc != sby.indexCrc
    if s.mayResync h && differs then s.on h fun x => x.startCopy false else s)

/-- A write of `BULK_CTRL.GO` (R304). -/
def State.writeBulk (s : State) (h : HalfId) : State :=
  let p := s.half h.other
  let act := s.half h
  if act.libState = 0 ∧ act.store.copying = none ∧ act.role = .active ∧ (p.role = .syncing ∨ p.role = .standby) then
    s.on h fun x => x.startCopy false
  else s

/-- Marks a message DAMAGED (R306). -/
def Half.damage (h : Half) (m : Nat) : Half :=
  if h.damaged m then h
  else ((h.putBit (Adr.MSG_DAMAGED (m / 32)) (m % 32) true).event Adr.MSG_EVENT 3).count Adr.MSG_LIB_CHECK 16 16 1

/-- LIBRARY_CHECK: every VALID message of the bank in service whose CRC fails is DAMAGED (R306). -/
def execLibraryCheck (h : HalfId) (s : State) : Host.Outcome State Fault Refusal :=
  .next (s.on h fun x =>
    if x.live && x.up .memory && x.bit Adr.MSG_STATUS 0 then
      let bad := (x.validMessages x.bankIn).filter fun m =>
        let e := x.entry x.bankIn m
        let a := x.bankBase x.bankIn + 64 * e.line
        x.store.poisoned a e.bytes || (crc32 (x.store.read a e.bytes)).toNat != e.crc
      (x.each bad Half.damage).put Adr.MSG_LIB_CHECK 0 16 0
    else x)

end Sys2Proof.Machine
end

