-- ==== Sys2Proof/Machine/Memory.lean ====
section
/-! DEFINITION. The memories' errors and retirement, the partition, the transfer engine (R283 to R294). -/

namespace Sys2Proof.Machine

open Sys2Proof

/-- Shows the spare pages of the retirement reserve (R287, R314). -/
def Half.showReserve (h : Half) : Half :=
  let n := h.boot.retired.pages.length
  (h.wrNat Adr.MEM_RETIRED (0x10000 * (4096 - n) + n % 0x10000)).putBit Adr.MEM_STATUS 3 (decide (4096 - n < 256))

/-- Retires a page of 4 KiB: its content goes to a spare page, and the list to the boot flash; with an empty reserve it
stays, with `FAULT` cause 0x0004 (R287). -/
def Half.retirePage (h : Half) (page : Nat) : Half :=
  if 4096 ≤ h.boot.retired.pages.length then h.latch Adr.MEM_FAULT 4
  else
    let h1 := h.onRetired fun r => { r with pages := r.pages ++ [page] }
    ((h1.event Adr.MEM_EVENT 2).onStore fun s => { s with corrected := s.corrected.filter fun c => c.1 != page }).showReserve

/-- The ages of the errors of one page or row within 24 h, this one included (R287, R292). -/
def Half.recentErrors (h : Half) (l : List (Nat × List Nat)) (k : Nat) : List Nat :=
  h.age :: (lookAt (fun _ => []) l k).filter fun a => decide (h.age < a + dayBlocks)

/-- DRAM_CORRECTED_READ (R285, R287). -/
def execDramCorrectedRead (h : HalfId) (addr : Word) (two : Bool) (s : State) : Host.Outcome State Fault Refusal :=
  .next (s.on h fun x =>
    if x.live && x.up .memory then
      let page := addr.toNat / 4096
      let ages := x.recentErrors x.store.corrected page
      let y := (((x.count Adr.MEM_CORR_CNT 0 32 1).event Adr.MEM_EVENT 0).life .dramCorr 1).onStore fun t => { t with
        corrected := insertAt page ages t.corrected }
      if two || decide (3 ≤ ages.length) then y.retirePage page else y
    else x)

/-- Captures an uncorrectable error (R285, R314). -/
def Half.uncorrectable (h : Half) (addr : Nat) : Half :=
  let h1 := (((h.count Adr.MEM_UNCORR_CNT 0 32 1).event Adr.MEM_EVENT 1).wr64 (Adr.MEM_ERR_ADDR 0) addr).wrNat
    Adr.MEM_ERR_INFO (0x80000000 + 0x1000000 * h.storeRegion addr)
  (h1.life .dramUncorr 1).onStore fun t => { t with poison := addr / 64 :: t.poison.filter (· != addr / 64) }

/-- The samples of a node are missing in this block (R238); R239 makes no digest void for it. -/
def Half.nodeMissing (h : Half) (n : Nat) : Half :=
  h.onGraph fun g => { g with missing := n :: g.missing.filter (· != n) }

/-- The message of the bank in service that an address belongs to. -/
def Half.messageAt (h : Half) (addr : Nat) : Option Nat :=
  let base := h.bankBase h.bankIn
  (h.validMessages h.bankIn).find? fun m =>
    let e := h.entry h.bankIn m
    decide (base + 64 * e.line ≤ addr ∧ addr < base + 64 * e.line + e.bytes)

/-- The consequence of a poisoned line for its data (R285). -/
def Half.poisonHits (h : Half) (addr : Nat) (use : DramUse) : Half :=
  match use with
  | .node n =>
    if (h.plan false).lsNodes.contains n then ((h.nodeMissing n).latch Adr.MEM_FAULT 2).giveUpFor 3 else h.nodeMissing n
  | .descriptor p r => h.ringError p r.tx r.r 5
  | .frame p => h.txUnderrun p true
  | .player p => if h.bit (Adr.MSG_PLAYER p) 31 then (h.damage (h.playerMsg p)).playerFault p 3 else h
  | .transfer => h.onStore fun t => { t with xferBad := true }
  | .other =>
    match h.storeRegion addr with
    | 0 => match h.messageAt addr with | some m => h.damage m | none => h
    | 3 => (h.latch Adr.MEM_FAULT 3).giveUpFor 3
    | _ => h

/-- DRAM_UNCORRECTABLE_READ (R285, R287). -/
def execDramUncorrectableRead (h : HalfId) (addr : Word) (use : DramUse) (s : State) : Host.Outcome State Fault Refusal :=
  .next (s.on h fun x =>
    if x.live && x.up .memory then ((x.uncorrectable addr.toNat).poisonHits addr.toNat use).retirePage (addr.toNat / 4096)
    else x).lines

/-- SCRUB_PASS_COMPLETE (R286). -/
def execScrubPassComplete (h : HalfId) (late : Bool) (s : State) : Host.Outcome State Fault Refusal :=
  .next (s.on h fun x =>
    if x.live && x.up .memory then
      ((((x.wrap Adr.MEM_SCRUB_PROGRESS 16 16 1).putBit Adr.MEM_STATUS 2 late).onStore fun t => { t with
        scrubAt := x.age }).gustDone 4 0 none)
    else x)

/-- The number under which the retirement list holds a row of an area (R291, R495). -/
def rowNumber (area : SramArea) (row : Nat) : Nat :=
  match area with
  | .placement _ => row
  | .firmware => 0x10000 + row
  | .players => 0x20000 + row
  | .index => 0x30000 + row
  | .link => 0x40000 + row
  | .transfer => 0x50000 + row

/-- Spare rows of R291 in use (R497). -/
def Half.spareRowsUsed (h : Half) : Nat := (h.boot.retired.rows.filter fun r => decide (0x10000 ≤ r)).length

/-- A row of the local store is retired: from the placement area under R248, elsewhere one of 48 spare rows
replaces it while there are any (R292, R495). -/
def Half.retireSramRow (h : Half) (area : SramArea) (row : Nat) : Half :=
  match area with
  | .placement _ => h.retireRow row
  | _ =>
    let k := rowNumber area row
    if h.boot.retired.rows.contains k then h
    else if 48 ≤ h.spareRowsUsed then h.latch Adr.HLT_FAULT 4
    else h.onRetired fun r => { r with rows := r.rows ++ [k] }

/-- SRAM_UNCORRECTABLE (R292). -/
def execSramUncorrectable (h : HalfId) (area : SramArea) (row : Fin 2048) (s : State) : Host.Outcome State Fault Refusal :=
  .next (s.on h fun x =>
    if x.live then
      let y := (((x.count Adr.MEM_SRAM_UNCORR_CNT 0 32 1).event Adr.MEM_EVENT 4).life .sramUncorr 1).wrNat Adr.MEM_ERR_INFO 0xC0000000
      let z := match area with
        | .placement n => y.nodeMissing n
        | .firmware => y.giveUpFor 3
        | _ => y
      z.retireSramRow area row
    else x).lines

/-- SRAM_CORRECTED_READ (R292). -/
def execSramCorrectedRead (h : HalfId) (area : SramArea) (row : Fin 2048) (s : State) : Host.Outcome State Fault Refusal :=
  .next (s.on h fun x =>
    if x.live then
      let k := rowNumber area row
      let ages := x.recentErrors x.store.sramRows k
      let y := (((x.count Adr.MEM_SRAM_CORR_CNT 0 32 1).event Adr.MEM_EVENT 5).life .sramCorr 1).onStore fun t => { t with
        sramRows := insertAt k ages t.sramRows }
      if 3 ≤ ages.length then y.retireSramRow area row else y
    else x)

/-- The sizes that R289 allows, in steps of 64 MiB. -/
def goodPartition (b c : Nat) : Bool := inRange 1 16 b && decide (c ≤ 48) && decide (128 * b + 64 * c + 512 ≤ 3840)

/-- The situation in which R290 lets the partition change. -/
def Half.partitionAllowed (h : Half) : Bool :=
  match h.role with
  | .offline | .isolated => true
  | .active =>
    let partner := match h.rdn.view with
      | some v => h.bit Adr.RDN_STATUS 5 && (v.role == 1 || v.role == 2)
      | none => false
    !partner && !h.anyAlarm && !((List.range 64).any fun p => h.bit (Adr.MSG_PLAYER p) 31)
  | _ => false

/-- The confirmed value of `PARTITION`: both banks without a commit record, the recorder ring clear (R290). -/
def Half.writePartition (h : Half) (q : Req) (v : Word) : Half :=
  if !goodPartition (getBits v 8 8) (getBits v 0 8) || !h.partitionAllowed then h.pwRefuse q Adr.MEM_PARTITION
  else
    let h1 := h.wrNat Adr.MEM_PARTITION (v.toNat % 0x10000)
    let h2 := ((h1.eraseRecord 0).eraseRecord 1).onStore fun t => { t with
      dram := dropWhere (fun i => decide (h1.recBase ≤ 4 * i ∧ 4 * i < h1.recBase + h1.recBytes)) t.dram
      opened := false, pendingAt := none, copying := none }
    let h3 := (((h2.putBit Adr.MSG_STATUS 0 false).putBit Adr.MSG_BULK_STATUS 31 false).setLib 0).wrNat Adr.REC_SIZE (64 * getBits v 0 8)
    { (h3.wrNat Adr.REC_WRITE_OFS 0).wrNat Adr.REC_OLDEST_OFS 0 with recd := { h3.recd with ring := [], session := true } }

/-- Base and size of a transfer area (R293). -/
def Half.xferArea (h : Half) (area : Nat) : Nat × Nat :=
  match area with
  | 0 => (h.bankBase h.bankOut, h.bankBytes)
  | 1 => (h.bankBase h.bankIn, h.bankBytes)
  | _ => (h.recBase, h.recBytes)

/-- The cause that refuses a transfer; a GO while BUSY has none in R314, and its cause is free (R293, R294, log entry 1). -/
def Half.xferRefusal (h : Half) (area : Nat) (pio : Bool) : Option Nat :=
  let ofs := h.get Adr.MEM_XFER_OFFSET 0 32
  let len := h.get Adr.MEM_XFER_LEN 0 25
  let roleOk := match h.role with | .active | .offline | .isolated => true | _ => false
  let dma := !h.bit Adr.DIE_STRAPS 1 && h.bit Adr.HOST_LINK 16
  if area = 3 then some 1
  else if area = 0 ∧ (!roleOk || decide (1 < h.libState)) then some 1
  else if area = 0 ∧ h.bit Adr.MSG_STATUS 2 then some 2
  else if len = 0 ∨ len % 64 ≠ 0 ∨ 0x1000000 < len ∨ (h.xferArea area).2 < ofs + len then some 3
  else if !pio && !dma then some 6
  else none

/-- A refused transfer (R294). -/
def Half.xferError (h : Half) (cause : Nat) : Half :=
  ((h.putBit Adr.MEM_XFER_STATUS 30 true).put Adr.MEM_XFER_STATUS 24 4 cause).event Adr.MEM_EVENT 3

/-- A write of `XFER_CTRL` (R293, R294). -/
def Half.writeXferCtrl (h : Half) (v : Word) : Half :=
  let area := getBits v 0 2
  let pio := bitAt v 2
  if !bitAt v 31 then h
  else if h.bit Adr.MEM_STATUS 1 then
    let (c, h1) := h.fresh 4
    h1.xferError c.toNat
  else
    match h.xferRefusal area pio with
    | some c => (h.put Adr.MEM_XFER_STATUS 0 24 0).xferError c
    | none =>
      let len := h.get Adr.MEM_XFER_LEN 0 25
      let h1 := if area = 0 ∧ !h.store.opened then ((h.eraseRecord h.bankOut).setLib 1).onStore fun t => { t with opened := true } else h
      ((h1.wrNat Adr.MEM_XFER_STATUS (0x80000000 + len / 64)).putBit Adr.MEM_STATUS 1 true).onStore fun t => { t with
        xferArea := area, xferPio := pio, xferOfs := h.get Adr.MEM_XFER_OFFSET 0 32, xferLeft := len, xferBad := false }

/-- A transfer ends: BUSY falls; a poisoned source line is reported with cause 0x5 (R285, R293). -/
def Half.xferEnd (h : Half) (cause : Nat) : Half :=
  let h1 := (h.wrNat Adr.MEM_XFER_STATUS 0).putBit Adr.MEM_STATUS 1 false
  let c := if cause = 0 ∧ h.store.xferBad then 5 else cause
  let h2 := h1.onStore fun t => { t with xferLeft := 0, xferBad := false }
  if c = 0 then h2 else h2.xferError c

/-- The place of the transfer in the store. -/
def Half.xferAt (h : Half) : Nat := (h.xferArea h.store.xferArea).1 + h.store.xferOfs

/-- The word that a PIO read of `XFER_DATA` returns; 0 outside a transfer to the host (R293). -/
def Half.xferDataValue (h : Half) : Word :=
  if h.bit Adr.MEM_STATUS 1 && h.store.xferPio && h.store.xferArea != 0 then h.store.word (h.xferAt / 4) else 0

/-- A PIO access of `XFER_DATA`: 4 bytes move in store order, and the offset advances; the last access ends the transfer
(R293). An access against the transfer's direction moves nothing. -/
def Half.xferAccess (h : Half) (write : Bool) (data : Word) : Half :=
  if h.bit Adr.MEM_STATUS 1 && h.store.xferPio && (write == (h.store.xferArea == 0)) then
    let h1 := h.onStore fun t =>
      let t1 := if write then t.setWord (h.xferAt / 4) data else { t with xferBad := t.xferBad || t.poisoned h.xferAt 4 }
      { t1 with xferOfs := t.xferOfs + 4, xferLeft := t.xferLeft - 4 }
    let h2 := h1.put Adr.MEM_XFER_STATUS 0 24 ((h1.store.xferLeft + 63) / 64)
    if h2.store.xferLeft = 0 then h2.xferEnd 0 else h2
  else h

/-- XFER_COMPLETE: a DMA transfer ends; into the staging bank the host's bytes are stored (R293, R294). -/
def execXferComplete (h : HalfId) (ok : Bool) (data : List Byte) (s : State) : Host.Outcome State Fault Refusal :=
  .next (s.on h fun x =>
    if x.bit Adr.MEM_STATUS 1 && !x.store.xferPio then
      if !ok then x.xferEnd 4
      else if x.store.xferArea = 0 then (x.onStore fun t => t.write x.xferAt (data.take t.xferLeft)).xferEnd 0
      else (x.onStore fun t => { t with xferBad := t.xferBad || t.poisoned x.xferAt t.xferLeft }).xferEnd 0
    else x)

/-- Step 2 of R540: the memory is ready, the retirement list applied. -/
def Half.applyRetirements (h : Half) : Half :=
  let placed := (h.boot.retired.rows.filter fun r => decide (r < 0x10000)).length
  ((((h.putBit Adr.MEM_STATUS 0 true).onStore fun t => { t with scrubAt := h.age }).showReserve).onGraph fun g => { g with
    retiredRows := placed }).retiredEngines

end Sys2Proof.Machine
end

