-- ==== Sys2Proof/Machine/Alarm.lean ====
section
/-! DEFINITION. The alarm path (R261 to R282): routes, authentication, replies, EVAC inputs, the command log, held
commands. -/

namespace Sys2Proof.Machine

open Sys2Proof

/-- Changes the Alarm path's working state. -/
def Half.onAlarm (h : Half) (f : AlarmSt → AlarmSt) : Half := { h with alarm := f h.alarm }

/-- The zones that a bitmap of n bits names. -/
def zonesOf (mask : Nat) : List Nat := maskBits 256 mask

/-- The bitmap of a list of zones. -/
def zoneMask (zs : List Nat) : Nat := maskOf 256 fun z => zs.contains z

/-- The nine items of a log record (R281). -/
def AlarmCmd.record (c : AlarmCmd) (result : Nat) : List Nat :=
  let m := zoneMask c.zones
  [2 ^ 48 * result + 2 ^ 40 * (c.code % 256) + 2 ^ 36 * (c.prio % 16) + 2 ^ 32 * (c.key % 16) + c.seq % 2 ^ 32,
   2 ^ 52 * c.route + 2 ^ 48 * ((if c.route = 2 then c.mark.getD 0 else 0) % 16) + 2 ^ 32 * (c.source % 2 ^ 16)
     + c.issuer % 2 ^ 32,
   c.ptp / 1000000000 % 2 ^ 48,
   2 ^ 49 * ofBool c.noTime + 2 ^ 48 * ofBool (c.flags % 4 != 0) + c.ptp % 1000000000]
  ++ (List.range 5).map fun j => m / 2 ^ (56 * j) % 2 ^ 56

/-- Logs a command with its result; an execution sets `EVENT.CMD`, a refusal other than DUPLICATE `EVENT.CMD_REJECT`
(R281). -/
def Half.logCmd (h : Half) (c : AlarmCmd) (result : Nat) : Half :=
  let h1 := if c.logged then h else h.hwPush 9 6 (c.record result)
  if result = 0 ∨ result = 2 then h1.event Adr.ALM_EVENT 0
  else if 0x10 ≤ result then h1.event Adr.ALM_EVENT 1
  else h1

/-- The payload of a reply (R268, R271). -/
def Half.replyPayload (h : Half) (c : AlarmCmd) (result ptp : Nat) (zs : List Nat) : List Byte :=
  let m := zoneMask zs
  let body := [0x42, 0x53, 0x59, 0x41, 0x01] ++ beBytes 1 (0x80 + c.code) ++ beBytes 1 c.key ++ beBytes 1 c.prio
    ++ beBytes 4 c.seq ++ beBytes 4 c.issuer ++ leBytes 32 m ++ beBytes 2 c.source ++ beBytes 2 (256 * result)
    ++ beBytes 6 (ptp / 1000000000) ++ beBytes 4 (ptp % 1000000000) ++ List.replicate 18 0
  body ++ (hmacSha256 (getAt h.keys c.key []) body).take 16

/-- The reply of the ACTIVE half to a network command, express, from the service address (R96, R271). What the spec does
not give of the IPv4 header, and the source port, is free (log entry 1). -/
def Half.reply (h : Half) (c : AlarmCmd) (result ofs : Nat) (zs : List Nat) : Half :=
  match c.reply with
  | none => h
  | some (p, ip, port, da) =>
    let svc := (h.netOf p).svcIp.toNat
    if h.role ≠ .active ∨ !h.bit Adr.ALM_CTRL 1 ∨ svc = 0 then h
    else
      let (tos, h1) := h.fresh 8
      let (ttl, h2) := h1.fresh 8
      let (sport, h3) := h2.fresh 16
      let d := udpDatagram tos.toNat ttl.toNat svc ip sport.toNat port (h.replyPayload c result (h.ptpNs ofs) zs)
      h3.queueFrame p 7 (etherFrame da (h.svcAddr p) 0x0800 d) none

/-- Shows the result of a host command in `CMD_STATUS` (R278). -/
def Half.showHost (h : Half) (c : AlarmCmd) (result : Nat) : Half :=
  if c.route = 3 then h.put Adr.ALM_CMD_STATUS 24 8 result else h

/-- A command is refused: logged, shown, and answered under check 8 (R269, R271, R278). -/
def Half.refuseCmd (h : Half) (c : AlarmCmd) (result ofs : Nat) : Half :=
  let h1 := (h.logCmd c result).showHost c result
  if result = 0x16 ∧ c.route < 2 then h1.reply c result ofs [] else h1

/-- The arbiter takes a command: its effect, its record, its answer (R262, R263, R271, R278, R281). -/
def Half.execCmd (h : Half) (c : AlarmCmd) (ofs : Nat) : Half :=
  let zs := h.validOf c.zones
  let (h1, result) := h.applyCmd c
  if c.code = 0x80 then h1
  else
    let h2 := (h1.logCmd c result).showHost c result
    if c.route < 2 then h2.reply c result ofs (if result = 0x17 then [] else zs) else h2

/-- Puts a command into its place among the accepted ones: by instant of acceptance, then by route (R264). -/
def insertCmd (c : AlarmCmd) : List AlarmCmd → List AlarmCmd
  | [] => [c]
  | d :: ds => if c.at_ < d.at_ ∨ (c.at_ = d.at_ ∧ c.route < d.route) then c :: d :: ds else d :: insertCmd c ds

/-- Accepts a command for the arbiter. -/
def Half.acceptCmd (h : Half) (c : AlarmCmd) : Half := h.onAlarm fun a => { a with queue := insertCmd c a.queue }

/-- A SYNCING or STANDBY half executes no command of its own (R279). -/
def Half.holds (h : Half) : Bool := h.role == .syncing || h.role == .standby

/-- The part of step 4 of R21 before the evaluation: every command accepted at least 2 µs before the boundary, in order
(R264); a half that holds applies none (R279). -/
def Half.applyCmds (h : Half) : Half :=
  if h.holds then h.onAlarm fun a => { a with queue := [] }
  else
    let due := h.alarm.queue.filter fun c => decide (c.at_ + 2000 ≤ h.now 0)
    due.foldl (fun (x : Half) c => x.execCmd c 0)
      (h.onAlarm fun a => { a with queue := a.queue.filter fun c => decide (h.now 0 < c.at_ + 2000) })

/-- A command of the host route, without its checks (R278). -/
def Half.hostCmd (h : Half) (code prio : Nat) (zones : List Nat) (source flags at_ : Nat) : AlarmCmd :=
  { route := 3, at_ := at_, code := code, prio := prio, zones := zones, source := source, flags := flags, mark := none
    key := 0, seq := 0, issuer := 0, noTime := false, head := [], ptp := h.ptpNs 0, logged := false, reply := none }

/-- A LIVE flag that R262 refuses. -/
def badLive (code prio flags : Nat) : Bool := flags.testBit 1 && (code != 1 || decide (prio < 12))

/-- The refusal of a host command: BAD_FORMAT, PRIORITY_DENIED (R262, R278). -/
def Half.hostRefusal (h : Half) (c : AlarmCmd) : Option Nat :=
  if c.code < 1 ∨ 6 < c.code ∨ badLive c.code c.prio c.flags then some 0x15
  else if h.get Adr.ALM_HOST_MAX_PRI 0 4 < c.prio then some 0x16
  else none

/-- A host command issued: counted, then refused or given to f (R278). -/
def Half.issueHost (h : Half) (c : AlarmCmd) (f : Half → Half) : Half :=
  let h1 := h.wrap Adr.ALM_CMD_STATUS 0 16 1
  match h.hostRefusal c with
  | some r => h1.refuseCmd c r 0
  | none => f h1

/-- A write of `CMD_GO` (R278): the command waits for the next boundary. -/
def Half.writeCmdGo (h : Half) (v : Word) : Half :=
  let zones := (List.range 8).foldl (fun m i => m + 2 ^ (32 * i) * (h.rd (Adr.ALM_CMD_ZONE i)).toNat) 0
  let arg := h.rd Adr.ALM_CMD_ARG
  let c := h.hostCmd (getBits v 8 4) (getBits v 0 4) (zonesOf zones) (getBits arg 0 16) (getBits arg 16 2) (h.now 0)
  h.issueHost c fun x => x.acceptCmd c

/-- A host-route command that the arbiter takes at once, as its step 4 does (R262, R278). -/
def Half.takeHost (h : Half) (code prio : Nat) (zones : BitVec 256) (source flags : Nat) : Half :=
  if !h.live || !h.up .control || !h.up .processing || h.holds then h
  else
    let c := h.hostCmd code prio (zonesOf zones.toNat) source flags (h.now 0)
    h.issueHost c fun x => x.execCmd c 0

/-- ACTIVATE (R262). -/
def execActivate (h : HalfId) (prio : Fin 16) (zones : BitVec 256) (source : BitVec 16) (repeats live : Bool) (s : State) :
    Host.Outcome State Fault Refusal :=
  .next (s.on h fun x => x.takeHost 1 prio zones source.toNat (ofBool repeats + 2 * ofBool live))

/-- DEACTIVATE (R262). -/
def execDeactivate (h : HalfId) (prio : Fin 16) (zones : BitVec 256) (s : State) : Host.Outcome State Fault Refusal :=
  .next (s.on h fun x => x.takeHost 2 prio zones 0 0)

/-- MUTE_BELOW (R262). -/
def execMuteBelow (h : HalfId) (prio : Fin 16) (zones : BitVec 256) (s : State) : Host.Outcome State Fault Refusal :=
  .next (s.on h fun x => x.takeHost 3 prio zones 0 0)

/-- TONE (R262). -/
def execTone (h : HalfId) (prio : Fin 16) (zones : BitVec 256) (source : BitVec 16) (s : State) :
    Host.Outcome State Fault Refusal :=
  .next (s.on h fun x => x.takeHost 4 prio zones source.toNat 0)

/-- CLEAR (R262). -/
def execClear (h : HalfId) (prio : Fin 16) (zones : BitVec 256) (s : State) : Host.Outcome State Fault Refusal :=
  .next (s.on h fun x => x.takeHost 5 prio zones 0 0)

/-- TEST (R262). -/
def execTest (h : HalfId) (prio : Fin 16) (zones : BitVec 256) (s : State) : Host.Outcome State Fault Refusal :=
  .next (s.on h fun x => x.takeHost 6 prio zones 0 0)

/-- The UDP datagram of a frame of alarm class (R266): IPv4 without options or fragmentation, the alarm port, a non-zero
alarm group, UDP length 104. -/
def Half.alarmUdp (h : Half) (f : Parsed) : Option Udp :=
  match f.udp with
  | some d =>
    let group := [0, 1].any fun i => (h.rd (Adr.ALM_DST_IP i)).toNat != 0 && (h.rd (Adr.ALM_DST_IP i)).toNat == d.dstIp
    if byteAt f.body 0 = 0x45 ∧ d.dstPort = h.get Adr.ALM_UDP_PORT 0 16 ∧ group ∧ d.payload.length = 96 then some d else none
  | none => none

/-- The command that an alarm frame spells (R268). -/
def AlarmFrame.cmd (f : AlarmFrame) (d : Udp) (at_ : Nat) (noTime : Bool) : AlarmCmd :=
  let b := d.payload
  { route := f.port, at_ := at_, code := byteAt b 5, prio := byteAt b 7 % 16, zones := zonesOf (leNat (slice b 16 32))
    source := beAt b 48 2, flags := beAt b 50 2, mark := none, key := byteAt b 6 % 8, seq := beAt b 8 4
    issuer := beAt b 12 4, noTime := noTime, head := b.take 80, ptp := f.ptp, logged := false
    reply := some (f.port, d.srcIp, d.srcPort, slice f.bytes 6 6) }

/-- The issuer entry that a frame's ISSUER names (R269). -/
def Half.issuerOf (h : Half) (id : Nat) : Option Nat :=
  (List.range 16).find? fun i => h.bit (Adr.ALM_ISSUER_CFG i) 31 && (h.rd (Adr.ALM_ISSUER_ID i)).toNat == id

/-- The level of issuer i's bucket at an instant, in 1/10^9 of a token (R272). -/
def Half.bucketLevel (h : Half) (i t : Nat) : Nat :=
  let depth := 1000000000 * clampNat 1 64 (h.get Adr.ALM_AUTH_BUCKET 16 8)
  match h.alarm.buckets.find? fun b => b.1 == i with
  | some (_, level, since) => min depth (level + (t - since) * clampNat 1 1000 (h.get Adr.ALM_AUTH_BUCKET 0 16))
  | none => depth

/-- Sets the level of issuer i's bucket. -/
def Half.setBucket (h : Half) (i level t : Nat) : Half :=
  h.onAlarm fun a => { a with buckets := insertAt i (level, t) a.buckets }

/-- A write of `AUTH_BUCKET` limits every bucket to the new depth at once (R272). -/
def Half.limitBuckets (h : Half) : Half :=
  h.onAlarm fun a => { a with buckets := a.buckets.map fun b => (b.1, h.bucketLevel b.1 (h.now 0), h.now 0) }

/-- Check 3 of R269. -/
def badFrame (b : List Byte) (c : AlarmCmd) : Bool :=
  b.take 4 != [0x42, 0x53, 0x59, 0x41] || byteAt b 4 != 1 || decide (c.code < 1 ∨ 6 < c.code) || byteAt b 6 / 8 != 0
    || byteAt b 7 / 16 != 0 || decide (4 ≤ c.flags) || badLive c.code c.prio c.flags || (slice b 62 18).any (· != 0)

/-- Sequence s is new after last (R270). -/
def newSeq (last s : Nat) : Bool := let d := (s + 2 ^ 32 - last) % 2 ^ 32; decide (1 ≤ d ∧ d < 2 ^ 31)

/-- Check 6 of R269 at issuer i: against `LAST_SEQ`, on a half that holds against its held commands as well (R270, R279). -/
def Half.seqCheck (h : Half) (i : Nat) (c : AlarmCmd) : Option Nat :=
  let held := if h.holds then h.alarm.held.filter fun d => d.issuer == c.issuer else []
  match held.find? fun d => d.seq == c.seq with
  | some d => some (if d.head = c.head then 1 else 0x13)
  | none =>
    let last := (h.rd (Adr.ALM_ISSUER_LAST_SEQ i)).toNat
    if h.bit (Adr.ALM_ISSUER_CFG i) 30 && !newSeq last c.seq then
      some (if c.seq = last ∧ (h.alarm.lastHead.find? fun x => x.1 == i).map (·.2) = some c.head then 1 else 0x13)
    else if held.any fun d => !newSeq d.seq c.seq then some 0x13
    else none

/-- Checks 3 to 8 of R269 at issuer i: the result of the first that fails. -/
def Half.frameCheck (h : Half) (i : Nat) (b : List Byte) (c : AlarmCmd) (ofs : Nat) : Option Nat :=
  let key := getAt h.keys c.key []
  let sent : Int := ((beAt b 52 6 * 1000000000 + beAt b 58 4 : Nat) : Int)
  let window := 1000000 * clampNat 10 60000 (h.get Adr.ALM_TIME_WINDOW 0 16)
  if badFrame b c then some 0x15
  else if !h.bit (Adr.ALM_ISSUER_CFG i) (16 + c.key) || key.isEmpty then some 0x12
  else if (hmacSha256 key c.head).take 16 ≠ slice b 80 16 then some 0x10
  else
    match h.seqCheck i c with
    | some r => some r
    | none =>
      if !c.noTime && decide (window < (sent - h.ptpNs ofs).natAbs) then some 0x14
      else if h.get (Adr.ALM_ISSUER_CFG i) 0 4 < c.prio then some 0x16
      else none

/-- `LAST_SEQ`, `SEQ_VALID` and the bytes of issuer i's last accepted frame (R270). -/
def Half.setLastSeq (h : Half) (i : Nat) (c : AlarmCmd) : Half :=
  ((h.wrNat (Adr.ALM_ISSUER_LAST_SEQ i) c.seq).putBit (Adr.ALM_ISSUER_CFG i) 30 true).onAlarm fun a => { a with
    lastHead := insertAt i c.head a.lastHead }

/-- An alarm-class frame at the authenticator (R269 to R272, R279). -/
def Half.authenticate (h : Half) (f : AlarmFrame) (ofs : Nat) : Half :=
  match h.alarmUdp (parseFrame f.bytes) with
  | none => h
  | some d =>
    let c := f.cmd d (h.now ofs) (!h.bit Adr.TIM_STATUS 2)
    match h.issuerOf c.issuer with
    | none => h.refuseCmd c 0x11 ofs
    | some i =>
      let src := (h.rd (Adr.ALM_ISSUER_SRC_IP i)).toNat
      let level := h.bucketLevel i (h.now ofs)
      if src ≠ 0 ∧ src ≠ d.srcIp then h.refuseCmd c 0x19 ofs
      else if level < 1000000000 then h.refuseCmd c 0x18 ofs
      else
        let h1 := h.setBucket i (level - 1000000000) (h.now ofs)
        match h1.frameCheck i d.payload c ofs with
        | some r => h1.refuseCmd c r ofs
        | none =>
          if h1.holds then (h1.logCmd c 3).onAlarm fun a => { a with held := a.held ++ [{ c with logged := true }] }
          else (h1.setLastSeq i c).acceptCmd { c with reply := if h1.role = .active then c.reply else none }

/-- ALARM_FRAME (R269). -/
def execAlarmFrame (h : HalfId) (ofs : BlockOfs) (s : State) : Host.Outcome State Fault Refusal :=
  .next (s.on h fun x =>
    match x.alarm.waiting with
    | f :: rest => (x.onAlarm fun a => { a with waiting := rest }).authenticate f ofs
    | [] => x)

/-- AUTH_QUEUE_TIMEOUT: the frame is discarded with POLICED (R272). -/
def execAuthQueueTimeout (h : HalfId) (s : State) : Host.Outcome State Fault Refusal :=
  .next (s.on h fun x =>
    match x.alarm.waiting with
    | f :: rest =>
      let y := x.onAlarm fun a => { a with waiting := rest }
      match y.alarmUdp (parseFrame f.bytes) with
      | some d => y.refuseCmd (f.cmd d (y.now 0) (!y.bit Adr.TIM_STATUS 2)) 0x18 0
      | none => y
    | [] => x)

/-- HELD_COMMAND_EXPIRY (R279). -/
def execHeldCommandExpiry (h : HalfId) (s : State) : Host.Outcome State Fault Refusal :=
  .next (s.on h fun x => x.onAlarm fun a => { a with held := a.held.drop 1 })

/-- A write of `ISSUER[i].CFG` clears SEQ_VALID and fills the bucket (R270, R272). -/
def Half.writeIssuerCfg (h : Half) (i : Nat) (v : Word) : Half :=
  (h.wrNat (Adr.ALM_ISSUER_CFG i) (v.toNat &&& 0x80FF000F)).onAlarm fun a => { a with
    lastHead := a.lastHead.filter fun x => x.1 != i
    buckets := a.buckets.filter fun x => x.1 != i }

/-- The confirmed value of `KEY_LOAD`: the slot takes `KEY_DATA` or is erased, and `KEY_DATA` is cleared (R282). -/
def Half.writeKeyLoad (h : Half) (v : Word) : Half :=
  let slot := getBits v 0 3
  let key := if bitAt v 31 then [] else ((List.range 8).map fun i => beBytes 4 (h.rd (Adr.ALM_KEY_DATA i)).toNat).flatten
  let h1 := ({ h with keys := setAt h.keys slot key }).putBit Adr.ALM_KEY_STATUS slot (!bitAt v 31)
  (h1.each (List.range 8) fun x i => x.wrNat (Adr.ALM_KEY_DATA i) 0).wrNat Adr.ALM_KEY_LOAD (v.toNat &&& 0x80000007)

/-- The words of entry e of the alarm action table (R276). -/
def Half.actionWord (h : Half) (e i : Nat) : Word := h.rd (0x6000000 + 64 * e + 4 * i)

/-- The command of entry e, when it is valid (R276). -/
def Half.actionCmd (h : Half) (e at_ : Nat) : Option AlarmCmd :=
  let w := h.actionWord e 0
  let code := getBits w 24 4
  if !bitAt w 31 || (code != 1 && code != 4) then none
  else
    let zones := (List.range 8).foldl (fun m i => m + 2 ^ (32 * i) * (h.actionWord e (1 + i)).toNat) 0
    some { h.hostCmd code (getBits w 20 4) (zonesOf zones) (getBits w 0 16) (getBits w 16 2) at_ with
      route := 2, mark := some e }

/-- Entry e is triggered: executed as a command of the EVAC route; on a half that holds, logged HELD (R276, R279). -/
def Half.trigger (h : Half) (e ofs : Nat) : Half :=
  match h.actionCmd e (h.now ofs) with
  | none => h
  | some c =>
    if h.holds then h.logCmd c 3
    else if badLive c.code c.prio c.flags then h.refuseCmd c 0x15 ofs
    else (h.acceptCmd c).onAlarm fun a => { a with flags := e :: a.flags.filter (· != e) }

/-- The trigger of entry e ends: without LATCH, what the entry created is removed (R277, R279). -/
def Half.untrigger (h : Half) (e ofs : Nat) : Half :=
  if h.holds then h
  else
    let h1 := h.onAlarm fun a => { a with flags := a.flags.filter (· != e) }
    if bitAt (h.actionWord e 0) 19 then h1
    else h1.acceptCmd { h.hostCmd 0x80 0 [] 0 0 (h.now ofs) with route := 2, mark := some e }

/-- The input's bits: enabled, active, class. -/
def Half.evacOn (h : Half) (i : Nat) : Bool := h.bit Adr.ALM_EVAC_CFG i
def Half.evacActive (h : Half) (i : Nat) : Bool := h.bit (Adr.ALM_EVAC_STATUS i) 5
def Half.evacClass (h : Half) (i : Nat) : Nat := h.get (Adr.ALM_EVAC_STATUS i) 0 3

/-- An input becomes active or ceases to be (R275 to R277). -/
def Half.setEvacActive (h : Half) (i : Nat) (on : Bool) (ofs : Nat) : Half :=
  if h.evacActive i = on then h
  else
    let h1 := ((h.putBit (Adr.ALM_EVAC_STATUS i) 5 on).putBit Adr.ALM_STATUS (8 + i) on).event Adr.ALM_EVENT 2
    if on then h1.trigger i ofs else h1.untrigger i ofs

/-- An input takes a class (R274 to R277): 0 NORMAL, 1 ACTIVE, 2 OPEN, 3 SHORT, 4 UNKNOWN. -/
def Half.takeClass (h : Half) (i cls ofs : Nat) : Half :=
  let old := h.evacClass i
  if old = cls then h
  else
    let wiring := decide (2 ≤ old) || decide (2 ≤ cls)
    let last := (h.alarm.lastClass.find? fun x => x.1 == i).map (·.2)
    let h1 := h.put (Adr.ALM_EVAC_STATUS i) 0 3 cls
    let h2 := if wiring then h1.event Adr.ALM_EVENT 3 else h1
    let h3 := if cls = 4 then h2 else h2.onAlarm fun a => { a with lastClass := insertAt i cls a.lastClass }
    let h4 :=
      if (cls = 2 ∨ cls = 3) ∧ (last = some 0 ∨ last = some 1) ∧ !h.alarm.episode.contains i then
        (h3.onAlarm fun a => { a with episode := i :: a.episode }).trigger (8 + i) ofs
      else if (cls = 0 ∨ cls = 1) ∧ h.alarm.episode.contains i then
        (h3.onAlarm fun a => { a with episode := a.episode.filter (· != i) }).untrigger (8 + i) ofs
      else h3
    if cls = 1 then h4.setEvacActive i true ofs else h4

/-- `EVAC_CFG` as it stands: a disabled input is UNKNOWN and not active (R274, R275). -/
def Half.evacCfgChanged (h : Half) : Half :=
  h.each (List.range 8) fun x i =>
    if x.evacOn i then x else ((x.takeClass i 4 0).setEvacActive i false 0).putBit (Adr.ALM_EVAC_STATUS i) 4 false

/-- The EVAC inputs are measured. -/
def Half.evacRuns (h : Half) (i : Nat) : Bool := h.live && h.up .control && h.evacOn i

/-- The class that the loop resistance R gives input i: from a known class a boundary is passed at 1.05 of its value upward
and at 0.95 downward, from UNKNOWN at its value; UNKNOWN without valid output (R274). -/
def Half.evacReads (h : Half) (i : Nat) : Nat :=
  let r := 100 * (h.rd (Adr.SNS_DERIVED (64 + i))).toNat
  let rank : Option Nat := getAt [some 2, some 1, some 3, some 0] (h.evacClass i) none
  let edge := fun (j th : Nat) => th * (match rank with | none => 100 | some k => if k ≤ j then 105 else 95)
  let passed := fun (j a : Nat) => ofBool (decide (edge j (h.get a 0 18) ≤ r))
  if h.bit (Adr.SNS_STATUS (64 + i)) 0 then
    getAt [3, 1, 0, 2] (passed 0 Adr.ALM_TH_SHORT + passed 1 Adr.ALM_TH_ACTIVE + passed 2 Adr.ALM_TH_OPEN) 4
  else 4

/-- EVAC_DEBOUNCE_EXPIRY: the class that R has given for `EVAC_DEBOUNCE` is taken (R274, R276). -/
def execEvacDebounceExpiry (h : HalfId) (i : Fin 8) (ofs : BlockOfs) (s : State) : Host.Outcome State Fault Refusal :=
  .next (s.on h fun x => if x.evacRuns i && x.evacReads i != 4 then x.takeClass i (x.evacReads i) ofs else x)

/-- COMPARATOR_IN_WINDOW (R275). -/
def execComparatorInWindow (h : HalfId) (i : Fin 8) (ofs : BlockOfs) (s : State) : Host.Outcome State Fault Refusal :=
  .next (s.on h fun x =>
    if x.evacRuns i then (x.putBit (Adr.ALM_EVAC_STATUS i) 4 true).setEvacActive i true ofs else x)

/-- EVAC_RELEASE_EXPIRY: the comparator is out of window, and the class is not ACTIVE (R275, R277). -/
def execEvacReleaseExpiry (h : HalfId) (i : Fin 8) (ofs : BlockOfs) (s : State) : Host.Outcome State Fault Refusal :=
  .next (s.on h fun x =>
    if x.evacRuns i && x.evacClass i != 1 then
      (x.putBit (Adr.ALM_EVAC_STATUS i) 4 false).setEvacActive i false ofs
    else x)

/-- COMPARATOR_DISAGREE: not judged while the class is UNKNOWN (R275). -/
def execComparatorDisagree (h : HalfId) (i : Fin 8) (s : State) : Host.Outcome State Fault Refusal :=
  .next (s.on h fun x =>
    if x.evacRuns i && x.evacClass i != 4 then (x.event Adr.ALM_EVENT 4).latch Adr.ALM_FAULT 2 else x)

/-- Held commands that the mirror stream shows as taken, or that the half has applied, are discarded (R279). -/
def Half.dropHeld (h : Half) (i : Nat) : Half :=
  let id := (h.rd (Adr.ALM_ISSUER_ID i)).toNat
  let last := (h.rd (Adr.ALM_ISSUER_LAST_SEQ i)).toNat
  if !h.bit (Adr.ALM_ISSUER_CFG i) 30 then h
  else
    let gone := h.alarm.held.filter fun c => c.issuer == id && !newSeq last c.seq
    h.onAlarm fun a => { a with
      held := a.held.filter fun c => !gone.contains c
      lastHead := match gone.find? fun c => c.seq == last with
        | some c => insertAt i c.head a.lastHead
        | none => a.lastHead }

/-- Puts a held command into its place by sequence among those of its issuer (R279). -/
def insertSeq (c : AlarmCmd) : List AlarmCmd → List AlarmCmd
  | [] => [c]
  | d :: ds => if d.issuer = c.issuer ∧ newSeq c.seq d.seq then c :: d :: ds else d :: insertSeq c ds

/-- The first block boundary as ACTIVE: held commands whose sequences are new, and the alarm action entries whose flags
and triggers differ (R279). The half applies them with the commands of this boundary. -/
def Half.firstAlarms (h : Half) : Half :=
  if !h.alarm.firstBoundary || h.role != .active then h
  else
    let held := h.alarm.held.foldl (fun l c => insertSeq c l) []
    let h0 := h.onAlarm fun a => { a with held := [], firstBoundary := false }
    let h1 := held.foldl (fun (x : Half) c =>
      match x.issuerOf c.issuer with
      | some i => if (x.seqCheck i c).isNone then (x.setLastSeq i c).acceptCmd { c with at_ := 0 } else x
      | none => x) h0
    let holds := fun (x : Half) (e : Nat) => if e < 8 then x.evacActive e else x.alarm.episode.contains (e - 8)
    (h1.each (List.range 16) fun x e =>
      if holds x e && !x.alarm.flags.contains e then x.trigger e 0
      else if !holds x e && x.alarm.flags.contains e then x.untrigger e 0
      else x).onAlarm fun a =>
        { a with queue := a.queue.map (fun c => if c.at_ = h.now 0 then { c with at_ := c.at_ - 2000 } else c) }

end Sys2Proof.Machine
end

