-- ==== Sys2Proof/Machine/GraphRun.lean ====
section
/-! DEFINITION. What the engines compute in a block (R205 to R215, R219, R220, R228, R229, R235 to R239): sources, nodes,
missing nodes, outputs, meters. -/

namespace Sys2Proof.Machine

open Sys2Proof

/-- The factor of a level of n / d in 1/128 dB (R209). -/
def levelWord (n : Int) (d : Nat) : Word :=
  if n = 0 then fOne
  else if n = -32768 * d then 0
  else Config.dbFactor (n / Nat.gcd n.natAbs d) (d / Nat.gcd n.natAbs d)

/-- The factor of a gain with target v in 1/128 dB at a position of this block, on its ramp or past it (R228). -/
def Half.gainAt (h : Half) (key : Nat) (v : Int) (pos : Nat) : Word :=
  match h.graph.ramps.find? fun r => r.1 == key with
  | some (_, start, left) =>
    let k := left - (pos + 1)
    let len := h.fadeLen
    if k = 0 then levelWord v 1 else levelWord (start * k + v * 480 * (len - k : Nat)) (480 * len)
  | none => levelWord v 1

/-- A sample scaled by a factor; unity leaves it as it is. -/
def scale (g w : Word) : Word := if g = fOne then w else fMul w g

/-- The duration of segment s of a pattern in samples (R213). -/
def segSamples (ws : List Word) (rate : Nat) (s : Nat) : Nat := getBits (getAt ws (3 + 2 * s) 0) 16 16 * rate / 1000

/-- The segment of a pattern that holds a sample of one pass. -/
def segAt (ws : List Word) (rate : Nat) : Nat → Nat → Nat → Nat
  | 0, s, _ => s
  | fuel + 1, s, q => if q < segSamples ws rate s then s else segAt ws rate fuel (s + 1) (q - segSamples ws rate s)

/-- The sample of a tone pattern: silence after its passes and in a segment with a frequency of 0 (R213). -/
def tonePlay (ws : List Word) (rate96 : Bool) (pos : Nat) : Word :=
  let rate := if rate96 then 96000 else 48000
  let segs := getBits (getAt ws 0 0) 0 4
  let total := ((List.range segs).map (segSamples ws rate)).sum
  let passes := getBits (getAt ws 0 0) 8 8
  if total = 0 ∨ (passes ≠ 0 ∧ passes * total ≤ pos) then 0
  else
    let f := getAt ws (2 + 2 * segAt ws rate segs 0 (pos % total)) 0
    if getBits f 16 16 = 0 ∨ getBits f 0 16 = 0 then 0 else Config.toneSample ws pos rate96

/-- The words of a pattern of the plan; zeros where it is not VALID. -/
def Plan.pattern (p : Plan) (t : Nat) : List Word := ((p.tones.find? fun x => x.1 == t).map fun x => x.2).getD []

/-- What a feed plays: its source, or generator 31 in its place (R221). -/
def Feed.plays (f : Feed) : Source := if f.replaced then .tone 31 else f.src

/-- The feed that plays at a level: the one assigned first (R219). -/
def ZoneSt.first (s : ZoneSt) (l : Nat) : Option Feed := s.feeds.find? fun f => f.level == l

/-- The sources that play in this block: the first feed of each level of each zone (R219). -/
def Half.playing (h : Half) : List Source :=
  ((h.graph.zones.map fun z => (List.range 16).filterMap fun l => (z.2.first l).map Feed.plays).flatten).dedup

/-- A source over one block: left and right sample at each position, whether it is stereo. -/
structure SourceBlock where
  src : Source
  stereo : Bool
  samples : List (Word × Word)

/-- One block of each source that plays; players and generators move on (R219, R307, R213). -/
def Half.runSources (h : Half) (plan : Plan) : List SourceBlock × Half :=
  h.playing.foldl (fun (acc : List SourceBlock × Half) src =>
    let x := acc.2
    match src with
    | .player p =>
      let stereo := x.bit (Adr.MSG_PLAYER p) 28
      let (l, y) := (List.range x.blockLen).foldl (fun (a : List (Word × Word) × Half) _ =>
        let (le, ri, z) := a.2.playerStep p
        (a.1 ++ [(le, ri)], z)) ([], x)
      (acc.1 ++ [⟨src, stereo, l⟩], y)
    | .tone g =>
      match x.graph.tones.find? fun t => t.1 == g with
      | some (_, t) =>
        let ws := plan.pattern t.pattern
        let l := (List.range x.blockLen).map fun i =>
          (tonePlay ws x.rate96 (t.pos + i), tonePlay ws x.rate96 (t.pos + i))
        (acc.1 ++ [⟨src, false, l⟩], x.onGraph fun y => { y with tones := insertAt g { t with pos := t.pos + x.blockLen } y.tones })
      | none => acc) ([], h)

/-- A source spread over w channels at a position; silence while it does not play. -/
def sourceAt (srcs : List SourceBlock) (x : Source) (w pos : Nat) : List Word :=
  match srcs.find? fun b => b.src == x with
  | some b => let s := getAt b.samples pos (0, 0); spread b.stereo w s.1 s.2
  | none => List.replicate w 0

/-- The outputs of nodes over one block: node, then position, then channel. -/
abbrev Outs := List (Nat × List (List Word))

/-- The samples of port l of a node at a position: each channel from its edge, scaled, or silence (R214). -/
def Half.portIn (h : Half) (p : Plan) (outs : Outs) (n : Node) (l pos : Nat) : List Word :=
  let es := p.edges.filter fun e => e.dst == n.idx && e.port == l
  (List.range (n.portWidth l)).map fun ch =>
    match es.find? fun e => decide (e.dstCh ≤ ch ∧ ch < e.dstCh + e.count) with
    | some e =>
      let frame := getAt (((outs.find? fun o => o.1 == e.src).map fun o => o.2).getD []) pos []
      scale (h.gainAt (0x10000 + e.idx) (dB16 e.gain) pos) (getAt frame (e.srcCh + (ch - e.dstCh)) 0)
    | none => 0

/-- The ports of a node that edges feed, rising. -/
def Plan.livePorts (p : Plan) (n : Node) : List Nat :=
  (List.range n.ports).filter fun l => p.edges.any fun e => e.dst == n.idx && e.port == l

/-- One section of a BIQUAD node: coefficients b0, b1, b2, a1, a2, state x1, x2, y1, y2 (R211). -/
def biquadStep (c : List Word) (s : List Word) (x : Word) : Word × List Word :=
  let k := fun i => getAt c i 0
  let z := fun i => getAt s i 0
  let y := fAdd (fAdd (fAdd (fAdd (fMul (k 0) x) (fMul (k 1) (z 0))) (fMul (k 2) (z 1))) (fNeg (fMul (k 3) (z 2))))
    (fNeg (fMul (k 4) (z 3)))
  (y, [x, z 0, y, z 2])

/-- The sections of one channel of a BIQUAD node, in order. -/
def biquadChain (cs : List (List Word)) (rows : List (List Word)) (x : Word) : Word × List (List Word) :=
  (cs.zipIdx).foldl (fun (acc : Word × List (List Word)) c =>
    let (y, s) := biquadStep c.1 (getAt rows c.2 []) acc.1
    (y, acc.2 ++ [s])) (x, [])

/-- Runs a step with state over the positions of a block. -/
def overBlock {σ : Type} (len : Nat) (s0 : σ) (step : σ → Nat → List Word × σ) : List (List Word) × σ :=
  (List.range len).foldl (fun (acc : List (List Word) × σ) i =>
    let (o, s) := step acc.2 i
    (acc.1 ++ [o], s)) ([], s0)

/-- An INPUT node over a position (R211); the samples of a sense tap are free values (log entry 1). -/
def Half.inputAt (h : Half) (srcs : List SourceBlock) (n : Node) (pos : Nat) : List Word × Half :=
  match n.kind with
  | 0 => ((List.range n.width).map fun i => audioGet h.procIn 0 (n.first + i) pos, h)
  | 1 => ((List.range n.width).map fun i => audioGet h.procIn 1 (n.first + i) pos, h)
  | 2 => (sourceAt srcs (.player n.first) n.width pos, h)
  | 3 => (sourceAt srcs (.tone n.first) n.width pos, h)
  | _ => (List.range n.width).foldl (fun (acc : List Word × Half) _ =>
      let (v, y) := acc.2.fresh 32
      (acc.1 ++ [v], y)) ([], h)

/-- The source of level l of a PRIORITY node at a position: its first feed, else its port (R219). -/
def Half.levelAt (h : Half) (p : Plan) (srcs : List SourceBlock) (outs : Outs) (n : Node) (z : ZoneSt) (l pos : Nat) : List Word :=
  match z.first l with
  | some f => sourceAt srcs f.plays n.width pos
  | none => h.portIn p outs n l pos

/-- One sample of a PRIORITY node: the weighted sum in ascending level, then every weight moves one step (R220; the example
of *The Ashgrove graph*: sample 96 carries 96/240). -/
def Half.priorityStep (h : Half) (p : Plan) (srcs : List SourceBlock) (outs : Outs) (n : Node) (z : ZoneSt) (ws : List Nat)
    (pos : Nat) : List Word × List Nat :=
  let f := h.fadeLen
  let ws1 := (List.range 16).map fun l => if z.winner = some l then min f (getAt ws l 0 + 1) else getAt ws l 0 - 1
  let parts := ((List.range 16).filter fun l => getAt ws l 0 != 0).map fun l =>
    (h.levelAt p srcs outs n z l pos).map (scale (if getAt ws l 0 = f then fOne else fRatio (getAt ws l 0) f))
  ((List.range n.width).map fun ch => fSum (parts.map fun q => getAt q ch 0), ws1)

/-- The zone that a PRIORITY node serves. -/
def Plan.zoneOf (p : Plan) (n : Node) : Nat := ((p.zones.find? fun z => z.2 == n.idx).map fun z => z.1).getD 0

/-- One sample of a DELAY node: the tap, or both taps while it crossfades (R228). -/
def Half.delayStep (h : Half) (n : Node) (s : NodeSt) (x : List Word) : List Word × NodeSt :=
  let rows := (List.range n.width).map fun ch => (getAt x ch 0 :: getAt s.rows ch []).take 192001
  let tap := fun (d : Nat) => (List.range n.width).map fun ch => getAt (getAt rows ch []) d 0
  let left := getAt s.nums 1 0
  if left = 0 then (tap n.delay, { s with rows := rows, nums := [] })
  else
    let f := h.fadeLen
    let a := fRatio (left - 1) f
    let b := if left = 1 then fOne else fRatio (f - (left - 1)) f
    ((List.range n.width).map fun ch =>
      fAdd (fMul a (getAt (tap (getAt s.nums 0 0)) ch 0)) (fMul b (getAt (tap n.delay) ch 0)),
      { s with rows := rows, nums := [getAt s.nums 0 0, left - 1] })

/-- The parameters that an opaque detector sees: the words of the record and the rate. -/
def Node.params (n : Node) (rate96 : Bool) : List Word := n.ws ++ [BitVec.ofNat 32 (ofBool rate96)]

/-- The parameters of a node type that its state does not hold, run over one block (R211): outputs and state. -/
def Half.runNode (h : Half) (p : Plan) (srcs : List SourceBlock) (outs : Outs) (n : Node) (s : NodeSt) :
    List (List Word) × NodeSt × Half :=
  let len := h.blockLen
  let x := fun (l pos : Nat) => h.portIn p outs n l pos
  let plain := fun (o : List (List Word)) => (o, s, h)
  match n.type with
  | 0x0 =>
    let (o, y) := overBlock len h fun y i => y.inputAt srcs n i
    (o, s, y)
  | 0x1 => plain ((List.range len).map fun i => (x 0 i).map (scale (h.gainAt n.idx n.gain i)))
  | 0x2 => plain ((List.range len).map fun i =>
      let ports := (p.livePorts n).map fun l => x l i
      (List.range n.width).map fun ch =>
        scale (h.gainAt n.idx n.gain i) (fSum (ports.map fun q => getAt q ch 0)))
  | 0x3 =>
    let win := n.portWidth 0
    let row := fun (r : Nat) => (List.range win).map fun c => h.coef false (n.poolRange.1 + r * win + c)
    plain ((List.range len).map fun i => (List.range n.width).map fun r => fDot (row r) (x 0 i))
  | 0x4 =>
    let k := getBits (n.w 1) 0 4 + 1
    let cs := (List.range k).map fun j => (List.range 5).map fun c => h.coef false (n.poolRange.1 + 5 * j + c)
    let (o, rows) := overBlock len s.rows fun rows i =>
      let chans := (List.range n.width).map fun ch =>
        biquadChain cs (slice16 rows ch) (getAt (x 0 i) ch 0)
      (chans.map (·.1), (chans.map fun c => c.2 ++ List.replicate (16 - k) []).flatten)
    (o, { s with rows := rows }, h)
  | 0x5 =>
    let taps := (List.range (getBits (n.w 1) 0 10 + 1)).map fun j => h.coef false (n.poolRange.1 + j)
    let (o, rows) := overBlock len s.rows fun rows i =>
      let rows1 := (List.range n.width).map fun ch => (getAt (x 0 i) ch 0 :: getAt rows ch []).take 1024
      (rows1.map fun r => fDot taps r, rows1)
    (o, { s with rows := rows }, h)
  | 0x6 =>
    let (o, s1) := overBlock len s fun s i => h.delayStep n s (x 0 i)
    (o, s1, h)
  | 0xA =>
    let block := fun (l : Nat) => ((List.range len).map fun i => x l i).flatten
    let (nz, st) := Config.noise (n.params h.rate96) (block 0) (block 1) (getAt s.rows 0 [])
    let ref := dB16 (getBits (n.w 1) 0 16)
    let boost := dB16 (getBits (n.w 2) 0 16)
    let g := levelWord (clampInt 0 (256 * boost) ((getBits (n.w 1) 16 16 : Nat) * (nz - ref))) 256
    ((List.range len).map fun i => (x 0 i).map (scale g), { s with rows := [st] }, h)
  | 0xB =>
    let z := h.zone (p.zoneOf n)
    let (o, ws) := overBlock len s.nums fun ws i => h.priorityStep p srcs outs n z ws i
    let heard := (List.range 16).filter fun l => n.mode l == 2 &&
      fAbsGe (fPeak ((List.range len).map fun i => x l i).flatten) (levelWord (dB16 (getBits (n.w 2) 0 16)) 1)
    let y := heard.foldl (fun (y : Half) l => y.onZone (p.zoneOf n) fun st => { st with
      vox := (st.vox.filter fun v => v.1 != l) ++ [(l, h.age)] }) h
    (o, { s with nums := ws }, y)
  | 0xC =>
    let on := h.bit Adr.GRF_TONE_RUN (getBits (n.w 1) 8 5)
    let pos := if getAt s.nums 1 0 = 1 then getAt s.nums 0 0 else 0
    let ws := p.pattern (getBits (n.w 1) 0 6)
    let g := levelWord (dB16 (getBits (n.w 2) 0 16)) 1
    if on then ((List.range len).map fun i => [scale g (tonePlay ws h.rate96 (pos + i))], { s with nums := [pos + len, 1] }, h)
    else (List.replicate len [0], { s with nums := [] }, h)
  | 0xD =>
    let rows := (List.range n.width).map fun ch =>
      let xs := (List.range len).map fun i => getAt (x 0 i) ch 0
      let r := getAt s.rows ch []
      [fPeak (getAt r 0 0 :: xs), fAdd (getAt r 1 0) (fDot xs xs)]
    ([], { s with rows := rows, nums := [getAt s.nums 0 0 + 1] }, h)
  | 0xE => plain ((List.range len).map fun i => x 0 i)
  | _ =>
    let key := if n.type = 9 then 1 else 0
    let (o, st) := overBlock len (getAt s.rows 0 []) fun st i =>
      let (g, st1) := Config.dynamics (n.params h.rate96) (x key i) st
      ((x 0 i).map fun w => fMul w g, st1)
    (o, { s with rows := [st] }, h)
where
  /-- The sixteen section states of one channel. -/
  slice16 (rows : List (List Word)) (ch : Nat) : List (List Word) := (rows.drop (16 * ch)).take 16

/-- One position of a missing node: its last sample held four times, then a fade of 5 ms (R238). -/
def NodeSt.concealStep (f w : Nat) (s : NodeSt) : List Word × NodeSt :=
  let out := fun (k : Nat) => (List.range w).map fun ch => scale (if k = f then fOne else fRatio k f) (getAt s.last ch 0)
  match s.fade with
  | some k => (out (k - 1), { s with fade := some (k - 1) })
  | none => if s.miss < 4 then (out f, { s with miss := s.miss + 1 }) else (out (f - 1), { s with fade := some (f - 1) })

/-- A node that completes again: used at once after at most 4 missing positions, else its gain rises (R238). -/
def NodeSt.resume (f : Nat) (s : NodeSt) (o : List (List Word)) : List (List Word) × NodeSt :=
  let down := match s.fade with
    | some k => f - (f - s.gain) * k / f
    | none => s.gain
  let outs := if down = 0 then o else (o.zipIdx).map fun q =>
    let up := f - (down - (q.2 + 1))
    q.1.map (scale (if up = f then fOne else fRatio up f))
  (outs, { s with gain := down - o.length, fade := none, miss := 0, last := (outs.getLast?).getD [] })

/-- The state of a node. -/
def Half.nodeSt (h : Half) (i : Nat) : NodeSt := lookAt (fun _ => NodeSt.init) h.graph.nodes i

/-- Stores the state of a node. -/
def Half.setNode (h : Half) (i : Nat) (s : NodeSt) : Half :=
  h.onGraph fun g => { g with nodes := storeAt (fun _ => NodeSt.init) g.nodes i s }

/-- The nodes that are missing in the block: stopped engines, unplaced nodes, nodes on an engine that holds none (R237,
R238, R253). -/
def Half.missingNodes (h : Half) : List Nat :=
  h.graph.missing ++ h.graph.place.unplaced ++
    (h.graph.place.parts.filter fun x => h.engState x.engine != 2).map fun x => x.node

/-- One node of the block: computed, or concealed when it is missing. -/
def Half.stepNode (h : Half) (p : Plan) (srcs : List SourceBlock) (miss : List Nat) (outs : Outs) (n : Node) : Outs × Half :=
  let s := h.nodeSt n.idx
  if miss.contains n.idx then
    let (o, s1) := overBlock h.blockLen s fun s _ => s.concealStep h.fadeLen n.width
    (outs ++ [(n.idx, o)], h.setNode n.idx s1)
  else
    let (o, s1, h1) := h.runNode p srcs outs n s
    if o.isEmpty then (outs, h1.setNode n.idx s1)
    else
      let (o2, s2) := s1.resume h.fadeLen o
      (outs ++ [(n.idx, o2)], h1.setNode n.idx s2)

/-- The gain of a restart of the rate at a position: the fade of R229, else unity. -/
def Half.rateGain (h : Half) (pos : Nat) : Word :=
  if h.graph.rateFade = 0 then fOne else fRatio (h.graph.rateFade - 1 - (pos + 1)) h.fadeLen

/-- Puts an OUTPUT node into the output block: saturated, but for amplifier channels (R207, R229). -/
def Half.putOutput (h : Half) (outs : Outs) (b : List (Nat × Word)) (n : Node) : List (Nat × Word) :=
  let o := ((outs.find? fun x => x.1 == n.idx).map fun x => x.2).getD []
  (o.zipIdx).foldl (fun b q => (q.1.zipIdx).foldl (fun b c =>
    let v := scale (h.rateGain q.2) c.1
    audioPut b n.kind (n.first + c.2) q.2 (if n.kind = 2 then v else fSat v)) b) b

/-- The end of a processing period: the engines have run every node in an order consistent with the edges (R235, R236),
and the output block stands (R31). While the Processing region does not answer, its outputs are silent. -/
def Half.runBlock (h : Half) : Half :=
  if !h.up .processing then { h with outBlk := [] }
  else
    let p := h.plan false
    let (srcs, h1) := h.runSources p
    let miss := h1.missingNodes
    let (outs, h2) := p.order.foldl (fun (acc : Outs × Half) i =>
      match p.node i with
      | some n => acc.2.stepNode p srcs miss acc.1 n
      | none => acc) ([], h1)
    let blk := (p.nodes.filter fun n => n.type == 0xE).foldl (h2.putOutput outs) []
    let len := h.blockLen
    let fade := if h.graph.rateFade = 0 then 0 else max 1 (h.graph.rateFade - len)
    { h2 with
      outBlk := blk
      graph := { h2.graph with
        missing := [], rateFade := fade
        ramps := h2.graph.ramps.filterMap fun r => if r.2.2 ≤ len then none else some (r.1, r.2.1, r.2.2 - len) } }

/-- The item of one channel of a METER node (R212). -/
def meterItem (n : Node) (blocks len ch : Nat) (row : List Word) : Nat :=
  let db := fun (w : Word) => if w = 0 then 0x8000 else (Config.toDb16 w).toNat
  2 ^ 44 * n.idx + 2 ^ 38 * ch + 2 ^ 16 * db (getAt row 0 0) + db (if getAt row 1 0 = 0 then 0 else Config.rms (getAt row 1 0) (blocks * len))

/-- METER_INTERVAL: a METER node that has seen INTERVAL blocks pushes its items and starts again (R212). -/
def execMeterInterval (h : HalfId) (node : Fin 4096) (s : State) : Host.Outcome State Fault Refusal :=
  .next (s.on h fun x =>
    match (x.plan false).node node with
    | some n =>
      let st := x.nodeSt node
      let blocks := getAt st.nums 0 0
      if n.type = 0xD ∧ getBits (n.w 1) 0 16 ≤ blocks ∧ 0 < blocks then
        let items := (List.range n.width).map fun ch => meterItem n blocks x.blockLen ch (getAt st.rows ch [])
        (x.setNode node NodeSt.init).graphPush (getBits (n.w 1) 16 6) items
      else x
    | none => x)

end Sys2Proof.Machine
end

