-- ==== Sys2Proof/Machine/Tdm.lean ====
section
/-! DEFINITION. The local TDM ports (R318 to R338). -/

namespace Sys2Proof.Machine

open Sys2Proof

/-- Changes the Output region's working state. -/
def Half.onOut (h : Half) (f : OutSt → OutSt) : Half := { h with out := f h.out }

/-- The working state of port t. -/
def Half.tdmPort (h : Half) (t : Nat) : TdmPort := getAt h.out.tdm t TdmPort.init

/-- Changes the working state of port t. -/
def Half.onTdm (h : Half) (t : Nat) (f : TdmPort → TdmPort) : Half := h.onOut fun o => { o with tdm := modAt o.tdm t f }

/-- The state of port t: 0 DISABLED, 1 WAIT_CLOCK, 2 RUNNING, 3 FAILED (R327). -/
def Half.tdmState (h : Half) (t : Nat) : Nat := h.get (Adr.TDM_STATUS t) 0 2

/-- Moves port t; each change sets `EVENT.STATE` (R327). -/
def Half.setTdm (h : Half) (t v : Nat) : Half :=
  if h.tdmState t = v then h else (h.put (Adr.TDM_STATUS t) 0 2 v).event (Adr.TDM_EVENT t) 0

/-- Port t is in master mode (R337). -/
def Half.tdmMaster (h : Half) (t : Nat) : Bool := h.bit (Adr.TDM_CFG t) 27

/-- The slots of port t (R337). -/
def Half.tdmSlots (h : Half) (t : Nat) : Nat := h.get (Adr.TDM_CFG t) 0 5 + 1

/-- The width of a slot of port t (R337). -/
def Half.tdmWidth (h : Half) (t : Nat) : Nat := if h.bit (Adr.TDM_CFG t) 20 then 32 else 16

/-- The bits of a sample of port t; 0 for the reserved code (R337). -/
def Half.tdmBits (h : Half) (t : Nat) : Nat := getAt [16, 24, 32, 0] (h.get (Adr.TDM_CFG t) 18 2) 0

/-- Bit clocks in a frame of port t (R328). -/
def Half.tdmFrameBits (h : Half) (t : Nat) : Nat := h.tdmSlots t * h.tdmWidth t

/-- The configuration of port t is valid (R320, R322). -/
def Half.tdmValid (h : Half) (t : Nat) : Bool :=
  let fmt := h.get (Adr.TDM_CFG t) 28 2
  let clock := h.tdmFrameBits t * h.sampleRate
  decide (0 < h.tdmBits t ∧ h.tdmBits t ≤ h.tdmWidth t) && fmt != 3 && (decide (2 ≤ fmt) || h.tdmSlots t == 2)
    && decide (clock ≤ 49152000) && (!h.tdmMaster t || decide (49152000 % clock = 0))

/-- Port t stops and starts again from its configuration in effect (R326, R327, R330): an invalid one leaves it DISABLED with
cause 0x0003. -/
def Half.tdmRestart (h : Half) (t : Nat) : Half :=
  let h1 := h.onTdm t fun _ => TdmPort.init
  if !h.bit (Adr.TDM_CTRL t) 0 then h1.setTdm t 0
  else if !h.tdmValid t then ((h1.put (Adr.TDM_STATUS t) 0 2 0).latch (Adr.TDM_FAULT t) 3).event (Adr.TDM_EVENT t) 0
  else if h.tdmMaster t then (h1.setTdm t 0).onTdm t fun p => { p with start := true }
  else h1.setTdm t 1

/-- Every port restarts (R326, R330, R338). -/
def Half.tdmRestartAll (h : Half) : Half := h.each (List.range 8) Half.tdmRestart

/-- The block boundary at which a port that is due enters RUNNING (R327). -/
def Half.tdmEnter (h : Half) : Half :=
  h.each (List.range 8) fun x t =>
    if (x.tdmPort t).start || (x.tdmPort t).found then
      ((x.onTdm t fun p => { p with start := false, found := false, errs := 0 }).setTdm t 2).wrNat (Adr.TDM_FRAMES t) 0
    else x

/-- The TDM cluster or the data plane sends zero samples (R331, R332). -/
def Half.tdmZero (h : Half) : Bool := h.sent.forceData || h.bit Adr.TDMC_STATUS 1 || !h.up .output

/-- The sample of the first `DATA_BITS` bits of a slot (R321). -/
def Half.tdmSample (h : Half) (t : Nat) (w : Word) : Word :=
  let d := h.tdmBits t
  fOfInt (signed d (w.toNat % 2 ^ h.tdmWidth t / 2 ^ (h.tdmWidth t - d))) (d - 1)

/-- The frame that port t delivers for a position of the block that ends: in master mode that of the position, in slave mode
the resampler's; none is a missing position (R323, R324, R329). -/
def Half.tdmFrameAt (h : Half) (t : Nat) (frames : List TdmFrame) (pos : Nat) : Option (List Word) :=
  if h.tdmState t ≠ 2 then none
  else if h.tdmMaster t then
    (frames.find? fun f => f.port == t && f.pos == pos).map fun f => f.slots.map (h.tdmSample t)
  else
    let fs := (h.tdmPort t).frames
    if fs.isEmpty || fs.any fun f => f.1 == pos && f.2.isEmpty then none
    else
      let good := (fs.filter fun f => !f.2.isEmpty).map fun f => f.2.map (h.tdmSample t)
      some ((List.range (h.tdmSlots t)).map fun j =>
        Config.resample (good.map fun f => getAt f j 0) (h.rd (Adr.TDM_RATIO t)) (h.rd (Adr.TDM_PHASE t)) pos)

/-- One position of the inputs of port t: held and faded while missing (R144, R145, R329). -/
def tdmConceal (f : Nat) (s : NodeSt) (frame : Option (List Word)) : List Word × NodeSt :=
  match frame with
  | some x => let (o, s1) := s.resume f [x]; (getAt o 0 [], s1)
  | none => s.concealStep f 32

/-- The samples of the block that ends go into the input block that begins (R325); slots at or above the count are silent. -/
def Half.tdmInput (h : Half) (frames : List TdmFrame) : Half :=
  h.each ((List.range 8).filter fun t => h.tdmState t != 0) fun x t =>
    let (os, s) := (List.range x.blockLen).foldl (fun (acc : List (List Word) × NodeSt) pos =>
      let (o, s1) := tdmConceal x.fadeLen acc.2 (x.tdmFrameAt t frames pos)
      (acc.1 ++ [o], s1)) ([], (x.tdmPort t).hold)
    let blk := (os.zipIdx).foldl (fun b q => ((q.1.take (x.tdmSlots t)).zipIdx).foldl (fun b c =>
      audioPut b 1 (32 * t + c.2) q.2 c.1) b) x.inBlk
    let count := if x.tdmState t = 2 && x.tdmMaster t then x.blockLen else 0
    (({ x with inBlk := blk }.onTdm t fun p => { p with hold := s, frames := [] }).wrap (Adr.TDM_FRAMES t) 0 32 count)

/-- What `DOUT` of port t carries in slot j at a position: the output block that has ended, rounded to `DATA_BITS`, in the
first bits of the slot (R321, R325). -/
def Half.tdmWord (h : Half) (t j pos : Nat) : Word :=
  let d := h.tdmBits t
  let w :=
    if h.tdmMaster t then audioGet h.outBlk 1 (32 * t + j) pos
    else
      Config.resample ((List.range h.blockLen).map fun i => audioGet h.outBlk 1 (32 * t + j) i) (h.rd (Adr.TDM_RATIO t))
        (h.rd (Adr.TDM_PHASE t)) pos
  BitVec.ofNat 32 (unsigned d (fToInt w (d - 1) d) * 2 ^ (h.tdmWidth t - d))

/-- The outputs of the block that begins, from the output block that has ended: RUNNING ports, enabled slots below the
count; zeros while R331 holds (R319, R325). -/
def Half.tdmOutput (h : Half) : Half :=
  let out := (List.range 8).foldl (fun b t =>
    if h.tdmState t ≠ 2 then b
    else
      ((List.range (h.tdmSlots t)).filter fun j => h.bit (Adr.TDM_TX_SLOT_EN t) j).foldl (fun b j =>
        (List.range h.blockLen).foldl (fun b pos =>
          insertAt (audioKey t j pos) (if h.tdmZero then 0 else h.tdmWord t j pos) b) b) b) []
  h.onOut fun o => { o with dout := out }

/-- Port t fails with a cause (R327). -/
def Half.tdmFail (h : Half) (t cause : Nat) : Half :=
  if h.tdmState t = 2 ∧ !h.tdmMaster t then
    let h1 := (h.setTdm t 3).latch (Adr.TDM_FAULT t) cause
    if cause = 1 then h1.event (Adr.TDM_EVENT t) 1 else h1
  else h

/-- A frame start of slave-mode port t (R324, R327, R328). -/
def Half.tdmFrame (h : Half) (t bclks ofs : Nat) (ratio : Word) (slots : List Word) : Half :=
  let good := bclks == h.tdmFrameBits t
  if h.tdmMaster t then h
  else
    match h.tdmState t with
    | 1 =>
      if !(h.tdmPort t).seen then h.onTdm t fun p => { p with seen := true }
      else h.onTdm t fun p => { p with found := p.found || good }
    | 2 =>
      let pos := ofs * h.blockLen / 125000
      let h1 :=
        if h.role = .standby then h
        else (h.wr (Adr.TDM_RATIO t) ratio).wrNat (Adr.TDM_PHASE t) (ofs - pos * 125000 / h.blockLen)
      if good then
        (h1.onTdm t fun p => { p with errs := 0, frames := p.frames ++ [(pos, slots)] }).wrap (Adr.TDM_FRAMES t) 0 32 1
      else
        ((h1.onTdm t fun p => { p with errs := p.errs + 1, frames := p.frames ++ [(pos, [])] }).count
          (Adr.TDM_FRAME_ERR_CNT t) 0 16 1).event (Adr.TDM_EVENT t) 2
    | _ => h

/-- The Output region of a half works. -/
def Half.outUp (h : Half) : Bool := h.live && h.up .output

/-- TDM_FRAME_START (R328). -/
def execTdmFrameStart (h : HalfId) (t : Fin 8) (bclks : BitVec 16) (ofs : BlockOfs) (ratio : Word) (slots : List Word)
    (s : State) : Host.Outcome State Fault Refusal :=
  .next (s.on h fun x => if x.outUp then x.tdmFrame t bclks.toNat ofs ratio slots else x)

/-- TDM_FRAME_ERROR_LIMIT: FAILED with cause 0x0002 (R327). -/
def execTdmFrameErrorLimit (h : HalfId) (t : Fin 8) (s : State) : Host.Outcome State Fault Refusal :=
  .next (s.on h fun x => if x.outUp && decide (16 ≤ (x.tdmPort t).errs) then x.tdmFail t 2 else x)

/-- TDM_CLOCK_RESTORED: a FAILED port goes to WAIT_CLOCK (R327). -/
def execTdmClockRestored (h : HalfId) (t : Fin 8) (s : State) : Host.Outcome State Fault Refusal :=
  .next (s.on h fun x =>
    if x.outUp && x.tdmState t == 3 then
      ((x.onTdm t fun p => { p with seen := false, found := false, errs := 0 }).setTdm t 1).event (Adr.TDM_EVENT t) 1
    else x)

/-- A fault of the TDM cluster: cause 0x0004 in every port (R331, R338). -/
def Half.tdmClusterFault (h : Half) : Half :=
  (h.putBit Adr.TDMC_STATUS 1 true).each (List.range 8) fun x t => x.latch (Adr.TDM_FAULT t) 4

/-- A write of 1 to the TDM cluster CTRL bit (R338). -/
def Half.tdmClusterInit (h : Half) : Half := (h.putBit Adr.TDMC_STATUS 1 false).tdmRestartAll

end Sys2Proof.Machine
end

