-- ==== Sys2Proof/Machine/Amp.lean ====
section
/-! DEFINITION. The amplifier outputs (R339 to R377, R622): channel and cluster states, the digital loop, power and heat, stage
enables, standby tracking. -/

namespace Sys2Proof.Machine

open Sys2Proof

/-- The working state of channel k. -/
def Half.ampCh (h : Half) (k : Nat) : AmpCh := lookAt (fun _ => AmpCh.init) h.out.ch k

/-- Changes the working state of channel k. -/
def Half.onCh (h : Half) (k : Nat) (f : AmpCh → AmpCh) : Half :=
  h.onOut fun o => { o with ch := storeAt (fun _ => AmpCh.init) o.ch k (f (lookAt (fun _ => AmpCh.init) o.ch k)) }

/-- The working state of cluster c. -/
def Half.ampCl (h : Half) (c : Nat) : AmpCl := getAt h.out.cl c AmpCl.init

/-- Changes the working state of cluster c. -/
def Half.onCl (h : Half) (c : Nat) (f : AmpCl → AmpCl) : Half := h.onOut fun o => { o with cl := modAt o.cl c f }

/-- The channels of cluster c (R339). -/
def clusterChannels (c : Nat) : List Nat := (List.range 8).map (8 * c + ·)

/-- The state of channel k: 0 DISABLED, 1 WAIT, 2 RUN, 3 SHORT, 4 PROBE, 5 LATCHED, 6 DC_FAULT (R351). -/
def Half.ampState (h : Half) (k : Nat) : Nat := h.get (Adr.AMP_STATUS k) 0 4

/-- Moves channel k; each change sets `EVENT.STATE`; leaving RUN sets the soft-start gain to 0 (R351, R353). -/
def Half.setAmp (h : Half) (k v : Nat) : Half :=
  if h.ampState k = v then h
  else ((h.put (Adr.AMP_STATUS k) 0 4 v).event (Adr.AMP_EVENT k) 0).onCh k fun x => { x with soft := 0 }

/-- The half decides its channels' states itself: a STANDBY or SYNCING half takes them from the mirror stream (R371), and they
are frozen while the data plane is forced (R372). -/
def Half.ampActs (h : Half) : Bool :=
  h.outUp && h.role != .standby && h.role != .syncing && !h.sent.forceData

/-- The carrier ADPLL is LOCKED (R172). -/
def Half.carrierLocked (h : Half) : Bool := h.get Adr.TIM_CPLL_STATUS 0 3 == 2

/-- Converter s gives valid output (R380). -/
def Half.snsValid (h : Half) (s : Nat) : Bool := h.bit (Adr.SNS_STATUS s) 0

/-- V_bus of cluster c lies within `BUS_LIMITS` (R352, R363). -/
def Half.busInside (h : Half) (c : Nat) : Bool :=
  h.snsValid (76 + c) && decide (h.get (Adr.AMPC_BUS_LIMITS c) 0 16 ≤ h.get (Adr.AMPC_BUS_V c) 0 16 ∧
    h.get (Adr.AMPC_BUS_V c) 0 16 ≤ h.get (Adr.AMPC_BUS_LIMITS c) 16 16)

/-- Shows `BUS_OK`: the range armed, not left, V_bus within it (R363, R374). -/
def Half.showBus (h : Half) (c : Nat) : Half :=
  let x := h.ampCl c
  h.putBit (Adr.AMPC_STATUS c) 6 (x.armed && !x.busBad && h.busInside c)

/-- The cluster's conditions of R352. -/
def Half.clusterOk (h : Half) (c : Nat) : Bool :=
  !h.bit (Adr.AMPC_STATUS c) 1 && !h.bit (Adr.AMPC_STATUS c) 4 && h.bit (Adr.AMPC_STATUS c) 6 && (h.ampCl c).settled

/-- What keeps a channel of the cluster running: as `clusterOk`, but V_bus has left its range only once R363 says so. -/
def Half.clusterHolds (h : Half) (c : Nat) : Bool :=
  let x := h.ampCl c
  !h.bit (Adr.AMPC_STATUS c) 1 && !h.bit (Adr.AMPC_STATUS c) 4 && x.armed && !x.busBad && h.snsValid (76 + c) && x.settled

/-- The bank of coefficients in use on channel k, as words (R349, R377). -/
def Half.compWord (h : Half) (k j : Nat) : Word :=
  if h.bit (Adr.AMP_COMP_BANK k) 0 then h.rd (Adr.AMP_COMP1 k j) else h.rd (Adr.AMP_COMP0 k j)

/-- The channel's own conditions of R352. -/
def Half.channelOk (h : Half) (k : Nat) : Bool :=
  h.carrierLocked && (h.rd (Adr.AMP_SCALE k)).toNat != 0 && h.get (Adr.AMP_OUT_GAIN k) 0 16 != 0
    && h.get (Adr.AMP_PLIM k) 0 16 != 0 && (List.range 5).any fun j => (h.compWord k j).toNat != 0

/-- Every condition of R352 on channel k. -/
def Half.mayRun (h : Half) (k : Nat) : Bool := h.channelOk k && h.clusterOk (k / 8)

/-- The conditions without which channel k leaves RUN (R351, R352, R363). -/
def Half.mayStay (h : Half) (k : Nat) : Bool := h.channelOk k && h.clusterHolds (k / 8)

/-- Clears trip history and probe count (R351, R357). -/
def Half.clearTrips (h : Half) (k : Nat) : Half :=
  (h.wrNat (Adr.AMP_PROBE k) 0).onCh k fun x => { x with trips := [], dcOver := false }

/-- A channel enters SHORT for 500 ms, from RUN with a new episode, or LATCHED on the third failed probe of the episode (R351, R355, R356, R376). -/
def Half.toShort (h : Half) (k : Nat) (fromRun : Bool) : Half :=
  let h1 := h.event (Adr.AMP_EVENT k) 1
  if fromRun then (((h1.setAmp k 3).latch (Adr.AMP_FAULT k) 1).wrNat (Adr.AMP_PROBE k) 0x1F40000)
  else
    let n := h.get (Adr.AMP_PROBE k) 0 2 + 1
    let h2 := h1.put (Adr.AMP_PROBE k) 0 2 n
    if 3 ≤ n then ((h2.setAmp k 5).latch (Adr.AMP_FAULT k) 2).put (Adr.AMP_PROBE k) 16 16 0
    else (h2.setAmp k 3).put (Adr.AMP_PROBE k) 16 16 500

/-- `ILIM.K`; a code of 0 acts as 1 (R355). -/
def Half.tripLimit (h : Half) (k : Nat) : Nat := max 1 (h.get (Adr.AMP_ILIM k) 16 4)

/-- Channel k modulates in this carrier period (R341, R342, R451): RUN or PROBE, and nothing holds the zero-vector. -/
def Half.modulates (h : Half) (k : Nat) : Bool :=
  h.outUp && !h.sent.forceData && !h.sent.padWatch && h.carrierLocked && (h.role == .standby || h.sent.modulate)
    && ((h.ampState k == 2 && !(h.ampCl (k / 8)).changing) || h.ampState k == 4)

/-- CURRENT_TRIP (R354 to R356): the owning half cuts the period, and the K-th trip of 16 periods, or any trip of a probe, ends
the run; another half only counts its own comparator's trip, and compares it with the readback (R371, R492). -/
def Half.trip (h : Half) (k : Nat) : Half :=
  let x := h.ampCh k
  if !h.modulates k || x.cut then h
  else
    let hist := true :: x.trips.drop 1
    let h1 := (h.count (Adr.AMP_TRIP_CNT k) 0 16 1).onCh k fun y => { y with trips := hist }
    if !h1.ampActs then h1
    else
      let h2 := h1.onCh k fun y => { y with cut := true, edges := [] }
      if h2.ampState k = 4 then h2.toShort k false
      else if h2.tripLimit k ≤ (hist.filter fun b => b).length then h2.toShort k true
      else h2

/-- CURRENT_TRIP (R354). -/
def execCurrentTrip (h : HalfId) (k : Fin 32) (s : State) : Host.Outcome State Fault Refusal :=
  .next (s.on h fun x => x.trip k)

/-- PROBE_START (R356). -/
def execProbeStart (h : HalfId) (k : Fin 32) (s : State) : Host.Outcome State Fault Refusal :=
  .next (s.on h fun x =>
    if x.ampActs && x.ampState k == 3 && x.mayRun k then (x.put (Adr.AMP_PROBE k) 16 16 0).setAmp k 4 else x)

/-- PROBE_END: fails when the impedance lies below `ZSHORT` (R356). -/
def execProbeEnd (h : HalfId) (k : Fin 32) (z : Word) (s : State) : Host.Outcome State Fault Refusal :=
  .next (s.on h fun x =>
    if x.ampActs && x.ampState k == 4 then
      if z.toNat < x.get (Adr.AMP_ZSHORT k) 0 16 then x.toShort k false
      else (x.put (Adr.AMP_PROBE k) 0 2 0).setAmp k 2
    else x)

/-- A value of `AMP[k].CTRL` takes effect (R351, R357, R372, R376). -/
def Half.ampCtrl (h : Half) (k : Nat) (v : Word) : Half :=
  let h1 := h.wrNat (Adr.AMP_CTRL k) (v.toNat &&& 3)
  if !h.ampActs then h1
  else if !bitAt v 0 then (if h1.ampState k = 0 then h1 else (h1.clearTrips k).setAmp k 0)
  else if h1.ampState k = 0 then h1.setAmp k 1
  else if bitAt v 2 && (h1.ampState k == 5 || h1.ampState k == 6) then (h1.clearTrips k).setAmp k 1
  else h1

/-- PSEN_SETTLE_EXPIRY: waiting channels may enter RUN (R352). -/
def execPsenSettleExpiry (h : HalfId) (c : Fin 4) (s : State) : Host.Outcome State Fault Refusal :=
  .next (s.on h fun x =>
    if x.outUp && x.bit (Adr.AMPC_STATUS c) 3 then
      let y := x.onCl c fun z => { z with settled := true }
      if y.ampActs then y.each (clusterChannels c) fun z k => if z.ampState k = 1 ∧ z.mayRun k then z.setAmp k 2 else z
      else y
    else x)

/-- The voltage or the current sense of a channel gives no valid output any more (R350). -/
def Half.senseLost (h : Half) (s : Nat) : Half :=
  if s < 32 then ((h.putBit (Adr.AMP_STATUS s) 8 true).event (Adr.AMP_EVENT s) 6).latch (Adr.AMP_FAULT s) 4
  else if s < 64 then h.latch (Adr.AMP_FAULT (s - 32)) 5
  else h

/-- OPEN_LOOP_END: the loop closes from zero history (R350). -/
def execOpenLoopEnd (h : HalfId) (k : Fin 32) (s : State) : Host.Outcome State Fault Refusal :=
  .next (s.on h fun x =>
    if x.outUp && x.snsValid k && x.bit (Adr.AMP_STATUS k) 8 then
      (x.putBit (Adr.AMP_STATUS k) 8 false).onCh k fun y => { y with e := [], u := [] }
    else x)

/-- CARRIER_CHANGE_RESUME: RUN again, with soft start (R342). -/
def execCarrierChangeResume (h : HalfId) (c : Fin 4) (s : State) : Host.Outcome State Fault Refusal :=
  .next (s.on h fun x =>
    if (x.ampCl c).changing then
      (x.onCl c fun y => { y with changing := false }).each (clusterChannels c) fun y k => y.onCh k fun z => { z with soft := 0 }
    else x)

/-- A cluster fault (R367): its channels leave RUN at the next carrier boundary, its pull 2 ms later. -/
def Half.ampClusterFault (h : Half) (c cause : Nat) : Half :=
  if h.bit (Adr.AMPC_STATUS c) 1 then h
  else ((h.putBit (Adr.AMPC_STATUS c) 1 true).event (Adr.AMPC_EVENT c) 3).latch (Adr.AMPC_FAULT c) cause

/-- A write of `AMPC[c].CTRL.RESET` takes effect (R363, R367). -/
def Half.ampClusterInit (h : Half) (c : Nat) : Half :=
  let h1 := ((h.putBit (Adr.AMPC_STATUS c) 1 false).putBit (Adr.AMPC_STATUS c) 4 false).onCl c fun x => { x with
    released := false, stuck := none, armed := false, busBad := false, busRel := false, tn := none, tnTerm := 0 }
  let h2 := h1.showBus c
  if h2.ampActs then
    h2.each (clusterChannels c) fun x k => if x.ampState k = 0 then x else (x.clearTrips k).setAmp k 1
  else h2

/-- CLUSTER_POWER_FAULT (R359). -/
def execClusterPowerFault (h : HalfId) (c : Fin 4) (s : State) : Host.Outcome State Fault Refusal :=
  .next (s.on h fun x =>
    if x.ampActs && x.get (Adr.AMPC_CL_PLIM c) 0 16 != 0 then x.ampClusterFault c 5 else x)

/-- The NTC of cluster c reads below −55 °C or above 150 °C, or gives no valid temperature (R360). -/
def Half.ntcBad (h : Half) (c : Nat) : Bool :=
  match (h.ampCl c).tn with
  | some t => !h.snsValid (72 + c) || decide (t < -880 ∨ 2400 < t)
  | none => true

/-- NTC_FAULT (R360). -/
def execNtcFault (h : HalfId) (c : Fin 4) (s : State) : Host.Outcome State Fault Refusal :=
  .next (s.on h fun x => if x.outUp && x.ntcBad c then x.ampClusterFault c 1 else x)

/-- THERMAL_SHUTDOWN_END: the half pulls `PSENc_n` again (R361). -/
def execThermalShutdownEnd (h : HalfId) (c : Fin 4) (s : State) : Host.Outcome State Fault Refusal :=
  .next (s.on h fun x =>
    if x.ampActs && x.bit (Adr.AMPC_STATUS c) 4 then
      ((x.putBit (Adr.AMPC_STATUS c) 4 false).event (Adr.AMPC_EVENT c) 0).onCl c fun y =>
        { y with released := x.bit (Adr.AMPC_STATUS c) 1 && y.released }
    else x).psen

/-- DC_WINDOW_END: the mean of v over the window, in 0.1 V; a second excess in a row enters DC_FAULT (R362). -/
def execDcWindowEnd (h : HalfId) (k : Fin 32) (s : State) : Host.Outcome State Fault Refusal :=
  .next (s.on h fun x =>
    let w := (x.ampCh k).dcWin
    let n := w.v.natAbs * x.get (Adr.AMP_SCALE k) 0 16
    let d := w.n * 2 ^ 24
    let v := if d = 0 then 0 else rounded n d
    let big := decide (d * x.get (Adr.AMP_DC_LIMIT k) 0 16 < n)
    let y := (x.wrNat (Adr.AMP_DC k) (unsigned 16 (if w.v < 0 then -(min v 32768 : Nat) else (min v 32767 : Nat)))).onCh k fun c =>
      { c with dcWin := Meas.zero, dcOver := big }
    if !x.outUp then x
    else if y.ampActs && big && (x.ampCh k).dcOver && x.ampState k == 2 then
      ((y.setAmp k 6).event (Adr.AMP_EVENT k) 4).latch (Adr.AMP_FAULT k) 3
    else y)

/-- The bus leaves its armed range: `FAULT` 0x0007, `EVENT.BUS`; channels in RUN or PROBE go to WAIT at the next carrier
boundary (R363). -/
def execBusOutOfRange (h : HalfId) (c : Fin 4) (v : BitVec 16) (s : State) : Host.Outcome State Fault Refusal :=
  .next (s.on h fun x =>
    let y := x.wrNat (Adr.AMPC_BUS_V c) v.toNat
    if x.outUp && (x.ampCl c).armed && !(x.ampCl c).busBad && x.snsValid (76 + c) && !y.busInside c then
      (((y.onCl c fun z => { z with busBad := true }).latch (Adr.AMPC_FAULT c) 7).event (Adr.AMPC_EVENT c) 1).showBus c
    else x)

/-- BUS_PSEN_RELEASE (R363). -/
def execBusPsenRelease (h : HalfId) (c : Fin 4) (s : State) : Host.Outcome State Fault Refusal :=
  .next (s.on h fun x =>
    if x.outUp && (x.ampCl c).busBad then x.onCl c fun z => { z with busRel := true } else x).psen

/-- BUS_IN_RANGE: arms the range, or lets the half pull again (R363). -/
def execBusInRange (h : HalfId) (c : Fin 4) (v : BitVec 16) (s : State) : Host.Outcome State Fault Refusal :=
  .next (s.on h fun x =>
    let y := x.wrNat (Adr.AMPC_BUS_V c) v.toNat
    if x.outUp && y.busInside c then
      (y.onCl c fun z => { z with armed := true, busBad := false, busRel := false }).showBus c
    else x).psen

/-- BUS_SENSE_FAULT (R363). -/
def execBusSenseFault (h : HalfId) (c : Fin 4) (s : State) : Host.Outcome State Fault Refusal :=
  .next (s.on h fun x => if x.outUp && !x.snsValid (76 + c) then x.ampClusterFault c 2 else x)

/-- The request that both halves follow (R366): an ACTIVE half's own, a STANDBY half's mirrored one; others make no check. -/
def Half.followsRelease (h : Half) (c : Nat) : Bool :=
  match h.role with
  | .active => !h.psenRequest c
  | .standby => !(h.ampCl c).request
  | _ => false

/-- PSEN_READBACK_FAULT: the ball reads high while pulled (0x0003), or low while both halves are to release it (0x0004)
(R366). -/
def execPsenReadbackFault (h : HalfId) (c : Fin 4) (low : Bool) (s : State) : Host.Outcome State Fault Refusal :=
  .next (s.on h fun x =>
    let pull := x.bit (Adr.AMPC_STATUS c) 2
    if x.outUp && pull != low && (pull || x.followsRelease c) then
      let y := (x.onCl c fun z => { z with stuck := some low }).showPsen c pull low
      y.ampClusterFault c (if low then 4 else 3)
    else x).psen

/-- TRACKING_CHANGE: on a STANDBY half (R370); a `GATE_MISMATCH` ends with it (R491). -/
def execTrackingChange (h : HalfId) (k : Fin 32) (on : Bool) (s : State) : Host.Outcome State Fault Refusal :=
  .next (s.on h fun x =>
    if x.outUp && x.role == .standby && x.bit (Adr.AMP_TRACK k) 31 != on then
      let y := (x.putBit (Adr.AMP_TRACK k) 31 on).event (Adr.AMP_EVENT k) 5
      if on then y.putBit Adr.GST_GATE_MISMATCH k false else y
    else x)

/-! The loop (R346 to R350, R369). -/

/-- Carrier periods in a block by CARRIER code (R342). -/
def carrierPeriods (code : Nat) : Nat := getAt [48, 96, 192, 96] code 96

/-- Half a carrier period in steps of the edge grid (R342, R343). -/
def halfSteps (code : Nat) : Nat := getAt [16384, 8192, 4096, 8192] code 8192

/-- m_max of channel k in 2^-24 (R345): codes of DEAD above 400 act as 400. -/
def Half.mMax (h : Half) (k : Nat) : Int :=
  let t := 8 * h.get (Adr.AMP_MOD k) 0 8 + min 400 (h.get (Adr.AMP_MOD k) 16 9)
  (2 ^ 24 - 2 ^ 24 * (t * carrierPeriods (h.ampCl (k / 8)).carrier) / 500000 : Nat)

/-- The factor of a reduction in 1/8000 dB. -/
def reduction (g : Nat) : Word := levelWord (-(2 * g : Int)) 125

/-- The gains of channel k that power and heat give (R346, R358 to R360). -/
def Half.ampGain (h : Half) (k : Nat) : Word :=
  scale (reduction (h.ampCl (k / 8)).tgain) (scale (reduction (h.ampCl (k / 8)).cgain) (reduction (h.ampCh k).pgain))

/-- The soft-start gain n samples of the loop after the start (R353): 20 ms are 61440 of them. -/
def softGain (n : Nat) : Word := if 61440 ≤ n then fOne else fRatio n 61440

/-- The pilot of channel k at a position of this block, at −40 dB, on its ramp (R403). -/
def Half.pilotAt (h : Half) (k pos : Nat) : Word :=
  let l := lookAt (fun _ => LspCh.init) h.out.lsp k
  if l.ramp = 0 then 0
  else scale (if h.fadeLen ≤ l.ramp then fOne else fRatio l.ramp h.fadeLen) (Config.pilotSample (h.mediaIdx + pos) h.rate96 40)

/-- v_ref of channel k at a position of this block (R346, R356): x with the pilot, or the probe, times g and `OUT_GAIN`,
saturated. -/
def Half.vref (h : Half) (k pos : Nat) : Word :=
  let phase := (h.ampCl (k / 8)).phase
  let at_ := (h.ampCh k).soft + pos * 384 / h.blockLen - phase
  let x :=
    if h.ampState k = 4 then Config.pilotSample (h.mediaIdx + pos) h.rate96 30
    else scale (softGain at_) (fAdd (audioGet h.outBlk 2 k pos) (h.pilotAt k pos))
  fSat (scale (h.ampGain k) (fMul x (fRatio (h.get (Adr.AMP_OUT_GAIN k) 0 16) 65536)))

/-- The bus voltage that the modulator uses, as a numerator over 2^24 in 0.1 V (R348). -/
def Half.busUse (h : Half) (k : Nat) (code : Int) : Nat :=
  let c := k / 8
  if h.bit (Adr.AMP_CTRL k) 1 then (code * h.get (Adr.AMPC_BUS_SCALE c) 0 16).toNat
  else 2 ^ 24 * h.get (Adr.AMPC_BUS_SCALE c) 16 16

/-- Coefficient j of channel k in 2^-24 (R377). -/
def Half.comp (h : Half) (k j : Nat) : Int := signed 32 (h.compWord k j).toNat

/-- One step of the loop of channel k (R347, R348, R350): the correction of a standby (R369), u, m clamped to ±m_max with
the clamped value in the history. use says that the modulator takes this m (R343). -/
def Half.loopStep (h : Half) (k : Nat) (vref : Int) (use : Bool) (bus : Int) (q : LoopSample) : Half :=
  let x := h.ampCh k
  let vfs := h.get (Adr.AMP_SCALE k) 0 16
  let vb := h.busUse k bus
  let fix := match q.act with
    | some m => if h.role = .standby then Config.quot ((m - x.m) * vb) (vfs * 2 ^ 27) else 0
    | none => 0
  let err := match q.act with | some m => (m - x.m).natAbs | none => 0
  let u0 := match x.u with | a :: rest => (a + fix) :: rest | [] => [fix]
  let e0 := vref - q.v
  let e := (e0 :: x.e).take 5
  let sum := ((List.range 5).map fun j => h.comp k j * getAt e j 0).sum
    - ((List.range 4).map fun j => h.comp k (5 + j) * getAt u0 j 0).sum - h.comp k 9 * q.i
  let u := if h.bit (Adr.AMP_STATUS k) 8 then vref else Config.loopRound sum
  let m := Config.quot (u * vfs * 2 ^ 24) vb
  let top := h.mMax k
  let mc := clampInt (-top) top m
  let uc := if mc = m then u else Config.quot (mc * vb) (vfs * 2 ^ 24)
  h.onCh k fun y => { y with
    e := e.take 4, u := (uc :: u0).take 4, m := if use then mc else y.m
    clipped := y.clipped || (use && decide (mc ≠ m)), err := max y.err err
    soft := if h.ampState k = 2 then y.soft + 1 else y.soft }

/-- The sums with one more sample. -/
def Meas.add (a : Meas) (q : LoopSample) : Meas :=
  ⟨a.n + 1, a.v + q.v, a.vv + (q.v * q.v).toNat, a.vi + q.v * q.i, a.ii + (q.i * q.i).toNat⟩

/-- The sum of two measurements. -/
def Meas.plus (a b : Meas) : Meas := ⟨a.n + b.n, a.v + b.v, a.vv + b.vv, a.vi + b.vi, a.ii + b.ii⟩

/-- The carrier period that ends on channel k: its loop samples (R347), its measurements (R358, R362, R375). -/
def Half.loopPeriod (h : Half) (k : Nat) (bus : List Int) (inp : ChanIn) : Half :=
  let vrefs := (List.range h.blockLen).map (h.vref k)
  let phase := (h.ampCl (k / 8)).phase
  let s := inp.samples.length
  let run := h.modulates k && !(h.ampCh k).cut
  (inp.samples.zipIdx).foldl (fun (x : Half) q =>
    let y := x.onCh k fun c => { c with blk := c.blk.add q.1, dcWin := c.dcWin.add q.1 }
    if run then
      y.loopStep k (Config.interpolate vrefs (phase + q.2)) (decide (2 * (q.2 + 1) % s = 0)) (getAt bus q.2 0) q.1
    else y) h

/-- What a carrier boundary changes in the state of channel k (R341, R351, R356, R363, R372). An EN that took effect while the
states were frozen acts here. -/
def Half.carrierState (h : Half) (k : Nat) : Half :=
  if !h.ampActs then h
  else
    match h.ampState k, h.bit (Adr.AMP_CTRL k) 0 with
    | 0, true => h.setAmp k 1
    | 0, false => h
    | _, false => (h.clearTrips k).setAmp k 0
    | 1, true => if h.mayRun k then h.setAmp k 2 else h
    | 2, true => if h.mayStay k then h else h.setAmp k 1
    | 4, true =>
      if h.mayStay k then h
      else if !h.clusterHolds (k / 8) then h.setAmp k 1
      else (h.put (Adr.AMP_PROBE k) 16 16 0).setAmp k 3
    | _, _ => h

/-- The dead time of channel k in steps of the edge grid, rounded up (R344): codes of 125 ps, above 400 as 400. -/
def Half.deadSteps (h : Half) (k : Nat) : Nat :=
  let code := min 400 (h.get (Adr.AMP_MOD k) 16 9)
  (code * 3 * halfSteps (h.ampCl (k / 8)).carrier + 31249) / 31250

/-- The first transitions of legs A and B in the period that begins, in steps after its start: for each leg where the low
switch turns off and, the dead time later, the high switch turns on (R340, R343, R344); none in the zero-vector. The second
half of the period mirrors them with the index taken at its centre. -/
def Half.edges (h : Half) (k : Nat) : List Int :=
  let steps := halfSteps (h.ampCl (k / 8)).carrier
  let m := (h.ampCh k).m
  let a := Config.quot ((2 ^ 24 - m) * steps) (2 ^ 25)
  let b := Config.quot ((2 ^ 24 + m) * steps) (2 ^ 25)
  if h.modulates k then [a, a + h.deadSteps k, b, b + h.deadSteps k] else []

/-- A carrier boundary on channel k: the period that ends, the state, the period that begins. -/
def Half.carrierChannel (h : Half) (bus : List Int) (k : Nat) (inp : ChanIn) : Half :=
  let h1 := h.loopPeriod k bus inp
  let own := getAt (h.ampCh k).trips 0 false
  let h2 :=
    if h1.role = .standby && own != inp.shown && h1.modulates k then h1.putBit Adr.GST_AMP_DIFF k true else h1
  let h3 := (h2.carrierState k).onCh k fun x => { x with trips := (false :: x.trips).take 16, cut := false }
  h3.onCh k fun x => { x with edges := h3.edges k }

/-- V_bus of cluster c from its sense code, at the loop rate (R348, R363). -/
def Half.takeBus (h : Half) (c : Nat) (bus : List Int) : Half :=
  match bus.getLast? with
  | none => h
  | some v =>
    if !h.snsValid (76 + c) then h
    else
      let h1 := h.wrNat (Adr.AMPC_BUS_V c) (min 0xFFFF (rounded (v.toNat * h.get (Adr.AMPC_BUS_SCALE c) 0 16) (2 ^ 24)))
      (h1.onCl c fun x => { x with busBad := x.busBad && !h1.busInside c }).showBus c

/-- The work of a carrier boundary of cluster c within the half (R342). -/
def Half.carrierWork (h : Half) (c : Nat) (chans : List ChanIn) (bus : List Int) : Half :=
  let h0 := h.onSent fun x => { x with padWatch := false, modulate := x.own }
  let h1 := h0.takeBus c bus
  let h2 := (chans.take 8).zipIdx.foldl (fun (x : Half) q => x.carrierChannel bus (8 * c + q.2) q.1) h1
  let rest := (List.range 8).filter fun i => decide (chans.length ≤ i)
  let h3 := rest.foldl (fun (x : Half) i => x.carrierChannel bus (8 * c + i) ⟨[], false⟩) h2
  let n := match chans with | q :: _ => q.samples.length | [] => 0
  let h4 := h3.onCl c fun x => { x with
    phase := x.phase + n, zero := (clusterChannels c).all fun k => (h3.ampCh k).edges.isEmpty }
  if h4.role = .standby && h4.gustRuns 7 then h4.gustDone 7 0 none else h4

/-- CARRIER_BOUNDARY (R342): with every channel in the zero-vector, a half that gives up control releases it (R460). -/
def execCarrierBoundary (h : HalfId) (c : Fin 4) (chans : List ChanIn) (bus : List Int) (s : State) :
    Host.Outcome State Fault Refusal :=
  .next (s.on h fun x =>
    if x.outUp && x.carrierLocked then
      let y := x.carrierWork c chans bus
      if y.out.cl.all fun z => z.zero then y.giveUpBoundary else y
    else x).lines

/-! Power and heat, once a block (R358 to R361). -/

/-- The power window of channel k in blocks (R358). -/
def Half.powerBlocks (h : Half) (k : Nat) : Nat := 8 * clampNat 10 10000 (h.get (Adr.AMP_PLIM k) 16 16)

/-- The average power of channel k over n blocks, as a numerator and a denominator in 0.1 W (R358). -/
def Half.powerOf (h : Half) (k n : Nat) : Nat × Nat :=
  let sc := h.rd (Adr.AMP_SCALE k)
  let sum := (((h.ampCh k).past.take n).map fun m => m.vi).sum
  (sum.toNat * getBits sc 0 16 * getBits sc 16 16, n * 384 * 2 ^ 48 * 100)

/-- The law of R358: down by at most 0.05 dB a block towards sqrt(LIMIT / average), up by 3 dB/s at or below 0.9 × LIMIT. -/
def powerLaw (g limit n d : Nat) : Nat :=
  if limit * d < n then min (g + 400) ((g : Int) - Config.powerDb limit n d).toNat
  else if 10 * n ≤ 9 * limit * d then g - 3
  else g

/-- The measured registers and the power gain of channel k at a block boundary (R345, R358, R370, R375). -/
def Half.ampBlock (h : Half) (k : Nat) : Half :=
  let x := h.ampCh k
  let past := (x.blk :: x.past).take 80000
  let h0 := h.onCh k fun y => { y with past := past, blk := Meas.zero, clipped := false, err := 0 }
  let sc := h.rd (Adr.AMP_SCALE k)
  let (pn, pd) := h0.powerOf k (h.powerBlocks k)
  let ms := (past.take 800).foldl Meas.plus Meas.zero
  let h1 := (((h0.wrNat (Adr.AMP_POWER k) (min 0xFFFF (rounded pn pd))).wrNat (Adr.AMP_VOUT_RMS k)
    (min 0xFFFF (roundedRoot (ms.vv * getBits sc 0 16 ^ 2) (800 * 384 * 2 ^ 48)))).wrNat (Adr.AMP_IOUT_RMS k)
    (min 0xFFFF (roundedRoot (ms.ii * getBits sc 16 16 ^ 2) (800 * 384 * 2 ^ 48)))).put (Adr.AMP_TRACK k) 0 16
    (min 0xFFFF (rounded x.err 256))
  let ago := if x.clipped then 0 else min 8 (x.clipAgo + 1)
  let h2 := if x.clipped then (h1.count (Adr.AMP_CLIP_CNT k) 0 16 1).event (Adr.AMP_EVENT k) 2 else h1
  let h3 := (h2.putBit (Adr.AMP_STATUS k) 4 (decide (ago < 8))).onCh k fun y => { y with clipAgo := ago }
  let h4 :=
    if h3.ampActs && h3.snsValid (32 + k) then
      let g := powerLaw x.pgain (h.get (Adr.AMP_PLIM k) 0 16) pn pd
      let y := (h3.onCh k fun z => { z with pgain := g }).putBit (Adr.AMP_STATUS k) 5 (g != 0)
      if (g == 0) = (x.pgain == 0) then y else y.event (Adr.AMP_EVENT k) 3
    else h3
  if h4.ampActs && h4.ampState k == 3 && h4.age % 8 == 0 then
    h4.put (Adr.AMP_PROBE k) 16 16 (h4.get (Adr.AMP_PROBE k) 16 16 - 1)
  else h4

/-- The dB16 code of a reduction in 1/8000 dB. -/
def reductionCode (g : Nat) : Nat := unsigned 16 (-(rounded (2 * g) 125 : Int))

/-- Shows `AMP[k].GAIN`: the total g and the power gain (R346, R375). -/
def Half.showGain (h : Half) (k : Nat) : Half :=
  let g := scale (h.ampGain k) (if h.ampState k = 4 then fOne else softGain (h.ampCh k).soft)
  let total := if g = 0 then 0x8000 else (Config.toDb16 g).toNat
  h.wrNat (Adr.AMP_GAIN k) (0x10000 * (if g = fOne then 0 else total) + reductionCode (h.ampCh k).pgain)

/-- The reduction in 1/8000 dB that a temperature in 1/16 °C calls for (R360). -/
def foldback (t : Int) (start span : Nat) : Nat :=
  if t ≤ 16 * (start : Int) then 0
  else if span = 0 then 96000
  else min 96000 ((t - 16 * (start : Int)).toNat * 6000 / span)

/-- The power of cluster c over its window, as a numerator and a denominator in W (R359). -/
def Half.clusterPower (h : Half) (c : Nat) : Nat × Nat :=
  let blocks := 8 * clampNat 10 10000 (h.get (Adr.AMPC_CL_PLIM c) 16 16)
  (((clusterChannels c).map fun k => (h.powerOf k blocks).1).sum, 10 * (blocks * 384 * 2 ^ 48 * 100))

/-- Cluster c at a block boundary: its power and thermal gains, `CL_POWER`, `GAIN`, `FOLDBACK` (R359, R360, R361). -/
def Half.ampClBlock (h : Half) (c : Nat) : Half :=
  let x := h.ampCl c
  let (n, d) := h.clusterPower c
  let th := h.rd (Adr.AMPC_THERM c)
  let limit := h.get (Adr.AMPC_CL_PLIM c) 0 16
  let h1 := (h.wrNat (Adr.AMPC_CL_POWER c) (min 0xFFFF (rounded n d))).onCl c fun y => { y with phase := 0 }
  if !h1.ampActs then h1
  else
    let cg := if limit = 0 then 0 else powerLaw x.cgain limit n d
    let want := max x.tnTerm (foldback h.hlt.tj (getBits th 0 8) (getBits th 16 8))
    let tg := if x.tgain < want then min want (x.tgain + 400) else max want (x.tgain - 400)
    let h2 := (h1.onCl c fun y => { y with cgain := cg, tgain := tg }).wrNat (Adr.AMPC_GAIN c)
      (0x10000 * reductionCode tg + reductionCode cg)
    let h3 := if (cg == 0) = (x.cgain == 0) then h2 else h2.event (Adr.AMPC_EVENT c) 2
    let h4 := if (tg == 0) = (x.tgain == 0) then h3 else h3.event (Adr.AMPC_EVENT c) 0
    (h4.putBit (Adr.AMPC_STATUS c) 5 (tg != 0)).each (clusterChannels c) fun y k => y.putBit (Adr.AMP_STATUS k) 6 (tg != 0)

/-- The channels on which something has happened. -/
def Half.usedChannels (h : Half) : List Nat :=
  (List.range 32).filter fun k => h.ampState k != 0 || h.out.ch.any fun c => c.1 == k

/-- The amplifier outputs at a block boundary. -/
def Half.ampBoundary (h : Half) : Half :=
  if !h.outUp then h
  else
    let h1 := h.each h.usedChannels Half.ampBlock
    let h2 := h1.each (List.range 4) Half.ampClBlock
    h2.each h2.usedChannels Half.showGain

/-- The temperature of cluster c from the NTC resistance of an output of the system profile (R360, R361). -/
def Half.takeNtc (h : Half) (c : Nat) : Half :=
  let cfg := h.rd (Adr.AMPC_NTC_CFG c)
  let r := h.get (Adr.SNS_DERIVED (72 + c)) 0 24
  let t := if !h.snsValid (72 + c) ∨ getBits cfg 16 16 = 0 ∨ getBits cfg 0 16 = 0 then none
    else Config.ntcTemp r (getBits cfg 0 16) (getBits cfg 16 16)
  let th := h.rd (Adr.AMPC_THERM c)
  let h1 := h.onCl c fun x => { x with
    tn := t, tnTerm := match t with | some v => foldback v (getBits th 8 8) (getBits th 16 8) | none => x.tnTerm }
  match t with
  | none => h1
  | some v =>
    let h2 := if h1.role == .standby || h1.role == .syncing then h1
      else h1.put (Adr.AMPC_TEMP c) 0 16 (unsigned 16 (satSigned 16 v))
    let h3 := { h2 with hlt := { h2.hlt with ntcMax := modAt h2.hlt.ntcMax c fun m => some (match m with | some o => max o v | none => v) } }
    if h3.ampActs && !h3.bit (Adr.AMPC_STATUS c) 4 && decide (16 * (getBits th 24 8 : Int) ≤ v) then
      ((h3.putBit (Adr.AMPC_STATUS c) 4 true).event (Adr.AMPC_EVENT c) 0).latch (Adr.AMPC_FAULT c) 6
    else h3

/-- A new carrier setting of cluster c takes effect (R342): channels in RUN pause for 1 ms. -/
def Half.carrierChange (h : Half) (c : Nat) : Half :=
  let code := match h.get (Adr.AMPC_CFG c) 0 2 with | 3 => 1 | v => v
  if (h.ampCl c).carrier = code then h
  else
    (h.onCl c fun x => { x with carrier := code, changing := true }).each (clusterChannels c) fun y k =>
      y.onCh k fun z => { z with edges := [] }

/-- New `BUS_LIMITS` of cluster c take effect: the range must be armed anew (R363). -/
def Half.busLimitsChange (h : Half) (c : Nat) : Half :=
  (h.onCl c fun x => { x with armed := false, busBad := false, busRel := false }).showBus c

end Sys2Proof.Machine
end

