-- ==== Sys2Proof/Machine/Sense.lean ====
section
/-! DEFINITION. The sense chain and Larkspur line supervision (R378 to R414): converters, profiles of the sense filter engine,
derived values, thresholds, line impedance. -/

namespace Sys2Proof.Machine

open Sys2Proof

/-- The working state of converter s. -/
def Half.conv (h : Half) (s : Nat) : Conv := lookAt (fun _ => Conv.init) h.out.conv s

/-- Changes the working state of converter s. -/
def Half.onConv (h : Half) (s : Nat) (f : Conv → Conv) : Half :=
  h.onOut fun o => { o with conv := storeAt (fun _ => Conv.init) o.conv s (f (lookAt (fun _ => Conv.init) o.conv s)) }

/-- The working state of user profile j. -/
def Half.prof (h : Half) (j : Nat) : ProfSt := getAt h.out.prof j ProfSt.init

/-- Changes the working state of user profile j. -/
def Half.onProf (h : Half) (j : Nat) (f : ProfSt → ProfSt) : Half := h.onOut fun o => { o with prof := modAt o.prof j f }

/-- Larkspur's state of channel k. -/
def Half.lsp (h : Half) (k : Nat) : LspCh := lookAt (fun _ => LspCh.init) h.out.lsp k

/-- Changes Larkspur's state of channel k. -/
def Half.onLsp (h : Half) (k : Nat) (f : LspCh → LspCh) : Half :=
  h.onOut fun o => { o with lsp := storeAt (fun _ => LspCh.init) o.lsp k (f (lookAt (fun _ => LspCh.init) o.lsp k)) }

/-! Converters (R380 to R382). -/

/-- Brings VALID and INVALID_CAUSE of converter s into line with its causes (R380): the lowest cause shows; a loss has the
consequences of R382, a return starts the filters anew (R396). -/
def Half.showValid (h : Half) (s : Nat) : Half :=
  let cs := (h.conv s).causes
  let ok := cs.isEmpty
  let h1 := h.put (Adr.SNS_STATUS s) 8 4 (((List.range 6).find? cs.contains).getD 0)
  if h1.snsValid s = ok then h1
  else
    let h2 := (h1.putBit (Adr.SNS_STATUS s) 0 ok).event (Adr.SNS_EVENT s) 3
    if ok then h2.onConv s fun c => { c with join := true }
    else
      let h3 := h2.senseLost s
      if 64 ≤ s ∧ s < 72 then h3.takeClass (s - 64) 4 0 else h3

/-- A cause begins; causes 0x1 to 0x3 are recorded in `FAULT` (R380). -/
def Half.snsCause (h : Half) (s cause : Nat) : Half :=
  if (h.conv s).causes.contains cause then h
  else
    let h1 := h.onConv s fun c => { c with causes := cause :: c.causes }
    (if cause ≤ 3 then h1.latch (Adr.SNS_FAULT s) cause else h1).showValid s

/-- A cause ends (R380). -/
def Half.snsClear (h : Half) (s cause : Nat) : Half :=
  (h.onConv s fun c => { c with causes := c.causes.filter (· != cause) }).showValid s

/-- CONVERTER_STUCK (R380). -/
def execConverterStuck (h : HalfId) (s : Fin 80) (st : State) : Host.Outcome State Fault Refusal :=
  .next (st.on h fun x => if x.outUp then x.snsCause s 1 else x)

/-- CONVERTER_OVERLOAD: entry sets `EVENT.SAT` and counts (R381). -/
def execConverterOverload (h : HalfId) (s : Fin 80) (on : Bool) (st : State) : Host.Outcome State Fault Refusal :=
  .next (st.on h fun x =>
    if x.outUp && x.bit (Adr.SNS_STATUS s) 5 != on then
      let y := x.putBit (Adr.SNS_STATUS s) 5 on
      if on then (y.event (Adr.SNS_EVENT s) 2).count (Adr.SNS_SAT_CNT s) 0 16 1 else y
    else x)

/-- OVERLOAD_TIMEOUT (R380). -/
def execOverloadTimeout (h : HalfId) (s : Fin 80) (st : State) : Host.Outcome State Fault Refusal :=
  .next (st.on h fun x => if x.outUp && x.bit (Adr.SNS_STATUS s) 5 then x.snsCause s 2 else x)

/-- FRONT_END_SELF_CHECK_FAIL (R380). -/
def execFrontEndSelfCheckFail (h : HalfId) (s : Fin 80) (st : State) : Host.Outcome State Fault Refusal :=
  .next (st.on h fun x => if x.outUp then x.snsCause s 3 else x)

/-- CONVERTER_RECOVERY (R380). -/
def execConverterRecovery (h : HalfId) (s : Fin 80) (cause : Fin 3) (st : State) : Host.Outcome State Fault Refusal :=
  .next (st.on h fun x => if x.outUp then x.snsClear s (cause + 1) else x)

/-- The channels of sense cluster c (R414). -/
def senseChannels (c : Nat) : List Nat :=
  if c = 4 then (List.range 16).map (64 + ·)
  else (List.range 8).map (8 * c + ·) ++ (List.range 8).map (32 + 8 * c + ·)

/-- The shared state of sense cluster c fails its check (R380, R414). -/
def Half.senseClusterFault (h : Half) (c : Nat) : Half :=
  (h.putBit (Adr.SNSC_STATUS c) 1 true).each (senseChannels c) fun x s => x.snsCause s 5

/-- Sense cluster c is re-initialised: its filters start anew (R380, R396, R414). -/
def Half.senseClusterInit (h : Half) (c : Nat) : Half :=
  (h.putBit (Adr.SNSC_STATUS c) 1 false).each (senseChannels c) fun x s =>
    (x.snsClear s 5).onConv s fun y => { y with join := true }

/-! Profiles (R383 to R396). -/

/-- Order, CIC decimation, FIR decimation, taps of a profile (R384, R385, R410). -/
def ProfCfg.k (p : ProfCfg) : Nat := getBits p.cfg 18 3
def ProfCfg.dc (p : ProfCfg) : Nat := getBits p.cfg 0 13 + 1
def ProfCfg.df (p : ProfCfg) : Nat := getBits p.cfg 24 4 + 1
def ProfCfg.taps (p : ProfCfg) : Nat := getBits p.fir 12 9 + 1
def ProfCfg.d (p : ProfCfg) : Nat := p.dc * p.df

/-- SYM and ANTISYM (R388). -/
def ProfCfg.sym (p : ProfCfg) : Bool := p.coefs == p.coefs.reverse
def ProfCfg.antisym (p : ProfCfg) : Bool := p.coefs == p.coefs.reverse.map (fun c => -c)

/-- The validity of R386. -/
def ProfCfg.valid (p : ProfCfg) : Bool :=
  decide (p.k ≤ 5 ∧ 2 ≤ p.d ∧ getBits p.fir 0 12 + p.taps ≤ 4096)

/-- The group delay in 1/512 CD3 cycles (R391). -/
def ProfCfg.delay512 (p : ProfCfg) : Nat :=
  1536 + 256 * p.k * (p.dc - 1)
    + p.dc * (if p.sym || p.antisym then 256 * (p.taps - 1) else 2 * getBits p.gd 0 24)

/-- GD in ns: a CD3 cycle is 15625/768 ns (R391). -/
def ProfCfg.delayNs (p : ProfCfg) : Nat := divRound (p.delay512 * 15625) (512 * 768)

/-- The first outputs that carry U (R395). -/
def ProfCfg.settling (p : ProfCfg) : Nat := (p.k + p.taps - 1 + p.df - 1) / p.df

/-- The cost C of a profile with n channels, as a numerator over D (R389). -/
def ProfCfg.costNum (p : ProfCfg) (n : Nat) : Nat :=
  n * 49152000 * ((if p.sym || p.antisym then (p.taps + 1) / 2 else p.taps) + (p.k + 1) * p.df)

/-- A sum of fractions. -/
def sumFrac (l : List (Nat × Nat)) : Nat × Nat := l.foldl (fun a b => (a.1 * b.2 + b.1 * a.2, a.2 * b.2)) (0, 1)

/-- A profile with the number of its channels: its cost and its Q7 items per second, each over D (R389). -/
def costOf (p : ProfCfg × Nat) : Nat × Nat := (p.1.costNum p.2, p.1.d)
def itemsOf (p : ProfCfg × Nat) : Nat × Nat := (if bitAt p.1.cfg 31 then (1 + p.2) * 49152000 else 0, p.1.d)

/-- The budget of R389 over the user profiles that run. -/
def withinBudget (l : List (ProfCfg × Nat)) : Bool :=
  let c := sumFrac (l.map costOf)
  let i := sumFrac (l.map itemsOf)
  decide (c.1 ≤ 900000000 * c.2 ∧ i.1 ≤ 4000000 * i.2)

/-- The user profile that converter s belongs to in effect, 7 for none (R383). -/
def Half.snsProfile (h : Half) (s : Nat) : Nat := h.get (Adr.SNS_CTRL s) 1 3

/-- The number of channels of profile j once every accepted write is in effect. -/
def Half.comingChannels (h : Half) (j : Nat) : Nat :=
  ((List.range 80).filter fun s => h.stagedField (Adr.SNS_CTRL s) 1 3 == j).length

/-- The configuration of profile j once every accepted `APPLY` is in effect; none where it is off. -/
def Half.comingProf (h : Half) (j : Nat) : Option ProfCfg :=
  match (h.prof j).next with
  | some p => if p.k = 0 then none else some p
  | none => (h.prof j).now

/-- The user profiles that are to run, with their channels. -/
def Half.comingProfs (h : Half) : List (ProfCfg × Nat) :=
  (List.range 7).filterMap fun j => (h.comingProf j).map fun p => (p, h.comingChannels j)

/-- Shows `BUDGET` and each `COST` (R389, R409, R410). -/
def Half.showBudget (h : Half) : Half :=
  let l := h.comingProfs
  let c := sumFrac (l.map costOf)
  let i := sumFrac (l.map itemsOf)
  let h1 := h.wrNat Adr.SFE_BUDGET (0x10000 * min 0xFFFF (rounded i.1 (1000 * i.2)) + min 0xFFFF (rounded c.1 (1000000 * c.2)))
  h1.each (List.range 7) fun x j =>
    match x.comingProf j with
    | some p => x.wrNat (Adr.SFE_PROF_COST j) (rounded (p.costNum (x.comingChannels j)) (1000 * p.d))
    | none => x.wrNat (Adr.SFE_PROF_COST j) 0

/-- `STATUS.RESULT` of profile j. -/
def Half.profResult (h : Half) (j v : Nat) : Half := h.put (Adr.SFE_PROF_STATUS j) 30 2 v

/-- A profile that breaks the budget (R388, R389). -/
def Half.overBudget (h : Half) (j : Nat) : Half := (h.profResult j 3).event Adr.SFE_EVENT 0

/-- A write of `PROF[j].APPLY` (R388): CFG, FIR, GD_PROG and coefficients as they stand are checked. K = 0 turns the profile
off. -/
def Half.submitProfile (h : Half) (j : Nat) : Half :=
  if 7 ≤ j ∨ !h.outUp then h
  else
    let fir := h.rd (Adr.SFE_PROF_FIR j)
    let base := getBits fir 0 12
    let coefs := (List.range (getBits fir 12 9 + 1)).map fun i => signed 24 (h.get (Adr.SNS_COEF (base + i)) 0 24)
    let p : ProfCfg := ⟨h.rd (Adr.SFE_PROF_CFG j), fir, h.rd (Adr.SFE_PROF_GD j), coefs⟩
    let h1 := h.onProf j fun x => { x with next := some p }
    if p.k = 0 then
      (((h1.wrNat (Adr.SFE_PROF_STATUS j) 0x40000000).wrNat (Adr.SFE_PROF_PERIOD j) 0)).showBudget
    else if !p.valid then h.profResult j 2
    else if !withinBudget h1.comingProfs then h.overBudget j
    else
      ((h1.wrNat (Adr.SFE_PROF_STATUS j) (0x40000000 + 2 ^ 29 * ofBool p.sym + 2 ^ 28 * ofBool p.antisym
        + p.delayNs % 2 ^ 26)).wrNat (Adr.SFE_PROF_PERIOD j) p.d).showBudget

/-- A write of `SNS[s].CTRL`: it waits for the block boundary; a PROFILE that would break the budget leaves the channel where
it was (R388, R389, R412). -/
def Half.writeSnsCtrl (h : Half) (s : Nat) (v : Word) : Half :=
  let old := h.stagedField (Adr.SNS_CTRL s) 1 3
  let j := getBits v 1 3
  let h1 := h.stage (Adr.SNS_CTRL s) (BitVec.ofNat 32 (v.toNat % 16))
  if j = old then h1
  else if withinBudget h1.comingProfs then h1.showBudget
  else (h.stage (Adr.SNS_CTRL s) (BitVec.ofNat 32 (v.toNat % 2 + 2 * old))).overBudget j

/-- A value of `SNS[s].CTRL` takes effect (R380, R396). -/
def Half.snsCtrl (h : Half) (s : Nat) (v : Word) : Half :=
  let joins := getBits v 1 3 != h.snsProfile s
  let h1 := h.wrNat (Adr.SNS_CTRL s) (v.toNat % 16)
  let h2 := if bitAt v 0 then h1.snsClear s 4 else h1.snsCause s 4
  if joins then h2.onConv s fun c => { c with join := true } else h2

/-- A write of `SFE.SYNC` (R395). -/
def Half.writeSync (h : Half) (mask : Nat) : Half :=
  if h.outUp then h.each (maskBits 7 mask) fun x j => x.onProf j fun p => { p with syncDue := true } else h

/-- The channels of user profile j, rising (R383). -/
def Half.profChannels (h : Half) (j : Nat) : List Nat := (List.range 80).filter fun s => h.snsProfile s == j

/-- Filters in cleared state from cycle `start` of their profile on (R395, R396). -/
def Conv.cleared (c : Conv) (p : ProfCfg) (start : Nat) : Conv :=
  { c with
    start := start, unsettled := p.settling, ints := List.replicate p.k 0, combs := List.replicate p.k 0, line := []
    extreme := 0, overAgo := none, join := false }

/-- A profile at a block boundary: an accepted configuration or a synchronising reset takes effect, channels join
(R388, R395, R396). -/
def Half.profBoundary (h : Half) (j : Nat) : Half :=
  let x := h.prof j
  let now := if x.next.isSome then h.comingProf j else x.now
  let h1 :=
    if x.next.isSome || x.syncDue then
      ((h.onProf j fun y => { y with now := now, next := none, syncDue := false, block := h.age, n := 0 }).wrNat
        (Adr.SFE_PROF_SEQ j) 0).each (h.profChannels j) fun y s => y.onConv s fun c => { c with join := true }
    else h
  let h2 := h1.putBit Adr.SFE_STATUS j now.isSome
  match now with
  | none => h2
  | some p =>
    h2.each ((h2.profChannels j).filter fun s => (h2.conv s).join && (h2.conv s).causes.isEmpty) fun y s =>
      y.onConv s fun c => c.cleared p ((h2.age - (h2.prof j).block) * 6144)

/-- n / d rounded to nearest, ties to even. -/
def roundEven (n : Int) (d : Nat) : Int :=
  let q := n / (d : Int)
  let r := 2 * (n % (d : Int))
  if r < d then q else if (d : Int) < r then q + 1 else if q % 2 = 0 then q else q + 1

/-- The code that an operand stands for (R378). -/
def codeOf (c : Fin 4) : Int := 2 * (c.val : Int) - 3

/-- One cycle of the integrators: 72 bits, wrapping (R384). -/
def integrate (x : Int) : List Nat → List Nat
  | [] => []
  | a :: rest =>
    let v := ((a : Int) + x) % 2 ^ 72
    v.toNat :: integrate v rest

/-- The combs: differences with the previous value of each, 72 bits, wrapping (R384); the result and the values to keep. -/
def comb (x : Nat) : List Nat → Nat × List Nat
  | [] => (x, [])
  | p :: rest =>
    let (y, keep) := comb (((x : Int) - p) % 2 ^ 72).toNat rest
    (y, x :: keep)

/-- One CD3 cycle of a channel within output n of its profile: before its start nothing enters the filter; an extreme code
counts towards overload (R381, R384, R396). -/
def Conv.cycle (p : ProfCfg) (first : Nat) (c : Conv) (q : Fin 4 × Nat) : Conv :=
  let i := first + q.2
  let ext := if q.1 = 0 ∨ q.1 = 3 then c.extreme + 1 else 0
  let ago := if 8 ≤ ext then some 0 else c.overAgo.map (· + 1)
  let c1 := { c with extreme := ext, overAgo := ago }
  if i < c.start then c1
  else
    let c2 := { c1 with ints := integrate (codeOf q.1) c1.ints }
    if (q.2 + 1) % p.dc ≠ 0 then c2
    else
      let (s, keep) := comb (c2.ints.getLast?.getD 0) c2.combs
      let v := roundEven (signed 72 s * 2 ^ 21) (p.dc ^ p.k)
      { c2 with combs := keep, line := (v :: c2.line).take p.taps }

/-- The output of a channel: VALUE and whether it saturates (R385). -/
def Conv.output (p : ProfCfg) (c : Conv) : Int × Bool :=
  let acc := ((p.coefs.zip c.line).map fun x => x.1 * x.2).sum
  let v := roundEven acc (2 ^ 14)
  (satSigned 32 v, decide (satSigned 32 v ≠ v))

/-- A threshold x of channel s meets an update of its source (R398): MIN_COUNT updates in a row move it. -/
def Half.threshold (h : Half) (s x : Nat) (v : Int) : Half :=
  let cfg := if x = 0 then h.rd (Adr.SNS_TH0_CFG s) else h.rd (Adr.SNS_TH1_CFG s)
  let raw := if x = 0 then h.rd (Adr.SNS_TH0_LEVEL s) else h.rd (Adr.SNS_TH1_LEVEL s)
  let level := if getBits cfg 28 2 = 3 then signed 16 raw.toNat else signed 32 raw.toNat
  let on := h.bit (Adr.SNS_STATUS s) (6 + x)
  let above := bitAt cfg 30
  let d := if above then v - level else level - v
  let back := (getBits cfg 16 8 : Int) * level.natAbs
  let moves := if on then decide (256 * d < -back) else decide (0 < d)
  let n := if moves then getAt (h.conv s).thCount x 0 + 1 else 0
  let flips := decide (max 1 (getBits cfg 0 16) ≤ n)
  let h1 := h.onConv s fun c => { c with thCount := setAt c.thCount x (if flips then 0 else n) }
  if flips then (h1.putBit (Adr.SNS_STATUS s) (6 + x) (!on)).event (Adr.SNS_EVENT s) x else h1

/-- Every threshold of channel s whose source is `src` meets an update (R398). -/
def Half.thresholds (h : Half) (s : Nat) (src : Nat → Nat → Option Int) : Half :=
  h.each [0, 1] fun x t =>
    let cfg := if t = 0 then x.rd (Adr.SNS_TH0_CFG s) else x.rd (Adr.SNS_TH1_CFG s)
    if bitAt cfg 31 then
      match src (getBits cfg 28 2) (min 8 (getBits cfg 24 4)) with
      | some v => x.threshold s t v
      | none => x
    else x

/-- The timestamp of output n of profile p, whose synchronising reset lay `blocks` blocks before the current boundary (R391):
PTP time of the boundary and the cycles from it. -/
def Half.sampleTime (h : Half) (p : ProfCfg) (blocks n : Nat) : Nat :=
  let c := (((n + 1) * p.d - 1 : Nat) : Int) * 512 - p.delay512 - (blocks * 6144 * 512 : Nat)
  let num := c * 15625
  let den : Int := 512 * 768
  (((h.ptpNs 0 : Int) + (2 * num + den) / (2 * den)) % 2 ^ 48).toNat

/-- One channel's part of an output instant (R392 to R396): its Q7 word, `VALUE`, thresholds. -/
def Half.releaseChannel (h : Half) (p : ProfCfg) (n : Nat) (s : Nat) (codes : List (Fin 4)) : Half × Nat :=
  let c := h.conv s
  let span := p.k * (p.dc - 1) + 1 + (p.taps - 1) * p.dc
  let sat := fun (y : Conv) => match y.overAgo with | some a => decide (a < span) | none => false
  if !c.causes.isEmpty then
    let y := codes.zipIdx.foldl (Conv.cycle p (n * p.d)) { c with start := (n + 1) * p.d }
    (((h.onConv s fun z => { z with extreme := y.extreme, overAgo := y.overAgo }).wrNat (Adr.SNS_VALUE s) 0),
      2 ^ 49 * s + 2 ^ 47 * ofBool (sat y) + 2 ^ 46)
  else if c.join then
    ((h.wrNat (Adr.SNS_VALUE s) 0).putBit (Adr.SNS_STATUS s) 4 true, 2 ^ 49 * s + 2 ^ 48)
  else
    let y := codes.zipIdx.foldl (Conv.cycle p (n * p.d)) c
    let (v, over_) := y.output p
    let u := decide (0 < c.unsettled)
    let h1 := ((h.onConv s fun _ => { y with unsettled := c.unsettled - 1 }).wrNat (Adr.SNS_VALUE s) (unsigned 32 v)).putBit
      (Adr.SNS_STATUS s) 4 u
    let h2 := if u then h1 else h1.thresholds s fun src _ =>
      if src = 0 then some v else if src = 1 then some v.natAbs else none
    (h2, 2 ^ 49 * s + 2 ^ 48 * ofBool u + 2 ^ 47 * ofBool (sat y || over_) + unsigned 32 v)

/-- Pushes a record to Q7; a record it cannot take is dropped whole and counted (R393, R394). -/
def Half.pushQ7 (h : Half) (items : List Nat) : Half :=
  let h1 := h.hwPush 7 4 items
  if h1.rd (Adr.QM_DROP_CNT 7) = h.rd (Adr.QM_DROP_CNT 7) && h.up .memory then h1
  else
    let h2 := if (h1.rd Adr.SFE_DROPPED).toNat = 0 then h1.event Adr.SFE_EVENT 1 else h1
    h2.count Adr.SFE_DROPPED 0 16 1

/-- PROFILE_RELEASE: an output instant of user profile j, with one list of D codes for each of its channels (R392 to R395). -/
def Half.releaseProfile (h : Half) (j : Nat) (codes : List (List (Fin 4))) : Half :=
  let x := h.prof j
  let chans := h.profChannels j
  match x.now with
  | none => h
  | some p =>
    if codes.length ≠ chans.length ∨ codes.any (fun c => decide (c.length ≠ p.d)) then h
    else
      let (h1, items) := (chans.zip codes).foldl (fun (a : Half × List Nat) q =>
        let (y, item) := a.1.releaseChannel p x.n q.1 q.2
        (y, a.2 ++ [item])) (h, [])
      let head := 2 ^ 55 * ofBool (x.n == 0) + 2 ^ 52 * j + 2 ^ 48 * (x.n % 16) + h.sampleTime p (h.age - x.block) x.n
      let h2 := (h1.onProf j fun y => { y with n := x.n + 1 }).wrNat (Adr.SFE_PROF_SEQ j) (x.n + 1)
      if bitAt p.cfg 31 && !chans.isEmpty then h2.pushQ7 (head :: items) else h2

/-- PROFILE_RELEASE (R392). -/
def execProfileRelease (h : HalfId) (j : Fin 7) (codes : List (List (Fin 4))) (s : State) :
    Host.Outcome State Fault Refusal :=
  .next (s.on h fun x => if x.outUp then x.releaseProfile j codes else x)

/-- The R of an auxiliary channel in Ω from its `SYS_VALUE` (R397). -/
def derivedOhms (series : Nat) (v : Int) : Nat :=
  if v ≤ 0 then 0
  else if 2 ^ 30 ≤ v then 0xFFFFFF
  else min 0xFFFFFF (rounded (series * v.toNat) (2 ^ 30 - v.toNat))

/-- An output of the system profile on channel s (R397, R398); a channel without valid output keeps its values. -/
def Half.systemChannel (h : Half) (s : Nat) (v : Word) : Half :=
  if !h.snsValid s then h
  else
    let h1 := h.wr (Adr.SNS_SYS_VALUE s) v
    if 76 ≤ s then h1
    else
      let r := derivedOhms (h.get (Adr.SNS_AUX_CFG s) 0 24) (signed 32 v.toNat)
      let h2 := (h1.wrNat (Adr.SNS_DERIVED s) r).thresholds s fun src _ => if src = 2 then some (r : Int) else none
      if s < 72 then h2.put (Adr.ALM_EVAC_STATUS (s - 64)) 16 16 (min 0xFFFF (rounded r 4)) else h2

/-- The junction temperature as measured (R360, R497). -/
def Half.takeTj (h : Half) (tj : Int) : Half :=
  let h1 := { h with hlt := { h.hlt with
    tj := tj, tjMax := some (max tj (h.hlt.tjMax.getD tj)), tjMin := some (min tj (h.hlt.tjMin.getD tj)) } }
  if h1.role == .standby || h1.role == .syncing then h1
  else h1.each [0, 1, 2, 3] fun x c => x.put (Adr.AMPC_TEMP c) 16 16 (unsigned 16 (satSigned 16 tj))

/-- SYSTEM_PROFILE_OUTPUT (R397): values, loop and NTC resistances, T_N and its consequences (R360, R361). -/
def execSystemProfileOutput (h : HalfId) (values : List Word) (tj : Int) (_ofs : BlockOfs) (s : State) :
    Host.Outcome State Fault Refusal :=
  .next (s.on h fun x =>
    if x.outUp then
      let x1 := (values.take 16).zipIdx.foldl (fun (y : Half) q => y.systemChannel (64 + q.2) q.1) (x.takeTj tj)
      x1.each [0, 1, 2, 3] Half.takeNtc
    else x)

/-- CM_REPORT (R399). -/
def execCmReport (h : HalfId) (words : List Word) (s : State) : Host.Outcome State Fault Refusal :=
  .next (s.on h fun x =>
    if x.outUp then (words.take 32).zipIdx.foldl (fun (y : Half) q => y.wr (Adr.SNS_CM q.2) q.1) x else x)

/-! Larkspur (R400 to R407). -/

/-- Larkspur is enabled on channel k. -/
def Half.lspOn (h : Half) (k : Nat) : Bool := h.bit (Adr.SFE_LSPK_CFG k) 31

/-- `EST[b]` and `BASE[b]` of channel k: their addresses. -/
def estAdr (k b : Nat) : Nat := Adr.SFE_LSPK_EST0 k + 4 * b
def baseAdr (k b : Nat) : Nat := Adr.SFE_LSPK_BASE0 k + 4 * b

/-- An estimate or a baseline word: MAG in dB16 within its limits, PHASE in 0.01° (R401). -/
def impedanceWord (re im : Int) (n : Nat) : Nat :=
  0x10000 * unsigned 16 (clampInt (-32767) 32767 (Config.zMag re im n)) + unsigned 16 (Config.zPhase re im)

/-- A word of an estimate or baseline that holds one. -/
def hasMag (w : Word) : Bool := getBits w 16 16 != 0x8000

/-- The bands that channel k considers under R405: in `BAND_MASK`, with estimate and baseline. -/
def Half.considered (h : Half) (k : Nat) : List Nat :=
  (List.range 9).filter fun b =>
    h.bit (Adr.SFE_LSPK_CFG k) (20 + b) && hasMag (h.rd (estAdr k b)) && hasMag (h.rd (baseAdr k b))

/-- A band of channel k breaches the deviation limits (R405). -/
def Half.deviates (h : Half) (k b : Nat) : Bool :=
  let e := h.rd (estAdr k b)
  let z := h.rd (baseAdr k b)
  let dm := (signed 16 (getBits e 16 16) - signed 16 (getBits z 16 16)).natAbs
  let dp := (signed 16 (getBits e 0 16) - signed 16 (getBits z 0 16)).natAbs
  decide (h.get Adr.SFE_DEV_CFG 0 16 ≤ dm ∨ 10 * h.get Adr.SFE_DEV_CFG 16 8 ≤ dp)

/-- A band of channel k shows an open line (R405). -/
def Half.opens (h : Half) (k b : Nat) : Bool :=
  decide (signed 16 (h.get (baseAdr k b) 16 16) + signed 16 (h.get Adr.SFE_LIM_CFG 16 16) ≤ signed 16 (h.get (estAdr k b) 16 16))

/-- The |Z| of a band lies below `AMP[k].ZSHORT` (R405): exactly, on the sum of its valid intervals. -/
def Half.shorted (h : Half) (k : Nat) (zs : List (Int × Int)) : Bool :=
  let re := (zs.map fun z => z.1).sum
  let im := (zs.map fun z => z.2).sum
  decide (10000 * (re * re + im * im) < ((h.get (Adr.AMP_ZSHORT k) 0 16 * zs.length * 65536 : Nat) : Int) ^ 2)

/-- The condition of channel k (R405): 0 OFF, 1 NO_BASELINE, 2 NORMAL, 3 DEVIATION, 4 OPEN, 5 SHORT, 6 NO_DATA. -/
def Half.condition (h : Half) (k : Nat) : Nat :=
  let x := h.lsp k
  let st := h.ampState k
  let base := (List.range 9).any fun b => h.bit (Adr.SFE_LSPK_CFG k) (20 + b) && hasMag (h.rd (baseAdr k b))
  let count := max 1 (h.get Adr.SFE_DEV_CFG 24 8)
  if !h.lspOn k || st == 0 then 0
  else if st == 3 || st == 4 || st == 5 || (List.range 9).any (fun b =>
      getAt x.valid b false && h.shorted k (getAt x.bands b [])) then 5
  else if !base then 1
  else if count ≤ x.openCnt then 4
  else if count ≤ x.dev then 3
  else if 10 ≤ x.noData then 6
  else 2

/-- The record of R406 on channel k. -/
def Half.lineRecord (h : Half) (k kind : Nat) : List Nat :=
  let c := h.rd (Adr.SFE_LSPK_COND k)
  let valid := fun (b : Nat) => getAt (h.lsp k).valid b false
  let head := 2 ^ 48 * kind + 2 ^ 43 * k + 2 ^ 40 * getBits c 27 3 + 2 ^ 39 * getBits c 30 1
    + 2 ^ 30 * maskOf 9 valid + getBits c 0 16
  head :: (h.ptpNs 0 % 2 ^ 48) :: (List.range 9).map fun b =>
    2 ^ 52 * b + 2 ^ 51 * ofBool (valid b) + 2 ^ 50 * getBits c (18 + b) 1 + (h.rd (estAdr k b)).toNat

/-- Pushes the record of channel k to Q10 (R406). -/
def Half.pushLine (h : Half) (k kind : Nat) : Half := h.hwPush 10 7 (h.lineRecord k kind)

/-- Shows condition, earth fault and deviating bands of channel k; a change sets `EVENT.LINE` and pushes a record
(R405, R406). -/
def Half.showLine (h : Half) (k : Nat) (ef : Bool) : Half :=
  let old := h.get (Adr.SFE_LSPK_COND k) 27 4
  let c := h.condition k
  let devs := maskOf 9 fun b => (h.considered k).contains b && h.deviates k b
  let h1 := ((h.put (Adr.SFE_LSPK_COND k) 27 3 c).putBit (Adr.SFE_LSPK_COND k) 30 ef).put (Adr.SFE_LSPK_COND k) 18 9 devs
  if h1.get (Adr.SFE_LSPK_COND k) 27 4 = old then h1 else (h1.event (Adr.SNS_EVENT k) 4).pushLine k 2

/-- The earth-fault ratio of an interval of channel k: shown, and counted in 100 ms (R400); the state that follows. -/
def Half.earthFault (h : Half) (k : Nat) (m : LineIn) : Half × Bool :=
  let was := h.bit (Adr.SFE_LSPK_COND k) 30
  if m.diff = 0 ∨ m.diffDb < signed 16 (h.get Adr.SFE_LIM_CFG 0 16) ∨ !h.snsValid k then (h, was)
  else
    let cfg := h.rd Adr.SFE_EF_CFG
    let step := clampNat 1 100 (h.get Adr.SFE_LSP_CFG 16 8)
    let high := decide (getBits cfg 16 16 * m.diff ≤ 65536 * m.cm)
    let low := decide (2 * 65536 * m.cm < getBits cfg 16 16 * m.diff)
    let x := h.lsp k
    let eh := if high then x.efHigh + step else 0
    let el := if low then x.efLow + step else 0
    let h1 := (h.put (Adr.SFE_LSPK_COND k) 0 16 (min 0xFFFF (rounded (65536 * m.cm) m.diff))).onLsp k fun y =>
      { y with efHigh := eh, efLow := el }
    let t := getBits cfg 0 16
    (h1, if high && decide (t ≤ eh) then true else if low && decide (t ≤ el) then false else was)

/-- The bands of an interval of channel k (R401): the estimates that change, and the sums of a capture (R404). -/
def Half.takeBands (h : Half) (k : Nat) (m : LineIn) : Half :=
  let run := h.running k && h.snsValid k && h.snsValid (32 + k)
  let exc := signed 16 (h.get Adr.SFE_LIM_CFG 0 16)
  let ok := fun (b : Nat) => match m.bands[b]? with | some z => run && decide (exc ≤ z.exc) | none => false
  let avg := clampNat 1 64 (h.get Adr.SFE_LSP_CFG 24 8)
  let x := h.lsp k
  let bands := (List.range 9).map fun b =>
    let old := getAt x.bands b []
    match m.bands[b]? with
    | some z => if ok b then ((z.re, z.im) :: old).take avg else old
    | none => old
  let cap := x.capture.map fun sums => sums.zipIdx.map fun q =>
    match m.bands[q.2]? with
    | some z => if ok q.2 then (q.1.1 + 1, q.1.2.1 + z.re, q.1.2.2 + z.im) else q.1
    | none => q.1
  let h1 := h.onLsp k fun y => { y with bands := bands, valid := (List.range 9).map ok, capture := cap }
  h1.each ((List.range 9).filter ok) fun y b =>
    let zs := getAt bands b []
    y.wrNat (estAdr k b) (impedanceWord (zs.map fun z => z.1).sum (zs.map fun z => z.2).sum zs.length)

/-- The updates in a row that meet the entry rules of DEVIATION, OPEN and NO_DATA (R405). -/
def Half.countLine (h : Half) (k : Nat) : Half :=
  let bs := h.considered k
  h.onLsp k fun x => { x with
    dev := if bs.any (h.deviates k) then x.dev + 1 else 0
    openCnt := if bs.any (h.opens k) then x.openCnt + 1 else 0
    noData := if bs.any (fun b => getAt x.valid b false) then 0 else x.noData + 1 }

/-- LARKSPUR_UPDATE (R400, R401, R405). -/
def execLarkspurUpdate (h : HalfId) (k : Fin 32) (m : LineIn) (s : State) : Host.Outcome State Fault Refusal :=
  .next (s.on h fun x =>
    if !x.outUp then x
    else
      let (x1, ef) := x.earthFault k m
      if !x.lspOn k then x1.showLine k ef
      else
        let x2 := ((x1.takeBands k m).countLine k).showLine k ef
        x2.thresholds k fun src b =>
          let e := x2.rd (estAdr k b)
          if src = 3 ∧ hasMag e then some (signed 16 (getBits e 16 16)) else none)

/-- LARKSPUR_REPORT (R406). -/
def execLarkspurReport (h : HalfId) (s : State) : Host.Outcome State Fault Refusal :=
  .next (s.on h fun x =>
    if x.outUp && x.get Adr.SFE_LSP_CFG 8 8 != 0 then x.each ((List.range 32).filter x.lspOn) fun y k => y.pushLine k 1
    else x)

/-- The end of a capture: `LSP_STATUS` and `SFE.EVENT.CAPTURE`; a failed one keeps the baseline (R404). -/
def Half.endCapture (h : Half) (k : Nat) (failed : Bool) : Half :=
  (((h.onLsp k fun x => { x with capture := none }).putBit Adr.SFE_LSP_STATUS k false).event Adr.SFE_EVENT 2).putBit
    Adr.SFE_LSP_CAPFAIL k failed

/-- A capture that OP 2 aborts, or whose channel leaves RUN (R404). -/
def Half.failCapture (h : Half) (k : Nat) : Half := if (h.lsp k).capture.isSome then h.endCapture k true else h

/-- CAPTURE_END (R404). -/
def execCaptureEnd (h : HalfId) (k : Fin 32) (s : State) : Host.Outcome State Fault Refusal :=
  .next (s.on h fun x =>
    match (x.lsp k).capture with
    | none => x
    | some sums =>
      if !x.running k || (getAt sums 8 (0, 0, 0)).1 == 0 then x.endCapture k true
      else
        (sums.zipIdx.foldl (fun (y : Half) q =>
          y.wrNat (baseAdr k q.2) (if q.1.1 = 0 then 0x80000000 else impedanceWord q.1.2.1 q.1.2.2 q.1.1)) x).endCapture k false)

/-- A write of `LSP_CMD` (R404): capture, clear, abort, on one channel or on every enabled one. -/
def Half.writeLspCmd (h : Half) (v : Word) : Half :=
  let ks := if bitAt v 8 then (List.range 32).filter h.lspOn else [getBits v 0 5]
  if !bitAt v 31 || !h.outUp then h
  else
    match getBits v 28 3 with
    | 0 => h.each ks fun x k =>
        (x.onLsp k fun y => { y with capture := some (List.replicate 9 (0, 0, 0)) }).putBit Adr.SFE_LSP_STATUS k true
    | 1 => h.each ks fun x k => x.each (List.range 9) fun y b => y.wrNat (baseAdr k b) 0x80000000
    | 2 => h.each ks Half.failCapture
    | _ => h

/-! The pilot (R403). -/

/-- The pilot mode of channel k: 0 OFF, 1 AUTO, 2 ALWAYS (R411). -/
def Half.pilotMode (h : Half) (k : Nat) : Nat := match h.get (Adr.SFE_LSPK_CFG k) 29 2 with | 3 => 1 | v => v

/-- Shows the pilot of channel k. -/
def Half.setPilot (h : Half) (k : Nat) (on : Bool) : Half :=
  (h.onLsp k fun x => { x with pilot := on }).putBit (Adr.SFE_LSPK_COND k) 31 on

/-- PILOT_START: the rms of x over SIL_TIME lies below SIL_LEVEL in AUTO (R403). -/
def execPilotStart (h : HalfId) (k : Fin 32) (s : State) : Host.Outcome State Fault Refusal :=
  .next (s.on h fun x =>
    if x.ampActs && x.lspOn k && x.pilotMode k == 1 then x.setPilot k true else x)

/-- The peak of x on channel k in this block exceeds SIL_LEVEL (R403). -/
def Half.loud (h : Half) (k : Nat) : Bool :=
  let peak := fPeak ((List.range h.blockLen).map fun pos => audioGet h.outBlk 2 k pos)
  peak != 0 && decide (signed 16 (h.get Adr.SFE_SILENCE 0 16) < signed 16 (Config.toDb16 peak).toNat)

/-- The pilot of channel k for the block that begins: a half that decides it does so, every half ramps it over 5 ms; with the
data plane forced it stops (R403, R408). -/
def Half.pilotBlock (h : Half) (k : Nat) : Half :=
  let x := h.lsp k
  if h.sent.forceData then (h.setPilot k false).onLsp k fun y => { y with ramp := 0 }
  else
    let want :=
      if !h.ampActs then x.pilot
      else if x.capture.isSome then true
      else if !h.lspOn k then false
      else
        match h.pilotMode k with
        | 0 => false
        | 1 => x.pilot && !h.loud k
        | _ => true
    let h1 := if want = x.pilot then h else h.setPilot k want
    h1.onLsp k fun y => { y with ramp := if want then min h.fadeLen (y.ramp + h.blockLen) else y.ramp - h.blockLen }

/-- The sense chain at a block boundary; `jump` says that a time jump was made (R395 to R397, R403, R404). -/
def Half.senseBoundary (h : Half) (jump : Bool) : Half :=
  if !h.outUp then h
  else
    let all := jump || (h.out.forced && !h.sent.forceData)
    let h1 := h.onOut fun o => { o with
      forced := h.sent.forceData, sysSync := (o.sysSync || all) && h.block % 8 != 0
      prof := if all then o.prof.map fun p => { p with syncDue := true } else o.prof }
    let h2 := h1.each (List.range 7) Half.profBoundary
    (h2.each ((List.range 32).filter fun k => !h2.running k) Half.failCapture).each ((List.range 32).filter fun k =>
      h2.lspOn k || h2.out.lsp.any fun c => c.1 == k) Half.pilotBlock

end Sys2Proof.Machine
end

