-- ==== Sys2Proof/Machine/Reset.lean ====
section
/-! DEFINITION. Resets and start-up (R17, R27, R29, R37, R40, R461, R528 to R530, R535 to R546). -/

namespace Sys2Proof.Machine

open Sys2Proof

/-- What a half keeps through each of its resets (R528): its flash and OTP, the block count and the free values' counter. -/
def Half.afterReset (h : Half) (phase : Phase) : Half :=
  { Half.init h.id with
    fv := h.fv, block := h.block, age := h.age, phase := phase
    boot := { h.boot with page := [], flashOp := .idle, bootOp := .idle } }

/-- What the health record keeps through a pin or a warm reset: its counts and extremes run from power-on (R497). -/
def Half.keptHealth (h : Half) : HealthSt := { h.hlt with seq := 0, partnerAt := none }

/-- The registers that a warm reset leaves: the straps, the rails, what the sentinel shows, the count of TMR
corrections (R37, R505, R528). -/
def Half.keepWarm (h : Half) : List (Nat × Word) :=
  h.regs.filter fun p => p.1 == Adr.DIE_STRAPS || p.1 == Adr.DIE_RAIL_STATUS || p.1 == Adr.RDN_YIELD_COUNT ||
    p.1 == Adr.HLT_TMR_CORR

/-- An operation that a reset cuts short leaves what R544 says: a slot being erased or programmed is invalid. -/
def Half.cutShort (h : Half) : Half :=
  match h.boot.flashOp with
  | .erase a => { h with boot := h.boot.eraseSector a }
  | .program a => { h with boot := h.boot.write (a / 0x10000 * 0x10000) [0xFF] }
  | .idle =>
    match h.boot.bootOp with
    | .saveLibrary => { h with boot := h.boot.eraseSector 0x3000000 }
    | _ => h

/-- The retirements that ERASE_RETIREMENTS erased leave the list (R537). -/
def BootSt.forget (b : BootSt) : BootSt :=
  match b.erased with
  | none => b
  | some old =>
    { b.retire (fun x => { x with
        pages := x.pages.filter fun p => !old.pages.contains p
        rows := x.rows.filter fun p => !old.rows.contains p
        engines := x.engines &&& (0xFF - old.engines % 0x100)
        cells := x.cells.filter fun p => !old.cells.contains p
        granules := x.granules.filter fun p => !old.granules.contains p }) with erased := none }

/-- Enters a reset that takes the sentinel along: power-on or pin (R37, R528). An ACTIVE half releases its line first
(R529). A power-on reset loses the LPDDR5 content, a pin reset keeps it. -/
def Half.enterHardReset (h : Half) (pin : Bool) : Half :=
  let h0 := h.releaseForReset.cutShort
  let h1 := h0.afterReset (if pin then .pinReset else .powerReset)
  let h2 :=
    if pin then
      { (h1.retainMemory h0).wr Adr.HLT_TMR_CORR (h0.rd Adr.HLT_TMR_CORR) with hlt := { h0.keptHealth with since := h0.age } }
    else { h1 with hlt := { HealthSt.init with since := h0.age, tj := h0.hlt.tj }, boot := h1.boot.forget }
  let h3 := h2.onRdn fun x => { x with breezeOut := h0.rdn.breezeOut }
  h3.put Adr.DIE_RESET_CAUSE 0 4 (if pin then 2 else 1)

/-- Enters a warm reset (R528): every region but Sentinel. Pending paired writes are discarded and reported with cause
0x6 (R68). -/
def Half.enterWarmReset (h : Half) (source cause : Nat) : Half :=
  let h0 := h.cutShort
  let h1 := ({ h0.afterReset .warmReset with regs := h0.keepWarm, sent := h0.sent, hlt := h0.keptHealth }.retainMemory h0).life
    .warmResets 1
  let h2 := h1.onSent fun x => { x with
    ready := false, forceData := false, forceCtl := false, forceMgmt := false, giveUp := .idle, handover := .idle
    holding := false, claiming := 0, yieldWait := false, restarted := false, modulate := false, isoFault := false
    breezeLost := true, draughtLost := true, syncWaited := false, grace := false }
  let h3 := (h2.put Adr.DIE_RESET_CAUSE 0 4 source).put Adr.DIE_RESET_CAUSE 16 8 cause
  h0.acc.pw.foldl (fun x p => x.pwFail p.req p.slot 6) h3

/-- The recovery reset of R461: a region reset for cause 0x0008, a warm reset for every other cause. -/
def Half.recoverReset (h : Half) (cause : Nat) : Half :=
  if cause = 8 ∧ h.regionState .control ≠ .failed then
    (h.each (List.range 8) fun x i =>
      match Region.all[i]? with
      | some r => if x.regionState r = .failed then x.resetRegion r else x
      | none => x).onSent fun y => { y with giveUp := .recover 8 }
  else h.enterWarmReset 4 cause

/-- The pulls of `PSENc_n` have been released 2 ms after a give-up: the recovery reset starts (R365, R461), but not
while a kill is held, and not on a half that went to ISOLATED. -/
def State.startRecovery (s : State) (h : HalfId) : State :=
  let me := s.half h
  match me.sent.giveUp with
  | .released cause =>
    if me.role == .isolated then
      s.on h fun x => (if cause = 8 then x.recoverReset 8 else x).onSent fun y => { y with giveUp := .idle }
    else if cause = 9 ∧ (s.half h.other).sent.kill then s.on h fun x => x.onSent fun y => { y with giveUp := .recover 9 }
    else (s.on h fun x => x.recoverReset cause).lines
  | _ => s

/-- The management processor restores a region from its last committed configuration before its edge guards open, and its
units start (R17, R298). Uncommitted writes of staged fields are gone. -/
def Half.restoreRegion (h : Half) (r : Region) : Half :=
  let lost := fun (a : Nat) => match locate a with | some l => l.region == r && l.reg.cls == .staged | none => false
  let h0 := { h with held := dropWhere lost h.held }
  match r with
  | .network => h0.macReinit
  | .flow => h0.flowReinit
  | .timing => h0.timStart
  | .processing =>
    let down := fun (m : List (Nat × Word)) (b : Nat × Nat × Nat) =>
      copyWindow m b.1 b.2.1 0 ((m.filter fun p => decide (b.1 + b.2.2 ≤ p.1)).map fun p => (p.1 - b.2.2, p.2))
    let h1 : Half := { h0 with regs := stagingBanks.foldl down h0.regs }
    (h1.each (h1.recordsAt 0x3000000 0x20000 32) fun x i => x.putBit (Adr.NODE_STG (8 * i)) 23 false).showPlc
  | .output =>
    let h1 := (h0.tdmRestartAll.each (List.range 4) Half.ampClusterInit).each (List.range 32) fun x k =>
      if x.ampActs && x.bit (Adr.AMP_CTRL k) 0 then x.setAmp k 1 else x
    h1.each (List.range 80) fun x s => if x.bit (Adr.SNS_CTRL s) 0 then x else x.snsCause s 4
  | .memory =>
    let h1 := (h0.putBit Adr.MEM_STATUS 0 true).showReserve
    (h1.wrNat Adr.REC_SIZE (h1.recBytes / mib)).selectLibrary false
  | .control => h0
  | .sentinel => h0

/-- A region declared ready (R17): restored, and its edge guards open; a half that recovers from cause 0x0008 ends its forcing
once no region is failed or in reset (R460). -/
def Half.regionReadyNow (h : Half) (r : Region) : Half :=
  if h.regionState r ≠ .inReset ∨ !h.live then h
  else
    let h1 := (h.setRegion r .up).restoreRegion r
    if h1.sent.giveUp = .recover 8 ∧ Region.all.all (fun x => h1.up x) then
      h1.unforce.onSent fun y => { y with giveUp := .idle }
    else h1

/-- A failure or reset of the Control region acts as a warm reset of the half (R17). -/
def Half.settleControl (h : Half) : Half :=
  if h.live && h.regionState .control == .inReset then h.enterWarmReset 4 0 else h

/-- EDGE_GUARD_TIMEOUT (R14, R15). -/
def execEdgeGuardTimeout (h : HalfId) (r : Region) (s : State) : Host.Outcome State Fault Refusal :=
  .next (s.on h fun x => if x.live then (x.failRegion r).settleControl else x).lines

/-- REGION_STATE_UNCORRECTABLE (R15). -/
def execRegionStateUncorrectable (h : HalfId) (r : Region) (s : State) : Host.Outcome State Fault Refusal :=
  .next (s.on h fun x => if x.live then (x.failRegion r).settleControl else x).lines

/-- The confirmed value of `RESET_CTRL` takes effect: refused on an ACTIVE half for WARM, Control or any required region,
on every half for Sentinel (R17, R68, R530). -/
def Half.writeResetCtrl (h : Half) (q : Req) (v : Word) : Half :=
  let mask := getBits v 0 8
  let names := Region.all.filter fun r => mask.testBit r.bit
  if bitAt v 7 || (h.role == .active && (bitAt v 31 || names.any Region.required)) then
    h.pwRefuse q Adr.DIE_RESET_CTRL
  else if bitAt v 31 || bitAt v 6 then h.enterWarmReset 3 0
  else names.foldl (fun x r => x.resetRegion r) (h.wrNat Adr.DIE_RESET_CTRL mask)

/-- REGION_READY (R17). -/
def execRegionReady (h : HalfId) (r : Region) (s : State) : Host.Outcome State Fault Refusal :=
  .next (s.on h fun x => x.regionReadyNow r)

/-- The regions that use a lost domain (R13, R15). -/
def domainRegions : Nat → List Region
  | 0 => [.timing]
  | 1 => [.flow, .timing, .output]
  | 2 => [.timing, .output]
  | 3 => [.output]
  | 8 => [.memory]
  | _ => []

/-- A PCIe link that was up goes down (R82): ring DMA of the host's rings stops. -/
def Half.pcieDown (h : Half) : Half :=
  if h.bit Adr.HOST_STATUS 0 then
    (((h.putBit Adr.HOST_STATUS 0 false).wrNat Adr.HOST_LINK 0).event Adr.HOST_EVENT 0).stopHostRings
  else h

/-- A domain other than CD10 is lost (R15, R27, R29). -/
def Half.loseClock (h : Half) (d port : Nat) : Half :=
  let fails := fun (x : Half) => (domainRegions d).foldl (fun y r => y.failRegion r) x
  match d with
  | 0 | 3 | 8 => fails (h.giveUpFor 4)
  | 1 => fails ((h.giveUpFor 4).setMpll 7)
  | 2 => fails ((h.giveUpFor 4).setCpll 7)
  | 4 => h.losePtpClock
  | 5 => h.portLinkDown 0
  | 6 => h.portLinkDown 1
  | 7 => h.pcieDown
  | 9 => h.event Adr.RDN_EVENT 0
  | 11 => h.tdmFail port 1
  | _ => h

/-- POWER_ON_RESET (R528). -/
def execPowerOnReset (h : HalfId) (s : State) : Host.Outcome State Fault Refusal :=
  .next (s.on h fun x => x.enterHardReset false).lines

/-- PIN_RESET (R528). -/
def execPinReset (h : HalfId) (s : State) : Host.Outcome State Fault Refusal :=
  .next (s.on h fun x => x.enterHardReset true).lines

/-- The words of the configuration image: every committed table word and register word marked M; of the graph, the active
banks, kept at the places of their staging banks without the LS flags, which a commit sets (R210, R539). -/
def Half.configWords (h : Half) : List (Nat × Word) :=
  let plain := h.regs.filter fun p =>
    !inStagingBank p.1 && (match locate p.1 with | some l => l.reg.m && l.reg.attr != .ro && l.reg.attr != .wo | none => false)
  let graph := stagingBanks.flatMap fun b =>
    (h.regs.filter fun p => decide (b.1 + b.2.2 ≤ p.1 ∧ p.1 < b.1 + b.2.2 + b.2.1)).map fun p =>
      (p.1 - b.2.2, if b.1 = 0x3000000 ∧ p.1 % 32 = 0 then setBits p.2 23 1 0 else p.2)
  plain ++ graph

/-- Writes the configuration image into the older bank, the keys wrapped (R532, R539). -/
def Half.saveConfigBank (h : Half) : Half :=
  let i := h.boot.olderBank
  let gen := max h.boot.cfg0.gen h.boot.cfg1.gen + 1
  let keys := h.keys.map (fun k => if k.isEmpty then [] else Config.keyWrap h.id k)
  { h with boot := h.boot.setCfg i (ConfigBank.mk gen true h.configWords keys h.net) }

/-- Replays the newer valid configuration bank (step 5 of R540): what waits for a plan is staged for the replayed plan;
`BOOT_STATUS.CONFIG` shows which bank. -/
def Half.replayConfig (h : Half) : Half :=
  match h.boot.newerBank with
  | none => h.put Adr.DIE_BOOT_STATUS 16 4 2
  | some i =>
    let c := h.boot.cfg i
    let h1 := c.words.foldl (fun (x : Half) p => if waitsForPlan p.1 then x.stage p.1 p.2 else x.wr p.1 p.2) h
    { h1.put Adr.DIE_BOOT_STATUS 16 4 i with
      keys := c.keys.map (fun k => if k.isEmpty then [] else (Config.keyUnwrap h.id k).getD [])
      net := c.net }

/-- Step 6 of R540: the replayed plan is submitted and applied with no half in STANDBY; rejected, the half is ready with an
empty plan and `BOOT_STATUS.CONFIG` shows 3. -/
def Half.applyReplayedPlan (h : Half) : Half :=
  if 1 < h.get Adr.DIE_BOOT_STATUS 16 4 then h
  else
    match h.checkPlan with
    | .ok pl => (h.wrap Adr.GRF_PENDING_ID 0 32 1).takePlan pl
    | .error r => (h.showReject r).put Adr.DIE_BOOT_STATUS 16 4 3

/-- `LIFE_WARN` from 315,360 equivalent hours on (R500). -/
def Half.lifeWarn (h : Half) : Half :=
  if 315360 ≤ (h.rd Adr.HLT_EQUIV_HOURS).toNat ∧ !h.bit Adr.HLT_STATUS 3 then
    (h.putBit Adr.HLT_STATUS 3 true).event Adr.HLT_EVENT 3
  else h

/-- The last record of the hours area (R499, R505). -/
def Half.readHours (h : Half) : Half :=
  match h.boot.hours with
  | (p, e) :: _ =>
    { ((h.wrNat Adr.HLT_POWER_HOURS p).wrNat Adr.HLT_EQUIV_HOURS (e / 1000000)) with hlt := { h.hlt with equiv := e } }.lifeWarn
  | [] => h

/-- Steps 1 to 5 of R540 at a reset release that reloads the image: straps (not at a warm reset), Draught, flash capacity
(R538), boot ROM, regions initialised with the ADPLLs in FREERUN, configuration replayed, library selected. -/
def Half.startUp (h : Half) (hostsel partnerHas : Bool) (flashSize : Word) : Half :=
  match h.phase with
  | .powerReset | .pinReset | .warmReset =>
    let h0 := { h with boot := { h.boot with size := clampNat 0x4000000 0x20000000 flashSize.toNat } }
    let h1 :=
      if h.phase = .warmReset then h0
      else (h0.putBit Adr.DIE_STRAPS 1 hostsel).onSent fun x => { x with draught := .alive }
    let h2 := (h1.putBit Adr.HOST_STATUS 1 (h1.bit Adr.DIE_STRAPS 1)).applyRetirements.bootRom
    let h3 := { h2 with phase := .starting }
    if h3.bit Adr.DIE_BOOT_STATUS 28 then h3.setRegion .control .up
    else
      let h4 := ({ h3 with regions := [.up, .up, .up, .up, .up, .up, .up, .up] }).replayConfig.readHours
      ((h4.wrNat Adr.REC_SIZE (h4.recBytes / mib)).timStart).selectLibrary partnerHas
  | _ => h

/-- RESET_RELEASE (R540). -/
def execResetRelease (h : HalfId) (hostsel : Bool) (flashSize : Word) (s : State) : Host.Outcome State Fault Refusal :=
  .next (
    let p := s.half h.other
    s.on h fun x => x.startUp hostsel (p.role == .active && p.bit Adr.MSG_STATUS 0) flashSize).lines

/-- The PCIe endpoint is selected (R38). -/
def Half.pcieSelected (h : Half) : Bool := !h.bit Adr.DIE_STRAPS 1

/-- The MSI-X table at its reset: every vector masked, nothing pending (R41, R82). -/
def Half.resetMsix (h : Half) : Half :=
  { h with regs := dropWhere (fun a => decide (Adr.HOST_MSIX 0 ≤ a ∧ a < Adr.HOST_MSIX 0 + 0x408)) h.regs, ev := { h.ev with msixOut := [] } }

/-- FUNCTION_LEVEL_RESET: the configuration space resets (BME is 0) and ring DMA stops (R40). -/
def execFunctionLevelReset (h : HalfId) (s : State) : Host.Outcome State Fault Refusal :=
  .next (s.on h fun x =>
    if x.live && x.pcieSelected then ((x.putBit Adr.HOST_LINK 16 false).stopHostRings).resetMsix else x)

/-- PCIE_LINK_UP: LINK_UP, width 1 and the generation (R82). -/
def execPcieLinkUp (h : HalfId) (gen : Fin 3) (bme : Bool) (s : State) : Host.Outcome State Fault Refusal :=
  .next (s.on h fun x =>
    if x.live && x.pcieSelected then
      { ((x.putBit Adr.HOST_STATUS 0 true).put Adr.HOST_LINK 0 10 (16 + gen + 1)).putBit Adr.HOST_LINK 16 bme with
        ev := { x.ev with linkSeen := true } }
    else x)

/-- PCIE_LINK_DOWN (R82). -/
def execPcieLinkDown (h : HalfId) (s : State) : Host.Outcome State Fault Refusal := .next (s.on h Half.pcieDown)

/-- PCIE_TRAINING_TIMEOUT: `FAULT` cause 0x0001 (R82). -/
def execPcieTrainingTimeout (h : HalfId) (s : State) : Host.Outcome State Fault Refusal :=
  .next (s.on h fun x =>
    if x.live && x.pcieSelected && !x.bit Adr.HOST_STATUS 0 then
      { x.latch Adr.HOST_FAULT 1 with ev := { x.ev with linkSeen := true } }
    else x)

/-- PCIE_PERST_RELEASE: the endpoint is ready for training with its function reset (R593): BME is 0. -/
def execPciePerstRelease (h : HalfId) (s : State) : Host.Outcome State Fault Refusal :=
  .next (s.on h fun x => if x.live && x.pcieSelected then (x.putBit Adr.HOST_LINK 16 false).stopHostRings else x)

end Sys2Proof.Machine
end

