-- ==== Sys2Proof/Machine/Gust.lean ====
section
/-! DEFINITION. Gust's tests and cross-half checks, wear, the health record, service life (R485 to R506). -/

namespace Sys2Proof.Machine

open Sys2Proof

/-- An overrun of engine e lies less than 1 s back: its class 0 slices pause (R504). -/
def Half.katPaused (h : Half) (e : Nat) : Bool :=
  h.graph.overruns.any fun x => x.1 == e && decide (h.age < x.2 + 8000)

/-- ENGINE_KAT_SLICE: a failure retires the engine with cause 0x0003 (R485). -/
def execEngineKatSlice (h : HalfId) (e : Fin 8) (last pass : Bool) (s : State) : Host.Outcome State Fault Refusal :=
  .next (s.on h fun x =>
    if !x.gustRuns 0 || !(x.gustEngines false).contains e || x.katPaused e then x
    else if !pass then (x.retireEngine e 3).gustDone 0 e (some 1)
    else if last then x.gustDone 0 e none
    else x)

/-- SRAM_ROW_TEST: the March C− test of a row of the placement area; a failed row is retired (R248, R485). -/
def execSramRowTest (h : HalfId) (row : Fin 2048) (pass : Bool) (s : State) : Host.Outcome State Fault Refusal :=
  .next (s.on h fun x =>
    if !x.gustRuns 2 || x.boot.retired.rows.contains row then x
    else if pass then x.gustDone 2 row none
    else (x.retireRow row).gustDone 2 row (some 3))

/-- A granule of the ring memory lies within the slice of an enabled ring queue (R417). -/
def Half.granuleUsed (h : Half) (g : Nat) : Bool :=
  (List.range 64).any fun q =>
    let base := h.get (Adr.Q_CFG q) 16 8
    h.queueOn q && !h.queuePool q && decide (base ≤ g ∧ g < base + 2 ^ h.get (Adr.Q_CFG q) 12 4)

/-- POOL_CELL_TEST: a cell that the reservations leave, or a granule outside every enabled slice; a failed cell leaves the free
list for good, a failed granule is reported (R485, R488, R495). -/
def execPoolCellTest (h : HalfId) (granule : Bool) (i : BitVec 16) (pass : Bool) (s : State) :
    Host.Outcome State Fault Refusal :=
  .next (s.on h fun x =>
    let n := i.toNat
    let may := if granule then decide (n < 256) && !x.granuleUsed n
      else decide (x.rsvUnused 64 < x.poolFree) && !x.boot.retired.cells.contains n
    if !x.gustRuns 3 || !x.up .memory || !may then x
    else
      let unit := if granule then 0x10000 + n else n
      if pass then x.gustDone 3 unit none
      else
        (x.onRetired fun r =>
          if granule then { r with granules := n :: r.granules.filter (· != n) } else { r with cells := r.cells ++ [n] }).gustDone
          3 unit (some 4))

/-- INJECTION_TEST (R485, R486). -/
def execInjectionTest (h : HalfId) (pass : Bool) (s : State) : Host.Outcome State Fault Refusal :=
  .next (s.on h fun x => if x.gustRuns 5 then x.gustDone 5 0 (if pass then none else some 5) else x)

/-- CLOCK_MONITOR_TEST (R485). -/
def execClockMonitorTest (h : HalfId) (d : Fin 12) (pass : Bool) (s : State) : Host.Outcome State Fault Refusal :=
  .next (s.on h fun x => if x.gustRuns 8 then x.gustDone 8 d (if pass then none else some 9) else x)

/-- A role in which the halves compare their converters (R490). -/
def Half.compares (h : Half) : Bool :=
  h.linkUp && h.gustRuns 6 && (h.role == .active || h.role == .standby || h.role == .syncing)

/-- A mismatch of the statistics of one converter, under the tolerance of a half, in 2^-24 of full scale (R490). -/
def senseMismatch (tol : Nat) (a b : SenseStat) : Bool :=
  let dm := (a.mean - b.mean).natAbs
  let dr := ((a.rms : Int) - b.rms).natAbs
  decide (256 * tol < dm ∨ 200 * (256 * tol) + max a.rms b.rms < 200 * dr)

/-- One compared window of converter s: the third mismatch in a row sets its bit, the tenth clean window clears it (R490). -/
def Half.senseWindow (h : Half) (s : Nat) (bad : Bool) : Half :=
  let (b, g) := lookAt (fun _ => (0, 0)) h.gust.mismatch s
  let n := if bad then (b + 1, 0) else (0, g + 1)
  let h1 := h.onGust fun x => { x with mismatch := storeAt (fun _ => (0, 0)) x.mismatch s (min n.1 3, min n.2 10) }
  let set := h.bit (Adr.GST_SENSE_MISMATCH (s / 32)) (s % 32)
  if !set && n.1 == 3 then
    (((((h1.putBit (Adr.GST_SENSE_MISMATCH (s / 32)) (s % 32) true).latch (Adr.SNS_FAULT s) 4).event Adr.GST_EVENT 2).latch
      Adr.GST_FAULT 6).count Adr.GST_FAIL_CNT 0 16 1).life .gustFails 1
  else if set && n.2 == 10 then h1.putBit (Adr.GST_SENSE_MISMATCH (s / 32)) (s % 32) false
  else h1

/-- The window of class 6 at one half: every converter valid on both is compared (R490). -/
def Half.crossWindow (h partner : Half) (a b : List SenseStat) : Half :=
  let tol := h.get Adr.GST_SENSE_TOL 0 16
  let h1 := ((a.zip b).take 80).zipIdx.foldl (fun (x : Half) q =>
    if x.snsValid q.2 && partner.snsValid q.2 then x.senseWindow q.2 (senseMismatch tol q.1.1 q.1.2) else x) h
  (h1.gustDone 6 0 none).putBit (Adr.GST_CLASS 6) 31 ((List.range 3).any fun w => (h1.rd (Adr.GST_SENSE_MISMATCH w)).toNat != 0)

/-- CROSS_SENSE_WINDOW (R490). -/
def execCrossSenseWindow (a b : List SenseStat) (s : State) : Host.Outcome State Fault Refusal :=
  .next (if s.a.compares && s.b.compares then { s with a := s.a.crossWindow s.b a b, b := s.b.crossWindow s.a a b } else s)

/-- GATE_TRACKING_LOST (R491). -/
def execGateTrackingLost (h : HalfId) (k : Fin 32) (s : State) : Host.Outcome State Fault Refusal :=
  .next (
    let runs := (s.half h.other).running k
    s.on h fun x =>
      if x.gustRuns 7 && x.role == .standby && runs && !x.bit (Adr.AMP_TRACK k) 31 && !x.bit Adr.GST_GATE_MISMATCH k then
        (((x.putBit Adr.GST_GATE_MISMATCH k true).latch Adr.GST_FAULT 7).putBit (Adr.GST_CLASS 7) 31 true).count
          Adr.GST_FAIL_CNT 0 16 1 |>.life .gustFails 1
      else x)

/-- FORBIDDEN_GATE_COMBINATION (R491). -/
def execForbiddenGateCombination (h : HalfId) (k : Fin 32) (s : State) : Host.Outcome State Fault Refusal :=
  .next (s.on h fun x =>
    if x.gustRuns 7 && x.role == .standby && decide (k.val < 32) then x.gustFail 7 8 else x)

/-- AMP_DIFF_EXPIRY: the power of a channel, or the NTC temperature of a cluster (R492). -/
def execAmpDiffExpiry (h : HalfId) (ntc : Bool) (i : Fin 32) (s : State) : Host.Outcome State Fault Refusal :=
  .next (s.on h fun x =>
    if x.live && x.role == .standby then
      if !ntc then x.putBit Adr.GST_AMP_DIFF i true
      else if i.val < 4 then x.putBit Adr.GST_NTC_DIFF i true
      else x
    else x)

/-- WEAR_MEASUREMENT: `WEAR_WARN` when a drift reaches −`WEAR_LIMIT` (R493, R494). -/
def execWearMeasurement (h : HalfId) (drifts : List Int) (s : State) : Host.Outcome State Fault Refusal :=
  .next (s.on h fun x =>
    if x.live && x.up .control then
      let wear := (List.range 8).map fun r => getAt drifts r 0
      let y := { x with hlt := { x.hlt with wear := wear } }
      let worn := wear.any fun d => decide (d ≤ -(x.get Adr.HLT_WEAR_LIMIT 0 16 : Int))
      if worn && !x.bit Adr.HLT_STATUS 2 then
        ((y.putBit Adr.HLT_STATUS 2 true).event Adr.HLT_EVENT 2).latch Adr.HLT_FAULT 1
      else y
    else x)

/-! The health record (R496, R497). -/

/-- A count of the record, saturating at n bytes. -/
def Half.lifeBytes (h : Half) (n : Nat) (c : Life) : List Byte := beBytes n (min (h.lifeCount c) (256 ^ n - 1))

/-- Engines in a state, as a byte. -/
def Half.engineMask (h : Half) (st : Nat) : List Byte := beBytes 1 (maskOf 8 fun e => h.engState e == st)

/-- A signed value of 16 bits, saturating. -/
def be16 (v : Int) : List Byte := beBytes 2 (unsigned 16 (satSigned 16 v))

/-- Bytes 0 to 67: who, when, error counts (R497). -/
def Half.healthHead (h : Half) : List Byte :=
  let ns := h.ptpNs 0
  [0x42, 0x53, 0x59, 0x48, 0x01]
    ++ beBytes 1 (64 * (match h.id with | .a => 0 | .b => 1) + 8 * h.get Adr.RDN_ROLE_STATUS 8 3 + h.role.code) ++ [0, 0]
    ++ beBytes 4 h.hlt.seq ++ beBytes 6 (ns / 1000000000) ++ beBytes 4 (ns % 1000000000) ++ [0, 0]
    ++ beBytes 8 ((h.age - h.hlt.since) / 8)
    ++ h.lifeBytes 4 .warmResets ++ h.lifeBytes 4 .dramCorr ++ h.lifeBytes 4 .dramUncorr ++ h.lifeBytes 4 .linkEcc
    ++ h.lifeBytes 4 .sramCorr ++ h.lifeBytes 4 .sramUncorr ++ h.lifeBytes 4 .queueCorr ++ h.lifeBytes 4 .onarRetry
    ++ beBytes 4 (h.rd Adr.HLT_TMR_CORR).toNat

/-- Bytes 68 to 95: retirements and Gust (R497). -/
def Half.healthGust (h : Half) : List Byte :=
  let r := h.boot.retired
  let flags := 128 * ofBool (h.get Adr.PLC_CTRL 0 2 == 0) + 64 * ofBool ((List.range 8).any fun e => h.engState e == 3)
    + 32 * ofBool ((List.range 9).any h.overdue) + 16 * ofBool ((h.rd Adr.GST_FAIL_CNT).toNat != 0)
  h.engineMask 4 ++ h.engineMask 1 ++ beBytes 2 (r.rows.length - h.spareRowsUsed) ++ beBytes 2 h.spareRowsUsed
    ++ beBytes 2 r.pages.length ++ beBytes 2 (4096 - r.pages.length) ++ beBytes 2 r.cells.length
    ++ beBytes 1 h.engTested ++ beBytes 1 flags
    ++ beBytes 2 (rounded ((getAt h.gust.classes 2 GustClass.init).done.length * 1000) 2048)
    ++ beBytes 2 h.scrubPermille ++ h.lifeBytes 2 .gustFails
    ++ beBytes 6 (h.rd64 (Adr.GST_LAST_PASS 0)) ++ [0, 0]

/-- Bytes 96 to 147: temperatures, rails, wear, hours (R497). -/
def Half.healthParts (h : Half) : List Byte :=
  be16 h.hlt.tj ++ be16 (h.hlt.tjMax.getD h.hlt.tj) ++ be16 (h.hlt.tjMin.getD h.hlt.tj)
    ++ (List.range 4).flatMap (fun c => be16 ((getAt h.hlt.ntcMax c none).getD 0))
    ++ (List.range 12).flatMap (fun i => beBytes 1 (getAt h.hlt.least i 255)) ++ [0, 0]
    ++ (List.range 8).flatMap (fun r => be16 (getAt h.hlt.wear r 0))
    ++ beBytes 4 (h.rd Adr.HLT_POWER_HOURS).toNat ++ beBytes 4 (h.rd Adr.HLT_EQUIV_HOURS).toNat

/-- Bytes 148 to 251: what the halves show of each other, the half's standing; lsp holds `LSP_DIFF` (R497). -/
def Half.healthState (h : Half) (lsp : Nat) : List Byte :=
  let mism := (h.rd (Adr.GST_SENSE_MISMATCH 0)).toNat + 2 ^ 32 * (h.rd (Adr.GST_SENSE_MISMATCH 1)).toNat
    + 2 ^ 64 * (h.rd (Adr.GST_SENSE_MISMATCH 2)).toNat
  let flags := 2 ^ 15 * h.get Adr.PLC_STATUS 3 1 + 2 ^ 14 * h.get Adr.PLC_STATUS 1 1 + 2 ^ 13 * h.get Adr.MEM_STATUS 3 1
    + 2 ^ 12 * h.get Adr.MEM_STATUS 2 1 + 2 ^ 11 * h.get Adr.MSG_STATUS 0 1 + 2 ^ 10 * h.get Adr.MSG_STATUS 3 1
    + 2 ^ 9 * ofBool h.sent.forceData + 2 ^ 8 * ofBool (!h.boot.retired.granules.isEmpty)
  h.lifeBytes 4 .compare ++ beBytes 1 (h.get Adr.RDN_COMPARE_STATUS 16 8) ++ beBytes 1 (h.get Adr.GST_NTC_DIFF 0 4)
    ++ h.lifeBytes 2 .breezeErr ++ h.lifeBytes 2 .draughtErr ++ h.lifeBytes 2 .mirrorDiff
    ++ beBytes 1 (h.get Adr.RDN_YIELD_COUNT 0 8) ++ beBytes 1 (h.get Adr.RDN_YIELD_COUNT 16 8) ++ beBytes 10 mism
    ++ beBytes 4 (h.rd Adr.GST_GATE_MISMATCH).toNat ++ beBytes 4 lsp ++ beBytes 4 (h.rd Adr.GST_AMP_DIFF).toNat
    ++ beBytes 1 h.hlt.failed ++ beBytes 1 (maskOf 8 fun i => getAt h.regions i .up == .up) ++ beBytes 2 flags
    ++ beBytes 4 h.boot.image.toNat ++ beBytes 4 (h.rd Adr.MSG_LIB_GEN).toNat ++ beBytes 4 h.indexCrc.toNat
    ++ beBytes 2 (h.get Adr.MSG_LIB_CHECK 16 16) ++ [0, 0] ++ beBytes 4 (h.rd Adr.GRF_PLAN_ID).toNat
    ++ List.replicate 44 0

/-- The 256 bytes of a health record (R497). -/
def Half.healthBytes (h : Half) (lsp : Nat) : List Byte :=
  let body := h.healthHead ++ h.healthGust ++ h.healthParts ++ h.healthState lsp
  body ++ beBytes 4 (crc32 body).toNat

/-- The Q8 words of a record: seven bytes each, the last holds four (R496). -/
def healthItems (bs : List Byte) : List Nat :=
  (List.range 36).map (fun j => beAt bs (7 * j) 7) ++ [2 ^ 24 * beAt bs 252 4]

/-- `LSP_DIFF`: Larkspur condition or `EARTH_FAULT` differs between the halves (R407, R497). -/
def Half.lspDiff (h partner : Half) : Nat :=
  maskOf 32 fun k => h.get (Adr.SFE_LSPK_COND k) 27 4 != partner.get (Adr.SFE_LSPK_COND k) 27 4

/-- HEALTH_RECORD (R496). -/
def execHealthRecord (h : HalfId) (linkEcc replays : BitVec 16) (s : State) : Host.Outcome State Fault Refusal :=
  .next (
    let p := s.half h.other
    s.on h fun x =>
      if x.live && x.up .control then
        let x1 := (x.life .linkEcc linkEcc.toNat).life .onarRetry replays.toNat
        let x2 := { x1 with hlt := { x1.hlt with seq := (x1.hlt.seq + 1) % 2 ^ 32 } }
        let bs := x2.healthBytes (if x2.bit Adr.HLT_STATUS 4 then x2.lspDiff p else 0)
        let x3 := x2.each (List.range 64) fun y i => y.wrNat (Adr.HLT_RECORD i) (beAt bs (4 * i) 4)
        if x3.bit Adr.HLT_CTRL 0 then x3.hwPush 8 5 (healthItems bs) else x3
      else x)

/-- PARTNER_HEALTH_RECORD (R496, R504). -/
def execPartnerHealthRecord (h : HalfId) (s : State) : Host.Outcome State Fault Refusal :=
  .next (
    let p := s.half h.other
    s.on h fun x =>
      if x.live && x.up .control && x.linkUp && p.live then
        let y := x.each (List.range 64) fun y i => y.wr (Adr.HLT_PARTNER_RECORD i) (p.rd (Adr.HLT_RECORD i))
        { y.putBit Adr.HLT_STATUS 4 true with hlt := { y.hlt with partnerAt := some y.age } }
      else x)

/-- `PARTNER_VALID` falls 20 ms after the last record of a link that is down (R504). -/
def Half.partnerRecordAge (h : Half) : Half :=
  match h.hlt.partnerAt with
  | some t => if !h.linkUp ∧ t + 160 ≤ h.age then h.putBit Adr.HLT_STATUS 4 false else h
  | none => h

/-- HOURS_WRITE: hours of service and equivalent hours, to the flash; the hours since the last library check (R306, R499,
R500). -/
def execHoursWrite (h : HalfId) (tj : Int) (s : State) : Host.Outcome State Fault Refusal :=
  .next (s.on h fun x =>
    if x.live && x.up .control then
      let e := x.hlt.equiv + Config.arrhenius tj
      let y := (x.count Adr.HLT_POWER_HOURS 0 32 1).wrNat Adr.HLT_EQUIV_HOURS (min 0xFFFFFFFF (e / 1000000))
      let z := { y with hlt := { y.hlt with equiv := e }, boot := { y.boot with hours := [((y.rd Adr.HLT_POWER_HOURS).toNat, e)] } }
      (z.count Adr.MSG_LIB_CHECK 0 16 1).lifeWarn
    else x)

/-- TEMP_WARN (R503). -/
def execTempWarn (h : HalfId) (on : Bool) (s : State) : Host.Outcome State Fault Refusal :=
  .next (s.on h fun x =>
    if x.live && x.up .control && x.bit Adr.HLT_STATUS 0 != on then
      let y := (x.putBit Adr.HLT_STATUS 0 on).event Adr.HLT_EVENT 0
      if on then y.latch Adr.HLT_FAULT 2 else y
    else x)

/-- SUPPLY_WARN: set while a rail's margin lies below `MARGIN_WARN`, cleared at twice that (R503). -/
def execSupplyWarn (h : HalfId) (rail : Fin 12) (margin : BitVec 8) (s : State) : Host.Outcome State Fault Refusal :=
  .next (s.on h fun x =>
    if x.live && x.up .control then
      let y := { x with hlt := { x.hlt with
        margins := setAt x.hlt.margins rail margin.toNat
        least := modAt x.hlt.least rail (min margin.toNat) } }
      let warn := x.get Adr.HLT_MARGIN_WARN 0 8
      let low := y.hlt.margins.any fun m => decide (m < warn)
      let clear := y.hlt.margins.all fun m => decide (2 * warn ≤ m)
      if low && !x.bit Adr.HLT_STATUS 1 then
        ((y.putBit Adr.HLT_STATUS 1 true).event Adr.HLT_EVENT 1).latch Adr.HLT_FAULT 3
      else if clear && x.bit Adr.HLT_STATUS 1 then (y.putBit Adr.HLT_STATUS 1 false).event Adr.HLT_EVENT 1
      else y
    else x)

end Sys2Proof.Machine
end

