-- ==== Sys2Proof/Machine/Recorder.lean ====
section
/-! DEFINITION. The recorder (R309 to R313). -/

namespace Sys2Proof.Machine

open Sys2Proof

/-- Changes the recorder's working state. -/
def Half.onRec (h : Half) (f : RecSt → RecSt) : Half := { h with recd := f h.recd }

/-- `CH_EN` as 64 bits. -/
def Half.chEn (h : Half) : Nat := h.rd64 (Adr.REC_CH_EN 0)

/-- Bytes of a frame of n channels (R310). -/
def frameBytes (n : Nat) : Nat := 64 + 4608 * n

/-- The samples of the block that has ended join the frame being filled (R309). -/
def Half.recordBlock (h : Half) : Half :=
  if !h.recd.on then h
  else
    let rows := (List.range h.blockLen).map fun i => h.recd.chans.map fun c => audioGet h.outBlk 3 c i
    h.onRec fun r => { r with
      frame := (r.frame ++ rows).take (256 * h.blockLen), ls := r.ls || h.anyAlarm }

/-- The 48 kHz samples of channel k of a frame: at 96 kHz the half-band decimation of what lies about each (R309). -/
def Half.recSamples (h : Half) (k : Nat) : List Word :=
  let xs := h.recd.frame.map fun f => getAt f k 0
  if h.rate96 then (List.range 1536).map fun i => Config.halfBandDown ((xs.drop (2 * i - 16)).take 33)
  else xs

/-- The data bytes of a complete frame, channels ascending (R310). -/
def Half.recData (h : Half) : List Byte :=
  ((List.range h.recd.chans.length).map fun k => ((h.recSamples k).map (sampleBytes 3)).flatten).flatten

/-- Header bytes 0 to 59 of a complete frame (R310). -/
def Half.recHeader (h : Half) : List Byte :=
  let r := h.recd
  let flags := ofBool r.session + 2 * ofBool r.gap + 4 * ofBool r.ls + 8 * ofBool (h.role == .active) + 16 * ofBool h.rate96
  [0x42, 0x53, 0x59, 0x52, 0x01] ++ beBytes 1 flags ++ [0, 0] ++ beBytes 4 r.seq ++ beBytes 4 r.planId.toNat
    ++ beBytes 8 (maskOf 64 fun c => r.chans.contains c) ++ beBytes 6 (r.startNs / 1000000000)
    ++ beBytes 4 (r.startNs % 1000000000) ++ beBytes 4 (frameBytes r.chans.length / 64) ++ List.replicate 22 0

/-- A frame that waits to be written is dropped (R311). -/
def Half.dropFrame (h : Half) : Half :=
  if h.recd.ready.isNone then h
  else (((h.count Adr.REC_DROPPED 0 16 1).latch Adr.REC_FAULT 1).event Adr.REC_EVENT 0).onRec fun r => { r with
    ready := none, gap := true, session := r.session || dropsFirst r.ready }
where
  /-- The frame dropped was the first of its session, whose mark the next one takes. -/
  dropsFirst (x : Option (List Byte × List Byte)) : Bool := (x.map fun d => byteAt d.2 5 % 2 == 1).getD false

/-- The recorder may record (R309). -/
def Half.recRole (h : Half) : Bool := h.role == .active || h.role == .standby

/-- A 48 kHz frame boundary: the frame that has ended waits to be written, `CH_EN` and `EN` take effect, the next frame
starts (R309, R311). -/
def Half.frameBoundary (h : Half) : Half :=
  let h0 := h.dropFrame
  let full := decide (h0.recd.frame.length = 256 * h0.blockLen)
  let h1 := if h0.recd.on && full && h0.recRole then
      h0.onRec fun r => { r with ready := some (h0.recData, h0.recHeader), session := false, gap := false }
    else h0
  let en := h1.bit Adr.REC_CTRL 0
  let h2 := if !en && h1.bit Adr.REC_STATUS 1 then (h1.putBit Adr.REC_STATUS 1 false).wrNat Adr.REC_WRITE_OFS 0 else h1
  let on := en && h2.recRole && !h2.bit Adr.REC_STATUS 1
  (h2.putBit Adr.REC_STATUS 0 on).onRec fun r => { r with
    on := on, chans := maskBits 64 h2.chEn, seq := h2.block / 256 % 2 ^ 32, startNs := h2.ptpNs 0
    planId := h2.rd Adr.GRF_PLAN_ID, frame := [], ls := h2.anyAlarm
    session := r.session || (on && !r.on), wrapped := if on && !r.on then false else r.wrapped }

/-- RECORDER_FRAME_BOUNDARY: at the block in which a sample index that is a multiple of 1536 begins (R309). -/
def execRecorderFrameBoundary (h : HalfId) (s : State) : Host.Outcome State Fault Refusal :=
  .next (s.on h fun x => if x.live && x.up .memory && x.block % 256 == 0 then x.frameBoundary else x)

/-- The frames of the ring that a range overwrites are gone (R311). -/
def clearOver (ofs n : Nat) (ring : List (Nat × Nat)) : List (Nat × Nat) :=
  ring.filter fun f => !decide (f.1 < ofs + n ∧ ofs < f.1 + f.2)

/-- Writes a complete frame at an offset: data lines, then the header with its CRC (R310, R311). -/
def Half.storeFrame (h : Half) (ofs : Nat) (data head : List Byte) : Half :=
  let bytes := head ++ beBytes 4 (crc32 (data ++ head)).toNat ++ data
  let ring := clearOver ofs bytes.length h.recd.ring ++ [(ofs, bytes.length)]
  let h1 := (h.onStore fun t => t.write (h.recBase + ofs) bytes).onRec fun r => { r with ring := ring, ready := none }
  ((h1.wrNat Adr.REC_WRITE_OFS (ofs + bytes.length)).wrNat Adr.REC_OLDEST_OFS ((ring.head?).map (·.1) |>.getD 0)).wrNat
    Adr.REC_LAST_SEQ (beAt head 8 4)

/-- RECORDER_FRAME_WRITTEN (R311). -/
def execRecorderFrameWritten (h : HalfId) (s : State) : Host.Outcome State Fault Refusal :=
  .next (s.on h fun x =>
    match x.recd.ready with
    | none => x
    | some (data, head) =>
      let n := 64 + data.length
      let ofs := (x.rd Adr.REC_WRITE_OFS).toNat
      if ofs + n ≤ x.recBytes then x.storeFrame ofs data head
      else if x.bit Adr.REC_CTRL 1 then
        (((x.putBit Adr.REC_STATUS 1 true).putBit Adr.REC_STATUS 0 false).event Adr.REC_EVENT 2).onRec fun r => { r with
          on := false, ready := none }
      else if x.recBytes < n then x
      else
        let y := if x.recd.wrapped then x else (x.event Adr.REC_EVENT 1).onRec fun r => { r with wrapped := true }
        y.storeFrame 0 data head)

/-- RECORDER_FRAME_DROP (R311). -/
def execRecorderFrameDrop (h : HalfId) (s : State) : Host.Outcome State Fault Refusal := .next (s.on h Half.dropFrame)

end Sys2Proof.Machine
end

