-- ==== Sys2Proof/Machine/Redundancy.lean ====
section
/-! DEFINITION. Active and standby halves: roles, heartbeats, claims, kills, planned handover (R438 to R468, R476, R477,
R518). -/

namespace Sys2Proof.Machine

open Sys2Proof

/-- The half holds the partner's plan (R624): its committed `PLAN_ID` equals that of the partner's last valid Breeze. -/
def Half.holdsPlan (h : Half) : Bool :=
  match h.rdn.view with
  | some v => v.planId == h.rd Adr.GRF_PLAN_ID
  | none => false

/-- The half accepts a mirror format: its own, or that of the image before it unless that is 0xFFFF (R473). -/
def Half.acceptsFmt (h : Half) (fmt : Nat) : Bool :=
  fmt == h.boot.mirrorFmt || (fmt == h.boot.prevFmt && h.boot.prevFmt != 0xFFFF)

/-- `LIB_MATCH` (R303): the partner's Breeze is not lost and names this half's generation; on a SYNCING or STANDBY half
the mirrored index CRC equals its own as well. -/
def Half.libMatch (h : Half) : Bool :=
  match h.rdn.view with
  | some v => h.bit Adr.RDN_STATUS 5 && v.libGen == h.rd Adr.MSG_LIB_GEN &&
      (match h.role with
       | .syncing | .standby => h.rdn.indexCrc == some h.indexCrc
       | _ => true)
  | none => false

/-- The unmet conditions of R440, bit 0 standing for bit 16 of `ROLE_STATUS`. -/
def Half.missing (h : Half) : Nat :=
  let partnerOk := match h.rdn.view with
    | some v => h.linkUp && h.bit Adr.RDN_STATUS 5 && v.role == 3 && h.acceptsFmt v.mirrorFmt
    | none => false
  ofBool (!partnerOk)
    + 2 * ofBool (!(decide (2 ≤ h.rdn.passes) && h.rdn.lastClean))
    + 4 * ofBool (!h.holdsPlan)
    + 8 * ofBool (!h.libMatch)
    + 16 * ofBool (!(h.get Adr.TIM_MPLL_STATUS 4 3 == 4 && h.get Adr.TIM_MPLL_STATUS 0 3 == 2))
    + 32 * ofBool (!h.bit Adr.TIM_CARRIER_ALIGN 30)
    + 64 * ofBool (!(Region.all.all fun r => !r.required || h.up r))

/-- A half becomes STANDBY: its comparisons start anew (R475, R483). -/
def Half.becomeStandby (h : Half) : Half :=
  ((h.setRole .standby).putBit Adr.RDN_COMPARE_STATUS 31 false).onRdn fun x => { x with compared := 0, badAt := [] }

/-- Shows `LIB_MATCH`, `MISSING`, `FORMAT_OK` and `IN_SYNC`, and moves a SYNCING half to STANDBY when every condition of
R440 holds, a STANDBY half to SYNCING when one that must keep holding fails (R439, R440, R475, R479). -/
def Half.roleCheck (h : Half) : Half :=
  let h0 := h.putBit Adr.MSG_STATUS 3 h.libMatch
  let m := h0.missing
  let keep := if h0.sent.grace then m % 128 / 4 % 4 + m / 64 * 64 else m / 4
  let h1 :=
    match h0.role with
    | .syncing => if m = 0 ∧ !h0.rdn.compareHold then h0.becomeStandby else h0
    | .standby => if keep = 0 then h0 else h0.goSyncing
    | _ => h0
  let linked := match h1.role with | .syncing | .standby => true | _ => false
  let fmtOk := match h1.rdn.view with | some v => h1.acceptsFmt v.mirrorFmt | none => false
  let h2 := h1.put Adr.RDN_ROLE_STATUS 16 7 (if linked then m else 0)
  let h3 := h2.putBit Adr.RDN_MIRROR_STATUS 31 (linked && h2.linkUp && h2.rdn.lastClean && !h2.rdn.gapSince)
  (h3.putBit Adr.RDN_MIRROR_STATUS 30 fmtOk).onSent fun x =>
    { x with grace := x.grace && !h3.bit Adr.TIM_CARRIER_ALIGN 30 }

/-- A heartbeat of the partner is present again (R455). -/
def KillHold.seen : KillHold → KillHold
  | .untilSeen => .untilLost
  | k => k

/-- A heartbeat of the partner counts as lost again (R455). -/
def KillHold.lostAgain : KillHold → KillHold
  | .untilLost => .off
  | k => k

/-- Both the partner's heartbeats count as lost (R447). -/
def Half.bothLost (h : Half) : Bool := h.sent.breezeLost && h.sent.draughtLost

/-- Pushes a mirror diagnostics record to Q11 (R623). -/
def Half.mirrorDiag (h : Half) (kind count : Nat) : Half :=
  h.hwPush 11 8 [2 ^ 48 * kind + 2 ^ 32 * min count 0xFFFF + h.block % 2 ^ 32]

/-- The stream or its sender is lost: `EVENT.MIRROR`, `FAULT` cause 0x000C, a STANDBY half marks the loss (R472). -/
def Half.mirrorLoss (h : Half) : Half :=
  match h.role with
  | .standby => ((h.event Adr.RDN_EVENT 3).latch Adr.RDN_FAULT 12).onRdn fun x => { x with lossSeen := true }
  | .syncing => (h.event Adr.RDN_EVENT 3).latch Adr.RDN_FAULT 12
  | _ => h

/-- The partner's Breeze shows another `PLAN_ID`: an attempt to accept the plan in force is due, unless this half has just
rejected that plan (R224). -/
def Half.notePlan (h : Half) (old : Option Word) (new : Word) : Half :=
  if old = none ∨ old = some new then h
  else h.onGraph fun g => { g with planDue := g.planDue || g.answer != some false, answer := none }

/-- What a valid Breeze-format message changes at its receiver (R444, R446, R472, R477, R481). -/
def Half.takeBreeze (h : Half) (m : BreezeMsg) : Half :=
  let h0 := if h.bit Adr.RDN_STATUS 5 then h else (h.putBit Adr.RDN_STATUS 5 true).event Adr.RDN_EVENT 0
  let h1 := h0.onRdn fun x => { x with
    rxSeq := some m.seq
    view := some ⟨m.role, m.mirrorFmt, m.health, m.planId, m.libGen, m.image⟩ }
  let h1 := h1.notePlan (h.rdn.view.map fun v => v.planId) m.planId
  let h2 := h1.onSent fun x => { x with breezeLost := false, syncWaited := false, killHold := x.killHold.seen }
  let h3 := ((h2.put Adr.RDN_ROLE_STATUS 8 3 m.role).putBit Adr.RDN_ROLE_STATUS 11 true).wr
    Adr.RDN_PARTNER_HEALTH m.health
  let h4 :=
    match h3.role with
    | .offline =>
      if h3.sent.ready && m.role == 3 then (h3.goSyncing).onSent fun x => { x with holding := false, claiming := 0 }
      else h3
    | .standby =>
      if h3.rdn.lossSeen && h3.linkUp then h3.goSyncing.onRdn fun x => { x with lossSeen := false } else h3
    | .active => if m.role == 2 then h3 else h3.abandon true
    | _ => h3
  h4.roleCheck

/-- The index CRC of an ACTIVE partner, which the mirror stream carries with every change and the model takes with each
Breeze (R303). -/
def Half.takeIndex (h act : Half) : Half :=
  match h.role, act.role with
  | .syncing, .active => h.onRdn fun x => { x with indexCrc := some act.indexCrc }
  | .standby, .active => h.onRdn fun x => { x with indexCrc := some act.indexCrc }
  | _, _ => h

/-- The reception of the next Breeze-format message, of the type that the command names: it is taken from the partner's
messages in flight, checked, and given to f when valid (R444). An invalid one is counted in HB_STATS. -/
def State.receive (s : State) (h : HalfId) (type : Nat) (bad : Bool) (f : BreezeMsg → Half → Half) : State :=
  match (s.half h.other).rdn.breezeOut with
  | [] => s
  | m :: rest =>
    if m.type ≠ type then s
    else
      let s1 := s.on h.other fun x => x.onRdn fun r => { r with breezeOut := rest }
      let me := s1.half h
      if !me.live || !me.linkUp then s1
      else
        let next := match me.rdn.rxSeq with | none => true | some n => m.seq == (n + 1) % 2 ^ 32
        if !bad && next then s1.setHalf h (f m ((me.takeIndex (s1.half h.other)).takeBreeze m))
        else s1.setHalf h ((me.count Adr.RDN_HB_STATS 16 16 1).life .breezeErr 1)

/-- BREEZE_SEND: every 10 µs a message of type BREEZE (R444). -/
def execBreezeSend (h : HalfId) (s : State) : Host.Outcome State Fault Refusal := .next (s.on h fun x => x.send 1 0)

/-- BREEZE (R444). -/
def execBreeze (h : HalfId) (bad : Bool) (s : State) : Host.Outcome State Fault Refusal :=
  .next (s.receive h 1 bad fun _ x => x)

/-- The partner yields, as its message or its Draught shows: a STANDBY half is to claim once the line counts inactive,
and waits 100 µs for that (R447). -/
def Half.partnerYields (h : Half) : Half :=
  match h.role with
  | .standby => h.onSent fun x => { x with claiming := 2, yieldWait := true }
  | _ => h

/-- YIELD (R447). -/
def execYield (h : HalfId) (bad : Bool) (s : State) : Host.Outcome State Fault Refusal :=
  .next (s.receive h 2 bad fun _ x => x.partnerYields)

/-- Check 0x03 of R466 on one side: a commit or a library load is in progress. -/
def Half.busyCommit (h : Half) : Bool := h.get Adr.GRF_STATUS 0 3 != 0 || h.get Adr.MSG_STATUS 4 3 != 0

/-- The standby's side of a handover request: checks 0x03 to 0x05, then HO_ACCEPT or HO_REFUSE (R467). -/
def Half.answerHandover (h : Half) (target : Nat) : Half :=
  let refuse := fun (code : Nat) => h.send 0x12 code
  if h.role ≠ .standby then refuse 2
  else if h.busyCommit then refuse 3
  else if !h.bit Adr.TIM_CARRIER_ALIGN 30 then refuse 4
  else if !h.allTracked then refuse 5
  else ((h.onSent fun x => { x with handover := .taking target }).wrNat Adr.RDN_HANDOVER_TARGET target).send 0x11 target

/-- HO_REQUEST (R467). -/
def execHoRequest (h : HalfId) (bad : Bool) (s : State) : Host.Outcome State Fault Refusal :=
  .next (s.receive h 0x10 bad fun m x => x.answerHandover m.arg)

/-- HO_ACCEPT at the half that asked (R467). -/
def Half.handoverAccepted (h : Half) : Half :=
  match h.sent.handover with
  | .asked t => h.onSent fun x => { x with handover := .agreed t }
  | _ => h

/-- HO_ACCEPT (R467). -/
def execHoAccept (h : HalfId) (bad : Bool) (s : State) : Host.Outcome State Fault Refusal :=
  .next (s.receive h 0x11 bad fun _ x => x.handoverAccepted)

/-- The handover that a half asked for ends with a result (R466). -/
def Half.handoverFails (h : Half) (result : Nat) : Half :=
  match h.sent.handover with
  | .asked _ => h.endHandover result
  | _ => h

/-- HO_REFUSE: REFUSED (R466). -/
def execHoRefuse (h : HalfId) (bad : Bool) (s : State) : Host.Outcome State Fault Refusal :=
  .next (s.receive h 0x12 bad fun _ x => x.handoverFails 7)

/-- HO_RELEASED: the new ACTIVE half may send its gratuitous ARP (R465). -/
def execHoReleased (h : HalfId) (bad : Bool) (s : State) : Host.Outcome State Fault Refusal :=
  .next (s.receive h 0x13 bad fun _ x =>
    if x.role = .active ∧ x.rdn.arpAgain = none then x.onRdn fun r => { r with arpDue := true } else x)

/-- HO_ABANDON: the handover with that target ends ABANDONED (R477). -/
def execHoAbandon (h : HalfId) (bad : Bool) (s : State) : Host.Outcome State Fault Refusal :=
  .next (s.receive h 0x14 bad fun m x => if x.sent.handover.target = some m.arg then x.endHandover 9 else x)

/-- The partner's Breeze is lost (R446, R447, R448, R472, R477). -/
def Half.loseBreeze (h : Half) : Half :=
  if !h.bit Adr.RDN_STATUS 5 then h
  else
    let h1 := ((h.putBit Adr.RDN_STATUS 5 false).event Adr.RDN_EVENT 0).putBit Adr.RDN_ROLE_STATUS 11 false
    let h2 := (h1.onSent fun x => { x with breezeLost := true, killHold := x.killHold.lostAgain }).mirrorLoss
    let h3 :=
      match h2.role with
      | .standby => if h2.sent.draughtLost then h2 else h2.onSent fun x => { x with yieldWait := true }
      | .active => h2.abandon true
      | _ => h2
    h3.roleCheck

/-- BREEZE_LOST (R446). -/
def execBreezeLost (h : HalfId) (s : State) : Host.Outcome State Fault Refusal := .next (s.on h Half.loseBreeze)

/-- The partner's Draught is lost (R446). -/
def Half.loseDraught (h : Half) : Half :=
  if !h.bit Adr.RDN_STATUS 6 && !h.bit Adr.RDN_STATUS 7 then h
  else
    ((((h.put Adr.RDN_STATUS 6 2 0).event Adr.RDN_EVENT 1).count Adr.RDN_HB_STATS 0 16 1).life .draughtErr 1).onSent fun x =>
      { x with draughtLost := true, killHold := x.killHold.lostAgain }

/-- DRAUGHT_LOST (R446). -/
def execDraughtLost (h : HalfId) (s : State) : Host.Outcome State Fault Refusal := .next (s.on h Half.loseDraught)

/-- DRAUGHT_YIELD_DETECTED: the partner drives the yield pattern (R445, R447). -/
def execDraughtYieldDetected (h : HalfId) (s : State) : Host.Outcome State Fault Refusal :=
  .next (if (s.half h.other).sent.draught = .yield then
      s.on h fun x => ((x.put Adr.RDN_STATUS 6 2 2).onSent fun y =>
        { y with draughtLost := false, killHold := y.killHold.seen }).partnerYields
    else s)

/-- DRAUGHT_RECOVERY: the partner drives the alive pattern again (R446). -/
def execDraughtRecovery (h : HalfId) (s : State) : Host.Outcome State Fault Refusal :=
  .next (if (s.half h.other).sent.draught = .alive then
      s.on h fun x =>
        let x1 := if x.bit Adr.RDN_STATUS 6 then x else x.event Adr.RDN_EVENT 1
        (x1.put Adr.RDN_STATUS 6 2 1).onSent fun y => { y with draughtLost := false, killHold := y.killHold.seen }
    else s)

/-- YIELD_WAIT_EXPIRY: the line still counts asserted after 100 µs, so both heartbeats count as lost (R447). -/
def execYieldWaitExpiry (h : HalfId) (s : State) : Host.Outcome State Fault Refusal :=
  .next (if (s.half h).sent.yieldWait && s.counts h.other then
      s.on h fun x => x.onSent fun y => { y with yieldWait := false, breezeLost := true, draughtLost := true }
    else s.on h fun x => x.onSent fun y => { y with yieldWait := false })

/-- OWNERSHIP_RELEASE_DETECTED: outside a handover, a STANDBY half is to claim (R447). -/
def execOwnershipReleaseDetected (h : HalfId) (s : State) : Host.Outcome State Fault Refusal :=
  .next (if (s.half h).role = .standby ∧ !s.counts h.other ∧ (s.half h).sent.handover = .idle then
      s.on h fun x => (x.onSent fun y => { y with
        claiming := if y.claiming ≠ 0 then y.claiming else if y.draughtLost then 3 else 2 })
    else s)

/-- Step 4 of R451 with its recheck: the line is asserted only while the partner's counts inactive and the control plane
is not forced (R22). -/
def State.claimNow (s : State) (h : HalfId) (kind : Nat) : State :=
  let me := s.half h
  if s.counts h.other || me.sent.forceCtl || me.sent.dead || !me.live then s
  else
    (s.on h fun x => (x.onSent fun y => { y with own := true, killHold := y.killHold }).becomeActive kind).lines

/-- CLAIM: a half that is to claim does so (R451). -/
def execClaim (h : HalfId) (s : State) : Host.Outcome State Fault Refusal :=
  .next (if (s.half h).sent.claiming ≠ 0 then s.claimNow h (s.half h).sent.claiming else s)

/-- START_HOLD_EXPIRY: a ready OFFLINE half whose partner is not ACTIVE is to claim (R441). -/
def execStartHoldExpiry (h : HalfId) (s : State) : Host.Outcome State Fault Refusal :=
  .next (if (s.half h).sent.holding && (s.half h).role == .offline && !s.counts h.other then
      s.on h fun x => x.onSent fun y => { y with holding := false, claiming := 4 }
    else s)

/-- SYNCING_CLAIM_WAIT: Breeze has been lost for 10 ms; the half claims when the partner's line counts inactive and it
holds the partner's plan (R439, R454, R624). -/
def execSyncingClaimWait (h : HalfId) (s : State) : Host.Outcome State Fault Refusal :=
  .next (if (s.half h).role = .syncing ∧ (s.half h).sent.breezeLost then
      s.on h fun x => x.onSent fun y => { y with
        syncWaited := true
        claiming := if x.holdsPlan && !s.counts h.other then 5 else y.claiming }
    else s)

/-- DUAL_CLAIM: Half B releases its line; when it still reads asserted, Half B gives up control with cause 0x000A and
goes to ISOLATED (R452). -/
def execDualClaim (stillReads : Bool) (s : State) : Host.Outcome State Fault Refusal :=
  .next (if s.counts .a && s.counts .b then
      let s1 := (s.on .b fun x => x.onSent fun y => { y with own := false }).lines
      if stillReads then
        (s1.on .b fun x => (x.onSent fun y =>
          { y with ownStuck := some true, toIsolated := true }).giveUpFor 10).lines
      else s1
    else s)

/-- OWNERSHIP_MISMATCH: the line does not follow the output; the half gives up control with cause 0x000A (R459). -/
def execOwnershipMismatch (h : HalfId) (reads : Bool) (s : State) : Host.Outcome State Fault Refusal :=
  .next (if reads ≠ (s.half h).sent.own then
      (s.on h fun x => (x.onSent fun y => { y with ownStuck := some reads }).giveUpFor 10).lines
    else s)

/-- The situation of R454: STANDBY; SYNCING after its wait with the partner's plan; ACTIVE with its own line asserted. -/
def Half.mayKill (h : Half) : Bool :=
  match h.role with
  | .standby => true
  | .syncing => h.sent.syncWaited && h.holdsPlan
  | .active => h.line
  | _ => false

/-- Every condition of R454 at a half, and no kill held off under R455. -/
def State.killDue (s : State) (h : HalfId) : Bool :=
  let me := s.half h
  me.bothLost && !me.sent.dead && me.live && (s.half h.other).line && me.bit Adr.RDN_KILL_CTRL 0 && me.mayKill &&
    me.sent.killHold == .off

/-- KILL_START: the sentinel drives the kill pattern and is to claim (R454). -/
def execKillStart (h : HalfId) (s : State) : Host.Outcome State Fault Refusal :=
  .next (if s.killDue h then
      (s.on h fun x => (x.onSent fun y => { y with
        kill := true
        claiming := if x.role = .syncing then 5 else if x.role = .standby then 3 else y.claiming })).lines
    else s)

/-- KILL_RECEIVED: the half gives up control with cause 0x0009 (R455). -/
def execKillReceived (h : HalfId) (s : State) : Host.Outcome State Fault Refusal :=
  .next (if (s.half h.other).sent.kill then s.on h fun x => x.giveUpFor 9 else s)

/-- A killed half whose give-up is done starts its warm reset when the kill ends (R461). -/
def Half.killOver (h : Half) : Half :=
  match h.sent.giveUp with
  | .recover 9 => h.recoverReset 9
  | _ => h

/-- Ends a kill at its source. -/
def State.endKill (s : State) (h : HalfId) (hold : KillHold) : State :=
  ((s.on h fun x => x.onSent fun y => { y with kill := false, killHold := hold }).on h.other Half.killOver).lines

/-- PSEN_RELEASE_DELAY: a faulted or shut-down cluster releases its pull; a half that gave up control or is forced releases
every pull, and its recovery starts (R361, R365, R367, R461). -/
def execPsenReleaseDelay (h : HalfId) (c : Option (Fin 4)) (s : State) : Host.Outcome State Fault Refusal :=
  match c with
  | some c =>
    .next (s.on h fun x =>
      if x.bit (Adr.AMPC_STATUS c) 1 || x.bit (Adr.AMPC_STATUS c) 4 then x.onCl c fun y => { y with released := true }
      else x).psen
  | none =>
    .next (((s.on h fun x =>
      if x.sent.forceData || x.sent.giveUp != .idle then x.onOut fun o => { o with pullsOff := true } else x).psen).startRecovery h)

/-- KILL_END: the partner's Breeze has shown a role without the line, and its line is released, for 1 ms (R455). -/
def execKillEnd (h : HalfId) (s : State) : Host.Outcome State Fault Refusal :=
  .next (
    let me := s.half h
    let shown := match me.rdn.view with
      | some v => me.bit Adr.RDN_STATUS 5 && (v.role == 0 || v.role == 1 || v.role == 4)
      | none => false
    if me.sent.kill && shown && !(s.half h.other).line then s.endKill h me.sent.killHold else s)

/-- The confirmed value of `KILL_CTRL` takes effect: KILL_EN, and RELEASE ends a kill at once and holds off new ones
(R454, R455, R479). -/
def State.writeKillCtrl (s : State) (h : HalfId) (v : Word) : State :=
  let s1 := s.on h fun x => x.putBit Adr.RDN_KILL_CTRL 0 (bitAt v 0)
  if bitAt v 1 then s1.endKill h .untilSeen else s1

/-- PAD_WATCHDOG: the pads of a half drive the zero-vector until the next strobe (R456). -/
def execPadWatchdog (h : HalfId) (s : State) : Host.Outcome State Fault Refusal :=
  .next (s.on h fun x => x.onSent fun y => { y with padWatch := true })

/-- The wired conditions of R457: the pad gate enables neither half, or both lines count as asserted. -/
def State.wiredCond (s : State) : Bool := (!s.gate .a && !s.gate .b) || (s.counts .a && s.counts .b)

/-- NEITHER_ENABLED_FAULT (R457). -/
def execNeitherEnabledFault (s : State) : Host.Outcome State Fault Refusal :=
  .next (if s.wiredCond then { s with wiredFault := true } else s)

/-- The sentinel's condition of R457: both heartbeats lost, the partner's line counting asserted, no kill started. -/
def State.sentinelCond (s : State) (h : HalfId) : Bool :=
  (s.half h).bothLost && s.counts h.other && !(s.half h).sent.kill

/-- SENTINEL_FAULT_ASSERT (R457). -/
def execSentinelFaultAssert (h : HalfId) (s : State) : Host.Outcome State Fault Refusal :=
  .next (if s.sentinelCond h then s.on h fun x => x.onSent fun y => { y with faultPull := true } else s)

/-- FAULT_RELEASE: each puller whose condition is absent lets FAULT_n go (R518). -/
def execFaultRelease (s : State) : Host.Outcome State Fault Refusal :=
  .next (
    let go := fun (t : State) (h : HalfId) =>
      t.on h fun x => x.onSent fun y => { y with faultPull := y.faultPull && s.sentinelCond h }
    go (go { s with wiredFault := s.wiredFault && s.wiredCond } .a) .b)

/-- SUPPLY_FAULT: cause 0x0005 (R459, R523). -/
def execSupplyFault (h : HalfId) (rail : Fin 12) (s : State) : Host.Outcome State Fault Refusal :=
  .next (s.on h fun x => (x.putBit Adr.DIE_RAIL_STATUS rail false).giveUpFor 5)

/-- TEMPERATURE_FAULT: cause 0x0006 (R459). -/
def execTemperatureFault (h : HalfId) (s : State) : Host.Outcome State Fault Refusal := .next (s.on h fun x => x.giveUpFor 6)

/-- MANAGEMENT_WATCHDOG_TIMEOUT: cause 0x0007 (R459). -/
def execManagementWatchdogTimeout (h : HalfId) (s : State) : Host.Outcome State Fault Refusal :=
  .next (s.on h fun x => x.giveUpFor 7)

/-- GIVE_UP_RELEASE_TIMEOUT: 3.0 µs after the detection without a carrier boundary (R460). -/
def execGiveUpReleaseTimeout (h : HalfId) (s : State) : Host.Outcome State Fault Refusal :=
  .next (s.on h Half.giveUpBoundary).lines

/-- The groups of digests that have mismatched in the last 1 s (R475, R483). -/
def Half.mismatch1s (h : Half) : Nat :=
  maskOf 8 fun g => h.rdn.groupAt.any fun x => x.1 == g && decide (h.age < x.2 + 8000)

/-- The result of the first failing check of R466, 0 when all pass. -/
def Half.handoverCheck (h : Half) : Nat :=
  if h.role ≠ .active then 1
  else
    match h.rdn.view with
    | none => 2
    | some v =>
      if !h.bit Adr.RDN_STATUS 5 || v.role != 2 then 2
      else if h.busyCommit || h.sent.handover != .idle then 3
      else if !bitAt v.health 13 then 4
      else if !bitAt v.health 12 then 5
      else if h.mismatch1s != 0 then 6
      else 0

/-- The first block boundary at least 1 ms ahead whose media time is a multiple of 4 ms (R467). -/
def handoverTarget (block : Nat) : Nat := (block + 8 + 31) / 32 * 32

/-- `ROLE_CTRL` HANDOVER takes effect (R466, R467). -/
def Half.startHandover (h : Half) : Half :=
  match h.handoverCheck with
  | 0 =>
    let t := handoverTarget h.block % 2 ^ 32
    (((h.onSent fun x => { x with handover := .asked t }).putBit Adr.RDN_HANDOVER_STATUS 31 true).wrNat
      Adr.RDN_HANDOVER_TARGET t).send 0x10 t
  | r =>
    if h.sent.handover = .idle then h.endHandover r
    else h.put Adr.RDN_HANDOVER_STATUS 24 7 r

/-- The start of a ready half (R441): SYNCING with an ACTIVE partner, else the start hold. -/
def Half.startRole (h : Half) : Half :=
  if h.role ≠ .offline then h
  else
    match h.rdn.view with
    | some v =>
      if h.bit Adr.RDN_STATUS 5 && v.role == 3 then h.goSyncing else h.onSent fun x => { x with holding := true }
    | none => h.onSent fun x => { x with holding := true }

/-- The confirmed value of `ROLE_CTRL` takes effect: HANDOVER, ISOLATE, RESTORE; refused under R68 where R442 or R479 says
so (R442, R466, R479). -/
def Half.writeRoleCtrl (h : Half) (q : Req) (v : Word) : Half :=
  let op := fun (x : Half) => x.wrNat Adr.RDN_ROLE_CTRL (getBits v 0 3)
  match getBits v 0 3 with
  | 1 => op h.startHandover
  | 2 =>
    if h.role = .active then h.pwRefuse q Adr.RDN_ROLE_CTRL
    else (op ((h.abandon true).setRole .isolated)).onSent fun x => { x with isoFault := x.isoFault && h.role == .isolated, holding := false, claiming := 0 }
  | 3 =>
    if h.role ≠ .isolated then h.pwRefuse q Adr.RDN_ROLE_CTRL
    else if h.sent.isoFault then (h.setRole .offline).recoverReset (h.get Adr.RDN_YIELD_COUNT 16 8)
    else
      let h1 := op (h.setRole .offline)
      if h1.sent.ready then h1.startRole else h1
  | _ => h.pwRefuse q Adr.RDN_ROLE_CTRL

/-- HANDOVER_NO_ANSWER: NO_ANSWER (R466). -/
def execHandoverNoAnswer (h : HalfId) (s : State) : Host.Outcome State Fault Refusal :=
  .next (s.on h fun x => x.handoverFails 8)

/-- The target at a half (R468): the old half releases its line and becomes STANDBY, the new half waits for the old
line; before T, or without an agreement, nothing. -/
def Half.reachTarget (h : Half) : Half :=
  match h.sent.handover with
  | .agreed t =>
    if h.block % 2 ^ 32 = t then
      let h1 := (h.endHandover 0).onSent fun x => { x with
        own := false, handover := .launching h.block, grace := true, modulate := false }
      (h1.becomeStandby.onRdn fun x => { x with
        passes := 0, lastClean := false, gapSince := false, indexCrc := some h.indexCrc }).txRefresh
    else h
  | .taking t =>
    if h.block % 2 ^ 32 = t then
      h.onSent fun x => { x with handover := .waiting t }
    else h
  | _ => h

/-- HANDOVER_TARGET (R468). -/
def execHandoverTarget (h : HalfId) (s : State) : Host.Outcome State Fault Refusal := .next (s.on h Half.reachTarget).lines

/-- HANDOVER_CLAIM: the new half asserts its line while the old one counts inactive, and becomes ACTIVE (R468). Its
gratuitous ARP waits for HO_RELEASED (R465). -/
def execHandoverClaim (h : HalfId) (s : State) : Host.Outcome State Fault Refusal :=
  .next (
    match (s.half h).sent.handover with
    | .waiting _ =>
      let s1 := s.claimNow h 1
      if (s1.half h).sent.own then
        (s1.on h fun x => (x.endHandover 0).onRdn fun r => { r with arpDue := false }).lines
      else s
    | _ => s)

/-- HANDOVER_ABANDON_TIMEOUT: the old line still counts asserted at T + 2 µs (R468). -/
def execHandoverAbandonTimeout (h : HalfId) (s : State) : Host.Outcome State Fault Refusal :=
  .next (
    match (s.half h).sent.handover with
    | .waiting _ => if s.counts h.other then s.on h fun x => x.endHandover 9 else s
    | _ => s)

/-- ALIGNMENT_TIMEOUT: a half made STANDBY by handover without carrier alignment goes to SYNCING (R439). -/
def execAlignmentTimeout (h : HalfId) (s : State) : Host.Outcome State Fault Refusal :=
  .next (s.on h fun x =>
    if x.sent.grace && x.role == .standby then
      let x1 := x.onSent fun y => { y with grace := false }
      if x1.bit Adr.TIM_CARRIER_ALIGN 30 then x1 else x1.goSyncing
    else x)

/-- The Onar link of a half goes down: what is on its way to the half is lost, and the mirror stream with it; items that have
arrived still take effect (R443, R470, R472, R477, R623). -/
def State.onarDown (s : State) (h : HalfId) : State :=
  if !(s.half h).linkUp then s
  else
    let s1 := s.on h.other fun x => x.onRdn fun r => { r with breezeOut := [], digestOut := [] }
    s1.on h fun x =>
      let x1 := (x.wrNat Adr.RDN_LINK_STATUS 0).putBit Adr.RDN_STATUS 4 false
      let x2 := x1.mirrorLoss
      let x3 := match x2.role with
        | .standby | .syncing => x2.mirrorDiag 2 0
        | _ => x2.abandon false
      (x3.onRdn fun r => { r with rxSeq := none, gapSince := true }).roleCheck

/-- ONAR_LINK_DOWN (R443). -/
def execOnarLinkDown (h : HalfId) (s : State) : Host.Outcome State Fault Refusal := .next (s.onarDown h)

/-- CLOCK_LOSS_DETECTED (R29); the loss of CD9 takes the Onar link down at both ends. -/
def execClockLossDetected (h : HalfId) (d : Fin 12) (port : Fin 8) (s : State) : Host.Outcome State Fault Refusal :=
  .next (
    let s1 := s.on h fun x => if x.live then x.loseClock d port else x
    if d = 9 ∧ (s.half h).live then (s1.onarDown h).onarDown h.other else s1)

/-- ONAR_LINK_UP: both lanes lock; the next Breeze opens a new sequence (R443, R444). -/
def execOnarLinkUp (h : HalfId) (s : State) : Host.Outcome State Fault Refusal :=
  .next (if (s.half h).live then
      s.on h fun x => (((x.wrNat Adr.RDN_LINK_STATUS 0x8000000F).putBit Adr.RDN_STATUS 4 true).onRdn fun r =>
        { r with rxSeq := none }).roleCheck
    else s)

/-- HALF_READY: the image runs and every required region has reported ready (R441). The yield pattern of Draught ends,
and the role arbitration starts. -/
def execHalfReady (h : HalfId) (s : State) : Host.Outcome State Fault Refusal :=
  .next (s.on h fun x =>
    if x.live && !x.bit Adr.DIE_BOOT_STATUS 28 && (Region.all.all fun r => !r.required || x.up r) && !x.sent.ready
        && !x.sent.dead then
      let x1 := ({ x with phase := .running }).applyReplayedPlan
      (x1.onSent fun y => { y with ready := true, draught := .alive, giveUp := .idle }).startRole
    else x)

/-- SENTINEL_SUPERVISOR_RESET: the line and any kill are released, the half is OFFLINE and recovers by a warm reset
(R27, R461, R476). -/
def execSentinelSupervisorReset (h : HalfId) (s : State) : Host.Outcome State Fault Refusal :=
  .next (s.on h fun x =>
    if x.sent.dead then x
    else
      let x1 := (x.abandon false).onSent fun y => { y with
        own := false, kill := false, draught := .alive, giveUp := .released 0, restarted := true, ready := false
        holding := false, claiming := 0, yieldWait := false, faultPull := false, modulate := false }
      ((x1.setRole .offline).setSvc false).txRefresh).lines

/-- SENTINEL_COPIES_DISAGREE: no line, no kill, Draught static until power-on or pin reset (R476). -/
def execSentinelCopiesDisagree (h : HalfId) (s : State) : Host.Outcome State Fault Refusal :=
  .next (s.on h fun x => x.onSent fun y => { y with
    dead := true, own := false, kill := false, draught := .still, claiming := 0, faultPull := false }).lines

end Sys2Proof.Machine
end

