-- ==== Sys2Proof/Machine/Views.lean ====
section
/-! DEFINITION. What a register shows that the half works out as it is read: levels, summaries, counts. Every other register
reads as its value in effect. -/

namespace Sys2Proof.Machine

open Sys2Proof

/-- A half pulls `ALARM_n` (R280). -/
def Half.alarmPull (h : Half) : Bool := (h.role == .active || h.role == .standby) && h.anyAlarm

/-- `ALARM_n` is pulled low (R280). -/
def State.alarmLow (s : State) : Bool := s.a.alarmPull || s.b.alarmPull

/-- The instance of n pages whose register stands at an address. -/
def instAt (base stride n a : Nat) : Option Nat :=
  if base ≤ a ∧ (a - base) % stride = 0 ∧ (a - base) / stride < n then some ((a - base) / stride) else none

/-- An EVENT register holds a bit. -/
def Half.eventAt (h : Half) (a : Nat) : Bool := (h.rd a).toNat != 0

/-- A ring of a port shows bit b of its STATUS (R126). -/
def Half.anyRing (h : Half) (p b : Nat) : Bool :=
  (List.range 4).any fun r => h.bit (ringAdr p false r 0x18) b || h.bit (ringAdr p true r 0x18) b

/-- A MAC has an event pending, or an active IMPAIRED, ERROR or link-down condition (R126). -/
def Half.macPends (h : Half) (p : Nat) : Bool :=
  h.eventAt (Adr.MAC_EVENT p) || h.bit (Adr.MAC_STATUS p) 3 || h.anyRing p 2 || (h.bit (Adr.MAC_CTRL p) 0 && !h.portUp p)

/-- `STATUS[0]` of an engine cluster (R260). -/
def Half.engPends (h : Half) (c : Nat) : Bool :=
  (clusterEngines c).any fun e => h.eventAt (Adr.ENG_EVENT e) || h.engState e == 3 || h.engState e == 4

/-- `STATUS[0]` of the TDM cluster (R338). -/
def Half.tdmPends (h : Half) : Bool := (List.range 8).any fun t => h.eventAt (Adr.TDM_EVENT t) || h.tdmState t == 3

/-- `STATUS.PENDING` of an amplifier cluster (R374). -/
def Half.ampPends (h : Half) (c : Nat) : Bool :=
  (clusterChannels c).any fun k => h.eventAt (Adr.AMP_EVENT k) || inRange 3 6 (h.ampState k)

/-- `STATUS[0]` of a sense cluster (R414). -/
def Half.snsPends (h : Half) (c : Nat) : Bool :=
  (senseChannels c).any fun s => h.eventAt (Adr.SNS_EVENT s) || !h.snsValid s

/-- `STATUS[0]` of a queue cluster (R437). -/
def Half.queuePends (h : Half) (c : Nat) : Bool :=
  (clusterQueues c).any fun q => h.eventAt (Adr.Q_EVENT q) || h.bit (Adr.Q_STATUS q) 1

/-- A word with bit 0 as given and its other bits as stored. -/
def Half.withBit0 (h : Half) (a : Nat) (b : Bool) : Nat := (h.rd a).toNat / 2 * 2 + ofBool b

/-- What a register of a single page shows when it is not simply held; the balls are as given. -/
def Half.viewPage (h : Half) (faultLow alarmLow : Bool) (a : Nat) : Option Nat :=
  if a = Adr.DIE_STATUS then
    some (4 * h.id.bit + 2 * ofBool (h.bit Adr.DIE_PWFAIL_INFO 31) + ofBool (h.bit Adr.DIE_BUSERR_INFO 31))
  else if a = Adr.DIE_ROLE_MIRROR then some (h.rd Adr.RDN_ROLE_STATUS).toNat
  else if a = Adr.EVT_STATUS then
    some (4 * ofBool faultLow + 2 * ofBool (h.bit Adr.EVT_FAULT_FORCE 0 || h.sent.faultPull) + ofBool h.ev.intPull)
  else if a = Adr.REC_FRAME_BYTES then some (frameBytes (maskBits 64 h.chEn).length)
  else if a = Adr.ALM_STATUS then
    some (0x100 * h.get Adr.ALM_STATUS 8 8 + 4 * ofBool h.alarmPull + 2 * ofBool alarmLow)
  else if a = Adr.MEM_SCRUB_PROGRESS then some (0x10000 * h.get a 16 16 + h.scrubPermille)
  else if a = Adr.GST_STATUS then some h.gstStatus
  else if a = Adr.GST_ENG_TESTED then some h.engTested
  else if a = Adr.HLT_UPTIME 0 then some ((h.age - h.hlt.since) / 8)
  else if a = Adr.HLT_UPTIME 1 then some ((h.age - h.hlt.since) / 8 / 0x100000000)
  else if a = Adr.QM_POOL_FREE then some h.poolFree
  else if a = Adr.QM_RSV_TOTAL then some h.rsvTotal
  else if a = Adr.RDN_STATUS then some (h.get a 0 3 + 8 * ofBool (h.handoverCheck == 0) + 16 * h.get a 4 28)
  else if a = Adr.RDN_COMPARE_STATUS then
    some (h.get a 0 16 + 0x10000 * h.mismatch1s + 0x1000000 * h.get a 24 8)
  else if a = Adr.MACC_STATUS then some (ofBool (h.macPends 0) + 2 * ofBool (h.macPends 1))
  else if a = Adr.TDMC_STATUS then some (h.withBit0 a h.tdmPends)
  else none

/-- What a register of a repeated page shows when it is not simply held. -/
def Half.viewUnit (h : Half) (a : Nat) : Option Nat :=
  if let some q := instAt (Adr.Q_STATUS 0) 0x40 64 a then some (h.qStatus q)
  else if let some q := instAt (Adr.Q_LEVEL 0) 0x40 64 a then some (h.queue q).items.length
  else if let some q := instAt (Adr.Q_PKTCNT 0) 0x40 64 a then some (h.qPackets q)
  else if let some c := instAt (Adr.QC_STATUS 0) 0x40 4 a then some (h.withBit0 a (h.queuePends c))
  else if let some c := instAt (Adr.FRXC_STATUS 0) 0x100 8 a then some (h.withBit0 a (h.flowSummary false c))
  else if let some c := instAt (Adr.FTXC_STATUS 0) 0x100 8 a then some (h.withBit0 a (h.flowSummary true c))
  else if let some c := instAt (Adr.ENGC_STATUS 0) 0x4000 2 a then some (h.withBit0 a (h.engPends c))
  else if let some c := instAt (Adr.AMPC_STATUS 0) 0x100 4 a then some (h.withBit0 a (h.ampPends c))
  else if let some c := instAt (Adr.SNSC_STATUS 0) 0x800 5 a then some (h.withBit0 a (h.snsPends c))
  else if let some t := instAt (Adr.TDM_STATUS 0) 0x400 8 a then
    some (16 * ofBool (h.bit Adr.RDN_STATUS 8 && h.outUp) + h.tdmState t)
  else if let some k := instAt (Adr.AMP_STATUS 0) 0x200 32 a then
    some (h.get a 0 7 + 128 * ofBool (h.bit Adr.RDN_STATUS 8 && h.running k) + 256 * h.get a 8 24)
  else if let some p := instAt (Adr.MAC_STATUS 0) 0x4000 2 a then
    some (h.get a 0 12 + 0x1000 * ofBool (decide (8 ≤ h.get (Adr.MAC_TX_START_THRESH p) 0 4)) + 0x2000 * h.get a 13 19)
  else if let some e := instAt (Adr.ENG_SPEED 0) 0x1000 8 a then some (Config.engSpeed h.id e h.age).toNat
  else if let some e := instAt (Adr.ENG_SLACK_MIN 0) 0x1000 8 a then some (Config.slackMin h.id e h.age).toNat
  else if let some e := instAt (Adr.ENG_FW_VER 0) 0x1000 8 a then some (Config.engineFw h.boot.image e).toNat
  else none

/-- What a register shows as it is read. -/
def Half.view (h : Half) (faultLow alarmLow : Bool) (a : Nat) : Word :=
  match h.viewPage faultLow alarmLow a with
  | some v => BitVec.ofNat 32 v
  | none =>
    match h.viewUnit a with
    | some v => BitVec.ofNat 32 v
    | none => h.rd a

end Sys2Proof.Machine
end

