-- ==== Sys2Proof/Machine/Events.lean ====
section
/-! DEFINITION. The event controller: the 64 sources of a half, sampled at every block boundary, and their delivery (R507 to
R514). -/

namespace Sys2Proof.Machine

open Sys2Proof

/-- A bit of mask is 1 in the EVENT register at an address and enabled in the word after it (R507). -/
def Half.feeds_ (h : Half) (ev mask : Nat) : Bool := (h.rd ev).toNat &&& (h.rd (ev + 4)).toNat &&& mask != 0

/-- The index holds for some unit below n. -/
def someUnit (n : Nat) (f : Nat → Bool) : Bool := (List.range n).any f

/-- A receive slot feeds a bit of its EVENT (R165). -/
def Half.rxFeeds (h : Half) (mask : Nat) : Bool := h.rxSlots.any fun n => h.feeds_ (Adr.FRX_EVENT n) mask

/-- A transmit slot feeds a bit of its EVENT (R168). -/
def Half.txFeeds (h : Half) (mask : Nat) : Bool :=
  (h.regs.filter (fun p => decide (0x50000 ≤ p.1 ∧ p.1 < 0x60000 ∧ p.1 % 0x40 = 0xC))).any fun p => h.feeds_ p.1 mask

/-- An enabled member of a pair: a secondary, or a primary that one names (R140). -/
def Half.pairMember (h : Half) (n : Nat) : Bool :=
  (h.rxCfg n).en && ((h.rxCfg n).paired || decide (1 < (h.rxMembers n).length))

/-- The Network, Flow and Timing sources, 0 to 23 (R510). -/
def Half.sourceLow (h : Half) (v : Nat) : Bool :=
  let tim := fun m => h.feeds_ Adr.TIM_EVENT m
  let mpll := h.get Adr.TIM_MPLL_STATUS 0 3
  match v with
  | 0 => h.feeds_ (Adr.MAC_EVENT 0) 1 || (h.bit (Adr.MAC_CTRL 0) 0 && !h.portUp 0)
  | 1 => h.feeds_ (Adr.MAC_EVENT 1) 1 || (h.bit (Adr.MAC_CTRL 1) 0 && !h.portUp 1)
  | 2 => h.feeds_ (Adr.MAC_EVENT 0) 0xE || h.bit (Adr.MAC_STATUS 0) 3
  | 3 => h.feeds_ (Adr.MAC_EVENT 1) 0xE || h.bit (Adr.MAC_STATUS 1) 3
  | 4 => tim 0x300 || someUnit 2 fun p =>
      h.bit (Adr.TIM_PTP_CFG p) 17 && h.get (Adr.TIM_PTP_STATUS p) 0 4 != 9 && h.bit (Adr.TIM_REF_CFG p) 0
  | 5 => someUnit 2 fun p => h.feeds_ (Adr.MAC_EVENT p) 0x10 || h.anyRing p 1 || h.anyRing p 2
  | 6 => someUnit 2 fun p => h.feeds_ (Adr.MAC_EVENT p) 0x20
  | 7 => someUnit 2 fun p => h.feeds_ (Adr.MAC_EVENT p) 0x40 || h.get (Adr.MAC_STATUS p) 7 3 == 4
  | 8 => h.rxFeeds 1 || h.rxSlots.any fun n => h.rxState n == 3
  | 9 => h.txFeeds 1 || h.txSlots.any fun n => h.get (Adr.FTX_STATUS n) 0 3 == 3
  | 10 => h.feeds_ Adr.EVT_SYS_EVENT 1
  | 11 => h.rxFeeds 2 || h.rxSlots.any fun n => h.pairMember n && !h.bit (Adr.FRX_STATUS n) 4
  | 12 => h.rxFeeds 4
  | 13 => h.rxFeeds 8 || h.txFeeds 2
  | 14 => h.feeds_ Adr.PLC_EVENT 1
  | 15 => h.rxFeeds 0x10 || h.rxSlots.any fun n => h.bit (Adr.FRX_STATUS n) 5
  | 16 => tim 1 || someUnit 8 fun i => h.refState i == 4
  | 17 => tim 2 || h.tim.dispute
  | 18 => tim 4 || mpll == 0 || mpll == 1 || mpll == 4 || mpll == 7
  | 19 => tim 8 || h.get Adr.TIM_CPLL_STATUS 0 3 != 2
  | 20 => tim 0x10 || mpll == 4
  | 21 => tim 0x20
  | 22 => tim 0x40 || [2, 5].any fun i =>
      h.refState i == 4 && (h.get (Adr.TIM_REF_STATUS i) 4 4 == 1 || h.get (Adr.TIM_REF_STATUS i) 4 4 == 6)
  | _ => tim 0x80

/-- Source 32 + c (R510). -/
def Half.ampSource (h : Half) (c : Nat) : Bool :=
  h.feeds_ (Adr.AMPC_EVENT c) 0x18 || ((clusterChannels c).any fun k => h.feeds_ (Adr.AMP_EVENT k) 0x75) ||
    h.ampPends c || h.bit (Adr.AMPC_STATUS c) 1

/-- The Processing, Alarm and amplifier sources, 24 to 39 (R510). -/
def Half.sourceMid (h : Half) (v : Nat) : Bool :=
  match v with
  | 24 => h.feeds_ Adr.GRF_EVENT 7
  | 25 => h.feeds_ Adr.PLC_EVENT 0x1E || h.get Adr.PLC_STATUS 1 2 != 0
  | 26 => someUnit 8 fun e => h.feeds_ (Adr.ENG_EVENT e) 5 || h.engState e == 4
  | 27 => someUnit 8 fun e => h.feeds_ (Adr.ENG_EVENT e) 2
  | 28 => h.feeds_ Adr.GRF_EVENT 0x38 || (h.zones.any fun z => h.bit (Adr.GRF_ZSTATE z.1) 29)
  | 29 => h.feeds_ Adr.ALM_EVENT 3
  | 30 => h.feeds_ Adr.ALM_EVENT 4 || someUnit 8 h.evacActive
  | 31 => h.feeds_ Adr.ALM_EVENT 0x18 || someUnit 8 fun i => h.evacOn i && inRange 2 4 (h.evacClass i)
  | 32 => h.ampSource 0
  | 33 => h.ampSource 1
  | 34 => h.ampSource 2
  | 35 => h.ampSource 3
  | 36 => someUnit 32 fun k => h.feeds_ (Adr.AMP_EVENT k) 2 || inRange 3 5 (h.ampState k)
  | 37 => someUnit 4 fun c => h.feeds_ (Adr.AMPC_EVENT c) 1 || h.get (Adr.AMPC_STATUS c) 4 2 != 0
  | 38 => (someUnit 4 fun c => h.feeds_ (Adr.AMPC_EVENT c) 4) ||
      someUnit 32 fun k => h.feeds_ (Adr.AMP_EVENT k) 8 || h.bit (Adr.AMP_STATUS k) 5
  | _ => someUnit 4 fun c => h.feeds_ (Adr.AMPC_EVENT c) 2 ||
      (!h.bit (Adr.AMPC_STATUS c) 6 && (clusterChannels c).any fun k => h.bit (Adr.AMP_CTRL k) 0)
/-- The sense, Memory and Control sources, 40 to 63 (R510). -/
def Half.sourceHigh (h : Half) (v : Nat) : Bool :=
  let away := h.role == .standby || h.role == .syncing
  match v with
  | 40 => someUnit 80 fun s => h.feeds_ (Adr.SNS_EVENT s) 3 || h.get (Adr.SNS_STATUS s) 6 2 != 0
  | 41 => h.feeds_ Adr.SFE_EVENT 4 || (someUnit 32 fun k => h.feeds_ (Adr.SNS_EVENT k) 0x10 ||
      inRange 3 6 (h.get (Adr.SFE_LSPK_COND k) 27 3) || h.bit (Adr.SFE_LSPK_COND k) 30)
  | 42 => someUnit 80 fun s => h.feeds_ (Adr.SNS_EVENT s) 0xC || (h.bit (Adr.SNS_CTRL s) 0 && !h.snsValid s)
  | 43 => h.feeds_ Adr.SFE_EVENT 3
  | 44 => someUnit 8 fun t => h.feeds_ (Adr.TDM_EVENT t) 7 || h.tdmState t == 3
  | 45 => h.feeds_ Adr.MSG_EVENT 0xC || !h.bit Adr.MSG_STATUS 0 ||
      someUnit 128 fun w => (h.rd (Adr.MSG_DAMAGED w)).toNat != 0
  | 46 => h.feeds_ Adr.REC_EVENT 7 || h.bit Adr.REC_STATUS 1
  | 47 => h.feeds_ Adr.MSG_EVENT 3 || h.feeds_ Adr.MEM_EVENT 8
  | 48 => h.feeds_ Adr.MEM_EVENT 5 || h.bit Adr.MEM_STATUS 3
  | 49 => h.feeds_ Adr.MEM_EVENT 2
  | 50 => h.feeds_ Adr.MEM_EVENT 0x30
  | 51 => h.feeds_ Adr.QM_EVENT 1 || someUnit 64 fun q => h.feeds_ (Adr.Q_EVENT q) 3 || h.bit (Adr.Q_STATUS q) 1
  | 52 => h.feeds_ Adr.EVT_SYS_EVENT 6
  | 53 => h.feeds_ Adr.DIE_EVENT 1 || h.bit Adr.DIE_BUSERR_INFO 31
  | 54 => h.feeds_ Adr.DIE_EVENT 2 || h.bit Adr.DIE_PWFAIL_INFO 31
  | 55 => h.feeds_ Adr.HOST_EVENT 0x1F || (h.pcieSelected && !h.bit Adr.HOST_STATUS 0 && h.ev.linkSeen)
  | 56 => h.feeds_ Adr.RDN_EVENT 1 || h.sent.breezeLost
  | 57 => h.feeds_ Adr.RDN_EVENT 2 || h.sent.draughtLost
  | 58 => h.feeds_ Adr.RDN_EVENT 4 || h.role == .offline || h.role == .syncing || h.role == .isolated
  | 59 => h.feeds_ Adr.RDN_EVENT 8 || (away && !h.bit Adr.RDN_MIRROR_STATUS 31)
  | 60 => h.feeds_ Adr.RDN_EVENT 0x10 || h.mismatch1s != 0
  | 61 => h.feeds_ Adr.GST_EVENT 0xF || someUnit 9 fun i => h.get (Adr.GST_CLASS i) 30 2 != 0
  | 62 => h.feeds_ Adr.HLT_EVENT 3 || h.get Adr.HLT_STATUS 0 2 != 0
  | _ => h.feeds_ Adr.HLT_EVENT 0xC || h.get Adr.HLT_STATUS 2 2 != 0

/-- The raw summary of source v, FORCE apart (R507, R510). -/
def Half.source (h : Half) (v : Nat) : Bool :=
  if v < 24 then h.sourceLow v else if v < 40 then h.sourceMid v else h.sourceHigh v

/-- The half sends MSI-X messages: PCIe is selected and the host has set Bus Master Enable (R511). -/
def Half.msixOn (h : Half) : Bool := h.pcieSelected && h.bit Adr.HOST_LINK 16

/-- Signals vector v: a message, or its PBA bit while the vector is masked (R511). -/
def Half.signal (h : Half) (v : Nat) : Half :=
  if !h.msixOn then h
  else if h.bit (Adr.HOST_MSIX (4 * v + 3)) 0 then h.putBit (Adr.HOST_PBA (v / 32)) (v % 32) true
  else { h with ev := { h.ev with msixOut := h.ev.msixOut ++ [v] } }

/-- A write that unmasks vector v sends its pending message (R41, PRESUMED of PCI Express, log entry 30). -/
def Half.unmask (h : Half) (v : Nat) : Half :=
  if h.bit (Adr.HOST_PBA (v / 32)) (v % 32) && !h.bit (Adr.HOST_MSIX (4 * v + 3)) 0 && h.msixOn then
    { h.putBit (Adr.HOST_PBA (v / 32)) (v % 32) false with ev := { h.ev with msixOut := h.ev.msixOut ++ [v] } }
  else h

/-- The item of R513 for a change of source v. -/
def logItem (v block : Nat) (on : Bool) : Nat := v * 2 ^ 50 + ofBool on * 2 ^ 49 + block % 2 ^ 48

/-- Step 5 of a block boundary: SRC and PEND are sampled, and each rise and each change delivered (R508, R511 to R514). -/
def Half.sampleEvents (h : Half) : Half :=
  let src := maskOf 64 fun v => h.source v || h.ev.force.testBit v
  let old := h.rd64 (Adr.EVT_SRC 0)
  let oldPend := h.rd64 (Adr.EVT_PEND 0)
  let pend := src &&& h.rd64 (Adr.EVT_EN 0)
  let h1 := (h.wr64 (Adr.EVT_SRC 0) src).wr64 (Adr.EVT_PEND 0) pend
  let h2 := h1.each (maskBits 64 (pend &&& (0xFFFFFFFFFFFFFFFF - (oldPend &&& (0xFFFFFFFFFFFFFFFF - h.ev.rearm))))) Half.signal
  let h3 := if !h2.bit Adr.EVT_CTRL 1 then h2
    else h2.each (maskBits 64 (src ^^^ old)) fun x v => x.hwPush 2 2 [logItem v x.block (src.testBit v)]
  { h3 with ev := { h3.ev with
      rearm := 0, force := 0
      intPull := h3.bit Adr.EVT_CTRL 0 && pend &&& h3.rd64 (Adr.EVT_PIN_MASK 0) != 0 } }

/-- A write of 1 bits to the low or the high word of REARM (R511): they accumulate until the next boundary. -/
def Half.writeRearm (h : Half) (hi : Bool) (v : Word) : Half :=
  { h with ev := { h.ev with rearm := h.ev.rearm ||| v.toNat * (if hi then 0x100000000 else 1) } }

/-- A write of 1 bits to the low or the high word of FORCE (R514): they accumulate until the next boundary. -/
def Half.writeForce (h : Half) (hi : Bool) (v : Word) : Half :=
  { h with ev := { h.ev with force := h.ev.force ||| v.toNat * (if hi then 0x100000000 else 1) } }

end Sys2Proof.Machine
end

