-- ==== Sys2Proof/Machine/MacRx.lean ====
section
/-! DEFINITION. The receive path of a MAC: checks, classification and reassembly (R89 to R94, R104, R108). -/

namespace Sys2Proof.Machine

open Sys2Proof

/-- A PTP frame under row 1 of R94: whether it is an event message. -/
def Parsed.ptpFrame (f : Parsed) : Option Bool :=
  if f.etype = 0x88F7 then some (decide (byteAt f.body 0 % 16 ≤ 3))
  else match f.udp with
    | some d => if d.dstPort = 319 then some true else if d.dstPort = 320 then some false else none
    | none => none

/-- A control frame for ring 2 under row 4 of R94. -/
def Parsed.controlFrame (f : Parsed) : Bool :=
  f.etype == 0x0806 || f.etype == 0x88CC ||
    (match f.ipv4 with
     | some d => d.proto == 1 || d.proto == 2
     | none => false) ||
    (match f.udp with
     | some d => d.dstPort == 9875
     | none => false)

/-- A frame without its FCS that has passed R89 to R93, by the first row of R94 that it matches: at ofs ns into the block, its
first bit at an instant. -/
def Half.classify (h : Half) (p : Nat) (bytes : List Byte) (f : Parsed) (ofs sfd : Nat) : Half :=
  match f.ptpFrame with
  | some event =>
    if event then
      let (tag, h1) := h.rxTimestamp p sfd
      h1.deliverRing p 3 bytes (some tag)
    else h.deliverRing p 3 bytes none
  | none =>
    if (h.alarmUdp f).isSome then
      if h.up .control then h.onAlarm fun a => { a with waiting := a.waiting ++ [⟨p, bytes, h.now ofs, h.ptpAtNow sfd⟩] }
      else h
    else
      match f.flowPkt.bind fun k => (h.flowMatch p k).map fun m => (k, m) with
      | some (k, n, badSrc) => h.flowArrive n badSrc k ofs sfd
      | none =>
        if f.controlFrame then h.deliverRing p 2 bytes none
        else if f.etype = 0x86DD then h.tally p .rxFiltered 1
        else
          match h.exactMatch p f.da with
          | some i =>
            let r := h.get (Adr.MAC_EXACT_HI p i) 28 2
            if h.bit (Adr.MAC_EXACT_HI p i) 30 then
              let (tag, h1) := h.rxTimestamp p sfd
              h1.deliverRing p r bytes (some tag)
            else h.deliverRing p r bytes none
          | none => h.deliverRing p (h.get (Adr.MAC_RX_STEER p) 0 2) bytes none

/-- The class of a frame for the receive buffer (R90): 2 alarm, 1 PTP, 0 any other. -/
def Half.bufferClass (h : Half) (f : Parsed) : Nat :=
  if f.ptpFrame.isSome then 1 else if (h.alarmUdp f).isSome then 2 else 0

/-- Counts a good frame (R120). -/
def Half.goodFrame (h : Half) (p : Nat) (da : List Byte) (len : Nat) : Half :=
  let h1 := (h.tally p .rxOctets len).tally p .rxFrames 1
  if da = broadcastMac then h1.tally p .rxBcast 1
  else if byteAt da 0 % 2 = 1 then h1.tally p .rxMcast 1
  else h1

/-- A MAC control frame is consumed: pause, or counted as unsupported (R91, R106, R108). -/
def Half.macControl (h : Half) (p : Nat) (f : Parsed) (ofs : Nat) : Half :=
  if beAt f.body 0 2 = 1 then h.takePause p (beAt f.body 2 2) ofs else h.tally p .rxMacctrlUnsup 1

/-- The frame limit of a port (R89). -/
def Half.maxFrame (h : Half) (p : Nat) : Nat := clampNat 1518 2000 (h.get (Adr.MAC_MAX_FRAME p) 0 11)

/-- A whole frame, FCS included, is received (R89 to R94). -/
def Half.receiveFrame (h : Half) (p : Nat) (bytes : List Byte) (ofs sfd : Nat) (occ : RxOcc) : Half :=
  let len := bytes.length
  let body := bytes.take (len - 4)
  let f := parseFrame body
  if !bufferRoom occ (h.bufferClass f) len then (h.tally p .rxOverrun 1).event (Adr.MAC_EVENT p) 2
  else if len < 64 then h.tally p .rxRunt 1
  else if bytes.drop (len - 4) ≠ fcsBytes body then h.tally p .rxFcsErr 1
  else if h.maxFrame p < len then h.tally p .rxOversize 1
  else
    let h1 := h.goodFrame p f.da len
    if f.etype = 0x8808 then h1.macControl p f ofs
    else if !h1.daAccepted p f.da then h1.tally p .rxFiltered 1
    else if !h1.vlanAccepted p f then h1.tally p .rxVlanDrop 1
    else h1.classify p body f ofs sfd

/-- The port receives: its MAC runs and its link is up. -/
def Half.receives (h : Half) (p : Nat) : Bool := h.macOn p && h.portUp p

/-- FRAME_RECEIVE (R94). -/
def execFrameReceive (h : HalfId) (p : PortId) (bytes : List Byte) (ofs : BlockOfs) (occ : RxOcc) (s : State) :
    Host.Outcome State Fault Refusal :=
  .next (s.on h fun x => if x.receives p then x.receiveFrame p bytes ofs (x.now ofs) occ else x)

/-- A reassembly error (R104). -/
def Half.assyErr (h : Half) (p : Nat) : Half :=
  ((h.tally p .rxAssyErr 1).event (Adr.MAC_EVENT p) 3).onMac p fun m => { m with assembly := none }

/-- A start fragment (R104). -/
def Half.startFragment (h : Half) (p n : Nat) (bytes : List Byte) (last : Bool) (ofs : Nat) (occ : RxOcc) : Half :=
  let h1 := if (h.mac p).assembly.isSome then h.assyErr p else h
  if last then h1.receiveFrame p bytes ofs (h1.now ofs) occ
  else h1.onMac p fun m => { m with assembly := some ⟨n, 0, h1.now ofs, bytes⟩ }

/-- A continuation fragment (R104). -/
def Half.contFragment (h : Half) (p n count : Nat) (bytes : List Byte) (last : Bool) (ofs : Nat) (occ : RxOcc) : Half :=
  match (h.mac p).assembly with
  | none => h.assyErr p
  | some a =>
    if a.n ≠ n ∨ a.next ≠ count then h.assyErr p
    else if last then
      (h.onMac p fun m => { m with assembly := none }).receiveFrame p (a.bytes ++ bytes) ofs a.start occ
    else h.onMac p fun m => { m with assembly := some ⟨n, (count + 1) % 4, a.start, a.bytes ++ bytes⟩ }

/-- An mPacket is received (R102, R104). -/
def Half.takeMPacket (h : Half) (p : Nat) (m : MPacket) (ofs : Nat) (occ : RxOcc) : Half :=
  match m with
  | .express bytes => h.receiveFrame p bytes ofs (h.now ofs) occ
  | .verify => h
  | .respond => if h.get (Adr.MAC_STATUS p) 7 3 = 2 then h.setVerify p 3 else h
  | .start n bytes last =>
    if h.preemptOn p then (h.tally p .rxFragments 1).startFragment p n bytes last ofs occ else h.tally p .rxSmdErr 1
  | .cont n count bytes last =>
    if h.preemptOn p then (h.tally p .rxFragments 1).contFragment p n count bytes last ofs occ else h.tally p .rxSmdErr 1
  | .unknown => h.tally p .rxSmdErr 1

/-- MPACKET_RECEIVE (R104). -/
def execMpacketReceive (h : HalfId) (p : PortId) (m : MPacket) (ofs : BlockOfs) (occ : RxOcc) (s : State) :
    Host.Outcome State Fault Refusal :=
  .next (s.on h fun x => if x.receives p then x.takeMPacket p m ofs occ else x)

end Sys2Proof.Machine
end

