-- ==== Sys2Proof/Machine/Writes.lean ====
section
/-! DEFINITION. What an accepted register write does, register by register (R20, R53): the write actions of every page, and
the overlay of values that wait for a boundary or a plan commit. The access rules stand in Fabric. -/

namespace Sys2Proof.Machine

open Sys2Proof

/-- SAVE_LIBRARY is refused: no library in service, a load or check under way, or a copy that does not fit (R537, R538). -/
def Half.saveLibraryRefused (h : Half) : Bool :=
  !h.bit Adr.MSG_STATUS 0 || h.libState != 0 || decide (h.boot.size < 0x3010000 + h.copyLength h.bankIn)

/-- The confirmed value of `BOOT_CTRL` (R537): refused while an operation is busy, for a reserved OP and in the cases of
R537; SELECT shows the result of its check. -/
def Half.writeBootCtrl (h : Half) (q : Req) (v : Word) : Half :=
  let refuse := h.pwRefuse q Adr.DIE_BOOT_CTRL
  let start := fun (x : Half) (op : BootOp) => (x.wrNat Adr.DIE_BOOT_CTRL (v.toNat &&& 0xF0000001)).bootStart op
  if h.bootBusy then refuse
  else
    match getBits v 28 4 with
    | 1 =>
      let slot := getBits v 0 1
      let h1 := h.put Adr.DIE_BOOT_STATUS (24 - 4 * slot) 4 (h.slotResult slot)
      if h.slotResult slot = 0 then start h1 (.select slot) else h1.pwRefuse q Adr.DIE_BOOT_CTRL
    | 2 => start h .saveConfig
    | 3 => start h .eraseConfig
    | 4 => if h.saveLibraryRefused then refuse else start h .saveLibrary
    | 5 => if h.role = .offline ∨ h.role = .isolated then start h .eraseRetirements else refuse
    | 6 => if h.inTrial then refuse else start h .raiseFloor
    | _ => refuse

/-- A write of a ring register by a requester that may write it (R112, R125). -/
def Half.writeRing (h : Half) (q : Req) (l : Loc) (tx : Bool) (v : Word) : Half :=
  if !ringWritable q l.j then h
  else
    match l.reg.hook with
    | .rxrCtrl | .txrCtrl => h.writeRingCtrl l.i tx l.j v
    | .rxrTail | .txrTail => h.giveTail l.i tx l.j v.toNat []
    | _ => h.writeRingCfg l.i tx l.j (l.reg.off % 0x100) v l.reg.mask

/-- A write of a word of the MSI-X table: a vector whose mask falls sends what it has pending (R41, R513). -/
def Half.writeMsix (h : Half) (j : Nat) (v : Word) : Half :=
  let was := h.bit (Adr.HOST_MSIX j) 0
  let h1 := h.wr (Adr.HOST_MSIX j) v
  if j % 4 = 3 ∧ was ∧ !bitAt v 0 then h1.unmask (j / 4) else h1

/-- A write of a plain register, with what follows from it at once (R272, R513). -/
def Half.writePlain (h : Half) (a : Nat) (v : Word) : Half :=
  if Adr.HOST_MSIX 0 ≤ a ∧ a < Adr.HOST_MSIX 0 + 0x400 then h.writeMsix ((a - Adr.HOST_MSIX 0) / 4) v
  else if a = Adr.ALM_AUTH_BUCKET then (h.limitBuckets.wr a v).limitBuckets
  else h.wr a v

/-- The action of a register that acts at once on the Control, Timing, Network or Flow region; none for the registers of
`Half.actLate`. -/
def Half.actEarly (h : Half) (q : Req) (l : Loc) (a : Nat) (v : Word) : Option Half :=
  match l.reg.hook with
  | .bootCtrl => some (h.writeBootCtrl q v)
  | .resetCtrl => some (h.writeResetCtrl q v)
  | .roleCtrl => some (h.writeRoleCtrl q v)
  | .flashCmd => some (h.flashCommand v)
  | .flashData => some (h.flashDataWrite v)
  | .rearm => some (h.writeRearm (l.j == 1) v)
  | .force => some (h.writeForce (l.j == 1) v)
  | .mpllOpen => some (h.writeMpllOpen (bitAt v 0))
  | .swFreq => some (h.writeSwFreq v)
  | .swrefPhase => some (h.writeSwref v)
  | .ptpCfg => some (h.writePtpCfg l.j v)
  | .refCfg => some ((h.wr a v).refEval false l.j)
  | .macCtrl => some (h.writeMacCtrl l.i v)
  | .maccCtrl => some (if bitAt v 0 then h.macReinit else h)
  | .eeeTw => some (h.writeEeeTw l.i v.toNat)
  | .mdioCmd => some (h.writeMdio l.i v)
  | .ringCfg => some (h.writeRing q l (decide (0x500 ≤ l.reg.off)) v)
  | .rxrCtrl | .rxrTail => some (h.writeRing q l false v)
  | .txrCtrl | .txrTail => some (h.writeRing q l true v)
  | .frxcCtrl => some (if bitAt v 0 then h.flowClusterInit false l.i else h)
  | .ftxcCtrl => some (if bitAt v 0 then h.flowClusterInit true l.i else h)
  | _ => none

/-- The action of a register that acts at once on the Processing, Memory or Output region or the Alarm path; any other
register holds what is written. -/
def Half.actLate (h : Half) (q : Req) (l : Loc) (a : Nat) (v : Word) : Half :=
  match l.reg.hook with
  | .cmdGo => h.writeCmdGo v
  | .issuerCfg => h.writeIssuerCfg l.j v
  | .keyLoad => h.writeKeyLoad v
  | .evacCfg => (h.wr a v).evacCfgChanged
  | .grfCommit => if bitAt v 0 then h.submitPlan else h
  | .levelCmd => h.levelCmd (bitAt v 31) (getBits v 16 4) (getBits v 0 8)
  | .engCtrl => h.writeEng l.i (bitAt v 0)
  | .engcCtrl => if bitAt v 0 then h.engineClusterInit l.i else h
  | .partition => h.writePartition q v
  | .libCommit => h.writeLibCommit q v
  | .xferCtrl => h.writeXferCtrl v
  | .xferData => h.xferAccess true v
  | .sfeSync => h.writeSync v.toNat
  | .profApply => if bitAt v 0 then h.submitProfile l.j else h
  | .lspCmd => h.writeLspCmd v
  | .snscCtrl => if bitAt v 0 then h.senseClusterInit ((l.block - 0xB1060) / 0x800) else h
  | .tdmcCtrl => if bitAt v 0 then h.tdmClusterInit else h
  | .qCtrl => h.writeQCtrl l.i v
  | .qCfg => h.writeQCfg l.i v
  | .qPool => h.writeQPool l.i v
  | .qcCtrl => if bitAt v 0 then h.queueClusterInit l.i else h
  | .pushHi => h.hostPushItem q l.i 0 v
  | .pushLo => h
  | _ => h.writePlain a v

/-- A value for the next block boundary (R20, R622): it waits beside the value in effect. A CLEAR or RESET bit that waits is
not lost to a later write of the same register. -/
def Half.holdValue (h : Half) (l : Loc) (a : Nat) (v : Word) : Half :=
  match l.reg.hook with
  | .snsCtrl => h.writeSnsCtrl l.i v
  | .ampCtrl => h.stage a (if bitAt (lookAt (fun _ => 0) h.held a) 2 then v ||| 4 else v)
  | .ampcCtrl => h.stage a (if bitAt (lookAt (fun _ => 0) h.held a) 0 then v ||| 1 else v)
  | _ => h.stage a v

/-- A value for the next plan commit (R159, R208, R227): discarded and counted while a submission is in progress. -/
def Half.stageValue (h : Half) (a : Nat) (v : Word) : Half :=
  if h.commitState ≠ 0 then (h.count Adr.GRF_STAGE_DROPS 0 16 1).event Adr.GRF_EVENT 2
  else if inStagingBank a then h.wr a v
  else h.stage a v

/-- An accepted write of an implemented register or table word, for its value in effect, for the boundary or for the plan. -/
def Half.putReg (h : Half) (q : Req) (l : Loc) (a : Nat) (v : Word) : Half :=
  match l.reg.cls with
  | .held => h.holdValue l a v
  | .staged => h.stageValue a v
  | .imm =>
    match h.actEarly q l a v with
    | some x => x
    | none => h.actLate q l a v

/-- An accepted write, with what it changes at the package: kills, roles and resets move the shared lines, a bulk copy
looks at the partner, a reference may change the selection. -/
def State.putReg (s : State) (h : HalfId) (q : Req) (l : Loc) (a : Nat) (v : Word) : State :=
  let f := fun (x : Half) => x.putReg q l a v
  match l.reg.hook with
  | .killCtrl => s.writeKillCtrl h v
  | .resetCtrl | .roleCtrl => (s.on h f).lines
  | .bulkCtrl => if bitAt v 0 then s.writeBulk h else s
  | .refCfg | .ptpCfg => s.refChange h f
  | _ => s.on h f

end Sys2Proof.Machine
end

