-- ==== Sys2Proof/Machine/Fabric.lean ====
section
/-! DEFINITION. The register fabric (R53 to R81): the checks of an access, reads and writes with the rules for 64-bit values,
paired writes, triplicated fields, bit aliases and the partner window. -/

namespace Sys2Proof.Machine

open Sys2Proof

/-- What an access comes to: a completed read or write, a pop that has completed its requester's access itself, a bus error,
or a stalled pop. -/
inductive Answer
  | ok (w : Word)
  | popped (w : Word)
  | err
  | stalled
  deriving DecidableEq, Repr

/-- How a word takes part in a 64-bit value: of a run of words, the even ones are LO (R63). -/
def Loc.wideAs (l : Loc) : Wide :=
  match l.reg.wide with
  | .lo => if l.reg.stride = 4 ∧ 2 ≤ l.reg.n ∧ l.j % 2 = 1 then .hi else .lo
  | w => w

/-- A read of the register has a side effect beside a clear (R61, R74). -/
def Loc.acts (l : Loc) : Bool :=
  match l.reg.hook with
  | .popLo | .flashData | .xferData => true
  | _ => false

/-- A read of the register has a side effect (R61). -/
def Loc.sideEffect (l : Loc) : Bool := l.reg.attr == .rc || l.acts

/-- The address is not aligned to the width, or the byte enables are not contiguous (R61). -/
def misaligned (w : Width) (a : Nat) : Bool :=
  match w with
  | .w8 => false
  | .w16 => a % 2 != 0
  | .w32 => a % 4 != 0
  | .w64 => a % 4 != 0
  | .gap => true

/-- Narrower than 32 bits. -/
def narrowWidth : Width → Bool
  | .w8 => true
  | .w16 => true
  | _ => false

/-- The pages that a forced management plane still lets a requester write: DIE, EVT, HLT, RDN (R22). -/
def forcedWritable (block : Nat) : Bool := block == 0 || block == 0x1000 || block == 0xD0000 || block == 0x10000

/-- The cause that refuses a write of an implemented word: forced management plane (R22, R78), an M field on a STANDBY or
SYNCING half (R72). -/
def Half.writeRefused (h : Half) (l : Loc) : Option Nat :=
  if h.sent.forceMgmt && !forcedWritable l.block then some 0xA
  else if l.reg.m && (h.role == .standby || h.role == .syncing) then some 9
  else none

/-- The three copies of a triplicated word as stored (R71). -/
def Half.copies3 (h : Half) (a : Nat) : Word × Word × Word :=
  match h.acc.copies.find? (fun p => p.1 == a) with
  | some (_, (x, y)) => (h.rd a, x, y)
  | none => (h.rd a, h.rd a, h.rd a)

/-- The value on which two of three copies agree (R71). -/
def vote (c : Word × Word × Word) : Option Word :=
  if c.1 = c.2.1 ∨ c.1 = c.2.2 then some c.1 else if c.2.1 = c.2.2 then some c.2.1 else none

/-- Forgets the copies of a word: all three equal the value in effect. -/
def Half.joinCopies (h : Half) (a : Nat) : Half := { h with acc := { h.acc with copies := eraseAt a h.acc.copies } }

/-- The vote on a triplicated word as a read or the scrub takes it (R71): a differing copy is corrected and counted. -/
def Half.voted (h : Half) (a : Nat) : Option Half :=
  let c := h.copies3 a
  match vote c with
  | none => none
  | some v => if c.2.1 = c.1 ∧ c.2.2 = c.1 then some (h.joinCopies a) else some ((h.wr a v).joinCopies a).tmrCorrected

/-- The cause of the bus error of a register access that R59 to R61 and R72 refuse, before any vote (R80). -/
def Half.refuses (h : Half) (q : Req) (l : Loc) (write : Bool) : Option Nat :=
  if q = .partner ∧ l.reg.attr = .pw then some 5
  else if !h.up l.region then some 0xC
  else if write then h.writeRefused l
  else none

/-- Where a register access leads, or the cause of its bus error (R59 to R61). -/
def Half.resolve (h : Half) (q : Req) (x : Access) : Except Nat Loc :=
  if misaligned x.width x.addr then .error 4
  else if x.write && narrowWidth x.width then .error 3
  else
    match locate (x.addr / 4 * 4) with
    | none => .error 1
    | some l =>
      if narrowWidth x.width && l.sideEffect then .error 2
      else
        match h.refuses q l x.write with
        | some c => .error c
        | none => .ok l

/-- The register and the bit of an alias address (R73). -/
def aliasOf (a : Nat) : Nat × Nat := ((a - 0x8000000) / 4 / 32, (a - 0x8000000) / 4 % 32)

/-- Where an alias access leads, or the cause of its bus error (R61, R70, R73, R74). -/
def Half.resolveAlias (h : Half) (q : Req) (x : Access) : Except Nat Loc :=
  let (r, b) := aliasOf x.addr
  if misaligned x.width x.addr then .error 4
  else if x.write && narrowWidth x.width then .error 3
  else if r % 4 ≠ 0 then .error 6
  else
    match locate r with
    | none => .error 6
    | some l =>
      if !l.confirm && !l.mask.testBit b then .error 6
      else if narrowWidth x.width && l.sideEffect then .error 2
      else if l.reg.attr = .pw then .error 5
      else if l.acts then .error 6
      else
        match h.refuses q l x.write with
        | some c => .error c
        | none => .ok l

/-- Forgets the pending values that satisfy p. -/
def Half.dropPending (h : Half) (p : PwPending → Bool) : Half :=
  { h with acc := { h.acc with pw := h.acc.pw.filter fun x => !p x } }

/-- The slot of a paired-write word: the address of its VALUE (R67). -/
def Loc.slot (l : Loc) (a : Nat) : Nat := if l.confirm then a - 4 else a

/-- The block of a slot. -/
def slotBlock (slot : Nat) : Option Nat := (locate slot).map fun l => l.block

/-- An access to a slot through the alias region or the partner window discards the value its requester holds (R70). -/
def Half.touchSlot (h : Half) (q : Req) (slot : Nat) : Half :=
  if h.acc.pw.any fun p => p.slot == slot && p.req == q then
    (h.dropPending fun p => p.slot == slot && p.req == q).pwFail q slot 7
  else h

/-- An access that raises a bus error at this half (R80). -/
def Half.busFault (h : Half) (q : Req) (x : Access) (cause : Nat) : Half :=
  let h1 := h.busError q x.addr x.width x.write cause
  if cause = 5 then
    let a := if 0x8000000 ≤ x.addr then (aliasOf x.addr).1 else x.addr / 4 * 4
    match locate a with
    | some l => h1.touchSlot q (l.slot a)
    | none => h1
  else h1

/-- The three copies of a triplicated field differ (R71): a bus error, source 52 and a die-level fault. -/
def State.tmrFault (s : State) (h : HalfId) (q : Req) (x : Access) (r : Region) : State :=
  (s.on h fun y => ((y.busFault q x 0xD).tmrDisagree r).settleControl).lines

/-- What a read of an implemented word shows: the last written value of a held or staged word (R20, R227), the value in effect of
a slot (R67), 0 for a write-only word, and for a player while Processing does not answer (R621). -/
def State.shown (s : State) (h : HalfId) (l : Loc) (a : Nat) : Word :=
  let x := s.half h
  let live := x.view s.faultLow s.alarmLow a
  let isPlayer := l.block == 0x81000 && l.reg.off == 0x100
  if l.confirm || l.reg.attr == .wo then 0
  else if isPlayer && !x.up .processing then 0
  else if l.reg.attr == .pw then live
  else
    match l.reg.hook with
    | .flashData => x.flashDataValue
    | .xferData => x.xferDataValue
    | .ampCtrl => BitVec.ofNat 32 ((lookAt (fun _ => live) x.held a).toNat &&& 3)
    | .ampcCtrl => 0
    | _ => lookAt (fun _ => live) x.held a

/-- A clear-on-read register loses the bits that a read returned (R58). -/
def Half.clearRead (h : Half) (l : Loc) (a : Nat) (mask : Nat) : Half :=
  if l.reg.attr = .rc then h.wrNat a ((h.rd a).toNat &&& (0xFFFFFFFF - mask)) else h

/-- The part of a word that a read of width w at address a returns (R61). -/
def readLanes (w : Width) (a : Nat) (v : Word) : Word :=
  match w with
  | .w8 => BitVec.ofNat 32 (v.toNat / 2 ^ (8 * (a % 4)) % 0x100)
  | .w16 => BitVec.ofNat 32 (v.toNat / 2 ^ (8 * (a % 4)) % 0x10000)
  | _ => v

/-- A read of the LO word of a 64-bit value latches HI; a counter that clears on read clears both (R63). -/
def State.readLo (s : State) (h : HalfId) (q : Req) (l : Loc) (a : Nat) : Word × State :=
  let lo := s.shown h l a
  let hi := match locate (a + 4) with | some l2 => s.shown h l2 (a + 4) | none => 0
  (lo, s.on h fun x =>
    let y := x.onPort q fun p => { p with shadow := some (a, hi) }
    if l.reg.attr = .rc then (y.wr a 0).wr (a + 4) 0 else y)

/-- A read of the HI word returns the shadow when its tag fits, else the live word (R63). -/
def State.readHi (s : State) (h : HalfId) (q : Req) (l : Loc) (a : Nat) : Word × State :=
  let live := s.shown h l a
  match ((s.half h).acc.port q).shadow with
  | some (t, v) => if t + 4 = a then (v, s) else (live, s.on h fun x => x.clearRead l a live.toNat)
  | none => (live, s.on h fun x => x.clearRead l a live.toNat)

/-- A pop (R423): an item, 0, or a stall. -/
def State.popAt (s : State) (h : HalfId) (q : Req) (i : Nat) (ecc : Ecc) : Answer × State :=
  let s1 := s.on h fun x => x.popQueue q i ecc
  let p := (s1.half h).acc.port q
  if p.stall.isSome then (.stalled, s1) else (.popped p.resp.data, s1)

/-- A permitted read of a word, side effects included (R58, R63, R423, R536, R293). -/
def State.readWord (s : State) (h : HalfId) (q : Req) (l : Loc) (a : Nat) (x : Access) : Answer × State :=
  match l.reg.hook with
  | .popLo => s.popAt h q l.i x.ecc
  | .flashData => (.ok (s.shown h l a), s.on h Half.flashDataAdvance)
  | .xferData => (.ok (s.shown h l a), s.on h fun y => y.xferAccess false 0)
  | _ =>
    let r := match l.wideAs with
      | .lo => if narrowWidth x.width then (s.shown h l a, s) else s.readLo h q l a
      | .hi => if narrowWidth x.width then (s.shown h l a, s) else s.readHi h q l a
      | .single => (s.shown h l a, s.on h fun y => y.clearRead l a 0xFFFFFFFF)
    (.ok (readLanes x.width x.addr r.1), r.2)

/-- The implemented bits of a written word (R59). -/
def Loc.masked (l : Loc) (v : Word) : Word := BitVec.ofNat 32 (v.toNat &&& l.mask)

/-- Both words of a 64-bit value written as one (R64); on a queue's push port, the push of one item (R422). -/
def State.writePair (s : State) (h : HalfId) (q : Req) (l : Loc) (a : Nat) (lo hi : Word) : State :=
  match l.reg.hook with
  | .pushHi => s.on h fun x => x.hostPushItem q l.i lo hi
  | _ =>
    match locate (a - 4) with
    | some l0 => (s.putReg h q l0 (a - 4) (l0.masked lo)).putReg h q l a (l.masked hi)
    | none => s

/-- An accepted write of a word that is no slot: ignored for RO and RC (R58, R74), held for a LO word, together with the held
LO for a HI word (R64). -/
def State.storeWord (s : State) (h : HalfId) (q : Req) (l : Loc) (a : Nat) (v : Word) : State :=
  let s0 := s.on h fun x => x.joinCopies a
  match l.reg.attr with
  | .ro | .rc => s0
  | _ =>
    match l.wideAs with
    | .lo => s0.on h fun x => x.onPort q fun p => { p with heldLo := some (a, v) }
    | .hi =>
      match ((s0.half h).acc.port q).heldLo with
      | some (t, lo) =>
        let s1 := s0.on h fun x => x.onPort q fun p => { p with heldLo := none }
        if t + 4 = a then s1.writePair h q l a lo v else s1.putReg h q l a (l.masked v)
      | none => s0.putReg h q l a (l.masked v)
    | .single => s0.putReg h q l a (l.masked v)

/-- A write discards every pending value its requester holds in the same block, but for the slot it confirms (R67, R68). -/
def Half.intervene (h : Half) (q : Req) (block : Nat) (keep : Option Nat) : Half :=
  let hit := fun (p : PwPending) => p.req == q && slotBlock p.slot == some block && some p.slot != keep
  (h.acc.pw.filter hit).foldl (fun x p => x.pwFail q p.slot 4) (h.dropPending hit)

/-- A write of CONFIRM (R67, R68): the complement of the pending value puts it into effect. -/
def State.confirmSlot (s : State) (h : HalfId) (q : Req) (l : Loc) (slot : Nat) (v : Word) : State :=
  match (s.half h).acc.pw.find? fun p => p.slot == slot && p.req == q with
  | none => s.on h fun x => x.pwFail q slot 2
  | some p =>
    let s1 := s.on h fun x => x.dropPending fun y => y.slot == slot && y.req == q
    if v = ~~~p.value then
      let l0 : Loc := { l with confirm := false }
      (s1.on h fun x => x.joinCopies slot).putReg h q l0 slot (l0.masked p.value)
    else s1.on h fun x => x.pwFail q slot 1

/-- A permitted write of a word (R61 to R69). -/
def State.writeWord (s : State) (h : HalfId) (q : Req) (l : Loc) (a : Nat) (v : Word) : State :=
  let slot := l.slot a
  if l.reg.attr ≠ .pw then (s.on h fun x => x.intervene q l.block none).storeWord h q l a v
  else if l.confirm then (s.on h fun x => x.intervene q l.block (some slot)).confirmSlot h q l slot v
  else
    (s.on h fun x => x.intervene q l.block none).on h fun x =>
      { x with acc := { x.acc with pw := x.acc.pw ++ [⟨slot, q, v⟩] } }

/-- A held LO does not outlive a write of its requester to another address (R64). -/
def Half.dropHeldLo (h : Half) (q : Req) (x : Access) : Half :=
  if x.write then
    h.onPort q fun p => { p with heldLo := p.heldLo.filter fun t => t.1 + 4 == x.addr }
  else h

/-- An access of a register or table word through the ports of a half itself or as its partner's request (R59 to R72). -/
def State.direct (s : State) (h : HalfId) (q : Req) (x : Access) : Answer × State :=
  let a := x.addr / 4 * 4
  match (s.half h).resolve q x with
  | .error c => (.err, s.on h fun y => y.busFault q x c)
  | .ok l =>
    if x.write then (.ok 0, s.writeWord h q l a x.data)
    else if !l.reg.t then s.readWord h q l a x
    else
      match (s.half h).voted a with
      | some y => (s.setHalf h y).readWord h q l a x
      | none => (.err, s.tmrFault h q x l.region)

/-- An access of a bit-alias word: one atomic operation on one bit of a register (R74). -/
def State.aliasAccess (s : State) (h : HalfId) (q : Req) (x : Access) : Answer × State :=
  let (a, b) := aliasOf x.addr
  match (s.half h).resolveAlias q x with
  | .error c => (.err, s.on h fun y => y.busFault q x c)
  | .ok l =>
    match (if l.reg.t then (s.half h).voted a else some (s.half h)) with
    | none => (.err, s.tmrFault h q x l.region)
    | some y =>
      let s0 := s.setHalf h y
      let old := s0.shown h l a
      if x.write then
        let s1 := (s0.on h fun z => z.intervene q l.block none).on h fun z => z.joinCopies a
        match l.reg.attr with
        | .rw => (.ok 0, s1.putReg h q l a (l.masked (setBits old b 1 (getBits x.data 0 1))))
        | .wo => (.ok 0, s1.storeWord h q l a (BitVec.ofNat 32 (getBits x.data 0 1 * 2 ^ b)))
        | _ => (.ok 0, s1)
      else (.ok (readLanes x.width x.addr (BitVec.ofNat 32 (getBits old b 1))), s0.on h fun z => z.clearRead l a (2 ^ b))

/-- An access below the partner window, at the half that it acts on. -/
def State.local_ (s : State) (h : HalfId) (q : Req) (x : Access) : Answer × State :=
  let s0 := s.on h fun y => y.dropHeldLo q x
  if 0x8000000 ≤ x.addr then s0.aliasAccess h q x else s0.direct h q x

/-- A half answers the other half's requests: running, Control up. -/
def Half.fabricUp (h : Half) : Bool := h.live && h.up .control

/-- An access in the partner window (R75 to R78): the partner applies every rule as to its partner-window requester; both
halves capture an error. -/
def State.window (s : State) (h : HalfId) (q : Req) (x : Access) : Answer × State :=
  let s0 := s.on h fun y => y.dropHeldLo q x
  let fail := fun (t : State) (c : Nat) => (Answer.err, t.on h fun y => y.busFault q x c)
  if 0x20000000 ≤ x.addr then fail s0 1
  else if !(s0.half h).linkUp then fail s0 7
  else if !(s0.half h.other).fabricUp then fail s0 0xB
  else
    match s0.local_ h.other .partner { x with addr := x.addr - 0x10000000 } with
    | (.err, t) => fail (t.on h.other fun y => y.complete .partner ⟨0, false⟩) 8
    | (.ok w, t) => (.ok w, t.on h.other fun y => y.complete .partner ⟨w, true⟩)
    | (.popped w, t) => (.ok w, t)
    | (.stalled, t) => (.ok 0, t)

/-- One access of at most 32 bits by a requester of half h, with its completion. -/
def State.access (s : State) (h : HalfId) (q : Req) (x : Access) : Answer × State :=
  match (if 0x10000000 ≤ x.addr then s.window h q x else s.local_ h q x) with
  | (.ok w, t) => (.ok w, t.on h fun y => y.complete q ⟨w, true⟩)
  | (.err, t) => (.err, t.on h fun y => y.complete q ⟨0, false⟩)
  | r => r

/-- The host port of a half is PCIe or QSPI by its strap (R38). -/
def Half.hostReq (h : Half) : Req := if h.pcieSelected then .pcie else .qspi

/-- The half takes requests of a requester: on PCIe while its link is up, on QSPI while that is selected (R38, R82). -/
def Half.answers (h : Half) (q : Req) : Bool :=
  h.fabricUp && (match q with
    | .pcie => h.pcieSelected && h.bit Adr.HOST_STATUS 0
    | .qspi => !h.pcieSelected
    | .partner => true
    | .mgmt => true)

/-! QSPI frames (R46 to R52). -/

/-- The frame in progress, or none. -/
def Half.setFrame (h : Half) (f : Option QspiFrame) : Half := { h with acc := { h.acc with frame := f } }

/-- The response after the sync byte: for a read N words, zeros from the failed one on, then status and CRC (R48, R50). -/
def Half.qspiReply (h : Half) (read : Bool) (total : Nat) (words : List Word) (code : Nat) : Half :=
  let data := if read then ((List.range total).map fun i => beBytes 4 (getAt words i 0).toNat).flatten else []
  let index := if code = 0 ∨ code = 3 then 0 else words.length
  let body := data ++ [BitVec.ofNat 8 (4 * index + code)]
  { h.setFrame none with acc := { h.acc with frame := none, qspiOut := body ++ [crc8 body] } }

/-- Performs the accesses of a frame in order; it stops at a bus error, and waits at a stalled pop (R50, R52). -/
def State.frameRun (s : State) (h : HalfId) (read : Bool) (total : Nat) : List (Nat × Word) → List Word → State
  | [], words => s.on h fun x => x.qspiReply read total words 0
  | (a, d) :: rest, words =>
    match s.access h .qspi ⟨a, .w32, !read, d, .ok⟩ with
    | (.ok w, t) => t.frameRun h read total rest (words ++ [w])
    | (.popped w, t) => t.frameRun h read total rest (words ++ [w])
    | (.err, t) => t.on h fun x => x.qspiReply read total words 1
    | (.stalled, t) => t.on h fun x => x.setFrame (some ⟨read, total, rest.map (·.1), rest.map (·.2), words⟩)

/-- A rejected frame (R51). -/
def Half.qspiReject (h : Half) (read : Bool) (total : Nat) : Half :=
  ((h.count Adr.HOST_QSPI_ERRCNT 0 16 1).event Adr.HOST_EVENT 1).qspiReply read total [] 3

/-- An abandoned frame (R51). -/
def Half.qspiAbandon (h : Half) : Half := (h.count Adr.HOST_QSPI_ERRCNT 16 16 1).event Adr.HOST_EVENT 2

/-- A frame by its bytes (R46, R47, R51). A WRITE_INC with other than N words is one that CS_n has cut short. -/
def State.frame (s : State) (h : HalfId) (cmd : Byte) (addr : Word) (count crc : Byte) (data : List Word) (dataCrc : Byte) :
    State :=
  let n := count.toNat % 64 + 1
  let read := cmd == 0x0B || cmd == 0x0E
  let head := [cmd] ++ beBytes 4 addr.toNat ++ [count]
  let bad := crc8 head != crc || !(read || cmd == 0x02) || decide (64 ≤ count.toNat) || (cmd == 0x0E && n % 2 == 1)
  let at_ := fun (i : Nat) => addr.toNat + 4 * (if cmd = 0x0E then i % 2 else i)
  if !(s.half h).answers .qspi || (s.half h).acc.frame.isSome || (s.half h).acc.host.stall.isSome then s
  else if bad then s.on h fun x => x.qspiReject read n
  else if read then s.frameRun h true n ((List.range n).map fun i => (at_ i, 0)) []
  else if data.length ≠ n then s.on h Half.qspiAbandon
  else if crc8 ((data.map fun w => beBytes 4 w.toNat).flatten) ≠ dataCrc then s.on h fun x => x.qspiReject false n
  else s.frameRun h false n (data.zipIdx.map fun p => (at_ p.2, p.1)) []

/-- Takes a stalled pop of a requester back: no item is removed (R52). -/
def Half.cancelPop (h : Half) (q : Req) : Half :=
  match (h.acc.port q).stall with
  | none => h
  | some k =>
    (h.setQueue k { h.queue k with waiters := (h.queue k).waiters.filter (· != q) }).onPort q fun p => { p with stall := none }

/-! Accesses that wait behind a stalled pop (R42). -/

/-- A frame whose stalled pop has completed goes on. -/
def State.resumeFrame (s : State) (h : HalfId) : State :=
  let x := s.half h
  match x.acc.frame with
  | some f =>
    if x.acc.host.stall.isSome then s
    else if x.acc.host.resp.ok then
      (s.on h fun y => y.setFrame none).frameRun h f.read f.total (f.todo.zip f.data) (f.words ++ [x.acc.host.resp.data])
    else s.on h fun y => y.qspiReply f.read f.total f.words 1
  | none => s

/-- Accesses that waited, in order, until one stalls. -/
def State.drainPort (s : State) (h : HalfId) (q : Req) : Nat → State
  | 0 => s
  | n + 1 =>
    let p := (s.half h).acc.port q
    match p.backlog with
    | [] => s
    | x :: rest =>
      if p.stall.isSome then s
      else (((s.on h fun y => y.onPort q fun r => { r with backlog := rest }).access h q x).2).drainPort h q n

/-- Lets what waited at a half go on. -/
def State.drain (s : State) (h : HalfId) : State :=
  let x := s.half h
  let s1 := (s.resumeFrame h).drainPort h x.hostReq x.acc.host.backlog.length
  s1.drainPort h .mgmt x.acc.mgmt.backlog.length

/-- Lets what waited at either half go on, first where a queue has just moved. -/
def State.settle (s : State) : State := ((s.drain .a).drain .b).drain .a

/-- Either performs an access or lets it wait behind a stalled pop of its requester (R42, R62). -/
def State.request (s : State) (h : HalfId) (q : Req) (x : Access) : State :=
  let p := (s.half h).acc.port q
  if p.stall.isSome || !p.backlog.isEmpty then s.on h fun y => y.onPort q fun r => { r with backlog := r.backlog ++ [x] }
  else (s.access h q x).2

/-- A request of a half's own requester; a half that does not answer leaves it without effect. A 64-bit access is two accesses
of 32 bits, low address first (R61). -/
def State.ask (s : State) (h : HalfId) (q : Req) (a : Nat) (w : Width) (write : Bool) (data : BitVec 64) (ecc : Ecc) : State :=
  if !(s.half h).answers q then s
  else
    let lo : Word := data.truncate 32
    let hi : Word := (data >>> 32).truncate 32
    let s0 := s.settle
    (match w with
      | .w64 => (s0.request h q ⟨a, .w32, write, lo, ecc⟩).request h q ⟨a + 4, .w32, write, hi, ecc⟩
      | _ => s0.request h q ⟨a, w, write, lo, ecc⟩).settle

/-- A request to half h; the partner-window requester of h stands for the host port of the other half (R75). -/
def State.issue (s : State) (h : HalfId) (q : Req) (a : Nat) (w : Width) (write : Bool) (data : BitVec 64) (ecc : Ecc) : State :=
  match q with
  | .partner => s.ask h.other (s.half h.other).hostReq (a + 0x10000000) w write data ecc
  | _ => s.ask h q a w write data ecc

/-- A 32-bit write request. -/
def State.write (s : State) (h : HalfId) (q : Req) (a : Nat) (v : Word) : State :=
  s.issue h q a .w32 true (v.setWidth 64) .ok

/-- A 32-bit read request. -/
def State.read (s : State) (h : HalfId) (q : Req) (a : Nat) (w : Width) : State := s.issue h q a w false 0 .ok

/-- A paired write carried through by one requester: VALUE, then its complement to CONFIRM (R67). A value that the requester
held pending at this slot is the one it now confirms. -/
def State.pairWrite (s : State) (h : HalfId) (q : Req) (slot : Nat) (v : Word) : State :=
  let s0 := if q = .partner then s else s.on h fun x => x.dropPending fun p => p.slot == slot && p.req == q
  (s0.write h q slot v).write h q (slot + 4) (~~~v)

end Sys2Proof.Machine
end

