-- ==== Sys2Proof/Machine/Access.lean ====
section
/-! DEFINITION. The commands that are accesses: QSPI frames, register accesses by kind, and the commands that the table names by
the register they write; with them the events of the fabric itself (R46 to R81). -/

namespace Sys2Proof.Machine

open Sys2Proof

/-- What a read of a word at a half would show: "the other bits as they stand" of a read-modify-write. -/
def State.asRead (s : State) (h : HalfId) (a : Nat) : Nat :=
  match locate a with
  | some l => (s.shown h l a).toNat
  | none => 0

/-- READ_INC (R46). -/
def execReadInc (h : HalfId) (cmd : Byte) (addr : Word) (count crc : Byte) (s : State) : Host.Outcome State Fault Refusal :=
  .next (s.frame h cmd addr count crc [] 0).settle

/-- READ_PAIR (R46). -/
def execReadPair (h : HalfId) (cmd : Byte) (addr : Word) (count crc : Byte) (s : State) : Host.Outcome State Fault Refusal :=
  .next (s.frame h cmd addr count crc [] 0).settle

/-- WRITE_INC (R46). -/
def execWriteInc (h : HalfId) (cmd : Byte) (addr : Word) (count crc : Byte) (data : List Word) (dataCrc : Byte) (s : State) :
    Host.Outcome State Fault Refusal :=
  .next (s.frame h cmd addr count crc data dataCrc).settle

/-- QSPI_ABORT: the frame is abandoned, a pop that still stalls with it; what it has done stands (R51). -/
def execQspiAbort (h : HalfId) (s : State) : Host.Outcome State Fault Refusal :=
  .next (s.on h fun x =>
    if !x.answers .qspi then x
    else
      let y := (if x.acc.frame.isSome then x.cancelPop .qspi else x).setFrame none
      { y.qspiAbandon with acc := { y.acc with qspiOut := [] } }).settle

/-- STALLTIMEOUT: the access that has not completed and the rest of the frame are abandoned (R50, R52). -/
def execStalltimeout (h : HalfId) (s : State) : Host.Outcome State Fault Refusal :=
  .next (s.on h fun x =>
    match x.acc.frame with
    | some f => (x.cancelPop .qspi).qspiReply f.read f.total f.words 2
    | none => x).settle

/-- REGISTER_WRITE (R61). -/
def execRegisterWrite (h : HalfId) (q : Req) (addr : Word) (w : Width) (data : BitVec 64) (s : State) :
    Host.Outcome State Fault Refusal :=
  .next (s.issue h q addr.toNat w true data .ok)

/-- RC_READ: a read; a clear-on-read register loses the bits returned (R58). -/
def execRcRead (h : HalfId) (q : Req) (addr : Word) (w : Width) (s : State) : Host.Outcome State Fault Refusal :=
  .next (s.read h q addr.toNat w)

/-- SHADOW_LO_READ (R63). -/
def execShadowLoRead (h : HalfId) (q : Req) (addr : Word) (s : State) : Host.Outcome State Fault Refusal :=
  .next (s.read h q addr.toNat .w32)

/-- HELD_LO_WRITE (R64). -/
def execHeldLoWrite (h : HalfId) (q : Req) (addr data : Word) (s : State) : Host.Outcome State Fault Refusal :=
  .next (s.write h q addr.toNat data)

/-- HI_WRITE (R64). -/
def execHiWrite (h : HalfId) (q : Req) (addr data : Word) (s : State) : Host.Outcome State Fault Refusal :=
  .next (s.write h q addr.toNat data)

/-- PAIRED_VALUE_WRITE (R67). -/
def execPairedValueWrite (h : HalfId) (q : Req) (addr data : Word) (s : State) : Host.Outcome State Fault Refusal :=
  .next (s.write h q addr.toNat data)

/-- PAIRED_CONFIRM (R67). -/
def execPairedConfirm (h : HalfId) (q : Req) (addr data : Word) (s : State) : Host.Outcome State Fault Refusal :=
  .next (s.write h q addr.toNat data)

/-- CONFIRM_WINDOW_EXPIRY: the pending value is discarded with cause 0x3 (R68). -/
def execConfirmWindowExpiry (h : HalfId) (q : Req) (slot : Word) (s : State) : Host.Outcome State Fault Refusal :=
  .next (s.on h fun x =>
    let mine := fun (p : PwPending) => p.slot == slot.toNat && p.req == q
    if x.acc.pw.any mine then (x.dropPending mine).pwFail q slot.toNat 3 else x)

/-- One upset of a copy of a triplicated word (R71): copy 0 is the value in `regs`. -/
def Half.upset (h : Half) (a copy : Nat) (v : Word) : Half :=
  match locate a with
  | none => h
  | some l =>
    if !l.reg.t || l.confirm then h
    else
      let (x, y, z) := h.copies3 a
      let w := l.masked v
      let put := fun (k : Half) (p : Word × Word) => { k with acc := { k.acc with copies := insertAt a p k.acc.copies } }
      match copy with
      | 0 => put (h.wr a w) (y, z)
      | 1 => put h (w, z)
      | _ => put (h.wr a x) (y, w)

/-- The scrub of one triplicated word (R71). -/
def State.scrubWord (s : State) (h : HalfId) (a : Nat) : State :=
  match (s.half h).voted a, locate a with
  | some x, _ => s.setHalf h x
  | none, some l => (s.on h fun x => (x.tmrDisagree l.region).settleControl).lines
  | none, none => s

/-- TMR_SCRUB: the scrub compares the copies of every triplicated field (R71). -/
def execTmrScrub (h : HalfId) (upset : List (Word × Fin 3 × Word)) (s : State) : Host.Outcome State Fault Refusal :=
  .next (if !(s.half h).live then s
    else
      let s1 := s.on h fun x => upset.foldl (fun (y : Half) p => y.upset p.1.toNat p.2.1.val p.2.2) x
      ((s1.half h).acc.copies.map fun p => p.1).foldl (fun (t : State) a => t.scrubWord h a) s1)

/-- ALIAS_READ (R74). -/
def execAliasRead (h : HalfId) (q : Req) (addr : Word) (s : State) : Host.Outcome State Fault Refusal :=
  .next (s.read h q addr.toNat .w32)

/-- ALIAS_WRITE (R74). -/
def execAliasWrite (h : HalfId) (q : Req) (addr data : Word) (s : State) : Host.Outcome State Fault Refusal :=
  .next (s.write h q addr.toNat data)

/-- PARTNER_WINDOW_ACCESS (R75). -/
def execPartnerWindowAccess (h : HalfId) (q : Req) (addr : Word) (w : Width) (write : Bool) (data : Word) (s : State) :
    Host.Outcome State Fault Refusal :=
  .next (s.issue h q addr.toNat w write (data.setWidth 64) .ok)

/-- PARTNER_TIMEOUT: the access in the partner window ends in a bus error with cause 0xB (R77). -/
def execPartnerTimeout (h : HalfId) (q : Req) (addr : Word) (write : Bool) (s : State) : Host.Outcome State Fault Refusal :=
  .next (s.on h fun x =>
    if x.answers q then (x.busError q addr.toNat .w32 write 0xB).complete q ⟨0, false⟩ else x)

/-! Network. -/

/-- MAC_MODE_CHANGE (R86). -/
def execMacModeChange (h : HalfId) (q : Req) (p : PortId) (ctrl : Word) (s : State) : Host.Outcome State Fault Refusal :=
  .next (s.write h q (Adr.MAC_CTRL p) ctrl)

/-- MDIO_C22_WRITE (R88). -/
def execMdioC22Write (h : HalfId) (q : Req) (p : PortId) (phy reg : Fin 32) (data : BitVec 16) (s : State) :
    Host.Outcome State Fault Refusal :=
  .next (s.write h q (Adr.MAC_MDIO_CMD p) (mdioWord 0 1 phy reg data.toNat))

/-- MDIO_C22_READ (R88). -/
def execMdioC22Read (h : HalfId) (q : Req) (p : PortId) (phy reg : Fin 32) (s : State) : Host.Outcome State Fault Refusal :=
  .next (s.write h q (Adr.MAC_MDIO_CMD p) (mdioWord 0 2 phy reg 0))

/-- MDIO_C45_ADDRESS (R88). -/
def execMdioC45Address (h : HalfId) (q : Req) (p : PortId) (phy dev : Fin 32) (addr : BitVec 16) (s : State) :
    Host.Outcome State Fault Refusal :=
  .next (s.write h q (Adr.MAC_MDIO_CMD p) (mdioWord 1 0 phy dev addr.toNat))

/-- MDIO_C45_WRITE (R88). -/
def execMdioC45Write (h : HalfId) (q : Req) (p : PortId) (phy dev : Fin 32) (data : BitVec 16) (s : State) :
    Host.Outcome State Fault Refusal :=
  .next (s.write h q (Adr.MAC_MDIO_CMD p) (mdioWord 1 1 phy dev data.toNat))

/-- MDIO_C45_READ (R88). -/
def execMdioC45Read (h : HalfId) (q : Req) (p : PortId) (phy dev : Fin 32) (s : State) : Host.Outcome State Fault Refusal :=
  .next (s.write h q (Adr.MAC_MDIO_CMD p) (mdioWord 1 3 phy dev 0))

/-- MDIO_C45_POST_READ_INCREMENT (R88). -/
def execMdioC45PostReadIncrement (h : HalfId) (q : Req) (p : PortId) (phy dev : Fin 32) (s : State) :
    Host.Outcome State Fault Refusal :=
  .next (s.write h q (Adr.MAC_MDIO_CMD p) (mdioWord 1 2 phy dev 0))

/-- EEE_TW_WRITE (R110). -/
def execEeeTwWrite (h : HalfId) (q : Req) (p : PortId) (us : BitVec 16) (s : State) : Host.Outcome State Fault Refusal :=
  .next (s.write h q (Adr.MAC_EEE_TW p) (us.setWidth 32))

/-- RING_TAIL_WRITE: software places descriptors from the old TAIL on, then writes TAIL (R113). -/
def execRingTailWrite (h : HalfId) (q : Req) (p : PortId) (ring : RingId) (tail : BitVec 12) (descs : List (List Word)) (s : State) :
    Host.Outcome State Fault Refusal :=
  .next ((s.on h fun x =>
    x.onRing p ring.tx ring.r fun m => m.place (x.ringSize p ring.tx ring.r) (x.ringTail p ring.tx ring.r) descs).write h q
      (ringAdr p ring.tx ring.r 0x10) (tail.setWidth 32))

/-- RING_ENABLE: EN written 1, the other bits of CTRL as they stand (R125). -/
def execRingEnable (h : HalfId) (q : Req) (p : PortId) (ring : RingId) (s : State) : Host.Outcome State Fault Refusal :=
  let a := ringAdr p ring.tx ring.r 0xC
  .next (s.write h q a (BitVec.ofNat 32 (s.asRead h a ||| 1)))

/-- MAC_CLUSTER_REINIT (R126). -/
def execMacClusterReinit (h : HalfId) (q : Req) (s : State) : Host.Outcome State Fault Refusal :=
  .next (s.write h q Adr.MACC_CTRL 1)

/-! Units and clusters. -/

/-- UNIT_ENABLE_CHANGE (R23). -/
def execUnitEnableChange (h : HalfId) (q : Req) (ctrl : Word) (en : Bool) (s : State) : Host.Outcome State Fault Refusal :=
  .next (s.write h q ctrl.toNat (setBits (BitVec.ofNat 32 (s.asRead h ctrl.toNat)) 0 1 (ofBool en)))

/-- FLOW_CLUSTER_REINIT (R170). -/
def execFlowClusterReinit (h : HalfId) (q : Req) (tx : Bool) (c : Fin 8) (s : State) : Host.Outcome State Fault Refusal :=
  .next (s.write h q (if tx then Adr.FTXC_CTRL c else Adr.FRXC_CTRL c) 1)

/-- ENGINE_DISABLE (R255). -/
def execEngineDisable (h : HalfId) (q : Req) (e : Fin 8) (s : State) : Host.Outcome State Fault Refusal :=
  .next (s.write h q (Adr.ENG_CTRL e) 0)

/-- ENGINE_ENABLE (R250). -/
def execEngineEnable (h : HalfId) (q : Req) (e : Fin 8) (s : State) : Host.Outcome State Fault Refusal :=
  .next (s.write h q (Adr.ENG_CTRL e) 1)

/-- ENGINE_CLUSTER_REINIT (R260). -/
def execEngineClusterReinit (h : HalfId) (q : Req) (c : Fin 2) (s : State) : Host.Outcome State Fault Refusal :=
  .next (s.write h q (Adr.ENGC_CTRL c) 1)

/-- TDM_CLUSTER_REINIT (R338). -/
def execTdmClusterReinit (h : HalfId) (q : Req) (s : State) : Host.Outcome State Fault Refusal :=
  .next (s.write h q Adr.TDMC_CTRL 1)

/-- SENSE_CLUSTER_REINIT (R414). -/
def execSenseClusterReinit (h : HalfId) (q : Req) (c : Fin 5) (s : State) : Host.Outcome State Fault Refusal :=
  .next (s.write h q (Adr.SNSC_CTRL c) 1)

/-- QUEUE_CLUSTER_REINIT (R437). -/
def execQueueClusterReinit (h : HalfId) (q : Req) (c : Fin 4) (s : State) : Host.Outcome State Fault Refusal :=
  .next (s.write h q (Adr.QC_CTRL c) 1)

/-- A fault of the shared control state of the cluster with this page (R24): of the MAC cluster both ports stop, of the others as
their chapters say. An amplifier cluster has no such fault (R24). -/
def Half.clusterFault (h : Half) (page : Nat) : Half :=
  match locate (page + 4) with
  | none => h
  | some l =>
    let runs := h.live && h.up l.region
    if !runs || l.block != page then h
    else
      match l.reg.hook with
      | .frxcCtrl => h.flowClusterFault false l.i
      | .ftxcCtrl => h.flowClusterFault true l.i
      | .engcCtrl => h.engineClusterFault l.i
      | .tdmcCtrl => h.tdmClusterFault
      | .snscCtrl => h.senseClusterFault ((page - 0xB1060) / 0x800)
      | .qcCtrl => h.queueClusterFault l.i
      | .maccCtrl => h.each [0, 1] fun x p => x.macStop p
      | _ => h

/-- CLUSTER_SHARED_STATE_FAULT (R24). -/
def execClusterSharedStateFault (h : HalfId) (page : Word) (s : State) : Host.Outcome State Fault Refusal :=
  .next ((s.on h fun x => x.clusterFault page.toNat).psen).settle

/-! Timing. -/

/-- LOOP_OPEN (R194). -/
def execLoopOpen (h : HalfId) (q : Req) (s : State) : Host.Outcome State Fault Refusal := .next (s.pairWrite h q Adr.TIM_MPLL_OPEN 1)

/-- LOOP_CLOSE (R194). -/
def execLoopClose (h : HalfId) (q : Req) (s : State) : Host.Outcome State Fault Refusal := .next (s.pairWrite h q Adr.TIM_MPLL_OPEN 0)

/-- SW_FREQ_SET (R194). -/
def execSwFreqSet (h : HalfId) (q : Req) (v : BitVec 32) (s : State) : Host.Outcome State Fault Refusal :=
  .next (s.pairWrite h q Adr.TIM_SW_FREQ v)

/-- SWREF_PHASE_WRITE (R195). -/
def execSwrefPhaseWrite (h : HalfId) (q : Req) (v : BitVec 32) (s : State) : Host.Outcome State Fault Refusal :=
  .next (s.write h q Adr.TIM_SWREF_PHASE v)

/-- PTP_CFG_WRITE (R202). -/
def execPtpCfgWrite (h : HalfId) (q : Req) (p : PortId) (v : BitVec 32) (s : State) : Host.Outcome State Fault Refusal :=
  .next (s.write h q (Adr.TIM_PTP_CFG p) v)

/-! Graph and alarms. -/

/-- PLAN_SUBMIT (R223). -/
def execPlanSubmit (h : HalfId) (q : Req) (s : State) : Host.Outcome State Fault Refusal := .next (s.write h q Adr.GRF_COMMIT 1)

/-- LEVEL_CMD_ON (R217). -/
def execLevelCmdOn (h : HalfId) (q : Req) (level : Fin 16) (zone : BitVec 8) (s : State) : Host.Outcome State Fault Refusal :=
  .next (s.write h q Adr.GRF_LEVEL_CMD (BitVec.ofNat 32 (0x80000000 + 0x10000 * level + zone.toNat)))

/-- LEVEL_CMD_OFF (R217). -/
def execLevelCmdOff (h : HalfId) (q : Req) (level : Fin 16) (zone : BitVec 8) (s : State) : Host.Outcome State Fault Refusal :=
  .next (s.write h q Adr.GRF_LEVEL_CMD (BitVec.ofNat 32 (0x10000 * level + zone.toNat)))

/-- ISSUER_CFG_WRITE (R270). -/
def execIssuerCfgWrite (h : HalfId) (q : Req) (i : Fin 16) (v : BitVec 32) (s : State) : Host.Outcome State Fault Refusal :=
  .next (s.write h q (Adr.ALM_ISSUER_CFG i) v)

/-- KEY_LOAD (R282). -/
def execKeyLoad (h : HalfId) (q : Req) (slot : Fin 8) (s : State) : Host.Outcome State Fault Refusal :=
  .next (s.pairWrite h q Adr.ALM_KEY_LOAD (BitVec.ofNat 32 slot))

/-- KEY_ERASE (R282). -/
def execKeyErase (h : HalfId) (q : Req) (slot : Fin 8) (s : State) : Host.Outcome State Fault Refusal :=
  .next (s.pairWrite h q Adr.ALM_KEY_LOAD (BitVec.ofNat 32 (0x80000000 + slot)))

/-! Memory and message store. -/

/-- PARTITION_CHANGE (R290). -/
def execPartitionChange (h : HalfId) (q : Req) (b c : BitVec 8) (s : State) : Host.Outcome State Fault Refusal :=
  .next (s.pairWrite h q Adr.MEM_PARTITION (BitVec.ofNat 32 (0x100 * b.toNat + c.toNat)))

/-- XFER_TO_STAGING (R293). -/
def execXferToStaging (h : HalfId) (q : Req) (pio : Bool) (s : State) : Host.Outcome State Fault Refusal :=
  .next (s.write h q Adr.MEM_XFER_CTRL (BitVec.ofNat 32 (0x80000000 + 4 * ofBool pio)))

/-- XFER_BANK_READ (R293). -/
def execXferBankRead (h : HalfId) (q : Req) (pio : Bool) (s : State) : Host.Outcome State Fault Refusal :=
  .next (s.write h q Adr.MEM_XFER_CTRL (BitVec.ofNat 32 (0x80000001 + 4 * ofBool pio)))

/-- XFER_RECORDER_READ (R293). -/
def execXferRecorderRead (h : HalfId) (q : Req) (pio : Bool) (s : State) : Host.Outcome State Fault Refusal :=
  .next (s.write h q Adr.MEM_XFER_CTRL (BitVec.ofNat 32 (0x80000002 + 4 * ofBool pio)))

/-- XFER_DATA_ACCESS (R293). -/
def execXferDataAccess (h : HalfId) (q : Req) (write : Bool) (data : Word) (s : State) : Host.Outcome State Fault Refusal :=
  .next (if write then s.write h q Adr.MEM_XFER_DATA data else s.read h q Adr.MEM_XFER_DATA .w32)

/-- LIB_COMMIT (R299). -/
def execLibCommit (h : HalfId) (q : Req) (count : Fin 8192) (s : State) : Host.Outcome State Fault Refusal :=
  .next (s.pairWrite h q Adr.MSG_LIB_COMMIT (BitVec.ofNat 32 count))

/-- BULK_COPY_GO (R304). -/
def execBulkCopyGo (h : HalfId) (q : Req) (s : State) : Host.Outcome State Fault Refusal := .next (s.write h q Adr.MSG_BULK_CTRL 1)

/-! Amplifiers and sense chain. -/

/-- CHANNEL_CLEAR (R357). -/
def execChannelClear (h : HalfId) (q : Req) (k : Fin 32) (s : State) : Host.Outcome State Fault Refusal :=
  .next (s.write h q (Adr.AMP_CTRL k) (BitVec.ofNat 32 (s.asRead h (Adr.AMP_CTRL k) ||| 4)))

/-- CLUSTER_RESET (R367). -/
def execClusterReset (h : HalfId) (q : Req) (c : Fin 4) (s : State) : Host.Outcome State Fault Refusal :=
  .next (s.write h q (Adr.AMPC_CTRL c) 1)

/-- PROFILE_APPLY (R388); only profiles 0 to 6 have an APPLY register. -/
def execProfileApply (h : HalfId) (q : Req) (j : Fin 8) (s : State) : Host.Outcome State Fault Refusal :=
  .next (if j.val < 7 then s.write h q (Adr.SFE_PROF_APPLY j) 1 else s)

/-- PROFILE_SYNC (R395). -/
def execProfileSync (h : HalfId) (q : Req) (mask : BitVec 7) (s : State) : Host.Outcome State Fault Refusal :=
  .next (s.write h q Adr.SFE_SYNC (mask.setWidth 32))

/-- SNS_PROFILE_WRITE (R389). -/
def execSnsProfileWrite (h : HalfId) (q : Req) (sn : Fin 80) (p : Fin 8) (s : State) : Host.Outcome State Fault Refusal :=
  .next (s.write h q (Adr.SNS_CTRL sn) (setBits (BitVec.ofNat 32 (s.asRead h (Adr.SNS_CTRL sn))) 1 3 p))

/-- The `LSP_CMD` word of an operation (R404). -/
def lspWord (op : Nat) (all : Bool) (k : Nat) : Word := BitVec.ofNat 32 (0x80000000 + 0x10000000 * op + 0x100 * ofBool all + k)

/-- BASELINE_CAPTURE (R404). -/
def execBaselineCapture (h : HalfId) (q : Req) (all : Bool) (k : Fin 32) (s : State) : Host.Outcome State Fault Refusal :=
  .next (s.write h q Adr.SFE_LSP_CMD (lspWord 0 all k))

/-- BASELINE_CLEAR (R404). -/
def execBaselineClear (h : HalfId) (q : Req) (all : Bool) (k : Fin 32) (s : State) : Host.Outcome State Fault Refusal :=
  .next (s.write h q Adr.SFE_LSP_CMD (lspWord 1 all k))

/-- CAPTURE_ABORT (R404). -/
def execCaptureAbort (h : HalfId) (q : Req) (all : Bool) (k : Fin 32) (s : State) : Host.Outcome State Fault Refusal :=
  .next (s.write h q Adr.SFE_LSP_CMD (lspWord 2 all k))

/-! Queues. -/

/-- PACKET_PUSH (R427). -/
def execPacketPush (h : HalfId) (queue : Fin 64) (items : List (BitVec 56)) (s : State) : Host.Outcome State Fault Refusal :=
  .next (s.on h fun x => x.graphPush queue (items.map fun d => d.toNat)).settle

/-- HOST_PUSH (R422). -/
def execHostPush (h : HalfId) (q : Req) (queue : Fin 64) (data : Word) (s : State) : Host.Outcome State Fault Refusal :=
  .next (s.write h q (Adr.Q_PUSH_HI queue) data)

/-- POP (R423). -/
def execPop (h : HalfId) (q : Req) (queue : Fin 64) (ecc : Ecc) (s : State) : Host.Outcome State Fault Refusal :=
  .next (s.issue h q (Adr.Q_POP_LO queue) .w32 false 0 ecc)

/-- STALL_TIMEOUT: the pop returns 0 and removes no item (R424). -/
def execStallTimeout (h : HalfId) (q : Req) (queue : Fin 64) (s : State) : Host.Outcome State Fault Refusal :=
  .next (s.on h fun x =>
    if (x.acc.port q).stall = some queue.val then (x.cancelPop q).finishPop q queue 0 else x).settle

/-- HELD_MARKER_WRITE (R427). -/
def execHeldMarkerWrite (h : HalfId) (queue : Fin 64) (s : State) : Host.Outcome State Fault Refusal :=
  .next (s.on h fun x => if x.up .memory then (x.writeHeld queue).serveStall queue else x).settle

/-- QUEUE_ENABLE (R420). -/
def execQueueEnable (h : HalfId) (q : Req) (queue : Fin 64) (s : State) : Host.Outcome State Fault Refusal :=
  .next (s.write h q (Adr.Q_CTRL queue) 1)

/-- QUEUE_DISABLE (R420). -/
def execQueueDisable (h : HalfId) (q : Req) (queue : Fin 64) (s : State) : Host.Outcome State Fault Refusal :=
  .next (s.write h q (Adr.Q_CTRL queue) 0)

/-- QUEUE_FLUSH: FLUSH with EN as it stands (R433). -/
def execQueueFlush (h : HalfId) (q : Req) (queue : Fin 64) (s : State) : Host.Outcome State Fault Refusal :=
  .next (s.write h q (Adr.Q_CTRL queue) (BitVec.ofNat 32 (2 + ofBool ((s.half h).bit (Adr.Q_CTRL queue) 0))))

/-- QUEUE_LINK_ERROR: a unit fault of one queue, or a failure of the Memory region (R431). -/
def execQueueLinkError (h : HalfId) (queue : Option (Fin 64)) (s : State) : Host.Outcome State Fault Refusal :=
  .next ((s.on h fun x =>
    if !x.live || !x.up .memory then x
    else
      match queue with
      | some k => if x.queueOn k && x.queuePool k then x.queueLinkFault k else x
      | none => ((x.event Adr.QM_EVENT 0).latch Adr.QM_FAULT 1).failRegion .memory).lines).settle

/-! Events. -/

/-- A write of the low or the high word of a 64-bit register as a whole value: LO, which waits for HI, is followed by a HI of 0
(R64). -/
def State.writeWide (s : State) (h : HalfId) (q : Req) (a : Nat) (hi : Bool) (v : Word) : State :=
  if hi then s.write h q (a + 4) v else (s.write h q a v).write h q (a + 4) 0

/-- REARM (R511). -/
def execRearm (h : HalfId) (q : Req) (hi : Bool) (mask : Word) (s : State) : Host.Outcome State Fault Refusal :=
  .next (s.writeWide h q (Adr.EVT_REARM 0) hi mask)

/-- FORCE (R514). -/
def execForce (h : HalfId) (q : Req) (hi : Bool) (mask : Word) (s : State) : Host.Outcome State Fault Refusal :=
  .next (s.writeWide h q (Adr.EVT_FORCE 0) hi mask)

/-! Reset, role and boot. -/

/-- REGION_RESET (R17). -/
def execRegionReset (h : HalfId) (q : Req) (mask : BitVec 8) (s : State) : Host.Outcome State Fault Refusal :=
  .next (s.pairWrite h q Adr.DIE_RESET_CTRL (mask.setWidth 32))

/-- WARM_RESET (R530). -/
def execWarmReset (h : HalfId) (q : Req) (s : State) : Host.Outcome State Fault Refusal :=
  .next (s.pairWrite h q Adr.DIE_RESET_CTRL 0x80000000)

/-- HANDOVER (R466). -/
def execHandover (h : HalfId) (q : Req) (s : State) : Host.Outcome State Fault Refusal := .next (s.pairWrite h q Adr.RDN_ROLE_CTRL 1)

/-- ISOLATE (R442). -/
def execIsolate (h : HalfId) (q : Req) (s : State) : Host.Outcome State Fault Refusal := .next (s.pairWrite h q Adr.RDN_ROLE_CTRL 2)

/-- RESTORE (R442). -/
def execRestore (h : HalfId) (q : Req) (s : State) : Host.Outcome State Fault Refusal := .next (s.pairWrite h q Adr.RDN_ROLE_CTRL 3)

/-- KILL_RELEASE: RELEASE with KILL_EN as it stands (R455). -/
def execKillRelease (h : HalfId) (q : Req) (s : State) : Host.Outcome State Fault Refusal :=
  .next (s.pairWrite h q Adr.RDN_KILL_CTRL (BitVec.ofNat 32 (2 + (s.half h).get Adr.RDN_KILL_CTRL 0 1)))

/-- KILL_ENABLE (R454). -/
def execKillEnable (h : HalfId) (q : Req) (en : Bool) (s : State) : Host.Outcome State Fault Refusal :=
  .next (s.pairWrite h q Adr.RDN_KILL_CTRL (BitVec.ofNat 32 (ofBool en)))

/-- FLASH_ERASE (R536). -/
def execFlashErase (h : HalfId) (q : Req) (s : State) : Host.Outcome State Fault Refusal := .next (s.write h q Adr.DIE_FLASH_CMD 1)

/-- FLASH_PROGRAM (R536). -/
def execFlashProgram (h : HalfId) (q : Req) (s : State) : Host.Outcome State Fault Refusal := .next (s.write h q Adr.DIE_FLASH_CMD 2)

/-- FLASH_DATA_ACCESS (R536). -/
def execFlashDataAccess (h : HalfId) (q : Req) (write : Option Word) (s : State) : Host.Outcome State Fault Refusal :=
  .next (match write with
    | some v => s.write h q Adr.DIE_FLASH_DATA v
    | none => s.read h q Adr.DIE_FLASH_DATA .w32)

/-- SELECT (R537). -/
def execSelect (h : HalfId) (q : Req) (slot : Bool) (s : State) : Host.Outcome State Fault Refusal :=
  .next (s.pairWrite h q Adr.DIE_BOOT_CTRL (BitVec.ofNat 32 (0x10000000 + ofBool slot)))

/-- SAVE_CONFIG (R539). -/
def execSaveConfig (h : HalfId) (q : Req) (s : State) : Host.Outcome State Fault Refusal :=
  .next (s.pairWrite h q Adr.DIE_BOOT_CTRL 0x20000000)

/-- ERASE_CONFIG (R537). -/
def execEraseConfig (h : HalfId) (q : Req) (s : State) : Host.Outcome State Fault Refusal :=
  .next (s.pairWrite h q Adr.DIE_BOOT_CTRL 0x30000000)

/-- SAVE_LIBRARY (R538). -/
def execSaveLibrary (h : HalfId) (q : Req) (s : State) : Host.Outcome State Fault Refusal :=
  .next (s.pairWrite h q Adr.DIE_BOOT_CTRL 0x40000000)

/-- ERASE_RETIREMENTS (R537). -/
def execEraseRetirements (h : HalfId) (q : Req) (s : State) : Host.Outcome State Fault Refusal :=
  .next (s.pairWrite h q Adr.DIE_BOOT_CTRL 0x50000000)

/-- RAISE_FLOOR (R537). -/
def execRaiseFloor (h : HalfId) (q : Req) (s : State) : Host.Outcome State Fault Refusal :=
  .next (s.pairWrite h q Adr.DIE_BOOT_CTRL 0x60000000)

/-- What a completed `BOOT_CTRL` operation has done (R535, R537 to R539). -/
def Half.bootDone (h : Half) (op : BootOp) : Half :=
  match op with
  | .idle => h
  | .select slot => { h with boot := { h.boot with selector := ⟨slot, true, false⟩ } }
  | .saveConfig => h.saveConfigBank
  | .eraseConfig => { h with boot := { h.boot with
      cfg0 := { h.boot.cfg0 with valid := false }, cfg1 := { h.boot.cfg1 with valid := false } } }
  | .saveLibrary => h.saveLibraryImage
  | .eraseRetirements => { h with boot := { h.boot with erased := some h.boot.retired } }
  | .raiseFloor =>
    let f := max h.boot.floor h.boot.security
    { h with boot := { h.boot with floor := f } }.put Adr.DIE_BOOT_STATUS 10 6 f

/-- What a failed operation leaves: of a SAVE_LIBRARY no library image, since its header goes first and comes last (R538);
of any other, whether it took effect is open (log entry 1). -/
def Half.bootFailed (h : Half) (op : BootOp) : Half :=
  match op with
  | .saveLibrary => { h with boot := h.boot.eraseSector 0x3000000 }
  | _ =>
    let (b, h1) := h.fresh 1
    if b = 1 then h1.bootDone op else h1

/-- BOOT_OPERATION_COMPLETE (R537, R546). -/
def execBootOperationComplete (h : HalfId) (ok : Bool) (s : State) : Host.Outcome State Fault Refusal :=
  .next (s.on h fun x =>
    if !x.bootBusy then x
    else
      let y := { x with boot := { x.boot with bootOp := .idle } }
      if ok then (y.bootDone x.boot.bootOp).opState 2 else (y.bootFailed x.boot.bootOp).opState 3)

end Sys2Proof.Machine
end

