-- ==== Sys2Proof/Machine/Mirror.lean ====
section
/-! DEFINITION. The mirror stream and the compare digests (R469 to R475, R623): what a standby takes from the active half, the
full resync pass, the comparison of digests. Values that wait for a block boundary (R20) take effect here as well. -/

namespace Sys2Proof.Machine

open Sys2Proof

/-! Values that take effect at a block boundary (R20, R330, R342, R363, R376). -/

/-- The TDM port whose `CTRL` or `CFG` stands at an address (R330). -/
def tdmSetting (a : Nat) : Option Nat := (instAt (Adr.TDM_CTRL 0) 0x400 8 a).or (instAt (Adr.TDM_CFG 0) 0x400 8 a)

/-- A held value is stored; of the registers that act, CTRL of a channel, of a cluster and of a sense channel act here. -/
def Half.storeHeld (h : Half) (a : Nat) (v : Word) : Half :=
  if let some k := instAt (Adr.AMP_CTRL 0) 0x200 32 a then h.ampCtrl k v
  else if let some c := instAt (Adr.AMPC_CTRL 0) 0x100 4 a then (if bitAt v 0 then h.ampClusterInit c else h)
  else if let some s := instAt (Adr.SNS_CTRL 0) 0x80 80 a then h.snsCtrl s v
  else h.wr a v

/-- What follows from a changed setting once every value is stored: ports restart, carriers and bus ranges change. -/
def Half.heldEffects (h : Half) (ports : List Nat) (as : List Nat) : Half :=
  let h1 := h.each ports Half.tdmRestart
  h1.each as fun x a =>
    if let some c := instAt (Adr.AMPC_CFG 0) 0x100 4 a then x.carrierChange c
    else if let some c := instAt (Adr.AMPC_BUS_LIMITS 0) 0x100 4 a then x.busLimitsChange c
    else x

/-- Values of data-plane fields take effect together at a block boundary (R20). -/
def Half.applyHeld (h : Half) (vs : List (Nat × Word)) : Half :=
  let ports := ((vs.filter fun p => h.rd p.1 != p.2).filterMap fun p => tdmSetting p.1).dedup
  (vs.foldl (fun (x : Half) p => x.storeHeld p.1 p.2) h).heldEffects ports ((vs.filter fun p => h.rd p.1 != p.2).map fun p => p.1)

/-- Step 3 of R21: the held writes. Values that wait for a plan commit stay. -/
def Half.takeHeld (h : Half) : Half :=
  let due := h.held.filter fun p => !waitsForPlan p.1
  { h with held := h.held.filter fun p => waitsForPlan p.1 }.applyHeld due

/-! One mirrored item, taken from the active half. -/

/-- The value written last to a held field of the active half, without the bits that act once. -/
def Half.mirroredHeld (act : Half) (a : Nat) : Word :=
  if (instAt (Adr.AMP_CTRL 0) 0x200 32 a).isSome then BitVec.ofNat 32 ((act.staged a).toNat % 4) else act.staged a

/-- A staged field outside the graph banks: what waits on the active half waits here (R224). -/
def Half.takeWaiting (h act : Half) (a : Nat) : Half :=
  if act.staged a = h.rd a then { h with held := eraseAt a h.held } else h.stage a (act.staged a)

/-- A key slot of the active half (R282, R469). -/
def Half.takeKey (h act : Half) : Half :=
  let slot := act.get Adr.ALM_KEY_LOAD 0 3
  ({ h with keys := setAt h.keys slot (getAt act.keys slot []) }.putBit Adr.ALM_KEY_STATUS slot
    (act.bit Adr.ALM_KEY_STATUS slot)).wr Adr.ALM_KEY_LOAD (act.rd Adr.ALM_KEY_LOAD)

/-- A mirrored write of an M field at an address (R72, R469). The writes that only act (commands of hosts, levels and lines)
bring nothing of their own: what they change is mirrored as state (R279). -/
def State.takeField (s : State) (h : HalfId) (a : Nat) : State :=
  let act := s.half h.other
  match locate a with
  | none => s
  | some l =>
    if !l.reg.m || l.confirm then s
    else
      match l.reg.cls with
      | .held => s.on h fun x => { x with held := eraseAt a x.held }.applyHeld [(a, act.mirroredHeld a)]
      | .staged => s.on h fun x => if inStagingBank a then x.wr a (act.rd a) else x.takeWaiting act a
      | .imm =>
        match l.reg.hook with
        | .levelCmd | .cmdGo | .lspCmd => s
        | .sfeSync => s.on h fun x => x.writeSync (maskOf 7 fun j => (act.prof j).syncDue || (act.prof j).block == act.age)
        | .keyLoad => s.on h fun x => x.takeKey act
        | .keyData => s.on h fun x => x.wr a (act.rd a)
        | .profApply => s.putReg h .partner l a 1
        | _ => if l.reg.attr = .ro then s.on h fun x => x.wr a (act.rd a) else s.putReg h .partner l a (act.rd a)

/-- A zone of the active half's arbiter, its VOX instants in the ages of this half. -/
def ZoneSt.shift (z : ZoneSt) (mine its : Nat) : ZoneSt := { z with vox := z.vox.map fun v => (v.1, mine + v.2 - its) }

/-- Sample frames at 48 kHz by which the active half's state lies behind this half's block (R470). -/
def Half.ahead (h act : Half) : Nat := 6 * (h.block - act.block)

/-- Player positions, moved on by the blocks that the item has missed (R307, R470). -/
def Half.takePlayers (h act : Half) : Half :=
  let d := h.ahead act
  let h1 := h.onGraph fun g => { g with
    players := act.graph.players.map fun p => (p.1, { p.2 with pos := p.2.pos + d })
    tones := act.graph.tones.map fun t => (t.1, { t.2 with pos := t.2.pos + d * act.blockLen / 6 }) }
  (h1.each (List.range 64) fun x p => x.wr (Adr.MSG_PLAYER p) (act.rd (Adr.MSG_PLAYER p))).showBankBusy

/-- The arbiter's state: feeds, control states, mute levels, players, action entry flags (R216, R279). -/
def Half.takeArbiter (h act : Half) : Half :=
  let h1 := h.onGraph fun g => { g with zones := act.graph.zones.map fun z => (z.1, z.2.shift h.age act.age) }
  (h1.takePlayers act).onAlarm fun x => { x with flags := act.alarm.flags }

/-- `LAST_SEQ` of an issuer and the frame that it stands for; held commands it covers are discarded (R270, R279). -/
def Half.takeLastSeq (h act : Half) (i : Nat) : Half :=
  let h1 := (h.wr (Adr.ALM_ISSUER_LAST_SEQ i) (act.rd (Adr.ALM_ISSUER_LAST_SEQ i))).putBit (Adr.ALM_ISSUER_CFG i) 30
    (act.bit (Adr.ALM_ISSUER_CFG i) 30)
  let own := h1.alarm.lastHead.filter fun x => x.1 != i
  (h1.onAlarm fun a => { a with
    lastHead := match act.alarm.lastHead.find? fun x => x.1 == i with
      | some x => insertAt i x.2 own
      | none => own }).dropHeld i

/-- The flows that the active half's firmware has opened, closes and announces (R156, R158, R469). -/
def Half.takeFlows (h act : Half) : Half :=
  { h with flow := { h.flow with
      openRx := act.flow.openRx, openTx := act.flow.openTx, closing := act.flow.closing, announced := act.flow.announced } }

/-- Launch offsets of the transmit slots (R151, R464). -/
def Half.takeOffsets (h act : Half) : Half :=
  h.each (act.txSlots ++ h.txSlots).dedup fun x n =>
    x.put (Adr.FTX_STATUS n) 16 12 (act.get (Adr.FTX_STATUS n) 16 12)

/-- Gains of limiters, AGCs, duckers and ANC nodes (R211, R469). -/
def Half.takeGains (h act : Half) : Half :=
  let p := h.plan false
  h.each ((p.nodes.filter fun n => inRange 7 10 n.type).map fun n => n.idx) fun x i => x.setNode i (act.nodeSt i)

/-- State, probe count, hold timer and power gain of channel k (R371). -/
def Half.takeChannel (h act : Half) (k : Nat) : Half :=
  let h1 := h.setAmp k (act.ampState k)
  let h2 := (h1.wr (Adr.AMP_PROBE k) (act.rd (Adr.AMP_PROBE k))).wr (Adr.AMP_GAIN k) (act.rd (Adr.AMP_GAIN k))
  let h3 := h2.put (Adr.AMP_STATUS k) 5 2 (act.get (Adr.AMP_STATUS k) 5 2)
  if act.out.ch.any (fun c => c.1 == k) || h.out.ch.any (fun c => c.1 == k) then
    h3.onCh k fun x => { x with pgain := (act.ampCh k).pgain, soft := (act.ampCh k).soft }
  else h3

/-- The amplifier state of every channel and cluster, with the active half's requests for the stages (R364, R371). -/
def Half.takeChannels (h act : Half) : Half :=
  let h1 := h.each (List.range 32) fun x k => x.takeChannel act k
  h1.each (List.range 4) fun x c =>
    let y := (x.wr (Adr.AMPC_GAIN c) (act.rd (Adr.AMPC_GAIN c))).putBit (Adr.AMPC_STATUS c) 5 (act.bit (Adr.AMPC_STATUS c) 5)
    (y.wr (Adr.AMPC_TEMP c) (act.rd (Adr.AMPC_TEMP c))).onCl c fun z =>
      let w := act.ampCl c
      { z with cgain := w.cgain, tgain := w.tgain, tnTerm := w.tnTerm, request := act.psenRequest c }

/-- The pilot of each channel (R403). -/
def Half.takePilots (h act : Half) : Half :=
  h.each ((List.range 32).filter fun k => (act.lsp k).pilot != (h.lsp k).pilot) fun x k => x.setPilot k (act.lsp k).pilot

/-- The baselines of Larkspur (R404). -/
def Half.takeBaselines (h act : Half) : Half :=
  h.each (List.range 32) fun x k => x.each (List.range 9) fun y b => y.wr (baseAdr k b) (act.rd (baseAdr k b))

/-- Ratio and phase of the TDM resamplers (R324). -/
def Half.takeResamplers (h act : Half) : Half :=
  h.each (List.range 8) fun x t =>
    (x.wr (Adr.TDM_RATIO t) (act.rd (Adr.TDM_RATIO t))).wr (Adr.TDM_PHASE t) (act.rd (Adr.TDM_PHASE t))

/-- The package service addresses and the PTP attributes of both ports (R157). -/
def Half.takeNet (h act : Half) : Half :=
  h.each [0, 1] fun x p => x.onNet p fun n =>
    let w := act.netOf p
    { n with
      svcIp := w.svcIp, svcPrefix := w.svcPrefix, priority1 := w.priority1, priority2 := w.priority2
      clockClass := w.clockClass, clockAccuracy := w.clockAccuracy }

/-- A mirrored item that is not a field. Clock items change nothing on the standby: its estimates are its own (R198). A commit
record acts through COMMIT_RECORD_RECEIVE (R224). -/
def Half.takeKind (h act : Half) (kind : MirrorKind) : Half :=
  match kind with
  | .field _ => h
  | .commitRecord => h
  | .arbiter => h.takeArbiter act
  | .lastSeq i => h.takeLastSeq act i
  | .players => h.takePlayers act
  | .clocks => h
  | .flowJoin => h.takeFlows act
  | .launchOffsets => h.takeOffsets act
  | .gains => h.takeGains act
  | .ampChannels => h.takeChannels act
  | .pilot => h.takePilots act
  | .baselines => h.takeBaselines act
  | .resampler => h.takeResamplers act
  | .netSettings => h.takeNet act

/-- Half h receives the mirror stream: SYNCING or STANDBY, the link up, the partner ACTIVE and hearing its Breeze (R448, R469,
R470). -/
def State.mirrors (s : State) (h : HalfId) : Bool :=
  let me := s.half h
  let it := s.half h.other
  me.live && me.linkUp && (me.role == .standby || me.role == .syncing) && it.role == .active && it.bit Adr.RDN_STATUS 5

/-- One item takes effect at a block boundary of half h (R470). -/
def State.takeItem (s : State) (h : HalfId) (kind : MirrorKind) : State :=
  match kind with
  | .field a => s.takeField h a.toNat
  | k => s.on h fun x => x.takeKind (s.half h.other) k

/-- Every item received since the last boundary takes effect, in order (R470), whatever has become of the stream since; the values
are those that the sender holds, which a half in reset holds no more. -/
def State.takeMirror (s : State) (h : HalfId) : State :=
  let due := (s.half h).rdn.mirrorDue
  let s1 := s.on h fun x => x.onRdn fun r => { r with mirrorDue := [] }
  if (s.half h.other).live && !due.isEmpty then (due.foldl (fun t k => t.takeItem h k) s1).psen else s1

/-- An item changes what the two halves compute until the standby has applied it: the digests of the block are void
(R470). -/
def touches : MirrorKind → Bool
  | .arbiter | .players | .gains | .ampChannels | .pilot | .resampler => true
  | _ => false

/-- Marks the digests of the block in progress as void. -/
def Half.voidBlock (h : Half) : Half := h.onGraph fun g => { g with voids := true }

/-- A gap of n items in the mirror sequence (R472, R623). -/
def Half.mirrorGap (h : Half) (n : Nat) : Half :=
  let h1 := ((h.event Adr.RDN_EVENT 3).latch Adr.RDN_FAULT 12).mirrorDiag 1 n
  let h2 := match h1.role with | .standby => h1.goSyncing | _ => h1
  (h2.onRdn fun x => { x with gapSince := true }).roleCheck

/-- MIRROR_ITEM (R470, R472): a gap is acted on at once, the item at the next block boundary. -/
def execMirrorItem (h : HalfId) (kind : MirrorKind) (lost : Nat) (s : State) : Host.Outcome State Fault Refusal :=
  .next (
    if !s.mirrors h then s
    else
      let s1 := if lost = 0 then s else s.on h fun x => x.mirrorGap lost
      let s2 := s1.on h fun x => x.onRdn fun r => { r with
        mirrorRx := (r.mirrorRx + lost + 1) % 2 ^ 32, mirrorDue := r.mirrorDue ++ [kind] }
      if touches kind then (s2.on h Half.voidBlock).on h.other Half.voidBlock else s2)

/-! The full resync pass (R471). -/

/-- The addresses of the M fields that a pass compares: those that either half holds, without the words that the mirrored state
items cover and the registers that only act. -/
def mirroredFields (h act : Half) : List Nat :=
  ((h.regs ++ act.regs ++ h.held ++ act.held).map fun p => p.1).dedup.filter fun a =>
    match locate a with
    | some l => l.reg.m && !l.confirm && l.reg.attr != .ro && l.reg.attr != .wo && l.reg.hook != .keyLoad
    | none => false

/-- The two halves hold different values of an M field. -/
def differs (h act : Half) (a : Nat) : Bool :=
  if inStagingBank a then h.rd a != act.rd a
  else if (instAt (Adr.ALM_ISSUER_CFG 0) 16 16 a).isSome then
    (h.rd a).toNat % 2 ^ 30 != (act.rd a).toNat % 2 ^ 30 || h.bit a 31 != act.bit a 31
  else if (instAt (Adr.AMP_CTRL 0) 0x200 32 a).isSome then act.mirroredHeld a != h.mirroredHeld a
  else act.staged a != h.staged a

/-- The state items of a pass. Those that change from block to block are compared only when both halves stand in the same
block. -/
def steadyKinds : List MirrorKind :=
  ((List.finRange 16).map MirrorKind.lastSeq) ++ [.flowJoin, .launchOffsets, .pilot, .baselines, .netSettings]
def movingKinds : List MirrorKind := [.arbiter, .gains, .ampChannels, .resampler]

/-- Takes every key slot. -/
def Half.takeKeys (h act : Half) : Half :=
  { h with keys := act.keys }.wr Adr.ALM_KEY_STATUS (act.rd Adr.ALM_KEY_STATUS)

/-- Takes items of a kind, counting those that differed. -/
def takeCounting (act : Half) (count : Bool) (acc : Half × Nat) (k : MirrorKind) : Half × Nat :=
  let y := acc.1.takeKind act k
  (y, if count && y != acc.1 then acc.2 + 1 else acc.2)

/-- One pass: every differing item is corrected; the number of corrections. -/
def State.resyncPass (s : State) (h : HalfId) : State × Nat :=
  let act := s.half h.other
  let bad := (mirroredFields (s.half h) act).filter (differs (s.half h) act)
  let s1 := bad.foldl (fun (t : State) a => t.takeField h a) s
  let keyed := (s1.half h).takeKeys act
  let start := (keyed, bad.length + ofBool (keyed != s1.half h))
  let a1 := steadyKinds.foldl (takeCounting act true) start
  let a2 := movingKinds.foldl (takeCounting act ((s1.half h).block == act.block)) a1
  ((s1.setHalf h a2.1).psen, a2.2)

/-- What a completed pass shows (R471, R479, R623): corrections counted, PASSES, `IN_SYNC`; a SYNCING half tries the plan in
force when that is due (R224). -/
def Half.passDone (h act : Half) (n : Nat) : Half :=
  let h1 := if n = 0 then h else ((h.count Adr.RDN_MIRROR_DIFF 0 16 n).life .mirrorDiff n).mirrorDiag 4 n
  let h2 := (h1.wrap Adr.RDN_MIRROR_STATUS 0 16 1).onRdn fun r => { r with
    passes := r.passes + 1, lastClean := n == 0, gapSince := false }
  ((h2.takeIndex act).tryPlan act).roleCheck

/-- FULL_RESYNC_PASS (R471). -/
def execFullResyncPass (h : HalfId) (s : State) : Host.Outcome State Fault Refusal :=
  .next (
    if !s.mirrors h then s
    else
      let (s1, n) := s.resyncPass h
      s1.on h fun x => x.passDone (s.half h.other) n)

/-! Compare digests (R474, R475). -/

/-- Channels of a digest group: kind of the audio block, first channel, number (R474). -/
def digestChannels (rate96 : Bool) : Nat → Nat × Nat × Nat
  | 4 => (0, 0, if rate96 then 1024 else 2048)
  | 5 => (1, 0, 256)
  | 6 => (3, 0, 64)
  | c => (2, 8 * c, 8)

/-- The digest of one group of the block that has ended, over the big-endian bytes of its values (R474). -/
def Half.groupDigest (h : Half) (g : Nat) : Word :=
  if g = 7 then crc32 ((List.range 256).map fun z => beBytes 4 (h.rd (Adr.GRF_ZSTATE z)).toNat).flatten
  else
    let (kind, first, n) := digestChannels h.rate96 g
    crc32 ((List.range n).map fun c => ((List.range h.blockLen).map fun i =>
      beBytes 4 (audioGet h.outBlk kind (first + c) i).toNat).flatten).flatten

/-- The digests of the block that ends, sent to the partner (R474); a half without a linked partner computes none. -/
def Half.digestBlock (h : Half) : Half :=
  let h1 := if h.linkUp && (h.role == .active || h.role == .standby) then
      let d : Digest := ⟨h.block, (List.range 8).map h.groupDigest, h.graph.voids⟩
      h.onRdn fun r => { r with
        digests := (d :: r.digests).take 16, digestOut := r.digestOut.drop (r.digestOut.length - 15) ++ [d] }
    else h
  h1.onGraph fun g => { g with voids := false }

/-- The groups in which two digests differ. -/
def Digest.mismatch (a b : Digest) : Nat := maskOf 8 fun g => getAt a.groups g 0 != getAt b.groups g 0

/-- The last 8000 compared blocks of a STANDBY half hold more than `COMPARE_LIMIT` mismatches (R475). -/
def Half.compareLimit (h : Half) : Half :=
  if h.role = .standby ∧ h.get Adr.RDN_COMPARE_LIMIT 0 14 < h.rdn.badAt.length then
    let h1 := (h.latch Adr.RDN_FAULT 11).goSyncing
    { h1.onRdn fun r => { r with compareHold := true, badAt := [], compared := 0 } with
      gust := { h1.gust with classes := modAt h1.gust.classes 0 fun c => { c with done := [] } } }
  else h

/-- The comparison of one block (R475, R483). -/
def Half.compareBlock (h : Half) (mine its : Digest) : Half :=
  if mine.voids || its.voids then h.putBit Adr.RDN_COMPARE_STATUS 30 true
  else
    let m := mine.mismatch its
    let h1 := ((h.putBit Adr.RDN_COMPARE_STATUS 31 true).putBit Adr.RDN_COMPARE_STATUS 30 false).put
      Adr.RDN_COMPARE_STATUS 0 8 m
    let n := h1.rdn.compared + 1
    let bad := (h1.rdn.badAt ++ (if m = 0 then [] else [n])).filter fun b => decide (n < b + 8000)
    let h2 := h1.onRdn fun r => { r with compared := n, badAt := bad }
    if m = 0 then h2
    else
      let h3 := if h2.mismatch1s = 0 then h2.event Adr.RDN_EVENT 4 else h2
      let h4 := ((h3.count Adr.RDN_COMPARE_CNT 0 16 1).life .compare 1).onRdn fun r => { r with
        groupAt := (maskBits 8 m).foldl (fun l g => insertAt g h3.age l) r.groupAt }
      h4.compareLimit

/-- A half compares with its partner: one ACTIVE that hears the other's Breeze, the other STANDBY (R448, R475). -/
def State.compares (s : State) (h : HalfId) : Bool :=
  let me := s.half h
  let it := s.half h.other
  me.live && me.linkUp && ((me.role == .active && it.role == .standby && me.bit Adr.RDN_STATUS 5) ||
    (me.role == .standby && it.role == .active && it.bit Adr.RDN_STATUS 5))

/-- DIGEST_RECEIVE (R474): the oldest digests of the partner that are on their way; they wait for the half's own. -/
def execDigestReceive (h : HalfId) (s : State) : Host.Outcome State Fault Refusal :=
  .next (
    match (s.half h.other).rdn.digestOut with
    | [] => s
    | d :: rest =>
      let taken := s.on h.other fun x => x.onRdn fun r => { r with digestOut := rest }
      match (s.half h).rdn.digests.find? fun m => m.block == d.block with
      | some m => if s.compares h then taken.on h fun x => (x.compareBlock m d).roleCheck else taken
      | none => if d.block < (s.half h).block ∨ !(s.half h).live then taken else s)

end Sys2Proof.Machine
end

