-- ==== Sys2Proof/Machine/Boundary.lean ====
section
/-! DEFINITION. The block boundary (R21): the period that ends, media time, the five steps, what else happens once a block. -/

namespace Sys2Proof.Machine

open Sys2Proof

/-- The transmit pool of the output block that begins, by media index (R128, R148). -/
def Half.keepTx (h : Half) : Half :=
  let rows := (List.range h.blockLen).filterMap fun i =>
    let row := (h.outBlk.filter fun p => decide (p.1 < 0x100000) && p.1 % 16 == i).map fun p => (p.1 / 16, p.2)
    if row.isEmpty then none else some (h.mediaIdx + i, row)
  { h with txHist := rows ++ h.txHist.filter fun e => decide (h.mediaIdx < e.1 + 1024) }

/-- The period that ends: overruns (R237), what it put out is recorded and sent to the TDM ports, the engines' block becomes
the output block, its digests, the input block becomes the one to process, TDM frames enter the next (R31, R309, R325,
R474). -/
def Half.closePeriod (h : Half) (late : List (Fin 8)) (frames : List TdmFrame) : Half :=
  let h1 := if h.up .processing then h.each (late.map fun e => e.val) Half.overrun else h
  let h2 := (if h1.up .memory then h1.recordBlock else h1).tdmOutput
  let h3 := h2.runBlock.digestBlock
  { h3 with procIn := h3.inBlk, inBlk := [] }.tdmInput frames

/-- Media time moves on by a block, then by the step that waits; a time jump restarts every TDM port (R171, R190, R326). -/
def Half.passTime (h : Half) : Half :=
  let h1 := h.advanceTime
  if h1.up .timing then
    let h2 := h1.applyStep
    if h2.block = h1.block then h2 else h2.tdmRestartAll
  else h1

/-- Whether the boundary of a half makes a time jump. -/
def Half.timeJump (h : Half) : Bool := h.passTime.block != h.block + 1

/-- The first boundary as ACTIVE: engines under test are SPARE again (R504). -/
def Half.endTests (h : Half) : Half :=
  if h.alarm.firstBoundary && h.role == .active then
    (h.each ((List.range 8).filter fun e => h.engState e == 3) fun x e => x.setEng e 1).showPlc
  else h

/-- Step 2 of R21: the plan commit, or a coming placement, then the library; a change of the rate restarts every TDM port
(R223, R249, R252, R299, R330). -/
def Half.stepPlan (h : Half) : Half :=
  let h1 := if h.up .processing then h.endTests.applyPending else h
  let h2 := if h1.rate96 == h.rate96 then h1 else h1.tdmRestartAll
  if h2.up .memory then h2.loadWithoutStandby.switchLibrary else h2

/-- Step 3 of R21: the held writes take effect, the sense chain starts its block (R20, R395). -/
def Half.stepHeld (h : Half) (jump : Bool) : Half := h.takeHeld.senseBoundary jump

/-- The TDM ports that are due from the last boundary enter RUNNING (R327). -/
def Half.enterPorts (h : Half) : Half := if h.outUp then h.tdmEnter else h

/-- Step 4 of R21: alarm commands and the arbiter (R218, R264, R279). -/
def Half.stepAlarm (h : Half) : Half :=
  if h.up .processing then h.firstAlarms.applyCmds.arbitrate
  else { h with alarm := { h.alarm with firstBoundary := h.alarm.firstBoundary && h.role == .active } }

/-- The old half of a handover has launched its last packet 2 ms after T: HO_RELEASED, and the service identity goes
(R464, R465, R468). -/
def Half.endLaunching (h : Half) : Half :=
  match h.sent.handover with
  | .launching t =>
    if t + 16 ≤ h.block then (((h.send 0x13 0).setSvc false).onSent fun x => { x with handover := .idle }) else h
  | _ => h

/-- The gratuitous ARPs that fall due: 2.5 ms after T without HO_RELEASED, and the repetition after 100 ms (R465). -/
def Half.arpTick (h : Half) : Half :=
  let late := h.role == .active && h.get Adr.RDN_LAST_TAKEOVER 28 4 == 1 && h.rdn.arpAgain.isNone &&
    h.block % 2 ^ 32 == ((h.rd Adr.RDN_HANDOVER_TARGET).toNat + 20) % 2 ^ 32
  let again := match h.rdn.arpAgain with
    | some t => decide (t ≤ h.age)
    | none => false
  if late || again then h.onRdn fun r => { r with arpDue := true } else h

/-- Give-ups more than 24 h old leave `YIELD_COUNT` (R479). -/
def Half.forgetGiveUps (h : Half) : Half :=
  let recent := h.sent.giveUpAt.filter fun b => decide (h.age < b + dayBlocks)
  if recent.length = h.sent.giveUpAt.length then h
  else (h.onSent fun x => { x with giveUpAt := recent }).put Adr.RDN_YIELD_COUNT 0 8 (min recent.length 255)

/-- What else a half does once a block: power and heat (R358), policing (R164), ARP, ages (R485, R504). -/
def Half.stepRest (h : Half) : Half :=
  let h1 := (h.ampBoundary.policingTick.endLaunching.arpTick.partnerRecordAge).forgetGiveUps
  if h1.age % 8000 = 0 then h1.gustSecond else h1

/-- A Breeze that shows the new plan and library is still to come in the block in which they change: until then their
identities are not compared (R440, R444). -/
def Half.unchanged (h old : Half) : Bool :=
  h.rd Adr.GRF_PLAN_ID == old.rd Adr.GRF_PLAN_ID && h.rd Adr.MSG_LIB_GEN == old.rd Adr.MSG_LIB_GEN

/-- The boundary within one half up to the mirrored items: period, ports, time, steps 1 to 3 (R21). Step 1, the sampling of the
forcing state, is that each step sees it as it stands. -/
def Half.boundaryStart (h : Half) (late : List (Fin 8)) (frames : List TdmFrame) : Half :=
  let h1 := (h.closePeriod late frames).enterPorts
  ((h1.passTime.keepTx).stepPlan).stepHeld h1.timeJump

/-- The boundary within one half from step 4 on. -/
def Half.boundaryEnd (h old : Half) : Half :=
  let h1 := h.stepAlarm.stepRest
  let h2 := if h1.unchanged old then h1.roleCheck else h1
  if h2.up .control then h2.sampleEvents else h2

/-- BLOCK_BOUNDARY (R21). At the first one as ACTIVE reference 4 fails and the selector switches first (R198, R477). -/
def execBlockBoundary (h : HalfId) (late : List (Fin 8)) (tdm : List TdmFrame) (s : State) : Host.Outcome State Fault Refusal :=
  .next (
    let me := s.half h
    if !me.live then s
    else
      let s0 := if me.alarm.firstBoundary && me.role == .active && me.up .timing then (s.on h (Half.refEval · false 4)).select h else s
      let s1 := ((s0.shareTarget h).on h fun x => x.boundaryStart late tdm).takeMirror h
      (s1.on h fun x => x.boundaryEnd me).settle.lines)

end Sys2Proof.Machine
end

