-- ==== Sys2Proof/Machine/Dispatch.lean ====
section
/-! DEFINITION. One arm for each command: its meaning (R46 to R624). -/

namespace Sys2Proof.Machine

open Sys2Proof

/-- The effect of a command on everything but the queue of waiting commands. -/
def exec (i : Instr) (s : State) : Host.Outcome State Fault Refusal :=
  match i with
  | .blockBoundary h late tdm => Sys2Proof.Machine.execBlockBoundary h late tdm s
  | .carrierBoundary h c chans bus => Sys2Proof.Machine.execCarrierBoundary h c chans bus s
  | .edgeGuardTimeout h r => Sys2Proof.Machine.execEdgeGuardTimeout h r s
  | .regionStateUncorrectable h r => Sys2Proof.Machine.execRegionStateUncorrectable h r s
  | .regionReset h q mask => Sys2Proof.Machine.execRegionReset h q mask s
  | .regionReady h r => Sys2Proof.Machine.execRegionReady h r s
  | .warmReset h q => Sys2Proof.Machine.execWarmReset h q s
  | .clockLossDetected h d port => Sys2Proof.Machine.execClockLossDetected h d port s
  | .functionLevelReset h => Sys2Proof.Machine.execFunctionLevelReset h s
  | .pcieLinkUp h gen bme => Sys2Proof.Machine.execPcieLinkUp h gen bme s
  | .pcieLinkDown h => Sys2Proof.Machine.execPcieLinkDown h s
  | .pcieTrainingTimeout h => Sys2Proof.Machine.execPcieTrainingTimeout h s
  | .pciePerstRelease h => Sys2Proof.Machine.execPciePerstRelease h s
  | .readInc h cmd addr count crc => Sys2Proof.Machine.execReadInc h cmd addr count crc s
  | .readPair h cmd addr count crc => Sys2Proof.Machine.execReadPair h cmd addr count crc s
  | .writeInc h cmd addr count crc data dataCrc => Sys2Proof.Machine.execWriteInc h cmd addr count crc data dataCrc s
  | .qspiAbort h => Sys2Proof.Machine.execQspiAbort h s
  | .stalltimeout h => Sys2Proof.Machine.execStalltimeout h s
  | .registerWrite h q addr w data => Sys2Proof.Machine.execRegisterWrite h q addr w data s
  | .rcRead h q addr w => Sys2Proof.Machine.execRcRead h q addr w s
  | .shadowLoRead h q addr => Sys2Proof.Machine.execShadowLoRead h q addr s
  | .heldLoWrite h q addr data => Sys2Proof.Machine.execHeldLoWrite h q addr data s
  | .hiWrite h q addr data => Sys2Proof.Machine.execHiWrite h q addr data s
  | .pairedValueWrite h q addr data => Sys2Proof.Machine.execPairedValueWrite h q addr data s
  | .pairedConfirm h q addr data => Sys2Proof.Machine.execPairedConfirm h q addr data s
  | .confirmWindowExpiry h q slot => Sys2Proof.Machine.execConfirmWindowExpiry h q slot s
  | .tmrScrub h upset => Sys2Proof.Machine.execTmrScrub h upset s
  | .aliasRead h q addr => Sys2Proof.Machine.execAliasRead h q addr s
  | .aliasWrite h q addr data => Sys2Proof.Machine.execAliasWrite h q addr data s
  | .partnerWindowAccess h q addr w write data => Sys2Proof.Machine.execPartnerWindowAccess h q addr w write data s
  | .partnerTimeout h q addr write => Sys2Proof.Machine.execPartnerTimeout h q addr write s
  | .portLinkUp h p rate fullDuplex => Sys2Proof.Machine.execPortLinkUp h p rate fullDuplex s
  | .portLinkDown h p => Sys2Proof.Machine.execPortLinkDown h p s
  | .pcsSyncTimeout h p => Sys2Proof.Machine.execPcsSyncTimeout h p s
  | .macModeChange h q p ctrl => Sys2Proof.Machine.execMacModeChange h q p ctrl s
  | .mdioC22Write h q p phy reg data => Sys2Proof.Machine.execMdioC22Write h q p phy reg data s
  | .mdioC22Read h q p phy reg => Sys2Proof.Machine.execMdioC22Read h q p phy reg s
  | .mdioC45Address h q p phy dev addr => Sys2Proof.Machine.execMdioC45Address h q p phy dev addr s
  | .mdioC45Write h q p phy dev data => Sys2Proof.Machine.execMdioC45Write h q p phy dev data s
  | .mdioC45Read h q p phy dev => Sys2Proof.Machine.execMdioC45Read h q p phy dev s
  | .mdioC45PostReadIncrement h q p phy dev => Sys2Proof.Machine.execMdioC45PostReadIncrement h q p phy dev s
  | .mdioFrameComplete h p data => Sys2Proof.Machine.execMdioFrameComplete h p data s
  | .frameReceive h p bytes ofs occ => Sys2Proof.Machine.execFrameReceive h p bytes ofs occ s
  | .mpacketReceive h p m ofs occ => Sys2Proof.Machine.execMpacketReceive h p m ofs occ s
  | .txFrameStart h p src ofs => Sys2Proof.Machine.execTxFrameStart h p src ofs s
  | .txUnderrun h p poisoned => Sys2Proof.Machine.execTxUnderrun h p poisoned s
  | .txFrameComplete h p => Sys2Proof.Machine.execTxFrameComplete h p s
  | .txLateDrop h p => Sys2Proof.Machine.execTxLateDrop h p s
  | .verifyRespond h p => Sys2Proof.Machine.execVerifyRespond h p s
  | .verifyTimeout h p => Sys2Proof.Machine.execVerifyTimeout h p s
  | .pauseFrame h p quanta ofs => Sys2Proof.Machine.execPauseFrame h p quanta ofs s
  | .pauseExpiry h p => Sys2Proof.Machine.execPauseExpiry h p s
  | .portImpaired h p => Sys2Proof.Machine.execPortImpaired h p s
  | .impairmentEnd h p => Sys2Proof.Machine.execImpairmentEnd h p s
  | .lpiEntry h p ofs => Sys2Proof.Machine.execLpiEntry h p ofs s
  | .lpiWake h p ofs => Sys2Proof.Machine.execLpiWake h p ofs s
  | .eeeTwWrite h q p us => Sys2Proof.Machine.execEeeTwWrite h q p us s
  | .ringTailWrite h q p ring tail descs => Sys2Proof.Machine.execRingTailWrite h q p ring tail descs s
  | .ringEnable h q p ring => Sys2Proof.Machine.execRingEnable h q p ring s
  | .macClusterReinit h q => Sys2Proof.Machine.execMacClusterReinit h q s
  | .unitEnableChange h q ctrl en => Sys2Proof.Machine.execUnitEnableChange h q ctrl en s
  | .playoutRelease h n pos => Sys2Proof.Machine.execPlayoutRelease h n pos s
  | .pathTimeout h n => Sys2Proof.Machine.execPathTimeout h n s
  | .packetLaunch h n ofs => Sys2Proof.Machine.execPacketLaunch h n ofs s
  | .changingEnd h n => Sys2Proof.Machine.execChangingEnd h n s
  | .sapAnnouncement h info delete => Sys2Proof.Machine.execSapAnnouncement h info delete s
  | .sapExpiry h src session => Sys2Proof.Machine.execSapExpiry h src session s
  | .sapAnnounceTimer h => Sys2Proof.Machine.execSapAnnounceTimer h s
  | .flowOpen h => Sys2Proof.Machine.execFlowOpen h s
  | .flowClose h => Sys2Proof.Machine.execFlowClose h s
  | .netAddr h => Sys2Proof.Machine.execNetAddr h s
  | .ptpAttr h => Sys2Proof.Machine.execPtpAttr h s
  | .membershipUpdate h => Sys2Proof.Machine.execMembershipUpdate h s
  | .igmpQuery h p v2 => Sys2Proof.Machine.execIgmpQuery h p v2 s
  | .arpRequest h p target sender mac => Sys2Proof.Machine.execArpRequest h p target sender mac s
  | .flowClusterReinit h q tx c => Sys2Proof.Machine.execFlowClusterReinit h q tx c s
  | .ptpMessageReceive h p m next => Sys2Proof.Machine.execPtpMessageReceive h p m next s
  | .ptpAnnounceTimeout h p next => Sys2Proof.Machine.execPtpAnnounceTimeout h p next s
  | .ptpPhaseSample h p offset => Sys2Proof.Machine.execPtpPhaseSample h p offset s
  | .referenceMeasurement h ix fofs phase inMode => Sys2Proof.Machine.execReferenceMeasurement h ix fofs phase inMode s
  | .referenceActivityTimeout h ix => Sys2Proof.Machine.execReferenceActivityTimeout h ix s
  | .qualificationComplete h ix => Sys2Proof.Machine.execQualificationComplete h ix s
  | .wtrExpiry h ix => Sys2Proof.Machine.execWtrExpiry h ix s
  | .selectorEvaluation h => Sys2Proof.Machine.execSelectorEvaluation h s
  | .selBaseRefresh h => Sys2Proof.Machine.execSelBaseRefresh h s
  | .mediaLockAcquired h => Sys2Proof.Machine.execMediaLockAcquired h s
  | .mediaLockLost h => Sys2Proof.Machine.execMediaLockLost h s
  | .bandwidthStep h => Sys2Proof.Machine.execBandwidthStep h s
  | .adpllFault h carrier oscillator => Sys2Proof.Machine.execAdpllFault h carrier oscillator s
  | .loopOpen h q => Sys2Proof.Machine.execLoopOpen h q s
  | .loopClose h q => Sys2Proof.Machine.execLoopClose h q s
  | .swFreqSet h q v => Sys2Proof.Machine.execSwFreqSet h q v s
  | .swrefPhaseWrite h q v => Sys2Proof.Machine.execSwrefPhaseWrite h q v s
  | .timingMarkerReceive h offset carrier => Sys2Proof.Machine.execTimingMarkerReceive h offset carrier s
  | .alignedChange h within => Sys2Proof.Machine.execAlignedChange h within s
  | .carrierLockAcquired h => Sys2Proof.Machine.execCarrierLockAcquired h s
  | .carrierLockLost h => Sys2Proof.Machine.execCarrierLockLost h s
  | .ptpCfgWrite h q p v => Sys2Proof.Machine.execPtpCfgWrite h q p v s
  | .planSubmit h q => Sys2Proof.Machine.execPlanSubmit h q s
  | .planValidationComplete h ofs => Sys2Proof.Machine.execPlanValidationComplete h ofs s
  | .commitRecordReceive h => Sys2Proof.Machine.execCommitRecordReceive h s
  | .standbyPlanAccept h ofs => Sys2Proof.Machine.execStandbyPlanAccept h ofs s
  | .standbyPlanReject h ofs => Sys2Proof.Machine.execStandbyPlanReject h ofs s
  | .standbyAnswerTimeout h ofs => Sys2Proof.Machine.execStandbyAnswerTimeout h ofs s
  | .levelCmdOn h q level zone => Sys2Proof.Machine.execLevelCmdOn h q level zone s
  | .levelCmdOff h q level zone => Sys2Proof.Machine.execLevelCmdOff h q level zone s
  | .voxHoldExpiry h zone level => Sys2Proof.Machine.execVoxHoldExpiry h zone level s
  | .meterInterval h node => Sys2Proof.Machine.execMeterInterval h node s
  | .residueError h e node => Sys2Proof.Machine.execResidueError h e node s
  | .replacementStageComplete h => Sys2Proof.Machine.execReplacementStageComplete h s
  | .engineDisable h q e => Sys2Proof.Machine.execEngineDisable h q e s
  | .engineEnable h q e => Sys2Proof.Machine.execEngineEnable h q e s
  | .knownAnswerTestComplete h e pass => Sys2Proof.Machine.execKnownAnswerTestComplete h e pass s
  | .engineClusterReinit h q c => Sys2Proof.Machine.execEngineClusterReinit h q c s
  | .clusterSharedStateFault h page => Sys2Proof.Machine.execClusterSharedStateFault h page s
  | .deepTestTurn h e => Sys2Proof.Machine.execDeepTestTurn h e s
  | .deepTestComplete h e pass => Sys2Proof.Machine.execDeepTestComplete h e pass s
  | .rowMigration h row => Sys2Proof.Machine.execRowMigration h row s
  | .sramRowTest h row pass => Sys2Proof.Machine.execSramRowTest h row pass s
  | .activate h prio zones source repeats live => Sys2Proof.Machine.execActivate h prio zones source repeats live s
  | .deactivate h prio zones => Sys2Proof.Machine.execDeactivate h prio zones s
  | .muteBelow h prio zones => Sys2Proof.Machine.execMuteBelow h prio zones s
  | .tone h prio zones source => Sys2Proof.Machine.execTone h prio zones source s
  | .clear h prio zones => Sys2Proof.Machine.execClear h prio zones s
  | .test h prio zones => Sys2Proof.Machine.execTest h prio zones s
  | .alarmFrame h ofs => Sys2Proof.Machine.execAlarmFrame h ofs s
  | .authQueueTimeout h => Sys2Proof.Machine.execAuthQueueTimeout h s
  | .heldCommandExpiry h => Sys2Proof.Machine.execHeldCommandExpiry h s
  | .issuerCfgWrite h q ix v => Sys2Proof.Machine.execIssuerCfgWrite h q ix v s
  | .keyLoad h q slot => Sys2Proof.Machine.execKeyLoad h q slot s
  | .keyErase h q slot => Sys2Proof.Machine.execKeyErase h q slot s
  | .evacDebounceExpiry h ix ofs => Sys2Proof.Machine.execEvacDebounceExpiry h ix ofs s
  | .comparatorInWindow h ix ofs => Sys2Proof.Machine.execComparatorInWindow h ix ofs s
  | .evacReleaseExpiry h ix ofs => Sys2Proof.Machine.execEvacReleaseExpiry h ix ofs s
  | .comparatorDisagree h ix => Sys2Proof.Machine.execComparatorDisagree h ix s
  | .dramUncorrectableRead h addr use => Sys2Proof.Machine.execDramUncorrectableRead h addr use s
  | .scrubPassComplete h late => Sys2Proof.Machine.execScrubPassComplete h late s
  | .sramUncorrectable h area row => Sys2Proof.Machine.execSramUncorrectable h area row s
  | .partitionChange h q b c => Sys2Proof.Machine.execPartitionChange h q b c s
  | .xferToStaging h q pio => Sys2Proof.Machine.execXferToStaging h q pio s
  | .xferBankRead h q pio => Sys2Proof.Machine.execXferBankRead h q pio s
  | .xferRecorderRead h q pio => Sys2Proof.Machine.execXferRecorderRead h q pio s
  | .xferDataAccess h q write data => Sys2Proof.Machine.execXferDataAccess h q write data s
  | .xferComplete h ok data => Sys2Proof.Machine.execXferComplete h ok data s
  | .libCommit h q count => Sys2Proof.Machine.execLibCommit h q count s
  | .libraryVerificationComplete h ofs => Sys2Proof.Machine.execLibraryVerificationComplete h ofs s
  | .bulkCopyComplete h ok ofs => Sys2Proof.Machine.execBulkCopyComplete h ok ofs s
  | .partnerVerifyResult h ofs => Sys2Proof.Machine.execPartnerVerifyResult h ofs s
  | .partnerVerifyTimeout h ofs => Sys2Proof.Machine.execPartnerVerifyTimeout h ofs s
  | .libraryResyncCopy h => Sys2Proof.Machine.execLibraryResyncCopy h s
  | .bulkCopyGo h q => Sys2Proof.Machine.execBulkCopyGo h q s
  | .libraryCheck h => Sys2Proof.Machine.execLibraryCheck h s
  | .playerPassEnd h p => Sys2Proof.Machine.execPlayerPassEnd h p s
  | .playerFault h p empty => Sys2Proof.Machine.execPlayerFault h p empty s
  | .recorderFrameBoundary h => Sys2Proof.Machine.execRecorderFrameBoundary h s
  | .recorderFrameWritten h => Sys2Proof.Machine.execRecorderFrameWritten h s
  | .recorderFrameDrop h => Sys2Proof.Machine.execRecorderFrameDrop h s
  | .tdmFrameStart h t bclks ofs ratio slots => Sys2Proof.Machine.execTdmFrameStart h t bclks ofs ratio slots s
  | .tdmFrameErrorLimit h t => Sys2Proof.Machine.execTdmFrameErrorLimit h t s
  | .tdmClockRestored h t => Sys2Proof.Machine.execTdmClockRestored h t s
  | .tdmClusterReinit h q => Sys2Proof.Machine.execTdmClusterReinit h q s
  | .currentTrip h k => Sys2Proof.Machine.execCurrentTrip h k s
  | .probeStart h k => Sys2Proof.Machine.execProbeStart h k s
  | .probeEnd h k z => Sys2Proof.Machine.execProbeEnd h k z s
  | .channelClear h q k => Sys2Proof.Machine.execChannelClear h q k s
  | .psenSettleExpiry h c => Sys2Proof.Machine.execPsenSettleExpiry h c s
  | .openLoopEnd h k => Sys2Proof.Machine.execOpenLoopEnd h k s
  | .carrierChangeResume h c => Sys2Proof.Machine.execCarrierChangeResume h c s
  | .clusterPowerFault h c => Sys2Proof.Machine.execClusterPowerFault h c s
  | .ntcFault h c => Sys2Proof.Machine.execNtcFault h c s
  | .thermalShutdownEnd h c => Sys2Proof.Machine.execThermalShutdownEnd h c s
  | .dcWindowEnd h k => Sys2Proof.Machine.execDcWindowEnd h k s
  | .busOutOfRange h c v => Sys2Proof.Machine.execBusOutOfRange h c v s
  | .busPsenRelease h c => Sys2Proof.Machine.execBusPsenRelease h c s
  | .busInRange h c v => Sys2Proof.Machine.execBusInRange h c v s
  | .busSenseFault h c => Sys2Proof.Machine.execBusSenseFault h c s
  | .psenReadbackFault h c low => Sys2Proof.Machine.execPsenReadbackFault h c low s
  | .psenReleaseDelay h c => Sys2Proof.Machine.execPsenReleaseDelay h c s
  | .clusterReset h q c => Sys2Proof.Machine.execClusterReset h q c s
  | .trackingChange h k on => Sys2Proof.Machine.execTrackingChange h k on s
  | .converterStuck h sn => Sys2Proof.Machine.execConverterStuck h sn s
  | .converterOverload h sn on => Sys2Proof.Machine.execConverterOverload h sn on s
  | .overloadTimeout h sn => Sys2Proof.Machine.execOverloadTimeout h sn s
  | .frontEndSelfCheckFail h sn => Sys2Proof.Machine.execFrontEndSelfCheckFail h sn s
  | .converterRecovery h sn cause => Sys2Proof.Machine.execConverterRecovery h sn cause s
  | .profileApply h q j => Sys2Proof.Machine.execProfileApply h q j s
  | .profileSync h q mask => Sys2Proof.Machine.execProfileSync h q mask s
  | .snsProfileWrite h q sn p => Sys2Proof.Machine.execSnsProfileWrite h q sn p s
  | .profileRelease h j codes => Sys2Proof.Machine.execProfileRelease h j codes s
  | .systemProfileOutput h values tj ofs => Sys2Proof.Machine.execSystemProfileOutput h values tj ofs s
  | .cmReport h words => Sys2Proof.Machine.execCmReport h words s
  | .larkspurUpdate h k m => Sys2Proof.Machine.execLarkspurUpdate h k m s
  | .larkspurReport h => Sys2Proof.Machine.execLarkspurReport h s
  | .baselineCapture h q all k => Sys2Proof.Machine.execBaselineCapture h q all k s
  | .baselineClear h q all k => Sys2Proof.Machine.execBaselineClear h q all k s
  | .captureAbort h q all k => Sys2Proof.Machine.execCaptureAbort h q all k s
  | .captureEnd h k => Sys2Proof.Machine.execCaptureEnd h k s
  | .pilotStart h k => Sys2Proof.Machine.execPilotStart h k s
  | .senseClusterReinit h q c => Sys2Proof.Machine.execSenseClusterReinit h q c s
  | .packetPush h queue items => Sys2Proof.Machine.execPacketPush h queue items s
  | .hostPush h q queue data => Sys2Proof.Machine.execHostPush h q queue data s
  | .pop h q queue ecc => Sys2Proof.Machine.execPop h q queue ecc s
  | .stallTimeout h q queue => Sys2Proof.Machine.execStallTimeout h q queue s
  | .heldMarkerWrite h queue => Sys2Proof.Machine.execHeldMarkerWrite h queue s
  | .queueEnable h q queue => Sys2Proof.Machine.execQueueEnable h q queue s
  | .queueDisable h q queue => Sys2Proof.Machine.execQueueDisable h q queue s
  | .queueFlush h q queue => Sys2Proof.Machine.execQueueFlush h q queue s
  | .queueLinkError h queue => Sys2Proof.Machine.execQueueLinkError h queue s
  | .queueClusterReinit h q c => Sys2Proof.Machine.execQueueClusterReinit h q c s
  | .breezeSend h => Sys2Proof.Machine.execBreezeSend h s
  | .breeze h bad => Sys2Proof.Machine.execBreeze h bad s
  | .yield h bad => Sys2Proof.Machine.execYield h bad s
  | .hoRequest h bad => Sys2Proof.Machine.execHoRequest h bad s
  | .hoAccept h bad => Sys2Proof.Machine.execHoAccept h bad s
  | .hoRefuse h bad => Sys2Proof.Machine.execHoRefuse h bad s
  | .hoReleased h bad => Sys2Proof.Machine.execHoReleased h bad s
  | .hoAbandon h bad => Sys2Proof.Machine.execHoAbandon h bad s
  | .breezeLost h => Sys2Proof.Machine.execBreezeLost h s
  | .draughtLost h => Sys2Proof.Machine.execDraughtLost h s
  | .draughtYieldDetected h => Sys2Proof.Machine.execDraughtYieldDetected h s
  | .yieldWaitExpiry h => Sys2Proof.Machine.execYieldWaitExpiry h s
  | .ownershipReleaseDetected h => Sys2Proof.Machine.execOwnershipReleaseDetected h s
  | .claim h => Sys2Proof.Machine.execClaim h s
  | .startHoldExpiry h => Sys2Proof.Machine.execStartHoldExpiry h s
  | .syncingClaimWait h => Sys2Proof.Machine.execSyncingClaimWait h s
  | .dualClaim stillReads => Sys2Proof.Machine.execDualClaim stillReads s
  | .ownershipMismatch h reads => Sys2Proof.Machine.execOwnershipMismatch h reads s
  | .killStart h => Sys2Proof.Machine.execKillStart h s
  | .killReceived h => Sys2Proof.Machine.execKillReceived h s
  | .killEnd h => Sys2Proof.Machine.execKillEnd h s
  | .killRelease h q => Sys2Proof.Machine.execKillRelease h q s
  | .killEnable h q en => Sys2Proof.Machine.execKillEnable h q en s
  | .padWatchdog h => Sys2Proof.Machine.execPadWatchdog h s
  | .neitherEnabledFault => Sys2Proof.Machine.execNeitherEnabledFault s
  | .sentinelFaultAssert h => Sys2Proof.Machine.execSentinelFaultAssert h s
  | .faultRelease => Sys2Proof.Machine.execFaultRelease s
  | .supplyFault h rail => Sys2Proof.Machine.execSupplyFault h rail s
  | .temperatureFault h => Sys2Proof.Machine.execTemperatureFault h s
  | .managementWatchdogTimeout h => Sys2Proof.Machine.execManagementWatchdogTimeout h s
  | .giveUpReleaseTimeout h => Sys2Proof.Machine.execGiveUpReleaseTimeout h s
  | .handover h q => Sys2Proof.Machine.execHandover h q s
  | .isolate h q => Sys2Proof.Machine.execIsolate h q s
  | .restore h q => Sys2Proof.Machine.execRestore h q s
  | .handoverNoAnswer h => Sys2Proof.Machine.execHandoverNoAnswer h s
  | .handoverTarget h => Sys2Proof.Machine.execHandoverTarget h s
  | .handoverClaim h => Sys2Proof.Machine.execHandoverClaim h s
  | .handoverAbandonTimeout h => Sys2Proof.Machine.execHandoverAbandonTimeout h s
  | .alignmentTimeout h => Sys2Proof.Machine.execAlignmentTimeout h s
  | .gratuitousArp h => Sys2Proof.Machine.execGratuitousArp h s
  | .mirrorItem h kind lost => Sys2Proof.Machine.execMirrorItem h kind lost s
  | .fullResyncPass h => Sys2Proof.Machine.execFullResyncPass h s
  | .onarLinkDown h => Sys2Proof.Machine.execOnarLinkDown h s
  | .onarLinkUp h => Sys2Proof.Machine.execOnarLinkUp h s
  | .digestReceive h => Sys2Proof.Machine.execDigestReceive h s
  | .halfReady h => Sys2Proof.Machine.execHalfReady h s
  | .trialConfirm h => Sys2Proof.Machine.execTrialConfirm h s
  | .engineKatSlice h e last pass => Sys2Proof.Machine.execEngineKatSlice h e last pass s
  | .poolCellTest h granule ix pass => Sys2Proof.Machine.execPoolCellTest h granule ix pass s
  | .injectionTest h pass => Sys2Proof.Machine.execInjectionTest h pass s
  | .clockMonitorTest h d pass => Sys2Proof.Machine.execClockMonitorTest h d pass s
  | .crossSenseWindow a b => Sys2Proof.Machine.execCrossSenseWindow a b s
  | .gateTrackingLost h k => Sys2Proof.Machine.execGateTrackingLost h k s
  | .forbiddenGateCombination h k => Sys2Proof.Machine.execForbiddenGateCombination h k s
  | .ampDiffExpiry h ntc ix => Sys2Proof.Machine.execAmpDiffExpiry h ntc ix s
  | .wearMeasurement h drifts => Sys2Proof.Machine.execWearMeasurement h drifts s
  | .healthRecord h linkEcc replays => Sys2Proof.Machine.execHealthRecord h linkEcc replays s
  | .partnerHealthRecord h => Sys2Proof.Machine.execPartnerHealthRecord h s
  | .hoursWrite h tj => Sys2Proof.Machine.execHoursWrite h tj s
  | .tempWarn h on => Sys2Proof.Machine.execTempWarn h on s
  | .supplyWarn h rail margin => Sys2Proof.Machine.execSupplyWarn h rail margin s
  | .rearm h q hi mask => Sys2Proof.Machine.execRearm h q hi mask s
  | .force h q hi mask => Sys2Proof.Machine.execForce h q hi mask s
  | .powerOnReset h => Sys2Proof.Machine.execPowerOnReset h s
  | .pinReset h => Sys2Proof.Machine.execPinReset h s
  | .resetRelease h hostsel flashSize => Sys2Proof.Machine.execResetRelease h hostsel flashSize s
  | .flashErase h q => Sys2Proof.Machine.execFlashErase h q s
  | .flashProgram h q => Sys2Proof.Machine.execFlashProgram h q s
  | .flashDataAccess h q write => Sys2Proof.Machine.execFlashDataAccess h q write s
  | .flashOperationComplete h ok => Sys2Proof.Machine.execFlashOperationComplete h ok s
  | .select h q slot => Sys2Proof.Machine.execSelect h q slot s
  | .saveConfig h q => Sys2Proof.Machine.execSaveConfig h q s
  | .eraseConfig h q => Sys2Proof.Machine.execEraseConfig h q s
  | .saveLibrary h q => Sys2Proof.Machine.execSaveLibrary h q s
  | .eraseRetirements h q => Sys2Proof.Machine.execEraseRetirements h q s
  | .raiseFloor h q => Sys2Proof.Machine.execRaiseFloor h q s
  | .bootOperationComplete h ok => Sys2Proof.Machine.execBootOperationComplete h ok s
  | .draughtRecovery h => Sys2Proof.Machine.execDraughtRecovery h s
  | .sentinelSupervisorReset h => Sys2Proof.Machine.execSentinelSupervisorReset h s
  | .sentinelCopiesDisagree h => Sys2Proof.Machine.execSentinelCopiesDisagree h s
  | .dramCorrectedRead h addr two => Sys2Proof.Machine.execDramCorrectedRead h addr two s
  | .sramCorrectedRead h area row => Sys2Proof.Machine.execSramCorrectedRead h area row s
  | .lldpFrame h p addFrag tw => Sys2Proof.Machine.execLldpFrame h p addFrag tw s
  | .ptpMessageSend h p type => Sys2Proof.Machine.execPtpMessageSend h p type s
  | .cd4Return h => Sys2Proof.Machine.execCd4Return h s
  | .ppsPulse h rise => Sys2Proof.Machine.execPpsPulse h rise s
  | .gustClassOverdue h cls => Sys2Proof.Machine.execGustClassOverdue h cls s

end Sys2Proof.Machine
end

