-- ==== Sys2Proof/WellFormed.lean ====
section
/-! DEFINITION. The checks that a command's operands must pass beyond what their types say: lengths of lists, and the part of
the address map that a command by its name accesses (R53, R73, R75). -/

namespace Sys2Proof

/-- An address of the register map proper (R53). -/
def inMap (a : Word) : Bool := decide (a.toNat < 0x8000000)

/-- An address of the bit-alias region (R73). -/
def inAlias (a : Word) : Bool := decide (0x8000000 ≤ a.toNat ∧ a.toNat < 0x10000000)

/-- An address of the partner window (R75). -/
def inWindow (a : Word) : Bool := decide (0x10000000 ≤ a.toNat ∧ a.toNat < 0x20000000)

/-- A word address. -/
def aligned (a : Word) : Bool := decide (a.toNat % 4 = 0)

/-- The lists of codes of a released profile: of one length, one for each of at most 80 channels (R392). -/
def sameLengths : List (List (Fin 4)) → Bool
  | [] => true
  | c :: rest => rest.all fun d => d.length == c.length

/-- A command whose operands are well formed. -/
def Instr.wf : Instr → Bool
  | .blockBoundary _ _ tdm => tdm.all fun f => decide (f.slots.length ≤ 32)
  | .carrierBoundary _ _ chans _ => chans.length == 8
  | .registerWrite _ _ addr _ _ => inMap addr
  | .rcRead _ _ addr _ => inMap addr
  | .shadowLoRead _ _ addr => inMap addr && aligned addr
  | .heldLoWrite _ _ addr _ => inMap addr && aligned addr
  | .hiWrite _ _ addr _ => inMap addr && aligned addr
  | .pairedValueWrite _ _ addr _ => inMap addr && aligned addr
  | .pairedConfirm _ _ addr _ => inMap addr && aligned addr
  | .confirmWindowExpiry _ _ slot => inMap slot && aligned slot
  | .tmrScrub _ upset => upset.all fun u => inMap u.1 && aligned u.1
  | .aliasRead _ _ addr => inAlias addr
  | .aliasWrite _ _ addr _ => inAlias addr
  | .partnerWindowAccess _ _ addr _ _ _ => inWindow addr
  | .partnerTimeout _ _ addr _ => inWindow addr
  | .ringTailWrite _ _ _ _ _ descs => descs.all fun d => d.length == 4
  | .unitEnableChange _ _ ctrl _ => inMap ctrl && aligned ctrl
  | .clusterSharedStateFault _ page => inMap page && aligned page
  | .tdmFrameStart _ _ _ _ _ slots => decide (slots.length ≤ 32)
  | .profileApply _ _ j => decide (j.val < 7)
  | .profileRelease _ _ codes => sameLengths codes && decide (codes.length ≤ 80)
  | .systemProfileOutput _ values _ _ => values.length == 16
  | .cmReport _ words => words.length == 32
  | .larkspurUpdate _ _ m => m.bands.length == 9
  | .packetPush _ _ items => !items.isEmpty
  | .crossSenseWindow a b => a.length == 80 && b.length == 80
  | .ampDiffExpiry _ ntc i => !ntc || decide (i.val < 4)
  | .wearMeasurement _ drifts => drifts.length == 8
  | .edgeGuardTimeout .. | .regionStateUncorrectable .. | .regionReset .. | .regionReady .. | .warmReset ..
  | .clockLossDetected .. | .functionLevelReset .. | .pcieLinkUp .. | .pcieLinkDown .. | .pcieTrainingTimeout ..
  | .pciePerstRelease .. | .readInc .. | .readPair .. | .writeInc .. | .qspiAbort .. | .stalltimeout .. | .portLinkUp ..
  | .portLinkDown .. | .pcsSyncTimeout .. | .macModeChange .. | .mdioC22Write .. | .mdioC22Read .. | .mdioC45Address ..
  | .mdioC45Write .. | .mdioC45Read .. | .mdioC45PostReadIncrement .. | .mdioFrameComplete .. | .frameReceive ..
  | .mpacketReceive .. | .txFrameStart .. | .txUnderrun .. | .txFrameComplete .. | .txLateDrop .. | .verifyRespond ..
  | .verifyTimeout .. | .pauseFrame .. | .pauseExpiry .. | .portImpaired .. | .impairmentEnd .. | .lpiEntry ..
  | .lpiWake .. | .eeeTwWrite .. | .ringEnable .. | .macClusterReinit .. | .playoutRelease .. | .pathTimeout ..
  | .packetLaunch .. | .changingEnd .. | .sapAnnouncement .. | .sapExpiry .. | .sapAnnounceTimer .. | .flowOpen ..
  | .flowClose .. | .netAddr .. | .ptpAttr .. | .membershipUpdate .. | .igmpQuery .. | .arpRequest ..
  | .flowClusterReinit .. | .ptpMessageReceive .. | .ptpAnnounceTimeout .. | .ptpPhaseSample ..
  | .referenceMeasurement .. | .referenceActivityTimeout .. | .qualificationComplete .. | .wtrExpiry ..
  | .selectorEvaluation .. | .selBaseRefresh .. | .mediaLockAcquired .. | .mediaLockLost .. | .bandwidthStep ..
  | .adpllFault .. | .loopOpen .. | .loopClose .. | .swFreqSet .. | .swrefPhaseWrite .. | .timingMarkerReceive ..
  | .alignedChange .. | .carrierLockAcquired .. | .carrierLockLost .. | .ptpCfgWrite .. | .planSubmit ..
  | .planValidationComplete .. | .commitRecordReceive .. | .standbyPlanAccept .. | .standbyPlanReject ..
  | .standbyAnswerTimeout .. | .levelCmdOn .. | .levelCmdOff .. | .voxHoldExpiry .. | .meterInterval ..
  | .residueError .. | .replacementStageComplete .. | .engineDisable .. | .engineEnable .. | .knownAnswerTestComplete ..
  | .engineClusterReinit .. | .deepTestTurn .. | .deepTestComplete .. | .rowMigration .. | .sramRowTest ..
  | .activate .. | .deactivate .. | .muteBelow .. | .tone .. | .clear .. | .test .. | .alarmFrame ..
  | .authQueueTimeout .. | .heldCommandExpiry .. | .issuerCfgWrite .. | .keyLoad .. | .keyErase ..
  | .evacDebounceExpiry .. | .comparatorInWindow .. | .evacReleaseExpiry .. | .comparatorDisagree ..
  | .dramUncorrectableRead .. | .scrubPassComplete .. | .sramUncorrectable .. | .partitionChange .. | .xferToStaging ..
  | .xferBankRead .. | .xferRecorderRead .. | .xferDataAccess .. | .xferComplete .. | .libCommit ..
  | .libraryVerificationComplete .. | .bulkCopyComplete .. | .partnerVerifyResult .. | .partnerVerifyTimeout ..
  | .libraryResyncCopy .. | .bulkCopyGo .. | .libraryCheck .. | .playerPassEnd .. | .playerFault ..
  | .recorderFrameBoundary .. | .recorderFrameWritten .. | .recorderFrameDrop .. | .tdmFrameErrorLimit ..
  | .tdmClockRestored .. | .tdmClusterReinit .. | .currentTrip .. | .probeStart .. | .probeEnd .. | .channelClear ..
  | .psenSettleExpiry .. | .openLoopEnd .. | .carrierChangeResume .. | .clusterPowerFault .. | .ntcFault ..
  | .thermalShutdownEnd .. | .dcWindowEnd .. | .busOutOfRange .. | .busPsenRelease .. | .busInRange ..
  | .busSenseFault .. | .psenReadbackFault .. | .psenReleaseDelay .. | .clusterReset .. | .trackingChange ..
  | .converterStuck .. | .converterOverload .. | .overloadTimeout .. | .frontEndSelfCheckFail .. | .converterRecovery ..
  | .profileSync .. | .snsProfileWrite .. | .larkspurReport .. | .baselineCapture .. | .baselineClear ..
  | .captureAbort .. | .captureEnd .. | .pilotStart .. | .senseClusterReinit .. | .hostPush .. | .pop ..
  | .stallTimeout .. | .heldMarkerWrite .. | .queueEnable .. | .queueDisable .. | .queueFlush .. | .queueLinkError ..
  | .queueClusterReinit .. | .breezeSend .. | .breeze .. | .yield .. | .hoRequest .. | .hoAccept .. | .hoRefuse ..
  | .hoReleased .. | .hoAbandon .. | .breezeLost .. | .draughtLost .. | .draughtYieldDetected .. | .yieldWaitExpiry ..
  | .ownershipReleaseDetected .. | .claim .. | .startHoldExpiry .. | .syncingClaimWait .. | .dualClaim ..
  | .ownershipMismatch .. | .killStart .. | .killReceived .. | .killEnd .. | .killRelease .. | .killEnable ..
  | .padWatchdog .. | .neitherEnabledFault .. | .sentinelFaultAssert .. | .faultRelease .. | .supplyFault ..
  | .temperatureFault .. | .managementWatchdogTimeout .. | .giveUpReleaseTimeout .. | .handover .. | .isolate ..
  | .restore .. | .handoverNoAnswer .. | .handoverTarget .. | .handoverClaim .. | .handoverAbandonTimeout ..
  | .alignmentTimeout .. | .gratuitousArp .. | .mirrorItem .. | .fullResyncPass .. | .onarLinkDown .. | .onarLinkUp ..
  | .digestReceive .. | .halfReady .. | .trialConfirm .. | .engineKatSlice .. | .poolCellTest .. | .injectionTest ..
  | .clockMonitorTest .. | .gateTrackingLost .. | .forbiddenGateCombination .. | .healthRecord ..
  | .partnerHealthRecord .. | .hoursWrite .. | .tempWarn .. | .supplyWarn .. | .rearm .. | .force .. | .powerOnReset ..
  | .pinReset .. | .resetRelease .. | .flashErase .. | .flashProgram .. | .flashDataAccess ..
  | .flashOperationComplete .. | .select .. | .saveConfig .. | .eraseConfig .. | .saveLibrary .. | .eraseRetirements ..
  | .raiseFloor .. | .bootOperationComplete .. | .draughtRecovery .. | .sentinelSupervisorReset ..
  | .sentinelCopiesDisagree .. | .dramCorrectedRead .. | .sramCorrectedRead .. | .lldpFrame .. | .ptpMessageSend ..
  | .cd4Return .. | .ppsPulse .. | .gustClassOverdue .. => true

end Sys2Proof
end

