-- ==== Sys2Proof/Safety.lean ====
section
/-! DEFINITION. The terms in which claims about the block are stated: what it is for a command to complete, what it leaves
unchanged, when the fabric of a half takes a request, and what a well-formed state is. -/

namespace Sys2Proof.Machine

open Sys2Proof

/-- A command completes in a next state of which P holds. -/
def Completes (c : Instr) (s : State) (P : State → Prop) : Prop := ∃ t, exec c s = .next t ∧ P t

/-- A command completes at half h alone (R35): P holds of the half afterwards, and the other half, the wired enable logic and
the queue of waiting commands are as they were. -/
def CompletesAt (c : Instr) (h : HalfId) (s : State) (P : Half → Prop) : Prop :=
  ∃ t, exec c s = .next t ∧ P (t.half h) ∧ t.half h.other = s.half h.other ∧ t.wiredFault = s.wiredFault ∧
    t.pending = s.pending

/-- Every register outside a list reads in y as in x. -/
def SameRegs (as : List Nat) (x y : Half) : Prop := ∀ a, a ∉ as → y.rd a = x.rd a

/-- Nothing but registers of a list differs between x and y. -/
def OnlyRegs (as : List Nat) (x y : Half) : Prop := y = { x with regs := y.regs } ∧ SameRegs as x y

/-- A counter of MAC p (R120). -/
def Half.counter (x : Half) (p : Nat) (c : MacCnt) : Nat := x.rd64 (Adr.MAC_CNT p (2 * c.idx))

/-- The two words of a counter of MAC p. -/
def counterRegs (p : Nat) (c : MacCnt) : List Nat := [Adr.MAC_CNT p (2 * c.idx), Adr.MAC_CNT p (2 * c.idx) + 4]

/-- The registers that show a completed unit of Gust's class i without a failure (R485, R497, R506). -/
def gustRegs (i : Nat) : List Nat := [Adr.GST_CLASS i, Adr.GST_EVENT, Adr.GST_LAST_PASS 0, Adr.GST_LAST_PASS 0 + 4]

/-- The registers that show a failed unit of Gust's class i (R485, R506). -/
def gustFailRegs (i : Nat) : List Nat := gustRegs i ++ [Adr.GST_FAIL_CNT, Adr.GST_FAULT]

/-- The registers that show an engine leaving service (R250, R252 to R254). -/
def engineRegs (e : Nat) : List Nat :=
  [Adr.ENG_STATUS e, Adr.ENG_EVENT e, Adr.ENG_FAULT e, Adr.ENG_LOAD e, Adr.PLC_STATUS, Adr.PLC_CAPACITY, Adr.PLC_EVENT,
    Adr.GRF_STATUS, Adr.GRF_COMMIT_STATUS, Adr.GRF_COMMIT_TARGET, Adr.GRF_EVENT]

/-- The registers of the channels of amplifier cluster c that follow their states (R351, R376). -/
def channelRegs (c : Nat) : List Nat :=
  (clusterChannels c).flatMap fun k => [Adr.AMP_STATUS k, Adr.AMP_EVENT k, Adr.AMP_PROBE k]

/-- The registers that show the loss of converter n, with the consequences of R382. -/
def senseLossRegs (n : Nat) : List Nat :=
  [Adr.SNS_STATUS n, Adr.SNS_EVENT n, Adr.SNS_FAULT n] ++
    (if n < 32 then [Adr.AMP_STATUS n, Adr.AMP_EVENT n, Adr.AMP_FAULT n] else if n < 64 then [Adr.AMP_FAULT (n - 32)]
      else if n < 72 then [Adr.ALM_EVAC_STATUS (n - 64), Adr.ALM_EVENT] else [])

/-- The rates that a link comes up at, by `CTRL.MODE`, with the value `SPEED` then shows (R83, R84). -/
def linkSpeeds : List (Nat × LineRate × Nat) :=
  [(1, .g10, 3), (1, .g2_5, 2), (1, .g1, 1), (2, .g2_5, 2), (3, .g1, 1), (4, .g1, 1)]

/-- A frame for transmission apart from when its present fragment began. -/
def TxFrame.frame (f : TxFrame) : TxFrame := { f with fragAt := 0 }

/-- The bits of bytes in order, most significant bit of each first. -/
def msbFirst (bytes : List Byte) : List Bool := bytes.flatMap fun b => (List.range 8).map fun i => b.getLsbD (7 - i)

/-- A bit string, read as a polynomial over GF(2) from its highest power down, modulo x^8 + x^2 + x + 1 (R49). -/
def remainder8 (bits : List Bool) : Nat :=
  bits.foldl (fun r b => if 2 * r + ofBool b < 256 then 2 * r + ofBool b else (2 * r + ofBool b) ^^^ 0x107) 0

/-- A whole frame of bytes passes the checks of R89 and R90 on port p. -/
structure GoodFrame (x : Half) (p : Nat) (bytes : List Byte) (occ : RxOcc) : Prop where
  room : bufferRoom occ (x.bufferClass (parseFrame (bytes.take (bytes.length - 4)))) bytes.length = true
  long : 64 ≤ bytes.length
  short : bytes.length ≤ x.maxFrame p
  fcs : bytes.drop (bytes.length - 4) = fcsBytes (bytes.take (bytes.length - 4))

/-- The registers that follow the shared lines and balls by themselves: `RDN.STATUS`, and status and events of the amplifier
clusters (R364, R480). -/
def lineRegsOf : List Nat :=
  [Adr.RDN_STATUS, Adr.AMPC_STATUS 0, Adr.AMPC_STATUS 1, Adr.AMPC_STATUS 2, Adr.AMPC_STATUS 3, Adr.AMPC_EVENT 0,
    Adr.AMPC_EVENT 1, Adr.AMPC_EVENT 2, Adr.AMPC_EVENT 3]

/-- A port of the fabric at rest: no held LO, no stalled pop, nothing behind it. -/
def Port.rest (p : Port) : Prop := p.heldLo = none ∧ p.stall = none ∧ p.backlog = []

/-- The fabric of a half at rest: no paired write pending, the copies of every triplicated field equal, no QSPI frame in
progress, every port at rest. -/
def AccessSt.rest (x : AccessSt) : Prop :=
  x.pw = [] ∧ x.copies = [] ∧ x.frame = none ∧ x.host.rest ∧ x.partner.rest ∧ x.mgmt.rest

/-- Nothing at a half waits behind a stalled pop. -/
def AccessSt.still (x : AccessSt) : Prop := x.frame = none ∧ x.host.backlog = [] ∧ x.mgmt.backlog = []

/-- The fabric of both halves at rest. -/
def State.rest (s : State) : Prop := s.a.acc.rest ∧ s.b.acc.rest

/-- Nothing waits behind a stalled pop at either half. -/
def State.still (s : State) : Prop := s.a.acc.still ∧ s.b.acc.still

/-- The word at an address is implemented and its region answers (R59, R60). -/
def Half.reads (x : Half) (a : Nat) : Bool := match locate a with | some l => x.up l.region | none => false

/-- The word at an address takes a write now: implemented, its region answers, no forcing and no role refuses it (R22, R59,
R60, R72). -/
def Half.takes (x : Half) (a : Nat) : Bool :=
  match locate a with
  | some l => x.up l.region && (x.writeRefused l).isNone
  | none => false

/-- A request of one of half h's own requesters, with the fabric at rest. -/
structure Asks (s : State) (h : HalfId) (q : Req) : Prop where
  own : q ≠ .partner
  answers : (s.half h).answers q = true
  rest : s.rest

/-- A write request that half h takes at an address. -/
structure Grants (s : State) (h : HalfId) (q : Req) (a : Nat) : Prop where
  asks : Asks s h q
  takes : (s.half h).takes a = true

/-- A request completes without a bus error at half h: P holds of the half afterwards, and the other half, the wired enable logic
and the queue of waiting commands are as they were. -/
def Accepted (c : Instr) (h : HalfId) (q : Req) (s : State) (P : Half → Prop) : Prop :=
  ∃ t, exec c s = .next t ∧ ((t.half h).acc.port q).resp.ok = true ∧ P (t.half h) ∧ t.half h.other = s.half h.other ∧
    t.wiredFault = s.wiredFault ∧ t.pending = s.pending

/-- A request ends in a bus error with a cause at half h (R80): no register moves but those that show the error, which hold the first since
they were read. -/
def Denied (c : Instr) (h : HalfId) (q : Req) (a cause : Nat) (s : State) : Prop :=
  ∃ t, exec c s = .next t ∧ ((t.half h).acc.port q).resp.ok = false ∧ (t.half h).bit Adr.DIE_EVENT 0 = true ∧
    ((s.half h).bit Adr.DIE_BUSERR_INFO 31 = false →
      (t.half h).bit Adr.DIE_BUSERR_INFO 31 = true ∧ (t.half h).get Adr.DIE_BUSERR_INFO 8 4 = cause ∧
      (t.half h).rd Adr.DIE_BUSERR_ADDR = BitVec.ofNat 32 a) ∧
    SameRegs [Adr.DIE_BUSERR_INFO, Adr.DIE_BUSERR_ADDR, Adr.DIE_EVENT] (s.half h) (t.half h) ∧
    t.half h.other = s.half h.other ∧ t.wiredFault = s.wiredFault ∧ t.pending = s.pending

/-- A paired write fails at half h with a cause and slot (R68, R81): shown with the first since they were read; beside what shows it only
registers of a list move. -/
def PairFails (x y : Half) (slot cause : Nat) (as : List Nat := []) : Prop :=
  y.bit Adr.DIE_EVENT 1 = true ∧
    (x.bit Adr.DIE_PWFAIL_INFO 31 = false →
      y.bit Adr.DIE_PWFAIL_INFO 31 = true ∧ y.get Adr.DIE_PWFAIL_INFO 8 4 = cause ∧ y.rd Adr.DIE_PWFAIL_ADDR = BitVec.ofNat 32 slot) ∧
    SameRegs ([Adr.DIE_PWFAIL_INFO, Adr.DIE_PWFAIL_ADDR, Adr.DIE_EVENT] ++ as) x y

/-- A register that holds what is written to it at once and does nothing else (R20, R53). -/
def Loc.plain (l : Loc) (a : Nat) : Prop :=
  l.reg.hook = .none ∧ l.reg.cls = .imm ∧ l.confirm = false ∧ ¬(Adr.HOST_MSIX 0 ≤ a ∧ a < Adr.HOST_MSIX 0 + 0x400)

/-- Half h answers a frame of plain words on QSPI: the words at the addresses (R46, R48). -/
def State.PlainReads (s : State) (h : HalfId) (as : List Nat) : Prop :=
  ∀ a ∈ as, a % 4 = 0 ∧ a < 0x8000000 ∧ (s.half h).reads a = true ∧
    ∃ l, locate a = some l ∧ l.plain a ∧ l.wideAs = .single ∧ l.reg.attr = .rw

/-- The next message in the Breeze format that reaches half h is m, of the type that a command names, in sequence, at a half that
receives (R444); after it come the others on their way. -/
structure Heard (s : State) (h : HalfId) (type : Nat) (m : BreezeMsg) (rest : List BreezeMsg) : Prop where
  waits : (s.half h.other).rdn.breezeOut = m :: rest
  type_eq : m.type = type
  live : (s.half h).live = true
  link : (s.half h).linkUp = true
  next : ∀ n, (s.half h).rdn.rxSeq = some n → m.seq = (n + 1) % 2 ^ 32

/-- Half h as the valid message m of its partner leaves it, before what the message's type adds (R444, R446). -/
def State.heard (s : State) (h : HalfId) (m : BreezeMsg) (rest : List BreezeMsg) : Half :=
  ((s.half h).takeIndex ((s.half h.other).onRdn fun r => { r with breezeOut := rest })).takeBreeze m

/-- The receptions of the eight message types: the half, the type, whether the message arrives damaged. -/
def receptionOf : Instr → Option (HalfId × Nat × Bool)
  | .breeze h bad => some (h, 1, bad)
  | .yield h bad => some (h, 2, bad)
  | .hoRequest h bad => some (h, 0x10, bad)
  | .hoAccept h bad => some (h, 0x11, bad)
  | .hoRefuse h bad => some (h, 0x12, bad)
  | .hoReleased h bad => some (h, 0x13, bad)
  | .hoAbandon h bad => some (h, 0x14, bad)
  | _ => none

/-- The registers of a half are in canonical form: equal contents are equal data. -/
def Half.regsWf (x : Half) : Prop := canonical (resetWord x.id) x.regs = true

/-- A state whose queue holds well-formed commands only. -/
def State.queueWf (s : State) : Prop := ∀ c ∈ s.pending, c.wf = true

end Sys2Proof.Machine
end

