-- ==== Sys2Proof/Certificates/Slice0/Obligations.lean ====
section
/-! DEFINITION. The statements about the block: its queue and reset, every family of commands with what it leaves unchanged, and the
whole-machine rules. Each names the rules of the spec it follows. -/

open Sys2Proof Sys2Proof.Machine

/-! The queue, the step, reset, the whole machine. -/

/-- A step runs the command at the front of the queue with the queue's rest (the block's own interface). Readings of the model: log
entry 3. -/
def Obligations.StepRunsFrontCommand : Prop :=
  ∀ (c : Instr) (rest : List Instr) (s : State), step { s with pending := c :: rest } = exec c { s with pending := rest }

/-- After reset both halves are in power-on reset, OFFLINE, with no line asserted, no kill driven and Draught static (R37, R438,
R528), every register reads its reset value (R614), FAULT_n is low (R457), no memory word differs from what an unlisted one reads
as, and nothing waits. Readings of the model: log entries 3, 4, 17. -/
def Obligations.ResetState : Prop :=
  State.reset.pending = [] ∧ State.reset.queueWf ∧ State.reset.faultLow = true ∧
  ∀ h : HalfId,
    (State.reset.half h).phase = .powerReset ∧ (State.reset.half h).role = .offline ∧
    (State.reset.half h).sent.own = false ∧ (State.reset.half h).sent.kill = false ∧
    (State.reset.half h).sent.draught = .still ∧ State.reset.gate h = false ∧
    (∀ a, (State.reset.half h).rd a = resetWord h a) ∧ (State.reset.half h).regsWf ∧
    (State.reset.half h).store.dram = [] ∧ (∀ r, (State.reset.half h).up r = false)

/-- Every step answers a next state, so no command stops the block; it takes the front command away, adds none, and keeps every
waiting command well formed; with no command waiting the block idles (log entry 3, the model's choice). Readings of the model: log
entries 3, 6. -/
def Obligations.StepKeepsQueueWellFormed : Prop :=
  ∀ s : State, ∃ t, step s = .next t ∧ t.pending = s.pending.tail ∧ (s.queueWf → t.queueWf) ∧ (s.pending = [] → t = s)

/-- The wired enable logic starts its pull on FAULT_n only with NEITHER_ENABLED_FAULT and ends it only with FAULT_RELEASE (R457,
R518): no other command of the block moves it. Readings of the model: log entries 7, 124. -/
def Obligations.WiredFaultMovesOnlyByItsTwoCommands : Prop :=
  ∀ (c : Instr) (s t : State), exec c s = .next t →
    (s.wiredFault = false → t.wiredFault = true → c = .neitherEnabledFault ∧ s.wiredCond = true) ∧
    (s.wiredFault = true → t.wiredFault = false → c = .faultRelease ∧ s.wiredCond = false)

/-- The pad gate of a half is open exactly when its line is asserted, its partner's line does not count as asserted and its partner
asserts no kill; a line counts as asserted only while the other half asserts no kill (R36, R449). In no state are both pad gates
open: at most one half drives a shared ball (R453). -/
def Obligations.GateFollowsLinesAndKills : Prop :=
  (∀ (s : State) (h : HalfId),
    s.gate h = true ↔
      (s.half h).line = true ∧ (s.half h.other).sent.kill = false ∧
      ¬ ((s.half h.other).line = true ∧ (s.half h).sent.kill = false)) ∧
  ∀ s : State, ¬ (s.gate .a = true ∧ s.gate .b = true)

/-- The CRC-8 of QSPI frames (R49): the remainder of the bytes, most significant bit first and followed by eight zero bits, modulo
x^8 + x^2 + x + 1; over the ASCII bytes "123456789" it is 0xF4. -/
def Obligations.Crc8IsThePolynomialRemainder : Prop :=
  (∀ bytes : List Byte, (crc8 bytes).toNat = remainder8 (msbFirst bytes ++ List.replicate 8 false)) ∧
  crc8 [0x31, 0x32, 0x33, 0x34, 0x35, 0x36, 0x37, 0x38, 0x39] = 0xF4

/-! Heartbeats and messages between the halves. -/

/-- BREEZE_SEND puts one message of type BREEZE with the half's role, next sequence number, plan and library generation on its way
and counts the sequence modulo 2^32; nothing else of the package changes (R444). Readings of the model: log entry 124. -/
def Obligations.BreezeSendQueuesOneMessage : Prop :=
  ∀ (h : HalfId) (s : State), (s.half h).linkUp = true → (s.half h).up .control = true → (s.half h).live = true →
    CompletesAt (.breezeSend h) h s fun x =>
      ∃ m : BreezeMsg, m.type = 1 ∧ m.role = (s.half h).role.code ∧ m.seq = (s.half h).rdn.txSeq ∧ m.arg = 0 ∧
        m.planId = (s.half h).rd Adr.GRF_PLAN_ID ∧ m.libGen = (s.half h).rd Adr.MSG_LIB_GEN ∧ m.health = (s.half h).health ∧
        x = { s.half h with rdn := { (s.half h).rdn with
          breezeOut := (s.half h).rdn.breezeOut ++ [m], txSeq := ((s.half h).rdn.txSeq + 1) % 2 ^ 32 } }

/-- Every valid message of the partner, whatever its type, makes the sender's heartbeat present: it is taken from those on their
way, its sequence number is the last, Breeze is not lost, `PARTNER_HEALTH` and the partner's role show what it says (R444, R446,
R481). A message that arrives damaged or out of sequence is counted in `HB_STATS` and changes no other register; the last valid
sequence number stays (R444). Readings of the model: log entry 124. -/
def Obligations.MessagesAreCheckedHeartbeats : Prop :=
  (∀ (c : Instr) (h : HalfId) (type : Nat) (s : State) (m : BreezeMsg) (rest : List BreezeMsg),
     receptionOf c = some (h, type, false) → Heard s h type m rest →
     Completes c s fun t =>
       (t.half h.other).rdn.breezeOut = rest ∧ (t.half h).rdn.rxSeq = some m.seq ∧
       (t.half h).sent.breezeLost = false ∧ (t.half h).bit Adr.RDN_STATUS 5 = true ∧
       (t.half h).rd Adr.RDN_PARTNER_HEALTH = m.health ∧ (t.half h).get Adr.RDN_ROLE_STATUS 8 3 = m.role % 8 ∧
       (t.half h).bit Adr.RDN_ROLE_STATUS 11 = true ∧
       t.wiredFault = s.wiredFault ∧ t.pending = s.pending) ∧
  (∀ (c : Instr) (h : HalfId) (type : Nat) (bad : Bool) (s : State) (m : BreezeMsg) (rest : List BreezeMsg),
     receptionOf c = some (h, type, bad) → (s.half h.other).rdn.breezeOut = m :: rest → m.type = type →
     (s.half h).live = true → (s.half h).linkUp = true →
     (bad = true ∨ ∃ n, (s.half h).rdn.rxSeq = some n ∧ m.seq ≠ (n + 1) % 2 ^ 32) →
     Completes c s fun t =>
       (t.half h.other).rdn.breezeOut = rest ∧ (t.half h).rdn = (s.half h).rdn ∧ (t.half h).sent = (s.half h).sent ∧
       (t.half h).get Adr.RDN_HB_STATS 16 16 = min ((s.half h).get Adr.RDN_HB_STATS 16 16 + 1) 0xFFFF ∧
       SameRegs [Adr.RDN_HB_STATS] (s.half h) (t.half h))
/-- What YIELD and the handover messages add to the heartbeat they are, at the half y that has taken it: a STANDBY half is to claim
after a yield (R447); HO_REQUEST is agreed to where the standby's checks pass (R467); HO_ACCEPT and HO_REFUSE settle what was asked
(R466, R467); HO_RELEASED lets the gratuitous ARP go (R465); HO_ABANDON ends the handover of its target (R477). Readings of the
model: log entries 115, 124, 125. -/
def Obligations.MessagesActByType : Prop :=
  ∀ (h : HalfId) (s : State) (m : BreezeMsg) (rest : List BreezeMsg) (y : Half), y = s.heard h m rest →
    (Heard s h 2 m rest → y.role = .standby →
      Completes (.yield h false) s fun t => (t.half h).sent.claiming = 2 ∧ (t.half h).sent.yieldWait = true ∧
        t.half h = { y with sent := (t.half h).sent }) ∧
    (Heard s h 0x10 m rest → y.role = .standby → y.busyCommit = false → y.bit Adr.TIM_CARRIER_ALIGN 30 = true →
      y.allTracked = true →
      Completes (.hoRequest h false) s fun t => (t.half h).sent.handover = .taking m.arg ∧
        (t.half h).rd Adr.RDN_HANDOVER_TARGET = BitVec.ofNat 32 m.arg ∧ SameRegs [Adr.RDN_HANDOVER_TARGET] y (t.half h)) ∧
    (Heard s h 0x10 m rest → y.role ≠ .standby ∨ y.busyCommit = true ∨ y.bit Adr.TIM_CARRIER_ALIGN 30 = false ∨
      y.allTracked = false →
      Completes (.hoRequest h false) s fun t => (t.half h).sent = y.sent ∧ SameRegs [] y (t.half h)) ∧
    (∀ n, Heard s h 0x11 m rest → y.sent.handover = .asked n →
      Completes (.hoAccept h false) s fun t => t.half h = { y with sent := { y.sent with handover := .agreed n } }) ∧
    (∀ n, Heard s h 0x12 m rest → y.sent.handover = .asked n →
      Completes (.hoRefuse h false) s fun t => (t.half h).sent = { y.sent with handover := .idle } ∧
        (t.half h).get Adr.RDN_HANDOVER_STATUS 24 7 = 7 ∧ (t.half h).bit Adr.RDN_HANDOVER_STATUS 31 = false ∧
        (t.half h).bit Adr.RDN_EVENT 2 = true ∧ SameRegs [Adr.RDN_HANDOVER_STATUS, Adr.RDN_EVENT] y (t.half h)) ∧
    (Heard s h 0x13 m rest → y.role = .active → y.rdn.arpAgain = none →
      Completes (.hoReleased h false) s fun t => t.half h = { y with rdn := { y.rdn with arpDue := true } }) ∧
    (Heard s h 0x14 m rest → y.sent.handover.target = some m.arg →
      Completes (.hoAbandon h false) s fun t => (t.half h).sent = { y.sent with handover := .idle } ∧
        (t.half h).get Adr.RDN_HANDOVER_STATUS 24 7 = 9 ∧ (t.half h).bit Adr.RDN_HANDOVER_STATUS 31 = false ∧
        (t.half h).bit Adr.RDN_EVENT 2 = true ∧ SameRegs [Adr.RDN_HANDOVER_STATUS, Adr.RDN_EVENT] y (t.half h))

/-- The loss and the return of the partner's heartbeats (R446, R447, R448): Breeze lost clears its bit of `RDN.STATUS` and the
validity of the partner's role and sets `EVENT.BREEZE`; Draught lost shows 0, is counted and sets `EVENT.DRAUGHT`; the yield and the
alive pattern show 2 and 1 and end the loss; a STANDBY half that sees the yield pattern is to claim; 100 µs of waiting with the line
still asserted make both count as lost. The Onar link and the sentinel (R27, R441, R443, R476): the link down and up show in
`LINK_STATUS` and `RDN.STATUS`, and what was on its way is lost; a half whose image runs and whose required regions are ready is
ready and drives the alive pattern; a supervisor reset releases line and kill and leaves the half OFFLINE; copies that all disagree
leave no line, no kill and a static Draught. Readings of the model: log entries 123, 124. -/
def Obligations.HeartbeatsLinkAndSentinel : Prop :=
  (∀ (h : HalfId) (s : State),
     ((s.half h).bit Adr.RDN_STATUS 5 = true →
       CompletesAt (.breezeLost h) h s fun x => x.bit Adr.RDN_STATUS 5 = false ∧ x.bit Adr.RDN_EVENT 0 = true ∧
         x.bit Adr.RDN_ROLE_STATUS 11 = false ∧ x.sent.breezeLost = true ∧ x.sent.own = (s.half h).sent.own) ∧
     ((s.half h).bit Adr.RDN_STATUS 6 = true ∨ (s.half h).bit Adr.RDN_STATUS 7 = true →
       CompletesAt (.draughtLost h) h s fun x => x.get Adr.RDN_STATUS 6 2 = 0 ∧ x.bit Adr.RDN_EVENT 1 = true ∧
         x.get Adr.RDN_HB_STATS 0 16 = min ((s.half h).get Adr.RDN_HB_STATS 0 16 + 1) 0xFFFF ∧
         x.sent.draughtLost = true ∧ x.sent.breezeLost = (s.half h).sent.breezeLost ∧
         SameRegs [Adr.RDN_STATUS, Adr.RDN_EVENT, Adr.RDN_HB_STATS] (s.half h) x) ∧
     ((s.half h.other).sent.draught = .yield →
       CompletesAt (.draughtYieldDetected h) h s fun x => x.get Adr.RDN_STATUS 6 2 = 2 ∧ x.sent.draughtLost = false ∧
         ((s.half h).role = .standby → x.sent.claiming = 2 ∧ x.sent.yieldWait = true) ∧
         OnlyRegs [Adr.RDN_STATUS] { s.half h with sent := x.sent } x) ∧
     ((s.half h.other).sent.draught = .alive →
       CompletesAt (.draughtRecovery h) h s fun x => x.get Adr.RDN_STATUS 6 2 = 1 ∧ x.sent.draughtLost = false ∧
         ((s.half h).bit Adr.RDN_STATUS 6 = false → x.bit Adr.RDN_EVENT 1 = true) ∧
         OnlyRegs [Adr.RDN_STATUS, Adr.RDN_EVENT] { s.half h with sent := x.sent } x) ∧
     ((s.half h).sent.yieldWait = true → s.counts h.other = true →
       CompletesAt (.yieldWaitExpiry h) h s fun x =>
         x = { s.half h with sent := { (s.half h).sent with yieldWait := false, breezeLost := true, draughtLost := true } })) ∧
  (∀ (h : HalfId) (s : State),
     ((s.half h).live = true →
       CompletesAt (.onarLinkUp h) h s fun x => x.rd Adr.RDN_LINK_STATUS = 0x8000000F#32 ∧ x.bit Adr.RDN_STATUS 4 = true ∧
         x.rdn.rxSeq = none) ∧
     ((s.half h).linkUp = true →
       Completes (.onarLinkDown h) s fun t => (t.half h).rd Adr.RDN_LINK_STATUS = 0 ∧ (t.half h).bit Adr.RDN_STATUS 4 = false ∧
         (t.half h).rdn.rxSeq = none ∧ (t.half h.other).rdn.breezeOut = [] ∧ (t.half h.other).regs = (s.half h.other).regs) ∧
     ((s.half h).live = true → (s.half h).bit Adr.DIE_BOOT_STATUS 28 = false →
       (∀ r, r.required = true → (s.half h).up r = true) → (s.half h).sent.ready = false → (s.half h).sent.dead = false →
       CompletesAt (.halfReady h) h s fun x => x.sent.ready = true ∧ x.sent.draught = .alive ∧ x.sent.giveUp = .idle) ∧
     ((s.half h).sent.dead = false →
       Completes (.sentinelSupervisorReset h) s fun t => (t.half h).sent.own = false ∧ (t.half h).sent.kill = false ∧
         (t.half h).role = .offline ∧ (t.half h).sent.draught = .alive ∧ (t.half h).sent.ready = false) ∧
     Completes (.sentinelCopiesDisagree h) s fun t => (t.half h).sent.dead = true ∧ (t.half h).sent.own = false ∧
       (t.half h).sent.kill = false ∧ (t.half h).sent.draught = .still ∧ SameRegs lineRegsOf (s.half h) (t.half h))
/-! Claims, kills and the fault line. -/

/-- How a half comes to claim (R441, R447, R451, R454): the start hold ends, the wait of SYNCING ends with the partner's plan held,
the partner's line has gone inactive; CLAIM then asserts the line and makes the half ACTIVE with the kind of its claim in
`LAST_TAKEOVER`, `SVC_ACTIVE` on both ports. A claim is made only while the partner's line does not count as asserted. Readings of
the model: log entries 111, 124, 125. -/
def Obligations.ClaimsTakeTheLine : Prop :=
  ∀ (h : HalfId) (s : State),
    ((s.half h).sent.holding = true → (s.half h).role = .offline → s.counts h.other = false →
      CompletesAt (.startHoldExpiry h) h s fun x =>
        x = { s.half h with sent := { (s.half h).sent with holding := false, claiming := 4 } }) ∧
    ((s.half h).role = .syncing → (s.half h).sent.breezeLost = true → (s.half h).holdsPlan = true →
      s.counts h.other = false →
      CompletesAt (.syncingClaimWait h) h s fun x =>
        x = { s.half h with sent := { (s.half h).sent with syncWaited := true, claiming := 5 } }) ∧
    ((s.half h).role = .standby → s.counts h.other = false → (s.half h).sent.handover = .idle →
      CompletesAt (.ownershipReleaseDetected h) h s fun x => x.sent.claiming ≠ 0 ∧
        ((s.half h).sent.claiming = 0 → x.sent.claiming = if (s.half h).sent.draughtLost then 3 else 2) ∧
        x = { s.half h with sent := x.sent }) ∧
    ((s.half h).sent.claiming ≠ 0 → (s.half h).sent.claiming < 16 → s.counts h.other = false →
      (s.half h).sent.forceCtl = false → (s.half h).sent.dead = false → (s.half h).live = true →
      Completes (.claim h) s fun t => (t.half h).sent.own = true ∧ (t.half h).role = .active ∧
        (t.half h).sent.claiming = 0 ∧ (t.half h).get Adr.RDN_LAST_TAKEOVER 28 4 = (s.half h).sent.claiming ∧
        (t.half h).bit (Adr.MAC_STATUS 0) 11 = true ∧ (t.half h).bit (Adr.MAC_STATUS 1) 11 = true ∧
        (t.half h).rdn.arpDue = true ∧ (t.half h.other).sent = (s.half h.other).sent ∧ t.pending = s.pending) ∧
    (s.counts h.other = true → exec (.claim h) s = .next s)

/-- Dual claims and lines that do not follow (R452, R459): Half B releases its line and Half A keeps its own; a half whose line does
not follow records cause 0x000A. The pulls on FAULT_n (R456, R457, R518): the wired enable logic and the sentinel assert it while
their conditions hold, FAULT_RELEASE lets go of every pull whose condition is absent; the pad watchdog drives the zero-vector and
nothing else. Readings of the model: log entries 7, 111, 124. -/
def Obligations.DualClaimsAndFaultPulls : Prop :=
  ((∀ s : State, s.counts .a = true → s.counts .b = true →
     Completes (.dualClaim false) s fun t => (t.half .b).sent = { (s.half .b).sent with own := false } ∧ (t.half .a).sent = (s.half .a).sent ∧
       t.wiredFault = s.wiredFault ∧ t.pending = s.pending ∧ SameRegs lineRegsOf (s.half .a) (t.half .a) ∧ SameRegs lineRegsOf (s.half .b) (t.half .b)) ∧
   (∀ s : State, s.counts .a = true → s.counts .b = true →
     Completes (.dualClaim true) s fun t => (t.half .b).sent.own = false ∧ (t.half .b).sent.ownStuck = some true ∧ (t.half .a).sent = (s.half .a).sent ∧
       (t.half .b).get Adr.RDN_FAULT 0 16 = 10 ∧ (t.half .b).bit Adr.RDN_FAULT 31 = true) ∧
   (∀ (h : HalfId) (reads : Bool) (s : State), reads ≠ (s.half h).sent.own →
     Completes (.ownershipMismatch h reads) s fun t => (t.half h).sent.ownStuck = some reads ∧
       (t.half h).get Adr.RDN_FAULT 0 16 = 10 ∧ (t.half h).bit Adr.RDN_FAULT 31 = true)) ∧
  ((∀ s : State, s.wiredCond = true → exec .neitherEnabledFault s = .next { s with wiredFault := true }) ∧
   (∀ s : State, s.wiredCond = false → exec .neitherEnabledFault s = .next s) ∧
   (∀ (h : HalfId) (s : State), s.sentinelCond h = true →
     CompletesAt (.sentinelFaultAssert h) h s fun x => x = { s.half h with sent := { (s.half h).sent with faultPull := true } }) ∧
   (∀ s : State, Completes .faultRelease s fun t => t.wiredFault = (s.wiredFault && s.wiredCond) ∧ t.pending = s.pending ∧
     ∀ h, t.half h = { s.half h with sent := { (s.half h).sent with
       faultPull := (s.half h).sent.faultPull && s.sentinelCond h } }) ∧
   (∀ (h : HalfId) (s : State),
     CompletesAt (.padWatchdog h) h s fun x => x = { s.half h with sent := { (s.half h).sent with padWatch := true } }))
/-- Kills (R449, R454, R455): a kill starts only while every condition of R454 holds; while it is driven the partner's line does not
count as asserted; the killed half gives up control with cause 0x0009; the kill ends once the partner has shown a role without the
line. Readings of the model: log entries 112, 124, 125. -/
def Obligations.KillsCloseThePartnersGate : Prop :=
  ∀ (h : HalfId) (s : State),
    (s.killDue h = true →
      Completes (.killStart h) s fun t => (t.half h).sent.kill = true ∧ t.counts h.other = false ∧ t.gate h.other = false ∧
        (t.half h.other).sent = (s.half h.other).sent) ∧
    (s.killDue h = false → exec (.killStart h) s = .next s) ∧
    ((s.half h.other).sent.kill = true →
      CompletesAt (.killReceived h) h s fun x => x.get Adr.RDN_FAULT 0 16 = 9 ∧ x.bit Adr.RDN_FAULT 31 = true ∧
        ((s.half h).role = .active → (s.half h).sent.giveUp = .idle → (s.half h).sent.dead = false →
          x.sent.giveUp = .detected 9 ∧ x.sent.forceData = true ∧ x.sent.forceCtl = true ∧ x.sent.forceMgmt = true ∧
          x.get Adr.RDN_YIELD_COUNT 16 8 = 9)) ∧
    (∀ v, (s.half h).sent.kill = true → (s.half h).rdn.view = some v → (s.half h).bit Adr.RDN_STATUS 5 = true →
      v.role = 0 ∨ v.role = 1 ∨ v.role = 4 → (s.half h.other).line = false →
      Completes (.killEnd h) s fun t => (t.half h).sent = { (s.half h).sent with kill := false }) ∧
    ((s.half h).bit Adr.RDN_STATUS 5 = false → exec (.killEnd h) s = .next s)

/-! Giving up control, handover, start. -/

/-- Self-diagnosis (R459, R460): each cause is recorded in `RDN.FAULT`; an ACTIVE half that has not given up yet forces its three
planes and waits for the carrier boundary, keeping its line; that boundary, or 3.0 µs without one, releases the line, switches
Draught to the yield pattern, clears `SVC_ACTIVE` and leaves the half without the ACTIVE role. Readings of the model: log entries
112, 113. -/
def Obligations.GiveUpReleasesControl : Prop :=
  (∀ (c : Instr) (cause : Nat) (h : HalfId) (s : State),
    (∃ rail, c = .supplyFault h rail ∧ cause = 5) ∨ (c = .temperatureFault h ∧ cause = 6) ∨
      (c = .managementWatchdogTimeout h ∧ cause = 7) →
    CompletesAt c h s fun x => x.get Adr.RDN_FAULT 0 16 = cause ∧ x.bit Adr.RDN_FAULT 31 = true ∧
      ((s.half h).role = .active → (s.half h).sent.giveUp = .idle → (s.half h).sent.dead = false →
        x.sent.giveUp = .detected cause ∧ x.sent.forceData = true ∧ x.sent.forceCtl = true ∧ x.sent.forceMgmt = true ∧
        x.get Adr.RDN_YIELD_COUNT 16 8 = cause ∧ x.sent.own = (s.half h).sent.own)) ∧
  (∀ (h : HalfId) (rail : Fin 12) (s : State),
    CompletesAt (.supplyFault h rail) h s fun x => x.bit Adr.DIE_RAIL_STATUS rail = false) ∧
  (∀ (h : HalfId) (cause : Nat) (s : State), (s.half h).sent.giveUp = .detected cause →
    Completes (.giveUpReleaseTimeout h) s fun t => (t.half h).sent.own = false ∧ (t.half h).sent.draught = .yield ∧
      (t.half h).sent.giveUp = .released cause ∧ (t.half h).sent.ready = false ∧
      ((t.half h).role = .offline ∨ (t.half h).role = .isolated) ∧
      (t.half h).bit (Adr.MAC_STATUS 0) 11 = false ∧ (t.half h).bit (Adr.MAC_STATUS 1) 11 = false ∧
      (t.half h.other).sent = (s.half h.other).sent)

/-- A planned handover (R466, R468, R439, R482): no answer ends it with NO_ANSWER; at the target the old half releases its line and
is STANDBY, the new half waits for that line; the new half then claims with kind 1 and its result is 0, or, while the old line still
counts, ends ABANDONED; a half made STANDBY without carrier alignment goes to SYNCING. Readings of the model: log entries 114, 115,
124. -/
def Obligations.HandoverSteps : Prop :=
  ∀ (h : HalfId) (s : State),
    (∀ n, (s.half h).sent.handover = .asked n →
      CompletesAt (.handoverNoAnswer h) h s fun x => x.sent = { (s.half h).sent with handover := .idle } ∧
        x.get Adr.RDN_HANDOVER_STATUS 24 7 = 8 ∧ x.bit Adr.RDN_HANDOVER_STATUS 31 = false ∧
        SameRegs [Adr.RDN_HANDOVER_STATUS, Adr.RDN_EVENT] (s.half h) x) ∧
    ((s.half h).sent.handover = .agreed ((s.half h).block % 2 ^ 32) →
      Completes (.handoverTarget h) s fun t => (t.half h).sent.own = false ∧ (t.half h).role = .standby ∧
        (t.half h).sent.handover = .launching (s.half h).block ∧ (t.half h).get Adr.RDN_HANDOVER_STATUS 24 7 = 0 ∧
        (t.half h.other).sent = (s.half h.other).sent) ∧
    ((s.half h).sent.handover = .taking ((s.half h).block % 2 ^ 32) →
      Completes (.handoverTarget h) s fun t =>
        (t.half h).sent = { (s.half h).sent with handover := .waiting ((s.half h).block % 2 ^ 32) } ∧
        (t.half h).rdn = (s.half h).rdn) ∧
    (∀ n, (s.half h).sent.handover = .waiting n → s.counts h.other = false → (s.half h).sent.forceCtl = false →
      (s.half h).sent.dead = false → (s.half h).live = true →
      Completes (.handoverClaim h) s fun t => (t.half h).sent.own = true ∧ (t.half h).role = .active ∧
        (t.half h).get Adr.RDN_LAST_TAKEOVER 28 4 = 1 ∧ (t.half h).get Adr.RDN_HANDOVER_STATUS 24 7 = 0 ∧
        (t.half h).sent.handover = .idle ∧ (t.half h).rdn.arpDue = false) ∧
    (∀ n, (s.half h).sent.handover = .waiting n → s.counts h.other = true →
      CompletesAt (.handoverAbandonTimeout h) h s fun x => x.sent = { (s.half h).sent with handover := .idle } ∧
        x.get Adr.RDN_HANDOVER_STATUS 24 7 = 9) ∧
    ((s.half h).sent.grace = true → (s.half h).role = .standby → (s.half h).bit Adr.TIM_CARRIER_ALIGN 30 = false →
      CompletesAt (.alignmentTimeout h) h s fun x => x.role = .syncing ∧ x.sent.grace = false ∧ x.rdn.passes = 0)


/-! The Ethernet MACs. -/

/-- A link comes up at a rate its mode supports, full duplex, with `SPEED` as the rate says, and stays down with cause 0x0002 at any
other; a link that goes down, a synchronisation that takes 1 s, the end of a management frame (R83, R84, R85, R86, R88). Readings of
the model: log entries 7, 19, 27. -/
def Obligations.PortLinkFollowsTheLine : Prop :=
  ∀ (h : HalfId) (p : PortId) (s : State),
    (∀ mode rate speed, (mode, rate, speed) ∈ linkSpeeds → (s.half h).macOn p = true → (s.half h).portUp p = false →
      (s.half h).get (Adr.MAC_CTRL p) 1 3 = mode →
      CompletesAt (.portLinkUp h p rate true) h s fun x => x.portUp p = true ∧ x.get (Adr.MAC_STATUS p) 1 2 = speed ∧
        x.bit (Adr.MAC_EVENT p) 0 = true ∧ SameRegs [Adr.MAC_STATUS p, Adr.MAC_EVENT p] (s.half h) x) ∧
    (∀ mode rate full, (mode = 2 ∨ mode = 4) → (s.half h).macOn p = true → (s.half h).portUp p = false →
      (s.half h).get (Adr.MAC_CTRL p) 1 3 = mode → (s.half h).bit (Adr.MAC_CTRL p) 13 = false →
      CompletesAt (.portLinkUp h p rate full) h s fun x => x.portUp p = true ∧
        x.get (Adr.MAC_STATUS p) 1 2 = (if mode = 2 then 2 else 1) ∧ x.bit (Adr.MAC_EVENT p) 0 = true ∧
        SameRegs [Adr.MAC_STATUS p, Adr.MAC_EVENT p] (s.half h) x) ∧
    (∀ rate full, (s.half h).macOn p = true → (s.half h).portUp p = false → (s.half h).get (Adr.MAC_CTRL p) 1 3 ≠ 0 →
      (s.half h).bit (Adr.MAC_CTRL p) 13 = true →
      full = false ∨ (∀ speed, ((s.half h).get (Adr.MAC_CTRL p) 1 3, rate, speed) ∉ linkSpeeds) →
      CompletesAt (.portLinkUp h p rate full) h s fun x => x.bit (Adr.MAC_FAULT p) 31 = true ∧
        x.get (Adr.MAC_FAULT p) 0 16 = 2 ∧ OnlyRegs [Adr.MAC_FAULT p] (s.half h) x) ∧
    ((s.half h).portUp p = true →
      CompletesAt (.portLinkDown h p) h s fun x => x.get (Adr.MAC_STATUS p) 0 3 = 0 ∧ x.get (Adr.MAC_STATUS p) 4 2 = 0 ∧
        x.get (Adr.MAC_STATUS p) 7 3 = 0 ∧ x.bit (Adr.MAC_EVENT p) 0 = true ∧ (x.mac p).assembly = none ∧
        (x.mac p).pause = none ∧ (x.mac p).frames = [] ∧ (x.mac p).fw2 = [] ∧ (x.mac p).fw3 = [] ∧
        (((s.half h).mac p).frames.all (fun f => f.ring.isNone) = true →
          x.counter p .txLinkdownDrop = ((s.half h).counter p .txLinkdownDrop + ((s.half h).mac p).frames.length +
            ((s.half h).mac p).fw2.length + ((s.half h).mac p).fw3.length) % 2 ^ 64 ∧
          SameRegs ([Adr.MAC_STATUS p, Adr.MAC_EVENT p] ++ counterRegs p .rxFcsErr ++ counterRegs p .txLinkdownDrop)
            (s.half h) x)) ∧
    ((s.half h).macOn p = true → (s.half h).portUp p = false →
      CompletesAt (.pcsSyncTimeout h p) h s fun x => x.bit (Adr.MAC_FAULT p) 31 = true ∧
        x.get (Adr.MAC_FAULT p) 0 16 = 1 ∧ OnlyRegs [Adr.MAC_FAULT p] (s.half h) x) ∧
    (∀ data : BitVec 16, (s.half h).bit (Adr.MAC_MDIO_CMD p) 31 = true →
      CompletesAt (.mdioFrameComplete h p data) h s fun x => x.bit (Adr.MAC_MDIO_CMD p) 31 = false ∧
        ((s.half h).bit (Adr.MAC_MDIO_CMD p) 30 = false → (s.half h).get (Adr.MAC_MDIO_CMD p) 28 2 = 2 →
          x.rd (Adr.MAC_MDIO_DATA p) = data.setWidth 32) ∧
        ((s.half h).bit (Adr.MAC_MDIO_CMD p) 30 = true → 2 ≤ (s.half h).get (Adr.MAC_MDIO_CMD p) 28 2 →
          x.rd (Adr.MAC_MDIO_DATA p) = data.setWidth 32) ∧
        ((s.half h).get (Adr.MAC_MDIO_CMD p) 28 2 < 2 → OnlyRegs [Adr.MAC_MDIO_CMD p] (s.half h) x) ∧
        OnlyRegs [Adr.MAC_MDIO_CMD p, Adr.MAC_MDIO_DATA p] (s.half h) x)

/-- A frame that does not fit the receive buffer, is too short, has a wrong FCS or is too long is counted and nothing else; a good
one is counted with its octets, and a filtered one delivered nowhere; a pause frame is consumed; a frame for a receive ring fills
one buffer and moves HEAD on by one (R89, R90, R91, R93, R94, R106, R114). Readings of the model: log entry 18. -/
def Obligations.ReceivedFramesAreChecked : Prop :=
  ∀ (h : HalfId) (p : PortId) (bytes : List Byte) (ofs : BlockOfs) (occ : RxOcc) (s : State), (s.half h).receives p = true →
    (bufferRoom occ ((s.half h).bufferClass (parseFrame (bytes.take (bytes.length - 4)))) bytes.length = false →
      CompletesAt (.frameReceive h p bytes ofs occ) h s fun x => x.bit (Adr.MAC_EVENT p) 2 = true ∧
        x.counter p .rxOverrun = ((s.half h).counter p .rxOverrun + 1) % 2 ^ 64 ∧
        OnlyRegs (Adr.MAC_EVENT p :: counterRegs p .rxOverrun) (s.half h) x) ∧
    (bufferRoom occ ((s.half h).bufferClass (parseFrame (bytes.take (bytes.length - 4)))) bytes.length = true →
      (bytes.length < 64 →
        CompletesAt (.frameReceive h p bytes ofs occ) h s fun x =>
          x.counter p .rxRunt = ((s.half h).counter p .rxRunt + 1) % 2 ^ 64 ∧
          OnlyRegs (counterRegs p .rxRunt) (s.half h) x) ∧
      (64 ≤ bytes.length → bytes.drop (bytes.length - 4) ≠ fcsBytes (bytes.take (bytes.length - 4)) →
        CompletesAt (.frameReceive h p bytes ofs occ) h s fun x =>
          x.counter p .rxFcsErr = ((s.half h).counter p .rxFcsErr + 1) % 2 ^ 64 ∧
          OnlyRegs (counterRegs p .rxFcsErr) (s.half h) x) ∧
      (64 ≤ bytes.length → bytes.drop (bytes.length - 4) = fcsBytes (bytes.take (bytes.length - 4)) →
        (s.half h).maxFrame p < bytes.length →
        CompletesAt (.frameReceive h p bytes ofs occ) h s fun x =>
          x.counter p .rxOversize = ((s.half h).counter p .rxOversize + 1) % 2 ^ 64 ∧
          OnlyRegs (counterRegs p .rxOversize) (s.half h) x)) ∧
    (∀ f, f = parseFrame (bytes.take (bytes.length - 4)) → GoodFrame (s.half h) p bytes occ →
      (f.etype ≠ 0x8808 → (s.half h).daAccepted p f.da = false →
        CompletesAt (.frameReceive h p bytes ofs occ) h s fun x =>
          x.counter p .rxFrames = ((s.half h).counter p .rxFrames + 1) % 2 ^ 64 ∧
          x.counter p .rxOctets = ((s.half h).counter p .rxOctets + bytes.length) % 2 ^ 64 ∧
          x.counter p .rxFiltered = ((s.half h).counter p .rxFiltered + 1) % 2 ^ 64 ∧
          OnlyRegs (counterRegs p .rxFrames ++ counterRegs p .rxOctets ++ counterRegs p .rxFiltered ++ counterRegs p .rxBcast ++
            counterRegs p .rxMcast) (s.half h) x) ∧
      (f.etype = 0x8808 → beAt f.body 0 2 = 1 → (s.half h).bit (Adr.MAC_CTRL p) 4 = false →
        CompletesAt (.frameReceive h p bytes ofs occ) h s fun x =>
          x.counter p .rxPause = ((s.half h).counter p .rxPause + 1) % 2 ^ 64 ∧
          x.counter p .rxFrames = ((s.half h).counter p .rxFrames + 1) % 2 ^ 64 ∧ x.macs = (s.half h).macs) ∧
      (f.etype ≠ 0x8808 → f.etype ≠ 0x86DD → f.ptpFrame = none → (s.half h).alarmUdp f = none → f.flowPkt = none →
        f.controlFrame = false → f.tci = none → f.badTag = false → (s.half h).daAccepted p f.da = true →
        (s.half h).exactMatch p f.da = none →
        ∀ r, r = (s.half h).get (Adr.MAC_RX_STEER p) 0 2 → 2 ≤ r → (s.half h).ringOn p false r = true →
          (s.half h).bit (ringAdr p false r 0x18) 1 = false → 0 < (s.half h).ringAvail p false r →
          bytes.length - 4 ≤ (s.half h).bufBytes p r →
          bitAt (getAt (((s.half h).ringMem p false r).desc ((s.half h).ringHead p false r)) 2 0) 31 = true →
          CompletesAt (.frameReceive h p bytes ofs occ) h s fun x =>
            x.counter p .rxFrames = ((s.half h).counter p .rxFrames + 1) % 2 ^ 64 ∧
            x.ringHead p false r = ((s.half h).ringHead p false r + 1) % (s.half h).ringSize p false r ∧
            x.bit (ringAdr p false r 0x18) 1 = false))

/-- A MAC control frame with another opcode than 0x0001 that passes the checks of a frame is discarded and counted in
`RX_MACCTRL_UNSUP`: beside that counter and those of octets and frames received nothing may change (R108). -/
def Obligations.OtherControlFramesAreDiscarded : Prop :=
  ∀ (h : HalfId) (p : PortId) (bytes : List Byte) (ofs : BlockOfs) (occ : RxOcc) (s : State) (f : Parsed),
    (s.half h).receives p = true → GoodFrame (s.half h) p bytes occ → f = parseFrame (bytes.take (bytes.length - 4)) →
    f.etype = 0x8808 → beAt f.body 0 2 ≠ 1 →
    CompletesAt (.frameReceive h p bytes ofs occ) h s fun x =>
      x.counter p .rxMacctrlUnsup = ((s.half h).counter p .rxMacctrlUnsup + 1) % 2 ^ 64 ∧
      OnlyRegs (counterRegs p .rxMacctrlUnsup ++ counterRegs p .rxFrames ++ counterRegs p .rxOctets ++ counterRegs p .rxBcast ++
        counterRegs p .rxMcast) (s.half h) x

/-- An mPacket: an express frame is received as a whole frame is; an unknown SMD, or a fragment while preemption is inactive, is
counted; a first fragment opens a reassembly; a continuation without one, or out of order, ends it with an assembly error; a respond
mPacket ends a verification under way (R102, R104). Readings of the model: log entry 18. -/
def Obligations.MPacketsReassemble : Prop :=
  ∀ (h : HalfId) (p : PortId) (ofs : BlockOfs) (occ : RxOcc) (s : State), (s.half h).receives p = true →
    (∀ bytes, exec (.mpacketReceive h p (.express bytes) ofs occ) s = exec (.frameReceive h p bytes ofs occ) s) ∧
    (CompletesAt (.mpacketReceive h p .unknown ofs occ) h s fun x =>
      x.counter p .rxSmdErr = ((s.half h).counter p .rxSmdErr + 1) % 2 ^ 64 ∧ OnlyRegs (counterRegs p .rxSmdErr) (s.half h) x) ∧
    ((s.half h).preemptOn p = false → ∀ n count bytes last,
      CompletesAt (.mpacketReceive h p (.cont n count bytes last) ofs occ) h s fun x =>
        x.counter p .rxSmdErr = ((s.half h).counter p .rxSmdErr + 1) % 2 ^ 64 ∧
        OnlyRegs (counterRegs p .rxSmdErr) (s.half h) x) ∧
    ((s.half h).preemptOn p = true → (s.half h).macs.length = 2 → (s.half h).mac p = MacSt.init → ∀ n bytes,
      CompletesAt (.mpacketReceive h p (.start n bytes false) ofs occ) h s fun x =>
        (x.mac p).assembly = some ⟨n, 0, (s.half h).now ofs, bytes⟩ ∧
        x.counter p .rxFragments = ((s.half h).counter p .rxFragments + 1) % 2 ^ 64 ∧
        SameRegs (counterRegs p .rxFragments) (s.half h) x) ∧
    ((s.half h).preemptOn p = true → ∀ a (n count : Fin 4) bytes last, (s.half h).mac p = { MacSt.init with assembly := some a } →
      a.n ≠ n.val ∨ a.next ≠ count.val →
      CompletesAt (.mpacketReceive h p (.cont n count bytes last) ofs occ) h s fun x =>
        (x.mac p).assembly = none ∧ x.bit (Adr.MAC_EVENT p) 3 = true ∧
        x.counter p .rxAssyErr = ((s.half h).counter p .rxAssyErr + 1) % 2 ^ 64) ∧
    ((s.half h).preemptOn p = true → ∀ a (n count : Fin 4) bytes, (s.half h).mac p = { MacSt.init with assembly := some a } →
      a.n = n.val → a.next = count.val →
      CompletesAt (.mpacketReceive h p (.cont n count bytes false) ofs occ) h s fun x =>
        (x.mac p).assembly = some ⟨n, (count.val + 1) % 4, a.start, a.bytes ++ bytes⟩) ∧
    ((s.half h).get (Adr.MAC_STATUS p) 7 3 = 2 →
      CompletesAt (.mpacketReceive h p .respond ofs occ) h s fun x => x.get (Adr.MAC_STATUS p) 7 3 = 3)

/-- Transmission (R96, R97, R98, R99, R103, R114, R120): the oldest waiting frame goes on the wire when the MAC can start it,
cutting a preemptable one of which enough has gone and enough remains; an underrun ends a ring's frame with a bad FCS, counted, and
raises the threshold; a frame whose last byte leaves is counted with its FCS, and one cut for it goes on; an audio frame that is
late is discarded and counted. Readings of the model: log entries 19, 20, 23. -/
def Obligations.TransmissionCounts : Prop :=
  ∀ (h : HalfId) (p : PortId) (s : State),
    (∀ (ofs : BlockOfs) f rest, (s.half h).canStart p 7 ofs = true → ((s.half h).mac p).txq7 = f :: rest →
      ((s.half h).mac p).current = none →
      CompletesAt (.txFrameStart h p .txq7 ofs) h s fun x =>
        x.mac p = { (s.half h).mac p with txq7 := rest, current := some (f.onWire ((s.half h).now ofs)) } ∧
        x.regs = (s.half h).regs) ∧
    (∀ (ofs : BlockOfs) f rest c, (s.half h).canStart p 7 ofs = true → ((s.half h).mac p).txq7 = f :: rest →
      ((s.half h).mac p).current = some c →
      CompletesAt (.txFrameStart h p .txq7 ofs) h s fun x =>
        (x.mac p).current = some (f.onWire ((s.half h).now ofs)) ∧
        (x.mac p).cut = some { c with fragSent := c.fragSent + (s.half h).fragBytes p c ofs } ∧
        64 * (1 + (s.half h).get (Adr.MAC_CTRL p) 8 2) ≤ (s.half h).fragBytes p c ofs ∧
        c.fragSent + (s.half h).fragBytes p c ofs + 64 ≤ c.bytes.length + 4 ∧
        x.counter p .txPreemptions = ((s.half h).counter p .txPreemptions + 1) % 2 ^ 64 ∧
        SameRegs (counterRegs p .txPreemptions ++ counterRegs p .txFragments) (s.half h) x) ∧
    (∀ f r first n, ((s.half h).mac p).current = some f → f.ring = some (r, first, n) → r < 4 →
      CompletesAt (.txUnderrun h p false) h s fun x => (x.mac p).current.map TxFrame.frame = ((s.half h).mac p).cut.map TxFrame.frame ∧
        x.counter p .txUnderrun = ((s.half h).counter p .txUnderrun + 1) % 2 ^ 64 ∧ x.bit (Adr.MAC_EVENT p) 5 = true ∧
        x.get (Adr.MAC_TX_START_THRESH p) 0 4 = min 8 (clampNat 1 8 ((s.half h).get (Adr.MAC_TX_START_THRESH p) 0 4) + 1) ∧
        x.get (ringAdr p true r 0x14) 0 12 = (first + n) % (s.half h).ringSize p true r) ∧
    (∀ f r first n, ((s.half h).mac p).current = some f → f.ring = some (r, first, n) → r < 4 →
      CompletesAt (.txUnderrun h p true) h s fun x => (x.mac p).current.map TxFrame.frame = ((s.half h).mac p).cut.map TxFrame.frame ∧
        x.bit (Adr.MAC_FAULT p) 31 = true ∧ x.get (Adr.MAC_FAULT p) 0 16 = 7) ∧
    (∀ f, ((s.half h).mac p).current = some f → f.tsTag = none → f.ring = none →
      CompletesAt (.txFrameComplete h p) h s fun x => (x.mac p).current.map TxFrame.frame = ((s.half h).mac p).cut.map TxFrame.frame ∧
        (x.mac p).cut = none ∧ (x.mac p).lastSent = f.bytes ++ fcsBytes f.bytes ∧
        x.counter p .txFrames = ((s.half h).counter p .txFrames + 1) % 2 ^ 64 ∧
        x.counter p .txOctets = ((s.half h).counter p .txOctets + f.bytes.length + 4) % 2 ^ 64) ∧
    (∀ f n q rest, ((s.half h).mac p).txq6 = f :: rest → f.slot = some (n, q) → n < 1024 →
      CompletesAt (.txLateDrop h p) h s fun x => (x.mac p).txq6 = rest ∧
        x.counter p .txLateDrop = ((s.half h).counter p .txLateDrop + 1) % 2 ^ 64 ∧ x.bit (Adr.FTX_EVENT n) 1 = true ∧
        SameRegs (counterRegs p .txLateDrop ++ [Adr.FTX_EVENT n, Adr.TX_STAT (2 * n + 1)]) (s.half h) x)

/-- Verification, pause, impairment and low-power idle (R102, R106, R107, R109, R110, R111): each changes its field of `STATUS`,
counts and raises the event its rule names. Readings of the model: log entries 7, 41. -/
def Obligations.PortStatesFollowTheirTimers : Prop :=
  ∀ (h : HalfId) (p : PortId) (s : State),
    ((s.half h).get (Adr.MAC_STATUS p) 7 3 = 2 →
      CompletesAt (.verifyRespond h p) h s fun x => x.get (Adr.MAC_STATUS p) 7 3 = 3 ∧ x.bit (Adr.MAC_EVENT p) 6 = true ∧
        x.bit (Adr.MAC_STATUS p) 10 = (s.half h).bit (Adr.MAC_CTRL p) 6 ∧
        OnlyRegs [Adr.MAC_STATUS p, Adr.MAC_EVENT p] (s.half h) x) ∧
    ((s.half h).get (Adr.MAC_STATUS p) 7 3 = 2 →
      clampNat 1 7 ((s.half h).get (Adr.MAC_VERIFY_LIMIT p) 0 3) ≤ ((s.half h).mac p).verifyTries →
      CompletesAt (.verifyTimeout h p) h s fun x => x.get (Adr.MAC_STATUS p) 7 3 = 4 ∧ x.get (Adr.MAC_FAULT p) 0 16 = 4 ∧
        x.bit (Adr.MAC_FAULT p) 31 = true ∧ x.bit (Adr.MAC_EVENT p) 6 = true ∧
        OnlyRegs [Adr.MAC_STATUS p, Adr.MAC_EVENT p, Adr.MAC_FAULT p] (s.half h) x) ∧
    ((s.half h).get (Adr.MAC_STATUS p) 7 3 = 2 →
      ((s.half h).mac p).verifyTries < clampNat 1 7 ((s.half h).get (Adr.MAC_VERIFY_LIMIT p) 0 3) →
      CompletesAt (.verifyTimeout h p) h s fun x => x.regs = (s.half h).regs) ∧
    (∀ (quanta : BitVec 16) (ofs : BlockOfs), (s.half h).macOn p = true → (s.half h).portUp p = true →
      (s.half h).bit (Adr.MAC_CTRL p) 4 = true → ((s.half h).mac p).pause = none → (s.half h).macs.length = 2 →
      CompletesAt (.pauseFrame h p quanta ofs) h s fun x =>
        x.counter p .rxPause = ((s.half h).counter p .rxPause + 1) % 2 ^ 64 ∧
        (quanta ≠ 0 → x.bit (Adr.MAC_STATUS p) 4 = true ∧ (x.mac p).pause =
          some ((s.half h).now ofs, quanta.toNat * 512 * (s.half h).bitTenths p / 10)) ∧
        (quanta = 0 → x.bit (Adr.MAC_STATUS p) 4 = (s.half h).bit (Adr.MAC_STATUS p) 4 ∧ (x.mac p).pause = none) ∧
        SameRegs (Adr.MAC_STATUS p :: counterRegs p .rxPause) (s.half h) x) ∧
    (∀ start len, ((s.half h).mac p).pause = some (start, len) →
      CompletesAt (.pauseExpiry h p) h s fun x => x.bit (Adr.MAC_STATUS p) 4 = false ∧ (x.mac p).pause = none ∧
        x.counter p .pausedNs = ((s.half h).counter p .pausedNs + len) % 2 ^ 64 ∧
        SameRegs (Adr.MAC_STATUS p :: counterRegs p .pausedNs) (s.half h) x) ∧
    (((s.half h).mac p).pause.isSome = true → (s.half h).bit (Adr.MAC_STATUS p) 3 = false →
      CompletesAt (.portImpaired h p) h s fun x => x.bit (Adr.MAC_STATUS p) 3 = true ∧ x.bit (Adr.MAC_EVENT p) 1 = true ∧
        x.get (Adr.MAC_FAULT p) 0 16 = 3 ∧ OnlyRegs [Adr.MAC_STATUS p, Adr.MAC_EVENT p, Adr.MAC_FAULT p] (s.half h) x) ∧
    (((s.half h).mac p).pause = none → (s.half h).bit (Adr.MAC_STATUS p) 3 = true →
      CompletesAt (.impairmentEnd h p) h s fun x => x.bit (Adr.MAC_STATUS p) 3 = false ∧ x.bit (Adr.MAC_EVENT p) 1 = true ∧
        OnlyRegs [Adr.MAC_STATUS p, Adr.MAC_EVENT p] (s.half h) x) ∧
    (∀ ofs : BlockOfs, (s.half h).macOn p = true → (s.half h).portUp p = true →
      (s.half h).txIdle p = true → (s.half h).lpiAllowed p = true → (s.half h).bit (Adr.MAC_STATUS p) 5 = false → (s.half h).macs.length = 2 →
      CompletesAt (.lpiEntry h p ofs) h s fun x => x.bit (Adr.MAC_STATUS p) 5 = true ∧
        x.counter p .lpiEntries = ((s.half h).counter p .lpiEntries + 1) % 2 ^ 64 ∧
        (x.mac p).lpiSince = (s.half h).now ofs ∧ SameRegs (Adr.MAC_STATUS p :: counterRegs p .lpiEntries) (s.half h) x) ∧
    (∀ ofs : BlockOfs, (s.half h).bit (Adr.MAC_STATUS p) 5 = true →
      CompletesAt (.lpiWake h p ofs) h s fun x => x.bit (Adr.MAC_STATUS p) 5 = false ∧
        x.counter p .lpiNs =
          ((s.half h).counter p .lpiNs + ((s.half h).now ofs - ((s.half h).mac p).lpiSince)) % 2 ^ 64 ∧
        OnlyRegs (Adr.MAC_STATUS p :: counterRegs p .lpiNs) (s.half h) x) ∧
    (∀ (addFrag : Fin 4) (tw : BitVec 16), (s.half h).macOn p = true → (s.half h).portUp p = true →
      CompletesAt (.lldpFrame h p addFrag (some tw)) h s fun x => x.get (Adr.MAC_CTRL p) 8 2 = addFrag ∧
        x.rd (Adr.MAC_EEE_TW p) = tw.setWidth 32 ∧
        SameRegs ([Adr.MAC_CTRL p, Adr.MAC_EEE_TW p, Adr.MAC_STATUS p] ++ counterRegs p .lpiNs) (s.half h) x)

/-! Flows. -/

/-- A receive slot releases one position (R136, R140, R144, R145): the buffered sample, gone from the buffer and now the last one; a
missing one repeats the last, up to four times; a WAITING slot puts nothing out. No register outside the receive slots' pages moves.
Readings of the model: log entries 31, 146. -/
def Obligations.PlayoutReleasesOnePosition : Prop :=
  ∀ (h : HalfId) (n : SlotId) (pos : Fin 12) (s : State),
    (s.half h).up .flow = true → (s.half h).live = true → ((s.half h).rxCfg n).en = true → ((s.half h).rxCfg n).paired = false →
    pos.val < (s.half h).blockLen → ((s.half h).rxs_ n).next ≤ (s.half h).mediaIdx + pos →
    ((s.half h).rxs_ n).hold = false → ((s.half h).rxs_ n).changing = none → ((s.half h).rxs_ n).fade = none →
    ((s.half h).rxCfg n).link ≤ (s.half h).mediaIdx + pos →
    (∀ ws, (((s.half h).rxs_ n).buf.find? fun e => e.1 == (s.half h).mediaIdx + pos - ((s.half h).rxCfg n).link) =
        some ((s.half h).mediaIdx + pos - ((s.half h).rxCfg n).link, ws) → (s.half h).rxState n = 2 →
      CompletesAt (.playoutRelease h n pos) h s fun x =>
        (x.rxs_ n).next = (s.half h).mediaIdx + pos + 1 ∧ (x.rxs_ n).miss = 0 ∧
        (x.rxs_ n).last = ws.map (fun w => fMul w ((s.half h).gainWord (min (s.half h).fadeLen (((s.half h).rxs_ n).gain + 1)))) ∧
        (x.rxs_ n).gain = min (s.half h).fadeLen (((s.half h).rxs_ n).gain + 1) ∧
        (∀ e ∈ (x.rxs_ n).buf, (s.half h).mediaIdx + pos < e.1 + ((s.half h).rxCfg n).link) ∧
        (∀ a, a < 0x40000 ∨ 0x50000 ≤ a → x.rd a = (s.half h).rd a)) ∧
    ((((s.half h).rxs_ n).buf.find? fun e => e.1 == (s.half h).mediaIdx + pos - ((s.half h).rxCfg n).link) = none →
      (s.half h).rxState n = 2 → ((s.half h).rxs_ n).miss < 4 →
      CompletesAt (.playoutRelease h n pos) h s fun x =>
        (x.rxs_ n).next = (s.half h).mediaIdx + pos + 1 ∧ (x.rxs_ n).last = ((s.half h).rxs_ n).last ∧
        (x.rxs_ n).miss = ((s.half h).rxs_ n).miss + 1 ∧ (∀ a, a < 0x40000 ∨ 0x50000 ≤ a → x.rd a = (s.half h).rd a)) ∧
    ((((s.half h).rxs_ n).buf.find? fun e => e.1 == (s.half h).mediaIdx + pos - ((s.half h).rxCfg n).link) = none →
      (s.half h).rxState n = 1 →
      CompletesAt (.playoutRelease h n pos) h s fun x =>
        (x.rxs_ n).next = (s.half h).mediaIdx + pos + 1 ∧ (x.rxs_ n).last = ((s.half h).rxs_ n).last ∧
        (∀ a, a < 0x40000 ∨ 0x50000 ≤ a → x.rd a = (s.half h).rd a))

/-- A path with nothing accepted for 4 packet times and 1 ms is down; a slot whose fade has ended takes its committed configuration,
its statistics from 0 (R141, R143, R161, R169); a RUNNING transmit slot hands its packet to its port when its instant has come, and
an impaired port discards it (R107, R148, R150, R152). Readings of the model: log entries 7, 29, 32, 33. -/
def Obligations.FlowSlotEvents : Prop :=
  ∀ (h : HalfId) (n : SlotId) (s : State),
    (∀ t, ((s.half h).rxs_ n).lastArr = some t → (s.half h).bit (Adr.FRX_STATUS n) 4 = true →
      t + max 1000000 (4 * ptimeNs ((s.half h).rxCfg n).ptime) ≤ (s.half h).now 125000 →
      CompletesAt (.pathTimeout h n) h s fun x => x.bit (Adr.FRX_STATUS n) 4 = false ∧ x.bit (Adr.FRX_EVENT n) 1 = true ∧
        OnlyRegs [Adr.FRX_STATUS n, Adr.FRX_EVENT n] (s.half h) x) ∧
    ((s.half h).rxState n = 4 → ((s.half h).rxs_ n).leave = 0 → ((s.half h).rxs_ n).changing.isSome = true →
      (s.half h).rxMembers n = [n.val] → ((s.half h).rxCommitted n).en = true → ((s.half h).rxCommitted n).paired = false →
      ((s.half h).rxCfg n).paired = false →
      CompletesAt (.changingEnd h n) h s fun x => x.rxState n = 1 ∧ x.bit (Adr.FRX_EVENT n) 0 = true ∧
        (x.rxs_ n).changing = none ∧ (x.rxs_ n).buf = [] ∧ (x.rxs_ n).next = (s.half h).mediaIdx ∧
        (∀ w, w < 4 → x.rd (Adr.RX_STAT (4 * n + w)) = 0) ∧
        SameRegs [Adr.FRX_STATUS n, Adr.FRX_EVENT n, Adr.RX_STAT (4 * n), Adr.RX_STAT (4 * n + 1), Adr.RX_STAT (4 * n + 2),
          Adr.RX_STAT (4 * n + 3)] (s.half h) x) ∧
    (∀ (ofs : BlockOfs) c m0 (p : PortId), (s.half h).txCfgAt n ((s.half h).mediaAt ofs) = some (c, m0) →
      bitAt c.timing 31 = false → getBits c.timing 12 1 = p → (s.half h).get (Adr.FTX_STATUS n) 0 3 = 1 →
      (s.half h).up .flow = true → (s.half h).live = true →
      (m0 + packetSamples (s.half h).rate96 (getBits c.format 8 3)) * 125000 / (s.half h).blockLen +
        500 * (s.half h).get (Adr.FTX_STATUS n) 16 12 ≤ (s.half h).mediaIdx * 125000 / (s.half h).blockLen + ofs →
      ((s.half h).bit (Adr.MAC_STATUS p) 3 = false → (s.half h).macOn p = true → (s.half h).portUp p = true →
        (s.half h).macs.length = 2 →
        CompletesAt (.packetLaunch h n ofs) h s fun x => (x.txs_ n).last = some m0 ∧ x.regs = (s.half h).regs ∧
          ∃ f : TxFrame, (x.mac p).txq6 = ((s.half h).mac p).txq6 ++ [f] ∧ f.bytes = (s.half h).txFrame c c m0 ∧ f.queue = 6 ∧
            f.slot.map Prod.fst = some n.val) ∧
      ((s.half h).bit (Adr.MAC_STATUS p) 3 = true →
        CompletesAt (.packetLaunch h n ofs) h s fun x => (x.txs_ n).last = some m0 ∧ x.macs = (s.half h).macs ∧
          x.counter p .txLateDrop = ((s.half h).counter p .txLateDrop + 1) % 2 ^ 64 ∧ x.bit (Adr.FTX_EVENT n) 1 = true ∧
          SameRegs (counterRegs p .txLateDrop ++ [Adr.FTX_EVENT n, Adr.TX_STAT (2 * n + 1)]) (s.half h) x))

/-- The commands that a host sends on Q0 (R156, R157): each is taken from the queue, acted on and answered on Q1 with its tag; y is
the half with the item taken. Readings of the model: log entries 22, 28. -/
def Obligations.FirmwareCommandsAreAnswered : Prop :=
  ∀ (h : HalfId) (s : State) (d : Nat) (y : Half),
    ((s.half h).takeCommand 0x21 = some (d, y) →
      (∀ a, pickSlot (y.flow.slots (d.testBit 39)) none = some a → d.testBit 38 = false →
        CompletesAt (.flowOpen h) h s fun x =>
          x = { y with flow := y.flow.setSlots (d.testBit 39) (a :: y.flow.slots (d.testBit 39)) }.answer 0x21
            (d / 2 ^ 40 % 256) 0 a) ∧
      (pickSlot (y.flow.slots (d.testBit 39)) none = none →
        CompletesAt (.flowOpen h) h s fun x => x = y.answer 0x21 (d / 2 ^ 40 % 256) 1 0)) ∧
    ((s.half h).takeCommand 0x22 = some (d, y) → (s.half h).get Adr.GRF_STATUS 0 3 = 0 →
      ((y.flow.slots (d.testBit 39)).contains (d % 1024) = false →
        CompletesAt (.flowClose h) h s fun x => x = y.answer 0x22 (d / 2 ^ 40 % 256) 2 (d % 1024)) ∧
      (y.flow.slots (d.testBit 39) = [d % 1024] →
        CompletesAt (.flowClose h) h s fun x => x.flow.closing = (d.testBit 39, d % 1024) :: y.flow.closing ∧
          x.staged (slotCtrl (d.testBit 39) (d % 1024)) =
            setBits (y.staged (slotCtrl (d.testBit 39) (d % 1024))) 0 1 0 ∧
          SameRegs [Adr.QM_DROP_CNT 1] y x)) ∧
    ((s.half h).takeCommand 0x11 = some (d, y) → y.net.length = 2 →
      (badAddr (d % 2 ^ 32) (d / 2 ^ 32 % 64) = true →
        CompletesAt (.netAddr h) h s fun x => x = y.answer 0x11 (d / 2 ^ 40 % 256) 3 0) ∧
      (badAddr (d % 2 ^ 32) (d / 2 ^ 32 % 64) = false → d.testBit 38 = false →
        CompletesAt (.netAddr h) h s fun x => (x.netOf (d / 2 ^ 39 % 2)).ownIp = BitVec.ofNat 32 (d % 2 ^ 32) ∧
          (x.netOf (d / 2 ^ 39 % 2)).ownPrefix = d / 2 ^ 32 % 64 ∧
          (x.netOf (d / 2 ^ 39 % 2)).svcIp = (y.netOf (d / 2 ^ 39 % 2)).svcIp ∧ SameRegs [Adr.QM_DROP_CNT 1] y x) ∧
      (badAddr (d % 2 ^ 32) (d / 2 ^ 32 % 64) = false → d.testBit 38 = true → y.role = .standby ∨ y.role = .syncing →
        CompletesAt (.netAddr h) h s fun x => x = y.answer 0x11 (d / 2 ^ 40 % 256) 4 0)) ∧
    ((s.half h).takeCommand 0x12 = some (d, y) → y.net.length = 2 →
      (y.role = .active ∨ y.role = .offline ∨ y.role = .isolated →
        CompletesAt (.ptpAttr h) h s fun x => (x.netOf (d / 2 ^ 39 % 2)).priority1 = d / 2 ^ 24 % 256 ∧
          (x.netOf (d / 2 ^ 39 % 2)).priority2 = d / 2 ^ 16 % 256 ∧ (x.netOf (d / 2 ^ 39 % 2)).clockClass = d / 2 ^ 8 % 256 ∧
          (x.netOf (d / 2 ^ 39 % 2)).clockAccuracy = d % 256 ∧ SameRegs [Adr.QM_DROP_CNT 1] y x) ∧
      (y.role = .standby ∨ y.role = .syncing →
        CompletesAt (.ptpAttr h) h s fun x => x = y.answer 0x12 (d / 2 ^ 40 % 256) 4 0))

/-- Memberships, queries and ARP (R157, R158, R465): the memberships become those that are needed; a query notes the querier's
version; a request for an own address is answered on its port; the ACTIVE half that owes it sends one gratuitous ARP for each port
whose service address is set, and owes a second. No register moves but the counts of frames discarded on a port without link. SAP
(R154, R155): a new receivable flow is kept and reported, a deletion or an expiry forgets it and reports that, a refresh with the
same version changes nothing; the ACTIVE half announces its RUNNING slots. Readings of the model: log entries 21, 34, 35, 115. -/
def Obligations.NetworkFirmwareAnswersAndSap : Prop :=
  (∀ (h : HalfId) (s : State), (s.half h).fwRuns = true →
     ((∀ g ∈ (s.half h).flow.joined, g.1 < 2) →
       CompletesAt (.membershipUpdate h) h s fun x => x.flow = { (s.half h).flow with joined := (s.half h).neededGroups } ∧
       SameRegs (counterRegs 0 .txLinkdownDrop ++ counterRegs 1 .txLinkdownDrop) (s.half h) x) ∧
     (∀ (p : PortId) v2, (s.half h).macOn p = true → (s.half h).portUp p = true →
       CompletesAt (.igmpQuery h p v2) h s fun x => x.flow.igmpV2.contains p.val = v2 ∧
         (∀ r : Nat, r ≠ p → x.flow.igmpV2.contains r = (s.half h).flow.igmpV2.contains r) ∧
         x.flow.joined = (s.half h).flow.joined ∧ x.regs = (s.half h).regs) ∧
     (∀ (p : PortId) target sender mac, (s.half h).macOn p = true → (s.half h).portUp p = true → (s.half h).macs.length = 2 →
       target ≠ 0 → target = ((s.half h).netOf p).ownIp ∨ (target = ((s.half h).netOf p).svcIp ∧ (s.half h).role = .active) →
       CompletesAt (.arpRequest h p target sender mac) h s fun x => x.regs = (s.half h).regs ∧
         x.mac p = { (s.half h).mac p with
           fw2 := ((s.half h).mac p).fw2 ++ [.arpReply target.toNat sender.toNat (beBytes 6 mac.toNat)] }) ∧
     ((s.half h).role = .active → (s.half h).rdn.arpDue = true → (s.half h).rdn.arpAgain = none → (s.half h).macs.length = 2 →
       CompletesAt (.gratuitousArp h) h s fun x => x.rdn.arpDue = false ∧ x.rdn.arpAgain = some ((s.half h).age + 800) ∧
         ∀ p : PortId, (s.half h).macOn p = true → (s.half h).portUp p = true → ((s.half h).netOf p).svcIp ≠ 0 →
           (x.mac p).fw2 = ((s.half h).mac p).fw2 ++ [.gratuitousArp ((s.half h).netOf p).svcIp.toNat])) ∧
  (∀ (h : HalfId) (s : State), (s.half h).fwRuns = true →
     (∀ i : SapInfo, ((s.half h).flow.sap.find? fun e => sapSame e.info i) = none → sapReceivable i = true →
       CompletesAt (.sapAnnouncement h i false) h s fun x =>
         x.flow = { (s.half h).flow with sap := ((s.half h).flow.sap.filter fun e => !sapSame e.info i) ++ [⟨i⟩] } ∧
         x.bit Adr.EVT_SYS_EVENT 0 = true ∧ SameRegs [Adr.EVT_SYS_EVENT, Adr.QM_DROP_CNT 12] (s.half h) x) ∧
     (∀ (i : SapInfo) e, ((s.half h).flow.sap.find? fun e => sapSame e.info i) = some e →
       (CompletesAt (.sapAnnouncement h i true) h s fun x =>
         x.flow = { (s.half h).flow with sap := (s.half h).flow.sap.filter fun e => !sapSame e.info i } ∧
         x.bit Adr.EVT_SYS_EVENT 0 = true ∧ SameRegs [Adr.EVT_SYS_EVENT, Adr.QM_DROP_CNT 12] (s.half h) x) ∧
       (e.info.version = i.version → exec (.sapAnnouncement h i false) s = .next s)) ∧
     (∀ src session e, ((s.half h).flow.sap.find? fun e => e.info.src == src && e.info.session == session) = some e →
       CompletesAt (.sapExpiry h src session) h s fun x =>
         x.flow.sap = ((s.half h).flow.sap.filter fun k => !sapSame k.info e.info) ∧ x.bit Adr.EVT_SYS_EVENT 0 = true ∧
         SameRegs [Adr.EVT_SYS_EVENT, Adr.QM_DROP_CNT 12] (s.half h) x) ∧
     ((s.half h).role = .active →
       CompletesAt (.sapAnnounceTimer h) h s fun x =>
         x.flow = { (s.half h).flow with
           announced := (s.half h).txSlots.dedup.filter fun n => (s.half h).get (Adr.FTX_STATUS n) 0 3 == 1 } ∧
         SameRegs (counterRegs 0 .txLinkdownDrop ++ counterRegs 1 .txLinkdownDrop) (s.half h) x))
/-! The Timing region. -/

/-- References (R175, R177, R178, R179): a measurement shows in `FOFS`, `DRIFT` and `PHASE`, and where the reference stays QUALIFIED
nothing else moves; a PTP phase sample is the negative of offsetFromMaster; lost activity fails a reference with cause 0x1; a
reference that qualifies alone is selected; with every reference disabled none is. Readings of the model: log entries 38, 40, 42. -/
def Obligations.ReferencesQualifyAndFail : Prop :=
  ∀ (h : HalfId) (i : RefId) (s : State), (s.half h).live = true → (s.half h).up .timing = true →
    (∀ fofs phase inMode, i ≠ 6 → (s.half h).bit (Adr.TIM_REF_CFG i) 0 = true → (s.half h).refState i = 2 →
      ((s.half h).measure i fofs phase inMode).refState i = 2 →
      CompletesAt (.referenceMeasurement h i fofs phase inMode) h s fun x =>
        x.rdS (Adr.TIM_REF_FOFS i) = satSigned 32 fofs ∧
        x.rdS (Adr.TIM_REF_DRIFT i) = satSigned 32 (slope ((fofs :: ((s.half h).refSt i).hist).take 61)) ∧
        (∀ v, phase = some v → x.rdS (Adr.TIM_REF_PHASE i) = satSigned 32 v) ∧
        SameRegs [Adr.TIM_REF_FOFS i, Adr.TIM_REF_DRIFT i, Adr.TIM_REF_PHASE i] (s.half h) x) ∧
    (∀ (p : PortId) offset, (s.half h).get (Adr.TIM_PTP_STATUS p) 0 4 = 9 → (s.half h).tim.cd4 = true →
      (s.half h).refState p = 2 → (s.half h).selected ≠ p → ((s.half h).phaseSample p (-offset)).refState p = 2 →
      CompletesAt (.ptpPhaseSample h p offset) h s fun x => x.rdS (Adr.TIM_REF_PHASE p) = satSigned 32 (-offset) ∧
        SameRegs [Adr.TIM_REF_PHASE p] (s.half h) x) ∧
    (2 ≤ i.val → i ≠ 6 → (s.half h).bit (Adr.TIM_REF_CFG i) 0 = true → (s.half h).refOn i = true → (s.half h).refState i = 1 →
      (s.half h).tim.refs.length = 8 →
      CompletesAt (.referenceActivityTimeout h i) h s fun x => x.refState i = 4 ∧ x.get (Adr.TIM_REF_STATUS i) 4 4 = 1 ∧
        x.bit Adr.TIM_EVENT 0 = true) ∧
    (i ≠ 4 → i ≠ 6 → (s.half h).refCheck i = none → (s.half h).role = .offline →
      (∀ j, j < 8 → j ≠ i → j ≠ 6 → (s.half h).refState j ≠ 2) →
      ((s.half h).refState i = 1 →
        CompletesAt (.qualificationComplete h i) h s fun x => x.refState i = 2 ∧ x.selected = i ∧ x.tim.dispute = false) ∧
      ((s.half h).refState i = 3 →
        CompletesAt (.wtrExpiry h i) h s fun x => x.refState i = 2 ∧ x.selected = i ∧ x.tim.dispute = false)) ∧
    ((s.half h).role = .offline → (∀ j, j < 8 → j ≠ 6 → (s.half h).bit (Adr.TIM_REF_CFG j) 0 = false) →
      CompletesAt (.selectorEvaluation h) h s fun x => x.selected = 6 ∧ x.tim.dispute = false ∧
        ∀ j, j < 8 → x.refState j = if j = 6 then 2 else 0) ∧
    (∀ j, j < 8 → j ≠ 6 → (s.half h).selected ≠ 6 → (s.half h).selected ≠ j → (s.half h).refState j = 2 →
      (s.half h).agree (s.half h).selected j = true →
      CompletesAt (.selBaseRefresh h) h s fun x => x.rd Adr.TIM_SEL_BASE = (s.half h).rd Adr.TIM_HOLD_EST ∧
        OnlyRegs [Adr.TIM_SEL_BASE] (s.half h) x)

/-- The two ADPLLs (R184, R185, R187, R197, R199, R459): locks and their loss move the state, `STATUS` and the event of their loop;
a tracking loop steps its bandwidth down; a fault stops the loop in FAULT and counts as a die-level fault with cause 0x0004; the
carrier of the partner shows its offset and its alignment. Readings of the model: log entries 7, 39, 42. -/
def Obligations.LoopsLockAndFail : Prop :=
  ∀ (h : HalfId) (s : State),
    ((s.half h).get Adr.TIM_MPLL_STATUS 0 3 = 1 →
      CompletesAt (.mediaLockAcquired h) h s fun x =>
        x.get Adr.TIM_MPLL_STATUS 0 3 = (if (s.half h).refKind (s.half h).selected = 0 then 2 else 3) ∧
        x.bit Adr.TIM_STATUS 0 = true ∧ x.bit Adr.TIM_EVENT 2 = true ∧ x.tim.lockHeld = true ∧
        SameRegs [Adr.TIM_MPLL_STATUS, Adr.TIM_STATUS, Adr.TIM_EVENT] (s.half h) x) ∧
    ((s.half h).get Adr.TIM_MPLL_STATUS 0 3 = 2 ∨ (s.half h).get Adr.TIM_MPLL_STATUS 0 3 = 3 →
      CompletesAt (.mediaLockLost h) h s fun x => x.get Adr.TIM_MPLL_STATUS 0 3 = 1 ∧ x.bit Adr.TIM_STATUS 0 = false ∧
        x.bit Adr.TIM_EVENT 2 = true ∧ SameRegs [Adr.TIM_MPLL_STATUS, Adr.TIM_STATUS, Adr.TIM_EVENT] (s.half h) x) ∧
    ((s.half h).get Adr.TIM_MPLL_STATUS 0 3 = 2 → min 6 ((s.half h).get Adr.TIM_MPLL_BW 0 3) < (s.half h).tim.bw →
      CompletesAt (.bandwidthStep h) h s fun x => x.tim = { (s.half h).tim with bw := (s.half h).tim.bw - 1 } ∧
        x.regs = (s.half h).regs) ∧
    (∀ carrier oscillator, (s.half h).live = true → (s.half h).up .timing = true →
      Completes (.adpllFault h carrier oscillator) s fun t =>
        (t.half h).get Adr.TIM_FAULT 0 16 = 1 + 2 * ofBool carrier + ofBool oscillator ∧
        (t.half h).bit Adr.TIM_FAULT 31 = true ∧ (t.half h).get Adr.RDN_FAULT 0 16 = 4 ∧
        (carrier = false → (t.half h).get Adr.TIM_MPLL_STATUS 0 3 = 7) ∧
        (carrier = true → (t.half h).get Adr.TIM_CPLL_STATUS 0 3 = 7)) ∧
    (∀ offset carrier, (s.half h).live = true → (s.half h).up .timing = true → (s.half h).linkUp = true →
      (s.half h).refState 4 = 0 → (s.half h).bit Adr.TIM_CPLL_STATUS 3 = true →
      CompletesAt (.timingMarkerReceive h offset carrier) h s fun x => x.bit Adr.TIM_CARRIER_ALIGN 31 = true ∧
        x.get Adr.TIM_CARRIER_ALIGN 0 16 = unsigned 16 (satSigned 16 carrier) ∧
        OnlyRegs [Adr.TIM_CARRIER_ALIGN] (s.half h) x) ∧
    (∀ within, (s.half h).bit Adr.TIM_CPLL_STATUS 3 = true → (s.half h).bit Adr.TIM_CARRIER_ALIGN 31 = true →
      CompletesAt (.alignedChange h within) h s fun x => x.bit Adr.TIM_CARRIER_ALIGN 30 = within ∧
        OnlyRegs [Adr.TIM_CARRIER_ALIGN] (s.half h) x) ∧
    ((s.half h).live = true → (s.half h).up .timing = true → (s.half h).get Adr.TIM_CPLL_STATUS 0 3 = 1 →
      CompletesAt (.carrierLockAcquired h) h s fun x => x.get Adr.TIM_CPLL_STATUS 0 3 = 2 ∧ x.bit Adr.TIM_STATUS 1 = true ∧
        x.bit Adr.TIM_EVENT 3 = true ∧ OnlyRegs [Adr.TIM_CPLL_STATUS, Adr.TIM_STATUS, Adr.TIM_EVENT] (s.half h) x) ∧
    ((s.half h).get Adr.TIM_CPLL_STATUS 0 3 = 2 →
      CompletesAt (.carrierLockLost h) h s fun x => x.get Adr.TIM_CPLL_STATUS 0 3 = 1 ∧ x.bit Adr.TIM_STATUS 1 = false ∧
        x.bit Adr.TIM_EVENT 3 = true ∧ OnlyRegs [Adr.TIM_CPLL_STATUS, Adr.TIM_STATUS, Adr.TIM_EVENT] (s.half h) x)

/-- The PTP clocks, the pulse and the return of CD4 (R157, R174, R175, R200, R565). Of a port whose reference is disabled, a message
and an Announce timeout move nothing but its own state, its event and stepsRemoved; a message sent takes the next sequence number.
Readings of the model: log entries 21, 37, 44. -/
def Obligations.PtpPortsFollowTheProtocol : Prop :=
  ∀ (h : HalfId) (p : PortId) (s : State),
    (∀ m (next : Fin 10), (s.half h).live = true → (s.half h).up .timing = true → (s.half h).refState p = 0 →
      (s.half h).bit (Adr.TIM_REF_CFG p) 0 = false → (s.half h).tim.ptp.length = 2 → (s.half h).ptpHears p m = true →
      (s.half h).ptpAllowed p next = true →
      CompletesAt (.ptpMessageReceive h p m next) h s fun x => x.get (Adr.TIM_PTP_STATUS p) 0 4 = next ∧
        (m.type.val = 0xB → next.val = 9 → x.grandmaster p = m.grandmaster ∧
          x.get (Adr.TIM_PTP_STATUS p) 16 8 = min 255 m.steps.toNat) ∧
        ((s.half h).get (Adr.TIM_PTP_STATUS p) 0 4 ≠ next → x.bit Adr.TIM_EVENT (8 + p) = true) ∧
        SameRegs [Adr.TIM_PTP_STATUS p, Adr.TIM_EVENT] (s.half h) x) ∧
    (∀ next : Fin 10, (s.half h).live = true → (s.half h).up .timing = true → (s.half h).refState p = 0 →
      (s.half h).bit (Adr.TIM_REF_CFG p) 0 = false → (s.half h).ptpAllowed p next = true →
      CompletesAt (.ptpAnnounceTimeout h p next) h s fun x => x.get (Adr.TIM_PTP_STATUS p) 0 4 = next ∧
        SameRegs [Adr.TIM_PTP_STATUS p, Adr.TIM_EVENT] (s.half h) x) ∧
    (∀ type : Fin 16, (s.half h).live = true → (s.half h).up .control = true → (s.half h).bit (Adr.TIM_PTP_CFG p) 17 = true →
      (s.half h).ptpSends p type = true → (s.half h).macOn p = true → (s.half h).portUp p = true →
      (s.half h).macs.length = 2 → ∀ g n, (s.half h).tim.ptp[p.val]? = some ⟨g, n⟩ →
      CompletesAt (.ptpMessageSend h p type) h s fun x => x.tim.ptp[p.val]? = some ⟨g, (n + 1) % 2 ^ 16⟩ ∧
        x.mac p = { (s.half h).mac p with fw3 := ((s.half h).mac p).fw3 ++ [.ptp type n (decide (type.val < 4))] } ∧
        x.regs = (s.half h).regs) ∧
    ((s.half h).live = true → (s.half h).up .timing = true → (s.half h).tim.cd4 = false → (s.half h).refState 0 = 0 →
      (s.half h).refState 1 = 0 → (s.half h).bit (Adr.TIM_REF_CFG 0) 0 = false → (s.half h).bit (Adr.TIM_REF_CFG 1) 0 = false →
      CompletesAt (.cd4Return h) h s fun x => x.tim.cd4 = true ∧
        SameRegs [Adr.TIM_PTP_TIME 0, Adr.TIM_PTP_TIME 1, Adr.TIM_PTP_TIME 2] (s.half h) x) ∧
    (∀ rise, CompletesAt (.ppsPulse h rise) h s fun x =>
      x = { s.half h with tim := { (s.half h).tim with pps := rise && (s.half h).bit Adr.TIM_STATUS 2 } })

/-- Writes of the Timing region's control registers (R173, R189, R194, R195, R202): an open loop takes `SW_FREQ` within ±500 ppm, a
closed one with no reference runs free; a sample of reference 7; `PTP_CFG` restarts its port. Readings of the model: log entries 38,
41, 42. -/
def Obligations.TimingWrites : Prop :=
  ∀ (h : HalfId) (q : Req) (s : State),
    (Grants s h q Adr.TIM_MPLL_OPEN → (s.half h).get Adr.TIM_MPLL_STATUS 0 3 ≠ 6 → (s.half h).get Adr.TIM_MPLL_STATUS 0 3 ≠ 7 →
      Accepted (.loopOpen h q) h q s fun x => x.bit Adr.TIM_MPLL_OPEN 0 = true ∧ x.get Adr.TIM_MPLL_STATUS 0 3 = 6 ∧
        x.rdS Adr.TIM_MPLL_FREQ = clampFreq ((s.half h).rdS Adr.TIM_SW_FREQ) ∧ x.tim.step = none) ∧
    (Grants s h q Adr.TIM_MPLL_OPEN → (s.half h).get Adr.TIM_MPLL_STATUS 0 3 = 6 → (s.half h).selected = 6 →
      (s.half h).tim.lockHeld = false →
      Accepted (.loopClose h q) h q s fun x => x.bit Adr.TIM_MPLL_OPEN 0 = false ∧ x.get Adr.TIM_MPLL_STATUS 0 3 = 0 ∧
        x.rd Adr.TIM_MPLL_FREQ = 0) ∧
    (Grants s h q Adr.TIM_SW_FREQ → ∀ v : Word,
      Accepted (.swFreqSet h q v) h q s fun x => x.rdS Adr.TIM_SW_FREQ = clampFreq (signed 32 v.toNat) ∧
        ((s.half h).get Adr.TIM_MPLL_STATUS 0 3 = 6 → x.rdS Adr.TIM_MPLL_FREQ = clampFreq (signed 32 v.toNat)) ∧
        ((s.half h).get Adr.TIM_MPLL_STATUS 0 3 ≠ 6 → SameRegs [Adr.TIM_SW_FREQ] (s.half h) x)) ∧
    (Grants s h q Adr.TIM_SWREF_PHASE → ∀ v : Word, (s.half h).refState 7 ≠ 0 → (s.half h).selected ≠ 7 →
      ((s.half h).phaseSample 7 (signed 32 v.toNat / 256)).refState 7 = (s.half h).refState 7 →
      Accepted (.swrefPhaseWrite h q v) h q s fun x => x.rdS (Adr.TIM_REF_PHASE 7) = satSigned 32 (signed 32 v.toNat / 256)) ∧
    (∀ (p : PortId) (v : Word), Grants s h q (Adr.TIM_PTP_CFG p) → (s.half h).live = true → (s.half h).refState p = 0 →
      (s.half h).bit (Adr.TIM_REF_CFG p) 0 = false → (s.half h).rd (Adr.TIM_PTP_CFG p) ≠ v &&& 0xFFFEFFFF#32 →
      Accepted (.ptpCfgWrite h q p v) h q s fun x => x.rd (Adr.TIM_PTP_CFG p) = v &&& 0xFFFEFFFF#32 ∧
        x.get (Adr.TIM_PTP_STATUS p) 0 4 = (if v.toNat.testBit 17 = false then 3 else if 4 < getBits v 20 4 then 2 else 1))

/-! Plans, the audio graph, the engines. -/

/-- A submission that fails a check ends IDLE with its reason shown and `EVENT.REJECT` set; one that passes waits for the first
boundary at least 250 µs away, or first for the STANDBY half's answer. The STANDBY half copies the staged plan and answers by its
own checks; its acceptance gives both halves one target, its rejection or its silence lets the ACTIVE half proceed alone with cause
0x0001 (R223, R224, R225, R230). Readings of the model: log entries 46, 48. -/
def Obligations.PlansAreCheckedAndWaitForTheirTarget : Prop :=
  ∀ (h : HalfId) (ofs : BlockOfs) (s : State),
    ((s.half h).live = true → (s.half h).up .processing = true → (s.half h).commitState = 1 → (s.half h).graph.sub = none →
      (s.half h).acceptsM = true →
      (∀ r, (s.half h).checkPlan = .error r →
        CompletesAt (.planValidationComplete h ofs) h s fun x => x.commitState = 0 ∧ x.graph.sub = none ∧
          x.rd Adr.GRF_COMMIT_STATUS = BitVec.ofNat 32 (2 ^ 24 * r.reason + 2 ^ 23 + 2 ^ 20 * r.kind + r.detail) ∧
          x.bit Adr.GRF_EVENT 1 = true ∧ SameRegs [Adr.GRF_STATUS, Adr.GRF_COMMIT_STATUS, Adr.GRF_EVENT] (s.half h) x) ∧
      (∀ pl, (s.half h).checkPlan = .ok pl → (s.half h).standbyPresent = false →
        CompletesAt (.planValidationComplete h ofs) h s fun x => x.commitState = 3 ∧
          x.graph.sub = some ⟨some ((s.half h).block + if ofs.val = 0 then 2 else 3), pl⟩ ∧
          x.rd Adr.GRF_COMMIT_TARGET = BitVec.ofNat 32 ((s.half h).block + if ofs.val = 0 then 2 else 3) ∧
          x.rd Adr.GRF_PENDING_ID = (s.half h).rd Adr.GRF_PLAN_ID + 1 ∧
          SameRegs [Adr.GRF_STATUS, Adr.GRF_COMMIT_TARGET, Adr.GRF_PENDING_ID] (s.half h) x) ∧
      (∀ pl, (s.half h).checkPlan = .ok pl → (s.half h).standbyPresent = true →
        CompletesAt (.planValidationComplete h ofs) h s fun x => x.commitState = 2 ∧ x.graph.sub = some ⟨none, pl⟩ ∧
          x.graph.recordOut = true ∧ x.rd Adr.GRF_PENDING_ID = (s.half h).rd Adr.GRF_PLAN_ID + 1 ∧
          SameRegs [Adr.GRF_STATUS, Adr.GRF_PENDING_ID] (s.half h) x)) ∧
    ((s.half h.other).graph.recordOut = true → (s.half h).live = true → (s.half h).up .processing = true →
      (s.half h).linkUp = true → (s.half h).role = .standby → (s.half h.other).regsWf →
      Completes (.commitRecordReceive h) s fun t =>
        t.half h.other = (s.half h.other).onGraph (fun g => { g with recordOut := false }) ∧
        (∀ a, inStagingBank a = true → (t.half h).rd a = (s.half h.other).rd a) ∧
        (∀ a, inStagingBank a = false → a ≠ Adr.GRF_STATUS → a ≠ Adr.GRF_PENDING_ID → (t.half h).rd a = (s.half h).rd a) ∧
        (∀ pl, ((s.half h).takeStaging (s.half h.other) false).checkPlan = .ok pl →
          (t.half h).graph.answer = some true ∧ (t.half h).graph.sub = some ⟨none, pl⟩ ∧
          (t.half h).rd Adr.GRF_PENDING_ID = (s.half h.other).rd Adr.GRF_PENDING_ID) ∧
        (∀ r, ((s.half h).takeStaging (s.half h.other) false).checkPlan = .error r →
          (t.half h).graph.answer = some false ∧ (t.half h).graph.sub = none ∧ (t.half h).commitState = 0)) ∧
    (∀ p q, (s.half h).commitState = 2 → (s.half h).graph.sub = some p → (s.half h.other).graph.sub = some q →
      ((s.half h.other).graph.answer = some true →
        Completes (.standbyPlanAccept h ofs) s fun t =>
          (t.half h).graph.sub = some { p with target := some ((s.half h).block + if ofs.val = 0 then 2 else 3) } ∧
          (t.half h.other).graph.sub = some { q with target := some ((s.half h).block + if ofs.val = 0 then 2 else 3) } ∧
          ∀ k, (t.half k).commitState = 3 ∧
            (t.half k).rd Adr.GRF_COMMIT_TARGET = BitVec.ofNat 32 ((s.half h).block + if ofs.val = 0 then 2 else 3) ∧
            SameRegs [Adr.GRF_STATUS, Adr.GRF_COMMIT_TARGET] (s.half k) (t.half k))) ∧
    (∀ p, (s.half h).commitState = 2 → (s.half h).graph.sub = some p →
      ((s.half h.other).graph.answer = some false →
        CompletesAt (.standbyPlanReject h ofs) h s fun x => x.commitState = 3 ∧
          x.graph.sub = some { p with target := some ((s.half h).block + if ofs.val = 0 then 2 else 3) } ∧
          x.bit Adr.GRF_FAULT 31 = true ∧ x.get Adr.GRF_FAULT 0 16 = 1 ∧
          SameRegs [Adr.GRF_STATUS, Adr.GRF_COMMIT_TARGET, Adr.GRF_FAULT] (s.half h) x) ∧
      ((s.half h.other).graph.answer = none → (s.half h.other).role = .standby →
        Completes (.standbyAnswerTimeout h ofs) s fun t => (t.half h).commitState = 3 ∧
          (t.half h).graph.sub = some { p with target := some ((s.half h).block + if ofs.val = 0 then 2 else 3) } ∧
          (t.half h).bit Adr.GRF_FAULT 31 = true ∧ (t.half h).get Adr.GRF_FAULT 0 16 = 1 ∧
          (t.half h.other).commitState = 0 ∧ (t.half h.other).graph.sub = none ∧
          SameRegs [Adr.GRF_STATUS, Adr.GRF_COMMIT_TARGET, Adr.GRF_FAULT] (s.half h) (t.half h) ∧
          SameRegs [Adr.GRF_STATUS] (s.half h.other) (t.half h.other)))

/-- A VOX level whose hold time has passed is no longer active, other zones keep theirs; a METER node that has seen its interval
pushes one packet, an item for each channel, to its queue and starts again (R212, R215). No register moves but the queue's count of
drops. Readings of the model: log entry 53. -/
def Obligations.VoxAndMetersFollowTheirIntervals : Prop :=
  ∀ (h : HalfId) (s : State) (n : Node),
    (∀ (zone : BitVec 8) (level : Fin 16) zp, (((s.half h).plan false).zones.find? fun y => y.1 == zone.toNat) = some zp →
      ((s.half h).plan false).node zp.2 = some n →
      CompletesAt (.voxHoldExpiry h zone level) h s fun x => x.regs = (s.half h).regs ∧
        (∀ v, v ∈ (x.zone zone.toNat).vox ↔
          v ∈ ((s.half h).zone zone.toNat).vox ∧ (v.1 = level → (s.half h).age < v.2 + 8 * getBits (n.w 3) 0 16)) ∧
        (x.zone zone.toNat).feeds = ((s.half h).zone zone.toNat).feeds ∧
        (∀ z, z ≠ zone.toNat → x.zone z = (s.half h).zone z)) ∧
    (∀ node : Fin 4096, ((s.half h).plan false).node node = some n → n.type = 0xD →
      getBits (n.w 1) 0 16 ≤ getAt ((s.half h).nodeSt node).nums 0 0 → 0 < getAt ((s.half h).nodeSt node).nums 0 0 →
      CompletesAt (.meterInterval h node) h s fun x => x.nodeSt node = NodeSt.init ∧
        SameRegs [Adr.QM_DROP_CNT (getBits (n.w 1) 16 6)] (s.half h) x ∧
        (∀ i, i ≠ node.val → x.nodeSt i = (s.half h).nodeSt i) ∧
        ∀ q, q = getBits (n.w 1) 16 6 → 16 ≤ q → (s.half h).get (Adr.Q_CFG q) 28 3 = 2 → (s.half h).up .memory = true →
          (s.half h).queueOn q = true → ((s.half h).queue q).held = none → ((s.half h).queue q).waiters = [] →
          ((s.half h).queue q).items.length + n.width + 1 ≤ (s.half h).capacity q →
          (x.queue q).items = ((s.half h).queue q).items ++ packetItems 9 ((List.range n.width).map fun ch =>
            meterItem n (getAt ((s.half h).nodeSt node).nums 0 0) (s.half h).blockLen ch
              (getAt ((s.half h).nodeSt node).rows ch [])))

/-- A residue error is counted and retires its engine with cause 0x0001, on a life-safety path the half gives up with cause 0x0002;
re-placement goes through its stages; tests move engines between SPARE, TESTING and RETIRED; a row of the placement area migrates or
is retired (R234, R239, R248, R250 to R253, R256, R485). Readings of the model: log entries 54, 55, 56, 131. -/
def Obligations.EnginesAreTestedRetiredAndReplaced : Prop :=
  ∀ (h : HalfId) (e : Fin 8) (s : State),
    (∀ node : Fin 4096, (s.half h).live = true → (s.half h).up .processing = true → 1 ≤ (s.half h).engState e →
      (s.half h).engState e ≤ 3 →
      Completes (.residueError h e node) s (fun t => (t.half h).engState e = 4 ∧ (t.half h).bit (Adr.ENG_EVENT e) 2 = true ∧
        (t.half h).get (Adr.ENG_RESIDUE_CNT e) 0 16 = satAdd 16 ((s.half h).get (Adr.ENG_RESIDUE_CNT e) 0 16) 1 ∧
        (t.half h).bit (Adr.ENG_FAULT e) 31 = true ∧ (t.half h).get (Adr.ENG_FAULT e) 0 16 = 1) ∧
      ((((s.half h).plan false).lsNodes.contains node.val = false ∨
          ((s.half h).graph.place.parts.any fun p => p.engine == e.val && p.node == node.val) = false) →
        Completes (.residueError h e node) s fun t =>
          SameRegs (Adr.ENG_RESIDUE_CNT e :: engineRegs e ++ lineRegsOf) (s.half h) (t.half h)) ∧
      (((s.half h).plan false).lsNodes.contains node.val = true →
        ((s.half h).graph.place.parts.any fun p => p.engine == e.val && p.node == node.val) = true →
        (s.half h).role = .active → (s.half h).sent.giveUp = .idle → (s.half h).sent.dead = false →
        Completes (.residueError h e node) s fun t => (t.half h).sent.giveUp = .detected 2)) ∧
    (∀ r, (s.half h).graph.replace = some r →
      (r.stage = 1 →
        CompletesAt (.replacementStageComplete h) h s fun x => x.graph.nextPlace = some (s.half h).replaceLs ∧
          x.graph.replace = some { r with stage := 2 } ∧ SameRegs [Adr.PLC_FAULT] (s.half h) x) ∧
      (r.stage ≠ 1 →
        CompletesAt (.replacementStageComplete h) h s fun x => x.graph.nextPlace = some (s.half h).replaceAll ∧
          x.graph.replace = none ∧ x.bit Adr.PLC_STATUS 4 = false ∧
          (x.rd Adr.PLC_REPLACE_TIME).toNat = min 0xFFFF (rounded ((s.half h).age - r.since) 8) ∧
          SameRegs [Adr.PLC_STATUS, Adr.PLC_REPLACE_TIME, Adr.PLC_FAULT] (s.half h) x)) ∧
    ((s.half h).graph.kat.contains e.val = true →
      (CompletesAt (.knownAnswerTestComplete h e true) h s fun x => x.engState e = 1 ∧ x.graph.kat.contains e.val = false ∧
        SameRegs [Adr.ENG_STATUS e, Adr.ENG_EVENT e, Adr.PLC_STATUS, Adr.PLC_CAPACITY] (s.half h) x) ∧
      (CompletesAt (.knownAnswerTestComplete h e false) h s fun x => x.engState e = 4 ∧ x.graph.kat.contains e.val = false ∧
        x.bit (Adr.ENG_FAULT e) 31 = true ∧ x.get (Adr.ENG_FAULT e) 0 16 = 3 ∧
        SameRegs [Adr.ENG_STATUS e, Adr.ENG_EVENT e, Adr.ENG_FAULT e, Adr.PLC_STATUS, Adr.PLC_CAPACITY] (s.half h) x)) ∧
    ((s.half h).deepTurn = true →
      ((s.half h).engState e = 1 → ((s.half h).comingPlace.parts.any fun p => p.engine == e.val) = false →
        CompletesAt (.deepTestTurn h e) h s fun x => x.engState e = 3 ∧ x.bit (Adr.ENG_EVENT e) 0 = true ∧
          SameRegs [Adr.ENG_STATUS e, Adr.ENG_EVENT e, Adr.PLC_STATUS, Adr.PLC_CAPACITY] (s.half h) x) ∧
      (∀ d, (s.half h).engState e = 2 → (s.half h).role = .standby → (s.half h).spareFor e = some d →
        CompletesAt (.deepTestTurn h e) h s fun x => x.regs = (s.half h).regs ∧ x.graph.toTest.contains e.val = true ∧
          x.graph.nextPlace = some ((s.half h).comingPlace.move e d))) ∧
    ((s.half h).engState e = 3 → ((s.half h).comingPlace.parts.any fun p => p.engine == e.val) = false →
      (CompletesAt (.deepTestComplete h e true) h s fun x => x.engState e = 1 ∧ x.bit (Adr.GST_CLASS 1) 31 = false ∧
        SameRegs ([Adr.ENG_STATUS e, Adr.ENG_EVENT e, Adr.PLC_STATUS, Adr.PLC_CAPACITY] ++ gustRegs 1) (s.half h) x) ∧
      (CompletesAt (.deepTestComplete h e false) h s fun x => x.engState e = 4 ∧ x.bit (Adr.GST_CLASS 1) 31 = true ∧
        x.get (Adr.GST_FAULT) 0 16 = 2 ∧ x.get (Adr.ENG_FAULT e) 0 16 = 3 ∧
        SameRegs (engineRegs e ++ gustFailRegs 1) (s.half h) x)) ∧
    (∀ row : Fin 2048, (s.half h).live = true → (s.half h).up .processing = true →
      (s.half h).graph.migrating.length + (s.half h).retiredRows < 2046 →
      CompletesAt (.rowMigration h row) h s fun x => x.graph.migrating.contains row.val = true ∧ x.regs = (s.half h).regs) ∧
    (∀ row : Fin 2048, (s.half h).gustRuns 2 = true → (s.half h).boot.retired.rows.contains row.val = false →
      (CompletesAt (.sramRowTest h row true) h s fun x => x.bit (Adr.GST_CLASS 2) 31 = false ∧
        x.boot = (s.half h).boot ∧ SameRegs (gustRegs 2) (s.half h) x) ∧
      (CompletesAt (.sramRowTest h row false) h s fun x => x.bit (Adr.GST_CLASS 2) 31 = true ∧
        x.get Adr.GST_FAULT 0 16 = 3 ∧ x.boot.retired.rows = (s.half h).boot.retired.rows ++ [row.val] ∧
        SameRegs (gustFailRegs 2) (s.half h) x))

/-! The alarm path. -/

/-- A host command within the limit takes effect in the valid zones that it names, is shown with RESULT 0 (2 of a TEST) and counted,
sets `EVENT.CMD`; one above `HOST_MAX_PRI` has no effect and shows PRIORITY_DENIED; ACTIVATE and TONE assign a free source (R216,
R262, R263, R278, R281). Readings of the model: log entries 52, 58. -/
def Obligations.HostAlarmCommandsTakeEffect : Prop :=
  ∀ (h : HalfId) (prio : Fin 16) (zones : BitVec 256) (s : State), (s.half h).live = true → (s.half h).up .control = true →
    (s.half h).up .processing = true → (s.half h).holds = false →
    ((s.half h).get Adr.ALM_HOST_MAX_PRI 0 4 < prio →
      ∀ c : Instr, (c = .deactivate h prio zones ∨ c = .muteBelow h prio zones ∨ c = .clear h prio zones ∨
          c = .test h prio zones ∨ (∃ src, c = .tone h prio zones src) ∨ ∃ src rep, c = .activate h prio zones src rep false) →
        CompletesAt c h s fun x => x.get Adr.ALM_CMD_STATUS 24 8 = 0x16 ∧ x.bit Adr.ALM_EVENT 1 = true ∧
          x.graph = (s.half h).graph ∧
          SameRegs [Adr.ALM_CMD_STATUS, Adr.ALM_EVENT, Adr.QM_DROP_CNT 9] (s.half h) x) ∧
    (prio ≤ (s.half h).get Adr.ALM_HOST_MAX_PRI 0 4 →
      (∀ (c : Instr) (f : ZoneSt → ZoneSt),
        (c = .deactivate h prio zones ∧ f = (fun z => { z with
            feeds := z.feeds.filter fun k => k.level != prio.val, ctl := z.ctl.filter fun k => k.1 != prio.val })) ∨
        (c = .muteBelow h prio zones ∧ f = (fun z => { z with mute := max z.mute (min prio 12) })) ∨
        (c = .clear h prio zones ∧ f = (fun z => { z with
            feeds := z.feeds.filter (fun k => decide (prio.val < k.level)), ctl := z.ctl.filter (fun k => decide (prio.val < k.1)),
            mute := if z.mute ≤ prio then 0 else z.mute })) ∨
        (12 ≤ prio.val ∧ (∃ src rep, c = .activate h prio zones src rep true) ∧ f = (fun z => { z with
            ctl := (z.ctl.filter fun k => k.1 != prio.val) ++ [(prio.val, none)] })) →
        CompletesAt c h s fun x =>
          (∀ z, x.zone z = if z ∈ (s.half h).validOf (zonesOf zones.toNat) then f ((s.half h).zone z) else (s.half h).zone z) ∧
          x.get Adr.ALM_CMD_STATUS 24 8 = 0 ∧
          x.get Adr.ALM_CMD_STATUS 0 16 = ((s.half h).get Adr.ALM_CMD_STATUS 0 16 + 1) % 2 ^ 16 ∧ x.bit Adr.ALM_EVENT 0 = true ∧
          SameRegs [Adr.ALM_CMD_STATUS, Adr.ALM_EVENT, Adr.QM_DROP_CNT 9] (s.half h) x) ∧
      (CompletesAt (.test h prio zones) h s fun x => x.graph = (s.half h).graph ∧ x.get Adr.ALM_CMD_STATUS 24 8 = 2 ∧
        x.bit Adr.ALM_EVENT 0 = true ∧ SameRegs [Adr.ALM_CMD_STATUS, Adr.ALM_EVENT, Adr.QM_DROP_CNT 9] (s.half h) x) ∧
      (∀ (src : BitVec 16) p, (s.half h).validOf (zonesOf zones.toNat) ≠ [] →
        ((sourcesOf false).find? fun y => !(s.half h).inUse y) = some (.player p) →
        CompletesAt (.activate h prio zones src false false) h s fun x =>
          (∀ z, (x.zone z).feeds = if z ∈ (s.half h).validOf (zonesOf zones.toNat)
            then ((s.half h).zone z).feeds ++ [⟨prio, .player p, none, false⟩] else ((s.half h).zone z).feeds) ∧
          x.player p = some ⟨0, false, false⟩ ∧ x.playerMsg p = src.toNat % 4096 ∧ x.get Adr.ALM_CMD_STATUS 24 8 = 0 ∧
          SameRegs [Adr.ALM_CMD_STATUS, Adr.ALM_EVENT, Adr.QM_DROP_CNT 9, Adr.MSG_PLAYER p, Adr.MSG_EVENT, Adr.MSG_STATUS]
            (s.half h) x) ∧
      (∀ (src : BitVec 16) g, (s.half h).validOf (zonesOf zones.toNat) ≠ [] →
        ((sourcesOf true).find? fun y => !(s.half h).inUse y) = some (.tone g) →
        CompletesAt (.tone h prio zones src) h s fun x =>
          (∀ z, (x.zone z).feeds = if z ∈ (s.half h).validOf (zonesOf zones.toNat)
            then ((s.half h).zone z).feeds ++ [⟨prio, .tone g, none, false⟩] else ((s.half h).zone z).feeds) ∧
          (g, ⟨src.toNat, 0⟩) ∈ x.graph.tones ∧ x.get Adr.ALM_CMD_STATUS 24 8 = 0 ∧
          SameRegs [Adr.ALM_CMD_STATUS, Adr.ALM_EVENT, Adr.QM_DROP_CNT 9] (s.half h) x))

/-- The first waiting alarm frame is judged: of an unknown issuer it is refused, one that passes every check becomes the issuer's
last and is accepted by the arbiter, on a half that holds it is kept; a frame that waits too long is refused, and a held command
expires (R266, R269, R270, R272, R279). An EVAC input takes the class that has stood through its debounce time, and is active from
class ACTIVE or from its comparator; it ceases to be when the comparator is out of its window and the class is not ACTIVE; the entry
of its number is triggered, and at the end what it made is removed unless it latches; a comparator that disagrees raises cause
0x0002 (R274 to R277). Readings of the model: log entries 58, 59, 60, 61, 63. -/
def Obligations.AlarmFramesAndEvacInputs : Prop :=
  (∀ (h : HalfId) (ofs : BlockOfs) (s : State),
     (∀ f rest d, (s.half h).alarm.waiting = f :: rest → f.port < 2 → (s.half h).alarmUdp (parseFrame f.bytes) = some d →
       (∀ c, c = f.cmd d ((s.half h).now ofs) (!(s.half h).bit Adr.TIM_STATUS 2) →
         ((s.half h).issuerOf c.issuer = none →
           CompletesAt (.alarmFrame h ofs) h s fun x => x.bit Adr.ALM_EVENT 1 = true ∧
             x.alarm = { (s.half h).alarm with waiting := rest } ∧
             SameRegs [Adr.ALM_EVENT, Adr.QM_DROP_CNT 9] (s.half h) x) ∧
         (∀ i, (s.half h).issuerOf c.issuer = some i →
           ((s.half h).rd (Adr.ALM_ISSUER_SRC_IP i)).toNat = 0 ∨ ((s.half h).rd (Adr.ALM_ISSUER_SRC_IP i)).toNat = d.srcIp →
           1000000000 ≤ (s.half h).bucketLevel i ((s.half h).now ofs) → (s.half h).frameCheck i d.payload c ofs = none →
           ((s.half h).holds = false → (s.half h).role = .active →
             CompletesAt (.alarmFrame h ofs) h s fun x => x.alarm.waiting = rest ∧
               x.alarm.queue = insertCmd c (s.half h).alarm.queue ∧
               x.rd (Adr.ALM_ISSUER_LAST_SEQ i) = BitVec.ofNat 32 c.seq ∧ x.bit (Adr.ALM_ISSUER_CFG i) 30 = true ∧
               SameRegs [Adr.ALM_ISSUER_LAST_SEQ i, Adr.ALM_ISSUER_CFG i] (s.half h) x) ∧
           ((s.half h).holds = true →
             CompletesAt (.alarmFrame h ofs) h s fun x => x.alarm.waiting = rest ∧ x.alarm.queue = (s.half h).alarm.queue ∧
               x.alarm.held = (s.half h).alarm.held ++ [{ c with logged := true }] ∧
               SameRegs [Adr.QM_DROP_CNT 9] (s.half h) x))) ∧
       (CompletesAt (.authQueueTimeout h) h s fun x => x.bit Adr.ALM_EVENT 1 = true ∧
         x.alarm = { (s.half h).alarm with waiting := rest } ∧ SameRegs [Adr.ALM_EVENT, Adr.QM_DROP_CNT 9] (s.half h) x)) ∧
     (CompletesAt (.heldCommandExpiry h) h s fun x => x.alarm = { (s.half h).alarm with held := (s.half h).alarm.held.drop 1 } ∧
       x.regs = (s.half h).regs)) ∧
  (∀ (h : HalfId) (i : Fin 8) (ofs : BlockOfs) (s : State), (s.half h).evacRuns i = true →
     (∀ cls : Nat, (s.half h).evacReads i = cls → cls ≠ 4 → (s.half h).evacClass i ≠ cls →
       CompletesAt (.evacDebounceExpiry h i ofs) h s fun x => x.evacClass i = cls ∧
         (2 ≤ cls ∨ 2 ≤ (s.half h).evacClass i → x.bit Adr.ALM_EVENT 3 = true) ∧ (cls = 1 → x.evacActive i = true) ∧
         SameRegs [Adr.ALM_EVAC_STATUS i, Adr.ALM_STATUS, Adr.ALM_EVENT, Adr.QM_DROP_CNT 9] (s.half h) x) ∧
     ((s.half h).evacActive i = false →
       CompletesAt (.comparatorInWindow h i ofs) h s fun x => x.bit (Adr.ALM_EVAC_STATUS i) 4 = true ∧ x.evacActive i = true ∧
         x.bit Adr.ALM_STATUS (8 + i) = true ∧ x.bit Adr.ALM_EVENT 2 = true ∧
         (∀ c, (s.half h).actionCmd i ((s.half h).now ofs) = some c → (s.half h).holds = false →
           badLive c.code c.prio c.flags = false → x.alarm.queue = insertCmd c (s.half h).alarm.queue) ∧
         SameRegs [Adr.ALM_EVAC_STATUS i, Adr.ALM_STATUS, Adr.ALM_EVENT, Adr.QM_DROP_CNT 9] (s.half h) x) ∧
     ((s.half h).evacActive i = true → (s.half h).evacClass i ≠ 1 →
       CompletesAt (.evacReleaseExpiry h i ofs) h s fun x => x.bit (Adr.ALM_EVAC_STATUS i) 4 = false ∧ x.evacActive i = false ∧
         x.bit Adr.ALM_STATUS (8 + i) = false ∧ x.bit Adr.ALM_EVENT 2 = true ∧
         ((s.half h).holds = false → bitAt ((s.half h).actionWord i 0) 19 = true → x.alarm.queue = (s.half h).alarm.queue) ∧
         ((s.half h).holds = false → bitAt ((s.half h).actionWord i 0) 19 = false →
           ∃ c, c.code = 0x80 ∧ c.mark = some i.val ∧ x.alarm.queue = insertCmd c (s.half h).alarm.queue) ∧
         SameRegs [Adr.ALM_EVAC_STATUS i, Adr.ALM_STATUS, Adr.ALM_EVENT] (s.half h) x) ∧
     ((s.half h).evacClass i ≠ 4 →
       CompletesAt (.comparatorDisagree h i) h s fun x => x.bit Adr.ALM_EVENT 4 = true ∧ x.bit Adr.ALM_FAULT 31 = true ∧
         x.get Adr.ALM_FAULT 0 16 = 2 ∧ OnlyRegs [Adr.ALM_EVENT, Adr.ALM_FAULT] (s.half h) x))
/-! The memories, the message library, the recorder. -/

/-- An error that is corrected is counted, and a page or row with its third within a day, or a page with two symbols wrong, is
retired; an uncorrectable one is counted and captured, its line poisoned and its page or row retired, the node that it hits goes
missing, the player stops; a scrub pass and a transfer end (R285, R286, R287, R291, R292, R293, R294, R314). Readings of the model:
log entries 4, 64, 65, 66. -/
def Obligations.MemoryErrorsRetirePagesAndRows : Prop :=
  ∀ (h : HalfId) (s : State),
    (∀ (addr : Word) two, (s.half h).live = true → (s.half h).up .memory = true →
      (two = false → ((s.half h).recentErrors (s.half h).store.corrected (addr.toNat / 4096)).length < 3 →
        CompletesAt (.dramCorrectedRead h addr two) h s fun x => x.bit Adr.MEM_EVENT 0 = true ∧ x.boot = (s.half h).boot ∧
          x.get Adr.MEM_CORR_CNT 0 32 = satAdd 32 ((s.half h).get Adr.MEM_CORR_CNT 0 32) 1 ∧
          SameRegs [Adr.MEM_CORR_CNT, Adr.MEM_EVENT] (s.half h) x) ∧
      (two = true ∨ 3 ≤ ((s.half h).recentErrors (s.half h).store.corrected (addr.toNat / 4096)).length →
        (s.half h).boot.retired.pages.length < 4096 →
        CompletesAt (.dramCorrectedRead h addr two) h s fun x => x.bit Adr.MEM_EVENT 0 = true ∧ x.bit Adr.MEM_EVENT 2 = true ∧
          x.boot.retired.pages = (s.half h).boot.retired.pages ++ [addr.toNat / 4096] ∧
          x.get Adr.MEM_CORR_CNT 0 32 = satAdd 32 ((s.half h).get Adr.MEM_CORR_CNT 0 32) 1 ∧
          SameRegs [Adr.MEM_CORR_CNT, Adr.MEM_EVENT, Adr.MEM_RETIRED, Adr.MEM_STATUS] (s.half h) x)) ∧
    (∀ (addr : Word) use, (s.half h).live = true → (s.half h).up .memory = true →
      (s.half h).boot.retired.pages.length < 4096 →
      (Completes (.dramUncorrectableRead h addr use) s fun t => (t.half h).bit Adr.MEM_EVENT 1 = true ∧
        (t.half h).get Adr.MEM_UNCORR_CNT 0 32 = satAdd 32 ((s.half h).get Adr.MEM_UNCORR_CNT 0 32) 1 ∧
        (t.half h).rd (Adr.MEM_ERR_ADDR 0) = addr ∧
        (t.half h).boot.retired.pages = (s.half h).boot.retired.pages ++ [addr.toNat / 4096]) ∧
      (use = .transfer → Completes (.dramUncorrectableRead h addr use) s fun t => (t.half h).store.xferBad = true ∧
        (t.half h).store.poison.contains (addr.toNat / 64) = true ∧
        SameRegs ([Adr.MEM_UNCORR_CNT, Adr.MEM_EVENT, Adr.MEM_ERR_ADDR 0, Adr.MEM_ERR_ADDR 0 + 4, Adr.MEM_ERR_INFO,
          Adr.MEM_RETIRED, Adr.MEM_STATUS] ++ lineRegsOf) (s.half h) (t.half h)) ∧
      (∀ n, use = .node n → ((s.half h).plan false).lsNodes.contains n = false →
        Completes (.dramUncorrectableRead h addr use) s fun t => (t.half h).graph.missing.contains n = true) ∧
      (∀ p, use = .player p → (s.half h).bit (Adr.MSG_PLAYER p) 31 = true →
        Completes (.dramUncorrectableRead h addr use) s fun t => (t.half h).bit (Adr.MSG_PLAYER p) 31 = false ∧
          (t.half h).bit (Adr.MSG_PLAYER p) 30 = true ∧ (t.half h).get (Adr.MSG_PLAYER p) 8 4 = 3)) ∧
    (∀ late, (s.half h).live = true → (s.half h).up .memory = true →
      CompletesAt (.scrubPassComplete h late) h s fun x => x.scrubPermille = 0 ∧
        x.get Adr.MEM_SCRUB_PROGRESS 16 16 = ((s.half h).get Adr.MEM_SCRUB_PROGRESS 16 16 + 1) % 2 ^ 16 ∧
        x.bit Adr.MEM_STATUS 2 = late ∧ SameRegs ([Adr.MEM_SCRUB_PROGRESS, Adr.MEM_STATUS] ++ gustRegs 4) (s.half h) x) ∧
    (∀ (area : SramArea) (row : Fin 2048), (s.half h).live = true → (∀ n, area ≠ .placement n) →
      (s.half h).boot.retired.rows.contains (rowNumber area row) = false → (s.half h).spareRowsUsed < 48 →
      (Completes (.sramUncorrectable h area row) s fun t => (t.half h).bit Adr.MEM_EVENT 4 = true ∧
        (t.half h).get Adr.MEM_SRAM_UNCORR_CNT 0 32 = satAdd 32 ((s.half h).get Adr.MEM_SRAM_UNCORR_CNT 0 32) 1 ∧
        (t.half h).rd Adr.MEM_ERR_INFO = 0xC0000000#32 ∧
        (t.half h).boot.retired.rows = (s.half h).boot.retired.rows ++ [rowNumber area row] ∧
        (area ≠ .firmware → SameRegs ([Adr.MEM_SRAM_UNCORR_CNT, Adr.MEM_EVENT, Adr.MEM_ERR_INFO] ++ lineRegsOf) (s.half h)
          (t.half h))) ∧
      (((s.half h).recentErrors (s.half h).store.sramRows (rowNumber area row)).length < 3 →
        CompletesAt (.sramCorrectedRead h area row) h s fun x => x.bit Adr.MEM_EVENT 5 = true ∧ x.boot = (s.half h).boot ∧
          x.get Adr.MEM_SRAM_CORR_CNT 0 32 = satAdd 32 ((s.half h).get Adr.MEM_SRAM_CORR_CNT 0 32) 1 ∧
          SameRegs [Adr.MEM_SRAM_CORR_CNT, Adr.MEM_EVENT] (s.half h) x) ∧
      (3 ≤ ((s.half h).recentErrors (s.half h).store.sramRows (rowNumber area row)).length →
        CompletesAt (.sramCorrectedRead h area row) h s fun x =>
          x.boot.retired.rows = (s.half h).boot.retired.rows ++ [rowNumber area row] ∧
          SameRegs [Adr.MEM_SRAM_CORR_CNT, Adr.MEM_EVENT] (s.half h) x)) ∧
    (∀ data, (s.half h).bit Adr.MEM_STATUS 1 = true → (s.half h).store.xferPio = false →
      (CompletesAt (.xferComplete h false data) h s fun x => x.bit Adr.MEM_STATUS 1 = false ∧ x.bit Adr.MEM_XFER_STATUS 31 = false ∧
        x.bit Adr.MEM_XFER_STATUS 30 = true ∧ x.get Adr.MEM_XFER_STATUS 24 4 = 4 ∧ x.bit Adr.MEM_EVENT 3 = true ∧
        x.store.dram = (s.half h).store.dram ∧
        SameRegs [Adr.MEM_STATUS, Adr.MEM_XFER_STATUS, Adr.MEM_EVENT] (s.half h) x) ∧
      ((s.half h).store.xferArea = 0 → (s.half h).store.xferBad = false →
        CompletesAt (.xferComplete h true data) h s fun x => x.bit Adr.MEM_STATUS 1 = false ∧ x.rd Adr.MEM_XFER_STATUS = 0 ∧
          x.store.dram = ((s.half h).store.write (s.half h).xferAt (data.take (s.half h).store.xferLeft)).dram ∧
          SameRegs [Adr.MEM_STATUS, Adr.MEM_XFER_STATUS] (s.half h) x))

/-- A load that fails its verification is OPEN again with the failure shown; one that passes waits for its switch, or is copied to
the STANDBY half first, whose own verification decides; a copy that fails and an answer that does not come let the ACTIVE half
commit alone (R299, R300, R303, R304, R306). Readings of the model: log entries 48, 67, 68. -/
def Obligations.LibraryLoadsAreVerifiedAndCopied : Prop :=
  ∀ (h : HalfId) (ofs : BlockOfs) (s : State),
    ((s.half h).libState = 2 → (s.half h).live = true →
      (∀ r m, (s.half h).verifyBank (s.half h).bankOut ((s.half h).get Adr.MSG_LIB_COMMIT 0 13) = some (r, m) →
        CompletesAt (.libraryVerificationComplete h ofs) h s fun x => x.libState = 1 ∧ x.bit Adr.MSG_EVENT 1 = true ∧
          x.get Adr.MSG_FAULT 0 16 = 1 ∧ x.rd Adr.MSG_LIB_DETAIL = BitVec.ofNat 32 (2 ^ 24 * r + m) ∧
          SameRegs [Adr.MSG_STATUS, Adr.MSG_EVENT, Adr.MSG_FAULT, Adr.MSG_LIB_DETAIL] (s.half h) x) ∧
      ((s.half h).verifyBank (s.half h).bankOut ((s.half h).get Adr.MSG_LIB_COMMIT 0 13) = none →
        ((s.half h).role = .active → (s.half h).partnerStandby = true →
          CompletesAt (.libraryVerificationComplete h ofs) h s fun x => x.libState = 3 ∧ x.store.copying = some true ∧
            x.rd Adr.MSG_BULK_STATUS = 0x80000000#32 ∧
            SameRegs [Adr.MSG_STATUS, Adr.MSG_LIB_DETAIL, Adr.MSG_BULK_STATUS] (s.half h) x) ∧
        ((s.half h).partnerStandby = false →
          CompletesAt (.libraryVerificationComplete h ofs) h s fun x => x.libState = 5 ∧
            x.store = { (s.half h).store.write ((s.half h).recordBase (s.half h).bankOut)
                ((s.half h).commitRecord (s.half h).bankOut (s.half h).nextGen) with
              pendingAt := some ((s.half h).block + if ofs.val = 0 then 2 else 3), copying := none } ∧
            SameRegs [Adr.MSG_STATUS, Adr.MSG_LIB_DETAIL] (s.half h) x))) ∧
    (∀ load, (s.half h).store.copying = some load →
      (load = true → CompletesAt (.bulkCopyComplete h false ofs) h s fun x => x.libState = 5 ∧ x.get Adr.MSG_FAULT 0 16 = 3 ∧
        x.store.pendingAt = some ((s.half h).block + if ofs.val = 0 then 2 else 3) ∧ x.store.copying = none ∧
        SameRegs [Adr.MSG_STATUS, Adr.MSG_FAULT, Adr.MSG_BULK_STATUS] (s.half h) x) ∧
      (load = false → CompletesAt (.bulkCopyComplete h false ofs) h s fun x => x.get Adr.MSG_FAULT 0 16 = 3 ∧
        x.rd Adr.MSG_BULK_STATUS = 0x40000000#32 ∧ x.store = { (s.half h).store with copying := none } ∧
        SameRegs [Adr.MSG_FAULT, Adr.MSG_BULK_STATUS] (s.half h) x) ∧
      (load = true → s.canCopy h = true →
        Completes (.bulkCopyComplete h true ofs) s fun t => (t.half h).libState = 4 ∧ (t.half h).store.copying = none ∧
          t.half h.other = (s.half h.other).takeCopy ((s.half h).copyWords (s.half h).bankOut) ∧
          SameRegs [Adr.MSG_STATUS, Adr.MSG_BULK_STATUS] (s.half h) (t.half h)) ∧
      (load = false → s.canCopy h = true →
        Completes (.bulkCopyComplete h true ofs) s fun t => (t.half h).store.copying = none ∧
          SameRegs [Adr.MSG_BULK_STATUS] (s.half h) (t.half h) ∧
          ∀ y, y = (s.half h.other).takeCopy ((s.half h).copyWords (s.half h).bankIn) →
            y.verifyBank y.bankOut (y.validMessages y.bankOut).length = none →
            (t.half h.other).libState = 5 ∧ (t.half h.other).store.pendingAt = some ((s.half h.other).block + 1) ∧
            SameRegs [Adr.MSG_STATUS, Adr.DIE_BOOT_STATUS] (s.half h.other) (t.half h.other))) ∧
    ((s.half h).libState = 4 → (s.half h).linkUp = true → (s.half h.other).role = .standby →
      ((s.half h.other).verifyBank (s.half h.other).bankOut ((s.half h).get Adr.MSG_LIB_COMMIT 0 13) = none →
        Completes (.partnerVerifyResult h ofs) s fun t => ∀ k, (t.half k).libState = 5 ∧
          (t.half k).store = { (s.half k).store.write ((s.half k).recordBase (s.half k).bankOut)
              ((s.half k).commitRecord (s.half k).bankOut (s.half h).nextGen) with
            pendingAt := some ((s.half h).block + if ofs.val = 0 then 2 else 3), copying := none } ∧
          SameRegs [Adr.MSG_STATUS] (s.half k) (t.half k)) ∧
      ((s.half h.other).verifyBank (s.half h.other).bankOut ((s.half h).get Adr.MSG_LIB_COMMIT 0 13) ≠ none →
        CompletesAt (.partnerVerifyResult h ofs) h s fun x => x.libState = 5 ∧ x.get Adr.MSG_FAULT 0 16 = 2 ∧
          x.rd Adr.MSG_LIB_DETAIL = 0x05000000#32 ∧
          SameRegs [Adr.MSG_STATUS, Adr.MSG_FAULT, Adr.MSG_LIB_DETAIL, Adr.MSG_BULK_STATUS] (s.half h) x)) ∧
    ((s.half h).libState = 3 ∨ (s.half h).libState = 4 →
      CompletesAt (.partnerVerifyTimeout h ofs) h s fun x => x.libState = 5 ∧ x.get Adr.MSG_FAULT 0 16 = 2 ∧
        x.rd Adr.MSG_LIB_DETAIL = 0x05000000#32 ∧ x.bit Adr.MSG_BULK_STATUS 31 = false ∧
        x.store.pendingAt = some ((s.half h).block + if ofs.val = 0 then 2 else 3) ∧
        SameRegs [Adr.MSG_STATUS, Adr.MSG_FAULT, Adr.MSG_LIB_DETAIL, Adr.MSG_BULK_STATUS] (s.half h) x) ∧
    (s.mayResync h = true → (s.half h).rd Adr.MSG_LIB_GEN ≠ (s.half h.other).rd Adr.MSG_LIB_GEN →
      CompletesAt (.libraryResyncCopy h) h s fun x => x.rd Adr.MSG_BULK_STATUS = 0x80000000#32 ∧
        x.store = { (s.half h).store with copying := some false } ∧ SameRegs [Adr.MSG_BULK_STATUS] (s.half h) x) ∧
    ((s.half h).live = true → (s.half h).up .memory = true → (s.half h).bit Adr.MSG_STATUS 0 = true →
      CompletesAt (.libraryCheck h) h s fun x => x.get Adr.MSG_LIB_CHECK 0 16 = 0 ∧
        (∀ m ∈ (s.half h).validMessages (s.half h).bankIn, ∀ e, e = (s.half h).entry (s.half h).bankIn m →
          (crc32 ((s.half h).store.read ((s.half h).bankBase (s.half h).bankIn + 64 * e.line) e.bytes)).toNat ≠ e.crc →
          x.damaged m = true) ∧
        (∀ a, a ≠ Adr.MSG_EVENT → a ≠ Adr.MSG_LIB_CHECK → (∀ w, w < 128 → a ≠ Adr.MSG_DAMAGED w) → x.rd a = (s.half h).rd a))

/-- A player at the end of its message ends its pass or starts again; a fault stops it with its cause. A recorder frame starts at
each boundary with the enabled channels, is written whole with its header's offset and sequence, fills the ring to a stop, or is
dropped and counted (R219, R301, R308, R309, R311). Readings of the model: log entry 71. -/
def Obligations.PlayersAndRecorderMoveFrameByFrame : Prop :=
  ∀ (h : HalfId) (s : State),
    (∀ (p : Fin 64) st, (s.half h).playerAtEnd p = true → (s.half h).player p = some st →
      (st.repeats = false →
        CompletesAt (.playerPassEnd h p) h s fun x => x.bit (Adr.MSG_PLAYER p) 31 = false ∧
          SameRegs [Adr.MSG_PLAYER p, Adr.MSG_STATUS] (s.half h) x) ∧
      (st.repeats = true → (s.half h).bit Adr.MSG_STATUS 0 = true →
        ((s.half h).entry (s.half h).bankIn ((s.half h).playerMsg p)).valid = true →
        (s.half h).damaged ((s.half h).playerMsg p) = false →
        CompletesAt (.playerPassEnd h p) h s fun x => x.player p = some ⟨0, false, true⟩ ∧ x.bit (Adr.MSG_PLAYER p) 31 = true ∧
          x.playerMsg p = (s.half h).playerMsg p ∧ SameRegs [Adr.MSG_PLAYER p, Adr.MSG_STATUS] (s.half h) x)) ∧
    (∀ (p : Fin 64) empty, (s.half h).bit (Adr.MSG_PLAYER p) 31 = true →
      CompletesAt (.playerFault h p empty) h s fun x => x.bit (Adr.MSG_PLAYER p) 31 = false ∧
        x.bit (Adr.MSG_PLAYER p) 30 = true ∧ x.get (Adr.MSG_PLAYER p) 8 4 = (if empty then 4 else 3) ∧
        x.bit Adr.MSG_EVENT 2 = true ∧ SameRegs [Adr.MSG_PLAYER p, Adr.MSG_EVENT, Adr.MSG_STATUS] (s.half h) x) ∧
    ((s.half h).live = true → (s.half h).up .memory = true → (s.half h).block % 256 = 0 →
      (s.half h).bit Adr.REC_CTRL 0 = true → (s.half h).recRole = true → (s.half h).bit Adr.REC_STATUS 1 = false →
      CompletesAt (.recorderFrameBoundary h) h s fun x => x.bit Adr.REC_STATUS 0 = true ∧ x.recd.on = true ∧
        x.recd.chans = maskBits 64 (s.half h).chEn ∧ x.recd.frame = [] ∧ x.recd.startNs = (s.half h).ptpNs 0 ∧
        x.recd.seq = (s.half h).block / 256 % 2 ^ 32 ∧ x.recd.planId = (s.half h).rd Adr.GRF_PLAN_ID ∧
        SameRegs [Adr.REC_STATUS, Adr.REC_WRITE_OFS, Adr.REC_DROPPED, Adr.REC_FAULT, Adr.REC_EVENT] (s.half h) x) ∧
    (∀ data head, (s.half h).recd.ready = some (data, head) →
      (((s.half h).rd Adr.REC_WRITE_OFS).toNat + (64 + data.length) ≤ (s.half h).recBytes → head.length = 60 →
        CompletesAt (.recorderFrameWritten h) h s fun x => x.recd.ready = none ∧
          x.rd Adr.REC_WRITE_OFS = BitVec.ofNat 32 (((s.half h).rd Adr.REC_WRITE_OFS).toNat + (64 + data.length)) ∧
          x.rd Adr.REC_LAST_SEQ = BitVec.ofNat 32 (beAt head 8 4) ∧
          x.store = (s.half h).store.write ((s.half h).recBase + ((s.half h).rd Adr.REC_WRITE_OFS).toNat)
            (head ++ beBytes 4 (crc32 (data ++ head)).toNat ++ data) ∧
          SameRegs [Adr.REC_WRITE_OFS, Adr.REC_OLDEST_OFS, Adr.REC_LAST_SEQ] (s.half h) x) ∧
      ((s.half h).recBytes < ((s.half h).rd Adr.REC_WRITE_OFS).toNat + (64 + data.length) → (s.half h).bit Adr.REC_CTRL 1 = true →
        CompletesAt (.recorderFrameWritten h) h s fun x => x.recd.ready = none ∧ x.recd.on = false ∧
          x.bit Adr.REC_STATUS 1 = true ∧ x.bit Adr.REC_STATUS 0 = false ∧ x.bit Adr.REC_EVENT 2 = true ∧
          x.store = (s.half h).store ∧ SameRegs [Adr.REC_STATUS, Adr.REC_EVENT] (s.half h) x)) ∧
    ((s.half h).recd.ready.isSome = true →
      CompletesAt (.recorderFrameDrop h) h s fun x => x.recd = { (s.half h).recd with ready := none, gap := true } ∧
        x.get Adr.REC_DROPPED 0 16 = satAdd 16 ((s.half h).get Adr.REC_DROPPED 0 16) 1 ∧ x.get Adr.REC_FAULT 0 16 = 1 ∧
        x.bit Adr.REC_EVENT 0 = true ∧ SameRegs [Adr.REC_DROPPED, Adr.REC_FAULT, Adr.REC_EVENT] (s.half h) x)

/-! The amplifier outputs. -/

/-- A channel goes to SHORT on its K-th trip, through a probe back to RUN, or to LATCHED on its third failed probe; the end of its
DC window, of its open loop and of its cluster's carrier change, its standby tracking; a carrier boundary starts the channels that
may run and stops those that may not, once their stages have settled (R342, R350 to R352, R354 to R356, R362, R370). Readings of the
model: log entries 77, 78, 80, 83, 87, 89. -/
def Obligations.AmplifierChannelsFollowTheirStates : Prop :=
  ∀ (h : HalfId) (k : Fin 32) (s : State),
    ((s.half h).modulates k = true → ((s.half h).ampCh k).cut = false →
      ((s.half h).ampActs = false →
        CompletesAt (.currentTrip h k) h s fun x =>
          x.get (Adr.AMP_TRIP_CNT k) 0 16 = satAdd 16 ((s.half h).get (Adr.AMP_TRIP_CNT k) 0 16) 1 ∧
          (x.ampCh k).cut = false ∧ SameRegs [Adr.AMP_TRIP_CNT k] (s.half h) x) ∧
      ((s.half h).ampActs = true → (s.half h).ampState k = 2 →
        ((true :: ((s.half h).ampCh k).trips.drop 1).filter fun b => b).length < (s.half h).tripLimit k →
        CompletesAt (.currentTrip h k) h s fun x => x.ampState k = 2 ∧ (x.ampCh k).cut = true ∧ (x.ampCh k).edges = [] ∧
          x.get (Adr.AMP_TRIP_CNT k) 0 16 = satAdd 16 ((s.half h).get (Adr.AMP_TRIP_CNT k) 0 16) 1 ∧
          SameRegs [Adr.AMP_TRIP_CNT k] (s.half h) x) ∧
      ((s.half h).ampActs = true → (s.half h).ampState k = 2 →
        (s.half h).tripLimit k ≤ ((true :: ((s.half h).ampCh k).trips.drop 1).filter fun b => b).length →
        CompletesAt (.currentTrip h k) h s fun x => x.ampState k = 3 ∧ x.bit (Adr.AMP_EVENT k) 1 = true ∧
          x.get (Adr.AMP_FAULT k) 0 16 = 1 ∧ x.get (Adr.AMP_PROBE k) 16 16 = 500 ∧
          SameRegs [Adr.AMP_TRIP_CNT k, Adr.AMP_STATUS k, Adr.AMP_EVENT k, Adr.AMP_FAULT k, Adr.AMP_PROBE k] (s.half h) x)) ∧
    ((s.half h).ampActs = true →
      ((s.half h).ampState k = 3 → (s.half h).mayRun k = true →
        CompletesAt (.probeStart h k) h s fun x => x.ampState k = 4 ∧ x.get (Adr.AMP_PROBE k) 16 16 = 0 ∧
          SameRegs [Adr.AMP_STATUS k, Adr.AMP_EVENT k, Adr.AMP_PROBE k] (s.half h) x) ∧
      (∀ z : Word, (s.half h).ampState k = 4 →
        ((s.half h).get (Adr.AMP_ZSHORT k) 0 16 ≤ z.toNat →
          CompletesAt (.probeEnd h k z) h s fun x => x.ampState k = 2 ∧ x.get (Adr.AMP_PROBE k) 0 2 = 0 ∧
            SameRegs [Adr.AMP_STATUS k, Adr.AMP_EVENT k, Adr.AMP_PROBE k] (s.half h) x) ∧
        (z.toNat < (s.half h).get (Adr.AMP_ZSHORT k) 0 16 →
          CompletesAt (.probeEnd h k z) h s fun x =>
            (if (s.half h).get (Adr.AMP_PROBE k) 0 2 < 2 then x.ampState k = 3 ∧ x.get (Adr.AMP_PROBE k) 16 16 = 500 ∧
              x.get (Adr.AMP_PROBE k) 0 2 = (s.half h).get (Adr.AMP_PROBE k) 0 2 + 1
            else x.ampState k = 5 ∧ x.get (Adr.AMP_FAULT k) 0 16 = 2) ∧ x.bit (Adr.AMP_EVENT k) 1 = true ∧
            SameRegs [Adr.AMP_STATUS k, Adr.AMP_EVENT k, Adr.AMP_PROBE k, Adr.AMP_FAULT k] (s.half h) x))) ∧
    ((s.half h).outUp = true → (s.half h).snsValid k = true → (s.half h).bit (Adr.AMP_STATUS k) 8 = true →
      CompletesAt (.openLoopEnd h k) h s fun x => x.bit (Adr.AMP_STATUS k) 8 = false ∧ (x.ampCh k).e = [] ∧
        (x.ampCh k).u = [] ∧ SameRegs [Adr.AMP_STATUS k] (s.half h) x) ∧
    ((s.half h).outUp = true → ∀ big, big = decide (((s.half h).ampCh k).dcWin.n * 2 ^ 24 * (s.half h).get (Adr.AMP_DC_LIMIT k) 0 16 <
        ((s.half h).ampCh k).dcWin.v.natAbs * (s.half h).get (Adr.AMP_SCALE k) 0 16) →
      (big = true → ((s.half h).ampCh k).dcOver = true → (s.half h).ampActs = true → (s.half h).ampState k = 2 →
        CompletesAt (.dcWindowEnd h k) h s fun x => x.ampState k = 6 ∧ x.bit (Adr.AMP_EVENT k) 4 = true ∧
          x.get (Adr.AMP_FAULT k) 0 16 = 3 ∧ (x.ampCh k).dcWin = Meas.zero ∧
          SameRegs [Adr.AMP_DC k, Adr.AMP_STATUS k, Adr.AMP_EVENT k, Adr.AMP_FAULT k] (s.half h) x) ∧
      (big = false ∨ ((s.half h).ampCh k).dcOver = false →
        CompletesAt (.dcWindowEnd h k) h s fun x => (x.ampCh k).dcWin = Meas.zero ∧ (x.ampCh k).dcOver = big ∧
          (∀ q, q < 0x8000 → ((s.half h).ampCh k).dcWin.v.natAbs * (s.half h).get (Adr.AMP_SCALE k) 0 16 =
              q * (((s.half h).ampCh k).dcWin.n * 2 ^ 24) → 0 < ((s.half h).ampCh k).dcWin.n →
            x.rd (Adr.AMP_DC k) = BitVec.ofNat 32 (unsigned 16 (if ((s.half h).ampCh k).dcWin.v < 0 then -(q : Int) else q))) ∧
          SameRegs [Adr.AMP_DC k] (s.half h) x)) ∧
    (∀ on, (s.half h).outUp = true → (s.half h).role = .standby → (s.half h).bit (Adr.AMP_TRACK k) 31 ≠ on →
      CompletesAt (.trackingChange h k on) h s fun x => x.bit (Adr.AMP_TRACK k) 31 = on ∧ x.bit (Adr.AMP_EVENT k) 5 = true ∧
        (on = true → x.bit Adr.GST_GATE_MISMATCH k = false) ∧
        SameRegs [Adr.AMP_TRACK k, Adr.AMP_EVENT k, Adr.GST_GATE_MISMATCH] (s.half h) x) ∧
    (∀ c : Fin 4, k.val / 8 = c.val →
      ((s.half h).out.cl.length = 4 → ((s.half h).ampCl c).changing = true →
        CompletesAt (.carrierChangeResume h c) h s fun x => (x.ampCl c).changing = false ∧ (x.ampCh k).soft = 0 ∧
          x.regs = (s.half h).regs) ∧
      ((s.half h).outUp = true → (s.half h).bit (Adr.AMPC_STATUS c) 3 = true → (s.half h).out.cl.length = 4 →
        CompletesAt (.psenSettleExpiry h c) h s fun x => (x.ampCl c).settled = true ∧
          ((s.half h).ampActs = true → (s.half h).ampState k = 1 → (s.half h).channelOk k = true →
            (s.half h).bit (Adr.AMPC_STATUS c) 1 = false → (s.half h).bit (Adr.AMPC_STATUS c) 4 = false →
            (s.half h).bit (Adr.AMPC_STATUS c) 6 = true → x.ampState k = 2) ∧ SameRegs (channelRegs c) (s.half h) x) ∧
      (∀ chans bus, (s.half h).outUp = true → (s.half h).carrierLocked = true → (s.half h).ampActs = true →
        (s.half h).sent.giveUp = .idle →
        (Completes (.carrierBoundary h c chans bus) s fun t => ((t.half h).ampCh k).cut = false ∧
          ((t.half h).ampCh k).trips = (false :: ((s.half h).ampCh k).trips).take 16 ∧
          SameRegs (Adr.AMPC_BUS_V c :: channelRegs c ++ lineRegsOf) (s.half h) (t.half h)) ∧
        (bus = [] → (s.half h).bit (Adr.AMP_CTRL k) 0 = true → Completes (.carrierBoundary h c chans bus) s fun t =>
          ((s.half h).ampState k = 1 → (s.half h).mayRun k = true → (t.half h).ampState k = 2) ∧
          ((s.half h).ampState k = 2 → (s.half h).mayStay k = true → (t.half h).ampState k = 2) ∧
          ((s.half h).ampState k = 2 → (s.half h).mayStay k = false → (t.half h).ampState k = 1))))

/-- A cluster fault has its cause and stops the cluster: power not limited, an NTC beyond its range, a bus that cannot be sensed, a
stage enable that does not follow; the bus leaves its range and comes back; pulls of the stage enables are released and taken again
(R359 to R361, R363, R365 to R367). Readings of the model: log entries 79, 88. -/
def Obligations.AmplifierClustersGuardTheirStages : Prop :=
  ∀ (h : HalfId) (c : Fin 4) (s : State), (s.half h).outUp = true → (s.half h).out.cl.length = 4 →
    ((s.half h).bit (Adr.AMPC_STATUS c) 1 = false →
      (∀ e cause, (e = .clusterPowerFault h c ∧ cause = 5 ∧ (s.half h).ampActs = true ∧
            (s.half h).get (Adr.AMPC_CL_PLIM c) 0 16 ≠ 0) ∨ (e = .ntcFault h c ∧ cause = 1 ∧ (s.half h).ntcBad c = true) ∨
          (e = .busSenseFault h c ∧ cause = 2 ∧ (s.half h).snsValid (76 + c) = false) →
        CompletesAt e h s fun x => x.bit (Adr.AMPC_STATUS c) 1 = true ∧ x.bit (Adr.AMPC_EVENT c) 3 = true ∧
          x.get (Adr.AMPC_FAULT c) 0 16 = cause ∧ x.bit (Adr.AMPC_FAULT c) 31 = true ∧
          OnlyRegs [Adr.AMPC_STATUS c, Adr.AMPC_EVENT c, Adr.AMPC_FAULT c] (s.half h) x) ∧
      (∀ low, (s.half h).bit (Adr.AMPC_STATUS c) 2 ≠ low →
        (s.half h).bit (Adr.AMPC_STATUS c) 2 = true ∨ (s.half h).followsRelease c = true →
        Completes (.psenReadbackFault h c low) s fun t => (t.half h).bit (Adr.AMPC_STATUS c) 1 = true ∧
          (t.half h).get (Adr.AMPC_FAULT c) 0 16 = (if low then 4 else 3) ∧ ((t.half h).ampCl c).stuck = some low ∧
          SameRegs (Adr.AMPC_FAULT c :: lineRegsOf) (s.half h) (t.half h))) ∧
    ((s.half h).ampActs = true → (s.half h).bit (Adr.AMPC_STATUS c) 4 = true →
      Completes (.thermalShutdownEnd h c) s fun t => (t.half h).bit (Adr.AMPC_STATUS c) 4 = false ∧
        (t.half h).bit (Adr.AMPC_EVENT c) 0 = true ∧
        ((t.half h).ampCl c).released = ((s.half h).bit (Adr.AMPC_STATUS c) 1 && ((s.half h).ampCl c).released) ∧
        SameRegs lineRegsOf (s.half h) (t.half h)) ∧
    (∀ v : BitVec 16, (s.half h).snsValid (76 + c) = true →
      (((s.half h).ampCl c).armed = true → ((s.half h).ampCl c).busBad = false →
        v.toNat < (s.half h).get (Adr.AMPC_BUS_LIMITS c) 0 16 ∨ (s.half h).get (Adr.AMPC_BUS_LIMITS c) 16 16 < v.toNat →
        CompletesAt (.busOutOfRange h c v) h s fun x => x.rd (Adr.AMPC_BUS_V c) = v.setWidth 32 ∧
          (x.ampCl c).busBad = true ∧ x.get (Adr.AMPC_FAULT c) 0 16 = 7 ∧ x.bit (Adr.AMPC_EVENT c) 1 = true ∧
          x.bit (Adr.AMPC_STATUS c) 6 = false ∧
          SameRegs [Adr.AMPC_BUS_V c, Adr.AMPC_FAULT c, Adr.AMPC_EVENT c, Adr.AMPC_STATUS c] (s.half h) x) ∧
      ((s.half h).get (Adr.AMPC_BUS_LIMITS c) 0 16 ≤ v.toNat → v.toNat ≤ (s.half h).get (Adr.AMPC_BUS_LIMITS c) 16 16 →
        Completes (.busInRange h c v) s fun t => (t.half h).rd (Adr.AMPC_BUS_V c) = v.setWidth 32 ∧
          ((t.half h).ampCl c).armed = true ∧ ((t.half h).ampCl c).busBad = false ∧ ((t.half h).ampCl c).busRel = false ∧
          (t.half h).bit (Adr.AMPC_STATUS c) 6 = true ∧
          SameRegs (Adr.AMPC_BUS_V c :: lineRegsOf) (s.half h) (t.half h))) ∧
    (((s.half h).ampCl c).busBad = true →
      Completes (.busPsenRelease h c) s fun t => ((t.half h).ampCl c).busRel = true ∧
        ((s.half h).role = .active → (s.half h).sent.forceData = false → (s.half h).sent.giveUp = .idle →
          (t.half h).bit (Adr.AMPC_STATUS c) 2 = false) ∧ SameRegs lineRegsOf (s.half h) (t.half h)) ∧
    ((s.half h).bit (Adr.AMPC_STATUS c) 1 = true ∨ (s.half h).bit (Adr.AMPC_STATUS c) 4 = true →
      Completes (.psenReleaseDelay h (some c)) s fun t => ((t.half h).ampCl c).released = true ∧
        ((s.half h).role = .active → (s.half h).sent.forceData = false → (s.half h).sent.giveUp = .idle →
          (t.half h).bit (Adr.AMPC_STATUS c) 2 = false) ∧ SameRegs lineRegsOf (s.half h) (t.half h)) ∧
    (∀ cause, (s.half h).sent.giveUp = .detected cause →
      Completes (.psenReleaseDelay h none) s fun t => (t.half h).out.pullsOff = true ∧
        (t.half h).bit (Adr.AMPC_STATUS c) 2 = false ∧ SameRegs lineRegsOf (s.half h) (t.half h))

/-! The TDM ports, the sense chain, Larkspur. -/

/-- A slave-mode port finds its clock from its second frame start, takes good frames and counts bad ones, fails with cause 0x0002
after 16 bad ones in a row, and waits for its clock again (R327, R328). Readings of the model: log entries 73, 75. -/
def Obligations.TdmPortsFollowTheirFrames : Prop :=
  ∀ (h : HalfId) (t : Fin 8) (s : State), (s.half h).outUp = true → (s.half h).tdmMaster t = false → (s.half h).out.tdm.length = 8 →
    (∀ (bclks : BitVec 16) (ofs : BlockOfs) ratio slots,
      ((s.half h).tdmState t = 1 →
        CompletesAt (.tdmFrameStart h t bclks ofs ratio slots) h s fun x => (x.tdmPort t).seen = true ∧
          (((s.half h).tdmPort t).seen = true → (x.tdmPort t).found =
            (((s.half h).tdmPort t).found || bclks.toNat == (s.half h).tdmSlots t * (s.half h).tdmWidth t)) ∧
          x.regs = (s.half h).regs) ∧
      ((s.half h).tdmState t = 2 → (s.half h).role ≠ .standby →
        (bclks.toNat = (s.half h).tdmSlots t * (s.half h).tdmWidth t →
          CompletesAt (.tdmFrameStart h t bclks ofs ratio slots) h s fun x => x.rd (Adr.TDM_RATIO t) = ratio ∧
            (x.tdmPort t).errs = 0 ∧
            (x.tdmPort t).frames = ((s.half h).tdmPort t).frames ++ [(ofs * (s.half h).blockLen / 125000, slots)] ∧
            x.rd (Adr.TDM_FRAMES t) = (s.half h).rd (Adr.TDM_FRAMES t) + 1 ∧
            SameRegs [Adr.TDM_RATIO t, Adr.TDM_PHASE t, Adr.TDM_FRAMES t] (s.half h) x) ∧
        (bclks.toNat ≠ (s.half h).tdmSlots t * (s.half h).tdmWidth t →
          CompletesAt (.tdmFrameStart h t bclks ofs ratio slots) h s fun x =>
            (x.tdmPort t).errs = ((s.half h).tdmPort t).errs + 1 ∧ x.bit (Adr.TDM_EVENT t) 2 = true ∧
            x.get (Adr.TDM_FRAME_ERR_CNT t) 0 16 = satAdd 16 ((s.half h).get (Adr.TDM_FRAME_ERR_CNT t) 0 16) 1 ∧
            SameRegs [Adr.TDM_RATIO t, Adr.TDM_PHASE t, Adr.TDM_FRAME_ERR_CNT t, Adr.TDM_EVENT t] (s.half h) x))) ∧
    (16 ≤ ((s.half h).tdmPort t).errs → (s.half h).tdmState t = 2 →
      CompletesAt (.tdmFrameErrorLimit h t) h s fun x => x.tdmState t = 3 ∧ x.get (Adr.TDM_FAULT t) 0 16 = 2 ∧
        x.bit (Adr.TDM_FAULT t) 31 = true ∧
        SameRegs [Adr.TDM_STATUS t, Adr.TDM_EVENT t, Adr.TDM_FAULT t] (s.half h) x) ∧
    ((s.half h).tdmState t = 3 →
      CompletesAt (.tdmClockRestored h t) h s fun x => x.tdmState t = 1 ∧ x.bit (Adr.TDM_EVENT t) 1 = true ∧
        (x.tdmPort t).seen = false ∧ (x.tdmPort t).errs = 0 ∧
        SameRegs [Adr.TDM_STATUS t, Adr.TDM_EVENT t] (s.half h) x)

/-- A converter with a cause is invalid, shows its lowest cause and records causes 1 to 3; without one it is valid again and joins
its profile; an overload is counted; an output instant gives each valid channel of a profile its filtered value and each invalid one
0; the system profile and the common-mode reports give the values they bring (R380, R381, R382, R392, R393, R397, R399). Readings of
the model: log entries 93, 94, 95, 96, 102. -/
def Obligations.ConvertersAndProfilesGiveTheirValues : Prop :=
  ∀ (h : HalfId) (s : State), (s.half h).outUp = true →
    (∀ (n : Fin 80) e cause, ((e = .converterStuck h n ∧ cause = 1) ∨
          (e = .overloadTimeout h n ∧ cause = 2 ∧ (s.half h).bit (Adr.SNS_STATUS n) 5 = true) ∨
          (e = .frontEndSelfCheckFail h n ∧ cause = 3)) → ((s.half h).conv n).causes.contains cause = false →
      CompletesAt e h s fun x => x.snsValid n = false ∧ (x.conv n).causes = cause :: ((s.half h).conv n).causes ∧
        x.get (Adr.SNS_STATUS n) 8 4 = ((List.range 6).find? (cause :: ((s.half h).conv n).causes).contains).getD 0 ∧
        x.get (Adr.SNS_FAULT n) 0 16 = cause ∧
        ((s.half h).snsValid n = true → x.bit (Adr.SNS_EVENT n) 3 = true ∧
          (n.val < 32 → x.bit (Adr.AMP_STATUS n) 8 = true ∧ x.get (Adr.AMP_FAULT n) 0 16 = 4)) ∧
        SameRegs (senseLossRegs n) (s.half h) x) ∧
    (∀ (n : Fin 80) on, (s.half h).bit (Adr.SNS_STATUS n) 5 ≠ on →
      CompletesAt (.converterOverload h n on) h s fun x => x.bit (Adr.SNS_STATUS n) 5 = on ∧
        (on = true → x.bit (Adr.SNS_EVENT n) 2 = true ∧
          x.get (Adr.SNS_SAT_CNT n) 0 16 = satAdd 16 ((s.half h).get (Adr.SNS_SAT_CNT n) 0 16) 1) ∧
        SameRegs [Adr.SNS_STATUS n, Adr.SNS_EVENT n, Adr.SNS_SAT_CNT n] (s.half h) x) ∧
    (∀ (n : Fin 80) (cause : Fin 3), (((s.half h).conv n).causes.filter (· != cause.val + 1)) = [] → (s.half h).snsValid n = false →
      CompletesAt (.converterRecovery h n cause) h s fun x => x.snsValid n = true ∧ (x.conv n).causes = [] ∧
        (x.conv n).join = true ∧ x.bit (Adr.SNS_EVENT n) 3 = true ∧
        SameRegs [Adr.SNS_STATUS n, Adr.SNS_EVENT n] (s.half h) x) ∧
    (∀ (j : Fin 7) codes p, (s.half h).out.prof.length = 7 → ((s.half h).prof j).now = some p →
      codes.length = ((s.half h).profChannels j).length → (∀ c ∈ codes, c.length = p.d) →
      CompletesAt (.profileRelease h j codes) h s fun x => (x.prof j).n = ((s.half h).prof j).n + 1 ∧
        x.rd (Adr.SFE_PROF_SEQ j) = BitVec.ofNat 32 (((s.half h).prof j).n + 1) ∧
        (∀ q ∈ ((s.half h).profChannels j).zip codes,
          (((s.half h).conv q.1).causes ≠ [] → x.rd (Adr.SNS_VALUE q.1) = 0) ∧
          (((s.half h).conv q.1).causes = [] → ((s.half h).conv q.1).join = false →
            x.rd (Adr.SNS_VALUE q.1) = BitVec.ofNat 32 (unsigned 32
              ((q.2.zipIdx.foldl (Conv.cycle p (((s.half h).prof j).n * p.d)) ((s.half h).conv q.1)).output p).1))) ∧
        (∀ a, a ∉ [Adr.SFE_PROF_SEQ j, Adr.SFE_EVENT, Adr.SFE_DROPPED, Adr.QM_DROP_CNT 7] →
          (∀ n ∈ (s.half h).profChannels j, a ∉ [Adr.SNS_VALUE n, Adr.SNS_STATUS n, Adr.SNS_EVENT n]) →
          x.rd a = (s.half h).rd a)) ∧
    (∀ values tj ofs, CompletesAt (.systemProfileOutput h values tj ofs) h s fun x => x.hlt.tj = tj ∧
      (∀ i v, i < 16 → values[i]? = some v → (s.half h).snsValid (64 + i) = true → x.rd (Adr.SNS_SYS_VALUE (64 + i)) = v) ∧
      (∀ a, (∀ i, i < 16 → a ∉ [Adr.SNS_SYS_VALUE (64 + i), Adr.SNS_DERIVED (64 + i), Adr.SNS_STATUS (64 + i),
          Adr.SNS_EVENT (64 + i)]) → (∀ i, i < 8 → a ≠ Adr.ALM_EVAC_STATUS i) →
        (∀ c, c < 4 → a ∉ [Adr.AMPC_TEMP c, Adr.AMPC_STATUS c, Adr.AMPC_EVENT c, Adr.AMPC_FAULT c]) →
        x.rd a = (s.half h).rd a)) ∧
    (∀ words, CompletesAt (.cmReport h words) h s fun x =>
      (∀ i v, i < 32 → words[i]? = some v → x.rd (Adr.SNS_CM i) = v) ∧
      (∀ a, (∀ i, i < 32 → a ≠ Adr.SNS_CM i) → x.rd a = (s.half h).rd a))

/-- Larkspur shows the condition of a line after each update, with the interval's bands in its estimates; reports its enabled lines;
a capture that ends stores its baseline or shows that it failed; the pilot starts in silence (R400, R401, R403 to R406). Readings of
the model: log entries 98, 99, 101, 103. -/
def Obligations.LarkspurWatchesTheLines : Prop :=
  ∀ (h : HalfId) (k : Fin 32) (s : State), (s.half h).outUp = true →
    (∀ m : LineIn, (s.half h).lspOn k = true →
      CompletesAt (.larkspurUpdate h k m) h s fun x => x.get (Adr.SFE_LSPK_COND k) 27 3 = x.condition k ∧
        (∀ b z, b < 9 → m.bands[b]? = some z → (s.half h).running k = true → (s.half h).snsValid k = true →
          (s.half h).snsValid (32 + k) = true → signed 16 ((s.half h).get Adr.SFE_LIM_CFG 0 16) ≤ z.exc →
          getAt (x.lsp k).valid b false = true ∧ getAt (x.lsp k).bands b [] =
            (((z.re, z.im) :: getAt ((s.half h).lsp k).bands b []).take (clampNat 1 64 ((s.half h).get Adr.SFE_LSP_CFG 24 8)))) ∧
        (∀ a, a ∉ [Adr.SFE_LSPK_COND k, Adr.SNS_EVENT k, Adr.SNS_STATUS k, Adr.QM_DROP_CNT 10] →
          (∀ b, b < 9 → a ≠ estAdr k b) → x.rd a = (s.half h).rd a)) ∧
    ((s.half h).lspOn k = false →
      ∀ m : LineIn, m.diff = 0 → CompletesAt (.larkspurUpdate h k m) h s fun x => x.get (Adr.SFE_LSPK_COND k) 27 3 = 0 ∧
        x.bit (Adr.SFE_LSPK_COND k) 30 = (s.half h).bit (Adr.SFE_LSPK_COND k) 30 ∧
        SameRegs [Adr.SFE_LSPK_COND k, Adr.SNS_EVENT k, Adr.QM_DROP_CNT 10] (s.half h) x) ∧
    ((s.half h).get Adr.SFE_LSP_CFG 8 8 ≠ 0 →
      (CompletesAt (.larkspurReport h) h s fun x => SameRegs [Adr.QM_DROP_CNT 10] (s.half h) x) ∧
      ((List.range 32).filter (s.half h).lspOn = [k.val] →
        CompletesAt (.larkspurReport h) h s fun x => x = (s.half h).hwPush 10 7 ((s.half h).lineRecord k 1))) ∧
    (∀ sums, ((s.half h).lsp k).capture = some sums →
      ((s.half h).running k = false ∨ (getAt sums 8 (0, 0, 0)).1 = 0 →
        CompletesAt (.captureEnd h k) h s fun x => x.bit Adr.SFE_LSP_CAPFAIL k = true ∧ x.bit Adr.SFE_LSP_STATUS k = false ∧
          x.bit Adr.SFE_EVENT 2 = true ∧ (x.lsp k).capture = none ∧
          SameRegs [Adr.SFE_LSP_STATUS, Adr.SFE_LSP_CAPFAIL, Adr.SFE_EVENT] (s.half h) x) ∧
      ((s.half h).running k = true → 0 < (getAt sums 8 (0, 0, 0)).1 → sums.length = 9 →
        CompletesAt (.captureEnd h k) h s fun x => x.bit Adr.SFE_LSP_CAPFAIL k = false ∧ x.bit Adr.SFE_LSP_STATUS k = false ∧
          (∀ b c, sums[b]? = some c → x.rd (baseAdr k b) =
            BitVec.ofNat 32 (if c.1 = 0 then 0x80000000 else impedanceWord c.2.1 c.2.2 c.1)) ∧
          (∀ a, a ∉ [Adr.SFE_LSP_STATUS, Adr.SFE_LSP_CAPFAIL, Adr.SFE_EVENT] → (∀ b, b < 9 → a ≠ baseAdr k b) →
            x.rd a = (s.half h).rd a))) ∧
    ((s.half h).ampActs = true → (s.half h).lspOn k = true → (s.half h).pilotMode k = 1 →
      CompletesAt (.pilotStart h k) h s fun x => (x.lsp k).pilot = true ∧ x.bit (Adr.SFE_LSPK_COND k) 31 = true ∧
        SameRegs [Adr.SFE_LSPK_COND k] (s.half h) x)

/-! Gust, health, service life. -/

/-- A test of a unit ends with its class passed, or failed with its cause; a failed engine, cell or granule is retired (R485, R488,
R491, R492, R506). Readings of the model: log entries 129, 130, 131. -/
def Obligations.GustTestsReportTheirUnits : Prop :=
  ∀ (h : HalfId) (s : State),
    (∀ e : Fin 8, (s.half h).gustRuns 0 = true → ((s.half h).gustEngines false).contains e.val = true → (s.half h).katPaused e = false →
      (∀ last, CompletesAt (.engineKatSlice h e last false) h s fun x => x.engState e = 4 ∧ x.get (Adr.ENG_FAULT e) 0 16 = 3 ∧
        x.bit (Adr.GST_CLASS 0) 31 = true ∧ x.get Adr.GST_FAULT 0 16 = 1 ∧
        SameRegs (engineRegs e ++ gustFailRegs 0) (s.half h) x) ∧
      (CompletesAt (.engineKatSlice h e true true) h s fun x => x.bit (Adr.GST_CLASS 0) 31 = false ∧
        SameRegs (gustRegs 0) (s.half h) x) ∧
      exec (.engineKatSlice h e false true) s = .next s) ∧
    (∀ i : BitVec 16, (s.half h).gustRuns 3 = true → (s.half h).up .memory = true →
      ((s.half h).rsvUnused 64 < (s.half h).poolFree → (s.half h).boot.retired.cells.contains i.toNat = false →
        (CompletesAt (.poolCellTest h false i true) h s fun x => x.bit (Adr.GST_CLASS 3) 31 = false ∧ x.boot = (s.half h).boot ∧
          SameRegs (gustRegs 3) (s.half h) x) ∧
        (CompletesAt (.poolCellTest h false i false) h s fun x => x.bit (Adr.GST_CLASS 3) 31 = true ∧
          x.get Adr.GST_FAULT 0 16 = 4 ∧ x.boot.retired.cells = (s.half h).boot.retired.cells ++ [i.toNat] ∧
          SameRegs (gustFailRegs 3) (s.half h) x)) ∧
      (i.toNat < 256 → (s.half h).granuleUsed i.toNat = false →
        (CompletesAt (.poolCellTest h true i true) h s fun x => x.bit (Adr.GST_CLASS 3) 31 = false ∧ x.boot = (s.half h).boot ∧
          SameRegs (gustRegs 3) (s.half h) x) ∧
        (CompletesAt (.poolCellTest h true i false) h s fun x => x.bit (Adr.GST_CLASS 3) 31 = true ∧
          x.get Adr.GST_FAULT 0 16 = 4 ∧ x.boot.retired.granules.contains i.toNat = true ∧
          SameRegs (gustFailRegs 3) (s.half h) x))) ∧
    (∀ (c : Instr) (cls cause : Nat) pass, (c = .injectionTest h pass ∧ cls = 5 ∧ cause = 5) ∨
        ((∃ d, c = .clockMonitorTest h d pass) ∧ cls = 8 ∧ cause = 9) → (s.half h).gustRuns cls = true →
      (pass = true → CompletesAt c h s fun x => x.bit (Adr.GST_CLASS cls) 31 = false ∧ SameRegs (gustRegs cls) (s.half h) x) ∧
      (pass = false → CompletesAt c h s fun x => x.bit (Adr.GST_CLASS cls) 31 = true ∧ x.get Adr.GST_FAULT 0 16 = cause ∧
        x.bit Adr.GST_EVENT 0 = true ∧ SameRegs (gustFailRegs cls) (s.half h) x)) ∧
    (∀ k : Fin 32, (s.half h).gustRuns 7 = true → (s.half h).role = .standby →
      ((s.half h.other).running k = true → (s.half h).bit (Adr.AMP_TRACK k) 31 = false →
        (s.half h).bit Adr.GST_GATE_MISMATCH k = false →
        CompletesAt (.gateTrackingLost h k) h s fun x => x.bit Adr.GST_GATE_MISMATCH k = true ∧
          x.bit (Adr.GST_CLASS 7) 31 = true ∧ x.get Adr.GST_FAULT 0 16 = 7 ∧
          SameRegs [Adr.GST_GATE_MISMATCH, Adr.GST_CLASS 7, Adr.GST_FAULT, Adr.GST_FAIL_CNT] (s.half h) x) ∧
      (CompletesAt (.forbiddenGateCombination h k) h s fun x => x.bit (Adr.GST_CLASS 7) 31 = true ∧
        x.bit Adr.GST_EVENT 0 = true ∧ x.get Adr.GST_FAULT 0 16 = 8 ∧
        (x.rd Adr.GST_FAIL_CNT).toNat % 2 ^ 16 = satAdd 16 ((s.half h).get Adr.GST_FAIL_CNT 0 16) 1 ∧
        SameRegs [Adr.GST_CLASS 7, Adr.GST_EVENT, Adr.GST_FAULT, Adr.GST_FAIL_CNT] (s.half h) x)) ∧
    (∀ i : Fin 32, (s.half h).live = true → (s.half h).role = .standby →
      (CompletesAt (.ampDiffExpiry h false i) h s fun x => x.bit Adr.GST_AMP_DIFF i = true ∧
        OnlyRegs [Adr.GST_AMP_DIFF] (s.half h) x) ∧
      (i.val < 4 → CompletesAt (.ampDiffExpiry h true i) h s fun x => x.bit Adr.GST_NTC_DIFF i = true ∧
        OnlyRegs [Adr.GST_NTC_DIFF] (s.half h) x) ∧
      (4 ≤ i.val → exec (.ampDiffExpiry h true i) s = .next s)) ∧
    (∀ cls : Fin 9, (s.half h).live = true → (s.half h).up .control = true → (s.half h).gustHas cls = true →
      CompletesAt (.gustClassOverdue h cls) h s fun x => x.bit (Adr.GST_CLASS cls) 30 = true ∧ x.bit Adr.GST_EVENT 1 = true ∧
        OnlyRegs [Adr.GST_CLASS cls, Adr.GST_EVENT] (s.half h) x)

/-- The halves compare their converters: a third mismatch in a row sets a converter's bit with cause 0x0006, a tenth clean window
clears it, as each half counts them (R490). Readings of the model: log entry 129. -/
def Obligations.HalvesCompareTheirConverters : Prop :=
  ∀ (a b : List SenseStat) (s : State), s.a.compares = true → s.b.compares = true →
    Completes (.crossSenseWindow a b) s fun t => ∀ k,
      (∀ i x y, i < 80 → a[i]? = some x → b[i]? = some y → (s.half k).snsValid i = true → (s.half k.other).snsValid i = true →
        ∀ n, n = lookAt (fun _ => (0, 0)) (s.half k).gust.mismatch i →
        lookAt (fun _ => (0, 0)) (t.half k).gust.mismatch i =
          (if senseMismatch ((s.half k).get Adr.GST_SENSE_TOL 0 16) x y then (min (n.1 + 1) 3, 0) else (0, min (n.2 + 1) 10)) ∧
        (senseMismatch ((s.half k).get Adr.GST_SENSE_TOL 0 16) x y = true → n.1 = 2 →
          (t.half k).bit (Adr.GST_SENSE_MISMATCH (i / 32)) (i % 32) = true) ∧
        (senseMismatch ((s.half k).get Adr.GST_SENSE_TOL 0 16) x y = false → n.2 = 9 →
          (t.half k).bit (Adr.GST_SENSE_MISMATCH (i / 32)) (i % 32) = false)) ∧
      (∀ r, r ∉ gustFailRegs 6 → (∀ w, w < 3 → r ≠ Adr.GST_SENSE_MISMATCH w) → (∀ i, i < 80 → r ≠ Adr.SNS_FAULT i) →
        (t.half k).rd r = (s.half k).rd r)

/-- Each health record stands in its window with the next sequence, and the partner's in its own; wear, hours, a hot die and a low
supply raise their warnings (R493, R494, R496, R497, R499, R500, R503). Readings of the model: log entries 127, 128, 132, 133. -/
def Obligations.HealthRecordsAndWarnings : Prop :=
  ∀ (h : HalfId) (s : State), (s.half h).live = true → (s.half h).up .control = true →
    (∀ (ecc rep : BitVec 16) y, y = ((s.half h).life .linkEcc ecc.toNat).life .onarRetry rep.toNat →
      CompletesAt (.healthRecord h ecc rep) h s fun x =>
        x.hlt = { y.hlt with seq := ((s.half h).hlt.seq + 1) % 2 ^ 32 } ∧
        (∀ i z, i < 64 → z = { y with hlt := { y.hlt with seq := ((s.half h).hlt.seq + 1) % 2 ^ 32 } } →
          x.rd (Adr.HLT_RECORD i) = BitVec.ofNat 32 (beAt
            (z.healthBytes (if (s.half h).bit Adr.HLT_STATUS 4 then (s.half h).lspDiff (s.half h.other) else 0)) (4 * i) 4)) ∧
        (∀ r, r ≠ Adr.QM_DROP_CNT 8 → (∀ i, i < 64 → r ≠ Adr.HLT_RECORD i) → x.rd r = (s.half h).rd r)) ∧
    ((s.half h).linkUp = true → (s.half h.other).live = true →
      CompletesAt (.partnerHealthRecord h) h s fun x => x.bit Adr.HLT_STATUS 4 = true ∧
        x.hlt = { (s.half h).hlt with partnerAt := some (s.half h).age } ∧
        (∀ i, i < 64 → x.rd (Adr.HLT_PARTNER_RECORD i) = (s.half h.other).rd (Adr.HLT_RECORD i)) ∧
        (∀ r, r ≠ Adr.HLT_STATUS → (∀ i, i < 64 → r ≠ Adr.HLT_PARTNER_RECORD i) → x.rd r = (s.half h).rd r)) ∧
    (∀ drifts, (∀ worn, worn = ((List.range 8).any fun r => decide (getAt drifts r 0 ≤ -((s.half h).get Adr.HLT_WEAR_LIMIT 0 16 : Int))) →
      (worn = true → (s.half h).bit Adr.HLT_STATUS 2 = false →
        CompletesAt (.wearMeasurement h drifts) h s fun x => x.bit Adr.HLT_STATUS 2 = true ∧ x.bit Adr.HLT_EVENT 2 = true ∧
          x.get Adr.HLT_FAULT 0 16 = 1 ∧ SameRegs [Adr.HLT_STATUS, Adr.HLT_EVENT, Adr.HLT_FAULT] (s.half h) x) ∧
      (worn = false → CompletesAt (.wearMeasurement h drifts) h s fun x => x.regs = (s.half h).regs ∧
        x.hlt.wear = (List.range 8).map fun r => getAt drifts r 0))) ∧
    (∀ tj, CompletesAt (.hoursWrite h tj) h s fun x => x.hlt.equiv = (s.half h).hlt.equiv + Config.arrhenius tj ∧
      x.get Adr.HLT_POWER_HOURS 0 32 = satAdd 32 ((s.half h).get Adr.HLT_POWER_HOURS 0 32) 1 ∧
      (x.rd Adr.HLT_EQUIV_HOURS).toNat = min 0xFFFFFFFF (((s.half h).hlt.equiv + Config.arrhenius tj) / 1000000) ∧
      x.get Adr.MSG_LIB_CHECK 0 16 = satAdd 16 ((s.half h).get Adr.MSG_LIB_CHECK 0 16) 1 ∧
      (315360000000 ≤ (s.half h).hlt.equiv → x.bit Adr.HLT_STATUS 3 = true) ∧
      SameRegs [Adr.HLT_POWER_HOURS, Adr.HLT_EQUIV_HOURS, Adr.MSG_LIB_CHECK, Adr.HLT_STATUS, Adr.HLT_EVENT] (s.half h) x) ∧
    (∀ on, (s.half h).bit Adr.HLT_STATUS 0 ≠ on →
      CompletesAt (.tempWarn h on) h s fun x => x.bit Adr.HLT_STATUS 0 = on ∧ x.bit Adr.HLT_EVENT 0 = true ∧
        (on = true → x.get Adr.HLT_FAULT 0 16 = 2) ∧
        OnlyRegs [Adr.HLT_STATUS, Adr.HLT_EVENT, Adr.HLT_FAULT] (s.half h) x) ∧
    (∀ (rail : Fin 12) (margin : BitVec 8), (s.half h).hlt.margins.length = 12 →
      (margin.toNat < (s.half h).get Adr.HLT_MARGIN_WARN 0 8 → (s.half h).bit Adr.HLT_STATUS 1 = false →
        CompletesAt (.supplyWarn h rail margin) h s fun x => x.bit Adr.HLT_STATUS 1 = true ∧ x.bit Adr.HLT_EVENT 1 = true ∧
          x.get Adr.HLT_FAULT 0 16 = 3 ∧ getAt x.hlt.margins rail 0 = margin.toNat ∧
          SameRegs [Adr.HLT_STATUS, Adr.HLT_EVENT, Adr.HLT_FAULT] (s.half h) x) ∧
      ((∀ m ∈ (s.half h).hlt.margins, 2 * (s.half h).get Adr.HLT_MARGIN_WARN 0 8 ≤ m) →
        2 * (s.half h).get Adr.HLT_MARGIN_WARN 0 8 ≤ margin.toNat → (s.half h).bit Adr.HLT_STATUS 1 = true →
        0 < (s.half h).get Adr.HLT_MARGIN_WARN 0 8 →
        CompletesAt (.supplyWarn h rail margin) h s fun x => x.bit Adr.HLT_STATUS 1 = false ∧ x.bit Adr.HLT_EVENT 1 = true ∧
          SameRegs [Adr.HLT_STATUS, Adr.HLT_EVENT] (s.half h) x))

/-! The mirror stream, the digests and the block boundary. -/

/-- What a standby half receives of its active partner (R470 to R475): an item waits for the block boundary, and one that the halves
compute with voids the digests of the block on both; a gap sends a STANDBY half back to SYNCING with `FAULT` cause 0x000C; a full
pass counts itself and its corrections, and a corrected plain field holds the active half's value; digests of the same block are
compared unless void. A block boundary of a running half with nothing waiting at its ports (R20, R21, R470): the block count and the
age move on by one, every mirrored item has been taken, no written value still waits but those of the plan, and each channel's
waiting output gain and DC limit have become the values in effect in step 3. Readings of the model: log entries 43, 116, 117, 118,
119, 121. -/
def Obligations.MirrorDigestsAndBoundaries : Prop :=
  (∀ (h : HalfId) (s : State),
     (s.mirrors h = true → ∀ kind,
       (touches kind = false → CompletesAt (.mirrorItem h kind 0) h s fun x =>
         x = (s.half h).onRdn fun r => { r with mirrorRx := (r.mirrorRx + 1) % 2 ^ 32, mirrorDue := r.mirrorDue ++ [kind] }) ∧
       (touches kind = true → Completes (.mirrorItem h kind 0) s fun t =>
         (t.half h).rdn.mirrorDue = (s.half h).rdn.mirrorDue ++ [kind] ∧ (t.half h).graph.voids = true ∧
         (t.half h.other).graph.voids = true ∧ t.a.regs = s.a.regs ∧ t.b.regs = s.b.regs ∧ t.pending = s.pending) ∧
       (∀ lost, 0 < lost → (s.half h).role = .standby → Completes (.mirrorItem h kind lost) s fun t =>
         (t.half h).role = .syncing ∧ (t.half h).bit Adr.RDN_EVENT 3 = true ∧ (t.half h).bit Adr.RDN_FAULT 31 = true ∧
         (t.half h).get Adr.RDN_FAULT 0 16 = 12 ∧ (t.half h).bit Adr.RDN_MIRROR_STATUS 31 = false ∧
         (t.half h).rdn.mirrorRx = ((s.half h).rdn.mirrorRx + lost + 1) % 2 ^ 32)) ∧
     (s.mirrors h = true → ∀ y n, ((s.resyncPass h).1.half h) = y → (s.resyncPass h).2 = n → Completes (.fullResyncPass h) s fun t =>
       (t.half h).get Adr.RDN_MIRROR_STATUS 0 16 = (y.get Adr.RDN_MIRROR_STATUS 0 16 + 1) % 2 ^ 16 ∧
       (t.half h).get Adr.RDN_MIRROR_DIFF 0 16 = min 0xFFFF (y.get Adr.RDN_MIRROR_DIFF 0 16 + n) ∧
       (y.role = .syncing → (t.half h).rdn.passes = y.rdn.passes + 1 ∧ (t.half h).rdn.lastClean = (n == 0))) ∧
     (∀ a l, locate a = some l → l.reg.m = true → l.confirm = false → l.reg.cls = .imm → l.reg.hook = .none → l.reg.attr = .rw →
       ((s.takeField h a).half h).rd a = (s.half h.other).rd a) ∧
     (∀ d rest m, (s.half h.other).rdn.digestOut = d :: rest →
       (s.half h).rdn.digests.find? (fun x => x.block == d.block) = some m → s.compares h = true →
       Completes (.digestReceive h) s fun t =>
         t.half h.other = (s.half h.other).onRdn (fun r => { r with digestOut := rest }) ∧
         ((m.voids || d.voids) = true → (t.half h).bit Adr.RDN_COMPARE_STATUS 30 = true ∧
           (t.half h).rdn.compared = (s.half h).rdn.compared ∧
           (t.half h).get Adr.RDN_COMPARE_CNT 0 16 = (s.half h).get Adr.RDN_COMPARE_CNT 0 16) ∧
         ((m.voids || d.voids) = false → m.mismatch d = 0 → (t.half h).get Adr.RDN_COMPARE_STATUS 0 8 = 0 ∧
           (t.half h).bit Adr.RDN_COMPARE_STATUS 31 = true ∧ (t.half h).rdn.compared = (s.half h).rdn.compared + 1 ∧
           (t.half h).get Adr.RDN_COMPARE_CNT 0 16 = (s.half h).get Adr.RDN_COMPARE_CNT 0 16) ∧
         ((m.voids || d.voids) = false → m.mismatch d ≠ 0 → (t.half h).get Adr.RDN_COMPARE_STATUS 0 8 = m.mismatch d ∧
           (t.half h).get Adr.RDN_COMPARE_CNT 0 16 = min 0xFFFF ((s.half h).get Adr.RDN_COMPARE_CNT 0 16 + 1)))) ∧
  (∀ (h : HalfId) (late : List (Fin 8)) (tdm : List TdmFrame) (s : State),
     ((s.half h).live = true → s.still → Completes (.blockBoundary h late tdm) s fun t =>
       (t.half h).age = (s.half h).age + 1 ∧ (t.half h).rdn.mirrorDue = [] ∧
       (∀ p ∈ (t.half h).held, waitsForPlan p.1 = true) ∧
       ((s.half h).alarm.firstBoundary = false → (s.half h).tim.step = none → (t.half h).block = (s.half h).block + 1) ∧
       t.wiredFault = s.wiredFault ∧ t.pending = s.pending) ∧
     ((s.half h).live = false → exec (.blockBoundary h late tdm) s = .next s) ∧
     (∀ (x : Half) (k : Fin 32) (a : Nat), a ∈ [Adr.AMP_OUT_GAIN k, Adr.AMP_DC_LIMIT k] → rising x.held = true →
       x.takeHeld.rd a = x.staged a))
/-! Resets, regions, the host link and the boot flash. -/

/-- Resets (R17, R288, R497, R528, R529, R534, R535, R540): power-on and pin reset put every register but what the shared lines show
at its reset value, with the cause and no owned line, keep the boot flash of an idle programmer and the block count, and the pin
reset the DRAM; the release checks both image slots, chooses by the selector, and shows NO_IMAGE or brings every region up. The PCIe
link (R38, R40, R41, R82, R593). Readings of the model: log entries 17, 138, 139, 141. -/
def Obligations.ResetsAndThePcieLink : Prop :=
  (∀ (h : HalfId) (s : State),
     (∀ pin : Bool, (s.half h).boot.flashOp = .idle → (s.half h).boot.bootOp = .idle →
       Completes (if pin then .pinReset h else .powerOnReset h) s fun t =>
         (t.half h).phase = (if pin then .pinReset else .powerReset) ∧
         (t.half h).get Adr.DIE_RESET_CAUSE 0 4 = (if pin then 2 else 1) ∧ (t.half h).sent.own = false ∧
         (t.half h).boot.bytes = (s.half h).boot.bytes ∧ (t.half h).boot.floor = (s.half h).boot.floor ∧
         (t.half h).block = (s.half h).block ∧ (t.half h).store.dram = (if pin then (s.half h).store.dram else []) ∧
         (pin = true → (t.half h).hlt.counts = (s.half h).hlt.counts ∧ (t.half h).rd Adr.HLT_TMR_CORR = (s.half h).rd Adr.HLT_TMR_CORR) ∧
         SameRegs (lineRegsOf ++ [Adr.DIE_RESET_CAUSE] ++ (if pin then
           [Adr.HLT_TMR_CORR, Adr.REC_WRITE_OFS, Adr.REC_OLDEST_OFS, Adr.REC_LAST_SEQ] else [])) (Half.init (s.half h).id) (t.half h) ∧
         SameRegs lineRegsOf (s.half h.other) (t.half h.other) ∧ t.pending = s.pending) ∧
     (∀ hostsel size, (s.half h).phase = .powerReset ∨ (s.half h).phase = .pinReset ∨ (s.half h).phase = .warmReset →
       (∀ i, ∀ p ∈ ((s.half h).boot.cfg i).words, (locate p.1).any (fun l => l.reg.m) = true) →
       Completes (.resetRelease h hostsel size) s fun t =>
         (t.half h).phase = .starting ∧ (t.half h).get Adr.DIE_BOOT_STATUS 24 4 = (s.half h).slotResult 0 ∧
         (t.half h).get Adr.DIE_BOOT_STATUS 20 4 = (s.half h).slotResult 1 ∧
         (t.half h).boot.selector =
           (bootChoice (s.half h).boot.selector ((s.half h).slotResult 0) ((s.half h).slotResult 1)).1 ∧
         ((s.half h).bit Adr.DIE_BOOT_STATUS 28 = false → (t.half h).bit Adr.DIE_BOOT_STATUS 28 =
           (bootChoice (s.half h).boot.selector ((s.half h).slotResult 0) ((s.half h).slotResult 1)).2.1.isNone) ∧
         ((t.half h).bit Adr.DIE_BOOT_STATUS 28 = true → (t.half h).up .control = true) ∧
         ((t.half h).bit Adr.DIE_BOOT_STATUS 28 = false → ∀ r, (t.half h).up r = true) ∧ t.pending = s.pending)) ∧
  (∀ (h : HalfId) (s : State), (s.half h).live = true → (s.half h).pcieSelected = true →
     (CompletesAt (.functionLevelReset h) h s fun x => x.bit Adr.HOST_LINK 16 = false ∧ x.ev.msixOut = [] ∧
       (∀ j, j < 0x102 → x.rd (Adr.HOST_MSIX j) = resetWord (s.half h).id (Adr.HOST_MSIX j)) ∧
       (∀ (p r : Fin 2) (tx : Bool), x.bit (ringAdr p tx r 0x18) 0 = false)) ∧
     (∀ gen bme, CompletesAt (.pcieLinkUp h gen bme) h s fun x => x.bit Adr.HOST_STATUS 0 = true ∧
       x.get Adr.HOST_LINK 0 10 = 16 + gen + 1 ∧ x.bit Adr.HOST_LINK 16 = bme ∧
       x = { (s.half h) with regs := x.regs, ev := { (s.half h).ev with linkSeen := true } } ∧
       SameRegs [Adr.HOST_STATUS, Adr.HOST_LINK] (s.half h) x) ∧
     ((s.half h).bit Adr.HOST_STATUS 0 = true →
       CompletesAt (.pcieLinkDown h) h s fun x => x.bit Adr.HOST_STATUS 0 = false ∧ x.rd Adr.HOST_LINK = 0 ∧
         x.bit Adr.HOST_EVENT 0 = true ∧ ∀ (p r : Fin 2) (tx : Bool), x.bit (ringAdr p tx r 0x18) 0 = false) ∧
     ((s.half h).bit Adr.HOST_STATUS 0 = false →
       CompletesAt (.pcieTrainingTimeout h) h s fun x => x.get Adr.HOST_FAULT 0 16 = 1 ∧ x.bit Adr.HOST_FAULT 31 = true ∧
         x = { (s.half h) with regs := x.regs, ev := { (s.half h).ev with linkSeen := true } } ∧ SameRegs [Adr.HOST_FAULT] (s.half h) x) ∧
     (CompletesAt (.pciePerstRelease h) h s fun x => x.bit Adr.HOST_LINK 16 = false ∧
       ∀ (p r : Fin 2) (tx : Bool), x.bit (ringAdr p tx r 0x18) 0 = false))
/-- Regions and clocks (R14 to R17, R29, R459): a failed region of a half that is not ACTIVE is in reset with its status registers
at their reset values and counts in the health record, a required one of an ACTIVE half makes it give up control; a failed Control
region resets the half; a ready region answers again; a lost clock domain fails what uses it. Readings of the model: log entries
112, 123, 139, 140. -/
def Obligations.RegionsFailAndReturn : Prop :=
  ∀ (h : HalfId) (s : State), (s.half h).live = true →
    (∀ (r : Region) (timeout : Bool), (s.half h).up r = true → (s.half h).regions.length = 8 →
      ((s.half h).role ≠ .active → r ≠ .control → r ≠ .sentinel →
        Completes (if timeout then .edgeGuardTimeout h r else .regionStateUncorrectable h r) s fun t =>
          (t.half h).regionState r = .inReset ∧ (t.half h).hlt.failed.testBit r.bit = true ∧
          (∀ a, regionStatus r a = true → keptStatus a = false → a ∉ lineRegsOf → (t.half h).rd a = resetWord (s.half h).id a) ∧
          ((s.half h).role = .standby → (t.half h).role = .syncing) ∧ t.pending = s.pending) ∧
      ((s.half h).role = .active → r.required = true → (s.half h).sent.giveUp = .idle → (s.half h).sent.dead = false →
        Completes (if timeout then .edgeGuardTimeout h r else .regionStateUncorrectable h r) s fun t =>
          (t.half h).regionState r = .failed ∧ (t.half h).sent.giveUp = .detected 8 ∧ (t.half h).get Adr.RDN_FAULT 0 16 = 8 ∧
          (t.half h).sent.forceData = true ∧ t.pending = s.pending) ∧
      ((s.half h).role ≠ .active → r = .control →
        Completes (if timeout then .edgeGuardTimeout h r else .regionStateUncorrectable h r) s fun t =>
          (t.half h).phase = .warmReset)) ∧
    (∀ r, (s.half h).regionState r = .inReset → (s.half h).regions.length = 8 →
      CompletesAt (.regionReady h r) h s fun x => x.up r = true ∧ ∀ r', r' ≠ r → x.regionState r' = (s.half h).regionState r') ∧
    (∀ (d : Fin 12) (port : Fin 8), d ≠ 9 → (s.half h).regions.length = 8 → CompletesAt (.clockLossDetected h d port) h s fun x =>
      (∀ r ∈ domainRegions d, x.up r = false) ∧
      ((s.half h).role = .active → (s.half h).sent.giveUp = .idle → (s.half h).sent.dead = false → d ∈ [0, 1, 2, 3, 8] →
        x.sent.giveUp = .detected 4 ∧ x.get Adr.RDN_YIELD_COUNT 16 8 = 4) ∧
      (d = 4 → x.tim.cd4 = false ∧ x.get Adr.TIM_FAULT 0 16 = 5) ∧
      (d = 5 ∨ d = 6 → (s.half h).portUp (d.val - 5) = true → x.get (Adr.MAC_STATUS (d.val - 5)) 0 3 = 0 ∧
        x.bit (Adr.MAC_EVENT (d.val - 5)) 0 = true) ∧
      (d = 7 → (s.half h).bit Adr.HOST_STATUS 0 = true → x.bit Adr.HOST_STATUS 0 = false ∧ x.bit Adr.HOST_EVENT 0 = true) ∧
      (d = 11 → (s.half h).tdmState port = 2 → (s.half h).tdmMaster port = false → x.tdmState port = 3 ∧
        x.get (Adr.TDM_FAULT port) 0 16 = 1)) ∧
    (∀ port, (s.half h).linkUp = true → (s.half h.other).linkUp = true → Completes (.clockLossDetected h 9 port) s fun t =>
      (t.half h).linkUp = false ∧ (t.half h.other).linkUp = false ∧ (t.half h).rdn.breezeOut = [] ∧
      (t.half h).bit Adr.RDN_STATUS 4 = false)

/-- The boot flash and its operations (R535 to R539, R545, R546): an erase or a program changes its sector or page alone, and a
failed one shows cause 0x3; a completed `BOOT_CTRL` operation has its effect and shows DONE, a failed one shows FAILED; the image in
trial is confirmed. Readings of the model: log entries 135, 136, 137. -/
def Obligations.BootOperationsComplete : Prop :=
  ∀ (h : HalfId) (s : State),
    ((s.half h).inTrial = true → (s.half h).role = .standby ∨ (s.half h).role = .active →
      CompletesAt (.trialConfirm h) h s fun x => x.bit Adr.DIE_BOOT_STATUS 31 = false ∧
        x.boot = { (s.half h).boot with selector := { (s.half h).boot.selector with trial := false, started := false } } ∧
        SameRegs [Adr.DIE_BOOT_STATUS] (s.half h) x) ∧
    (∀ a, (s.half h).boot.flashOp = .erase a → CompletesAt (.flashOperationComplete h true) h s fun x =>
      x.boot.flashOp = .idle ∧ x.rd Adr.DIE_FLASH_STATUS = 0 ∧ SameRegs [Adr.DIE_FLASH_STATUS] (s.half h) x ∧
      ∀ i, x.boot.byte i = if a / 0x10000 = i / 0x10000 then 0xFF else (s.half h).boot.byte i) ∧
    (∀ a, (s.half h).boot.flashOp = .program a → (s.half h).boot.page.length ≤ 256 →
      CompletesAt (.flashOperationComplete h true) h s fun x =>
        x.boot.flashOp = .idle ∧ x.rd Adr.DIE_FLASH_STATUS = 0 ∧ SameRegs [Adr.DIE_FLASH_STATUS] (s.half h) x ∧
        ∀ i, x.boot.byte i = if a ≤ i ∧ i < a + 256 then getAt (s.half h).boot.page (i - a) 0xFF else (s.half h).boot.byte i) ∧
    ((s.half h).flashBusy = true → CompletesAt (.flashOperationComplete h false) h s fun x =>
      x.boot.flashOp = .idle ∧ x.rd Adr.DIE_FLASH_STATUS = 0x43000000#32 ∧
      (∀ a i, (s.half h).boot.flashOp = .erase a → i < a ∨ a + 0x10000 ≤ i → x.boot.byte i = (s.half h).boot.byte i) ∧
      (∀ a i, (s.half h).boot.flashOp = .program a → i < a ∨ a + 256 ≤ i → x.boot.byte i = (s.half h).boot.byte i)) ∧
    (∀ op, (s.half h).boot.bootOp = op → op ≠ .idle →
      (CompletesAt (.bootOperationComplete h true) h s fun x =>
        x.get Adr.DIE_BOOT_STATUS 0 2 = 2 ∧ x.boot.bootOp = .idle ∧ SameRegs [Adr.DIE_BOOT_STATUS] (s.half h) x ∧
        (∀ slot, op = .select slot → x.boot.selector = ⟨slot, true, false⟩) ∧
        (op = .saveConfig → (x.boot.cfg (s.half h).boot.olderBank).valid = true ∧
          (x.boot.cfg (s.half h).boot.olderBank).words = (s.half h).configWords) ∧
        (op = .eraseConfig → x.boot.cfg0.valid = false ∧ x.boot.cfg1.valid = false) ∧
        (op = .eraseRetirements → x.boot.erased = some (s.half h).boot.retired) ∧
        (op = .raiseFloor → x.boot.floor = max (s.half h).boot.floor (s.half h).boot.security) ∧
        (op = .saveLibrary → ∀ i, i < (s.half h).copyLength (s.half h).bankIn →
          x.boot.byte (0x3010000 + i) =
            getAt ((s.half h).store.read ((s.half h).bankBase (s.half h).bankIn) ((s.half h).copyLength (s.half h).bankIn)) i 0)) ∧
      (CompletesAt (.bootOperationComplete h false) h s fun x =>
        x.get Adr.DIE_BOOT_STATUS 0 2 = 3 ∧ x.boot.bootOp = .idle ∧ SameRegs [Adr.DIE_BOOT_STATUS] (s.half h) x ∧
        (op = .saveLibrary → x.boot.byte 0x3000000 = 0xFF)))

/-! Accesses of the register fabric. -/

/-- Register accesses (R8, R20, R58, R59, R60, R61, R63, R64, R80): a permitted write is taken at once or waits, a read-only word
keeps its value, LO and HI of a 64-bit value are written together and read through the shadow, a clear-on-read word returns its bits
and loses them; an access out of alignment, at an unimplemented address, narrower than a write or a side effect allows, or of a
region that does not answer ends in a bus error. Readings of the model: log entries 8, 9. -/
def Obligations.AccessesFollowTheFabricRules : Prop :=
  ∀ (h : HalfId) (q : Req) (addr : Word) (a : Nat) (s : State), addr.toNat = a → a < 0x8000000 →
    (∀ l, Grants s h q a → a % 4 = 0 → locate a = some l → l.wideAs = .single →
      (∀ d : BitVec 64, l.plain a → l.reg.attr = .rw → Accepted (.registerWrite h q addr .w32 d) h q s fun x =>
        x.rd a = l.masked (d.truncate 32) ∧ SameRegs [a] (s.half h) x) ∧
      (∀ d : BitVec 64, l.reg.cls = .held → l.reg.hook = .none → l.reg.attr = .rw →
        Accepted (.registerWrite h q addr .w32 d) h q s fun x =>
          x.staged a = l.masked (d.truncate 32) ∧ SameRegs [] (s.half h) x) ∧
      (∀ d : BitVec 64, l.reg.attr = .ro ∨ l.reg.attr = .rc → Accepted (.registerWrite h q addr .w32 d) h q s fun x =>
        x.regs = (s.half h).regs ∧ x.held = (s.half h).held)) ∧
    (∀ l, Asks s h q → (s.half h).reads a = true → a % 4 = 0 → locate a = some l → l.wideAs = .single → l.reg.hook = .none →
      l.reg.attr = .rc → Accepted (.rcRead h q addr .w32) h q s fun x =>
        (x.acc.port q).resp.data = s.shown h l a ∧ x.rd a = 0 ∧ SameRegs [a] (s.half h) x) ∧
    (∀ l, Asks s h q → (s.half h).reads a = true → a % 4 = 0 → locate a = some l → l.wideAs = .lo → l.reg.hook = .none → l.reg.attr ≠ .pw →
      Accepted (.shadowLoRead h q addr) h q s fun x =>
        (x.acc.port q).resp.data = s.shown h l a ∧
        (∀ l2, locate (a + 4) = some l2 → (x.acc.port q).shadow = some (a, s.shown h l2 (a + 4))) ∧
        (l.reg.attr = .rc → x.rd a = 0 ∧ x.rd (a + 4) = 0) ∧ SameRegs [a, a + 4] (s.half h) x) ∧
    (∀ l d, Grants s h q a → a % 4 = 0 → locate a = some l → l.wideAs = .lo → l.reg.attr = .rw ∨ l.reg.attr = .wo →
      Accepted (.heldLoWrite h q addr d) h q s fun x => (x.acc.port q).heldLo = some (a, d) ∧ x.regs = (s.half h).regs ∧
        x.held = (s.half h).held) ∧
    (∀ l d, Grants s h q a → a % 4 = 0 → locate a = some l → l.wideAs = .hi → l.plain a → l.reg.attr = .rw →
      Accepted (.hiWrite h q addr d) h q s fun x => x.rd a = l.masked d ∧ SameRegs [a] (s.half h) x) ∧
    (∀ l l0 lo d (s0 : State), (s0 = s.on h fun x => x.onPort q fun p => { p with heldLo := some (a - 4, lo) }) → 4 ≤ a →
      Grants s h q a → a % 4 = 0 → locate a = some l → locate (a - 4) = some l0 → l.wideAs = .hi → l.plain a → l0.plain (a - 4) →
      l.reg.attr = .rw →
      Accepted (.hiWrite h q addr d) h q s0 fun x => x.rd (a - 4) = l0.masked lo ∧ x.rd a = l.masked d ∧
        (x.acc.port q).heldLo = none ∧ SameRegs [a - 4, a] (s.half h) x) ∧
    (Asks s h q →
      (∀ d, a % 4 ≠ 0 → Denied (.registerWrite h q addr .w32 d) h q a 4 s) ∧
      (∀ d, a % 4 = 0 → locate a = none → Denied (.registerWrite h q addr .w32 d) h q a 1 s) ∧
      (∀ l d, locate (a / 4 * 4) = some l → Denied (.registerWrite h q addr .w8 d) h q a 3 s) ∧
      (∀ l, locate (a / 4 * 4) = some l → l.sideEffect = true → Denied (.rcRead h q addr .w8) h q a 2 s) ∧
      (∀ l d, a % 4 = 0 → locate a = some l → (s.half h).up l.region = false → Denied (.registerWrite h q addr .w32 d) h q a 0xC s) ∧
      (∀ l d, a % 4 = 0 → locate a = some l → (s.half h).up l.region = true → (s.half h).sent.forceMgmt = false → l.reg.m = true →
        (s.half h).role = .standby ∨ (s.half h).role = .syncing → Denied (.registerWrite h q addr .w32 d) h q a 9 s) ∧
      (∀ l d, a % 4 = 0 → locate a = some l → (s.half h).up l.region = true → (s.half h).sent.forceMgmt = true →
        forcedWritable l.block = false → Denied (.registerWrite h q addr .w32 d) h q a 0xA s))

/-- Paired writes, bit aliases, the partner window and the scrub (R67, R68, R71, R73, R74, R75, R77): a value waits for its
confirmation, is taken with its complement (held for the block boundary where R20 says so) and fails otherwise; an alias word is one
bit of its register; an access in the partner window is the partner's; a single differing copy of a triplicated word is corrected
and counted. Readings of the model: log entries 8, 10, 16. -/
def Obligations.PairedAliasedAndPartnerAccesses : Prop :=
  ∀ (h : HalfId) (q : Req) (addr : Word) (a : Nat) (s : State), addr.toNat = a →
    (∀ l d, a < 0x8000000 → Grants s h q a → a % 4 = 0 → locate a = some l → l.reg.attr = .pw → l.confirm = false →
      Accepted (.pairedValueWrite h q addr d) h q s fun x => x.acc.pw = [⟨a, q, d⟩] ∧ x.regs = (s.half h).regs ∧
        x.held = (s.half h).held) ∧
    (∀ l d v (s0 : State), (s0 = s.on h fun x => { x with acc := { x.acc with pw := [⟨a - 4, q, v⟩] } }) → a < 0x8000000 → 4 ≤ a →
      Grants s h q a → a % 4 = 0 → locate a = some l → l.reg.attr = .pw → l.confirm = true →
      (d = ~~~v → l.reg.hook = .none → l.reg.cls = .held → Accepted (.pairedConfirm h q addr d) h q s0 fun x =>
        x.staged (a - 4) = ({ l with confirm := false } : Loc).masked v ∧ x.acc.pw = [] ∧ SameRegs [] (s.half h) x) ∧
      (d ≠ ~~~v → Accepted (.pairedConfirm h q addr d) h q s0 fun x => x.acc.pw = [] ∧ PairFails (s.half h) x (a - 4) 1)) ∧
    (∀ l d, a < 0x8000000 → 4 ≤ a → Grants s h q a → a % 4 = 0 → locate a = some l → l.reg.attr = .pw → l.confirm = true →
      Accepted (.pairedConfirm h q addr d) h q s fun x => x.acc.pw = [] ∧ PairFails (s.half h) x (a - 4) 2) ∧
    ((s.half h).acc.pw.any (fun p => p.slot == a && p.req == q) = true →
      CompletesAt (.confirmWindowExpiry h q addr) h s fun x =>
        x.acc.pw = (s.half h).acc.pw.filter (fun p => !(p.slot == a && p.req == q)) ∧ PairFails (s.half h) x a 3) ∧
    (∀ r b l, a = 0x8000000 + 4 * (32 * r + b) → b < 32 → r % 4 = 0 → a < 0x10000000 → locate r = some l → l.mask.testBit b = true →
      l.reg.attr = .rw → l.acts = false → l.confirm = false →
      (Asks s h q → (s.half h).reads r = true → Accepted (.aliasRead h q addr) h q s fun x =>
        (x.acc.port q).resp.data = BitVec.ofNat 32 (getBits (s.shown h l r) b 1) ∧ SameRegs [] (s.half h) x) ∧
      (∀ d, Grants s h q r → l.plain r → Accepted (.aliasWrite h q addr d) h q s fun x =>
        x.rd r = l.masked (setBits (s.shown h l r) b 1 (getBits d 0 1)) ∧ SameRegs [r] (s.half h) x)) ∧
    (∀ w d, 0x10000000 ≤ a → a < 0x20000000 → a % 4 = 0 → Asks s h q →
      ((s.half h).linkUp = false → Denied (.partnerWindowAccess h q addr .w32 w d) h q a 7 s) ∧
      ((s.half h).linkUp = true → (s.half h.other).fabricUp = false → Denied (.partnerWindowAccess h q addr .w32 w d) h q a 0xB s) ∧
      (∀ l, (s.half h).linkUp = true → (s.half h.other).fabricUp = true → locate (a - 0x10000000) = some l → a < 0x18000000 →
        l.wideAs = .single → l.plain (a - 0x10000000) → l.reg.attr = .rw →
        (w = true → (s.half h.other).takes (a - 0x10000000) = true → Completes (.partnerWindowAccess h q addr .w32 true d) s fun t =>
          ((t.half h).acc.port q).resp.ok = true ∧ (t.half h.other).rd (a - 0x10000000) = l.masked d ∧
          SameRegs [a - 0x10000000] (s.half h.other) (t.half h.other) ∧ SameRegs [] (s.half h) (t.half h)) ∧
        (w = false → (s.half h.other).reads (a - 0x10000000) = true → Completes (.partnerWindowAccess h q addr .w32 false d) s fun t =>
          ((t.half h).acc.port q).resp = ⟨s.shown h.other l (a - 0x10000000), true⟩ ∧
          SameRegs [] (s.half h.other) (t.half h.other) ∧ SameRegs [] (s.half h) (t.half h)))) ∧
    ((s.half h).answers q = true → ∀ w, Denied (.partnerTimeout h q addr w) h q a 0xB s) ∧
    (∀ l (c : Fin 3) v, locate a = some l → l.reg.t = true → l.confirm = false → (s.half h).live = true → (s.half h).acc.copies = [] →
      l.masked v ≠ (s.half h).rd a → a ∉ [Adr.HLT_TMR_CORR, Adr.EVT_SYS_EVENT] →
      CompletesAt (.tmrScrub h [(addr, c, v)]) h s fun x => x.rd a = (s.half h).rd a ∧ x.acc.copies = [] ∧
        x.get Adr.HLT_TMR_CORR 0 32 = min 0xFFFFFFFF ((s.half h).get Adr.HLT_TMR_CORR 0 32 + 1) ∧
        x.bit Adr.EVT_SYS_EVENT 2 = true ∧ SameRegs [Adr.HLT_TMR_CORR, Adr.EVT_SYS_EVENT] (s.half h) x)

/-! QSPI frames and the queue manager. -/

/-- QSPI frames (R46 to R52): a good read frame answers its words, status 0 and their CRC; a good write frame writes its words; a
frame with a wrong CRC is rejected, one cut short, aborted or timed out abandoned, both counted. Readings of the model: log entries
13, 14. -/
def Obligations.QspiFramesAreAnswered : Prop :=
  ∀ (h : HalfId) (addr : Word) (count crc dataCrc : Byte) (s : State),
    (Asks s h .qspi → count.toNat < 64 →
      (crc8 ([0x0B] ++ beBytes 4 addr.toNat ++ [count]) = crc →
        s.PlainReads h ((List.range (count.toNat + 1)).map fun i => addr.toNat + 4 * i) →
        CompletesAt (.readInc h 0x0B addr count crc) h s fun x => SameRegs [] (s.half h) x ∧
          ∃ body, body = ((List.range (count.toNat + 1)).map fun i =>
            beBytes 4 (s.asRead h (addr.toNat + 4 * i))).flatten ++ [0] ∧ x.acc.qspiOut = body ++ [crc8 body]) ∧
      (crc8 ([0x0E] ++ beBytes 4 addr.toNat ++ [count]) = crc → count.toNat % 2 = 1 → s.PlainReads h [addr.toNat, addr.toNat + 4] →
        CompletesAt (.readPair h 0x0E addr count crc) h s fun x => SameRegs [] (s.half h) x ∧
          ∃ body, body = ((List.range (count.toNat + 1)).map fun i =>
            beBytes 4 (s.asRead h (addr.toNat + 4 * (i % 2)))).flatten ++ [0] ∧ x.acc.qspiOut = body ++ [crc8 body]) ∧
      (∀ data : List Word, crc8 ([0x02] ++ beBytes 4 addr.toNat ++ [count]) = crc →
        (data.length = count.toNat + 1 → crc8 ((data.map fun w => beBytes 4 w.toNat).flatten) = dataCrc →
          s.PlainReads h ((List.range data.length).map fun i => addr.toNat + 4 * i) →
          (∀ i, i < data.length → (s.half h).takes (addr.toNat + 4 * i) = true) →
          CompletesAt (.writeInc h 0x02 addr count crc data dataCrc) h s fun x => x.acc.qspiOut = [0, crc8 [0]] ∧
            (∀ i l, i < data.length → locate (addr.toNat + 4 * i) = some l → x.rd (addr.toNat + 4 * i) = l.masked (getAt data i 0)) ∧
            SameRegs ((List.range data.length).map fun i => addr.toNat + 4 * i) (s.half h) x) ∧
        (data.length = count.toNat + 1 → crc8 ((data.map fun w => beBytes 4 w.toNat).flatten) ≠ dataCrc →
          CompletesAt (.writeInc h 0x02 addr count crc data dataCrc) h s fun x => x.acc.qspiOut = [3, crc8 [3]] ∧
            x.get Adr.HOST_QSPI_ERRCNT 0 16 = min 0xFFFF ((s.half h).get Adr.HOST_QSPI_ERRCNT 0 16 + 1) ∧
            x.bit Adr.HOST_EVENT 1 = true ∧ SameRegs [Adr.HOST_QSPI_ERRCNT, Adr.HOST_EVENT] (s.half h) x) ∧
        (data.length ≠ count.toNat + 1 →
          CompletesAt (.writeInc h 0x02 addr count crc data dataCrc) h s fun x =>
            x.get Adr.HOST_QSPI_ERRCNT 16 16 = min 0xFFFF ((s.half h).get Adr.HOST_QSPI_ERRCNT 16 16 + 1) ∧
            x.bit Adr.HOST_EVENT 2 = true ∧ SameRegs [Adr.HOST_QSPI_ERRCNT, Adr.HOST_EVENT] (s.half h) x))) ∧
    (Asks s h .qspi → crc8 ([0x0B] ++ beBytes 4 addr.toNat ++ [count]) ≠ crc →
      CompletesAt (.readInc h 0x0B addr count crc) h s fun x =>
        x.get Adr.HOST_QSPI_ERRCNT 0 16 = min 0xFFFF ((s.half h).get Adr.HOST_QSPI_ERRCNT 0 16 + 1) ∧
        x.bit Adr.HOST_EVENT 1 = true ∧ SameRegs [Adr.HOST_QSPI_ERRCNT, Adr.HOST_EVENT] (s.half h) x) ∧
    ((s.half h).answers .qspi = true → (s.half h).acc.host.backlog = [] → (s.half h).acc.mgmt.backlog = [] →
      (s.half h.other).acc.still →
      (CompletesAt (.qspiAbort h) h s fun x => x.acc.frame = none ∧ x.acc.qspiOut = [] ∧
        x.get Adr.HOST_QSPI_ERRCNT 16 16 = min 0xFFFF ((s.half h).get Adr.HOST_QSPI_ERRCNT 16 16 + 1) ∧
        x.bit Adr.HOST_EVENT 2 = true ∧ SameRegs [Adr.HOST_QSPI_ERRCNT, Adr.HOST_EVENT] (s.half h) x) ∧
      (∀ f, (s.half h).acc.frame = some f → CompletesAt (.stalltimeout h) h s fun x => x.acc.frame = none ∧
        x.acc.host.stall = none ∧ SameRegs [] (s.half h) x ∧
        (f.read = false → x.acc.qspiOut = (fun b : List Byte => b ++ [crc8 b]) [BitVec.ofNat 8 (4 * f.words.length + 2)])))

/-- The queue manager (R415 to R434): a packet is accepted whole or dropped whole and counted; a pop takes the oldest item with its
high word in the shadow, waits on an empty queue with a stall limit, and returns 0 when that ends; a gap marker follows where room
is; enabling, disabling and flushing empty the queue; a broken link stops it. Readings of the model: log entries 14, 105, 106, 107,
108. -/
def Obligations.QueuesHoldTheirItems : Prop :=
  ∀ (h : HalfId) (k : Fin 64) (s : State),
    (∀ items : List (BitVec 56), s.still → (s.half h).up .memory = true → 16 ≤ k.val → (s.half h).get (Adr.Q_CFG k) 28 3 = 2 → items ≠ [] →
      ((s.half h).queueOn k = true → ((s.half h).queue k).held = none → ((s.half h).queue k).waiters = [] →
        ((s.half h).queue k).items.length + items.length + 1 ≤ (s.half h).capacity k →
        CompletesAt (.packetPush h k items) h s fun x => x.regs = (s.half h).regs ∧
          x.queue k = { (s.half h).queue k with
            items := ((s.half h).queue k).items ++ packetItems 9 (items.map fun d => d.toNat) }) ∧
      ((s.half h).queueOn k = false → CompletesAt (.packetPush h k items) h s fun x => x.queues = (s.half h).queues ∧
        x.rd (Adr.QM_DROP_CNT k) = BitVec.ofNat 32 (min 0xFFFFFFFF (((s.half h).rd (Adr.QM_DROP_CNT k)).toNat + items.length)) ∧
        SameRegs [Adr.QM_DROP_CNT k] (s.half h) x)) ∧
    (∀ q data, Grants s h q (Adr.Q_PUSH_HI k) → (s.half h).isProducer k q = true → (s.half h).queueOn k = true →
      ((s.half h).queue k).held = none → ((s.half h).queue k).waiters = [] →
      ((s.half h).queue k).items.length + 2 ≤ (s.half h).capacity k →
      (Accepted (.hostPush h q k data) h q s fun x => SameRegs [] (s.half h) x ∧
        (x.queue k).items = ((s.half h).queue k).items ++
          [mkItem (bitAt data 30) false false (pushSrc q) (2 ^ 32 * getBits data 0 24)]) ∧
      (∀ lo s0, s0 = (s.on h fun x => x.onPort q fun p => { p with heldLo := some (Adr.Q_PUSH_HI k - 4, lo) }) →
        Accepted (.hostPush h q k data) h q s0 fun x => SameRegs [] (s.half h) x ∧
          (x.queue k).items = ((s.half h).queue k).items ++
            [mkItem (bitAt data 30) false false (pushSrc q) (lo.toNat + 2 ^ 32 * getBits data 0 24)])) ∧
    (∀ q, Asks s h q → (s.half h).reads (Adr.Q_POP_LO k) = true → (s.half h).isConsumer k q = true → (s.half h).queueOn k = true →
      (∀ i rest, ((s.half h).queue k).items = i :: rest → ((s.half h).queue k).held = none →
        Accepted (.pop h q k .ok) h q s fun x => (x.queue k).items = rest ∧ (x.acc.port q).resp.data = i.truncate 32 ∧
          (x.acc.port q).shadow = some (Adr.Q_POP_LO k, (i >>> 32).truncate 32) ∧ SameRegs [] (s.half h) x) ∧
      (∀ i rest, ((s.half h).queue k).items = i :: rest → ((s.half h).queue k).held = none →
        (Accepted (.pop h q k .single) h q s fun x => (x.acc.port q).resp.data = i.truncate 32 ∧ x.bit (Adr.Q_EVENT k) 0 = true ∧
          x.get (Adr.QM_CORR_CNT k) 0 16 = min 0xFFFF ((s.half h).get (Adr.QM_CORR_CNT k) 0 16 + 1) ∧
          SameRegs [Adr.QM_CORR_CNT k, Adr.Q_EVENT k] (s.half h) x) ∧
        (Accepted (.pop h q k .double) h q s fun x => (x.acc.port q).resp.data = 0 ∧
          (x.acc.port q).shadow = some (Adr.Q_POP_LO k, 0xDE000000#32) ∧ x.bit (Adr.Q_EVENT k) 1 = true ∧
          SameRegs [Adr.Q_EVENT k] (s.half h) x)) ∧
      (((s.half h).queue k).items = [] → (s.half h).get (Adr.Q_CFG k) 0 10 = 0 → ∀ ecc,
        Accepted (.pop h q k ecc) h q s fun x => (x.acc.port q).resp.data = 0 ∧ x.queues = (s.half h).queues ∧ SameRegs [] (s.half h) x) ∧
      (((s.half h).queue k).items = [] → (s.half h).get (Adr.Q_CFG k) 0 10 ≠ 0 → ∀ ecc,
        CompletesAt (.pop h q k ecc) h s fun x => (x.acc.port q).stall = some k.val ∧
          (x.queue k).waiters = ((s.half h).queue k).waiters ++ [q] ∧ SameRegs [] (s.half h) x)) ∧
    (∀ q, ((s.half h).acc.port q).stall = some k.val → s.still → CompletesAt (.stallTimeout h q k) h s fun x =>
      (x.acc.port q).stall = none ∧ (x.acc.port q).resp = ⟨0, true⟩ ∧ (x.queue k).items = ((s.half h).queue k).items ∧
      q ∉ (x.queue k).waiters ∧ SameRegs [] (s.half h) x) ∧
    (∀ g, s.still → (s.half h).up .memory = true → ((s.half h).queue k).held = some g → ((s.half h).queue k).waiters = [] →
      ((s.half h).queue k).items.length + 1 ≤ (s.half h).capacity k →
      CompletesAt (.heldMarkerWrite h k) h s fun x => x.regs = (s.half h).regs ∧
        x.queue k = { (s.half h).queue k with items := ((s.half h).queue k).items ++ [gapMarker g], held := none }) ∧
    (∀ q, Grants s h q (Adr.Q_CTRL k) →
      ((s.half h).bit (Adr.Q_CTRL k) 0 = false → (s.half h).enableRefusal k = none →
        Accepted (.queueEnable h q k) h q s fun x => x.queue k = Queue.empty ∧ x.queueOn k = true ∧
          SameRegs [Adr.Q_CTRL k, Adr.Q_STATUS k] (s.half h) x) ∧
      (∀ cause, (s.half h).bit (Adr.Q_CTRL k) 0 = false → (s.half h).enableRefusal k = some cause →
        Accepted (.queueEnable h q k) h q s fun x => x.get (Adr.Q_FAULT k) 0 16 = cause ∧ x.queues = (s.half h).queues ∧
          SameRegs [Adr.Q_FAULT k] (s.half h) x) ∧
      (Accepted (.queueDisable h q k) h q s fun x => x.queue k = Queue.empty ∧ x.bit (Adr.Q_CTRL k) 0 = false ∧
        SameRegs [Adr.Q_CTRL k, Adr.Q_STATUS k] (s.half h) x) ∧
      (Accepted (.queueFlush h q k) h q s fun x => (x.queue k).items = [] ∧ (x.queue k).held = none ∧
        x.bit (Adr.Q_CTRL k) 0 = (s.half h).bit (Adr.Q_CTRL k) 0 ∧ SameRegs [Adr.Q_CTRL k, Adr.Q_STATUS k] (s.half h) x)) ∧
    ((s.half h).live = true → (s.half h).up .memory = true → s.still → (s.half h).queueOn k = true → (s.half h).queuePool k = true →
      Completes (.queueLinkError h (some k)) s fun t => (t.half h).queue k = Queue.empty ∧ (t.half h).bit (Adr.Q_STATUS k) 1 = true ∧
        (t.half h).get (Adr.Q_FAULT k) 0 16 = 1 ∧ (t.half h).bit (Adr.Q_EVENT k) 1 = true ∧
        SameRegs ([Adr.Q_STATUS k, Adr.Q_FAULT k, Adr.Q_EVENT k] ++ lineRegsOf) (s.half h) (t.half h)) ∧
    ((s.half h).live = true → (s.half h).up .memory = true → s.still → (s.half h).regions.length = 8 →
      Completes (.queueLinkError h none) s fun t => (t.half h).up .memory = false)

/-! The commands that are named writes. -/

/-- Writes of the Network region (R83, R86, R88, R110, R112, R113, R125, R126): `CTRL` is taken, a reserved MODE is cause 0x0002, a
change of it takes the link down, EN 0 stops the port; a management frame starts; TAIL gives descriptors; a ring starts at TAIL.
Readings of the model: log entry 27. -/
def Obligations.NetworkWritesTakeEffect : Prop :=
  ∀ (h : HalfId) (q : Req) (p : PortId) (s : State), (s.half h).macs.length = 2 →
    (∀ v : Word, Grants s h q (Adr.MAC_CTRL p) → Accepted (.macModeChange h q p v) h q s fun x =>
      x.rd (Adr.MAC_CTRL p) = v &&& 0x7FFF#32 ∧
      (bitAt v 0 = true → 5 ≤ getBits v 1 3 → x.get (Adr.MAC_FAULT p) 0 16 = 2) ∧
      (bitAt v 0 = true → (s.half h).bit (Adr.MAC_CTRL p) 0 = true → getBits v 1 3 ≠ (s.half h).get (Adr.MAC_CTRL p) 1 3 →
        x.portUp p = false) ∧
      (bitAt v 0 = false → (s.half h).bit (Adr.MAC_CTRL p) 0 = true → x.portUp p = false ∧ (x.mac p).current = none ∧
        ∀ (tx : Bool) (r : Fin 4), x.bit (ringAdr p tx r 0xC) 0 = false ∧ x.rd (ringAdr p tx r 0x18) = 0)) ∧
    (∀ (phy reg : Fin 32) (d : BitVec 16), Grants s h q (Adr.MAC_MDIO_CMD p) →
      ∀ c w, (c, w) ∈ [(Instr.mdioC22Write h q p phy reg d, mdioWord 0 1 phy reg d.toNat), (.mdioC22Read h q p phy reg, mdioWord 0 2 phy reg 0),
          (.mdioC45Address h q p phy reg d, mdioWord 1 0 phy reg d.toNat), (.mdioC45Write h q p phy reg d, mdioWord 1 1 phy reg d.toNat),
          (.mdioC45Read h q p phy reg, mdioWord 1 3 phy reg 0), (.mdioC45PostReadIncrement h q p phy reg, mdioWord 1 2 phy reg 0)] →
        Accepted c h q s fun x => x.rd (Adr.MAC_MDIO_CMD p) = (if (s.half h).bit (Adr.MAC_MDIO_CMD p) 31 then (s.half h).rd (Adr.MAC_MDIO_CMD p) else w) ∧
          SameRegs [Adr.MAC_MDIO_CMD p] (s.half h) x) ∧
    (∀ us, Grants s h q (Adr.MAC_EEE_TW p) → Accepted (.eeeTwWrite h q p us) h q s fun x => x.get (Adr.MAC_EEE_TW p) 0 16 = us.toNat ∧
      ((s.half h).lpiAllowed p = true → SameRegs [Adr.MAC_EEE_TW p] (s.half h) x)) ∧
    (∀ (ring : RingId) tail descs, Grants s h q (ringAdr p ring.tx ring.r 0x10) → ringWritable q ring.r = true →
      ((s.half h).mac p).tx.length = 4 → ((s.half h).mac p).rx.length = 4 →
      Accepted (.ringTailWrite h q p ring tail descs) h q s fun x => x.rd (ringAdr p ring.tx ring.r 0x10) = tail.setWidth 32 ∧
        x.ringMem p ring.tx ring.r = ((s.half h).ringMem p ring.tx ring.r).place ((s.half h).ringSize p ring.tx ring.r)
          ((s.half h).ringTail p ring.tx ring.r) descs ∧
        SameRegs [ringAdr p ring.tx ring.r 0x10] (s.half h) x) ∧
    (∀ ring : RingId, Grants s h q (ringAdr p ring.tx ring.r 0xC) → ringWritable q ring.r = true →
      (s.half h).bit (ringAdr p ring.tx ring.r 0xC) 0 = false →
      (ring.r.val < 2 → (s.half h).bit Adr.DIE_STRAPS 1 = true → Accepted (.ringEnable h q p ring) h q s fun x =>
        x.get (Adr.MAC_FAULT p) 0 16 = 6 ∧ SameRegs [Adr.MAC_FAULT p, ringAdr p ring.tx ring.r 0xC] (s.half h) x) ∧
      (2 ≤ ring.r.val ∨ (s.half h).bit Adr.DIE_STRAPS 1 = false → Accepted (.ringEnable h q p ring) h q s fun x =>
        x.ringOn p ring.tx ring.r = true ∧ x.rd (ringAdr p ring.tx ring.r 0x14) = BitVec.ofNat 32 ((s.half h).ringTail p ring.tx ring.r) ∧
        SameRegs [ringAdr p ring.tx ring.r 0xC, ringAdr p ring.tx ring.r 0x14, ringAdr p ring.tx ring.r 0x18] (s.half h) x)) ∧
    (Grants s h q Adr.MACC_CTRL → Accepted (.macClusterReinit h q) h q s fun x => x.portUp p = false ∧ (x.mac p).current = none ∧
      x.rd (Adr.MAC_CTRL p) = (s.half h).rd (Adr.MAC_CTRL p) ∧ ∀ (tx : Bool) (r : Fin 4), x.bit (ringAdr p tx r 0xC) 0 = false)

/-- Units and clusters (R23, R24, R170, R250, R255, R260, R338, R414, R437): an enable waits for its boundary or its plan; a cluster
fault shows FAULTED, a re-initialisation ends it; an engine is tested before it serves and leaves by its state. Readings of the
model: log entries 55, 108. -/
def Obligations.UnitsAndClustersStartAgain : Prop :=
  ∀ (h : HalfId) (q : Req) (s : State),
    (∀ (addr : Word) (en : Bool) (k : Fin 32) (t : Fin 8) (n : SlotId),
      addr.toNat ∈ [Adr.AMP_CTRL k, Adr.TDM_CTRL t, Adr.FRX_CTRL n, Adr.FTX_CTRL n] → Grants s h q addr.toNat → (s.half h).commitState = 0 →
      Accepted (.unitEnableChange h q addr en) h q s fun x => getBits (x.staged addr.toNat) 0 1 = ofBool en ∧ SameRegs [] (s.half h) x) ∧
    (∀ (tx : Bool) (c : Fin 8), Grants s h q (if tx then Adr.FTXC_CTRL c else Adr.FRXC_CTRL c) →
      Accepted (.flowClusterReinit h q tx c) h q s fun x => x.bit (if tx then Adr.FTXC_STATUS c else Adr.FRXC_STATUS c) 1 = false) ∧
    (∀ (c : Fin 8) (d : Fin 2) (e : Fin 5) (g : Fin 4) (page : Word) (b : Nat) (r : Region), s.still → (s.half h).live = true →
      (page.toNat, b, r) ∈ [(Adr.FRXC_CTRL c - 4, Adr.FRXC_STATUS c, Region.flow), (Adr.FTXC_CTRL c - 4, Adr.FTXC_STATUS c, .flow),
        (Adr.ENGC_CTRL d - 4, Adr.ENGC_STATUS d, .processing), (Adr.TDMC_CTRL - 4, Adr.TDMC_STATUS, .output),
        (Adr.SNSC_CTRL e - 4, Adr.SNSC_STATUS e, .output), (Adr.QC_CTRL g - 4, Adr.QC_STATUS g, .memory)] → (s.half h).up r = true →
      Completes (.clusterSharedStateFault h page) s fun t => (t.half h).bit b 1 = true ∧ t.wiredFault = s.wiredFault ∧ t.pending = s.pending) ∧
    (∀ e : Fin 8, Grants s h q (Adr.ENG_CTRL e) →
      ((s.half h).engState e = 0 ∨ (s.half h).engState e = 4 → Accepted (.engineEnable h q e) h q s fun x =>
        e.val ∈ x.graph.kat ∧ x.bit (Adr.ENG_CTRL e) 0 = true ∧ SameRegs [Adr.ENG_CTRL e] (s.half h) x) ∧
      ((s.half h).engState e = 1 ∨ (s.half h).engState e = 3 → Accepted (.engineDisable h q e) h q s fun x =>
        x.engState e = 0 ∧ x.bit (Adr.ENG_CTRL e) 0 = false ∧ SameRegs (Adr.ENG_CTRL e :: engineRegs e) (s.half h) x) ∧
      ((s.half h).engState e = 2 → ((s.half h).spareFor e).isSome = true → Accepted (.engineDisable h q e) h q s fun x =>
        x.engState e = 2 ∧ x.bit (Adr.ENG_CTRL e) 0 = false ∧ e.val ∈ x.graph.disabling ∧ x.graph.nextPlace.isSome = true)) ∧
    (∀ c : Fin 2, Grants s h q (Adr.ENGC_CTRL c) →
      ((∃ e ∈ clusterEngines c, (s.half h).engState e = 2) → Accepted (.engineClusterReinit h q c) h q s fun x => SameRegs [] (s.half h) x) ∧
      ((∀ e ∈ clusterEngines c, (s.half h).engState e ≠ 2) → Accepted (.engineClusterReinit h q c) h q s fun x =>
        x.bit (Adr.ENGC_STATUS c) 1 = false ∧ SameRegs [Adr.ENGC_STATUS c] (s.half h) x ∧
        ∀ e ∈ clusterEngines c, (s.half h).bit (Adr.ENG_CTRL e) 0 = true → (s.half h).engState e = 1 → e ∈ x.graph.kat)) ∧
    (Grants s h q Adr.TDMC_CTRL → Accepted (.tdmClusterReinit h q) h q s fun x => x.bit Adr.TDMC_STATUS 1 = false) ∧
    (∀ c : Fin 5, Grants s h q (Adr.SNSC_CTRL c) → Accepted (.senseClusterReinit h q c) h q s fun x => x.bit (Adr.SNSC_STATUS c) 1 = false ∧
      ∀ n ∈ senseChannels c, (x.conv n).join = true ∧ 5 ∉ (x.conv n).causes) ∧
    (∀ c : Fin 4, Grants s h q (Adr.QC_CTRL c) → Accepted (.queueClusterReinit h q c) h q s fun x => x.bit (Adr.QC_STATUS c) 1 = false ∧
      ∀ k ∈ clusterQueues c, x.queue k = Queue.empty ∧ x.bit (Adr.Q_STATUS k) 1 = false)

/-- Writes of the graph and the alarms (R217, R223, R225, R270, R282): a submission starts validating or is rejected; a level
command acts on an OVERRIDE level alone; keys are loaded and erased with `KEY_DATA` cleared. Readings of the model: log entries 46,
126. -/
def Obligations.GraphAndAlarmWritesTakeEffect : Prop :=
  ∀ (h : HalfId) (q : Req) (s : State),
    (Grants s h q Adr.GRF_COMMIT →
      ((s.half h).commitState = 0 → (s.half h).acceptsM = false → Accepted (.planSubmit h q) h q s fun x =>
        x.get Adr.GRF_COMMIT_STATUS 24 8 = 0xF ∧ x.bit Adr.GRF_EVENT 1 = true ∧
        SameRegs [Adr.GRF_COMMIT_STATUS, Adr.GRF_EVENT] (s.half h) x) ∧
      ((s.half h).commitState = 0 → (s.half h).acceptsM = true → (s.half h).sent.handover.target = none →
        Accepted (.planSubmit h q) h q s fun x => x.get Adr.GRF_STATUS 0 3 = 1 ∧ x.rd Adr.GRF_COMMIT_STATUS = 0 ∧ x.graph.sub = none ∧
        SameRegs [Adr.GRF_STATUS, Adr.GRF_COMMIT_STATUS] (s.half h) x) ∧
      ((s.half h).commitState ≠ 0 → Accepted (.planSubmit h q) h q s fun x => x.get Adr.GRF_COMMIT_STATUS 24 8 = 1 ∧
        x.bit Adr.GRF_EVENT 1 = true ∧ SameRegs [Adr.GRF_COMMIT_STATUS, Adr.GRF_EVENT] (s.half h) x)) ∧
    (∀ (level : Fin 16) (zone : BitVec 8) mode, Grants s h q Adr.GRF_LEVEL_CMD →
      ((((s.half h).plan false).zones.find? (fun y => y.1 == zone.toNat)).bind (fun y => ((s.half h).plan false).node y.2)).map
        (fun n => n.mode level) = mode →
      (level.val < 12 → mode = some 3 →
        (Accepted (.levelCmdOn h q level zone) h q s fun x => (level.val, none) ∈ (x.zone zone.toNat).ctl ∧ SameRegs [] (s.half h) x) ∧
        (Accepted (.levelCmdOff h q level zone) h q s fun x => (∀ o, (level.val, o) ∉ (x.zone zone.toNat).ctl) ∧
          SameRegs [] (s.half h) x)) ∧
      (12 ≤ level.val ∨ mode ≠ some 3 → ∀ on : Bool,
        Accepted (if on then .levelCmdOn h q level zone else .levelCmdOff h q level zone) h q s fun x =>
          x.bit Adr.GRF_EVENT 5 = true ∧ x.graph = (s.half h).graph ∧ SameRegs [Adr.GRF_EVENT] (s.half h) x)) ∧
    (∀ (i : Fin 16) v, Grants s h q (Adr.ALM_ISSUER_CFG i) → Accepted (.issuerCfgWrite h q i v) h q s fun x =>
      x.rd (Adr.ALM_ISSUER_CFG i) = v &&& 0x80FF000F#32 ∧ (∀ y, (i.val, y) ∉ x.alarm.lastHead) ∧
      SameRegs [Adr.ALM_ISSUER_CFG i] (s.half h) x) ∧
    (∀ slot : Fin 8, Grants s h q Adr.ALM_KEY_LOAD → (s.half h).keys.length = 8 → ∀ load : Bool,
      Accepted (if load then .keyLoad h q slot else .keyErase h q slot) h q s fun x =>
        getAt x.keys slot [] = (if load then ((List.range 8).map fun i => beBytes 4 ((s.half h).rd (Adr.ALM_KEY_DATA i)).toNat).flatten else []) ∧
        x.bit Adr.ALM_KEY_STATUS slot = load ∧ (∀ i, i < 8 → x.rd (Adr.ALM_KEY_DATA i) = 0) ∧
        SameRegs ([Adr.ALM_KEY_LOAD, Adr.ALM_KEY_STATUS] ++ (List.range 8).map fun i => Adr.ALM_KEY_DATA i) (s.half h) x)

/-- Writes of the Memory region (R289, R290, R293, R294, R299, R304): a partition is checked, then clears banks and recorder; a
transfer starts with its length or is refused with a cause; a PIO access moves one word; a load is committed from OPEN only; a bulk
copy starts with a partner that synchronises. Readings of the model: log entries 64, 70. -/
def Obligations.MemoryWritesTakeEffect : Prop :=
  ∀ (h : HalfId) (q : Req) (s : State),
    (∀ b c : BitVec 8, Grants s h q Adr.MEM_PARTITION →
      ((goodPartition b.toNat c.toNat && (s.half h).partitionAllowed) = true → Accepted (.partitionChange h q b c) h q s fun x =>
        x.rd Adr.MEM_PARTITION = BitVec.ofNat 32 (0x100 * b.toNat + c.toNat) ∧ x.bit Adr.MSG_STATUS 0 = false ∧ x.libState = 0 ∧
        x.rd Adr.REC_SIZE = BitVec.ofNat 32 (64 * c.toNat) ∧ x.recd.ring = [] ∧ x.store.opened = false ∧
        SameRegs [Adr.MEM_PARTITION, Adr.MSG_STATUS, Adr.REC_SIZE, Adr.REC_WRITE_OFS, Adr.REC_OLDEST_OFS] (s.half h) x) ∧
      ((goodPartition b.toNat c.toNat && (s.half h).partitionAllowed) = false → Accepted (.partitionChange h q b c) h q s fun x =>
        PairFails (s.half h) x Adr.MEM_PARTITION 5)) ∧
    (∀ (area : Fin 3) (pio : Bool) (c : Instr), c = [Instr.xferToStaging h q pio, .xferBankRead h q pio, .xferRecorderRead h q pio][area] →
      Grants s h q Adr.MEM_XFER_CTRL → (s.half h).bit Adr.MEM_STATUS 1 = false →
      ((s.half h).xferRefusal area pio = none → Accepted c h q s fun x =>
        x.get Adr.MEM_XFER_STATUS 0 24 = (s.half h).get Adr.MEM_XFER_LEN 0 25 / 64 ∧ x.bit Adr.MEM_XFER_STATUS 31 = true ∧
        x.bit Adr.MEM_STATUS 1 = true ∧ x.store.xferArea = area ∧ x.store.xferPio = pio ∧
        x.store.xferLeft = (s.half h).get Adr.MEM_XFER_LEN 0 25 ∧ (area = 0 → x.store.opened = true) ∧
        SameRegs [Adr.MEM_XFER_STATUS, Adr.MEM_STATUS, Adr.MSG_STATUS] (s.half h) x) ∧
      (∀ cause, (s.half h).xferRefusal area pio = some cause → Accepted c h q s fun x => x.get Adr.MEM_XFER_STATUS 24 4 = cause ∧
        x.bit Adr.MEM_XFER_STATUS 30 = true ∧ x.bit Adr.MEM_EVENT 3 = true ∧ x.store = (s.half h).store ∧
        SameRegs [Adr.MEM_XFER_STATUS, Adr.MEM_EVENT] (s.half h) x)) ∧
    (∀ data : Word, Grants s h q Adr.MEM_XFER_DATA → (s.half h).bit Adr.MEM_STATUS 1 = true → (s.half h).store.xferPio = true →
      4 < (s.half h).store.xferLeft →
      ((s.half h).store.xferArea = 0 → Accepted (.xferDataAccess h q true data) h q s fun x =>
        x.store.word ((s.half h).xferAt / 4) = data ∧ x.store.xferOfs = (s.half h).store.xferOfs + 4 ∧
        x.store.xferLeft = (s.half h).store.xferLeft - 4 ∧ (∀ i, i ≠ (s.half h).xferAt / 4 → x.store.word i = (s.half h).store.word i) ∧
        SameRegs [Adr.MEM_XFER_STATUS] (s.half h) x) ∧
      ((s.half h).store.xferArea ≠ 0 → Accepted (.xferDataAccess h q false data) h q s fun x =>
        (x.acc.port q).resp.data = (s.half h).store.word ((s.half h).xferAt / 4) ∧ x.store.xferOfs = (s.half h).store.xferOfs + 4 ∧
        x.store.xferLeft = (s.half h).store.xferLeft - 4 ∧ x.store.dram = (s.half h).store.dram ∧
        SameRegs [Adr.MEM_XFER_STATUS] (s.half h) x)) ∧
    (∀ n, Grants s h q Adr.MSG_LIB_COMMIT →
      ((s.half h).libState = 1 → Accepted (.libCommit h q n) h q s fun x => x.libState = 2 ∧
        x.rd Adr.MSG_LIB_COMMIT = BitVec.ofNat 32 n ∧ SameRegs [Adr.MSG_STATUS, Adr.MSG_LIB_COMMIT] (s.half h) x) ∧
      ((s.half h).libState ≠ 1 → Accepted (.libCommit h q n) h q s fun x => PairFails (s.half h) x Adr.MSG_LIB_COMMIT 5)) ∧
    (Grants s h q Adr.MSG_BULK_CTRL → (s.half h).libState = 0 → (s.half h).store.copying = none → (s.half h).role = .active →
      (s.half h.other).role = .syncing ∨ (s.half h.other).role = .standby →
      Accepted (.bulkCopyGo h q) h q s fun x => x.rd Adr.MSG_BULK_STATUS = 0x80000000#32 ∧ x.store.copying = some false ∧
        SameRegs [Adr.MSG_BULK_STATUS] (s.half h) x)

/-- Writes of the amplifiers and the sense chain (R357, R367, R388, R389, R395, R404): CLEAR and RESET wait for the block boundary;
a profile is accepted, off, invalid or over the budget; a PROFILE is taken within the budget; captures start, are cleared and fail
when aborted. Readings of the model: log entries 81, 82, 90, 91, 92, 101. -/
def Obligations.OutputWritesTakeEffect : Prop :=
  ∀ (h : HalfId) (q : Req) (s : State),
    (∀ k : Fin 32, Grants s h q (Adr.AMP_CTRL k) → Accepted (.channelClear h q k) h q s fun x =>
      bitAt (x.staged (Adr.AMP_CTRL k)) 2 = true ∧
      getBits (x.staged (Adr.AMP_CTRL k)) 0 2 = getBits ((s.half h).staged (Adr.AMP_CTRL k)) 0 2 ∧ SameRegs [] (s.half h) x) ∧
    (∀ c : Fin 4, Grants s h q (Adr.AMPC_CTRL c) → Accepted (.clusterReset h q c) h q s fun x =>
      bitAt (x.staged (Adr.AMPC_CTRL c)) 0 = true ∧ SameRegs [] (s.half h) x) ∧
    (∀ (j : Fin 7) (p : ProfCfg), Grants s h q (Adr.SFE_PROF_APPLY j) → (s.half h).outUp = true → (s.half h).out.prof.length = 7 →
      p = ⟨(s.half h).rd (Adr.SFE_PROF_CFG j), (s.half h).rd (Adr.SFE_PROF_FIR j), (s.half h).rd (Adr.SFE_PROF_GD j),
        (List.range (getBits ((s.half h).rd (Adr.SFE_PROF_FIR j)) 12 9 + 1)).map fun i =>
          signed 24 ((s.half h).get (Adr.SNS_COEF (getBits ((s.half h).rd (Adr.SFE_PROF_FIR j)) 0 12 + i)) 0 24)⟩ →
      (p.k = 0 → Accepted (.profileApply h q (j.castLE (by decide))) h q s fun x =>
        (x.prof j).next = some p ∧ x.rd (Adr.SFE_PROF_STATUS j) = 0x40000000#32 ∧ x.rd (Adr.SFE_PROF_PERIOD j) = 0) ∧
      (p.k ≠ 0 → p.valid = false → Accepted (.profileApply h q (j.castLE (by decide))) h q s fun x =>
        x.get (Adr.SFE_PROF_STATUS j) 30 2 = 2 ∧ x.out = (s.half h).out ∧ SameRegs [Adr.SFE_PROF_STATUS j] (s.half h) x) ∧
      (p.k ≠ 0 → p.valid = true →
        withinBudget (((s.half h).onProf j fun y => { y with next := some p }).comingProfs) = true →
        Accepted (.profileApply h q (j.castLE (by decide))) h q s fun x => (x.prof j).next = some p ∧
          x.get (Adr.SFE_PROF_STATUS j) 30 2 = 1 ∧ x.rd (Adr.SFE_PROF_PERIOD j) = BitVec.ofNat 32 p.d)) ∧
    (∀ mask, Grants s h q Adr.SFE_SYNC → (s.half h).outUp = true → (s.half h).out.prof.length = 7 →
      Accepted (.profileSync h q mask) h q s fun x => x.regs = (s.half h).regs ∧
        ∀ j : Fin 7, (x.prof j).syncDue = (mask.getLsbD j || ((s.half h).prof j).syncDue)) ∧
    (∀ (sn : Fin 80) (p : Fin 8), Grants s h q (Adr.SNS_CTRL sn) →
      (getBits ((s.half h).staged (Adr.SNS_CTRL sn)) 1 3 = p.val → Accepted (.snsProfileWrite h q sn p) h q s fun x =>
        x.staged (Adr.SNS_CTRL sn) = BitVec.ofNat 32 (((s.half h).staged (Adr.SNS_CTRL sn)).toNat % 16) ∧ SameRegs [] (s.half h) x) ∧
      (withinBudget (((s.half h).stage (Adr.SNS_CTRL sn)
          (BitVec.ofNat 32 (getBits ((s.half h).staged (Adr.SNS_CTRL sn)) 0 1 + 2 * p))).comingProfs) = true →
        Accepted (.snsProfileWrite h q sn p) h q s fun x => getBits (x.staged (Adr.SNS_CTRL sn)) 1 3 = p.val ∧
          getBits (x.staged (Adr.SNS_CTRL sn)) 0 1 = getBits ((s.half h).staged (Adr.SNS_CTRL sn)) 0 1)) ∧
    (∀ (all : Bool) (k : Fin 32), Grants s h q Adr.SFE_LSP_CMD → (s.half h).outUp = true →
      ∀ c : Fin 32, (if all then (s.half h).lspOn c = true else c = k) →
        (Accepted (.baselineCapture h q all k) h q s fun x => (x.lsp c).capture = some (List.replicate 9 (0, 0, 0)) ∧
          x.bit Adr.SFE_LSP_STATUS c = true ∧ SameRegs [Adr.SFE_LSP_STATUS] (s.half h) x) ∧
        (Accepted (.baselineClear h q all k) h q s fun x => (∀ b : Fin 9, x.rd (baseAdr c b) = 0x80000000#32) ∧
          SameRegs ((List.range 32).flatMap fun d => (List.range 9).map (baseAdr d)) (s.half h) x) ∧
        (((s.half h).lsp c).capture.isSome = true → Accepted (.captureAbort h q all k) h q s fun x => (x.lsp c).capture = none ∧
          x.bit Adr.SFE_LSP_STATUS c = false ∧ x.bit Adr.SFE_LSP_CAPFAIL c = true ∧ x.bit Adr.SFE_EVENT 2 = true ∧
          SameRegs [Adr.SFE_LSP_STATUS, Adr.SFE_LSP_CAPFAIL, Adr.SFE_EVENT] (s.half h) x))

/-- Writes of resets, roles and events (R17, R68, R442, R454, R455, R466, R467, R511, R514, R530): REARM and FORCE accumulate;
regions and the half are reset where the role allows it, else the paired write fails with cause 0x5; a handover is asked for or
answered with its result; roles change, kills end. Readings of the model: log entries 124, 125, 126. -/
def Obligations.ControlWritesTakeEffect : Prop :=
  ∀ (h : HalfId) (q : Req) (s : State),
    (∀ hi mask, Grants s h q (Adr.EVT_REARM 0) → Grants s h q (Adr.EVT_REARM 1) → Accepted (.rearm h q hi mask) h q s fun x =>
      x.ev.rearm = ((s.half h).ev.rearm ||| mask.toNat * (if hi then 0x100000000 else 1)) ∧ SameRegs [] (s.half h) x) ∧
    (∀ hi mask, Grants s h q (Adr.EVT_FORCE 0) → Grants s h q (Adr.EVT_FORCE 1) → Accepted (.force h q hi mask) h q s fun x =>
      x.ev.force = ((s.half h).ev.force ||| mask.toNat * (if hi then 0x100000000 else 1)) ∧ SameRegs [] (s.half h) x) ∧
    (∀ mask : BitVec 8, Grants s h q Adr.DIE_RESET_CTRL → (s.half h).regions.length = 8 →
      (mask.getLsbD 7 = false → mask.getLsbD 6 = false →
        (s.half h).role ≠ .active ∨ (∀ r : Region, r.required = true → mask.getLsbD r.bit = false) →
        Completes (.regionReset h q mask) s fun t => (∀ r : Region, mask.getLsbD r.bit = true → (t.half h).regionState r = .inReset) ∧
          (∀ r : Region, mask.getLsbD r.bit = false → (t.half h).regionState r = (s.half h).regionState r) ∧
          (t.half h).role = (s.half h).role ∧ t.pending = s.pending) ∧
      (mask.getLsbD 7 = true ∨ ((s.half h).role = .active ∧ ∃ r : Region, r.required = true ∧ mask.getLsbD r.bit = true) →
        Completes (.regionReset h q mask) s fun t => PairFails (s.half h) (t.half h) Adr.DIE_RESET_CTRL 5 lineRegsOf)) ∧
    (Grants s h q Adr.DIE_RESET_CTRL →
      ((s.half h).role ≠ .active → Completes (.warmReset h q) s fun t => (t.half h).phase = .warmReset ∧
        (t.half h).get Adr.DIE_RESET_CAUSE 0 4 = 3 ∧ (t.half h).boot.bytes = ((s.half h).cutShort).boot.bytes) ∧
      ((s.half h).role = .active → Completes (.warmReset h q) s fun t =>
        PairFails (s.half h) (t.half h) Adr.DIE_RESET_CTRL 5 lineRegsOf)) ∧
    (Grants s h q Adr.RDN_ROLE_CTRL →
      ((s.half h).handoverCheck = 0 → Completes (.handover h q) s fun t =>
        (t.half h).sent.handover = .asked (handoverTarget (s.half h).block % 2 ^ 32) ∧ (t.half h).bit Adr.RDN_HANDOVER_STATUS 31 = true ∧
        (t.half h).rd Adr.RDN_HANDOVER_TARGET = BitVec.ofNat 32 (handoverTarget (s.half h).block)) ∧
      ((s.half h).handoverCheck ≠ 0 → Completes (.handover h q) s fun t =>
        (t.half h).get Adr.RDN_HANDOVER_STATUS 24 7 = (s.half h).handoverCheck ∧ (t.half h).role = (s.half h).role) ∧
      ((s.half h).role ≠ .active → Completes (.isolate h q) s fun t => (t.half h).role = .isolated ∧ (t.half h).sent.claiming = 0) ∧
      ((s.half h).role = .active → Completes (.isolate h q) s fun t =>
        PairFails (s.half h) (t.half h) Adr.RDN_ROLE_CTRL 5 lineRegsOf) ∧
      ((s.half h).role = .isolated → (s.half h).sent.isoFault = false → (s.half h).sent.ready = false →
        Completes (.restore h q) s fun t => (t.half h).role = .offline) ∧
      ((s.half h).role ≠ .isolated → Completes (.restore h q) s fun t =>
        PairFails (s.half h) (t.half h) Adr.RDN_ROLE_CTRL 5 lineRegsOf)) ∧
    (Grants s h q Adr.RDN_KILL_CTRL →
      (Completes (.killRelease h q) s fun t => (t.half h).sent.kill = false ∧ (t.half h).sent.killHold = .untilSeen ∧
        (t.half h).bit Adr.RDN_KILL_CTRL 0 = (s.half h).bit Adr.RDN_KILL_CTRL 0 ∧ t.wiredFault = s.wiredFault) ∧
      ∀ en, Accepted (.killEnable h q en) h q s fun x => x.bit Adr.RDN_KILL_CTRL 0 = en ∧ x.sent = (s.half h).sent ∧
        SameRegs [Adr.RDN_KILL_CTRL] (s.half h) x)

/-- Writes of the boot flash programmer and `BOOT_CTRL` (R68, R536 to R539, R545, R546): an erase or a program starts, or is refused
with cause 0x2, 0x1 or 0x4; `FLASH_DATA` fills the page buffer and reads the flash; a boot operation starts as BUSY or is refused.
Readings of the model: log entries 134, 135, 136. -/
def Obligations.BootWritesTakeEffect : Prop :=
  ∀ (h : HalfId) (q : Req) (s : State),
    (∀ (erase : Bool) (c : Instr) a align, c = (if erase then .flashErase h q else .flashProgram h q) →
      align = (if erase then 0x10000 else 0x100) → a = ((s.half h).rd Adr.DIE_FLASH_ADDR).toNat → Grants s h q Adr.DIE_FLASH_CMD →
      ((s.half h).flashBusy = true ∨ (s.half h).bootBusy = true → Accepted c h q s fun x =>
        x.get Adr.DIE_FLASH_STATUS 24 4 = 4 ∧ x.bit Adr.DIE_FLASH_STATUS 30 = true ∧ x.boot = (s.half h).boot ∧
        SameRegs [Adr.DIE_FLASH_STATUS] (s.half h) x) ∧
      ((s.half h).flashBusy = false → (s.half h).bootBusy = false → a % align ≠ 0 → Accepted c h q s fun x =>
        x.rd Adr.DIE_FLASH_STATUS = 0x42000000#32 ∧ x.boot = (s.half h).boot ∧ SameRegs [Adr.DIE_FLASH_STATUS] (s.half h) x) ∧
      ((s.half h).flashBusy = false → (s.half h).bootBusy = false → a % align = 0 → (s.half h).flashArea a = false → Accepted c h q s fun x =>
        x.rd Adr.DIE_FLASH_STATUS = 0x41000000#32 ∧ x.boot = (s.half h).boot ∧ SameRegs [Adr.DIE_FLASH_STATUS] (s.half h) x) ∧
      ((s.half h).flashBusy = false → (s.half h).bootBusy = false → a % align = 0 → (s.half h).flashArea a = true → Accepted c h q s fun x =>
        x.rd Adr.DIE_FLASH_STATUS = 0x80000000#32 ∧
        x.boot = { (s.half h).boot with flashOp := if erase then .erase a else .program a } ∧
        SameRegs [Adr.DIE_FLASH_STATUS] (s.half h) x)) ∧
    (∀ v, Grants s h q Adr.DIE_FLASH_DATA → (s.half h).boot.page.length ≤ 252 →
      Accepted (.flashDataAccess h q (some v)) h q s fun x => x.boot.page = (s.half h).boot.page ++ leBytes 4 v.toNat ∧
        SameRegs [] (s.half h) x) ∧
    (Asks s h q → (s.half h).reads Adr.DIE_FLASH_DATA = true → Accepted (.flashDataAccess h q none) h q s fun x =>
      (x.acc.port q).resp.data = (s.half h).flashDataValue ∧
      x.rd Adr.DIE_FLASH_ADDR = (s.half h).rd Adr.DIE_FLASH_ADDR + 4 ∧ SameRegs [Adr.DIE_FLASH_ADDR] (s.half h) x) ∧
    (Grants s h q Adr.DIE_BOOT_CTRL → ∀ (slot : Bool) (c : Instr) (op : BootOp) (may : Bool),
      (c, op, may) ∈ [(Instr.select h q slot, BootOp.select (ofBool slot), decide ((s.half h).slotResult (ofBool slot) = 0)),
        (.saveConfig h q, .saveConfig, true), (.eraseConfig h q, .eraseConfig, true),
        (.saveLibrary h q, .saveLibrary, !(s.half h).saveLibraryRefused),
        (.eraseRetirements h q, .eraseRetirements, (s.half h).role == .offline || (s.half h).role == .isolated),
        (.raiseFloor h q, .raiseFloor, !(s.half h).inTrial)] →
      ((s.half h).bootBusy = false → may = true → Accepted c h q s fun x => x.boot.bootOp = op ∧ x.get Adr.DIE_BOOT_STATUS 0 2 = 1 ∧
        x.boot.bytes = (s.half h).boot.bytes ∧ SameRegs [Adr.DIE_BOOT_STATUS, Adr.DIE_BOOT_CTRL] (s.half h) x) ∧
      ((s.half h).bootBusy = true ∨ may = false → Accepted c h q s fun x => x.boot = (s.half h).boot ∧
        PairFails (s.half h) x Adr.DIE_BOOT_CTRL 5 [Adr.DIE_BOOT_STATUS]))
end

