-- ==== Sys2Proof/Laws/Bits.lean ====
section
/-! SUPPORT. The laws of bit fields: a field read after a field written. -/

namespace Sys2Proof.Machine

theorem setBits_toNat (w : Word) (lo n v : Nat) (h : lo + n ≤ 32) :
    (setBits w lo n v).toNat = w.toNat % 2 ^ lo + 2 ^ lo * (v % 2 ^ n) + 2 ^ (lo + n) * (w.toNat / 2 ^ (lo + n)) := by
  unfold setBits
  rw [BitVec.toNat_ofNat]
  apply Nat.mod_eq_of_lt
  have hw : w.toNat < 2 ^ 32 := w.isLt
  have e1 : (2 : Nat) ^ 32 = 2 ^ (lo + n) * 2 ^ (32 - (lo + n)) := by rw [← pow_add]; congr 1; omega
  have e2 : (2 : Nat) ^ (lo + n) = 2 ^ lo * 2 ^ n := pow_add 2 lo n
  have p1 : 0 < (2 : Nat) ^ lo := by positivity
  have p2 : 0 < (2 : Nat) ^ n := by positivity
  have h1 : w.toNat % 2 ^ lo < 2 ^ lo := Nat.mod_lt _ p1
  have h2 : v % 2 ^ n + 1 ≤ 2 ^ n := Nat.mod_lt _ p2
  have h3 : w.toNat / 2 ^ (lo + n) + 1 ≤ 2 ^ (32 - (lo + n)) := by
    have := (Nat.div_lt_iff_lt_mul (by positivity : 0 < 2 ^ (lo + n))).2 (by rw [mul_comm, ← e1]; exact hw)
    omega
  have h4 := Nat.mul_le_mul_left (2 ^ lo) h2
  have h5 := Nat.mul_le_mul_left (2 ^ (lo + n)) h3
  rw [mul_add] at h4 h5
  rw [← e1] at h5
  rw [← e2] at h4
  omega

/-- A field reads back the value written to it, modulo its width. -/
theorem getBits_setBits_self (w : Word) (lo n v : Nat) (h : lo + n ≤ 32) : getBits (setBits w lo n v) lo n = v % 2 ^ n := by
  unfold getBits
  rw [setBits_toNat w lo n v h, pow_add]
  have p1 : 0 < (2 : Nat) ^ lo := by positivity
  rw [mul_assoc, add_assoc, ← mul_add, Nat.add_mul_div_left _ _ p1, Nat.div_eq_of_lt (Nat.mod_lt _ p1), zero_add,
    Nat.add_mul_mod_self_left, Nat.mod_mod]

/-- A field above the one written keeps its value. -/
theorem getBits_setBits_above (w : Word) (lo n v lo' n' : Nat) (h : lo + n ≤ 32) (h1 : lo + n ≤ lo') :
    getBits (setBits w lo n v) lo' n' = getBits w lo' n' := by
  unfold getBits
  rw [setBits_toNat w lo n v h]
  obtain ⟨k, rfl⟩ := Nat.exists_eq_add_of_le h1
  have hk : (2 : Nat) ^ (lo + n + k) = 2 ^ (lo + n) * 2 ^ k := pow_add 2 (lo + n) k
  have hb : w.toNat % 2 ^ lo + 2 ^ lo * (v % 2 ^ n) < 2 ^ (lo + n) := by
    have a1 : w.toNat % 2 ^ lo < 2 ^ lo := Nat.mod_lt _ (by positivity)
    have a2 : v % 2 ^ n + 1 ≤ 2 ^ n := Nat.mod_lt _ (by positivity)
    have a3 := Nat.mul_le_mul_left (2 ^ lo) a2
    rw [mul_add, ← pow_add] at a3
    omega
  rw [hk, ← Nat.div_div_eq_div_mul, ← Nat.div_div_eq_div_mul, Nat.add_mul_div_left _ _ (by positivity),
    Nat.div_eq_of_lt hb, zero_add]

/-- A field below the one written keeps its value. -/
theorem getBits_setBits_below (w : Word) (lo n v lo' n' : Nat) (h : lo + n ≤ 32) (h1 : lo' + n' ≤ lo) :
    getBits (setBits w lo n v) lo' n' = getBits w lo' n' := by
  unfold getBits
  rw [setBits_toNat w lo n v h, ← Nat.mod_mul_right_div_self, ← Nat.mod_mul_right_div_self, ← pow_add]
  congr 1
  obtain ⟨k, rfl⟩ := Nat.exists_eq_add_of_le h1
  have e1 : (2 : Nat) ^ (lo' + n' + k) = 2 ^ (lo' + n') * 2 ^ k := pow_add 2 _ _
  have e2 : (2 : Nat) ^ (lo' + n' + k + n) = 2 ^ (lo' + n') * (2 ^ k * 2 ^ n) := by rw [pow_add 2 (lo' + n' + k) n, e1, mul_assoc]
  rw [e2, e1, mul_assoc, mul_assoc, Nat.add_mul_mod_self_left, Nat.add_mul_mod_self_left, Nat.mod_mul_right_mod]

/-- Fields apart from each other are independent. -/
theorem getBits_setBits_ne (w : Word) (lo n v lo' n' : Nat) (h : lo + n ≤ 32) (h1 : lo + n ≤ lo' ∨ lo' + n' ≤ lo) :
    getBits (setBits w lo n v) lo' n' = getBits w lo' n' :=
  h1.elim (getBits_setBits_above w lo n v lo' n' h) (getBits_setBits_below w lo n v lo' n' h)

@[simp] theorem ofBool_true : ofBool true = 1 := rfl
@[simp] theorem ofBool_false : ofBool false = 0 := rfl

theorem ofBool_lt (b : Bool) : ofBool b < 2 := by cases b <;> decide

end Sys2Proof.Machine
end

