-- ==== Sys2Proof/Laws/Sparse.lean ====
section
/-! SUPPORT. The laws of sparse storage: a read after a write, and that every operation keeps the canonical form. -/

namespace Sys2Proof.Machine

theorem lookAt_insertAt_self {α : Type} (d : Nat → α) (k : Nat) (v : α) (m : List (Nat × α)) :
    lookAt d (insertAt k v m) k = v := by
  induction m with
  | nil => simp [insertAt, lookAt]
  | cons p rest ih =>
    obtain ⟨j, w⟩ := p
    by_cases h1 : k < j
    · simp [insertAt, lookAt, h1]
    · by_cases h2 : k = j
      · simp [insertAt, lookAt, h2]
      · simp [insertAt, lookAt, h1, h2, ih]

theorem lookAt_insertAt_ne {α : Type} (d : Nat → α) {k i : Nat} (v : α) (m : List (Nat × α)) (hne : i ≠ k) :
    lookAt d (insertAt k v m) i = lookAt d m i := by
  induction m with
  | nil => simp [insertAt, lookAt, hne]
  | cons p rest ih =>
    obtain ⟨j, w⟩ := p
    by_cases h1 : k < j
    · simp [insertAt, lookAt, h1, hne]
    · by_cases h2 : k = j
      · subst h2; simp [insertAt, lookAt, hne]
      · simp [insertAt, lookAt, h1, h2, ih]

theorem lookAt_eraseAt_self {α : Type} (d : Nat → α) (k : Nat) (m : List (Nat × α)) : lookAt d (eraseAt k m) k = d k := by
  induction m with
  | nil => rfl
  | cons p rest ih =>
    obtain ⟨j, w⟩ := p
    by_cases h : k = j
    · simp [eraseAt, h] at ih ⊢; exact ih
    · simp [eraseAt, lookAt, h, ih]

theorem lookAt_eraseAt_ne {α : Type} (d : Nat → α) {k i : Nat} (m : List (Nat × α)) (hne : i ≠ k) :
    lookAt d (eraseAt k m) i = lookAt d m i := by
  induction m with
  | nil => rfl
  | cons p rest ih =>
    obtain ⟨j, w⟩ := p
    by_cases h : k = j
    · subst h; simp [eraseAt, lookAt, hne, ih]
    · simp [eraseAt, lookAt, h, ih]

/-- A read after a write to the same index gives the value written. -/
@[simp] theorem lookAt_storeAt_self {α : Type} [DecidableEq α] (d : Nat → α) (m : List (Nat × α)) (k : Nat) (v : α) :
    lookAt d (storeAt d m k v) k = v := by
  unfold storeAt
  split
  · next h => rw [lookAt_eraseAt_self, h]
  · exact lookAt_insertAt_self d k v m

/-- A write leaves every other index alone. -/
theorem lookAt_storeAt_ne {α : Type} [DecidableEq α] (d : Nat → α) (m : List (Nat × α)) {k i : Nat} (v : α) (hne : i ≠ k) :
    lookAt d (storeAt d m k v) i = lookAt d m i := by
  unfold storeAt
  split
  · exact lookAt_eraseAt_ne d m hne
  · exact lookAt_insertAt_ne d v m hne

/-- A read after a write, in one equation. -/
theorem lookAt_storeAt {α : Type} [DecidableEq α] (d : Nat → α) (m : List (Nat × α)) (k i : Nat) (v : α) :
    lookAt d (storeAt d m k v) i = if i = k then v else lookAt d m i := by
  by_cases h : i = k
  · subst h; simp
  · simp [h, lookAt_storeAt_ne d m v h]

/-- Every index of a list lies above k. -/
theorem rising_cons {α : Type} (k : Nat) (v : α) (m : List (Nat × α)) :
    rising ((k, v) :: m) = true ↔ (∀ p ∈ m, k < p.1) ∧ rising m = true := by
  induction m generalizing k v with
  | nil => simp [rising]
  | cons p rest ih =>
    obtain ⟨j, w⟩ := p
    simp only [rising, Bool.and_eq_true, decide_eq_true_eq, List.mem_cons, forall_eq_or_imp]
    constructor
    · rintro ⟨h1, h2⟩
      exact ⟨⟨h1, fun p hp => Nat.lt_trans h1 (((ih j w).1 h2).1 p hp)⟩, h2⟩
    · rintro ⟨⟨h1, _⟩, h2⟩
      exact ⟨h1, h2⟩

theorem mem_insertAt {α : Type} {k : Nat} {v : α} {m : List (Nat × α)} {p : Nat × α} (hp : p ∈ insertAt k v m) :
    p = (k, v) ∨ p ∈ m := by
  induction m with
  | nil => simpa [insertAt] using hp
  | cons q rest ih =>
    obtain ⟨j, w⟩ := q
    simp only [insertAt] at hp
    split at hp
    · simpa using hp
    · split at hp
      · simp only [List.mem_cons] at hp ⊢; tauto
      · simp only [List.mem_cons] at hp ⊢; tauto

theorem mem_eraseAt {α : Type} {k : Nat} {m : List (Nat × α)} {p : Nat × α} (hp : p ∈ eraseAt k m) : p ∈ m := by
  induction m with
  | nil => simp [eraseAt] at hp
  | cons q rest ih =>
    obtain ⟨j, w⟩ := q
    simp only [eraseAt] at hp
    split at hp
    · exact List.mem_cons_of_mem _ (ih hp)
    · simp only [List.mem_cons] at hp ⊢; tauto

theorem rising_insertAt {α : Type} (k : Nat) (v : α) {m : List (Nat × α)} (h : rising m = true) :
    rising (insertAt k v m) = true := by
  induction m with
  | nil => rfl
  | cons q rest ih =>
    obtain ⟨j, w⟩ := q
    have hr := (rising_cons j w rest).1 h
    simp only [insertAt]
    split
    · next hlt =>
      refine (rising_cons k v _).2 ⟨fun p hp => ?_, h⟩
      rcases List.mem_cons.1 hp with rfl | hp
      · exact hlt
      · exact Nat.lt_trans hlt (hr.1 p hp)
    · split
      · next heq => subst heq; exact (rising_cons k v rest).2 hr
      · next hlt hne =>
        refine (rising_cons j w _).2 ⟨fun p hp => ?_, ih hr.2⟩
        rcases mem_insertAt hp with rfl | hp
        · exact Nat.lt_of_le_of_ne (Nat.le_of_not_lt hlt) (fun e => hne e.symm)
        · exact hr.1 p hp

theorem rising_eraseAt {α : Type} (k : Nat) {m : List (Nat × α)} (h : rising m = true) : rising (eraseAt k m) = true := by
  induction m with
  | nil => rfl
  | cons q rest ih =>
    obtain ⟨j, w⟩ := q
    have hr := (rising_cons j w rest).1 h
    simp only [eraseAt]
    split
    · exact ih hr.2
    · exact (rising_cons j w _).2 ⟨fun p hp => hr.1 p (mem_eraseAt hp), ih hr.2⟩

/-- A write keeps the canonical form. -/
theorem canonical_storeAt {α : Type} [DecidableEq α] (d : Nat → α) {m : List (Nat × α)} (k : Nat) (v : α)
    (h : canonical d m = true) : canonical d (storeAt d m k v) = true := by
  simp only [canonical, Bool.and_eq_true, List.all_eq_true, decide_eq_true_eq] at h ⊢
  unfold storeAt
  split
  · exact ⟨rising_eraseAt k h.1, fun p hp => h.2 p (mem_eraseAt hp)⟩
  · next hv =>
    refine ⟨rising_insertAt k v h.1, fun p hp => ?_⟩
    rcases mem_insertAt hp with rfl | hp
    · exact hv
    · exact h.2 p hp

/-- Removing pairs keeps the canonical form. -/
theorem canonical_dropWhere {α : Type} [DecidableEq α] (d : Nat → α) {m : List (Nat × α)} (p : Nat → Bool)
    (h : canonical d m = true) : canonical d (dropWhere p m) = true := by
  simp only [canonical, Bool.and_eq_true, List.all_eq_true, decide_eq_true_eq] at h ⊢
  refine ⟨?_, fun q hq => h.2 q (List.mem_of_mem_filter hq)⟩
  have hr := h.1
  clear h
  unfold dropWhere
  induction m with
  | nil => rfl
  | cons q rest ih =>
    obtain ⟨j, w⟩ := q
    have hs := (rising_cons j w rest).1 hr
    simp only [List.filter_cons]
    split
    · exact (rising_cons j w _).2 ⟨fun x hx => hs.1 x (List.mem_of_mem_filter hx), ih hs.2⟩
    · exact ih hs.2

/-- Below the first index of a canonical list every index reads as unlisted. -/
theorem lookAt_below {α : Type} (d : Nat → α) {k : Nat} {m : List (Nat × α)} (h : ∀ p ∈ m, k < p.1) : lookAt d m k = d k := by
  induction m with
  | nil => rfl
  | cons q rest ih =>
    obtain ⟨j, w⟩ := q
    have hj : k < j := h (j, w) (by simp)
    simp only [lookAt, Nat.ne_of_lt hj, if_false]
    exact ih fun p hp => h p (List.mem_cons_of_mem _ hp)

/-- Two canonical lists that read the same at every index are equal: equal contents are equal data. -/
theorem canonical_ext {α : Type} [DecidableEq α] (d : Nat → α) {m n : List (Nat × α)} (hm : canonical d m = true)
    (hn : canonical d n = true) (h : ∀ k, lookAt d m k = lookAt d n k) : m = n := by
  induction m generalizing n with
  | nil =>
    cases n with
    | nil => rfl
    | cons q rest =>
      obtain ⟨j, w⟩ := q
      have h1 := h j
      simp only [canonical, Bool.and_eq_true, List.all_eq_true, decide_eq_true_eq] at hn
      have h2 := hn.2 (j, w) (by simp)
      simp [lookAt] at h1
      exact absurd h1.symm h2
  | cons p rest ih =>
    obtain ⟨i, v⟩ := p
    cases n with
    | nil =>
      have h1 := h i
      simp only [canonical, Bool.and_eq_true, List.all_eq_true, decide_eq_true_eq] at hm
      have h2 := hm.2 (i, v) (by simp)
      simp [lookAt] at h1
      exact absurd h1 h2
    | cons q rest' =>
      obtain ⟨j, w⟩ := q
      simp only [canonical, Bool.and_eq_true, List.all_eq_true, decide_eq_true_eq] at hm hn
      have hmr := (rising_cons i v rest).1 hm.1
      have hnr := (rising_cons j w rest').1 hn.1
      have hv : v ≠ d i := hm.2 (i, v) (by simp)
      have hw : w ≠ d j := hn.2 (j, w) (by simp)
      have hij : i = j := by
        rcases Nat.lt_trichotomy i j with hlt | heq | hgt
        · have h1 := h i
          have h2 : lookAt d ((j, w) :: rest') i = d i := by
            refine lookAt_below d fun p hp => ?_
            rcases List.mem_cons.1 hp with rfl | hp
            · exact hlt
            · exact Nat.lt_trans hlt (hnr.1 p hp)
          rw [h2] at h1
          simp [lookAt] at h1
          exact absurd h1 hv
        · exact heq
        · have h1 := h j
          have h2 : lookAt d ((i, v) :: rest) j = d j := by
            refine lookAt_below d fun p hp => ?_
            rcases List.mem_cons.1 hp with rfl | hp
            · exact hgt
            · exact Nat.lt_trans hgt (hmr.1 p hp)
          rw [h2] at h1
          simp [lookAt] at h1
          exact absurd h1.symm hw
      subst hij
      have hvw : v = w := by have h1 := h i; simpa [lookAt] using h1
      subst hvw
      congr 1
      refine ih ?_ ?_ fun k => ?_
      · simp only [canonical, Bool.and_eq_true, List.all_eq_true, decide_eq_true_eq]
        exact ⟨hmr.2, fun p hp => hm.2 p (List.mem_cons_of_mem _ hp)⟩
      · simp only [canonical, Bool.and_eq_true, List.all_eq_true, decide_eq_true_eq]
        exact ⟨hnr.2, fun p hp => hn.2 p (List.mem_cons_of_mem _ hp)⟩
      · by_cases hk : k = i
        · subst hk
          rw [lookAt_below d hmr.1, lookAt_below d hnr.1]
        · have h1 := h k
          simpa [lookAt, hk] using h1

end Sys2Proof.Machine
end

