-- ==== Sys2Proof/Laws/State.lean ====
section
/-! SUPPORT. What each named update of a half leaves and gives, one lemma per field and update, all true by rfl: no proof
unfolds a record update. Generated from the fields of `Half`. -/

namespace Sys2Proof.Machine

/-! `Half.wr` writes registers only. -/

@[simp] theorem Half.wr_id (h : Half) (a : Nat) (v : Word) : (h.wr a v).id = h.id := rfl
@[simp] theorem Half.wr_held (h : Half) (a : Nat) (v : Word) : (h.wr a v).held = h.held := rfl
@[simp] theorem Half.wr_fv (h : Half) (a : Nat) (v : Word) : (h.wr a v).fv = h.fv := rfl
@[simp] theorem Half.wr_block (h : Half) (a : Nat) (v : Word) : (h.wr a v).block = h.block := rfl
@[simp] theorem Half.wr_phase (h : Half) (a : Nat) (v : Word) : (h.wr a v).phase = h.phase := rfl
@[simp] theorem Half.wr_regions (h : Half) (a : Nat) (v : Word) : (h.wr a v).regions = h.regions := rfl
@[simp] theorem Half.wr_acc (h : Half) (a : Nat) (v : Word) : (h.wr a v).acc = h.acc := rfl
@[simp] theorem Half.wr_queues (h : Half) (a : Nat) (v : Word) : (h.wr a v).queues = h.queues := rfl
@[simp] theorem Half.wr_sent (h : Half) (a : Nat) (v : Word) : (h.wr a v).sent = h.sent := rfl
@[simp] theorem Half.wr_rdn (h : Half) (a : Nat) (v : Word) : (h.wr a v).rdn = h.rdn := rfl
@[simp] theorem Half.wr_ev (h : Half) (a : Nat) (v : Word) : (h.wr a v).ev = h.ev := rfl
@[simp] theorem Half.wr_boot (h : Half) (a : Nat) (v : Word) : (h.wr a v).boot = h.boot := rfl
@[simp] theorem Half.wr_net (h : Half) (a : Nat) (v : Word) : (h.wr a v).net = h.net := rfl
@[simp] theorem Half.wr_keys (h : Half) (a : Nat) (v : Word) : (h.wr a v).keys = h.keys := rfl
@[simp] theorem Half.wr_macs (h : Half) (a : Nat) (v : Word) : (h.wr a v).macs = h.macs := rfl
@[simp] theorem Half.wr_age (h : Half) (a : Nat) (v : Word) : (h.wr a v).age = h.age := rfl
@[simp] theorem Half.wr_mediaIdx (h : Half) (a : Nat) (v : Word) : (h.wr a v).mediaIdx = h.mediaIdx := rfl
@[simp] theorem Half.wr_inBlk (h : Half) (a : Nat) (v : Word) : (h.wr a v).inBlk = h.inBlk := rfl
@[simp] theorem Half.wr_procIn (h : Half) (a : Nat) (v : Word) : (h.wr a v).procIn = h.procIn := rfl
@[simp] theorem Half.wr_outBlk (h : Half) (a : Nat) (v : Word) : (h.wr a v).outBlk = h.outBlk := rfl
@[simp] theorem Half.wr_txHist (h : Half) (a : Nat) (v : Word) : (h.wr a v).txHist = h.txHist := rfl
@[simp] theorem Half.wr_rxs (h : Half) (a : Nat) (v : Word) : (h.wr a v).rxs = h.rxs := rfl
@[simp] theorem Half.wr_txs (h : Half) (a : Nat) (v : Word) : (h.wr a v).txs = h.txs := rfl
@[simp] theorem Half.wr_flow (h : Half) (a : Nat) (v : Word) : (h.wr a v).flow = h.flow := rfl
@[simp] theorem Half.wr_tim (h : Half) (a : Nat) (v : Word) : (h.wr a v).tim = h.tim := rfl
@[simp] theorem Half.wr_graph (h : Half) (a : Nat) (v : Word) : (h.wr a v).graph = h.graph := rfl
@[simp] theorem Half.wr_alarm (h : Half) (a : Nat) (v : Word) : (h.wr a v).alarm = h.alarm := rfl
@[simp] theorem Half.wr_store (h : Half) (a : Nat) (v : Word) : (h.wr a v).store = h.store := rfl
@[simp] theorem Half.wr_recd (h : Half) (a : Nat) (v : Word) : (h.wr a v).recd = h.recd := rfl
@[simp] theorem Half.wr_out (h : Half) (a : Nat) (v : Word) : (h.wr a v).out = h.out := rfl
@[simp] theorem Half.wr_gust (h : Half) (a : Nat) (v : Word) : (h.wr a v).gust = h.gust := rfl
@[simp] theorem Half.wr_hlt (h : Half) (a : Nat) (v : Word) : (h.wr a v).hlt = h.hlt := rfl

/-! `Half.put` writes registers only. -/

@[simp] theorem Half.put_id (h : Half) (a lo n v : Nat) : (h.put a lo n v).id = h.id := rfl
@[simp] theorem Half.put_held (h : Half) (a lo n v : Nat) : (h.put a lo n v).held = h.held := rfl
@[simp] theorem Half.put_fv (h : Half) (a lo n v : Nat) : (h.put a lo n v).fv = h.fv := rfl
@[simp] theorem Half.put_block (h : Half) (a lo n v : Nat) : (h.put a lo n v).block = h.block := rfl
@[simp] theorem Half.put_phase (h : Half) (a lo n v : Nat) : (h.put a lo n v).phase = h.phase := rfl
@[simp] theorem Half.put_regions (h : Half) (a lo n v : Nat) : (h.put a lo n v).regions = h.regions := rfl
@[simp] theorem Half.put_acc (h : Half) (a lo n v : Nat) : (h.put a lo n v).acc = h.acc := rfl
@[simp] theorem Half.put_queues (h : Half) (a lo n v : Nat) : (h.put a lo n v).queues = h.queues := rfl
@[simp] theorem Half.put_sent (h : Half) (a lo n v : Nat) : (h.put a lo n v).sent = h.sent := rfl
@[simp] theorem Half.put_rdn (h : Half) (a lo n v : Nat) : (h.put a lo n v).rdn = h.rdn := rfl
@[simp] theorem Half.put_ev (h : Half) (a lo n v : Nat) : (h.put a lo n v).ev = h.ev := rfl
@[simp] theorem Half.put_boot (h : Half) (a lo n v : Nat) : (h.put a lo n v).boot = h.boot := rfl
@[simp] theorem Half.put_net (h : Half) (a lo n v : Nat) : (h.put a lo n v).net = h.net := rfl
@[simp] theorem Half.put_keys (h : Half) (a lo n v : Nat) : (h.put a lo n v).keys = h.keys := rfl
@[simp] theorem Half.put_macs (h : Half) (a lo n v : Nat) : (h.put a lo n v).macs = h.macs := rfl
@[simp] theorem Half.put_age (h : Half) (a lo n v : Nat) : (h.put a lo n v).age = h.age := rfl
@[simp] theorem Half.put_mediaIdx (h : Half) (a lo n v : Nat) : (h.put a lo n v).mediaIdx = h.mediaIdx := rfl
@[simp] theorem Half.put_inBlk (h : Half) (a lo n v : Nat) : (h.put a lo n v).inBlk = h.inBlk := rfl
@[simp] theorem Half.put_procIn (h : Half) (a lo n v : Nat) : (h.put a lo n v).procIn = h.procIn := rfl
@[simp] theorem Half.put_outBlk (h : Half) (a lo n v : Nat) : (h.put a lo n v).outBlk = h.outBlk := rfl
@[simp] theorem Half.put_txHist (h : Half) (a lo n v : Nat) : (h.put a lo n v).txHist = h.txHist := rfl
@[simp] theorem Half.put_rxs (h : Half) (a lo n v : Nat) : (h.put a lo n v).rxs = h.rxs := rfl
@[simp] theorem Half.put_txs (h : Half) (a lo n v : Nat) : (h.put a lo n v).txs = h.txs := rfl
@[simp] theorem Half.put_flow (h : Half) (a lo n v : Nat) : (h.put a lo n v).flow = h.flow := rfl
@[simp] theorem Half.put_tim (h : Half) (a lo n v : Nat) : (h.put a lo n v).tim = h.tim := rfl
@[simp] theorem Half.put_graph (h : Half) (a lo n v : Nat) : (h.put a lo n v).graph = h.graph := rfl
@[simp] theorem Half.put_alarm (h : Half) (a lo n v : Nat) : (h.put a lo n v).alarm = h.alarm := rfl
@[simp] theorem Half.put_store (h : Half) (a lo n v : Nat) : (h.put a lo n v).store = h.store := rfl
@[simp] theorem Half.put_recd (h : Half) (a lo n v : Nat) : (h.put a lo n v).recd = h.recd := rfl
@[simp] theorem Half.put_out (h : Half) (a lo n v : Nat) : (h.put a lo n v).out = h.out := rfl
@[simp] theorem Half.put_gust (h : Half) (a lo n v : Nat) : (h.put a lo n v).gust = h.gust := rfl
@[simp] theorem Half.put_hlt (h : Half) (a lo n v : Nat) : (h.put a lo n v).hlt = h.hlt := rfl

/-! `Half.putBit` writes registers only. -/

@[simp] theorem Half.putBit_id (h : Half) (a b : Nat) (v : Bool) : (h.putBit a b v).id = h.id := rfl
@[simp] theorem Half.putBit_held (h : Half) (a b : Nat) (v : Bool) : (h.putBit a b v).held = h.held := rfl
@[simp] theorem Half.putBit_fv (h : Half) (a b : Nat) (v : Bool) : (h.putBit a b v).fv = h.fv := rfl
@[simp] theorem Half.putBit_block (h : Half) (a b : Nat) (v : Bool) : (h.putBit a b v).block = h.block := rfl
@[simp] theorem Half.putBit_phase (h : Half) (a b : Nat) (v : Bool) : (h.putBit a b v).phase = h.phase := rfl
@[simp] theorem Half.putBit_regions (h : Half) (a b : Nat) (v : Bool) : (h.putBit a b v).regions = h.regions := rfl
@[simp] theorem Half.putBit_acc (h : Half) (a b : Nat) (v : Bool) : (h.putBit a b v).acc = h.acc := rfl
@[simp] theorem Half.putBit_queues (h : Half) (a b : Nat) (v : Bool) : (h.putBit a b v).queues = h.queues := rfl
@[simp] theorem Half.putBit_sent (h : Half) (a b : Nat) (v : Bool) : (h.putBit a b v).sent = h.sent := rfl
@[simp] theorem Half.putBit_rdn (h : Half) (a b : Nat) (v : Bool) : (h.putBit a b v).rdn = h.rdn := rfl
@[simp] theorem Half.putBit_ev (h : Half) (a b : Nat) (v : Bool) : (h.putBit a b v).ev = h.ev := rfl
@[simp] theorem Half.putBit_boot (h : Half) (a b : Nat) (v : Bool) : (h.putBit a b v).boot = h.boot := rfl
@[simp] theorem Half.putBit_net (h : Half) (a b : Nat) (v : Bool) : (h.putBit a b v).net = h.net := rfl
@[simp] theorem Half.putBit_keys (h : Half) (a b : Nat) (v : Bool) : (h.putBit a b v).keys = h.keys := rfl
@[simp] theorem Half.putBit_macs (h : Half) (a b : Nat) (v : Bool) : (h.putBit a b v).macs = h.macs := rfl
@[simp] theorem Half.putBit_age (h : Half) (a b : Nat) (v : Bool) : (h.putBit a b v).age = h.age := rfl
@[simp] theorem Half.putBit_mediaIdx (h : Half) (a b : Nat) (v : Bool) : (h.putBit a b v).mediaIdx = h.mediaIdx := rfl
@[simp] theorem Half.putBit_inBlk (h : Half) (a b : Nat) (v : Bool) : (h.putBit a b v).inBlk = h.inBlk := rfl
@[simp] theorem Half.putBit_procIn (h : Half) (a b : Nat) (v : Bool) : (h.putBit a b v).procIn = h.procIn := rfl
@[simp] theorem Half.putBit_outBlk (h : Half) (a b : Nat) (v : Bool) : (h.putBit a b v).outBlk = h.outBlk := rfl
@[simp] theorem Half.putBit_txHist (h : Half) (a b : Nat) (v : Bool) : (h.putBit a b v).txHist = h.txHist := rfl
@[simp] theorem Half.putBit_rxs (h : Half) (a b : Nat) (v : Bool) : (h.putBit a b v).rxs = h.rxs := rfl
@[simp] theorem Half.putBit_txs (h : Half) (a b : Nat) (v : Bool) : (h.putBit a b v).txs = h.txs := rfl
@[simp] theorem Half.putBit_flow (h : Half) (a b : Nat) (v : Bool) : (h.putBit a b v).flow = h.flow := rfl
@[simp] theorem Half.putBit_tim (h : Half) (a b : Nat) (v : Bool) : (h.putBit a b v).tim = h.tim := rfl
@[simp] theorem Half.putBit_graph (h : Half) (a b : Nat) (v : Bool) : (h.putBit a b v).graph = h.graph := rfl
@[simp] theorem Half.putBit_alarm (h : Half) (a b : Nat) (v : Bool) : (h.putBit a b v).alarm = h.alarm := rfl
@[simp] theorem Half.putBit_store (h : Half) (a b : Nat) (v : Bool) : (h.putBit a b v).store = h.store := rfl
@[simp] theorem Half.putBit_recd (h : Half) (a b : Nat) (v : Bool) : (h.putBit a b v).recd = h.recd := rfl
@[simp] theorem Half.putBit_out (h : Half) (a b : Nat) (v : Bool) : (h.putBit a b v).out = h.out := rfl
@[simp] theorem Half.putBit_gust (h : Half) (a b : Nat) (v : Bool) : (h.putBit a b v).gust = h.gust := rfl
@[simp] theorem Half.putBit_hlt (h : Half) (a b : Nat) (v : Bool) : (h.putBit a b v).hlt = h.hlt := rfl

/-! `Half.wrNat` writes registers only. -/

@[simp] theorem Half.wrNat_id (h : Half) (a v : Nat) : (h.wrNat a v).id = h.id := rfl
@[simp] theorem Half.wrNat_held (h : Half) (a v : Nat) : (h.wrNat a v).held = h.held := rfl
@[simp] theorem Half.wrNat_fv (h : Half) (a v : Nat) : (h.wrNat a v).fv = h.fv := rfl
@[simp] theorem Half.wrNat_block (h : Half) (a v : Nat) : (h.wrNat a v).block = h.block := rfl
@[simp] theorem Half.wrNat_phase (h : Half) (a v : Nat) : (h.wrNat a v).phase = h.phase := rfl
@[simp] theorem Half.wrNat_regions (h : Half) (a v : Nat) : (h.wrNat a v).regions = h.regions := rfl
@[simp] theorem Half.wrNat_acc (h : Half) (a v : Nat) : (h.wrNat a v).acc = h.acc := rfl
@[simp] theorem Half.wrNat_queues (h : Half) (a v : Nat) : (h.wrNat a v).queues = h.queues := rfl
@[simp] theorem Half.wrNat_sent (h : Half) (a v : Nat) : (h.wrNat a v).sent = h.sent := rfl
@[simp] theorem Half.wrNat_rdn (h : Half) (a v : Nat) : (h.wrNat a v).rdn = h.rdn := rfl
@[simp] theorem Half.wrNat_ev (h : Half) (a v : Nat) : (h.wrNat a v).ev = h.ev := rfl
@[simp] theorem Half.wrNat_boot (h : Half) (a v : Nat) : (h.wrNat a v).boot = h.boot := rfl
@[simp] theorem Half.wrNat_net (h : Half) (a v : Nat) : (h.wrNat a v).net = h.net := rfl
@[simp] theorem Half.wrNat_keys (h : Half) (a v : Nat) : (h.wrNat a v).keys = h.keys := rfl
@[simp] theorem Half.wrNat_macs (h : Half) (a v : Nat) : (h.wrNat a v).macs = h.macs := rfl
@[simp] theorem Half.wrNat_age (h : Half) (a v : Nat) : (h.wrNat a v).age = h.age := rfl
@[simp] theorem Half.wrNat_mediaIdx (h : Half) (a v : Nat) : (h.wrNat a v).mediaIdx = h.mediaIdx := rfl
@[simp] theorem Half.wrNat_inBlk (h : Half) (a v : Nat) : (h.wrNat a v).inBlk = h.inBlk := rfl
@[simp] theorem Half.wrNat_procIn (h : Half) (a v : Nat) : (h.wrNat a v).procIn = h.procIn := rfl
@[simp] theorem Half.wrNat_outBlk (h : Half) (a v : Nat) : (h.wrNat a v).outBlk = h.outBlk := rfl
@[simp] theorem Half.wrNat_txHist (h : Half) (a v : Nat) : (h.wrNat a v).txHist = h.txHist := rfl
@[simp] theorem Half.wrNat_rxs (h : Half) (a v : Nat) : (h.wrNat a v).rxs = h.rxs := rfl
@[simp] theorem Half.wrNat_txs (h : Half) (a v : Nat) : (h.wrNat a v).txs = h.txs := rfl
@[simp] theorem Half.wrNat_flow (h : Half) (a v : Nat) : (h.wrNat a v).flow = h.flow := rfl
@[simp] theorem Half.wrNat_tim (h : Half) (a v : Nat) : (h.wrNat a v).tim = h.tim := rfl
@[simp] theorem Half.wrNat_graph (h : Half) (a v : Nat) : (h.wrNat a v).graph = h.graph := rfl
@[simp] theorem Half.wrNat_alarm (h : Half) (a v : Nat) : (h.wrNat a v).alarm = h.alarm := rfl
@[simp] theorem Half.wrNat_store (h : Half) (a v : Nat) : (h.wrNat a v).store = h.store := rfl
@[simp] theorem Half.wrNat_recd (h : Half) (a v : Nat) : (h.wrNat a v).recd = h.recd := rfl
@[simp] theorem Half.wrNat_out (h : Half) (a v : Nat) : (h.wrNat a v).out = h.out := rfl
@[simp] theorem Half.wrNat_gust (h : Half) (a v : Nat) : (h.wrNat a v).gust = h.gust := rfl
@[simp] theorem Half.wrNat_hlt (h : Half) (a v : Nat) : (h.wrNat a v).hlt = h.hlt := rfl

/-! `Half.event` writes registers only. -/

@[simp] theorem Half.event_id (h : Half) (a b : Nat) : (h.event a b).id = h.id := rfl
@[simp] theorem Half.event_held (h : Half) (a b : Nat) : (h.event a b).held = h.held := rfl
@[simp] theorem Half.event_fv (h : Half) (a b : Nat) : (h.event a b).fv = h.fv := rfl
@[simp] theorem Half.event_block (h : Half) (a b : Nat) : (h.event a b).block = h.block := rfl
@[simp] theorem Half.event_phase (h : Half) (a b : Nat) : (h.event a b).phase = h.phase := rfl
@[simp] theorem Half.event_regions (h : Half) (a b : Nat) : (h.event a b).regions = h.regions := rfl
@[simp] theorem Half.event_acc (h : Half) (a b : Nat) : (h.event a b).acc = h.acc := rfl
@[simp] theorem Half.event_queues (h : Half) (a b : Nat) : (h.event a b).queues = h.queues := rfl
@[simp] theorem Half.event_sent (h : Half) (a b : Nat) : (h.event a b).sent = h.sent := rfl
@[simp] theorem Half.event_rdn (h : Half) (a b : Nat) : (h.event a b).rdn = h.rdn := rfl
@[simp] theorem Half.event_ev (h : Half) (a b : Nat) : (h.event a b).ev = h.ev := rfl
@[simp] theorem Half.event_boot (h : Half) (a b : Nat) : (h.event a b).boot = h.boot := rfl
@[simp] theorem Half.event_net (h : Half) (a b : Nat) : (h.event a b).net = h.net := rfl
@[simp] theorem Half.event_keys (h : Half) (a b : Nat) : (h.event a b).keys = h.keys := rfl
@[simp] theorem Half.event_macs (h : Half) (a b : Nat) : (h.event a b).macs = h.macs := rfl
@[simp] theorem Half.event_age (h : Half) (a b : Nat) : (h.event a b).age = h.age := rfl
@[simp] theorem Half.event_mediaIdx (h : Half) (a b : Nat) : (h.event a b).mediaIdx = h.mediaIdx := rfl
@[simp] theorem Half.event_inBlk (h : Half) (a b : Nat) : (h.event a b).inBlk = h.inBlk := rfl
@[simp] theorem Half.event_procIn (h : Half) (a b : Nat) : (h.event a b).procIn = h.procIn := rfl
@[simp] theorem Half.event_outBlk (h : Half) (a b : Nat) : (h.event a b).outBlk = h.outBlk := rfl
@[simp] theorem Half.event_txHist (h : Half) (a b : Nat) : (h.event a b).txHist = h.txHist := rfl
@[simp] theorem Half.event_rxs (h : Half) (a b : Nat) : (h.event a b).rxs = h.rxs := rfl
@[simp] theorem Half.event_txs (h : Half) (a b : Nat) : (h.event a b).txs = h.txs := rfl
@[simp] theorem Half.event_flow (h : Half) (a b : Nat) : (h.event a b).flow = h.flow := rfl
@[simp] theorem Half.event_tim (h : Half) (a b : Nat) : (h.event a b).tim = h.tim := rfl
@[simp] theorem Half.event_graph (h : Half) (a b : Nat) : (h.event a b).graph = h.graph := rfl
@[simp] theorem Half.event_alarm (h : Half) (a b : Nat) : (h.event a b).alarm = h.alarm := rfl
@[simp] theorem Half.event_store (h : Half) (a b : Nat) : (h.event a b).store = h.store := rfl
@[simp] theorem Half.event_recd (h : Half) (a b : Nat) : (h.event a b).recd = h.recd := rfl
@[simp] theorem Half.event_out (h : Half) (a b : Nat) : (h.event a b).out = h.out := rfl
@[simp] theorem Half.event_gust (h : Half) (a b : Nat) : (h.event a b).gust = h.gust := rfl
@[simp] theorem Half.event_hlt (h : Half) (a b : Nat) : (h.event a b).hlt = h.hlt := rfl

/-! `Half.latch` writes registers only. -/

@[simp] theorem Half.latch_id (h : Half) (a c : Nat) : (h.latch a c).id = h.id := rfl
@[simp] theorem Half.latch_held (h : Half) (a c : Nat) : (h.latch a c).held = h.held := rfl
@[simp] theorem Half.latch_fv (h : Half) (a c : Nat) : (h.latch a c).fv = h.fv := rfl
@[simp] theorem Half.latch_block (h : Half) (a c : Nat) : (h.latch a c).block = h.block := rfl
@[simp] theorem Half.latch_phase (h : Half) (a c : Nat) : (h.latch a c).phase = h.phase := rfl
@[simp] theorem Half.latch_regions (h : Half) (a c : Nat) : (h.latch a c).regions = h.regions := rfl
@[simp] theorem Half.latch_acc (h : Half) (a c : Nat) : (h.latch a c).acc = h.acc := rfl
@[simp] theorem Half.latch_queues (h : Half) (a c : Nat) : (h.latch a c).queues = h.queues := rfl
@[simp] theorem Half.latch_sent (h : Half) (a c : Nat) : (h.latch a c).sent = h.sent := rfl
@[simp] theorem Half.latch_rdn (h : Half) (a c : Nat) : (h.latch a c).rdn = h.rdn := rfl
@[simp] theorem Half.latch_ev (h : Half) (a c : Nat) : (h.latch a c).ev = h.ev := rfl
@[simp] theorem Half.latch_boot (h : Half) (a c : Nat) : (h.latch a c).boot = h.boot := rfl
@[simp] theorem Half.latch_net (h : Half) (a c : Nat) : (h.latch a c).net = h.net := rfl
@[simp] theorem Half.latch_keys (h : Half) (a c : Nat) : (h.latch a c).keys = h.keys := rfl
@[simp] theorem Half.latch_macs (h : Half) (a c : Nat) : (h.latch a c).macs = h.macs := rfl
@[simp] theorem Half.latch_age (h : Half) (a c : Nat) : (h.latch a c).age = h.age := rfl
@[simp] theorem Half.latch_mediaIdx (h : Half) (a c : Nat) : (h.latch a c).mediaIdx = h.mediaIdx := rfl
@[simp] theorem Half.latch_inBlk (h : Half) (a c : Nat) : (h.latch a c).inBlk = h.inBlk := rfl
@[simp] theorem Half.latch_procIn (h : Half) (a c : Nat) : (h.latch a c).procIn = h.procIn := rfl
@[simp] theorem Half.latch_outBlk (h : Half) (a c : Nat) : (h.latch a c).outBlk = h.outBlk := rfl
@[simp] theorem Half.latch_txHist (h : Half) (a c : Nat) : (h.latch a c).txHist = h.txHist := rfl
@[simp] theorem Half.latch_rxs (h : Half) (a c : Nat) : (h.latch a c).rxs = h.rxs := rfl
@[simp] theorem Half.latch_txs (h : Half) (a c : Nat) : (h.latch a c).txs = h.txs := rfl
@[simp] theorem Half.latch_flow (h : Half) (a c : Nat) : (h.latch a c).flow = h.flow := rfl
@[simp] theorem Half.latch_tim (h : Half) (a c : Nat) : (h.latch a c).tim = h.tim := rfl
@[simp] theorem Half.latch_graph (h : Half) (a c : Nat) : (h.latch a c).graph = h.graph := rfl
@[simp] theorem Half.latch_alarm (h : Half) (a c : Nat) : (h.latch a c).alarm = h.alarm := rfl
@[simp] theorem Half.latch_store (h : Half) (a c : Nat) : (h.latch a c).store = h.store := rfl
@[simp] theorem Half.latch_recd (h : Half) (a c : Nat) : (h.latch a c).recd = h.recd := rfl
@[simp] theorem Half.latch_out (h : Half) (a c : Nat) : (h.latch a c).out = h.out := rfl
@[simp] theorem Half.latch_gust (h : Half) (a c : Nat) : (h.latch a c).gust = h.gust := rfl
@[simp] theorem Half.latch_hlt (h : Half) (a c : Nat) : (h.latch a c).hlt = h.hlt := rfl

/-! `Half.count` writes registers only. -/

@[simp] theorem Half.count_id (h : Half) (a lo n d : Nat) : (h.count a lo n d).id = h.id := rfl
@[simp] theorem Half.count_held (h : Half) (a lo n d : Nat) : (h.count a lo n d).held = h.held := rfl
@[simp] theorem Half.count_fv (h : Half) (a lo n d : Nat) : (h.count a lo n d).fv = h.fv := rfl
@[simp] theorem Half.count_block (h : Half) (a lo n d : Nat) : (h.count a lo n d).block = h.block := rfl
@[simp] theorem Half.count_phase (h : Half) (a lo n d : Nat) : (h.count a lo n d).phase = h.phase := rfl
@[simp] theorem Half.count_regions (h : Half) (a lo n d : Nat) : (h.count a lo n d).regions = h.regions := rfl
@[simp] theorem Half.count_acc (h : Half) (a lo n d : Nat) : (h.count a lo n d).acc = h.acc := rfl
@[simp] theorem Half.count_queues (h : Half) (a lo n d : Nat) : (h.count a lo n d).queues = h.queues := rfl
@[simp] theorem Half.count_sent (h : Half) (a lo n d : Nat) : (h.count a lo n d).sent = h.sent := rfl
@[simp] theorem Half.count_rdn (h : Half) (a lo n d : Nat) : (h.count a lo n d).rdn = h.rdn := rfl
@[simp] theorem Half.count_ev (h : Half) (a lo n d : Nat) : (h.count a lo n d).ev = h.ev := rfl
@[simp] theorem Half.count_boot (h : Half) (a lo n d : Nat) : (h.count a lo n d).boot = h.boot := rfl
@[simp] theorem Half.count_net (h : Half) (a lo n d : Nat) : (h.count a lo n d).net = h.net := rfl
@[simp] theorem Half.count_keys (h : Half) (a lo n d : Nat) : (h.count a lo n d).keys = h.keys := rfl
@[simp] theorem Half.count_macs (h : Half) (a lo n d : Nat) : (h.count a lo n d).macs = h.macs := rfl
@[simp] theorem Half.count_age (h : Half) (a lo n d : Nat) : (h.count a lo n d).age = h.age := rfl
@[simp] theorem Half.count_mediaIdx (h : Half) (a lo n d : Nat) : (h.count a lo n d).mediaIdx = h.mediaIdx := rfl
@[simp] theorem Half.count_inBlk (h : Half) (a lo n d : Nat) : (h.count a lo n d).inBlk = h.inBlk := rfl
@[simp] theorem Half.count_procIn (h : Half) (a lo n d : Nat) : (h.count a lo n d).procIn = h.procIn := rfl
@[simp] theorem Half.count_outBlk (h : Half) (a lo n d : Nat) : (h.count a lo n d).outBlk = h.outBlk := rfl
@[simp] theorem Half.count_txHist (h : Half) (a lo n d : Nat) : (h.count a lo n d).txHist = h.txHist := rfl
@[simp] theorem Half.count_rxs (h : Half) (a lo n d : Nat) : (h.count a lo n d).rxs = h.rxs := rfl
@[simp] theorem Half.count_txs (h : Half) (a lo n d : Nat) : (h.count a lo n d).txs = h.txs := rfl
@[simp] theorem Half.count_flow (h : Half) (a lo n d : Nat) : (h.count a lo n d).flow = h.flow := rfl
@[simp] theorem Half.count_tim (h : Half) (a lo n d : Nat) : (h.count a lo n d).tim = h.tim := rfl
@[simp] theorem Half.count_graph (h : Half) (a lo n d : Nat) : (h.count a lo n d).graph = h.graph := rfl
@[simp] theorem Half.count_alarm (h : Half) (a lo n d : Nat) : (h.count a lo n d).alarm = h.alarm := rfl
@[simp] theorem Half.count_store (h : Half) (a lo n d : Nat) : (h.count a lo n d).store = h.store := rfl
@[simp] theorem Half.count_recd (h : Half) (a lo n d : Nat) : (h.count a lo n d).recd = h.recd := rfl
@[simp] theorem Half.count_out (h : Half) (a lo n d : Nat) : (h.count a lo n d).out = h.out := rfl
@[simp] theorem Half.count_gust (h : Half) (a lo n d : Nat) : (h.count a lo n d).gust = h.gust := rfl
@[simp] theorem Half.count_hlt (h : Half) (a lo n d : Nat) : (h.count a lo n d).hlt = h.hlt := rfl

/-! `Half.wrap` writes registers only. -/

@[simp] theorem Half.wrap_id (h : Half) (a lo n d : Nat) : (h.wrap a lo n d).id = h.id := rfl
@[simp] theorem Half.wrap_held (h : Half) (a lo n d : Nat) : (h.wrap a lo n d).held = h.held := rfl
@[simp] theorem Half.wrap_fv (h : Half) (a lo n d : Nat) : (h.wrap a lo n d).fv = h.fv := rfl
@[simp] theorem Half.wrap_block (h : Half) (a lo n d : Nat) : (h.wrap a lo n d).block = h.block := rfl
@[simp] theorem Half.wrap_phase (h : Half) (a lo n d : Nat) : (h.wrap a lo n d).phase = h.phase := rfl
@[simp] theorem Half.wrap_regions (h : Half) (a lo n d : Nat) : (h.wrap a lo n d).regions = h.regions := rfl
@[simp] theorem Half.wrap_acc (h : Half) (a lo n d : Nat) : (h.wrap a lo n d).acc = h.acc := rfl
@[simp] theorem Half.wrap_queues (h : Half) (a lo n d : Nat) : (h.wrap a lo n d).queues = h.queues := rfl
@[simp] theorem Half.wrap_sent (h : Half) (a lo n d : Nat) : (h.wrap a lo n d).sent = h.sent := rfl
@[simp] theorem Half.wrap_rdn (h : Half) (a lo n d : Nat) : (h.wrap a lo n d).rdn = h.rdn := rfl
@[simp] theorem Half.wrap_ev (h : Half) (a lo n d : Nat) : (h.wrap a lo n d).ev = h.ev := rfl
@[simp] theorem Half.wrap_boot (h : Half) (a lo n d : Nat) : (h.wrap a lo n d).boot = h.boot := rfl
@[simp] theorem Half.wrap_net (h : Half) (a lo n d : Nat) : (h.wrap a lo n d).net = h.net := rfl
@[simp] theorem Half.wrap_keys (h : Half) (a lo n d : Nat) : (h.wrap a lo n d).keys = h.keys := rfl
@[simp] theorem Half.wrap_macs (h : Half) (a lo n d : Nat) : (h.wrap a lo n d).macs = h.macs := rfl
@[simp] theorem Half.wrap_age (h : Half) (a lo n d : Nat) : (h.wrap a lo n d).age = h.age := rfl
@[simp] theorem Half.wrap_mediaIdx (h : Half) (a lo n d : Nat) : (h.wrap a lo n d).mediaIdx = h.mediaIdx := rfl
@[simp] theorem Half.wrap_inBlk (h : Half) (a lo n d : Nat) : (h.wrap a lo n d).inBlk = h.inBlk := rfl
@[simp] theorem Half.wrap_procIn (h : Half) (a lo n d : Nat) : (h.wrap a lo n d).procIn = h.procIn := rfl
@[simp] theorem Half.wrap_outBlk (h : Half) (a lo n d : Nat) : (h.wrap a lo n d).outBlk = h.outBlk := rfl
@[simp] theorem Half.wrap_txHist (h : Half) (a lo n d : Nat) : (h.wrap a lo n d).txHist = h.txHist := rfl
@[simp] theorem Half.wrap_rxs (h : Half) (a lo n d : Nat) : (h.wrap a lo n d).rxs = h.rxs := rfl
@[simp] theorem Half.wrap_txs (h : Half) (a lo n d : Nat) : (h.wrap a lo n d).txs = h.txs := rfl
@[simp] theorem Half.wrap_flow (h : Half) (a lo n d : Nat) : (h.wrap a lo n d).flow = h.flow := rfl
@[simp] theorem Half.wrap_tim (h : Half) (a lo n d : Nat) : (h.wrap a lo n d).tim = h.tim := rfl
@[simp] theorem Half.wrap_graph (h : Half) (a lo n d : Nat) : (h.wrap a lo n d).graph = h.graph := rfl
@[simp] theorem Half.wrap_alarm (h : Half) (a lo n d : Nat) : (h.wrap a lo n d).alarm = h.alarm := rfl
@[simp] theorem Half.wrap_store (h : Half) (a lo n d : Nat) : (h.wrap a lo n d).store = h.store := rfl
@[simp] theorem Half.wrap_recd (h : Half) (a lo n d : Nat) : (h.wrap a lo n d).recd = h.recd := rfl
@[simp] theorem Half.wrap_out (h : Half) (a lo n d : Nat) : (h.wrap a lo n d).out = h.out := rfl
@[simp] theorem Half.wrap_gust (h : Half) (a lo n d : Nat) : (h.wrap a lo n d).gust = h.gust := rfl
@[simp] theorem Half.wrap_hlt (h : Half) (a lo n d : Nat) : (h.wrap a lo n d).hlt = h.hlt := rfl

/-! `Half.onSent` changes the field sent only. -/

@[simp] theorem Half.onSent_id (h : Half) (f : Sentinel → Sentinel) : (h.onSent f).id = h.id := rfl
@[simp] theorem Half.onSent_regs (h : Half) (f : Sentinel → Sentinel) : (h.onSent f).regs = h.regs := rfl
@[simp] theorem Half.onSent_held (h : Half) (f : Sentinel → Sentinel) : (h.onSent f).held = h.held := rfl
@[simp] theorem Half.onSent_fv (h : Half) (f : Sentinel → Sentinel) : (h.onSent f).fv = h.fv := rfl
@[simp] theorem Half.onSent_block (h : Half) (f : Sentinel → Sentinel) : (h.onSent f).block = h.block := rfl
@[simp] theorem Half.onSent_phase (h : Half) (f : Sentinel → Sentinel) : (h.onSent f).phase = h.phase := rfl
@[simp] theorem Half.onSent_regions (h : Half) (f : Sentinel → Sentinel) : (h.onSent f).regions = h.regions := rfl
@[simp] theorem Half.onSent_acc (h : Half) (f : Sentinel → Sentinel) : (h.onSent f).acc = h.acc := rfl
@[simp] theorem Half.onSent_queues (h : Half) (f : Sentinel → Sentinel) : (h.onSent f).queues = h.queues := rfl
@[simp] theorem Half.onSent_sent (h : Half) (f : Sentinel → Sentinel) : (h.onSent f).sent = f h.sent := rfl
@[simp] theorem Half.onSent_rdn (h : Half) (f : Sentinel → Sentinel) : (h.onSent f).rdn = h.rdn := rfl
@[simp] theorem Half.onSent_ev (h : Half) (f : Sentinel → Sentinel) : (h.onSent f).ev = h.ev := rfl
@[simp] theorem Half.onSent_boot (h : Half) (f : Sentinel → Sentinel) : (h.onSent f).boot = h.boot := rfl
@[simp] theorem Half.onSent_net (h : Half) (f : Sentinel → Sentinel) : (h.onSent f).net = h.net := rfl
@[simp] theorem Half.onSent_keys (h : Half) (f : Sentinel → Sentinel) : (h.onSent f).keys = h.keys := rfl
@[simp] theorem Half.onSent_macs (h : Half) (f : Sentinel → Sentinel) : (h.onSent f).macs = h.macs := rfl
@[simp] theorem Half.onSent_age (h : Half) (f : Sentinel → Sentinel) : (h.onSent f).age = h.age := rfl
@[simp] theorem Half.onSent_mediaIdx (h : Half) (f : Sentinel → Sentinel) : (h.onSent f).mediaIdx = h.mediaIdx := rfl
@[simp] theorem Half.onSent_inBlk (h : Half) (f : Sentinel → Sentinel) : (h.onSent f).inBlk = h.inBlk := rfl
@[simp] theorem Half.onSent_procIn (h : Half) (f : Sentinel → Sentinel) : (h.onSent f).procIn = h.procIn := rfl
@[simp] theorem Half.onSent_outBlk (h : Half) (f : Sentinel → Sentinel) : (h.onSent f).outBlk = h.outBlk := rfl
@[simp] theorem Half.onSent_txHist (h : Half) (f : Sentinel → Sentinel) : (h.onSent f).txHist = h.txHist := rfl
@[simp] theorem Half.onSent_rxs (h : Half) (f : Sentinel → Sentinel) : (h.onSent f).rxs = h.rxs := rfl
@[simp] theorem Half.onSent_txs (h : Half) (f : Sentinel → Sentinel) : (h.onSent f).txs = h.txs := rfl
@[simp] theorem Half.onSent_flow (h : Half) (f : Sentinel → Sentinel) : (h.onSent f).flow = h.flow := rfl
@[simp] theorem Half.onSent_tim (h : Half) (f : Sentinel → Sentinel) : (h.onSent f).tim = h.tim := rfl
@[simp] theorem Half.onSent_graph (h : Half) (f : Sentinel → Sentinel) : (h.onSent f).graph = h.graph := rfl
@[simp] theorem Half.onSent_alarm (h : Half) (f : Sentinel → Sentinel) : (h.onSent f).alarm = h.alarm := rfl
@[simp] theorem Half.onSent_store (h : Half) (f : Sentinel → Sentinel) : (h.onSent f).store = h.store := rfl
@[simp] theorem Half.onSent_recd (h : Half) (f : Sentinel → Sentinel) : (h.onSent f).recd = h.recd := rfl
@[simp] theorem Half.onSent_out (h : Half) (f : Sentinel → Sentinel) : (h.onSent f).out = h.out := rfl
@[simp] theorem Half.onSent_gust (h : Half) (f : Sentinel → Sentinel) : (h.onSent f).gust = h.gust := rfl
@[simp] theorem Half.onSent_hlt (h : Half) (f : Sentinel → Sentinel) : (h.onSent f).hlt = h.hlt := rfl
@[simp] theorem Half.onSent_rd (h : Half) (f : Sentinel → Sentinel) (a : Nat) : (h.onSent f).rd a = h.rd a := rfl

/-! `Half.onRdn` changes the field rdn only. -/

@[simp] theorem Half.onRdn_id (h : Half) (f : RdnSt → RdnSt) : (h.onRdn f).id = h.id := rfl
@[simp] theorem Half.onRdn_regs (h : Half) (f : RdnSt → RdnSt) : (h.onRdn f).regs = h.regs := rfl
@[simp] theorem Half.onRdn_held (h : Half) (f : RdnSt → RdnSt) : (h.onRdn f).held = h.held := rfl
@[simp] theorem Half.onRdn_fv (h : Half) (f : RdnSt → RdnSt) : (h.onRdn f).fv = h.fv := rfl
@[simp] theorem Half.onRdn_block (h : Half) (f : RdnSt → RdnSt) : (h.onRdn f).block = h.block := rfl
@[simp] theorem Half.onRdn_phase (h : Half) (f : RdnSt → RdnSt) : (h.onRdn f).phase = h.phase := rfl
@[simp] theorem Half.onRdn_regions (h : Half) (f : RdnSt → RdnSt) : (h.onRdn f).regions = h.regions := rfl
@[simp] theorem Half.onRdn_acc (h : Half) (f : RdnSt → RdnSt) : (h.onRdn f).acc = h.acc := rfl
@[simp] theorem Half.onRdn_queues (h : Half) (f : RdnSt → RdnSt) : (h.onRdn f).queues = h.queues := rfl
@[simp] theorem Half.onRdn_sent (h : Half) (f : RdnSt → RdnSt) : (h.onRdn f).sent = h.sent := rfl
@[simp] theorem Half.onRdn_rdn (h : Half) (f : RdnSt → RdnSt) : (h.onRdn f).rdn = f h.rdn := rfl
@[simp] theorem Half.onRdn_ev (h : Half) (f : RdnSt → RdnSt) : (h.onRdn f).ev = h.ev := rfl
@[simp] theorem Half.onRdn_boot (h : Half) (f : RdnSt → RdnSt) : (h.onRdn f).boot = h.boot := rfl
@[simp] theorem Half.onRdn_net (h : Half) (f : RdnSt → RdnSt) : (h.onRdn f).net = h.net := rfl
@[simp] theorem Half.onRdn_keys (h : Half) (f : RdnSt → RdnSt) : (h.onRdn f).keys = h.keys := rfl
@[simp] theorem Half.onRdn_macs (h : Half) (f : RdnSt → RdnSt) : (h.onRdn f).macs = h.macs := rfl
@[simp] theorem Half.onRdn_age (h : Half) (f : RdnSt → RdnSt) : (h.onRdn f).age = h.age := rfl
@[simp] theorem Half.onRdn_mediaIdx (h : Half) (f : RdnSt → RdnSt) : (h.onRdn f).mediaIdx = h.mediaIdx := rfl
@[simp] theorem Half.onRdn_inBlk (h : Half) (f : RdnSt → RdnSt) : (h.onRdn f).inBlk = h.inBlk := rfl
@[simp] theorem Half.onRdn_procIn (h : Half) (f : RdnSt → RdnSt) : (h.onRdn f).procIn = h.procIn := rfl
@[simp] theorem Half.onRdn_outBlk (h : Half) (f : RdnSt → RdnSt) : (h.onRdn f).outBlk = h.outBlk := rfl
@[simp] theorem Half.onRdn_txHist (h : Half) (f : RdnSt → RdnSt) : (h.onRdn f).txHist = h.txHist := rfl
@[simp] theorem Half.onRdn_rxs (h : Half) (f : RdnSt → RdnSt) : (h.onRdn f).rxs = h.rxs := rfl
@[simp] theorem Half.onRdn_txs (h : Half) (f : RdnSt → RdnSt) : (h.onRdn f).txs = h.txs := rfl
@[simp] theorem Half.onRdn_flow (h : Half) (f : RdnSt → RdnSt) : (h.onRdn f).flow = h.flow := rfl
@[simp] theorem Half.onRdn_tim (h : Half) (f : RdnSt → RdnSt) : (h.onRdn f).tim = h.tim := rfl
@[simp] theorem Half.onRdn_graph (h : Half) (f : RdnSt → RdnSt) : (h.onRdn f).graph = h.graph := rfl
@[simp] theorem Half.onRdn_alarm (h : Half) (f : RdnSt → RdnSt) : (h.onRdn f).alarm = h.alarm := rfl
@[simp] theorem Half.onRdn_store (h : Half) (f : RdnSt → RdnSt) : (h.onRdn f).store = h.store := rfl
@[simp] theorem Half.onRdn_recd (h : Half) (f : RdnSt → RdnSt) : (h.onRdn f).recd = h.recd := rfl
@[simp] theorem Half.onRdn_out (h : Half) (f : RdnSt → RdnSt) : (h.onRdn f).out = h.out := rfl
@[simp] theorem Half.onRdn_gust (h : Half) (f : RdnSt → RdnSt) : (h.onRdn f).gust = h.gust := rfl
@[simp] theorem Half.onRdn_hlt (h : Half) (f : RdnSt → RdnSt) : (h.onRdn f).hlt = h.hlt := rfl
@[simp] theorem Half.onRdn_rd (h : Half) (f : RdnSt → RdnSt) (a : Nat) : (h.onRdn f).rd a = h.rd a := rfl

/-! `Half.onGraph` changes the field graph only. -/

@[simp] theorem Half.onGraph_id (h : Half) (f : GraphSt → GraphSt) : (h.onGraph f).id = h.id := rfl
@[simp] theorem Half.onGraph_regs (h : Half) (f : GraphSt → GraphSt) : (h.onGraph f).regs = h.regs := rfl
@[simp] theorem Half.onGraph_held (h : Half) (f : GraphSt → GraphSt) : (h.onGraph f).held = h.held := rfl
@[simp] theorem Half.onGraph_fv (h : Half) (f : GraphSt → GraphSt) : (h.onGraph f).fv = h.fv := rfl
@[simp] theorem Half.onGraph_block (h : Half) (f : GraphSt → GraphSt) : (h.onGraph f).block = h.block := rfl
@[simp] theorem Half.onGraph_phase (h : Half) (f : GraphSt → GraphSt) : (h.onGraph f).phase = h.phase := rfl
@[simp] theorem Half.onGraph_regions (h : Half) (f : GraphSt → GraphSt) : (h.onGraph f).regions = h.regions := rfl
@[simp] theorem Half.onGraph_acc (h : Half) (f : GraphSt → GraphSt) : (h.onGraph f).acc = h.acc := rfl
@[simp] theorem Half.onGraph_queues (h : Half) (f : GraphSt → GraphSt) : (h.onGraph f).queues = h.queues := rfl
@[simp] theorem Half.onGraph_sent (h : Half) (f : GraphSt → GraphSt) : (h.onGraph f).sent = h.sent := rfl
@[simp] theorem Half.onGraph_rdn (h : Half) (f : GraphSt → GraphSt) : (h.onGraph f).rdn = h.rdn := rfl
@[simp] theorem Half.onGraph_ev (h : Half) (f : GraphSt → GraphSt) : (h.onGraph f).ev = h.ev := rfl
@[simp] theorem Half.onGraph_boot (h : Half) (f : GraphSt → GraphSt) : (h.onGraph f).boot = h.boot := rfl
@[simp] theorem Half.onGraph_net (h : Half) (f : GraphSt → GraphSt) : (h.onGraph f).net = h.net := rfl
@[simp] theorem Half.onGraph_keys (h : Half) (f : GraphSt → GraphSt) : (h.onGraph f).keys = h.keys := rfl
@[simp] theorem Half.onGraph_macs (h : Half) (f : GraphSt → GraphSt) : (h.onGraph f).macs = h.macs := rfl
@[simp] theorem Half.onGraph_age (h : Half) (f : GraphSt → GraphSt) : (h.onGraph f).age = h.age := rfl
@[simp] theorem Half.onGraph_mediaIdx (h : Half) (f : GraphSt → GraphSt) : (h.onGraph f).mediaIdx = h.mediaIdx := rfl
@[simp] theorem Half.onGraph_inBlk (h : Half) (f : GraphSt → GraphSt) : (h.onGraph f).inBlk = h.inBlk := rfl
@[simp] theorem Half.onGraph_procIn (h : Half) (f : GraphSt → GraphSt) : (h.onGraph f).procIn = h.procIn := rfl
@[simp] theorem Half.onGraph_outBlk (h : Half) (f : GraphSt → GraphSt) : (h.onGraph f).outBlk = h.outBlk := rfl
@[simp] theorem Half.onGraph_txHist (h : Half) (f : GraphSt → GraphSt) : (h.onGraph f).txHist = h.txHist := rfl
@[simp] theorem Half.onGraph_rxs (h : Half) (f : GraphSt → GraphSt) : (h.onGraph f).rxs = h.rxs := rfl
@[simp] theorem Half.onGraph_txs (h : Half) (f : GraphSt → GraphSt) : (h.onGraph f).txs = h.txs := rfl
@[simp] theorem Half.onGraph_flow (h : Half) (f : GraphSt → GraphSt) : (h.onGraph f).flow = h.flow := rfl
@[simp] theorem Half.onGraph_tim (h : Half) (f : GraphSt → GraphSt) : (h.onGraph f).tim = h.tim := rfl
@[simp] theorem Half.onGraph_graph (h : Half) (f : GraphSt → GraphSt) : (h.onGraph f).graph = f h.graph := rfl
@[simp] theorem Half.onGraph_alarm (h : Half) (f : GraphSt → GraphSt) : (h.onGraph f).alarm = h.alarm := rfl
@[simp] theorem Half.onGraph_store (h : Half) (f : GraphSt → GraphSt) : (h.onGraph f).store = h.store := rfl
@[simp] theorem Half.onGraph_recd (h : Half) (f : GraphSt → GraphSt) : (h.onGraph f).recd = h.recd := rfl
@[simp] theorem Half.onGraph_out (h : Half) (f : GraphSt → GraphSt) : (h.onGraph f).out = h.out := rfl
@[simp] theorem Half.onGraph_gust (h : Half) (f : GraphSt → GraphSt) : (h.onGraph f).gust = h.gust := rfl
@[simp] theorem Half.onGraph_hlt (h : Half) (f : GraphSt → GraphSt) : (h.onGraph f).hlt = h.hlt := rfl
@[simp] theorem Half.onGraph_rd (h : Half) (f : GraphSt → GraphSt) (a : Nat) : (h.onGraph f).rd a = h.rd a := rfl

/-! `Half.onAlarm` changes the field alarm only. -/

@[simp] theorem Half.onAlarm_id (h : Half) (f : AlarmSt → AlarmSt) : (h.onAlarm f).id = h.id := rfl
@[simp] theorem Half.onAlarm_regs (h : Half) (f : AlarmSt → AlarmSt) : (h.onAlarm f).regs = h.regs := rfl
@[simp] theorem Half.onAlarm_held (h : Half) (f : AlarmSt → AlarmSt) : (h.onAlarm f).held = h.held := rfl
@[simp] theorem Half.onAlarm_fv (h : Half) (f : AlarmSt → AlarmSt) : (h.onAlarm f).fv = h.fv := rfl
@[simp] theorem Half.onAlarm_block (h : Half) (f : AlarmSt → AlarmSt) : (h.onAlarm f).block = h.block := rfl
@[simp] theorem Half.onAlarm_phase (h : Half) (f : AlarmSt → AlarmSt) : (h.onAlarm f).phase = h.phase := rfl
@[simp] theorem Half.onAlarm_regions (h : Half) (f : AlarmSt → AlarmSt) : (h.onAlarm f).regions = h.regions := rfl
@[simp] theorem Half.onAlarm_acc (h : Half) (f : AlarmSt → AlarmSt) : (h.onAlarm f).acc = h.acc := rfl
@[simp] theorem Half.onAlarm_queues (h : Half) (f : AlarmSt → AlarmSt) : (h.onAlarm f).queues = h.queues := rfl
@[simp] theorem Half.onAlarm_sent (h : Half) (f : AlarmSt → AlarmSt) : (h.onAlarm f).sent = h.sent := rfl
@[simp] theorem Half.onAlarm_rdn (h : Half) (f : AlarmSt → AlarmSt) : (h.onAlarm f).rdn = h.rdn := rfl
@[simp] theorem Half.onAlarm_ev (h : Half) (f : AlarmSt → AlarmSt) : (h.onAlarm f).ev = h.ev := rfl
@[simp] theorem Half.onAlarm_boot (h : Half) (f : AlarmSt → AlarmSt) : (h.onAlarm f).boot = h.boot := rfl
@[simp] theorem Half.onAlarm_net (h : Half) (f : AlarmSt → AlarmSt) : (h.onAlarm f).net = h.net := rfl
@[simp] theorem Half.onAlarm_keys (h : Half) (f : AlarmSt → AlarmSt) : (h.onAlarm f).keys = h.keys := rfl
@[simp] theorem Half.onAlarm_macs (h : Half) (f : AlarmSt → AlarmSt) : (h.onAlarm f).macs = h.macs := rfl
@[simp] theorem Half.onAlarm_age (h : Half) (f : AlarmSt → AlarmSt) : (h.onAlarm f).age = h.age := rfl
@[simp] theorem Half.onAlarm_mediaIdx (h : Half) (f : AlarmSt → AlarmSt) : (h.onAlarm f).mediaIdx = h.mediaIdx := rfl
@[simp] theorem Half.onAlarm_inBlk (h : Half) (f : AlarmSt → AlarmSt) : (h.onAlarm f).inBlk = h.inBlk := rfl
@[simp] theorem Half.onAlarm_procIn (h : Half) (f : AlarmSt → AlarmSt) : (h.onAlarm f).procIn = h.procIn := rfl
@[simp] theorem Half.onAlarm_outBlk (h : Half) (f : AlarmSt → AlarmSt) : (h.onAlarm f).outBlk = h.outBlk := rfl
@[simp] theorem Half.onAlarm_txHist (h : Half) (f : AlarmSt → AlarmSt) : (h.onAlarm f).txHist = h.txHist := rfl
@[simp] theorem Half.onAlarm_rxs (h : Half) (f : AlarmSt → AlarmSt) : (h.onAlarm f).rxs = h.rxs := rfl
@[simp] theorem Half.onAlarm_txs (h : Half) (f : AlarmSt → AlarmSt) : (h.onAlarm f).txs = h.txs := rfl
@[simp] theorem Half.onAlarm_flow (h : Half) (f : AlarmSt → AlarmSt) : (h.onAlarm f).flow = h.flow := rfl
@[simp] theorem Half.onAlarm_tim (h : Half) (f : AlarmSt → AlarmSt) : (h.onAlarm f).tim = h.tim := rfl
@[simp] theorem Half.onAlarm_graph (h : Half) (f : AlarmSt → AlarmSt) : (h.onAlarm f).graph = h.graph := rfl
@[simp] theorem Half.onAlarm_alarm (h : Half) (f : AlarmSt → AlarmSt) : (h.onAlarm f).alarm = f h.alarm := rfl
@[simp] theorem Half.onAlarm_store (h : Half) (f : AlarmSt → AlarmSt) : (h.onAlarm f).store = h.store := rfl
@[simp] theorem Half.onAlarm_recd (h : Half) (f : AlarmSt → AlarmSt) : (h.onAlarm f).recd = h.recd := rfl
@[simp] theorem Half.onAlarm_out (h : Half) (f : AlarmSt → AlarmSt) : (h.onAlarm f).out = h.out := rfl
@[simp] theorem Half.onAlarm_gust (h : Half) (f : AlarmSt → AlarmSt) : (h.onAlarm f).gust = h.gust := rfl
@[simp] theorem Half.onAlarm_hlt (h : Half) (f : AlarmSt → AlarmSt) : (h.onAlarm f).hlt = h.hlt := rfl
@[simp] theorem Half.onAlarm_rd (h : Half) (f : AlarmSt → AlarmSt) (a : Nat) : (h.onAlarm f).rd a = h.rd a := rfl

/-! `Half.onStore` changes the field store only. -/

@[simp] theorem Half.onStore_id (h : Half) (f : StoreSt → StoreSt) : (h.onStore f).id = h.id := rfl
@[simp] theorem Half.onStore_regs (h : Half) (f : StoreSt → StoreSt) : (h.onStore f).regs = h.regs := rfl
@[simp] theorem Half.onStore_held (h : Half) (f : StoreSt → StoreSt) : (h.onStore f).held = h.held := rfl
@[simp] theorem Half.onStore_fv (h : Half) (f : StoreSt → StoreSt) : (h.onStore f).fv = h.fv := rfl
@[simp] theorem Half.onStore_block (h : Half) (f : StoreSt → StoreSt) : (h.onStore f).block = h.block := rfl
@[simp] theorem Half.onStore_phase (h : Half) (f : StoreSt → StoreSt) : (h.onStore f).phase = h.phase := rfl
@[simp] theorem Half.onStore_regions (h : Half) (f : StoreSt → StoreSt) : (h.onStore f).regions = h.regions := rfl
@[simp] theorem Half.onStore_acc (h : Half) (f : StoreSt → StoreSt) : (h.onStore f).acc = h.acc := rfl
@[simp] theorem Half.onStore_queues (h : Half) (f : StoreSt → StoreSt) : (h.onStore f).queues = h.queues := rfl
@[simp] theorem Half.onStore_sent (h : Half) (f : StoreSt → StoreSt) : (h.onStore f).sent = h.sent := rfl
@[simp] theorem Half.onStore_rdn (h : Half) (f : StoreSt → StoreSt) : (h.onStore f).rdn = h.rdn := rfl
@[simp] theorem Half.onStore_ev (h : Half) (f : StoreSt → StoreSt) : (h.onStore f).ev = h.ev := rfl
@[simp] theorem Half.onStore_boot (h : Half) (f : StoreSt → StoreSt) : (h.onStore f).boot = h.boot := rfl
@[simp] theorem Half.onStore_net (h : Half) (f : StoreSt → StoreSt) : (h.onStore f).net = h.net := rfl
@[simp] theorem Half.onStore_keys (h : Half) (f : StoreSt → StoreSt) : (h.onStore f).keys = h.keys := rfl
@[simp] theorem Half.onStore_macs (h : Half) (f : StoreSt → StoreSt) : (h.onStore f).macs = h.macs := rfl
@[simp] theorem Half.onStore_age (h : Half) (f : StoreSt → StoreSt) : (h.onStore f).age = h.age := rfl
@[simp] theorem Half.onStore_mediaIdx (h : Half) (f : StoreSt → StoreSt) : (h.onStore f).mediaIdx = h.mediaIdx := rfl
@[simp] theorem Half.onStore_inBlk (h : Half) (f : StoreSt → StoreSt) : (h.onStore f).inBlk = h.inBlk := rfl
@[simp] theorem Half.onStore_procIn (h : Half) (f : StoreSt → StoreSt) : (h.onStore f).procIn = h.procIn := rfl
@[simp] theorem Half.onStore_outBlk (h : Half) (f : StoreSt → StoreSt) : (h.onStore f).outBlk = h.outBlk := rfl
@[simp] theorem Half.onStore_txHist (h : Half) (f : StoreSt → StoreSt) : (h.onStore f).txHist = h.txHist := rfl
@[simp] theorem Half.onStore_rxs (h : Half) (f : StoreSt → StoreSt) : (h.onStore f).rxs = h.rxs := rfl
@[simp] theorem Half.onStore_txs (h : Half) (f : StoreSt → StoreSt) : (h.onStore f).txs = h.txs := rfl
@[simp] theorem Half.onStore_flow (h : Half) (f : StoreSt → StoreSt) : (h.onStore f).flow = h.flow := rfl
@[simp] theorem Half.onStore_tim (h : Half) (f : StoreSt → StoreSt) : (h.onStore f).tim = h.tim := rfl
@[simp] theorem Half.onStore_graph (h : Half) (f : StoreSt → StoreSt) : (h.onStore f).graph = h.graph := rfl
@[simp] theorem Half.onStore_alarm (h : Half) (f : StoreSt → StoreSt) : (h.onStore f).alarm = h.alarm := rfl
@[simp] theorem Half.onStore_store (h : Half) (f : StoreSt → StoreSt) : (h.onStore f).store = f h.store := rfl
@[simp] theorem Half.onStore_recd (h : Half) (f : StoreSt → StoreSt) : (h.onStore f).recd = h.recd := rfl
@[simp] theorem Half.onStore_out (h : Half) (f : StoreSt → StoreSt) : (h.onStore f).out = h.out := rfl
@[simp] theorem Half.onStore_gust (h : Half) (f : StoreSt → StoreSt) : (h.onStore f).gust = h.gust := rfl
@[simp] theorem Half.onStore_hlt (h : Half) (f : StoreSt → StoreSt) : (h.onStore f).hlt = h.hlt := rfl
@[simp] theorem Half.onStore_rd (h : Half) (f : StoreSt → StoreSt) (a : Nat) : (h.onStore f).rd a = h.rd a := rfl

/-! `Half.onRec` changes the field recd only. -/

@[simp] theorem Half.onRec_id (h : Half) (f : RecSt → RecSt) : (h.onRec f).id = h.id := rfl
@[simp] theorem Half.onRec_regs (h : Half) (f : RecSt → RecSt) : (h.onRec f).regs = h.regs := rfl
@[simp] theorem Half.onRec_held (h : Half) (f : RecSt → RecSt) : (h.onRec f).held = h.held := rfl
@[simp] theorem Half.onRec_fv (h : Half) (f : RecSt → RecSt) : (h.onRec f).fv = h.fv := rfl
@[simp] theorem Half.onRec_block (h : Half) (f : RecSt → RecSt) : (h.onRec f).block = h.block := rfl
@[simp] theorem Half.onRec_phase (h : Half) (f : RecSt → RecSt) : (h.onRec f).phase = h.phase := rfl
@[simp] theorem Half.onRec_regions (h : Half) (f : RecSt → RecSt) : (h.onRec f).regions = h.regions := rfl
@[simp] theorem Half.onRec_acc (h : Half) (f : RecSt → RecSt) : (h.onRec f).acc = h.acc := rfl
@[simp] theorem Half.onRec_queues (h : Half) (f : RecSt → RecSt) : (h.onRec f).queues = h.queues := rfl
@[simp] theorem Half.onRec_sent (h : Half) (f : RecSt → RecSt) : (h.onRec f).sent = h.sent := rfl
@[simp] theorem Half.onRec_rdn (h : Half) (f : RecSt → RecSt) : (h.onRec f).rdn = h.rdn := rfl
@[simp] theorem Half.onRec_ev (h : Half) (f : RecSt → RecSt) : (h.onRec f).ev = h.ev := rfl
@[simp] theorem Half.onRec_boot (h : Half) (f : RecSt → RecSt) : (h.onRec f).boot = h.boot := rfl
@[simp] theorem Half.onRec_net (h : Half) (f : RecSt → RecSt) : (h.onRec f).net = h.net := rfl
@[simp] theorem Half.onRec_keys (h : Half) (f : RecSt → RecSt) : (h.onRec f).keys = h.keys := rfl
@[simp] theorem Half.onRec_macs (h : Half) (f : RecSt → RecSt) : (h.onRec f).macs = h.macs := rfl
@[simp] theorem Half.onRec_age (h : Half) (f : RecSt → RecSt) : (h.onRec f).age = h.age := rfl
@[simp] theorem Half.onRec_mediaIdx (h : Half) (f : RecSt → RecSt) : (h.onRec f).mediaIdx = h.mediaIdx := rfl
@[simp] theorem Half.onRec_inBlk (h : Half) (f : RecSt → RecSt) : (h.onRec f).inBlk = h.inBlk := rfl
@[simp] theorem Half.onRec_procIn (h : Half) (f : RecSt → RecSt) : (h.onRec f).procIn = h.procIn := rfl
@[simp] theorem Half.onRec_outBlk (h : Half) (f : RecSt → RecSt) : (h.onRec f).outBlk = h.outBlk := rfl
@[simp] theorem Half.onRec_txHist (h : Half) (f : RecSt → RecSt) : (h.onRec f).txHist = h.txHist := rfl
@[simp] theorem Half.onRec_rxs (h : Half) (f : RecSt → RecSt) : (h.onRec f).rxs = h.rxs := rfl
@[simp] theorem Half.onRec_txs (h : Half) (f : RecSt → RecSt) : (h.onRec f).txs = h.txs := rfl
@[simp] theorem Half.onRec_flow (h : Half) (f : RecSt → RecSt) : (h.onRec f).flow = h.flow := rfl
@[simp] theorem Half.onRec_tim (h : Half) (f : RecSt → RecSt) : (h.onRec f).tim = h.tim := rfl
@[simp] theorem Half.onRec_graph (h : Half) (f : RecSt → RecSt) : (h.onRec f).graph = h.graph := rfl
@[simp] theorem Half.onRec_alarm (h : Half) (f : RecSt → RecSt) : (h.onRec f).alarm = h.alarm := rfl
@[simp] theorem Half.onRec_store (h : Half) (f : RecSt → RecSt) : (h.onRec f).store = h.store := rfl
@[simp] theorem Half.onRec_recd (h : Half) (f : RecSt → RecSt) : (h.onRec f).recd = f h.recd := rfl
@[simp] theorem Half.onRec_out (h : Half) (f : RecSt → RecSt) : (h.onRec f).out = h.out := rfl
@[simp] theorem Half.onRec_gust (h : Half) (f : RecSt → RecSt) : (h.onRec f).gust = h.gust := rfl
@[simp] theorem Half.onRec_hlt (h : Half) (f : RecSt → RecSt) : (h.onRec f).hlt = h.hlt := rfl
@[simp] theorem Half.onRec_rd (h : Half) (f : RecSt → RecSt) (a : Nat) : (h.onRec f).rd a = h.rd a := rfl

/-! `Half.onOut` changes the field out only. -/

@[simp] theorem Half.onOut_id (h : Half) (f : OutSt → OutSt) : (h.onOut f).id = h.id := rfl
@[simp] theorem Half.onOut_regs (h : Half) (f : OutSt → OutSt) : (h.onOut f).regs = h.regs := rfl
@[simp] theorem Half.onOut_held (h : Half) (f : OutSt → OutSt) : (h.onOut f).held = h.held := rfl
@[simp] theorem Half.onOut_fv (h : Half) (f : OutSt → OutSt) : (h.onOut f).fv = h.fv := rfl
@[simp] theorem Half.onOut_block (h : Half) (f : OutSt → OutSt) : (h.onOut f).block = h.block := rfl
@[simp] theorem Half.onOut_phase (h : Half) (f : OutSt → OutSt) : (h.onOut f).phase = h.phase := rfl
@[simp] theorem Half.onOut_regions (h : Half) (f : OutSt → OutSt) : (h.onOut f).regions = h.regions := rfl
@[simp] theorem Half.onOut_acc (h : Half) (f : OutSt → OutSt) : (h.onOut f).acc = h.acc := rfl
@[simp] theorem Half.onOut_queues (h : Half) (f : OutSt → OutSt) : (h.onOut f).queues = h.queues := rfl
@[simp] theorem Half.onOut_sent (h : Half) (f : OutSt → OutSt) : (h.onOut f).sent = h.sent := rfl
@[simp] theorem Half.onOut_rdn (h : Half) (f : OutSt → OutSt) : (h.onOut f).rdn = h.rdn := rfl
@[simp] theorem Half.onOut_ev (h : Half) (f : OutSt → OutSt) : (h.onOut f).ev = h.ev := rfl
@[simp] theorem Half.onOut_boot (h : Half) (f : OutSt → OutSt) : (h.onOut f).boot = h.boot := rfl
@[simp] theorem Half.onOut_net (h : Half) (f : OutSt → OutSt) : (h.onOut f).net = h.net := rfl
@[simp] theorem Half.onOut_keys (h : Half) (f : OutSt → OutSt) : (h.onOut f).keys = h.keys := rfl
@[simp] theorem Half.onOut_macs (h : Half) (f : OutSt → OutSt) : (h.onOut f).macs = h.macs := rfl
@[simp] theorem Half.onOut_age (h : Half) (f : OutSt → OutSt) : (h.onOut f).age = h.age := rfl
@[simp] theorem Half.onOut_mediaIdx (h : Half) (f : OutSt → OutSt) : (h.onOut f).mediaIdx = h.mediaIdx := rfl
@[simp] theorem Half.onOut_inBlk (h : Half) (f : OutSt → OutSt) : (h.onOut f).inBlk = h.inBlk := rfl
@[simp] theorem Half.onOut_procIn (h : Half) (f : OutSt → OutSt) : (h.onOut f).procIn = h.procIn := rfl
@[simp] theorem Half.onOut_outBlk (h : Half) (f : OutSt → OutSt) : (h.onOut f).outBlk = h.outBlk := rfl
@[simp] theorem Half.onOut_txHist (h : Half) (f : OutSt → OutSt) : (h.onOut f).txHist = h.txHist := rfl
@[simp] theorem Half.onOut_rxs (h : Half) (f : OutSt → OutSt) : (h.onOut f).rxs = h.rxs := rfl
@[simp] theorem Half.onOut_txs (h : Half) (f : OutSt → OutSt) : (h.onOut f).txs = h.txs := rfl
@[simp] theorem Half.onOut_flow (h : Half) (f : OutSt → OutSt) : (h.onOut f).flow = h.flow := rfl
@[simp] theorem Half.onOut_tim (h : Half) (f : OutSt → OutSt) : (h.onOut f).tim = h.tim := rfl
@[simp] theorem Half.onOut_graph (h : Half) (f : OutSt → OutSt) : (h.onOut f).graph = h.graph := rfl
@[simp] theorem Half.onOut_alarm (h : Half) (f : OutSt → OutSt) : (h.onOut f).alarm = h.alarm := rfl
@[simp] theorem Half.onOut_store (h : Half) (f : OutSt → OutSt) : (h.onOut f).store = h.store := rfl
@[simp] theorem Half.onOut_recd (h : Half) (f : OutSt → OutSt) : (h.onOut f).recd = h.recd := rfl
@[simp] theorem Half.onOut_out (h : Half) (f : OutSt → OutSt) : (h.onOut f).out = f h.out := rfl
@[simp] theorem Half.onOut_gust (h : Half) (f : OutSt → OutSt) : (h.onOut f).gust = h.gust := rfl
@[simp] theorem Half.onOut_hlt (h : Half) (f : OutSt → OutSt) : (h.onOut f).hlt = h.hlt := rfl
@[simp] theorem Half.onOut_rd (h : Half) (f : OutSt → OutSt) (a : Nat) : (h.onOut f).rd a = h.rd a := rfl

/-! `Half.onTim` changes the field tim only. -/

@[simp] theorem Half.onTim_id (h : Half) (f : TimSt → TimSt) : (h.onTim f).id = h.id := rfl
@[simp] theorem Half.onTim_regs (h : Half) (f : TimSt → TimSt) : (h.onTim f).regs = h.regs := rfl
@[simp] theorem Half.onTim_held (h : Half) (f : TimSt → TimSt) : (h.onTim f).held = h.held := rfl
@[simp] theorem Half.onTim_fv (h : Half) (f : TimSt → TimSt) : (h.onTim f).fv = h.fv := rfl
@[simp] theorem Half.onTim_block (h : Half) (f : TimSt → TimSt) : (h.onTim f).block = h.block := rfl
@[simp] theorem Half.onTim_phase (h : Half) (f : TimSt → TimSt) : (h.onTim f).phase = h.phase := rfl
@[simp] theorem Half.onTim_regions (h : Half) (f : TimSt → TimSt) : (h.onTim f).regions = h.regions := rfl
@[simp] theorem Half.onTim_acc (h : Half) (f : TimSt → TimSt) : (h.onTim f).acc = h.acc := rfl
@[simp] theorem Half.onTim_queues (h : Half) (f : TimSt → TimSt) : (h.onTim f).queues = h.queues := rfl
@[simp] theorem Half.onTim_sent (h : Half) (f : TimSt → TimSt) : (h.onTim f).sent = h.sent := rfl
@[simp] theorem Half.onTim_rdn (h : Half) (f : TimSt → TimSt) : (h.onTim f).rdn = h.rdn := rfl
@[simp] theorem Half.onTim_ev (h : Half) (f : TimSt → TimSt) : (h.onTim f).ev = h.ev := rfl
@[simp] theorem Half.onTim_boot (h : Half) (f : TimSt → TimSt) : (h.onTim f).boot = h.boot := rfl
@[simp] theorem Half.onTim_net (h : Half) (f : TimSt → TimSt) : (h.onTim f).net = h.net := rfl
@[simp] theorem Half.onTim_keys (h : Half) (f : TimSt → TimSt) : (h.onTim f).keys = h.keys := rfl
@[simp] theorem Half.onTim_macs (h : Half) (f : TimSt → TimSt) : (h.onTim f).macs = h.macs := rfl
@[simp] theorem Half.onTim_age (h : Half) (f : TimSt → TimSt) : (h.onTim f).age = h.age := rfl
@[simp] theorem Half.onTim_mediaIdx (h : Half) (f : TimSt → TimSt) : (h.onTim f).mediaIdx = h.mediaIdx := rfl
@[simp] theorem Half.onTim_inBlk (h : Half) (f : TimSt → TimSt) : (h.onTim f).inBlk = h.inBlk := rfl
@[simp] theorem Half.onTim_procIn (h : Half) (f : TimSt → TimSt) : (h.onTim f).procIn = h.procIn := rfl
@[simp] theorem Half.onTim_outBlk (h : Half) (f : TimSt → TimSt) : (h.onTim f).outBlk = h.outBlk := rfl
@[simp] theorem Half.onTim_txHist (h : Half) (f : TimSt → TimSt) : (h.onTim f).txHist = h.txHist := rfl
@[simp] theorem Half.onTim_rxs (h : Half) (f : TimSt → TimSt) : (h.onTim f).rxs = h.rxs := rfl
@[simp] theorem Half.onTim_txs (h : Half) (f : TimSt → TimSt) : (h.onTim f).txs = h.txs := rfl
@[simp] theorem Half.onTim_flow (h : Half) (f : TimSt → TimSt) : (h.onTim f).flow = h.flow := rfl
@[simp] theorem Half.onTim_tim (h : Half) (f : TimSt → TimSt) : (h.onTim f).tim = f h.tim := rfl
@[simp] theorem Half.onTim_graph (h : Half) (f : TimSt → TimSt) : (h.onTim f).graph = h.graph := rfl
@[simp] theorem Half.onTim_alarm (h : Half) (f : TimSt → TimSt) : (h.onTim f).alarm = h.alarm := rfl
@[simp] theorem Half.onTim_store (h : Half) (f : TimSt → TimSt) : (h.onTim f).store = h.store := rfl
@[simp] theorem Half.onTim_recd (h : Half) (f : TimSt → TimSt) : (h.onTim f).recd = h.recd := rfl
@[simp] theorem Half.onTim_out (h : Half) (f : TimSt → TimSt) : (h.onTim f).out = h.out := rfl
@[simp] theorem Half.onTim_gust (h : Half) (f : TimSt → TimSt) : (h.onTim f).gust = h.gust := rfl
@[simp] theorem Half.onTim_hlt (h : Half) (f : TimSt → TimSt) : (h.onTim f).hlt = h.hlt := rfl
@[simp] theorem Half.onTim_rd (h : Half) (f : TimSt → TimSt) (a : Nat) : (h.onTim f).rd a = h.rd a := rfl

/-! `Half.onGust` changes the field gust only. -/

@[simp] theorem Half.onGust_id (h : Half) (f : GustSt → GustSt) : (h.onGust f).id = h.id := rfl
@[simp] theorem Half.onGust_regs (h : Half) (f : GustSt → GustSt) : (h.onGust f).regs = h.regs := rfl
@[simp] theorem Half.onGust_held (h : Half) (f : GustSt → GustSt) : (h.onGust f).held = h.held := rfl
@[simp] theorem Half.onGust_fv (h : Half) (f : GustSt → GustSt) : (h.onGust f).fv = h.fv := rfl
@[simp] theorem Half.onGust_block (h : Half) (f : GustSt → GustSt) : (h.onGust f).block = h.block := rfl
@[simp] theorem Half.onGust_phase (h : Half) (f : GustSt → GustSt) : (h.onGust f).phase = h.phase := rfl
@[simp] theorem Half.onGust_regions (h : Half) (f : GustSt → GustSt) : (h.onGust f).regions = h.regions := rfl
@[simp] theorem Half.onGust_acc (h : Half) (f : GustSt → GustSt) : (h.onGust f).acc = h.acc := rfl
@[simp] theorem Half.onGust_queues (h : Half) (f : GustSt → GustSt) : (h.onGust f).queues = h.queues := rfl
@[simp] theorem Half.onGust_sent (h : Half) (f : GustSt → GustSt) : (h.onGust f).sent = h.sent := rfl
@[simp] theorem Half.onGust_rdn (h : Half) (f : GustSt → GustSt) : (h.onGust f).rdn = h.rdn := rfl
@[simp] theorem Half.onGust_ev (h : Half) (f : GustSt → GustSt) : (h.onGust f).ev = h.ev := rfl
@[simp] theorem Half.onGust_boot (h : Half) (f : GustSt → GustSt) : (h.onGust f).boot = h.boot := rfl
@[simp] theorem Half.onGust_net (h : Half) (f : GustSt → GustSt) : (h.onGust f).net = h.net := rfl
@[simp] theorem Half.onGust_keys (h : Half) (f : GustSt → GustSt) : (h.onGust f).keys = h.keys := rfl
@[simp] theorem Half.onGust_macs (h : Half) (f : GustSt → GustSt) : (h.onGust f).macs = h.macs := rfl
@[simp] theorem Half.onGust_age (h : Half) (f : GustSt → GustSt) : (h.onGust f).age = h.age := rfl
@[simp] theorem Half.onGust_mediaIdx (h : Half) (f : GustSt → GustSt) : (h.onGust f).mediaIdx = h.mediaIdx := rfl
@[simp] theorem Half.onGust_inBlk (h : Half) (f : GustSt → GustSt) : (h.onGust f).inBlk = h.inBlk := rfl
@[simp] theorem Half.onGust_procIn (h : Half) (f : GustSt → GustSt) : (h.onGust f).procIn = h.procIn := rfl
@[simp] theorem Half.onGust_outBlk (h : Half) (f : GustSt → GustSt) : (h.onGust f).outBlk = h.outBlk := rfl
@[simp] theorem Half.onGust_txHist (h : Half) (f : GustSt → GustSt) : (h.onGust f).txHist = h.txHist := rfl
@[simp] theorem Half.onGust_rxs (h : Half) (f : GustSt → GustSt) : (h.onGust f).rxs = h.rxs := rfl
@[simp] theorem Half.onGust_txs (h : Half) (f : GustSt → GustSt) : (h.onGust f).txs = h.txs := rfl
@[simp] theorem Half.onGust_flow (h : Half) (f : GustSt → GustSt) : (h.onGust f).flow = h.flow := rfl
@[simp] theorem Half.onGust_tim (h : Half) (f : GustSt → GustSt) : (h.onGust f).tim = h.tim := rfl
@[simp] theorem Half.onGust_graph (h : Half) (f : GustSt → GustSt) : (h.onGust f).graph = h.graph := rfl
@[simp] theorem Half.onGust_alarm (h : Half) (f : GustSt → GustSt) : (h.onGust f).alarm = h.alarm := rfl
@[simp] theorem Half.onGust_store (h : Half) (f : GustSt → GustSt) : (h.onGust f).store = h.store := rfl
@[simp] theorem Half.onGust_recd (h : Half) (f : GustSt → GustSt) : (h.onGust f).recd = h.recd := rfl
@[simp] theorem Half.onGust_out (h : Half) (f : GustSt → GustSt) : (h.onGust f).out = h.out := rfl
@[simp] theorem Half.onGust_gust (h : Half) (f : GustSt → GustSt) : (h.onGust f).gust = f h.gust := rfl
@[simp] theorem Half.onGust_hlt (h : Half) (f : GustSt → GustSt) : (h.onGust f).hlt = h.hlt := rfl
@[simp] theorem Half.onGust_rd (h : Half) (f : GustSt → GustSt) (a : Nat) : (h.onGust f).rd a = h.rd a := rfl

/-! The package. -/

@[simp] theorem State.setHalf_half (s : State) (h : HalfId) (x : Half) : (s.setHalf h x).half h = x := by cases h <;> rfl
@[simp] theorem State.setHalf_other (s : State) (h : HalfId) (x : Half) : (s.setHalf h x).half h.other = s.half h.other := by
  cases h <;> rfl
@[simp] theorem State.setHalf_wiredFault (s : State) (h : HalfId) (x : Half) : (s.setHalf h x).wiredFault = s.wiredFault := by
  cases h <;> rfl
@[simp] theorem State.setHalf_pending (s : State) (h : HalfId) (x : Half) : (s.setHalf h x).pending = s.pending := by
  cases h <;> rfl
@[simp] theorem State.on_half (s : State) (h : HalfId) (f : Half → Half) : (s.on h f).half h = f (s.half h) := by simp [State.on]
@[simp] theorem State.on_other (s : State) (h : HalfId) (f : Half → Half) : (s.on h f).half h.other = s.half h.other := by
  simp [State.on]
@[simp] theorem State.on_wiredFault (s : State) (h : HalfId) (f : Half → Half) : (s.on h f).wiredFault = s.wiredFault := by
  simp [State.on]
@[simp] theorem State.on_pending (s : State) (h : HalfId) (f : Half → Half) : (s.on h f).pending = s.pending := by
  simp [State.on]
@[simp] theorem State.on_on (s : State) (h : HalfId) (f g : Half → Half) : (s.on h f).on h g = s.on h fun x => g (f x) := by
  cases h <;> rfl
@[simp] theorem HalfId.other_other (h : Sys2Proof.HalfId) : h.other.other = h := by cases h <;> rfl
theorem HalfId.other_ne (h : Sys2Proof.HalfId) : h.other ≠ h := by cases h <;> decide

end Sys2Proof.Machine
end

