-- ==== Sys2Proof/Laws/Ops.lean ====
section
/-! SUPPORT. The laws of the named operations: what a register, a field or a bit reads after each of them. -/

namespace Sys2Proof.Machine

/-- A register reads back what was written to it. -/
@[simp] theorem Half.rd_wr_self (h : Half) (a : Nat) (v : Word) : (h.wr a v).rd a = v :=
  lookAt_storeAt_self (resetWord h.id) h.regs a v

/-- A write leaves every other register alone. -/
theorem Half.rd_wr_ne (h : Half) {a b : Nat} (v : Word) (hne : b ≠ a) : (h.wr a v).rd b = h.rd b :=
  lookAt_storeAt_ne (resetWord h.id) h.regs v hne

theorem Half.rd_wr (h : Half) (a b : Nat) (v : Word) : (h.wr a v).rd b = if b = a then v else h.rd b :=
  lookAt_storeAt (resetWord h.id) h.regs a b v

/-- A write keeps the registers in canonical form. -/
theorem Half.wr_canonical (h : Half) (a : Nat) (v : Word) (hc : canonical (resetWord h.id) h.regs = true) :
    canonical (resetWord (h.wr a v).id) (h.wr a v).regs = true :=
  canonical_storeAt (resetWord h.id) a v hc

theorem Half.wrNat_eq (h : Half) (a v : Nat) : h.wrNat a v = h.wr a (BitVec.ofNat 32 v) := rfl
theorem Half.put_eq (h : Half) (a lo n v : Nat) : h.put a lo n v = h.wr a (setBits (h.rd a) lo n v) := rfl
theorem Half.putBit_eq (h : Half) (a b : Nat) (v : Bool) : h.putBit a b v = h.put a b 1 (ofBool v) := rfl
theorem Half.event_eq (h : Half) (a b : Nat) : h.event a b = h.putBit a b true := rfl
theorem Half.count_eq (h : Half) (a lo n d : Nat) : h.count a lo n d = h.put a lo n (satAdd n (h.get a lo n) d) := rfl
theorem Half.wrap_eq (h : Half) (a lo n d : Nat) : h.wrap a lo n d = h.put a lo n (h.get a lo n + d) := rfl

@[simp] theorem Half.rd_wrNat_self (h : Half) (a v : Nat) : (h.wrNat a v).rd a = BitVec.ofNat 32 v := Half.rd_wr_self h a _
theorem Half.rd_wrNat_ne (h : Half) {a b : Nat} (v : Nat) (hne : b ≠ a) : (h.wrNat a v).rd b = h.rd b := Half.rd_wr_ne h _ hne
theorem Half.rd_put_ne (h : Half) {a b : Nat} (lo n v : Nat) (hne : b ≠ a) : (h.put a lo n v).rd b = h.rd b :=
  Half.rd_wr_ne h _ hne
theorem Half.rd_putBit_ne (h : Half) {a b : Nat} (k : Nat) (v : Bool) (hne : b ≠ a) : (h.putBit a k v).rd b = h.rd b :=
  Half.rd_wr_ne h _ hne
theorem Half.rd_event_ne (h : Half) {a b : Nat} (k : Nat) (hne : b ≠ a) : (h.event a k).rd b = h.rd b := Half.rd_wr_ne h _ hne
theorem Half.rd_latch_ne (h : Half) {a b : Nat} (c : Nat) (hne : b ≠ a) : (h.latch a c).rd b = h.rd b := Half.rd_wr_ne h _ hne
theorem Half.rd_count_ne (h : Half) {a b : Nat} (lo n d : Nat) (hne : b ≠ a) : (h.count a lo n d).rd b = h.rd b :=
  Half.rd_wr_ne h _ hne
theorem Half.rd_wrap_ne (h : Half) {a b : Nat} (lo n d : Nat) (hne : b ≠ a) : (h.wrap a lo n d).rd b = h.rd b :=
  Half.rd_wr_ne h _ hne

@[simp] theorem Half.rd_put_self (h : Half) (a lo n v : Nat) : (h.put a lo n v).rd a = setBits (h.rd a) lo n v :=
  Half.rd_wr_self h a _

/-- A field reads back what was put into it. -/
theorem Half.get_put_self (h : Half) (a lo n v : Nat) (hw : lo + n ≤ 32) : (h.put a lo n v).get a lo n = v % 2 ^ n := by
  simp only [Half.get, Half.rd_put_self]; exact getBits_setBits_self _ lo n v hw

/-- A field apart from the one put keeps its value. -/
theorem Half.get_put_field (h : Half) (a lo n v lo' n' : Nat) (hw : lo + n ≤ 32) (hd : lo + n ≤ lo' ∨ lo' + n' ≤ lo) :
    (h.put a lo n v).get a lo' n' = h.get a lo' n' := by
  simp only [Half.get, Half.rd_put_self]; exact getBits_setBits_ne _ lo n v lo' n' hw hd

theorem Half.get_put_ne (h : Half) {a b : Nat} (lo n v lo' n' : Nat) (hne : b ≠ a) :
    (h.put a lo n v).get b lo' n' = h.get b lo' n' := by
  simp only [Half.get, Half.rd_put_ne h lo n v hne]

/-- A bit reads back what was put into it. -/
theorem Half.bit_putBit_self (h : Half) (a b : Nat) (v : Bool) (hb : b < 32) : (h.putBit a b v).bit a b = v := by
  unfold Half.bit Half.putBit
  rw [Half.get_put_self h a b 1 _ (by omega)]
  cases v <;> decide

/-- A bit apart from the one put keeps its value. -/
theorem Half.bit_putBit_bit (h : Half) (a b c : Nat) (v : Bool) (hb : b < 32) (hne : c ≠ b) :
    (h.putBit a b v).bit a c = h.bit a c := by
  unfold Half.bit Half.putBit
  rw [Half.get_put_field h a b 1 _ c 1 (by omega) (by omega)]

theorem Half.bit_putBit_ne (h : Half) {a a' : Nat} (b c : Nat) (v : Bool) (hne : a' ≠ a) :
    (h.putBit a b v).bit a' c = h.bit a' c := by
  simp only [Half.bit, Half.get, Half.rd_putBit_ne h b v hne]

/-- An event bit is 1 once its event has been set. -/
theorem Half.bit_event_self (h : Half) (a b : Nat) (hb : b < 32) : (h.event a b).bit a b = true := Half.bit_putBit_self h a b true hb

theorem Half.bit_event_bit (h : Half) (a b c : Nat) (hb : b < 32) (hne : c ≠ b) : (h.event a b).bit a c = h.bit a c :=
  Half.bit_putBit_bit h a b c true hb hne

theorem Half.bit_event_ne (h : Half) {a a' : Nat} (b c : Nat) (hne : a' ≠ a) : (h.event a b).bit a' c = h.bit a' c :=
  Half.bit_putBit_ne h b c true hne

theorem Half.bit_put_field (h : Half) (a lo n v c : Nat) (hw : lo + n ≤ 32) (hd : lo + n ≤ c ∨ c + 1 ≤ lo) :
    (h.put a lo n v).bit a c = h.bit a c := by
  unfold Half.bit; rw [Half.get_put_field h a lo n v c 1 hw hd]

theorem Half.bit_put_ne (h : Half) {a b : Nat} (lo n v c : Nat) (hne : b ≠ a) : (h.put a lo n v).bit b c = h.bit b c := by
  unfold Half.bit; rw [Half.get_put_ne h lo n v c 1 hne]

/-- The cause code that a fault register holds after a cause is latched, VALID with it (R57). -/
theorem Half.latch_valid (h : Half) (a c : Nat) : (h.latch a c).bit a 31 = true ∧ (h.latch a c).get a 0 16 = c % 0x10000 := by
  unfold Half.bit Half.get Half.latch
  simp only [Half.rd_wrNat_self, getBits, BitVec.toNat_ofNat]
  have hc : c % 0x10000 < 0x10000 := Nat.mod_lt _ (by decide)
  constructor
  · simp only [beq_iff_eq]; split <;> omega
  · split <;> omega

end Sys2Proof.Machine
end

