-- ==== Sys2Proof/Laws/Fabric.lean ====
section
/-! SUPPORT. What a request to a fabric at rest comes to: a write is exactly the action of the register, a paired write exactly the
action of its slot, a read what the word shows; nothing else moves but the requester's last completion. -/

namespace Sys2Proof.Machine

theorem AccessSt.rest.still {x : AccessSt} (h : x.rest) : x.still := ⟨h.2.2.1, h.2.2.2.1.2.2, h.2.2.2.2.2.2.2⟩

theorem State.rest_half {s : State} (h : s.rest) (k : HalfId) : (s.half k).acc.rest := by cases k; exact h.1; exact h.2

theorem State.still_half {s : State} (h : s.still) (k : HalfId) : (s.half k).acc.still := by cases k; exact h.1; exact h.2

theorem State.still_iff (s : State) : s.still ↔ ∀ k, (s.half k).acc.still :=
  ⟨fun h k => State.still_half h k, fun h => ⟨h .a, h .b⟩⟩

theorem State.drainPort_zero (s : State) (h : HalfId) (q : Req) : s.drainPort h q 0 = s := rfl

/-- Where nothing waits at a half, draining it changes nothing. -/
theorem State.drain_still {s : State} (h : HalfId) (hs : (s.half h).acc.still) : s.drain h = s := by
  obtain ⟨h1, h2, h3⟩ := hs
  simp only [State.drain, State.resumeFrame, h1, h2, h3, List.length_nil, State.drainPort]

theorem State.settle_still {s : State} (hs : s.still) : s.settle = s := by
  have ha := State.still_half hs .a
  have hb := State.still_half hs .b
  simp only [State.settle, State.drain_still .a ha, State.drain_still .b hb]

theorem AccessSt.port_setPort (x : AccessSt) (q : Req) (p : Port) : (x.setPort q p).port q = p := by cases q <;> rfl

theorem AccessSt.setPort_port (x : AccessSt) (q : Req) : x.setPort q (x.port q) = x := by cases q <;> rfl

theorem AccessSt.rest_port {x : AccessSt} (h : x.rest) (q : Req) : (x.port q).rest := by
  cases q
  exacts [h.2.2.2.1, h.2.2.2.1, h.2.2.2.2.1, h.2.2.2.2.2]

/-- A completion keeps what waits. -/
theorem Half.complete_still {y : Half} (q : Req) (r : Resp) (h : y.acc.still) : (y.complete q r).acc.still := by
  obtain ⟨h1, h2, h3⟩ := h
  cases q <;> exact ⟨h1, h2, h3⟩

/-- A completion keeps the fabric at rest. -/
theorem Half.complete_rest {y : Half} (q : Req) (r : Resp) (h : y.acc.rest) : (y.complete q r).acc.rest := by
  obtain ⟨h1, h2, h3, h4, h5, h6⟩ := h
  cases q <;> exact ⟨h1, h2, h3, h4, h5, h6⟩

@[simp] theorem Half.complete_resp (y : Half) (q : Req) (r : Resp) : ((y.complete q r).acc.port q).resp = r := by cases q <;> rfl

@[simp] theorem Half.complete_rd (y : Half) (q : Req) (r : Resp) (a : Nat) : (y.complete q r).rd a = y.rd a := rfl

theorem Half.complete_eq (y : Half) (q : Req) (r : Resp) : y.complete q r = { y with acc := (y.complete q r).acc } := rfl

@[simp] theorem Half.complete_regions (y : Half) (q : Req) (r : Resp) : (y.complete q r).regions = y.regions := rfl
@[simp] theorem Half.complete_sent (y : Half) (q : Req) (r : Resp) : (y.complete q r).sent = y.sent := rfl

theorem State.on_id (s : State) (h : HalfId) : (s.on h fun x => x) = s := by cases h <;> rfl

theorem State.on_eq_self {s : State} {h : HalfId} {f : Half → Half} (hf : f (s.half h) = s.half h) : s.on h f = s := by
  cases h <;> (simp only [State.on, State.half] at *; rw [hf]; rfl)

theorem State.on_congr {s : State} {h : HalfId} {f g : Half → Half} (hf : f (s.half h) = g (s.half h)) : s.on h f = s.on h g := by
  simp only [State.on, hf]

/-- No held LO: a write drops none. -/
theorem Half.dropHeldLo_rest {y : Half} (q : Req) (x : Access) (h : y.acc.rest) : y.dropHeldLo q x = y := by
  have hp := (AccessSt.rest_port h q).1
  unfold Half.dropHeldLo
  split
  · unfold Half.onPort
    have : (fun p : Port => { p with heldLo := p.heldLo.filter fun t => t.1 + 4 == x.addr }) (y.acc.port q) = y.acc.port q := by
      simp only [hp, Option.filter]
      rw [show (y.acc.port q) = { (y.acc.port q) with heldLo := (y.acc.port q).heldLo } from rfl, hp]
    rw [this, AccessSt.setPort_port]
  · rfl

/-- Nothing pending: a write discards nothing. -/
theorem Half.intervene_none {y : Half} (q : Req) (b : Nat) (k : Option Nat) (h : y.acc.pw = []) : y.intervene q b k = y := by
  unfold Half.intervene Half.dropPending
  simp only [h, List.filter_nil, List.foldl_nil]
  rw [← h]

theorem Half.joinCopies_none {y : Half} (a : Nat) (h : y.acc.copies = []) : y.joinCopies a = y := by
  unfold Half.joinCopies
  simp only [h, eraseAt]
  rw [← h]

theorem Half.voted_none {y : Half} (a : Nat) (h : y.acc.copies = []) : y.voted a = some y := by
  unfold Half.voted Half.copies3
  simp only [h, List.find?_nil, vote, true_or, if_true, and_self, Half.joinCopies_none a h]

/-- Where a half takes a word, a 32-bit access of it resolves. -/
theorem Half.resolve_takes {y : Half} {q : Req} {a : Nat} {l : Loc} {v : Word} {e : Ecc} (hq : q ≠ .partner) (al : a % 4 = 0)
    (hl : locate a = some l) (ht : y.takes a = true) : y.resolve q ⟨a, .w32, true, v, e⟩ = .ok l := by
  have ha : a / 4 * 4 = a := by omega
  simp only [Half.takes, hl, Bool.and_eq_true, Option.isNone_iff_eq_none] at ht
  simp [Half.resolve, misaligned, al, ha, hl, narrowWidth, Half.refuses, hq, ht.1, ht.2]

/-- A read resolves where the word is implemented and its region answers. -/
theorem Half.resolve_reads {y : Half} {q : Req} {a : Nat} {l : Loc} {e : Ecc} (hq : q ≠ .partner) (al : a % 4 = 0)
    (hl : locate a = some l) (ht : y.reads a = true) : y.resolve q ⟨a, .w32, false, 0, e⟩ = .ok l := by
  have ha : a / 4 * 4 = a := by omega
  simp only [Half.reads, hl] at ht
  simp [Half.resolve, misaligned, al, ha, hl, narrowWidth, Half.refuses, hq, ht]

/-- The completion of a write. -/
def ack (s : State) (h : HalfId) (q : Req) : State := s.on h fun y => y.complete q ⟨0, true⟩

theorem ack_still {s : State} {h : HalfId} {q : Req} (hs : s.still) : (ack s h q).still := by
  rw [State.still_iff] at hs ⊢
  intro k
  by_cases hk : k = h
  · subst hk; simp only [ack, State.on_half]; exact Half.complete_still q _ (hs k)
  · have : k = h.other := by cases k <;> cases h <;> first | rfl | exact absurd rfl hk
    subst this; simp only [ack, State.on_other]; exact hs _

theorem ack_rest {s : State} {h : HalfId} {q : Req} (hs : s.rest) : (ack s h q).rest := by
  have : ∀ k, ((ack s h q).half k).acc.rest := by
    intro k
    by_cases hk : k = h
    · subst hk; simp only [ack, State.on_half]; exact Half.complete_rest q _ (State.rest_half hs k)
    · have : k = h.other := by cases k <;> cases h <;> first | rfl | exact absurd rfl hk
      subst this; simp only [ack, State.on_other]; exact State.rest_half hs _
  exact ⟨this .a, this .b⟩

theorem Half.fabricUp_complete (y : Half) (q : Req) (r : Resp) : (y.complete q r).fabricUp = y.fabricUp := rfl

theorem Half.answers_complete (y : Half) (p q : Req) (r : Resp) : (y.complete q r).answers p = y.answers p := rfl

theorem State.rest_still {s : State} (h : s.rest) : s.still := ⟨h.1.still, h.2.still⟩

/-- A request of one access to a fabric at rest is that access. -/
theorem State.ask_rest {s : State} {h : HalfId} {q : Req} {a : Nat} {w : Width} {wr : Bool} {d : BitVec 64} {e : Ecc}
    (hr : s.rest) (ha : (s.half h).answers q = true) (hw : w ≠ .w64) :
    s.ask h q a w wr d e = ((s.access h q ⟨a, w, wr, d.truncate 32, e⟩).2).settle := by
  have hp := AccessSt.rest_port (State.rest_half hr h) q
  have hreq : s.request h q ⟨a, w, wr, d.truncate 32, e⟩ = (s.access h q ⟨a, w, wr, d.truncate 32, e⟩).2 := by
    simp [State.request, hp.2.1, hp.2.2]
  unfold State.ask
  simp only [ha, Bool.not_true, Bool.false_eq_true, if_false, State.settle_still (State.rest_still hr)]
  cases w <;> first | exact absurd rfl hw | exact congrArg State.settle hreq

/-- A plain write to a fabric at rest: the action of the register, then the completion. -/
theorem State.write_rest {s : State} {h : HalfId} {q : Req} {a : Nat} {l : Loc} {v : Word} (g : Grants s h q a)
    (al : a % 4 = 0) (lt : a < 0x8000000) (hl : locate a = some l) (hattr : l.reg.attr = .rw ∨ l.reg.attr = .wo)
    (hwide : l.wideAs = .single) (hs : (s.putReg h q l a (l.masked v)).still) :
    s.write h q a v = ack (s.putReg h q l a (l.masked v)) h q := by
  have hr := State.rest_half g.asks.rest h
  have e1 : s.write h q a v = s.ask h q a .w32 true (v.setWidth 64) .ok := by
    have hq := g.asks.own
    unfold State.write State.issue
    split
    · exact absurd rfl hq
    · rfl
  have ev : (v.setWidth 64).truncate 32 = v := by
    apply BitVec.eq_of_toNat_eq
    simp only [BitVec.truncate_eq_setWidth, BitVec.toNat_setWidth]
    have := v.isLt
    omega
  have hd : s.direct h q ⟨a, .w32, true, v, .ok⟩ = (.ok 0, s.putReg h q l a (l.masked v)) := by
    have ha : a / 4 * 4 = a := by omega
    have hne : l.reg.attr ≠ .pw := by rcases hattr with e | e <;> rw [e] <;> decide
    simp only [State.direct, Half.resolve_takes g.asks.own al hl g.takes, if_true, ha, State.writeWord, ne_eq, hne,
      not_false_eq_true, if_true]
    have e0 : (s.on h fun x => x.intervene q l.block none) = s := State.on_eq_self (Half.intervene_none q _ _ hr.1)
    have e2 : (s.on h fun x => x.joinCopies a) = s := State.on_eq_self (Half.joinCopies_none a hr.2.1)
    rw [e0]
    unfold State.storeWord
    rw [e2]
    rcases hattr with e | e <;> rw [e, hwide]
  have hacc : s.access h q ⟨a, .w32, true, v, .ok⟩ = (.ok 0, ack (s.putReg h q l a (l.masked v)) h q) := by
    have hn1 : ¬ (0x10000000 ≤ a) := by omega
    have hn2 : ¬ (0x8000000 ≤ a) := by omega
    have e3 : (s.on h fun y => y.dropHeldLo q ⟨a, .w32, true, v, .ok⟩) = s := State.on_eq_self (Half.dropHeldLo_rest q _ hr)
    simp only [State.access, hn1, if_false, State.local_, e3, hn2, hd]
    rfl
  rw [e1, State.ask_rest g.asks.rest g.asks.answers (by decide), ev, hacc]
  exact State.settle_still (ack_still hs)

/-- A read of a plain register by a fabric at rest: what the word shows, the clear of a clear-on-read register, the completion. -/
theorem State.read_rest {s : State} {h : HalfId} {q : Req} {a : Nat} {l : Loc} (g : Asks s h q)
    (al : a % 4 = 0) (lt : a < 0x8000000) (hl : locate a = some l) (hrd : (s.half h).reads a = true)
    (hhook : l.reg.hook ≠ .popLo ∧ l.reg.hook ≠ .flashData ∧ l.reg.hook ≠ .xferData) (hwide : l.wideAs = .single) :
    s.read h q a .w32 =
      s.on h fun y => (y.clearRead l a 0xFFFFFFFF).complete q ⟨s.shown h l a, true⟩ := by
  have hr := State.rest_half g.rest h
  have e1 : s.read h q a .w32 = s.ask h q a .w32 false 0 .ok := by
    have hq := g.own
    unfold State.read State.issue
    split
    · exact absurd rfl hq
    · rfl
  have hw : s.readWord h q l a ⟨a, .w32, false, 0, .ok⟩ =
      (.ok (s.shown h l a), s.on h fun y => y.clearRead l a 0xFFFFFFFF) := by
    unfold State.readWord
    split
    · next e => exact absurd e hhook.1
    · next e => exact absurd e hhook.2.1
    · next e => exact absurd e hhook.2.2
    · simp only [hwide, readLanes]
  have hd : s.direct h q ⟨a, .w32, false, 0, .ok⟩ = (.ok (s.shown h l a), s.on h fun y => y.clearRead l a 0xFFFFFFFF) := by
    have ha : a / 4 * 4 = a := by omega
    have es : s.setHalf h (s.half h) = s := by cases h <;> rfl
    simp only [State.direct, Half.resolve_reads g.own al hl hrd, Bool.false_eq_true, if_false, ha,
      Half.voted_none a hr.2.1, es, hw, ite_self]
  have hacc : (s.access h q ⟨a, .w32, false, 0, .ok⟩).2 =
      s.on h fun y => (y.clearRead l a 0xFFFFFFFF).complete q ⟨s.shown h l a, true⟩ := by
    have hn1 : ¬ (0x10000000 ≤ a) := by omega
    have hn2 : ¬ (0x8000000 ≤ a) := by omega
    have e3 : (s.on h fun y => y.dropHeldLo q ⟨a, .w32, false, 0, .ok⟩) = s := State.on_eq_self (Half.dropHeldLo_rest q _ hr)
    simp only [State.access, hn1, if_false, State.local_, e3, hn2, hd, State.on_on]
  have hcl : ∀ (y : Half), (y.clearRead l a 0xFFFFFFFF).acc = y.acc := by
    intro y; unfold Half.clearRead; split <;> rfl
  rw [e1, State.ask_rest g.rest g.answers (by decide)]
  have e4 : ((0 : BitVec 64).truncate 32 : Word) = 0 := rfl
  rw [e4, hacc]
  refine State.settle_still ((State.still_iff _).2 fun k => ?_)
  by_cases hk : k = h
  · subst hk
    simp only [State.on_half]
    refine Half.complete_still q _ ?_
    rw [hcl]; exact hr.still
  · have : k = h.other := by cases k <;> cases h <;> first | rfl | exact absurd rfl hk
    subst this; simp only [State.on_other]; exact (State.rest_half g.rest _).still

end Sys2Proof.Machine
end

