-- ==== Sys2Proof/Laws/Lines.lean ====
section
/-! SUPPORT. What bringing the shared lines and the stage-enable balls into line leaves alone: everything of a half but its
`RDN.STATUS`, the balls as its amplifier clusters show them, and what those clusters keep of them (R364, R480). -/

namespace Sys2Proof.Machine

/-- y is x but for what follows the lines. -/
structure Follows (x y : Half) : Prop where
  same : y = { x with regs := y.regs, out := { x.out with cl := y.out.cl } }
  regs : ∀ a, a ∉ lineRegsOf → y.rd a = x.rd a
  low : ∀ lo n, lo + n ≤ 8 ∨ 13 ≤ lo → y.get Adr.RDN_STATUS lo n = x.get Adr.RDN_STATUS lo n

theorem Follows.refl (x : Half) : Follows x x := ⟨rfl, fun _ _ => rfl, fun _ _ _ => rfl⟩

theorem Follows.trans {x y z : Half} (h1 : Follows x y) (h2 : Follows y z) : Follows x z := by
  refine ⟨?_, fun a ha => (h2.regs a ha).trans (h1.regs a ha), fun lo n h => (h2.low lo n h).trans (h1.low lo n h)⟩
  have e := h2.same
  rw [h1.same] at e
  exact e

theorem Half.showLines_follows (x : Half) (a b c : Bool) : Follows x (x.showLines a b c) := by
  unfold Half.showLines
  refine ⟨rfl, fun i hi => ?_, fun lo n h => ?_⟩
  · have hm : Adr.RDN_STATUS ∈ lineRegsOf := List.mem_cons_self
    rw [Half.rd_put_ne x _ _ _ (fun e : i = Adr.RDN_STATUS => hi (e ▸ hm))]
  · rw [Half.get_put_field x _ 8 5 _ lo n (by omega) (by omega)]

theorem Half.showPsen_follows (x : Half) {c : Nat} (hc : c < 4) (p l : Bool) : Follows x (x.showPsen c p l) := by
  have hm : Adr.AMPC_STATUS c ∈ lineRegsOf ∧ Adr.AMPC_EVENT c ∈ lineRegsOf := by
    have : c = 0 ∨ c = 1 ∨ c = 2 ∨ c = 3 := by omega
    rcases this with rfl | rfl | rfl | rfl <;> simp [lineRegsOf]
  have hn : Adr.RDN_STATUS ≠ Adr.AMPC_STATUS c ∧ Adr.RDN_STATUS ≠ Adr.AMPC_EVENT c := by
    simp only [Adr.RDN_STATUS, Adr.AMPC_STATUS, Adr.AMPC_EVENT]; omega
  have ho : ∀ (w : Half) (o : OutSt) (a : Nat), ({ w with out := o } : Half).rd a = w.rd a := fun _ _ _ => rfl
  unfold Half.showPsen
  simp only
  split
  · refine ⟨rfl, fun i hi => ?_, fun lo n _ => ?_⟩
    · exact Half.rd_putBit_ne x _ _ (fun e => hi (by rw [e]; exact hm.1))
    · simp only [Half.get, Half.rd_putBit_ne x _ _ hn.1]
  · refine ⟨rfl, fun i hi => ?_, fun lo n _ => ?_⟩
    · have e1 : i ≠ Adr.AMPC_STATUS c := fun e => hi (by rw [e]; exact hm.1)
      have e2 : i ≠ Adr.AMPC_EVENT c := fun e => hi (by rw [e]; exact hm.2)
      rw [ho, Half.rd_event_ne _ 4 e2, Half.rd_putBit_ne _ _ _ e1, Half.rd_putBit_ne _ _ _ e1]
    · simp only [Half.get]
      rw [ho, Half.rd_event_ne _ 4 hn.2, Half.rd_putBit_ne _ _ _ hn.1, Half.rd_putBit_ne _ _ _ hn.1]

/-- s and t differ in what follows the lines only. -/
structure LinesOnly (s t : State) : Prop where
  halves : ∀ k, Follows (s.half k) (t.half k)
  wired : t.wiredFault = s.wiredFault
  pending : t.pending = s.pending

theorem LinesOnly.refl (s : State) : LinesOnly s s := ⟨fun _ => Follows.refl _, rfl, rfl⟩

theorem LinesOnly.trans {s t u : State} (h1 : LinesOnly s t) (h2 : LinesOnly t u) : LinesOnly s u :=
  ⟨fun k => (h1.halves k).trans (h2.halves k), h2.wired.trans h1.wired, h2.pending.trans h1.pending⟩

theorem psenStep_linesOnly (t : State) {c : Nat} (hc : c < 4) (pa pb : Bool) :
    LinesOnly t (if pa = t.a.bit (Adr.AMPC_STATUS c) 2 ∧ pb = t.b.bit (Adr.AMPC_STATUS c) 2 then t
      else { t with a := t.a.showPsen c pa (pa || pb), b := t.b.showPsen c pb (pa || pb) }) := by
  split
  · exact LinesOnly.refl t
  · refine ⟨fun k => ?_, rfl, rfl⟩
    cases k
    · exact Half.showPsen_follows t.a hc _ _
    · exact Half.showPsen_follows t.b hc _ _

/-- Bringing the balls `PSENc_n` into line changes only what follows them. -/
theorem State.psen_linesOnly (s : State) : LinesOnly s s.psen := by
  have key : ∀ (cs : List Nat), (∀ c ∈ cs, c < 4) → ∀ t : State, LinesOnly t (cs.foldl (fun (t : State) c =>
      let pa := t.a.wantPull c
      let pb := t.b.wantPull c
      if pa = t.a.bit (Adr.AMPC_STATUS c) 2 ∧ pb = t.b.bit (Adr.AMPC_STATUS c) 2 then t
      else { t with a := t.a.showPsen c pa (pa || pb), b := t.b.showPsen c pb (pa || pb) }) t) := by
    intro cs
    induction cs with
    | nil => intro _ t; exact LinesOnly.refl t
    | cons c rest ih =>
      intro hc t
      simp only [List.foldl_cons]
      exact (psenStep_linesOnly t (hc c (by simp)) _ _).trans (ih (fun d hd => hc d (List.mem_cons_of_mem _ hd)) _)
  exact key (List.range 4) (fun c hc => List.mem_range.1 hc) s

/-- Bringing the lines into line changes only what follows them. -/
theorem State.lines_linesOnly (s : State) : LinesOnly s s.lines := by
  unfold State.lines
  refine LinesOnly.trans ?_ (State.psen_linesOnly _)
  refine ⟨fun k => ?_, rfl, rfl⟩
  cases k
  · exact Half.showLines_follows s.a _ _ _
  · exact Half.showLines_follows s.b _ _ _

theorem Follows.sent {x y : Half} (h : Follows x y) : y.sent = x.sent := by rw [h.same]
theorem Follows.rdn {x y : Half} (h : Follows x y) : y.rdn = x.rdn := by rw [h.same]
theorem Follows.acc {x y : Half} (h : Follows x y) : y.acc = x.acc := by rw [h.same]
theorem Follows.boot {x y : Half} (h : Follows x y) : y.boot = x.boot := by rw [h.same]
theorem Follows.phase {x y : Half} (h : Follows x y) : y.phase = x.phase := by rw [h.same]
theorem Follows.regions {x y : Half} (h : Follows x y) : y.regions = x.regions := by rw [h.same]
theorem Follows.id {x y : Half} (h : Follows x y) : y.id = x.id := by rw [h.same]

theorem Follows.bit {x y : Half} (h : Follows x y) {a b : Nat} (ha : a ∉ lineRegsOf) : y.bit a b = x.bit a b := by
  simp only [Half.bit, Half.get, h.regs a ha]

theorem Follows.get {x y : Half} (h : Follows x y) {a lo n : Nat} (ha : a ∉ lineRegsOf) : y.get a lo n = x.get a lo n := by
  simp only [Half.get, h.regs a ha]

/-- The state of the lines after they have been brought into line: `RDN.STATUS` bit b of 8 to 12 shows them (R480). -/
theorem Follows.role {x y : Half} (h : Follows x y) : y.role = x.role := by
  unfold Half.role
  rw [h.get (by decide)]

theorem State.lines_sent (s : State) (k : HalfId) : (s.lines.half k).sent = (s.half k).sent := ((State.lines_linesOnly s).halves k).sent
theorem State.lines_rdn (s : State) (k : HalfId) : (s.lines.half k).rdn = (s.half k).rdn := ((State.lines_linesOnly s).halves k).rdn
theorem State.lines_acc (s : State) (k : HalfId) : (s.lines.half k).acc = (s.half k).acc := ((State.lines_linesOnly s).halves k).acc
theorem State.lines_rd (s : State) (k : HalfId) {a : Nat} (ha : a ∉ lineRegsOf) : (s.lines.half k).rd a = (s.half k).rd a :=
  ((State.lines_linesOnly s).halves k).regs a ha
@[simp] theorem State.lines_wired (s : State) : s.lines.wiredFault = s.wiredFault := (State.lines_linesOnly s).wired
@[simp] theorem State.lines_pending (s : State) : s.lines.pending = s.pending := (State.lines_linesOnly s).pending
@[simp] theorem State.psen_wired (s : State) : s.psen.wiredFault = s.wiredFault := (State.psen_linesOnly s).wired
@[simp] theorem State.psen_pending (s : State) : s.psen.pending = s.pending := (State.psen_linesOnly s).pending

end Sys2Proof.Machine
end

