-- ==== Sys2Proof/Laws/Mac.lean ====
section
/-! SUPPORT. What the counters of a MAC and its working state read after an operation on them (R120), and lists by index. -/

namespace Sys2Proof.Machine

theorem getAt_modAt {α : Type} (l : List α) (i : Nat) (f : α → α) (d : α) (hi : i < l.length) :
    getAt (modAt l i f) i d = f (getAt l i d) := by
  simp [getAt, modAt, List.getElem?_eq_getElem hi]

theorem getAt_modAt_out {α : Type} (l : List α) (i : Nat) (f : α → α) (d : α) (hi : l.length ≤ i) :
    getAt (modAt l i f) i d = d := by
  simp [getAt, modAt, List.getElem?_eq_none hi]

theorem getAt_modAt_ne {α : Type} (l : List α) {i j : Nat} (f : α → α) (d : α) (hne : j ≠ i) :
    getAt (modAt l i f) j d = getAt l j d := by
  simp [getAt, modAt, Ne.symm hne]

theorem getAt_out {α : Type} (l : List α) (i : Nat) (d : α) (hi : l.length ≤ i) : getAt l i d = d := by
  simp [getAt, List.getElem?_eq_none hi]

theorem getAt_in {α : Type} {l : List α} {i : Nat} {d : α} (h : getAt l i d ≠ d) : i < l.length := by
  by_contra hc
  exact h (getAt_out l i d (by omega))

/-- A 64-bit value reads as written, modulo 2^64. -/
theorem Half.rd64_wr64 (x : Half) (a v : Nat) : (x.wr64 a v).rd64 a = v % 2 ^ 64 := by
  have e : a ≠ a + 4 := by omega
  simp only [Half.rd64, Half.wr64, Half.wrNat_eq, Half.rd_wr_self, Half.rd_wr_ne _ _ e, BitVec.toNat_ofNat]
  omega

theorem Half.rd_wr64_ne (x : Half) {a b : Nat} (v : Nat) (h1 : b ≠ a) (h2 : b ≠ a + 4) : (x.wr64 a v).rd b = x.rd b := by
  simp only [Half.wr64, Half.wrNat_eq, Half.rd_wr_ne _ _ h1, Half.rd_wr_ne _ _ h2]

theorem MacCnt.idx_inj {c d : MacCnt} (h : c ≠ d) : c.idx ≠ d.idx := by
  cases c <;> cases d <;> first | exact absurd rfl h | simp [MacCnt.idx]

theorem MacCnt.idx_lt (c : MacCnt) : c.idx < 28 := by cases c <;> decide

/-- A counter after d is added to it (R120). -/
theorem Half.counter_tally (x : Half) (p : Nat) (c : MacCnt) (d : Nat) :
    (x.tally p c d).counter p c = (x.counter p c + d) % 2 ^ 64 := Half.rd64_wr64 x _ _

/-- Any other word is as it was. -/
theorem Half.tally_rd (x : Half) (p : Nat) (c : MacCnt) (d : Nat) {b : Nat} (hb : b ∉ counterRegs p c) :
    (x.tally p c d).rd b = x.rd b := by
  simp only [counterRegs, List.mem_cons, List.not_mem_nil, or_false, not_or] at hb
  exact Half.rd_wr64_ne x _ hb.1 hb.2

theorem Half.counter_tally_ne (x : Half) (p : Nat) {c e : MacCnt} (d : Nat) (h : e ≠ c) :
    (x.tally p c d).counter p e = x.counter p e := by
  have hi := MacCnt.idx_inj h
  have e1 : (x.tally p c d).rd (Adr.MAC_CNT p (2 * e.idx)) = x.rd (Adr.MAC_CNT p (2 * e.idx)) :=
    Half.tally_rd x p c d (by simp only [counterRegs, List.mem_cons, List.not_mem_nil, or_false, not_or, Adr.MAC_CNT]; omega)
  have e2 : (x.tally p c d).rd (Adr.MAC_CNT p (2 * e.idx) + 4) = x.rd (Adr.MAC_CNT p (2 * e.idx) + 4) :=
    Half.tally_rd x p c d (by simp only [counterRegs, List.mem_cons, List.not_mem_nil, or_false, not_or, Adr.MAC_CNT]; omega)
  simp only [Half.counter, Half.rd64, e1, e2]

theorem Half.tally_shape (x : Half) (p : Nat) (c : MacCnt) (d : Nat) : x.tally p c d = { x with regs := (x.tally p c d).regs } := rfl

@[simp] theorem Half.tally_macs (x : Half) (p : Nat) (c : MacCnt) (d : Nat) : (x.tally p c d).macs = x.macs := rfl

@[simp] theorem Half.onMac_rd (x : Half) (p : Nat) (f : MacSt → MacSt) (a : Nat) : (x.onMac p f).rd a = x.rd a := rfl

/-- The working state of a MAC after a change of it. -/
theorem Half.mac_onMac (x : Half) {p : Nat} (f : MacSt → MacSt) (hp : p < x.macs.length) : (x.onMac p f).mac p = f (x.mac p) :=
  getAt_modAt _ _ _ _ hp

theorem Half.mac_onMac_out (x : Half) {p : Nat} (f : MacSt → MacSt) (hp : x.macs.length ≤ p) : (x.onMac p f).mac p = MacSt.init :=
  getAt_modAt_out _ _ _ _ hp

/-- Where a MAC's working state is no longer as at reset, the list holds it. -/
theorem Half.mac_in {x : Half} {p : Nat} (h : x.mac p ≠ MacSt.init) : p < x.macs.length := getAt_in h

/-- What a change of the verification state of MAC p leaves alone: everything but bits 7 to 10 of its `STATUS` and bit 6 of its
`EVENT` (R102). -/
structure Verified (p v : Nat) (x y : Half) : Prop where
  same : y = { x with regs := y.regs }
  regs : ∀ a, a ≠ Adr.MAC_STATUS p → a ≠ Adr.MAC_EVENT p → y.rd a = x.rd a
  low : ∀ lo n, lo + n ≤ 7 ∨ 11 ≤ lo → y.get (Adr.MAC_STATUS p) lo n = x.get (Adr.MAC_STATUS p) lo n
  event : ∀ lo n, lo + n ≤ 6 ∨ 7 ≤ lo → y.get (Adr.MAC_EVENT p) lo n = x.get (Adr.MAC_EVENT p) lo n
  state : y.get (Adr.MAC_STATUS p) 7 3 = v % 8
  active : y.bit (Adr.MAC_STATUS p) 10 = (x.bit (Adr.MAC_CTRL p) 6 && (v == 3 || x.bit (Adr.MAC_CTRL p) 7))
  raised : x.get (Adr.MAC_STATUS p) 7 3 ≠ v → y.bit (Adr.MAC_EVENT p) 6 = true

theorem Half.setVerify_verified (x : Half) (p v : Nat) (hv : v < 8) : Verified p v x (x.setVerify p v) := by
  have n1 : Adr.MAC_STATUS p ≠ Adr.MAC_EVENT p := by simp only [Adr.MAC_STATUS, Adr.MAC_EVENT]; omega
  have n2 : Adr.MAC_CTRL p ≠ Adr.MAC_STATUS p := by simp only [Adr.MAC_STATUS, Adr.MAC_CTRL]; omega
  have n3 : Adr.MAC_CTRL p ≠ Adr.MAC_EVENT p := by simp only [Adr.MAC_EVENT, Adr.MAC_CTRL]; omega
  have hm : v % 8 = v := Nat.mod_eq_of_lt hv
  unfold Half.setVerify
  simp only
  split
  · next e =>
    refine ⟨rfl, fun a h1 _ => Half.rd_putBit_ne _ _ _ h1, fun lo n hl => ?_, fun lo n _ => ?_, ?_, ?_, fun hc => absurd e hc⟩
    · exact Half.get_put_field _ _ 10 1 _ lo n (by omega) (by omega)
    · exact Half.get_put_ne _ 10 1 _ lo n n1.symm
    · rw [hm, ← e]; exact Half.get_put_field _ _ 10 1 _ 7 3 (by omega) (by omega)
    · exact Half.bit_putBit_self _ _ _ _ (by omega)
  · have c6 : ∀ b, ((x.put (Adr.MAC_STATUS p) 7 3 v).event (Adr.MAC_EVENT p) 6).bit (Adr.MAC_CTRL p) b = x.bit (Adr.MAC_CTRL p) b := by
      intro b
      rw [Half.bit_event_ne _ _ _ n3, Half.bit_put_ne _ _ _ _ _ n2]
    refine ⟨rfl, fun a h1 h2 => ?_, fun lo n hl => ?_, fun lo n hl => ?_, ?_, ?_, fun _ => ?_⟩
    · rw [Half.rd_putBit_ne _ _ _ h1, Half.rd_event_ne _ _ h2, Half.rd_put_ne _ _ _ _ h1]
    · refine (Half.get_put_field _ _ 10 1 _ lo n (by omega) (by omega)).trans ?_
      refine (Half.get_put_ne _ 6 1 _ lo n n1).trans ?_
      exact Half.get_put_field _ _ 7 3 _ lo n (by omega) (by omega)
    · refine (Half.get_put_ne _ 10 1 _ lo n n1.symm).trans ?_
      refine (Half.get_put_field _ _ 6 1 _ lo n (by omega) (by omega)).trans ?_
      exact Half.get_put_ne _ 7 3 _ lo n n1.symm
    · refine (Half.get_put_field _ _ 10 1 _ 7 3 (by omega) (by omega)).trans ?_
      refine (Half.get_put_ne _ 6 1 _ 7 3 n1).trans ?_
      exact Half.get_put_self _ _ 7 3 _ (by omega)
    · rw [Half.bit_putBit_self _ _ _ _ (by omega), c6, c6]
    · rw [Half.bit_putBit_ne _ _ _ _ n1.symm]
      exact Half.bit_event_self _ _ 6 (by omega)

end Sys2Proof.Machine
end

