-- ==== Sys2Proof/Laws/Paired.lean ====
section
/-! SUPPORT. What a paired write by one requester comes to on a fabric at rest: the action of its slot on the value, once (R67). -/

namespace Sys2Proof.Machine

/-- A state with one value pending at half h. -/
def withPending (s : State) (h : HalfId) (p : PwPending) : State := s.on h fun x => { x with acc := { x.acc with pw := [p] } }

theorem withPending_still {s : State} {h : HalfId} {p : PwPending} (hs : s.still) : (withPending s h p).still := by
  rw [State.still_iff] at hs ⊢
  intro k
  by_cases hk : k = h
  · subst hk; simp only [withPending, State.on_half]; exact hs k
  · have : k = h.other := by cases k <;> cases h <;> first | rfl | exact absurd rfl hk
    subst this; simp only [withPending, State.on_other]; exact hs _

theorem State.setWidth_word (v : Word) : ((v.setWidth 64 : BitVec 64).truncate 32 : Word) = v := by
  apply BitVec.eq_of_toNat_eq
  simp only [BitVec.truncate_eq_setWidth, BitVec.toNat_setWidth]
  have := v.isLt
  omega

theorem State.write_ask {s : State} {h : HalfId} {q : Req} (hq : q ≠ .partner) (a : Nat) (v : Word) :
    s.write h q a v = s.ask h q a .w32 true (v.setWidth 64) .ok := by
  unfold State.write State.issue
  split
  · exact absurd rfl hq
  · rfl

/-- The first half of a paired write: the value is pending. -/
theorem State.pwValue_rest {s : State} {h : HalfId} {q : Req} {slot : Nat} {l : Loc} {v : Word} (g : Grants s h q slot)
    (al : slot % 4 = 0) (lt : slot < 0x8000000) (hl : locate slot = some l) (hattr : l.reg.attr = .pw) (hc : l.confirm = false) :
    s.write h q slot v = ack (withPending s h ⟨slot, q, v⟩) h q := by
  have hr := State.rest_half g.asks.rest h
  have hd : s.direct h q ⟨slot, .w32, true, v, .ok⟩ = (.ok 0, withPending s h ⟨slot, q, v⟩) := by
    have ha : slot / 4 * 4 = slot := by omega
    have e0 : (s.on h fun x => x.intervene q l.block none) = s := State.on_eq_self (Half.intervene_none q _ _ hr.1)
    have e1 : (s.on h fun x => { x with acc := { x.acc with pw := x.acc.pw ++ [⟨slot, q, v⟩] } }) =
        withPending s h ⟨slot, q, v⟩ := State.on_congr (by simp only [hr.1, List.nil_append])
    simp only [State.direct, Half.resolve_takes g.asks.own al hl g.takes, if_true, ha, State.writeWord, hattr, ne_eq,
      not_true_eq_false, if_false, hc, Bool.false_eq_true, Loc.slot, e0, e1]
  have hacc : s.access h q ⟨slot, .w32, true, v, .ok⟩ = (.ok 0, ack (withPending s h ⟨slot, q, v⟩) h q) := by
    have hn1 : ¬ (0x10000000 ≤ slot) := by omega
    have hn2 : ¬ (0x8000000 ≤ slot) := by omega
    have e3 : (s.on h fun y => y.dropHeldLo q ⟨slot, .w32, true, v, .ok⟩) = s := State.on_eq_self (Half.dropHeldLo_rest q _ hr)
    simp only [State.access, hn1, if_false, State.local_, e3, hn2, hd]
    rfl
  rw [State.write_ask g.asks.own, State.ask_rest g.asks.rest g.asks.answers (by decide), State.setWidth_word, hacc]
  exact State.settle_still (ack_still (withPending_still (State.rest_still g.asks.rest)))

/-- A word of a paired slot's CONFIRM is taken where its VALUE is. -/
theorem Half.takes_confirm {y : Half} {slot : Nat} {l : Loc} (hl : locate slot = some l)
    (hl4 : locate (slot + 4) = some { l with confirm := true }) (ht : y.takes slot = true) : y.takes (slot + 4) = true := by
  simp only [Half.takes, hl] at ht
  simp only [Half.takes, hl4]
  exact ht

/-- The second half: the complement of the pending value puts it into effect. -/
theorem State.pwConfirm_rest {s : State} {h : HalfId} {q : Req} {slot : Nat} {l : Loc} {v : Word} (g : Grants s h q slot)
    (al : slot % 4 = 0) (lt : slot + 4 < 0x8000000) (hl : locate slot = some l)
    (hl4 : locate (slot + 4) = some { l with confirm := true }) (hattr : l.reg.attr = .pw) (hc : l.confirm = false)
    (hs : ((ack s h q).putReg h q l slot (l.masked v)).still) :
    (ack (withPending s h ⟨slot, q, v⟩) h q).write h q (slot + 4) (~~~v) =
      ack ((ack s h q).putReg h q l slot (l.masked v)) h q := by
  have hr := State.rest_half g.asks.rest h
  let s1 := ack (withPending s h ⟨slot, q, v⟩) h q
  have hh : s1.half h = ({ s.half h with acc := { (s.half h).acc with pw := [⟨slot, q, v⟩] } } : Half).complete q ⟨0, true⟩ := by
    simp only [s1, ack, withPending, State.on_half]
  have hpw : (s1.half h).acc.pw = [⟨slot, q, v⟩] := by rw [hh]; cases q <;> rfl
  have hport : ((s1.half h).acc.port q).rest := by
    rw [hh]
    have := AccessSt.rest_port hr q
    cases q <;> exact this
  have hans : (s1.half h).answers q = true := by rw [hh]; exact g.asks.answers
  have hstill : s1.still := ack_still (withPending_still (State.rest_still g.asks.rest))
  have htake : (s1.half h).takes (slot + 4) = true := by
    have := Half.takes_confirm hl hl4 g.takes
    rw [hh]
    exact this
  have hcop : (s1.half h).acc.copies = [] := by rw [hh]; cases q <;> exact hr.2.1
  have hback : (s1.on h fun x => x.dropPending fun y => y.slot == slot && y.req == q) = ack s h q := by
    simp only [s1, ack, withPending, State.on_on]
    refine State.on_congr ?_
    have e : (s.half h).acc.pw = [] := hr.1
    have e2 : (s.half h) = { s.half h with acc := { (s.half h).acc with pw := [] } } := by rw [← e]
    conv_rhs => rw [e2]
    cases q <;> simp [Half.complete, Half.onPort, Half.dropPending, AccessSt.setPort, AccessSt.port]
  have hd : s1.direct h q ⟨slot + 4, .w32, true, ~~~v, .ok⟩ = (.ok 0, (ack s h q).putReg h q l slot (l.masked v)) := by
    have ha : (slot + 4) / 4 * 4 = slot + 4 := by omega
    have hblk : slotBlock slot = some l.block := by simp [slotBlock, hl]
    have hkeep : (fun p : PwPending => p.req == q && slotBlock p.slot == some l.block && some p.slot != some slot)
        (⟨slot, q, v⟩ : PwPending) = false := by simp
    have e0 : (s1.on h fun x => x.intervene q l.block (some slot)) = s1 := by
      refine State.on_eq_self ?_
      unfold Half.intervene Half.dropPending
      simp only [hpw, List.filter_cons, hkeep, Bool.false_eq_true, if_false, List.filter_nil, List.foldl_nil,
        Bool.not_false, if_true]
      rw [← hpw]
    have e1 : ((ack s h q).on h fun x => x.joinCopies slot) = ack s h q := by
      refine State.on_eq_self (Half.joinCopies_none _ ?_)
      exact (State.rest_half (ack_rest g.asks.rest) h).2.1
    have el : ({ ({ l with confirm := true } : Loc) with confirm := false } : Loc) = l := by
      cases l; simp only at hc; subst hc; rfl
    have hcs : s1.confirmSlot h q { l with confirm := true } slot (~~~v) = (ack s h q).putReg h q l slot (l.masked v) := by
      have hf : (s1.half h).acc.pw.find? (fun p => p.slot == slot && p.req == q) = some ⟨slot, q, v⟩ := by
        rw [hpw]; simp
      unfold State.confirmSlot
      rw [hf]
      simp only [hback, if_true, el, e1]
    simp only [State.direct, Half.resolve_takes g.asks.own (show (slot + 4) % 4 = 0 by omega) hl4 htake, if_true, ha,
      State.writeWord, hattr, ne_eq, not_true_eq_false, if_false, Loc.slot, Nat.add_sub_cancel, e0, hcs]
  have hacc : s1.access h q ⟨slot + 4, .w32, true, ~~~v, .ok⟩ = (.ok 0, ack ((ack s h q).putReg h q l slot (l.masked v)) h q) := by
    have hn1 : ¬ (0x10000000 ≤ slot + 4) := by omega
    have hn2 : ¬ (0x8000000 ≤ slot + 4) := by omega
    have e3 : (s1.on h fun y => y.dropHeldLo q ⟨slot + 4, .w32, true, ~~~v, .ok⟩) = s1 := by
      refine State.on_eq_self ?_
      unfold Half.dropHeldLo
      simp only [if_true]
      unfold Half.onPort
      have : (fun p : Port => { p with heldLo := p.heldLo.filter fun t => t.1 + 4 == slot + 4 }) ((s1.half h).acc.port q)
          = (s1.half h).acc.port q := by
        simp only [hport.1, Option.filter]
        rw [show ((s1.half h).acc.port q) = { ((s1.half h).acc.port q) with heldLo := ((s1.half h).acc.port q).heldLo } from rfl,
          hport.1]
      rw [this, AccessSt.setPort_port]
    simp only [State.access, hn1, if_false, State.local_, e3, hn2, hd]
    rfl
  have hreq : s1.request h q ⟨slot + 4, .w32, true, ~~~v, .ok⟩ = (s1.access h q ⟨slot + 4, .w32, true, ~~~v, .ok⟩).2 := by
    simp [State.request, hport.2.1, hport.2.2]
  rw [State.write_ask g.asks.own]
  show s1.ask h q (slot + 4) .w32 true ((~~~v).setWidth 64) .ok = _
  unfold State.ask
  simp only [hans, Bool.not_true, Bool.false_eq_true, if_false, State.settle_still hstill, State.setWidth_word, hreq, hacc]
  exact State.settle_still (ack_still hs)

/-- A paired write to a fabric at rest. -/
theorem State.pairWrite_rest {s : State} {h : HalfId} {q : Req} {slot : Nat} {l : Loc} {v : Word} (g : Grants s h q slot)
    (al : slot % 4 = 0) (lt : slot + 4 < 0x8000000) (hl : locate slot = some l)
    (hl4 : locate (slot + 4) = some { l with confirm := true }) (hattr : l.reg.attr = .pw) (hc : l.confirm = false)
    (hs : ((ack s h q).putReg h q l slot (l.masked v)).still) :
    s.pairWrite h q slot v = ack ((ack s h q).putReg h q l slot (l.masked v)) h q := by
  have hr := State.rest_half g.asks.rest h
  have e0 : (s.on h fun x => x.dropPending fun p => p.slot == slot && p.req == q) = s := by
    refine State.on_eq_self ?_
    unfold Half.dropPending
    simp only [hr.1, List.filter_nil]
    rw [← hr.1]
  unfold State.pairWrite
  simp only [g.asks.own, if_false, e0]
  rw [State.pwValue_rest g al (by omega) hl hattr hc, State.pwConfirm_rest g al lt hl hl4 hattr hc hs]

end Sys2Proof.Machine
end

