-- ==== Sys2Proof/Laws/Redundancy.lean ====
section
/-! SUPPORT. What the operations of roles, messages and give-ups leave alone, and the roles they make. -/

namespace Sys2Proof.Machine

@[simp] theorem Half.rd_with_rdn (h : Half) (r : RdnSt) (a : Nat) : ({ h with rdn := r } : Half).rd a = h.rd a := rfl
@[simp] theorem Half.rd_with_sent (h : Half) (r : Sentinel) (a : Nat) : ({ h with sent := r } : Half).rd a = h.rd a := rfl
@[simp] theorem Half.rd_with_hlt (h : Half) (r : HealthSt) (a : Nat) : ({ h with hlt := r } : Half).rd a = h.rd a := rfl
@[simp] theorem Half.rd_with_alarm (h : Half) (r : AlarmSt) (a : Nat) : ({ h with alarm := r } : Half).rd a = h.rd a := rfl
@[simp] theorem Half.rd_with_phase (h : Half) (r : Phase) (a : Nat) : ({ h with phase := r } : Half).rd a = h.rd a := rfl
@[simp] theorem Half.rd_with_acc (h : Half) (r : AccessSt) (a : Nat) : ({ h with acc := r } : Half).rd a = h.rd a := rfl
@[simp] theorem Half.rd_with_boot (h : Half) (r : BootSt) (a : Nat) : ({ h with boot := r } : Half).rd a = h.rd a := rfl
@[simp] theorem Half.rd_with_queues (h : Half) (r : List (Nat × Queue)) (a : Nat) : ({ h with queues := r } : Half).rd a = h.rd a := rfl

theorem ne_of_notMem {a b : Nat} {l : List Nat} (h : a ∉ l) (hb : b ∈ l) : a ≠ b := fun e => h (e ▸ hb)

@[simp] theorem Half.life_rd (h : Half) (c : Life) (d a : Nat) : (h.life c d).rd a = h.rd a := rfl
@[simp] theorem Half.life_sent (h : Half) (c : Life) (d : Nat) : (h.life c d).sent = h.sent := rfl
@[simp] theorem Half.life_rdn (h : Half) (c : Life) (d : Nat) : (h.life c d).rdn = h.rdn := rfl

/-- Sending a message changes the redundancy traffic only. -/
theorem Half.send_eq (h : Half) (t a : Nat) : h.send t a = { h with rdn := (h.send t a).rdn } := by
  unfold Half.send; split <;> rfl

@[simp] theorem Half.send_rd (h : Half) (t a b : Nat) : (h.send t a).rd b = h.rd b := by unfold Half.send; split <;> rfl
@[simp] theorem Half.send_sent (h : Half) (t a : Nat) : (h.send t a).sent = h.sent := by unfold Half.send; split <;> rfl
@[simp] theorem Half.send_age (h : Half) (t a : Nat) : (h.send t a).age = h.age := by unfold Half.send; split <;> rfl
@[simp] theorem Half.send_block (h : Half) (t a : Nat) : (h.send t a).block = h.block := by unfold Half.send; split <;> rfl

/-- Sending leaves everything of the redundancy traffic but the messages on their way and their number. -/
theorem Half.send_rdn (h : Half) (t a : Nat) :
    (h.send t a).rdn = { h.rdn with breezeOut := (h.send t a).rdn.breezeOut, txSeq := (h.send t a).rdn.txSeq } := by
  unfold Half.send; split <;> rfl

theorem Half.endHandover_rd (h : Half) (r : Nat) {b : Nat} (hb : b ∉ [Adr.RDN_HANDOVER_STATUS, Adr.RDN_EVENT]) :
    (h.endHandover r).rd b = h.rd b := by
  unfold Half.endHandover
  rw [Half.rd_event_ne _ _ (ne_of_notMem hb (by simp)), Half.rd_put_ne _ _ _ _ (ne_of_notMem hb (by simp)),
    Half.rd_put_ne _ _ _ _ (ne_of_notMem hb (by simp))]
  rfl

@[simp] theorem Half.endHandover_sent (h : Half) (r : Nat) : (h.endHandover r).sent = { h.sent with handover := .idle } := rfl
@[simp] theorem Half.endHandover_rdn (h : Half) (r : Nat) : (h.endHandover r).rdn = h.rdn := rfl

theorem Half.endHandover_shows (h : Half) (r : Nat) (hr : r < 128) :
    (h.endHandover r).get Adr.RDN_HANDOVER_STATUS 24 7 = r ∧ (h.endHandover r).bit Adr.RDN_HANDOVER_STATUS 31 = false ∧
      (h.endHandover r).bit Adr.RDN_EVENT 2 = true := by
  unfold Half.endHandover
  refine ⟨?_, ?_, Half.bit_event_self _ _ _ (by decide)⟩
  · simp only [Half.get]
    rw [Half.rd_event_ne _ _ (by decide)]
    exact (Half.get_put_self _ _ 24 7 r (by decide)).trans (Nat.mod_eq_of_lt hr)
  · rw [Half.bit_event_ne _ _ _ (by decide), Half.bit_put_field _ _ 24 7 _ 31 (by decide) (by decide)]
    unfold Half.bit
    rw [Half.get_put_self _ _ 31 1 0 (by decide)]
    rfl

theorem Half.abandon_rd (h : Half) (t : Bool) {b : Nat} (hb : b ∉ [Adr.RDN_HANDOVER_STATUS, Adr.RDN_EVENT]) :
    (h.abandon t).rd b = h.rd b := by
  unfold Half.abandon
  split
  · rfl
  · split
    · rw [Half.send_rd, Half.endHandover_rd _ _ hb]
    · exact Half.endHandover_rd _ _ hb

theorem Half.abandon_sent (h : Half) (t : Bool) : ∃ x, (h.abandon t).sent = { h.sent with handover := x } := by
  unfold Half.abandon
  split
  · exact ⟨h.sent.handover, rfl⟩
  · split
    · exact ⟨.idle, by rw [Half.send_sent]; rfl⟩
    · exact ⟨.idle, rfl⟩

theorem Half.abandon_rdn (h : Half) (t : Bool) :
    (h.abandon t).rdn = { h.rdn with breezeOut := (h.abandon t).rdn.breezeOut, txSeq := (h.abandon t).rdn.txSeq } := by
  unfold Half.abandon
  split
  · rfl
  · split
    · exact Half.send_rdn _ _ _
    · rfl

theorem Half.abandon_event (h : Half) (t : Bool) {b : Nat} (hb : h.bit Adr.RDN_EVENT b = true) :
    (h.abandon t).bit Adr.RDN_EVENT b = true := by
  have key : ∀ r, (h.endHandover r).bit Adr.RDN_EVENT b = true := by
    intro r
    by_cases h2 : b = 2
    · subst h2; exact Half.bit_event_self _ _ _ (by decide)
    · unfold Half.endHandover
      rw [Half.bit_event_bit _ _ _ _ (by decide) h2, Half.bit_put_ne _ _ _ _ _ (by decide), Half.bit_put_ne _ _ _ _ _ (by decide)]
      exact hb
  unfold Half.abandon
  split
  · exact hb
  · split
    · simp only [Half.bit, Half.get, Half.send_rd]; exact key 9
    · exact key 9

theorem Half.setRole_rd (h : Half) (r : Role) {b : Nat} (hb : b ∉ [Adr.RDN_ROLE_STATUS, Adr.RDN_EVENT]) :
    (h.setRole r).rd b = h.rd b := by
  unfold Half.setRole
  split
  · rfl
  · rw [Half.rd_event_ne _ _ (ne_of_notMem hb (by simp)), Half.rd_put_ne _ _ _ _ (ne_of_notMem hb (by simp))]

theorem Half.setRole_eq (h : Half) (r : Role) : h.setRole r = { h with regs := (h.setRole r).regs } := by
  unfold Half.setRole; split <;> rfl

@[simp] theorem Half.setRole_sent (h : Half) (r : Role) : (h.setRole r).sent = h.sent := by unfold Half.setRole; split <;> rfl
@[simp] theorem Half.setRole_rdn (h : Half) (r : Role) : (h.setRole r).rdn = h.rdn := by unfold Half.setRole; split <;> rfl
@[simp] theorem Half.setRole_age (h : Half) (r : Role) : (h.setRole r).age = h.age := by unfold Half.setRole; split <;> rfl

theorem roleOf_code (r : Role) : roleOf (r.code % 8) = r := by cases r <;> rfl

/-- A half has the role it is given. -/
@[simp] theorem Half.role_setRole (h : Half) (r : Role) : (h.setRole r).role = r := by
  unfold Half.setRole
  split
  · assumption
  · unfold Half.role Half.get
    rw [Half.rd_event_ne _ _ (by decide)]
    have := Half.get_put_self h Adr.RDN_ROLE_STATUS 0 3 r.code (by decide)
    unfold Half.get at this
    rw [this]
    exact roleOf_code r

theorem Half.setRole_event (h : Half) (r : Role) {b : Nat} (hb : h.bit Adr.RDN_EVENT b = true) :
    (h.setRole r).bit Adr.RDN_EVENT b = true := by
  unfold Half.setRole
  split
  · exact hb
  · by_cases h2 : b = 2
    · subst h2; exact Half.bit_event_self _ _ _ (by decide)
    · rw [Half.bit_event_bit _ _ _ _ (by decide) h2, Half.bit_put_ne _ _ _ _ _ (by decide)]; exact hb

/-- The upper fields of `ROLE_STATUS` do not follow the role. -/
theorem Half.setRole_field (h : Half) (r : Role) {lo n : Nat} (hl : 3 ≤ lo) :
    (h.setRole r).get Adr.RDN_ROLE_STATUS lo n = h.get Adr.RDN_ROLE_STATUS lo n := by
  unfold Half.setRole
  split
  · rfl
  · simp only [Half.get]
    rw [Half.rd_event_ne _ _ (by decide)]
    exact Half.get_put_field h _ 0 3 _ lo n (by decide) (Or.inl hl)

theorem Half.role_of_rd {x y : Half} (h : y.rd Adr.RDN_ROLE_STATUS = x.rd Adr.RDN_ROLE_STATUS) : y.role = x.role := by
  unfold Half.role Half.get; rw [h]

theorem Half.role_of_get {x y : Half} (h : y.get Adr.RDN_ROLE_STATUS 0 3 = x.get Adr.RDN_ROLE_STATUS 0 3) : y.role = x.role := by
  unfold Half.role; rw [h]

/-- The registers that going to SYNCING may change. -/
theorem Half.goSyncing_rd (h : Half) {b : Nat} (hb : b ∉ [Adr.RDN_HANDOVER_STATUS, Adr.RDN_EVENT, Adr.RDN_ROLE_STATUS]) :
    h.goSyncing.rd b = h.rd b := by
  unfold Half.goSyncing
  rw [Half.onRdn_rd, Half.setRole_rd _ _ (by simp only [List.mem_cons, List.not_mem_nil, or_false] at hb ⊢; tauto),
    Half.abandon_rd _ _ (by simp only [List.mem_cons, List.not_mem_nil, or_false] at hb ⊢; tauto)]

theorem Half.goSyncing_sent (h : Half) : ∃ x, h.goSyncing.sent = { h.sent with handover := x } := by
  obtain ⟨x, hx⟩ := Half.abandon_sent h true
  exact ⟨x, by unfold Half.goSyncing; rw [Half.onRdn_sent, Half.setRole_sent, hx]⟩

@[simp] theorem Half.goSyncing_role (h : Half) : h.goSyncing.role = .syncing := by
  unfold Half.goSyncing
  rw [Half.role_of_rd (Half.onRdn_rd _ _ _), Half.role_setRole]

theorem Half.goSyncing_event (h : Half) {b : Nat} (hb : h.bit Adr.RDN_EVENT b = true) : h.goSyncing.bit Adr.RDN_EVENT b = true := by
  unfold Half.goSyncing
  simp only [Half.bit, Half.get, Half.onRdn_rd]
  exact Half.setRole_event _ _ (Half.abandon_event _ _ hb)

theorem Half.goSyncing_field (h : Half) {lo n : Nat} (hl : 3 ≤ lo) :
    h.goSyncing.get Adr.RDN_ROLE_STATUS lo n = h.get Adr.RDN_ROLE_STATUS lo n := by
  have e := Half.setRole_field (h.abandon true) .syncing (n := n) hl
  unfold Half.goSyncing
  simp only [Half.get, Half.onRdn_rd] at e ⊢
  rw [e, Half.abandon_rd _ _ (by decide)]

/-- The registers that the check of the role's conditions may change (R439, R440). -/
def roleRegs : List Nat :=
  [Adr.MSG_STATUS, Adr.RDN_ROLE_STATUS, Adr.RDN_EVENT, Adr.RDN_COMPARE_STATUS, Adr.RDN_HANDOVER_STATUS, Adr.RDN_MIRROR_STATUS]

/-- What the check of the role's conditions leaves of a half. -/
structure RoleShape (x y : Half) : Prop where
  regs : ∀ a, a ∉ roleRegs → y.rd a = x.rd a
  sent : ∃ o g, y.sent = { x.sent with handover := o, grace := g }
  rdn : y.rdn = { x.rdn with
    breezeOut := y.rdn.breezeOut, txSeq := y.rdn.txSeq, passes := y.rdn.passes, lastClean := y.rdn.lastClean
    gapSince := y.rdn.gapSince, compared := y.rdn.compared, badAt := y.rdn.badAt }
  events : ∀ b, x.bit Adr.RDN_EVENT b = true → y.bit Adr.RDN_EVENT b = true
  partner : ∀ lo n, 3 ≤ lo → lo + n ≤ 16 → y.get Adr.RDN_ROLE_STATUS lo n = x.get Adr.RDN_ROLE_STATUS lo n

theorem RoleShape.refl (x : Half) : RoleShape x x := ⟨fun _ _ => rfl, ⟨_, _, rfl⟩, rfl, fun _ h => h, fun _ _ _ _ => rfl⟩

theorem RoleShape.trans {x y z : Half} (h1 : RoleShape x y) (h2 : RoleShape y z) : RoleShape x z := by
  obtain ⟨o1, g1, e1⟩ := h1.sent
  obtain ⟨o2, g2, e2⟩ := h2.sent
  refine ⟨fun a ha => (h2.regs a ha).trans (h1.regs a ha), ⟨o2, g2, by rw [e2, e1]⟩, ?_, fun b hb => h2.events b (h1.events b hb),
    fun lo n a b => (h2.partner lo n a b).trans (h1.partner lo n a b)⟩
  have e := h2.rdn
  rw [h1.rdn] at e
  exact e

theorem RoleShape.goSyncing (x : Half) : RoleShape x x.goSyncing := by
  obtain ⟨o, ho⟩ := Half.goSyncing_sent x
  refine ⟨fun a ha => Half.goSyncing_rd x ?_, ⟨o, x.sent.grace, ho⟩, ?_, fun b hb => Half.goSyncing_event x hb,
    fun lo n h _ => Half.goSyncing_field x h⟩
  · simp only [roleRegs, List.mem_cons, List.not_mem_nil, or_false] at ha ⊢; tauto
  · have e := Half.abandon_rdn x true
    unfold Half.goSyncing
    simp only [Half.onRdn_rdn, Half.setRole_rdn]
    rw [e]

theorem RoleShape.of_traffic {x y : Half} (hr : ∀ a, a ∉ [Adr.RDN_HANDOVER_STATUS, Adr.RDN_EVENT] → y.rd a = x.rd a)
    (hs : ∃ o, y.sent = { x.sent with handover := o })
    (hd : y.rdn = { x.rdn with breezeOut := y.rdn.breezeOut, txSeq := y.rdn.txSeq })
    (he : ∀ b, x.bit Adr.RDN_EVENT b = true → y.bit Adr.RDN_EVENT b = true) : RoleShape x y := by
  obtain ⟨o, ho⟩ := hs
  refine ⟨fun a ha => hr a ?_, ⟨o, x.sent.grace, ho⟩, ?_, he, fun lo n _ _ => ?_⟩
  · simp only [roleRegs, List.mem_cons, List.not_mem_nil, or_false] at ha ⊢; tauto
  · have p1 := congrArg RdnSt.passes hd
    have p2 := congrArg RdnSt.lastClean hd
    have p3 := congrArg RdnSt.gapSince hd
    have p4 := congrArg RdnSt.compared hd
    have p5 := congrArg RdnSt.badAt hd
    simp only at p1 p2 p3 p4 p5
    simp only [p1, p2, p3, p4, p5]
    exact hd
  · simp only [Half.get]; rw [hr _ (by decide)]

theorem RoleShape.abandon (x : Half) (t : Bool) : RoleShape x (x.abandon t) :=
  RoleShape.of_traffic (fun _ ha => Half.abandon_rd x t ha) (Half.abandon_sent x t) (Half.abandon_rdn x t)
    (fun _ hb => Half.abandon_event x t hb)

theorem RoleShape.putBit (x : Half) (a b : Nat) (v : Bool) (ha : a ∈ [Adr.MSG_STATUS, Adr.RDN_COMPARE_STATUS, Adr.RDN_MIRROR_STATUS]) :
    RoleShape x (x.putBit a b v) := by
  have hin : a ∈ roleRegs := by
    simp only [roleRegs, List.mem_cons, List.not_mem_nil, or_false] at ha ⊢; tauto
  have h1 : Adr.RDN_EVENT ≠ a := by
    simp only [List.mem_cons, List.not_mem_nil, or_false] at ha
    rcases ha with rfl | rfl | rfl <;> decide
  have h2 : Adr.RDN_ROLE_STATUS ≠ a := by
    simp only [List.mem_cons, List.not_mem_nil, or_false] at ha
    rcases ha with rfl | rfl | rfl <;> decide
  refine ⟨fun i hi => Half.rd_putBit_ne x b v (ne_of_notMem hi hin), ⟨_, _, rfl⟩, rfl, fun c hc => ?_, fun lo n _ _ => ?_⟩
  · rw [Half.bit_putBit_ne x b c v h1]; exact hc
  · simp only [Half.get]; rw [Half.rd_putBit_ne x b v h2]

theorem RoleShape.setRole (x : Half) (r : Role) : RoleShape x (x.setRole r) := by
  refine ⟨fun a ha => Half.setRole_rd x r ?_, ⟨x.sent.handover, x.sent.grace, by rw [Half.setRole_sent]⟩, by rw [Half.setRole_rdn],
    fun b hb => Half.setRole_event x r hb, fun lo n h _ => Half.setRole_field x r h⟩
  simp only [roleRegs, List.mem_cons, List.not_mem_nil, or_false] at ha ⊢; tauto

theorem RoleShape.becomeStandby (x : Half) : RoleShape x x.becomeStandby := by
  unfold Half.becomeStandby
  refine ((RoleShape.setRole x .standby).trans (RoleShape.putBit _ Adr.RDN_COMPARE_STATUS 31 false (by simp))).trans ?_
  exact ⟨fun _ _ => rfl, ⟨_, _, rfl⟩, rfl, fun _ h => h, fun _ _ _ _ => rfl⟩

theorem RoleShape.missing (x : Half) (m : Nat) : RoleShape x (x.put Adr.RDN_ROLE_STATUS 16 7 m) := by
  refine ⟨fun a ha => Half.rd_put_ne x _ _ _ (ne_of_notMem ha (by simp [roleRegs])), ⟨_, _, rfl⟩, rfl, fun b hb => ?_, fun lo n _ h => ?_⟩
  · rw [Half.bit_put_ne x _ _ _ _ (by decide)]; exact hb
  · exact Half.get_put_field x _ 16 7 _ lo n (by decide) (Or.inr h)

/-- The check of the role's conditions. -/
theorem Half.roleCheck_shape (x : Half) : RoleShape x x.roleCheck := by
  unfold Half.roleCheck
  simp only
  have h0 : RoleShape x (x.putBit Adr.MSG_STATUS 3 x.libMatch) := RoleShape.putBit x _ _ _ (by simp)
  generalize x.putBit Adr.MSG_STATUS 3 x.libMatch = x0 at h0 ⊢
  refine h0.trans ?_
  generalize hm : x0.missing = m
  have hstep : ∀ y, RoleShape x0 y → ∀ (l f : Bool) (k : Nat) (g : Half → Bool),
      RoleShape x0 ((((y.put Adr.RDN_ROLE_STATUS 16 7 k).putBit Adr.RDN_MIRROR_STATUS 31 l).putBit Adr.RDN_MIRROR_STATUS 30 f).onSent
        fun s => { s with grace := s.grace && g ((y.put Adr.RDN_ROLE_STATUS 16 7 k).putBit Adr.RDN_MIRROR_STATUS 31 l) }) := by
    intro y hy l f k g
    refine (((hy.trans (RoleShape.missing y k)).trans (RoleShape.putBit _ Adr.RDN_MIRROR_STATUS 31 l (by simp))).trans
      (RoleShape.putBit _ Adr.RDN_MIRROR_STATUS 30 f (by simp))).trans ?_
    exact ⟨fun _ _ => rfl, ⟨_, _, rfl⟩, rfl, fun _ h => h, fun _ _ _ _ => rfl⟩
  refine hstep _ ?_ _ _ _ (fun z => !z.bit Adr.TIM_CARRIER_ALIGN 30)
  repeat' split
  all_goals first
    | exact RoleShape.becomeStandby x0
    | exact RoleShape.refl x0
    | exact RoleShape.goSyncing x0

/-- Bringing the transmit slots into line changes registers of transmit slots only. -/
theorem Half.txRefresh_shape (x : Half) :
    x.txRefresh = { x with regs := x.txRefresh.regs } ∧ ∀ a, a < 0x50000 ∨ 0x60000 ≤ a → x.txRefresh.rd a = x.rd a := by
  have one : ∀ (y : Half) (n : Nat), n < 1024 →
      y.txRefreshOne n = { y with regs := (y.txRefreshOne n).regs } ∧
        ∀ a, a < 0x50000 ∨ 0x60000 ≤ a → (y.txRefreshOne n).rd a = y.rd a := by
    intro y n hn
    unfold Half.txRefreshOne
    split
    · exact ⟨rfl, fun _ _ => rfl⟩
    · refine ⟨rfl, fun a ha => ?_⟩
      have e1 : a ≠ Adr.FTX_EVENT n := by simp only [Adr.FTX_EVENT]; omega
      have e2 : a ≠ Adr.FTX_STATUS n := by simp only [Adr.FTX_STATUS]; omega
      rw [Half.rd_event_ne _ _ e1, Half.rd_put_ne _ _ _ _ e2]
  have all : ∀ (ns : List Nat), (∀ n ∈ ns, n < 1024) → ∀ y : Half,
      ns.foldl Half.txRefreshOne y = { y with regs := (ns.foldl Half.txRefreshOne y).regs } ∧
        ∀ a, a < 0x50000 ∨ 0x60000 ≤ a → (ns.foldl Half.txRefreshOne y).rd a = y.rd a := by
    intro ns
    induction ns with
    | nil => intro _ y; exact ⟨rfl, fun _ _ => rfl⟩
    | cons n rest ih =>
      intro hn y
      have h1 := one y n (hn n (by simp))
      have h2 := ih (fun k hk => hn k (List.mem_cons_of_mem _ hk)) (y.txRefreshOne n)
      simp only [List.foldl_cons]
      refine ⟨?_, fun a ha => (h2.2 a ha).trans (h1.2 a ha)⟩
      have e := h2.1
      rw [h1.1] at e
      rw [h1.1]
      exact e
  refine all x.txSlots (fun n hn => ?_) x
  simp only [Half.txSlots, List.mem_map, List.mem_filter, decide_eq_true_eq] at hn
  obtain ⟨p, ⟨_, h1, h2, _⟩, rfl⟩ := hn
  omega

@[simp] theorem Half.txRefresh_sent (x : Half) : x.txRefresh.sent = x.sent := by rw [(Half.txRefresh_shape x).1]
@[simp] theorem Half.txRefresh_rdn (x : Half) : x.txRefresh.rdn = x.rdn := by rw [(Half.txRefresh_shape x).1]
theorem Half.txRefresh_rd (x : Half) {a : Nat} (ha : a < 0x50000 ∨ 0x60000 ≤ a) : x.txRefresh.rd a = x.rd a :=
  (Half.txRefresh_shape x).2 a ha
@[simp] theorem Half.txRefresh_role (x : Half) : x.txRefresh.role = x.role :=
  Half.role_of_rd (Half.txRefresh_rd x (Or.inl (by decide)))

theorem Half.setSvc_rd (x : Half) (on : Bool) {a : Nat} (ha : a ∉ [Adr.MAC_STATUS 0, Adr.MAC_STATUS 1]) : (x.setSvc on).rd a = x.rd a := by
  unfold Half.setSvc
  rw [Half.rd_putBit_ne _ _ _ (ne_of_notMem ha (by simp)), Half.rd_putBit_ne _ _ _ (ne_of_notMem ha (by simp))]
@[simp] theorem Half.setSvc_sent (x : Half) (on : Bool) : (x.setSvc on).sent = x.sent := rfl
@[simp] theorem Half.setSvc_rdn (x : Half) (on : Bool) : (x.setSvc on).rdn = x.rdn := rfl
theorem Half.setSvc_bits (x : Half) (on : Bool) :
    (x.setSvc on).bit (Adr.MAC_STATUS 0) 11 = on ∧ (x.setSvc on).bit (Adr.MAC_STATUS 1) 11 = on := by
  unfold Half.setSvc
  refine ⟨?_, Half.bit_putBit_self _ _ _ _ (by decide)⟩
  rw [Half.bit_putBit_ne _ _ _ _ (by decide)]
  exact Half.bit_putBit_self _ _ _ _ (by decide)

end Sys2Proof.Machine
end

