-- ==== Sys2Proof/Laws/Queue.lean ====
section
/-! SUPPORT. What a push by the hardware leaves alone: every register but its queue's count of dropped items, and everything of the
half but queues and the completions of stalled pops. -/

namespace Sys2Proof.Machine

/-- y is x after pushes to queue q. -/
structure Pushed (q : Nat) (x y : Half) : Prop where
  same : y = { x with regs := y.regs, queues := y.queues, acc := y.acc }
  regs : ∀ a, a ≠ Adr.QM_DROP_CNT q → y.rd a = x.rd a
  waits : y.acc.frame = x.acc.frame ∧ y.acc.host.backlog = x.acc.host.backlog ∧ y.acc.mgmt.backlog = x.acc.mgmt.backlog

theorem Pushed.refl (q : Nat) (x : Half) : Pushed q x x := ⟨rfl, fun _ _ => rfl, rfl, rfl, rfl⟩

theorem Pushed.trans {q : Nat} {x y z : Half} (h1 : Pushed q x y) (h2 : Pushed q y z) : Pushed q x z := by
  refine ⟨?_, fun a ha => (h2.regs a ha).trans (h1.regs a ha), h2.waits.1.trans h1.waits.1, h2.waits.2.1.trans h1.waits.2.1,
    h2.waits.2.2.trans h1.waits.2.2⟩
  have e := h2.same
  rw [h1.same] at e
  exact e

theorem Pushed.sent {q : Nat} {x y : Half} (h : Pushed q x y) : y.sent = x.sent := by rw [h.same]
theorem Pushed.rdn {q : Nat} {x y : Half} (h : Pushed q x y) : y.rdn = x.rdn := by rw [h.same]
theorem Pushed.still {q : Nat} {x y : Half} (h : Pushed q x y) (hs : x.acc.still) : y.acc.still :=
  ⟨h.waits.1.trans hs.1, h.waits.2.1.trans hs.2.1, h.waits.2.2.trans hs.2.2⟩

theorem Half.setQueue_pushed (x : Half) (q : Nat) (u : Queue) : Pushed q x (x.setQueue q u) :=
  ⟨rfl, fun _ _ => rfl, rfl, rfl, rfl⟩

theorem Half.count_pushed (x : Half) (q lo n d : Nat) : Pushed q x (x.count (Adr.QM_DROP_CNT q) lo n d) :=
  ⟨rfl, fun _ ha => Half.rd_count_ne x _ _ _ ha, rfl, rfl, rfl⟩

theorem Half.writeHeld_pushed (x : Half) (q : Nat) : Pushed q x (x.writeHeld q) := by
  unfold Half.writeHeld
  simp only
  split
  · exact Pushed.refl q x
  · split
    · exact Half.setQueue_pushed x q _
    · exact Pushed.refl q x

theorem Half.finishPop_pushed (x : Half) (r : Req) (q k : Nat) (v : BitVec 64) : Pushed k x (x.finishPop r q v) := by
  refine ⟨rfl, fun _ _ => rfl, ?_⟩
  cases r <;> exact ⟨rfl, rfl, rfl⟩

theorem Half.serveStall_pushed (x : Half) (q : Nat) : Pushed q x (x.serveStall q) := by
  unfold Half.serveStall Half.takeItem
  simp only
  split
  · split
    · exact (Half.setQueue_pushed x q _).trans (Half.finishPop_pushed _ _ _ _ _)
    · exact (((Half.setQueue_pushed x q _).trans (Half.setQueue_pushed _ q _)).trans (Half.writeHeld_pushed _ q)).trans
        (Half.finishPop_pushed _ _ _ _ _)
  · exact Pushed.refl q x

theorem Half.dropItems_pushed (x : Half) (q k p src : Nat) : Pushed q x (x.dropItems q k p src) := by
  unfold Half.dropItems
  simp only
  refine (Half.count_pushed x q 0 32 k).trans ?_
  generalize x.count (Adr.QM_DROP_CNT q) 0 32 k = y
  split
  · exact Half.setQueue_pushed y q _
  · split
    · split
      · exact Half.setQueue_pushed y q _
      · exact (Half.setQueue_pushed y q _).trans (Half.writeHeld_pushed _ q)
    · exact (Half.setQueue_pushed y q _).trans (Half.writeHeld_pushed _ q)

theorem Half.pushItems_pushed (x : Half) (q : Nat) (items : List (BitVec 64)) (p src : Nat) : Pushed q x (x.pushItems q items p src) := by
  unfold Half.pushItems
  simp only
  split
  · exact (Half.setQueue_pushed x q _).trans (Half.serveStall_pushed _ q)
  · exact Half.dropItems_pushed x q _ _ _

/-- A push by the hardware. -/
theorem Half.hwPush_pushed (x : Half) (q src : Nat) (data : List Nat) : Pushed q x (x.hwPush q src data) := by
  unfold Half.hwPush
  split
  · exact Pushed.refl q x
  · split
    · exact Half.count_pushed x q 0 32 _
    · exact Half.pushItems_pushed x q _ _ _

theorem Half.hwPush_rd (x : Half) (q src : Nat) (data : List Nat) {a : Nat} (ha : a ≠ Adr.QM_DROP_CNT q) :
    (x.hwPush q src data).rd a = x.rd a := (Half.hwPush_pushed x q src data).regs a ha

@[simp] theorem Half.hwPush_sent (x : Half) (q src : Nat) (data : List Nat) : (x.hwPush q src data).sent = x.sent :=
  (Half.hwPush_pushed x q src data).sent

@[simp] theorem Half.hwPush_rdn (x : Half) (q src : Nat) (data : List Nat) : (x.hwPush q src data).rdn = x.rdn :=
  (Half.hwPush_pushed x q src data).rdn

end Sys2Proof.Machine
end

