-- ==== Sys2Proof/Laws/Shared.lean ====
section
/-! SUPPORT. What no operation of the package moves: the queue of waiting commands and the wired enable logic. One lemma for each
operation that changes a state. -/

namespace Sys2Proof.Machine

open Sys2Proof

/-- The queue of waiting commands and the pull of the wired enable logic. -/
def State.shared (s : State) : List Instr × Bool := (s.pending, s.wiredFault)

theorem State.shared_ext {s t : State} (h : s.shared = t.shared) : s.pending = t.pending ∧ s.wiredFault = t.wiredFault :=
  ⟨congrArg Prod.fst h, congrArg Prod.snd h⟩

@[simp] theorem State.setHalf_shared (s : State) (h : HalfId) (x : Half) : (s.setHalf h x).shared = s.shared := by cases h <;> rfl
@[simp] theorem State.on_shared (s : State) (h : HalfId) (f : Half → Half) : (s.on h f).shared = s.shared := by cases h <;> rfl

/-- Folding operations that keep both keeps both. -/
theorem foldl_shared {α : Type} {f : State → α → State} (hf : ∀ t x, (f t x).shared = t.shared) (l : List α) (s : State) :
    (l.foldl f s).shared = s.shared := by
  induction l generalizing s with
  | nil => rfl
  | cons x l ih => exact (ih _).trans (hf s x)

@[simp] theorem State.lines_shared (s : State) : s.lines.shared = s.shared := by
  simp [State.shared]

@[simp] theorem State.psen_shared (s : State) : s.psen.shared = s.shared := by
  simp [State.shared]

@[simp] theorem State.select_shared (s : State) (h : HalfId) : (s.select h).shared = s.shared := State.setHalf_shared s h _

@[simp] theorem State.refChange_shared (s : State) (h : HalfId) (f : Half → Half) : (s.refChange h f).shared = s.shared := by
  simp only [State.refChange]; repeat' split
  all_goals simp

@[simp] theorem State.endKill_shared (s : State) (h : HalfId) (k : KillHold) : (s.endKill h k).shared = s.shared := by
  simp only [State.endKill, State.lines_shared, State.on_shared]

@[simp] theorem State.writeKillCtrl_shared (s : State) (h : HalfId) (v : Word) : (s.writeKillCtrl h v).shared = s.shared := by
  simp only [State.writeKillCtrl]; split <;> simp

@[simp] theorem State.writeBulk_shared (s : State) (h : HalfId) : (s.writeBulk h).shared = s.shared := by
  simp only [State.writeBulk]; split <;> simp

@[simp] theorem State.putReg_shared (s : State) (h : HalfId) (q : Req) (l : Loc) (a : Nat) (v : Word) :
    (s.putReg h q l a v).shared = s.shared := by
  unfold State.putReg; split
  all_goals (try split) <;> simp

@[simp] theorem State.tmrFault_shared (s : State) (h : HalfId) (q : Req) (x : Access) (r : Region) :
    (s.tmrFault h q x r).shared = s.shared := by simp only [State.tmrFault, State.lines_shared, State.on_shared]

@[simp] theorem State.readLo_shared (s : State) (h : HalfId) (q : Req) (l : Loc) (a : Nat) : (s.readLo h q l a).2.shared = s.shared := by
  simp [State.readLo]

@[simp] theorem State.readHi_shared (s : State) (h : HalfId) (q : Req) (l : Loc) (a : Nat) : (s.readHi h q l a).2.shared = s.shared := by
  simp only [State.readHi]; repeat' split
  all_goals simp

@[simp] theorem State.popAt_shared (s : State) (h : HalfId) (q : Req) (i : Nat) (e : Ecc) : (s.popAt h q i e).2.shared = s.shared := by
  simp only [State.popAt]; split <;> simp

@[simp] theorem State.readWord_shared (s : State) (h : HalfId) (q : Req) (l : Loc) (a : Nat) (x : Access) :
    (s.readWord h q l a x).2.shared = s.shared := by
  unfold State.readWord; split
  · simp
  · simp
  · simp
  · split
    · split <;> simp
    · split <;> simp
    · simp

@[simp] theorem State.writePair_shared (s : State) (h : HalfId) (q : Req) (l : Loc) (a : Nat) (lo hi : Word) :
    (s.writePair h q l a lo hi).shared = s.shared := by
  unfold State.writePair; repeat' split
  all_goals simp

@[simp] theorem State.storeWord_shared (s : State) (h : HalfId) (q : Req) (l : Loc) (a : Nat) (v : Word) :
    (s.storeWord h q l a v).shared = s.shared := by
  simp only [State.storeWord]; repeat' split
  all_goals simp

@[simp] theorem State.confirmSlot_shared (s : State) (h : HalfId) (q : Req) (l : Loc) (a : Nat) (v : Word) :
    (s.confirmSlot h q l a v).shared = s.shared := by
  simp only [State.confirmSlot]; repeat' split
  all_goals simp

@[simp] theorem State.writeWord_shared (s : State) (h : HalfId) (q : Req) (l : Loc) (a : Nat) (v : Word) :
    (s.writeWord h q l a v).shared = s.shared := by
  simp only [State.writeWord]; repeat' split
  all_goals simp

@[simp] theorem State.direct_shared (s : State) (h : HalfId) (q : Req) (x : Access) : (s.direct h q x).2.shared = s.shared := by
  simp only [State.direct]; repeat' split
  all_goals simp

@[simp] theorem State.aliasAccess_shared (s : State) (h : HalfId) (q : Req) (x : Access) :
    (s.aliasAccess h q x).2.shared = s.shared := by
  unfold State.aliasAccess
  simp only
  repeat' split
  all_goals simp

@[simp] theorem State.local_shared (s : State) (h : HalfId) (q : Req) (x : Access) : (s.local_ h q x).2.shared = s.shared := by
  simp only [State.local_]; split <;> simp

theorem ite_shared {c : Prop} [Decidable c] {p q : Answer × State} {k : List Instr × Bool} (hp : p.2.shared = k)
    (hq : q.2.shared = k) : (if c then p else q).2.shared = k := by split <;> assumption

@[simp] theorem State.window_shared (s : State) (h : HalfId) (q : Req) (x : Access) : (s.window h q x).2.shared = s.shared := by
  unfold State.window
  refine ite_shared (by simp) (ite_shared (by simp) (ite_shared (by simp) ?_))
  have hk := State.local_shared (s.on h fun y => y.dropHeldLo q x) h.other .partner { x with addr := x.addr - 0x10000000 }
  revert hk
  generalize (s.on h fun y => y.dropHeldLo q x).local_ h.other .partner { x with addr := x.addr - 0x10000000 } = r
  intro hk
  obtain ⟨_ | _ | _ | _, t⟩ := r <;> simpa using hk

@[simp] theorem State.access_shared (s : State) (h : HalfId) (q : Req) (x : Access) : (s.access h q x).2.shared = s.shared := by
  have hk : (if 0x10000000 ≤ x.addr then s.window h q x else s.local_ h q x).2.shared = s.shared := by split <;> simp
  unfold State.access
  split <;> (rename_i e; first | (rw [e] at hk; simpa using hk) | exact hk)

@[simp] theorem State.frameRun_shared (h : HalfId) (rd : Bool) (n : Nat) (l : List (Nat × Word)) (ws : List Word) (s : State) :
    (s.frameRun h rd n l ws).shared = s.shared := by
  induction l generalizing s ws with
  | nil => simp [State.frameRun]
  | cons p l ih =>
    have hk := State.access_shared s h .qspi ⟨p.1, .w32, !rd, p.2, .ok⟩
    unfold State.frameRun
    split <;> (rename_i e; rw [e] at hk; simp_all)

@[simp] theorem State.frame_shared (s : State) (h : HalfId) (cmd : Byte) (addr : Word) (count crc : Byte) (data : List Word)
    (dcrc : Byte) : (s.frame h cmd addr count crc data dcrc).shared = s.shared := by
  unfold State.frame
  simp only
  repeat' split
  all_goals simp

@[simp] theorem State.resumeFrame_shared (s : State) (h : HalfId) : (s.resumeFrame h).shared = s.shared := by
  simp only [State.resumeFrame]; repeat' split
  all_goals simp

@[simp] theorem State.drainPort_shared (h : HalfId) (q : Req) (n : Nat) (s : State) : (s.drainPort h q n).shared = s.shared := by
  induction n generalizing s with
  | zero => rfl
  | succ n ih => simp only [State.drainPort]; repeat' split
                 all_goals simp [ih]

@[simp] theorem State.drain_shared (s : State) (h : HalfId) : (s.drain h).shared = s.shared := by simp [State.drain]

@[simp] theorem State.settle_shared (s : State) : s.settle.shared = s.shared := by simp [State.settle]

@[simp] theorem State.request_shared (s : State) (h : HalfId) (q : Req) (x : Access) : (s.request h q x).shared = s.shared := by
  simp only [State.request]; split <;> simp

@[simp] theorem State.ask_shared (s : State) (h : HalfId) (q : Req) (a : Nat) (w : Width) (wr : Bool) (d : BitVec 64) (e : Ecc) :
    (s.ask h q a w wr d e).shared = s.shared := by
  unfold State.ask; simp only; split
  · rfl
  · split <;> simp

@[simp] theorem State.issue_shared (s : State) (h : HalfId) (q : Req) (a : Nat) (w : Width) (wr : Bool) (d : BitVec 64) (e : Ecc) :
    (s.issue h q a w wr d e).shared = s.shared := by unfold State.issue; split <;> simp

@[simp] theorem State.write_shared (s : State) (h : HalfId) (q : Req) (a : Nat) (v : Word) : (s.write h q a v).shared = s.shared := by
  simp [State.write]

@[simp] theorem State.read_shared (s : State) (h : HalfId) (q : Req) (a : Nat) (w : Width) : (s.read h q a w).shared = s.shared := by
  simp [State.read]

@[simp] theorem State.pairWrite_shared (s : State) (h : HalfId) (q : Req) (a : Nat) (v : Word) :
    (s.pairWrite h q a v).shared = s.shared := by
  simp only [State.pairWrite, State.write_shared]; split <;> simp

@[simp] theorem State.scrubWord_shared (s : State) (h : HalfId) (a : Nat) : (s.scrubWord h a).shared = s.shared := by
  unfold State.scrubWord; split <;> simp

@[simp] theorem State.proceedAlone_shared (s : State) (h : HalfId) (ofs : Nat) : (s.proceedAlone h ofs).shared = s.shared := by
  simp [State.proceedAlone]

@[simp] theorem State.finishCopy_shared (s : State) (h : HalfId) (load : Bool) : (s.finishCopy h load).shared = s.shared := by
  simp only [State.finishCopy]; split <;> simp

@[simp] theorem State.shareTarget_shared (s : State) (h : HalfId) : (s.shareTarget h).shared = s.shared := by
  simp only [State.shareTarget]; repeat' split
  all_goals simp

@[simp] theorem State.writeWide_shared (s : State) (h : HalfId) (q : Req) (a : Nat) (hi : Bool) (v : Word) :
    (s.writeWide h q a hi v).shared = s.shared := by
  simp only [State.writeWide]; split <;> simp

@[simp] theorem State.takeField_shared (s : State) (h : HalfId) (a : Nat) : (s.takeField h a).shared = s.shared := by
  unfold State.takeField; simp only; repeat' split
  all_goals simp

@[simp] theorem State.takeItem_shared (s : State) (h : HalfId) (k : MirrorKind) : (s.takeItem h k).shared = s.shared := by
  unfold State.takeItem; split <;> simp

@[simp] theorem State.takeMirror_shared (s : State) (h : HalfId) : (s.takeMirror h).shared = s.shared := by
  unfold State.takeMirror; simp only; split
  · rw [State.psen_shared, foldl_shared (fun t k => State.takeItem_shared t h k), State.on_shared]
  · simp

@[simp] theorem State.resyncPass_shared (s : State) (h : HalfId) : (s.resyncPass h).1.shared = s.shared := by
  simp only [State.resyncPass, State.psen_shared, State.setHalf_shared]
  exact foldl_shared (fun t a => State.takeField_shared t h a) _ _

@[simp] theorem State.receive_shared (s : State) (h : HalfId) (t : Nat) (b : Bool) (f : BreezeMsg → Half → Half) :
    (s.receive h t b f).shared = s.shared := by
  unfold State.receive; simp only; repeat' split
  all_goals simp

@[simp] theorem State.claimNow_shared (s : State) (h : HalfId) (k : Nat) : (s.claimNow h k).shared = s.shared := by
  simp only [State.claimNow]; split <;> simp

@[simp] theorem State.onarDown_shared (s : State) (h : HalfId) : (s.onarDown h).shared = s.shared := by
  simp only [State.onarDown]; split <;> simp

@[simp] theorem State.startRecovery_shared (s : State) (h : HalfId) : (s.startRecovery h).shared = s.shared := by
  simp only [State.startRecovery]; repeat' split
  all_goals simp

end Sys2Proof.Machine
end

