-- ==== Sys2Proof/Tests/Slice0.lean ====
section
/-! SUPPORT. The model's own tests: what the well-formedness check refuses, commands run on small states against the words of the
spec, and for every statement states that meet its hypotheses. -/

set_option Elab.async false

namespace Sys2Proof.Tests

open Sys2Proof Sys2Proof.Machine

/-- A half that runs with every region up, otherwise as after reset. -/
def base (h : HalfId) : Half :=
  { Half.init h with phase := .running, regions := [.up, .up, .up, .up, .up, .up, .up, .up] }

/-- A package of two such halves, Half A changed by f. -/
def withA (f : Half → Half) : State := { a := f (base .a), b := base .b, wiredFault := false, pending := [] }

/-- A package of two such halves, both changed. -/
def withBoth (f g : Half → Half) : State := { a := f (base .a), b := g (base .b), wiredFault := false, pending := [] }


/-! What the well-formedness check refuses: one command for each check. -/

theorem test_wf_tdmSlots : (Instr.blockBoundary .a [] [⟨0, 0, List.replicate 33 0⟩]).wf = false := by decide
theorem test_wf_channelCount : (Instr.carrierBoundary .a 0 [] []).wf = false := by decide
theorem test_wf_mapAddress : (Instr.registerWrite .a .mgmt 0x08000000 .w32 0).wf = false := by decide
theorem test_wf_rcAddress : (Instr.rcRead .a .mgmt 0x10000000 .w32).wf = false := by decide
theorem test_wf_shadowAligned : (Instr.shadowLoRead .a .mgmt 0x1022).wf = false := by decide
theorem test_wf_heldAligned : (Instr.heldLoWrite .a .mgmt 0x1029 0).wf = false := by decide
theorem test_wf_hiAligned : (Instr.hiWrite .a .mgmt 0x102D 0).wf = false := by decide
theorem test_wf_valueAligned : (Instr.pairedValueWrite .a .mgmt 0x41 0).wf = false := by decide
theorem test_wf_confirmAligned : (Instr.pairedConfirm .a .mgmt 0x45 0).wf = false := by decide
theorem test_wf_slotAligned : (Instr.confirmWindowExpiry .a .mgmt 0x42).wf = false := by decide
theorem test_wf_upsetAddress : (Instr.tmrScrub .a [(0x10030001, 0, 0)]).wf = false := by decide
theorem test_wf_aliasAddress : (Instr.aliasRead .a .mgmt 0x1000).wf = false := by decide
theorem test_wf_aliasWriteAddress : (Instr.aliasWrite .a .mgmt 0x10000000 1).wf = false := by decide
theorem test_wf_windowAddress : (Instr.partnerWindowAccess .a .mgmt 0x1000 .w32 false 0).wf = false := by decide
theorem test_wf_windowTop : (Instr.partnerTimeout .a .mgmt 0x20000000 false).wf = false := by decide
theorem test_wf_descriptorWords : (Instr.ringTailWrite .a .mgmt 0 ⟨true, 0⟩ 1 [[0, 0, 0]]).wf = false := by decide
theorem test_wf_ctrlAligned : (Instr.unitEnableChange .a .mgmt 0x92006 true).wf = false := by decide
theorem test_wf_pageAligned : (Instr.clusterSharedStateFault .a 0x92002).wf = false := by decide
theorem test_wf_frameSlots : (Instr.tdmFrameStart .a 0 0 0 0 (List.replicate 33 0)).wf = false := by decide
theorem test_wf_profile : (Instr.profileApply .a .mgmt 7).wf = false := by decide
theorem test_wf_codes : (Instr.profileRelease .a 0 [[0], [0, 1]]).wf = false := by decide
theorem test_wf_systemValues : (Instr.systemProfileOutput .a [] 0 0).wf = false := by decide
theorem test_wf_cmWords : (Instr.cmReport .a []).wf = false := by decide
theorem test_wf_bands : (Instr.larkspurUpdate .a 0 ⟨[], 0, 0, 0⟩).wf = false := by decide
theorem test_wf_emptyPacket : (Instr.packetPush .a 16 []).wf = false := by decide
theorem test_wf_senseStats : (Instr.crossSenseWindow [] []).wf = false := by decide
theorem test_wf_ntcIndex : (Instr.ampDiffExpiry .a true 4).wf = false := by decide
theorem test_wf_driftCount : (Instr.wearMeasurement .a []).wf = false := by decide
theorem test_wf_plain : (Instr.registerWrite .a .mgmt 0x10048 .w32 7).wf = true := by decide

/-- The table gives its rows no bits. -/
theorem test_decode_none : decodeTableWord 0 0 = none := rfl

/-! Values that the spec or a standard it names gives. -/

/-- The check value over "123456789" that the chapter on the boot flash gives. -/
theorem test_crc32 : crc32 [0x31, 0x32, 0x33, 0x34, 0x35, 0x36, 0x37, 0x38, 0x39] = 0xCBF43926#32 := by decide +kernel

/-- FIPS 180-4, the digest of "abc": its first four bytes. -/
theorem test_sha256 : (sha256 [0x61, 0x62, 0x63]).take 4 = [0xBA, 0x78, 0x16, 0xBF] := by decide +kernel

/-- Reset values of the index (R614): DIE.ID, RDN.ID, HB_TIMEOUT, COMPARE_LIMIT, Q3.CFG. -/
theorem test_resetWords :
    [0x0, 0x10000, 0x10024, 0x10048, 0xC10E0].map (resetWord .a) = [0x010000A0#32, 0x040000A0#32, 0x28#32, 0x50#32, 0x38000014#32] := by
  decide +kernel

/-- The map leaves +0x18 of a page unimplemented and puts nothing above the register pages (R53, R59). -/
theorem test_unimplemented : (locate 0x10018).isNone = true ∧ (locate 0xF000).isNone = true ∧ (locate 0x10048).isSome = true := by
  decide +kernel

/-- A queue of two commands: the second waits while the first runs; an empty queue idles. -/
theorem test_stepQueue : step { State.reset with pending := [.faultRelease, .faultRelease] }
    = exec .faultRelease { State.reset with pending := [.faultRelease] } := rfl

/-- The states that the statements on the queue and on FAULT_n ask for. -/
theorem wit_queue :
    (∀ c ∈ [Instr.faultRelease], c.wf = true) ∧ State.reset.queueWf ∧
    ∃ t, step { State.reset with pending := [.faultRelease] } = .next t :=
  ⟨by decide, by intro c hc; exact absurd hc (List.not_mem_nil), _, rfl⟩

theorem wit_fault :
    (withA fun x => x).wiredFault = false ∧ (withA fun x => x).wiredCond = true ∧
    (withA fun x => x.onSent fun y => { y with own := true }).wiredCond = false ∧ State.reset.wiredFault = true := by
  decide +kernel
/-! Ethernet MACs. -/

/-- Port 0 with EN 1, MODE 1, its link down. -/
def macDown : State := withA fun x => x.wr (Adr.MAC_CTRL 0) 0x3
/-- The same with its link up at 10 Gb/s. -/
def macUp : State := withA fun x => (x.wr (Adr.MAC_CTRL 0) 0x3).wr (Adr.MAC_STATUS 0) 7
/-- A port with MODE 2 and a link down. -/
def macFixed : State := withA fun x => x.wr (Adr.MAC_CTRL 0) 0x2005
/-- The same with auto-negotiation off. -/
def macForced : State := withA fun x => x.wr (Adr.MAC_CTRL 0) 0x5
/-- A Clause 22 read frame in progress. -/
def mdioReads : State := withA fun x => x.wr (Adr.MAC_MDIO_CMD 0) 0xA0000000#32
/-- A Clause 45 write frame in progress. -/
def mdioWrites : State := withA fun x => x.wr (Adr.MAC_MDIO_CMD 1) 0xD0000000#32

theorem wit_portLink :
    ((1, .g10, 3) ∈ linkSpeeds ∧ (macDown.half .a).macOn 0 = true ∧ (macDown.half .a).portUp 0 = false ∧
      (macDown.half .a).get (Adr.MAC_CTRL 0) 1 3 = 1) ∧
    ((macFixed.half .a).macOn 0 = true ∧ (macFixed.half .a).portUp 0 = false ∧
      (macFixed.half .a).get (Adr.MAC_CTRL 0) 1 3 = 2 ∧ (macFixed.half .a).bit (Adr.MAC_CTRL 0) 13 = true ∧ ∀ speed, (2, LineRate.g10, speed) ∉ linkSpeeds) ∧
    ((macForced.half .a).macOn 0 = true ∧ (macForced.half .a).portUp 0 = false ∧ (macForced.half .a).get (Adr.MAC_CTRL 0) 1 3 = 2 ∧
      (macForced.half .a).bit (Adr.MAC_CTRL 0) 13 = false) ∧
    ((macUp.half .a).portUp 0 = true ∧ ((macUp.half .a).mac 0).frames.all (fun f => f.ring.isNone) = true) ∧
    ((mdioReads.half .a).bit (Adr.MAC_MDIO_CMD 0) 31 = true ∧ (mdioReads.half .a).bit (Adr.MAC_MDIO_CMD 0) 30 = false ∧
      (mdioReads.half .a).get (Adr.MAC_MDIO_CMD 0) 28 2 = 2) ∧
    ((mdioWrites.half .a).bit (Adr.MAC_MDIO_CMD 1) 31 = true ∧ (mdioWrites.half .a).get (Adr.MAC_MDIO_CMD 1) 28 2 < 2) := by
  refine ⟨by decide +kernel, ⟨by decide +kernel, by decide +kernel, by decide +kernel, by decide +kernel, by simp [linkSpeeds]⟩, ?_⟩
  decide +kernel

/-- A minimal frame for an own address, FCS included. -/
def ownFrame : List Byte :=
  let body := List.replicate 12 0 ++ [0x12, 0x34] ++ List.replicate 46 0
  body ++ fcsBytes body
/-- A pause frame with quanta 1. -/
def pauseBytes : List Byte :=
  let body := [0x01, 0x80, 0xC2, 0, 0, 1] ++ List.replicate 6 0 ++ [0x88, 0x08, 0, 1, 0, 1] ++ List.replicate 42 0
  body ++ fcsBytes body
/-- An empty receive buffer, and a full one. -/
def emptyBuf : RxOcc := ⟨0, 0, 0⟩
def fullBuf : RxOcc := ⟨64, 16, 944⟩
/-- A register that reads v, whatever its reset value. -/
def listed (x : Half) (a : Nat) (v : Word) : Half := { x with regs := insertAt a v x.regs }
/-- Port 0 receives; ring 2 runs with a descriptor, and takes what no filter names. -/
def ringReady : State := withA fun x =>
  listed (listed (((((((x.wr (Adr.MAC_CTRL 0) 0x3).wr (Adr.MAC_STATUS 0) 7).wr (Adr.MAC_RX_STEER 0) 2).wr (ringAdr 0 false 2 0xC) 0x801).wr
    (ringAdr 0 false 2 0x18) 1).wr (ringAdr 0 false 2 0x10) 4).onRing 0 false 2 fun m =>
      m.setDesc 0 [0, 0, 0x80000000#32, 0]) (Adr.MAC_HALF_ADDR_LO 0) 0) (Adr.MAC_HALF_ADDR_HI 0) 0
/-- The same with preemption active. -/
def preempts : State := withA fun x => (x.wr (Adr.MAC_CTRL 0) 0xC3).wr (Adr.MAC_STATUS 0) 0x407
/-- Preemption active, a reassembly open. -/
def assembles : State := withA fun x =>
  ((x.wr (Adr.MAC_CTRL 0) 0xC3).wr (Adr.MAC_STATUS 0) 0x407).onMac 0 fun _ => { MacSt.init with assembly := some ⟨1, 2, 5, [9]⟩ }
/-- Verification under way. -/
def verifies : State := withA fun x =>
  ((x.wr (Adr.MAC_CTRL 0) 0x43).wr (Adr.MAC_STATUS 0) 0x107).onMac 0 fun m => { m with verifyTries := 3 }

theorem wit_received :
    (ringReady.half .a).receives 0 = true ∧
    bufferRoom fullBuf ((ringReady.half .a).bufferClass (parseFrame (ownFrame.take (ownFrame.length - 4)))) ownFrame.length
      = false ∧
    bufferRoom emptyBuf ((ringReady.half .a).bufferClass (parseFrame (ownFrame.take (ownFrame.length - 4)))) ownFrame.length
      = true ∧ 64 ≤ ownFrame.length ∧ ownFrame.length ≤ (ringReady.half .a).maxFrame 0 ∧
    ownFrame.drop (ownFrame.length - 4) = fcsBytes (ownFrame.take (ownFrame.length - 4)) := by decide +kernel

theorem wit_received_row :
    let f := parseFrame (ownFrame.take (ownFrame.length - 4))
    let x := ringReady.half .a
    f.etype ≠ 0x8808 ∧ f.etype ≠ 0x86DD ∧ f.ptpFrame = none ∧ x.alarmUdp f = none ∧ f.flowPkt = none ∧
      f.controlFrame = false ∧ f.tci = none ∧ f.badTag = false ∧ x.daAccepted 0 f.da = true ∧ x.exactMatch 0 f.da = none ∧
      x.get (Adr.MAC_RX_STEER 0) 0 2 = 2 ∧ x.ringOn 0 false 2 = true ∧ x.bit (ringAdr 0 false 2 0x18) 1 = false ∧
      0 < x.ringAvail 0 false 2 ∧ ownFrame.length - 4 ≤ x.bufBytes 0 2 ∧
      bitAt (getAt ((x.ringMem 0 false 2).desc (x.ringHead 0 false 2)) 2 0) 31 = true := by decide +kernel

theorem wit_pauseFrame :
    let f := parseFrame (pauseBytes.take (pauseBytes.length - 4))
    f.etype = 0x8808 ∧ beAt f.body 0 2 = 1 ∧ (ringReady.half .a).bit (Adr.MAC_CTRL 0) 4 = false := by decide +kernel

/-- A priority-flow-control frame. -/
def pfcFrame : List Byte :=
  let body := [0x01, 0x80, 0xC2, 0, 0, 1] ++ List.replicate 6 0 ++ [0x88, 0x08, 1, 1] ++ List.replicate 44 0
  body ++ fcsBytes body
theorem wit_pfcFrame :
    let f := parseFrame (pfcFrame.take (pfcFrame.length - 4))
    (ringReady.half .a).receives 0 = true ∧ f.etype = 0x8808 ∧ beAt f.body 0 2 ≠ 1 ∧
    bufferRoom emptyBuf ((ringReady.half .a).bufferClass f) pfcFrame.length = true ∧ 64 ≤ pfcFrame.length ∧
    pfcFrame.length ≤ (ringReady.half .a).maxFrame 0 ∧
    pfcFrame.drop (pfcFrame.length - 4) = fcsBytes (pfcFrame.take (pfcFrame.length - 4)) := by decide +kernel

/-- A frame for another station. -/
def otherFrame : List Byte :=
  let body := [2] ++ List.replicate 11 0 ++ [0x12, 0x34] ++ List.replicate 46 0
  body ++ fcsBytes body
theorem wit_otherFrame :
    (parseFrame (otherFrame.take (otherFrame.length - 4))).etype ≠ 0x8808 ∧
    (ringReady.half .a).daAccepted 0 (parseFrame (otherFrame.take (otherFrame.length - 4))).da = false ∧
    otherFrame.drop (otherFrame.length - 4) = fcsBytes (otherFrame.take (otherFrame.length - 4)) := by decide +kernel

theorem wit_mpackets :
    (preempts.half .a).receives 0 = true ∧ (preempts.half .a).preemptOn 0 = true ∧ (preempts.half .a).macs.length = 2 ∧
    (preempts.half .a).mac 0 = MacSt.init ∧ (macUp.half .a).receives 0 = true ∧ (macUp.half .a).preemptOn 0 = false ∧
    (assembles.half .a).receives 0 = true ∧ (assembles.half .a).preemptOn 0 = true ∧
    (assembles.half .a).mac 0 = { MacSt.init with assembly := some ⟨1, 2, 5, [9]⟩ } ∧
    (verifies.half .a).receives 0 = true ∧ (verifies.half .a).get (Adr.MAC_STATUS 0) 7 3 = 2 := by decide +kernel

/-- A frame of the queue q. -/
def aFrame (q : Nat) : TxFrame := ⟨[1, 2, 3], q, none, none, none, 0, 0, 0⟩
/-- An express frame waits. -/
def waits7 : State := withA fun x =>
  ((x.wr (Adr.MAC_CTRL 0) 0x3).wr (Adr.MAC_STATUS 0) 7).onMac 0 fun m => { m with txq7 := [aFrame 7] }
/-- An express frame waits while a long preemptable frame has been sent for a block, preemption active. -/
def cuts : State := withA fun x =>
  { ((x.wr (Adr.MAC_CTRL 0) 0xC3).wr (Adr.MAC_STATUS 0) 0x403).onMac 0 fun m => { m with
      txq7 := [aFrame 7], current := some { aFrame 0 with bytes := List.replicate 1500 7, fragAt := 1000 } } with age := 0 }
/-- A ring's frame is being sent. -/
def sendsRing : State := withA fun x => x.onMac 0 fun m => { m with current := some { aFrame 0 with ring := some (1, 3, 2) } }
/-- A frame of no ring is being sent. -/
def sends : State := withA fun x => x.onMac 0 fun m => { m with current := some (aFrame 7) }
/-- An audio frame of slot 5 waits. -/
def waits6 : State := withA fun x => x.onMac 0 fun m => { m with txq6 := [{ aFrame 6 with slot := some (5, 1) }] }

theorem wit_transmission :
    ((waits7.half .a).canStart 0 7 0 = true ∧ ((waits7.half .a).mac 0).txq7 = [aFrame 7] ∧
      ((waits7.half .a).mac 0).current = none) ∧
    ((cuts.half .a).canStart 0 7 3000 = true ∧ (cuts.half .a).canStart 0 7 1100 = false ∧
      (cuts.half .a).canStart 0 7 13000 = false ∧ ((cuts.half .a).mac 0).current.isSome = true) ∧
    ((sendsRing.half .a).mac 0).current = some { aFrame 0 with ring := some (1, 3, 2) } ∧
    ((sends.half .a).mac 0).current = some (aFrame 7) ∧
    ((waits6.half .a).mac 0).txq6 = [{ aFrame 6 with slot := some (5, 1) }] := by decide +kernel

/-- The first attempt of a verification. -/
def verifies1 : State := withA fun x => x.wr (Adr.MAC_STATUS 0) 0x107
/-- A pause is in effect, the port impaired or not. -/
def paused (imp : Bool) : State := withA fun x =>
  ((x.wr (Adr.MAC_CTRL 0) 0x13).wr (Adr.MAC_STATUS 0) 0x17).onMac 0 (fun m => { m with pause := some (10, 20) }) |>.putBit
    (Adr.MAC_STATUS 0) 3 imp
/-- A port that takes pause frames, impaired. -/
def takesPause : State := withA fun x => (x.wr (Adr.MAC_CTRL 0) 0x13).wr (Adr.MAC_STATUS 0) 0xF
/-- Idle with EEE allowed; in LPI. -/
def idles : State := withA fun x =>
  ((x.wr (Adr.MAC_CTRL 0) 0x23).wr (Adr.MAC_STATUS 0) 7).wr (Adr.MAC_EEE_TW 0) 17
def inLpi : State := withA fun x => (x.wr (Adr.MAC_CTRL 0) 0x23).wr (Adr.MAC_STATUS 0) 0x27

theorem wit_portStates :
    ((verifies1.half .a).get (Adr.MAC_STATUS 0) 7 3 = 2 ∧
      ((verifies1.half .a).mac 0).verifyTries < clampNat 1 7 ((verifies1.half .a).get (Adr.MAC_VERIFY_LIMIT 0) 0 3)) ∧
    ((verifies.half .a).get (Adr.MAC_STATUS 0) 7 3 = 2 ∧
      clampNat 1 7 ((verifies.half .a).get (Adr.MAC_VERIFY_LIMIT 0) 0 3) ≤ ((verifies.half .a).mac 0).verifyTries) ∧
    ((preempts.half .a).macOn 0 = true ∧ (takesPause.half .a).macOn 0 = true ∧ (takesPause.half .a).portUp 0 = true ∧
      (takesPause.half .a).bit (Adr.MAC_CTRL 0) 4 = true ∧ ((takesPause.half .a).mac 0).pause = none ∧
      (takesPause.half .a).bit (Adr.MAC_STATUS 0) 3 = true) ∧
    (((paused false).half .a).mac 0).pause = some (10, 20) ∧ ((paused false).half .a).bit (Adr.MAC_STATUS 0) 3 = false ∧
    ((idles.half .a).macOn 0 = true ∧ (idles.half .a).portUp 0 = true ∧ (idles.half .a).txIdle 0 = true ∧ (idles.half .a).lpiAllowed 0 = true ∧
      (idles.half .a).bit (Adr.MAC_STATUS 0) 5 = false ∧ (idles.half .a).macs.length = 2) ∧
    (inLpi.half .a).bit (Adr.MAC_STATUS 0) 5 = true := by decide +kernel

/-! Flows. -/

/-- Slot 3 RUNNING with link offset 6, block 100; the samples given are buffered. -/
def plays (st : Nat) (s : RxSlot) : State := withA fun x =>
  ({ ((x.wr (Adr.FRX_CTRL 3) 1).wr (Adr.FRX_TIMING 3) 6).wr (Adr.FRX_STATUS 3) (BitVec.ofNat 32 st) with
    block := 100, mediaIdx := 600 }).onRx 3 fun _ => s
/-- A slot with one sample buffered, for media index 600 + 2 − 6. -/
def oneSample : RxSlot := { RxSlot.init with buf := [(596, [7])], next := 602, gain := 3 }
/-- A slot with nothing buffered. -/
def noSample : RxSlot := { RxSlot.init with next := 602, gain := 3, last := [8], miss := 3 }

theorem wit_playout :
    let x := (plays 2 oneSample).half .a
    x.up .flow = true ∧ x.live = true ∧ (x.rxCfg 3).en = true ∧ (x.rxCfg 3).paired = false ∧ 2 < x.blockLen ∧
    (x.rxs_ 3).next ≤ x.mediaIdx + 2 ∧ (x.rxs_ 3).hold = false ∧ (x.rxs_ 3).changing = none ∧ (x.rxs_ 3).fade = none ∧
    (x.rxCfg 3).link ≤ x.mediaIdx + 2 ∧
    ((x.rxs_ 3).buf.find? fun e => e.1 == x.mediaIdx + 2 - (x.rxCfg 3).link) = some (596, [7]) ∧ x.rxState 3 = 2 := by
  decide +kernel

theorem wit_playout_missing :
    let x := (plays 2 noSample).half .a
    x.up .flow = true ∧ x.live = true ∧ (x.rxCfg 3).en = true ∧ (x.rxCfg 3).paired = false ∧ 2 < x.blockLen ∧
    (x.rxs_ 3).next ≤ x.mediaIdx + 2 ∧ (x.rxs_ 3).hold = false ∧ (x.rxs_ 3).changing = none ∧ (x.rxs_ 3).fade = none ∧
    (x.rxCfg 3).link ≤ x.mediaIdx + 2 ∧
    ((x.rxs_ 3).buf.find? fun e => e.1 == x.mediaIdx + 2 - (x.rxCfg 3).link) = none ∧ x.rxState 3 = 2 ∧
    (x.rxs_ 3).miss < 4 ∧ ((plays 1 noSample).half .a).rxState 3 = 1 := by decide +kernel

/-- A slot whose path was last heard at instant 0, a second ago. -/
def silentPath : State := withA fun x =>
  ({ x.wr (Adr.FRX_STATUS 3) 0x12 with age := 8000 }).onRx 3 fun s => { s with lastArr := some 0 }
/-- A slot whose fade has ended; its committed configuration is enabled. -/
def changed : State := withA fun x =>
  ((x.wr (Adr.FRX_CTRL 3) 1).wr (Adr.FRX_STATUS 3) 4).onRx 3 fun s => { s with
    changing := some ⟨1, 0, 0, 0, 0, 0, []⟩, buf := [(1, [])] }
/-- A RUNNING transmit slot of packet time 1 ms, at media index 96. -/
def launches (imp : Bool) : State := withA fun x =>
  { ((((((x.wr (Adr.FTX_CTRL 5) 1).wr (Adr.FTX_FORMAT 5) 0x300).wr (Adr.FTX_STATUS 5) 1).wr (Adr.MAC_CTRL 0) 0x3).wr
    (Adr.MAC_STATUS 0) 7).putBit (Adr.MAC_STATUS 0) 3 imp) with block := 16, mediaIdx := 96 }

theorem wit_flowSlots :
    (((silentPath.half .a).rxs_ 3).lastArr = some 0 ∧ (silentPath.half .a).bit (Adr.FRX_STATUS 3) 4 = true ∧
      0 + max 1000000 (4 * ptimeNs ((silentPath.half .a).rxCfg 3).ptime) ≤ (silentPath.half .a).now 125000) ∧
    ((changed.half .a).rxState 3 = 4 ∧ ((changed.half .a).rxs_ 3).leave = 0 ∧
      ((changed.half .a).rxs_ 3).changing.isSome = true ∧ (changed.half .a).rxMembers 3 = [3] ∧
      ((changed.half .a).rxCommitted 3).en = true ∧ ((changed.half .a).rxCommitted 3).paired = false ∧
      ((changed.half .a).rxCfg 3).paired = false) := by decide +kernel

theorem wit_launch :
    let x := (launches false).half .a
    let c := x.txCommitted 5
    x.txCfgAt 5 (x.mediaAt 0) = some (c, 48) ∧ bitAt c.timing 31 = false ∧ getBits c.timing 12 1 = 0 ∧
      x.get (Adr.FTX_STATUS 5) 0 3 = 1 ∧ x.up .flow = true ∧ x.live = true ∧
      (48 + packetSamples x.rate96 (getBits c.format 8 3)) * 125000 / x.blockLen + 500 * x.get (Adr.FTX_STATUS 5) 16 12 ≤
        x.mediaIdx * 125000 / x.blockLen + 0 ∧
      x.bit (Adr.MAC_STATUS 0) 3 = false ∧ x.macOn 0 = true ∧ x.portUp 0 = true ∧ x.macs.length = 2 ∧
      ((launches true).half .a).bit (Adr.MAC_STATUS 0) 3 = true := by decide +kernel

/-- The item of a command on Q0: opcode and data bits. -/
def q0Item (op d : Nat) : BitVec 64 := mkItem true false false 0 (2 ^ 48 * op + d)
/-- Q0 and Q1 run in pool mode; Q0 holds one item. -/
def commanded (op d : Nat) : State := withA fun x =>
  ((((x.wr (Adr.Q_CTRL 0) 1).wr (Adr.Q_CTRL 1) 1).wr (Adr.Q_CFG 0) 0x80000000#32).wr (Adr.Q_CFG 1) 0x80000000#32).setQueue 0
    { Queue.empty with items := [q0Item op d] }
/-- The data bits of the item, and the half with it taken. -/
def taken (s : State) (op : Nat) : Option (Nat × Half) := (s.half .a).takeCommand op

/-- A full set of receive slots. -/
def allOpen (s : State) : State := s.on .a fun x => { x with flow := { x.flow with openRx := List.range 1024 } }
/-- Receive slot 9 is open. -/
def oneOpen (s : State) : State := s.on .a fun x => { x with flow := { x.flow with openRx := [9] } }
/-- The half is STANDBY. -/
def standbyA (s : State) : State := s.on .a fun x => x.put Adr.RDN_ROLE_STATUS 0 3 2

theorem wit_firmwareCommands :
    ((taken (commanded 0x21 0) 0x21).isSome = true ∧
      ((taken (commanded 0x21 0) 0x21).map fun p => pickSlot (p.2.flow.slots (p.1.testBit 39)) none) = some (some 0)) ∧
    ((taken (commanded 0x22 9) 0x22).map fun p => (p.2.flow.slots (p.1.testBit 39)).contains (p.1 % 1024)) = some false ∧
    ((taken (oneOpen (commanded 0x22 9)) 0x22).map fun p => p.2.flow.slots (p.1.testBit 39)) = some [9] ∧
    ((taken (commanded 0x11 (2 ^ 32 * 24 + 0x0A000001)) 0x11).map fun p =>
      (badAddr (p.1 % 2 ^ 32) (p.1 / 2 ^ 32 % 64), p.1.testBit 38, p.2.net.length)) = some (false, false, 2) ∧
    ((taken (standbyA (commanded 0x11 (2 ^ 38 + 2 ^ 32 * 24 + 0x0A000001))) 0x11).map fun p => (p.1.testBit 38, p.2.role)) =
      some (true, .standby) ∧
    ((taken (commanded 0x11 0) 0x11).map fun p => badAddr (p.1 % 2 ^ 32) (p.1 / 2 ^ 32 % 64)) = some true ∧
    ((taken (commanded 0x12 5) 0x12).map fun p => (p.2.role, p.2.net.length)) = some (.offline, 2) ∧
    ((taken (standbyA (commanded 0x12 5)) 0x12).map fun p => p.2.role) = some .standby := by decide +kernel

theorem wit_allOpen : pickSlot (((allOpen (commanded 0x21 0)).half .a).flow.slots false) none = none := by decide +kernel

/-- Both ports run with their links up, own address 10.0.0.1. -/
def networked : State := withA fun x =>
  { ((((x.wr (Adr.MAC_CTRL 0) 0x3).wr (Adr.MAC_STATUS 0) 7).wr (Adr.MAC_CTRL 1) 0x3).wr (Adr.MAC_STATUS 1) 7) with
    net := [{ NetPort.init with ownIp := 0x0A000001, svcIp := 0x0A000002 }, NetPort.init] }
/-- The same, ACTIVE and owing a gratuitous ARP. -/
def owesArp : State := networked.on .a fun x =>
  (x.put Adr.RDN_ROLE_STATUS 0 3 3).onRdn fun r => { r with arpDue := true }

theorem wit_networkFirmware :
    ((networked.half .a).fwRuns = true ∧ (networked.half .a).macOn 0 = true ∧ (networked.half .a).portUp 0 = true ∧
      (networked.half .a).macs.length = 2 ∧ ((networked.half .a).netOf 0).ownIp = 0x0A000001 ∧
      (networked.half .a).flow.joined = []) ∧
    ((owesArp.half .a).fwRuns = true ∧ (owesArp.half .a).role = .active ∧ (owesArp.half .a).rdn.arpDue = true ∧
      (owesArp.half .a).rdn.arpAgain = none ∧ ((owesArp.half .a).netOf 0).svcIp ≠ 0) := by decide +kernel

/-- An announcement of a flow of two channels at 1 ms. -/
def anInfo : SapInfo := ⟨1, 2, 3, 0xEF000001, 5004, 1, 1, 3, false, 0⟩
/-- The announcement is kept. -/
def knows : State := withA fun x => { x with flow := { x.flow with sap := [⟨anInfo⟩] } }

theorem wit_sap :
    (sapReceivable anInfo = true ∧ ((networked.half .a).flow.sap.find? fun e => sapSame e.info anInfo) = none) ∧
    ((knows.half .a).fwRuns = true ∧ ((knows.half .a).flow.sap.find? fun e => sapSame e.info anInfo) = some ⟨anInfo⟩ ∧
      ((knows.half .a).flow.sap.find? fun e => e.info.src == 1 && e.info.session == 2) = some ⟨anInfo⟩) := by decide +kernel

/-! The Timing region. -/

/-- Reference 2 enabled, in a state. -/
def refIn (i v : Nat) : State := withA fun x => (x.putBit (Adr.TIM_REF_CFG i) 0 true).put (Adr.TIM_REF_STATUS i) 0 3 v
/-- PTP port 0 is SLAVE and its reference QUALIFIED. -/
def ptpSlave : State := withA fun x =>
  (((x.putBit (Adr.TIM_REF_CFG 0) 0 true).put (Adr.TIM_REF_STATUS 0) 0 3 2).put (Adr.TIM_PTP_STATUS 0) 0 4 9).putBit
    (Adr.TIM_PTP_CFG 0) 17 true
/-- No reference enabled. -/
def noRefs : State := withA fun x => x.putBit (Adr.TIM_REF_CFG 4) 0 false
/-- References 2 and 5 QUALIFIED, 2 selected. -/
def twoRefs : State := withA fun x =>
  ((x.put (Adr.TIM_REF_STATUS 2) 0 3 2).put (Adr.TIM_REF_STATUS 5) 0 3 2).put Adr.TIM_MPLL_STATUS 4 3 2

theorem wit_references :
    (((refIn 2 2).half .a).live = true ∧ ((refIn 2 2).half .a).up .timing = true ∧
      ((refIn 2 2).half .a).bit (Adr.TIM_REF_CFG 2) 0 = true ∧ ((refIn 2 2).half .a).refState 2 = 2 ∧
      (((refIn 2 2).half .a).measure 2 5 (some 7) true).refState 2 = 2) ∧
    ((ptpSlave.half .a).get (Adr.TIM_PTP_STATUS 0) 0 4 = 9 ∧ (ptpSlave.half .a).tim.cd4 = true ∧
      (ptpSlave.half .a).refState 0 = 2 ∧ (ptpSlave.half .a).selected ≠ 0 ∧
      ((ptpSlave.half .a).phaseSample 0 (-9)).refState 0 = 2) ∧
    (((refIn 2 1).half .a).refOn 2 = true ∧ ((refIn 2 1).half .a).refState 2 = 1 ∧
      ((refIn 2 1).half .a).tim.refs.length = 8 ∧ ((refIn 2 1).half .a).refCheck 2 = none ∧
      ((refIn 2 1).half .a).role = .offline ∧ ∀ j : Fin 8, j.val ≠ 2 → j.val ≠ 6 → ((refIn 2 1).half .a).refState j ≠ 2) ∧
    (((refIn 5 3).half .a).refState 5 = 3 ∧ ((refIn 5 3).half .a).refCheck 5 = none) ∧
    ((noRefs.half .a).role = .offline ∧ ∀ j : Fin 8, j.val ≠ 6 → (noRefs.half .a).bit (Adr.TIM_REF_CFG j) 0 = false) ∧
    ((twoRefs.half .a).selected = 2 ∧ (twoRefs.half .a).refState 5 = 2 ∧ (twoRefs.half .a).agree 2 5 = true) := by
  decide +kernel

/-- The media ADPLL in a state, the bandwidth at code 6. -/
def mpll (v : Nat) : State := withA fun x => (x.put Adr.TIM_MPLL_STATUS 0 3 v).onTim fun t => { t with bw := 7 }
/-- The carrier ADPLL in a state, on the partner's carrier. -/
def cpll (v : Nat) : State := withA fun x =>
  ((((x.put Adr.TIM_CPLL_STATUS 0 3 v).putBit Adr.TIM_CPLL_STATUS 3 true).putBit Adr.TIM_CARRIER_ALIGN 31 true).putBit
    Adr.RDN_LINK_STATUS 31 true)

theorem wit_loops :
    ((mpll 1).half .a).get Adr.TIM_MPLL_STATUS 0 3 = 1 ∧ ((mpll 2).half .a).get Adr.TIM_MPLL_STATUS 0 3 = 2 ∧
    min 6 (((mpll 2).half .a).get Adr.TIM_MPLL_BW 0 3) < ((mpll 2).half .a).tim.bw ∧
    ((cpll 1).half .a).get Adr.TIM_CPLL_STATUS 0 3 = 1 ∧ ((cpll 2).half .a).get Adr.TIM_CPLL_STATUS 0 3 = 2 ∧
    ((cpll 2).half .a).live = true ∧ ((cpll 2).half .a).up .timing = true ∧ ((cpll 2).half .a).linkUp = true ∧
    ((cpll 2).half .a).refState 4 = 0 ∧ ((cpll 2).half .a).bit Adr.TIM_CPLL_STATUS 3 = true ∧
    ((cpll 2).half .a).bit Adr.TIM_CARRIER_ALIGN 31 = true := by decide +kernel

/-- PTP port 0 enabled with layer-2 transport, in a state, its port up. -/
def ptpOn (st : Nat) : State := withA fun x =>
  (((x.wr (Adr.TIM_PTP_CFG 0) 0x00460000).put (Adr.TIM_PTP_STATUS 0) 0 4 st).wr (Adr.MAC_CTRL 0) 0x3).wr (Adr.MAC_STATUS 0) 7
/-- An Announce message for it. -/
def announce : PtpMsg := ⟨0xB, 0, true, 0x1122334455667788, 3⟩
/-- CD4 is lost. -/
def noCd4 : State := withA fun x => x.onTim fun t => { t with cd4 := false }

theorem wit_ptp :
    (((ptpOn 4).half .a).live = true ∧ ((ptpOn 4).half .a).up .timing = true ∧ ((ptpOn 4).half .a).refState 0 = 0 ∧
      ((ptpOn 4).half .a).bit (Adr.TIM_REF_CFG 0) 0 = false ∧ ((ptpOn 4).half .a).tim.ptp.length = 2 ∧
      ((ptpOn 4).half .a).ptpHears 0 announce = true ∧ ((ptpOn 4).half .a).ptpAllowed 0 9 = true) ∧
    (((ptpOn 6).half .a).up .control = true ∧ ((ptpOn 6).half .a).bit (Adr.TIM_PTP_CFG 0) 17 = true ∧
      ((ptpOn 6).half .a).ptpSends 0 0 = true ∧ ((ptpOn 6).half .a).macOn 0 = true ∧ ((ptpOn 6).half .a).portUp 0 = true ∧
      ((ptpOn 6).half .a).macs.length = 2 ∧ ((ptpOn 6).half .a).tim.ptp[(0 : Nat)]? = some ⟨0, 0⟩) ∧
    ((noCd4.half .a).tim.cd4 = false ∧ (noCd4.half .a).refState 0 = 0 ∧ (noCd4.half .a).refState 1 = 0 ∧
      (noCd4.half .a).bit (Adr.TIM_REF_CFG 0) 0 = false ∧ (noCd4.half .a).bit (Adr.TIM_REF_CFG 1) 0 = false) := by
  decide +kernel

/-- The management processor may write an address of Half A. -/
theorem grants_mgmt {s : State} {a : Nat} (h1 : (s.half .a).answers .mgmt = true) (h2 : s.a.acc = s.b.acc) (h3 : s.b = base .b)
    (h4 : (s.half .a).takes a = true) : Grants s .a .mgmt a := by
  have hb : s.b.acc.rest := by
    rw [h3]
    exact ⟨rfl, rfl, rfl, ⟨rfl, rfl, rfl⟩, ⟨rfl, rfl, rfl⟩, ⟨rfl, rfl, rfl⟩⟩
  exact ⟨⟨by decide, h1, ⟨by rw [h2]; exact hb, hb⟩⟩, h4⟩

theorem wit_timingWrites :
    Grants (mpll 1) .a .mgmt Adr.TIM_MPLL_OPEN ∧ Grants (mpll 6) .a .mgmt Adr.TIM_MPLL_OPEN ∧
    ((mpll 6).on .a fun x => x.put Adr.TIM_MPLL_STATUS 4 3 6).a.selected = 6 ∧ ((mpll 6).half .a).tim.lockHeld = false ∧
    Grants (mpll 6) .a .mgmt Adr.TIM_SW_FREQ ∧ Grants (refIn 7 2) .a .mgmt Adr.TIM_SWREF_PHASE ∧
    (((refIn 7 2).half .a).phaseSample 7 (signed 32 512 / 256)).refState 7 = 2 ∧ ((refIn 7 2).half .a).selected ≠ 7 ∧
    Grants (ptpOn 4) .a .mgmt (Adr.TIM_PTP_CFG 0) ∧ ((ptpOn 4).half .a).rd (Adr.TIM_PTP_CFG 0) ≠ 0x28D1D3#32 &&& 0xFFFEFFFF#32 :=
  ⟨grants_mgmt (by decide +kernel) rfl rfl (by decide +kernel), grants_mgmt (by decide +kernel) rfl rfl (by decide +kernel),
    by decide +kernel, by decide +kernel, grants_mgmt (by decide +kernel) rfl rfl (by decide +kernel),
    grants_mgmt (by decide +kernel) rfl rfl (by decide +kernel), by decide +kernel, by decide +kernel,
    grants_mgmt (by decide +kernel) rfl rfl (by decide +kernel), by decide +kernel⟩


/-! Plans, the audio graph, the engines. -/

/-- All engines DISABLED. -/
def noEngines (x : Half) : Half := (List.range 8).foldl (fun y e => y.wr (Adr.ENG_STATUS e) 0) x
/-- A submission is checked: with engines in service, or without. -/
def checking (engines : Bool) : State := withA fun x => (if engines then x else noEngines x).wr Adr.GRF_STATUS 1
/-- The half is ACTIVE and knows its partner as STANDBY; the other is STANDBY with a linked partner. -/
def pairOf (f g : Half → Half) : State := withBoth
  (fun x => f (({ x with rdn := { x.rdn with view := some ⟨2, 0, 0, 0, 0, 0⟩ } }.put Adr.RDN_ROLE_STATUS 0 3 3).putBit Adr.RDN_STATUS 5 true))
  (fun x => g ((x.put Adr.RDN_ROLE_STATUS 0 3 2).putBit Adr.RDN_LINK_STATUS 31 true))
/-- The submission of an empty plan. -/
def emptySub : Submission := ⟨none, Placement.init⟩
/-- A commit record is on its way from Half A to Half B. -/
def recordSent (engines : Bool) : State := pairOf (fun x => x.onGraph fun g => { g with recordOut := true })
  (fun x => (if engines then x else noEngines x))
/-- Half A waits for the answer of Half B. -/
def awaiting (ans : Option Bool) : State := pairOf
  (fun x => (x.wr Adr.GRF_STATUS 2).onGraph fun g => { g with sub := some emptySub })
  (fun x => (x.wr Adr.GRF_STATUS 1).onGraph fun g => { g with sub := some emptySub, answer := ans })

/-- The outcome of the checks. -/
def isOk {ε α : Type} : Except ε α → Bool
  | .ok _ => true
  | .error _ => false

theorem wit_plans :
    (((checking true).half .a).live = true ∧ ((checking true).half .a).up .processing = true ∧
      ((checking true).half .a).commitState = 1 ∧ ((checking true).half .a).graph.sub = none ∧
      ((checking true).half .a).acceptsM = true ∧ isOk ((checking true).half .a).checkPlan = true ∧
      ((checking true).half .a).standbyPresent = false) ∧
    (((checking false).half .a).acceptsM = true ∧ isOk ((checking false).half .a).checkPlan = false) ∧
    (((pairOf (fun x => x.wr Adr.GRF_STATUS 1) id).half .a).standbyPresent = true ∧
      ((pairOf (fun x => x.wr Adr.GRF_STATUS 1) id).half .a).acceptsM = true ∧
      isOk ((pairOf (fun x => x.wr Adr.GRF_STATUS 1) id).half .a).checkPlan = true) := by decide +kernel

theorem wit_planAnswers :
    (((recordSent true).half .a).graph.recordOut = true ∧ ((recordSent true).half .b).live = true ∧
      ((recordSent true).half .b).up .processing = true ∧ ((recordSent true).half .b).linkUp = true ∧
      ((recordSent true).half .b).role = .standby ∧ ((recordSent true).half .a).regsWf ∧
      isOk (((recordSent true).half .b).takeStaging ((recordSent true).half .a) false).checkPlan = true ∧
      isOk (((recordSent false).half .b).takeStaging ((recordSent false).half .a) false).checkPlan = false) ∧
    (((awaiting (some true)).half .a).commitState = 2 ∧ ((awaiting (some true)).half .a).graph.sub = some emptySub ∧
      ((awaiting (some true)).half .b).graph.sub = some emptySub ∧ ((awaiting (some true)).half .b).graph.answer = some true ∧
      ((awaiting (some false)).half .b).graph.answer = some false ∧ ((awaiting none).half .b).graph.answer = none ∧
      ((awaiting none).half .b).role = .standby) := by unfold Half.regsWf; decide +kernel

/-- Node 5 of the active bank is a METER node of one channel that pushes to Q20 each block, node 6 a PRIORITY node of zone 3 with
VOX_HOLD 10 ms. -/
def metered : State := withA fun x =>
  { (((((((((x.wr (Adr.NODE_STG 40 + 0x20000) 0x8D000000#32).wr (Adr.NODE_STG 41 + 0x20000) 0x140001#32).wr
    (Adr.NODE_STG 48 + 0x20000) 0x8B000000#32).wr (Adr.NODE_STG 51 + 0x20000) 10).wr (Adr.ZONE_STG 12 + 0x1000) 0x80000006#32).wr
    (Adr.Q_CFG 20) 0xA0000000#32).wr (Adr.Q_CTRL 20) 1).setNode 5 { NodeSt.init with nums := [1], rows := [[0, 0]] }).onZone 3
      fun z => { z with vox := [(2, 0), (4, 60), (2, 60)] }) with age := 100 }

theorem wit_voxAndMeters :
    let x := metered.half .a
    ((x.plan false).zones.find? fun y => y.1 == 3) = some (3, 6) ∧ ((x.plan false).node 6).isSome = true ∧
    ((x.plan false).node 5).map (fun n => (n.type, getBits (n.w 1) 0 16, getBits (n.w 1) 16 6, n.width)) = some (0xD, 1, 20, 1) ∧
    getAt (x.nodeSt 5).nums 0 0 = 1 ∧ x.get (Adr.Q_CFG 20) 28 3 = 2 ∧ x.up .memory = true ∧ x.queueOn 20 = true ∧
    (x.queue 20).held = none ∧ (x.queue 20).waiters = [] ∧ (x.queue 20).items.length + 1 + 1 ≤ x.capacity 20 := by
  decide +kernel

/-- Gust runs with deep tests. -/
def gustOn (x : Half) : Half := x.wr Adr.GST_CTRL 7
/-- Engine 2 in a state, the others SPARE. -/
def engineIs (st : Nat) : State := withA fun x => gustOn (x.wrNat (Adr.ENG_STATUS 2) st)
/-- Engine 2 is LOADED with node 5, on a life-safety path or not. -/
def holdsNode (ls : Bool) : State := (engineIs 2).on .a fun x =>
  ({ if ls then (((((x.wr (Adr.NODE_STG 40 + 0x20000) 0x8D000000#32).wr (Adr.NODE_STG 48 + 0x20000) 0x8B000F00#32).wr
      (Adr.ZONE_STG 12 + 0x1000) 0x80000006#32)).put Adr.RDN_ROLE_STATUS 0 3 3) else x with age := 100 }).onGraph fun g =>
    { g with place := { g.place with parts := [⟨6, 0, 1, 2, 10⟩] } }
/-- A re-placement in a stage. -/
def replacing (stage : Nat) : State := (engineIs 2).on .a fun x =>
  ({ x with age := 9000 }).onGraph fun g => { g with replace := some ⟨100, stage⟩ }
/-- Engine 2 runs its known-answer test. -/
def inKat : State := (engineIs 0).on .a fun x => x.onGraph fun g => { g with kat := [2] }
/-- Engine 2 is LOADED on a STANDBY half. -/
def loadedStandby : State := (engineIs 2).on .a fun x => x.put Adr.RDN_ROLE_STATUS 0 3 2

theorem wit_engines :
    (let x := (holdsNode false).half .a
     x.live = true ∧ x.up .processing = true ∧ x.engState 2 = 2 ∧ (x.plan false).lsNodes.contains 6 = false) ∧
    (let x := (holdsNode true).half .a
     (x.plan false).lsNodes.contains 6 = true ∧ (x.graph.place.parts.any fun p => p.engine == 2 && p.node == 6) = true ∧
      x.role = .active ∧ x.sent.giveUp = .idle ∧ x.sent.dead = false) ∧
    ((replacing 1).half .a).graph.replace = some ⟨100, 1⟩ ∧ ((replacing 2).half .a).graph.replace = some ⟨100, 2⟩ ∧
    (inKat.half .a).graph.kat.contains 2 = true ∧
    (((engineIs 1).half .a).deepTurn = true ∧ ((engineIs 1).half .a).engState 2 = 1 ∧
      (((engineIs 1).half .a).comingPlace.parts.any fun p => p.engine == 2) = false) ∧
    ((loadedStandby.half .a).deepTurn = true ∧ (loadedStandby.half .a).role = .standby ∧
      (loadedStandby.half .a).spareFor 2 = some 0) ∧
    ((engineIs 3).half .a).engState 2 = 3 ∧
    ((engineIs 1).half .a).graph.migrating.length + ((engineIs 1).half .a).retiredRows < 2046 ∧
    (((engineIs 1).half .a).gustRuns 2 = true ∧ ((engineIs 1).half .a).boot.retired.rows.contains 7 = false) := by
  decide +kernel

/-! The alarm path. -/

/-- Zone 3 is valid, with a PRIORITY node; the host may command up to a priority. -/
def hostMay (prio : Nat) : State := withA fun x =>
  ((((x.wr (Adr.NODE_STG 48 + 0x20000) 0x8B000000#32).wr (Adr.ZONE_STG 12 + 0x1000) 0x80000006#32).wrNat Adr.ALM_HOST_MAX_PRI prio).onZone 3
    fun z => { z with feeds := [⟨5, .player 1, none, false⟩], ctl := [(5, none)], mute := 4 }).onGraph fun g => { g with
      players := [(0, ⟨0, false, false⟩)] }

theorem wit_hostAlarm :
    let x := (hostMay 14).half .a
    x.live = true ∧ x.up .control = true ∧ x.up .processing = true ∧ x.holds = false ∧
    x.get Adr.ALM_HOST_MAX_PRI 0 4 = 14 ∧ x.validOf (zonesOf (8#256).toNat) = [3] ∧
    ((sourcesOf false).find? fun y => !x.inUse y) = some (.player 1) ∧
    ((sourcesOf true).find? fun y => !x.inUse y) = some (.tone 0) ∧
    ((hostMay 3).half .a).get Adr.ALM_HOST_MAX_PRI 0 4 < 5 := by decide +kernel

/-- The first 80 bytes of a command of issuer 7: DEACTIVATE 5 in zone 3, sequence 9, key 2, sent at time 0. -/
def alarmHead (issuer : Nat) : List Byte :=
  [0x42, 0x53, 0x59, 0x41, 1, 2, 2, 5] ++ beBytes 4 9 ++ beBytes 4 issuer ++ leBytes 32 8 ++ List.replicate 32 0
/-- The key of slot 2. -/
def alarmKey : List Byte := List.replicate 32 0xAA
/-- The frame of such a command. -/
def alarmBytes (issuer : Nat) : List Byte :=
  etherFrame (groupMac 0xEF000005) [2, 0, 0, 0, 0, 9] 0x0800 (udpDatagram 0 1 0x0A000009 0xEF000005 1000 5200
    (alarmHead issuer ++ (hmacSha256 alarmKey (alarmHead issuer)).take 16))
/-- Such a frame waits; issuer 7 is entry 4. -/
def alarmWaits (issuer role : Nat) : State := withA fun x =>
  (({ (((((x.wr Adr.ALM_UDP_PORT 5200).wr (Adr.ALM_DST_IP 0) 0xEF000005#32).wr (Adr.ALM_ISSUER_ID 4) 7).wr (Adr.ALM_ISSUER_CFG 4)
    0x8004000F#32).wr Adr.ALM_TIME_WINDOW 100) with keys := [[], [], alarmKey] }).put Adr.RDN_ROLE_STATUS 0 3 role).onAlarm fun a =>
    { a with waiting := [⟨0, alarmBytes issuer, 0, 0⟩] }
/-- The datagram and the command of the waiting frame. -/
def alarmParts (s : State) : Option (Udp × AlarmCmd) :=
  match (s.half .a).alarm.waiting with
  | f :: _ => ((s.half .a).alarmUdp (parseFrame f.bytes)).map fun d => (d, f.cmd d ((s.half .a).now 0) (!(s.half .a).bit Adr.TIM_STATUS 2))
  | [] => none

theorem wit_alarmFrames :
    ((alarmParts (alarmWaits 6 3)).map fun p => ((alarmWaits 6 3).half .a).issuerOf p.2.issuer) = some none ∧
    ((alarmParts (alarmWaits 7 3)).map fun p =>
      let x := (alarmWaits 7 3).half .a
      (x.issuerOf p.2.issuer, (x.rd (Adr.ALM_ISSUER_SRC_IP 4)).toNat, decide (1000000000 ≤ x.bucketLevel 4 (x.now 0)), x.holds, x.role)) =
      some (some 4, 0, true, false, .active) ∧
    ((alarmParts (alarmWaits 7 2)).map fun p =>
      let x := (alarmWaits 7 2).half .a
      (x.issuerOf p.2.issuer, decide (1000000000 ≤ x.bucketLevel 4 (x.now 0)), x.holds)) = some (some 4, true, true) := by
  decide +kernel

theorem wit_alarmCheck :
    ((alarmParts (alarmWaits 7 3)).map fun p => ((alarmWaits 7 3).half .a).frameCheck 4 p.1.payload p.2 0) = some none := by
  decide +kernel
theorem wit_alarmCheckHeld :
    ((alarmParts (alarmWaits 7 2)).map fun p => ((alarmWaits 7 2).half .a).frameCheck 4 p.1.payload p.2 0) = some none := by
  decide +kernel

/-- EVAC input 2 enabled, active or not, in a class; entry 2 activates message 1 at level 13 in zone 3. -/
def evacIn (cls : Nat) (active : Bool) : State := withA fun x =>
  (((((x.wr Adr.ALM_EVAC_CFG 4).wrNat (Adr.ALM_EVAC_STATUS 2) cls).putBit (Adr.ALM_EVAC_STATUS 2) 5 active).putBit Adr.ALM_STATUS 10
    active).wr (Adr.ALM_ACT 32) 0x81D00001#32).wr (Adr.ALM_ACT 33) 8

/-- EVAC input 2 in a class, its sense channel valid, with a loop of r Ω. -/
def evacAt (cls r : Nat) : State := (evacIn cls false).on .a fun x =>
  (x.putBit (Adr.SNS_STATUS 66) 0 true).wrNat (Adr.SNS_DERIVED 66) r

/-- R274: 5 % past a boundary in the direction of the move; none from UNKNOWN. -/
theorem test_evac_hysteresis :
    [(0, 15749), (0, 15750), (2, 14250), (2, 14249), (0, 1900), (0, 1899), (1, 190), (1, 189), (4, 15000), (4, 14999)].map
      (fun p => ((evacAt p.1 p.2).half .a).evacReads 2) = [0, 2, 2, 0, 0, 1, 1, 3, 2, 0] := by decide +kernel

theorem wit_evacReads : ((evacAt 0 1000).half .a).evacRuns 2 = true ∧ ((evacAt 0 1000).half .a).evacReads 2 = 1 := by
  decide +kernel

theorem wit_evac :
    (((evacIn 4 false).half .a).evacRuns 2 = true ∧ ((evacIn 4 false).half .a).evacClass 2 = 4 ∧
      ((evacIn 0 false).half .a).evacActive 2 = false) ∧
    (((evacIn 0 false).half .a).holds = false ∧
      (((evacIn 0 false).half .a).actionCmd 2 (((evacIn 0 false).half .a).now 7)).map (fun c => badLive c.code c.prio c.flags) = some false) ∧
    (((evacIn 0 true).half .a).evacActive 2 = true ∧ ((evacIn 0 true).half .a).evacClass 2 ≠ 1 ∧
      bitAt (((evacIn 0 true).half .a).actionWord 2 0) 19 = false) := by decide +kernel

/-! The memories, the message library, the recorder. -/

/-- A half whose memory runs; page 1 and row 7 of the players' area have two recent corrected errors or none. -/
def memRuns (two : Bool) : State := withA fun x =>
  ({ x with age := 9 }).onStore fun t => if two then { t with corrected := [(1, [1, 2])], sramRows := [(0x20007, [1, 2])] } else t
/-- Player 4 is in a pass. -/
def inPass : State := (memRuns false).on .a fun x => x.wr (Adr.MSG_PLAYER 4) 0x80000000#32
/-- A DMA transfer into the staging bank is in progress. -/
def inTransfer : State := withA fun x =>
  ((x.putBit Adr.MEM_STATUS 1 true).wr Adr.MEM_XFER_STATUS 0x80000001#32).onStore fun t => { t with xferLeft := 64 }

theorem wit_memory :
    (((memRuns false).half .a).live = true ∧ ((memRuns false).half .a).up .memory = true ∧
      (((memRuns false).half .a).recentErrors ((memRuns false).half .a).store.corrected ((0x1040#32).toNat / 4096)).length < 3 ∧
      ((memRuns false).half .a).boot.retired.pages.length < 4096) ∧
    3 ≤ (((memRuns true).half .a).recentErrors ((memRuns true).half .a).store.corrected ((0x1040#32).toNat / 4096)).length ∧
    (((memRuns false).half .a).plan false).lsNodes.contains 5 = false ∧
    (inPass.half .a).bit (Adr.MSG_PLAYER 4) 31 = true ∧
    (((memRuns false).half .a).boot.retired.rows.contains (rowNumber .players 7) = false ∧
      ((memRuns false).half .a).spareRowsUsed < 48 ∧
      (((memRuns false).half .a).recentErrors ((memRuns false).half .a).store.sramRows (rowNumber .players 7)).length < 3 ∧
      3 ≤ (((memRuns true).half .a).recentErrors ((memRuns true).half .a).store.sramRows (rowNumber .players 7)).length) ∧
    ((inTransfer.half .a).bit Adr.MEM_STATUS 1 = true ∧ (inTransfer.half .a).store.xferPio = false ∧
      (inTransfer.half .a).store.xferArea = 0 ∧ (inTransfer.half .a).store.xferBad = false) := by decide +kernel

/-- Half A loads a library of a number of messages, in a state of the load; a copy is in progress or none. -/
def loading (st count : Nat) (copy : Option Bool) : State := pairOf
  (fun x => (((x.put Adr.MSG_STATUS 4 3 st).wrNat Adr.MSG_LIB_COMMIT count).putBit Adr.RDN_LINK_STATUS 31 true).onStore fun t =>
    { t with copying := copy }) id
/-- The same without a known partner. -/
def loadingAlone (st count : Nat) : State := (loading st count none).on .a fun x => x.putBit Adr.RDN_STATUS 5 false
/-- A library is in service at Half A; the partner has another generation. -/
def inServiceA : State := (loading 0 0 none).on .a fun x => (x.putBit Adr.MSG_STATUS 0 true).wr Adr.MSG_LIB_GEN 5
/-- Message 0 is VALID with no content, and an index CRC that is wrong. -/
def badMessage : State := inServiceA.on .a fun x => x.onStore fun t => { t with dram := [(0, 0x80), (3, 1)] }

theorem wit_library :
    (let x := (loading 2 1 none).half .a
     x.libState = 2 ∧ x.live = true ∧ x.verifyBank x.bankOut (x.get Adr.MSG_LIB_COMMIT 0 13) = some (1, 0)) ∧
    (let x := (loading 2 0 none).half .a
     x.verifyBank x.bankOut (x.get Adr.MSG_LIB_COMMIT 0 13) = none ∧ x.role = .active ∧ x.partnerStandby = true) ∧
    ((loadingAlone 2 0).half .a).partnerStandby = false ∧
    (((loading 3 0 (some true)).half .a).store.copying = some true ∧ (loading 3 0 (some true)).canCopy .a = true) ∧
    (((loading 0 0 (some false)).half .a).store.copying = some false ∧ (loading 0 0 (some false)).canCopy .a = true ∧
      (let y := ((loading 0 0 (some false)).half .b).takeCopy
        (((loading 0 0 (some false)).half .a).copyWords ((loading 0 0 (some false)).half .a).bankIn)
       y.verifyBank y.bankOut (y.validMessages y.bankOut).length = none)) ∧
    (((loading 4 0 none).half .a).libState = 4 ∧ ((loading 4 0 none).half .a).linkUp = true ∧
      ((loading 4 0 none).half .b).role = .standby ∧
      ((loading 4 0 none).half .b).verifyBank ((loading 4 0 none).half .b).bankOut 0 = none ∧
      ((loading 4 1 none).half .b).verifyBank ((loading 4 1 none).half .b).bankOut 1 ≠ none) ∧
    (inServiceA.mayResync .a = true ∧ (inServiceA.half .a).rd Adr.MSG_LIB_GEN ≠ (inServiceA.half .b).rd Adr.MSG_LIB_GEN) ∧
    ((badMessage.half .a).up .memory = true ∧ (badMessage.half .a).bit Adr.MSG_STATUS 0 = true ∧
      0 ∈ (badMessage.half .a).validMessages (badMessage.half .a).bankIn ∧
      (let e := (badMessage.half .a).entry (badMessage.half .a).bankIn 0
       (crc32 ((badMessage.half .a).store.read ((badMessage.half .a).bankBase (badMessage.half .a).bankIn + 64 * e.line)
        e.bytes)).toNat ≠ e.crc)) := by decide +kernel

/-- Player 4 has reached the end of message 0. -/
def atEnd (rep : Bool) : State := badMessage.on .a fun x => (x.wr (Adr.MSG_PLAYER 4) 0x80000000#32).setPlayer 4 ⟨0, false, rep⟩
/-- The recorder is enabled on an ACTIVE half at a frame boundary. -/
def records (stop : Bool) (ofs : Word) (rdy : Option (List Byte × List Byte)) : State := withA fun x =>
  ({ ((((x.put Adr.RDN_ROLE_STATUS 0 3 3).wrNat Adr.REC_CTRL (if stop then 3 else 1)).wr Adr.MEM_PARTITION 0x101).wr
    Adr.REC_WRITE_OFS ofs).wr (Adr.REC_CH_EN 0) 5 with block := 512 }).onRec fun r => { r with ready := rdy }
/-- A frame of one byte of data. -/
def recFrame : List Byte × List Byte := ([1], List.replicate 60 2)

theorem wit_playersRecorder :
    (((atEnd false).half .a).playerAtEnd 4 = true ∧ ((atEnd false).half .a).player 4 = some ⟨0, false, false⟩ ∧
      ((atEnd true).half .a).player 4 = some ⟨0, false, true⟩ ∧ ((atEnd true).half .a).bit Adr.MSG_STATUS 0 = true ∧
      (((atEnd true).half .a).entry ((atEnd true).half .a).bankIn (((atEnd true).half .a).playerMsg 4)).valid = true ∧
      ((atEnd true).half .a).damaged (((atEnd true).half .a).playerMsg 4) = false) ∧
    (let x := (records false 0 none).half .a
     x.live = true ∧ x.up .memory = true ∧ x.block % 256 = 0 ∧ x.bit Adr.REC_CTRL 0 = true ∧ x.recRole = true ∧
      x.bit Adr.REC_STATUS 1 = false) ∧
    (let x := (records false 64 (some recFrame)).half .a
     x.recd.ready = some recFrame ∧ (x.rd Adr.REC_WRITE_OFS).toNat + (64 + recFrame.1.length) ≤ x.recBytes ∧ recFrame.2.length = 60) ∧
    (let x := (records true 0x4000000#32 (some recFrame)).half .a
     x.recBytes < (x.rd Adr.REC_WRITE_OFS).toNat + (64 + recFrame.1.length) ∧ x.bit Adr.REC_CTRL 1 = true) := by
  decide +kernel

/-! The amplifier outputs. -/

/-- Half A is ACTIVE with its carrier locked and stages of cluster 1 settled; channel 9 is configured, in a state. -/
def ampIn (st : Nat) : State := withA fun x =>
  (((((((((((x.put Adr.RDN_ROLE_STATUS 0 3 3).wr (Adr.AMP_CTRL 9) 3).wr Adr.TIM_CPLL_STATUS 2).wrNat (Adr.AMP_STATUS 9) st).wr (Adr.AMP_SCALE 9)
    0x10001#32).wr (Adr.AMP_OUT_GAIN 9) 1).wr (Adr.AMP_PLIM 9) 0x100010#32).wr (Adr.AMP_COMP0 9 0) 1).wr (Adr.AMP_ZSHORT 9) 20).wr
    (Adr.AMPC_STATUS 1) 0x4C).onCl 1 fun y => { y with settled := true, armed := true }).onSent fun y => { y with
      modulate := true }
/-- The same with changes. -/
def ampWith (st : Nat) (f : Half → Half) : State := (ampIn st).on .a f
/-- Channel 9 has tripped in some of the last periods. -/
def trippedBefore (n : Nat) (st : Nat) : State := ampWith st fun x => (x.wr (Adr.AMP_ILIM 9) 0x30000#32).onCh 9 fun y =>
  { y with trips := false :: List.replicate n true }
/-- The same on a STANDBY half. -/
def onStandby (s : State) : State := s.on .a fun x => x.put Adr.RDN_ROLE_STATUS 0 3 2
/-- The DC window of channel 9 has seen a mean; it was beyond its limit before or not. -/
def dcSeen (v : Int) (before : Bool) : State := ampWith 2 fun x => (x.wr (Adr.AMP_DC_LIMIT 9) 5).onCh 9 fun y =>
  { y with dcWin := ⟨1, v, 0, 0, 0⟩, dcOver := before }

theorem wit_channels :
    (let x := (trippedBefore 1 2).half .a
     x.modulates 9 = true ∧ (x.ampCh 9).cut = false ∧ x.ampActs = true ∧ x.ampState 9 = 2 ∧
      ((true :: (x.ampCh 9).trips.drop 1).filter fun b => b).length < x.tripLimit 9) ∧
    (let x := (trippedBefore 2 2).half .a
     x.tripLimit 9 ≤ ((true :: (x.ampCh 9).trips.drop 1).filter fun b => b).length) ∧
    (let x := (onStandby (trippedBefore 1 2)).half .a
     x.modulates 9 = true ∧ x.ampActs = false) ∧
    (((ampIn 3).half .a).ampState 9 = 3 ∧ ((ampIn 3).half .a).mayRun 9 = true ∧ ((ampIn 4).half .a).ampState 9 = 4 ∧
      ((ampIn 4).half .a).get (Adr.AMP_ZSHORT 9) 0 16 = 20) ∧
    (let x := (ampWith 2 fun x => (x.wr (Adr.AMP_STATUS 9) 0x102).wr (Adr.SNS_STATUS 9) 1).half .a
     x.outUp = true ∧ x.snsValid 9 = true ∧ x.bit (Adr.AMP_STATUS 9) 8 = true) ∧
    (let x := (dcSeen (-6 * 2 ^ 24) true).half .a
     1 * 2 ^ 24 * x.get (Adr.AMP_DC_LIMIT 9) 0 16 < (x.ampCh 9).dcWin.v.natAbs * x.get (Adr.AMP_SCALE 9) 0 16 ∧
      (x.ampCh 9).dcOver = true ∧ (x.ampCh 9).dcWin.n = 1) ∧
    (((dcSeen (-6 * 2 ^ 24) false).half .a).ampCh 9).dcOver = false ∧
    (((onStandby (ampIn 2)).half .a).role = .standby ∧ ((onStandby (ampIn 2)).half .a).bit (Adr.AMP_TRACK 9) 31 = false) ∧
    ((ampWith 2 fun x => x.onCl 1 fun y => { y with changing := true }).half .a |>.ampCl 1).changing = true ∧
    (let x := (ampIn 1).half .a
     x.out.cl.length = 4 ∧ x.bit (Adr.AMPC_STATUS 1) 3 = true ∧ x.ampState 9 = 1 ∧ x.channelOk 9 = true ∧ x.mayRun 9 = true ∧
      x.bit (Adr.AMPC_STATUS 1) 1 = false ∧ x.bit (Adr.AMPC_STATUS 1) 4 = false ∧ x.bit (Adr.AMPC_STATUS 1) 6 = true ∧
      x.carrierLocked = true ∧ x.sent.giveUp = .idle) ∧
    ((ampWith 2 fun x => x.wr (Adr.SNS_STATUS 77) 1).half .a).mayStay 9 = true ∧
    ((ampIn 1).half .a).bit (Adr.AMP_CTRL 9) 0 = true ∧
    ((ampWith 2 fun x => x.wr (Adr.AMP_SCALE 9) 0).half .a).mayStay 9 = false := by decide +kernel

/-- Cluster 1 with a valid bus converter and limits 100 to 200. -/
def busWith (f : AmpCl → AmpCl) : State := ampWith 2 fun x =>
  ((((x.wr (Adr.SNS_STATUS 77) 1).wr (Adr.AMPC_BUS_LIMITS 1) 0xC80064#32).wr (Adr.AMPC_PSEN_CTRL 1) 1).wr (Adr.AMPC_CL_PLIM 1)
    100).onCl 1 f

theorem wit_clusters :
    (let x := (busWith id).half .a
     x.outUp = true ∧ x.out.cl.length = 4 ∧ x.bit (Adr.AMPC_STATUS 1) 1 = false ∧ x.ampActs = true ∧
      x.get (Adr.AMPC_CL_PLIM 1) 0 16 ≠ 0 ∧ x.ntcBad 1 = true ∧ x.bit (Adr.AMPC_STATUS 1) 2 = true ∧ x.snsValid (76 + 1) = true ∧
      (x.ampCl 1).armed = true ∧ (x.ampCl 1).busBad = false ∧ (99#16).toNat < x.get (Adr.AMPC_BUS_LIMITS 1) 0 16 ∧
      x.get (Adr.AMPC_BUS_LIMITS 1) 0 16 ≤ (100#16).toNat ∧ (200#16).toNat ≤ x.get (Adr.AMPC_BUS_LIMITS 1) 16 16) ∧
    ((ampWith 2 fun x => x.wr (Adr.SNS_STATUS 77) 0).half .a).snsValid (76 + 1) = false ∧
    (let x := (ampWith 2 fun x => (x.wr (Adr.AMPC_STATUS 1) 0).onCl 1 fun y => { y with released := true }).half .a
     x.bit (Adr.AMPC_STATUS 1) 2 ≠ true ∧ x.followsRelease 1 = true) ∧
    ((ampWith 2 fun x => x.wr (Adr.AMPC_STATUS 1) 0x10).half .a).bit (Adr.AMPC_STATUS 1) 4 = true ∧
    (let x := (busWith fun y => { y with busBad := true }).half .a
     (x.ampCl 1).busBad = true ∧ x.role = .active ∧ x.sent.forceData = false ∧ x.sent.giveUp = .idle) ∧
    ((ampWith 2 fun x => x.onSent fun y => { y with giveUp := .detected 3 }).half .a).sent.giveUp = .detected 3 := by
  decide +kernel

/-! The TDM ports, the sense chain, Larkspur. -/

/-- Slave-mode port 3 with two slots of 16 bits, in a state, after a number of bad frames. -/
def tdmIn (st errs : Nat) : State := withA fun x =>
  ((x.wr (Adr.TDM_CFG 3) 1).wrNat (Adr.TDM_STATUS 3) st).onTdm 3 fun p => { p with errs := errs, seen := true }

theorem wit_tdm :
    ((tdmIn 1 0).half .a).outUp = true ∧ ((tdmIn 1 0).half .a).tdmMaster 3 = false ∧ ((tdmIn 1 0).half .a).out.tdm.length = 8 ∧
    ((tdmIn 1 0).half .a).tdmState 3 = 1 ∧ (((tdmIn 1 0).half .a).tdmPort 3).seen = true ∧
    ((tdmIn 2 16).half .a).tdmState 3 = 2 ∧ ((tdmIn 2 16).half .a).role ≠ .standby ∧ 16 ≤ (((tdmIn 2 16).half .a).tdmPort 3).errs ∧
    ((tdmIn 3 0).half .a).tdmState 3 = 3 ∧
    (32#16).toNat = ((tdmIn 2 16).half .a).tdmSlots 3 * ((tdmIn 2 16).half .a).tdmWidth 3 := by decide +kernel

/-- Converter 9 valid or with causes. -/
def convWith (causes : List Nat) (status : Word) : State := withA fun x =>
  (x.wr (Adr.SNS_STATUS 9) status).onConv 9 fun c => { c with causes := causes }
/-- A profile of first order that averages two cycles, and its channels 9 and 10, of which 10 is invalid. -/
def profRuns : State := withA fun x =>
  ((((x.wr (Adr.SNS_CTRL 9) 5).wr (Adr.SNS_CTRL 10) 5).onConv 10 fun c => { c with causes := [1] }).onConv 9 fun c =>
    { c with ints := [0], combs := [0] }).onProf 2 fun p => { p with now := some ⟨0x40001#32, 0, 0, [2 ^ 22]⟩ }

theorem wit_sense :
    (let x := (convWith [4] 0x21).half .a
     x.outUp = true ∧ (x.conv 9).causes.contains 1 = false ∧ (x.conv 9).causes.contains 2 = false ∧
      (x.conv 9).causes.contains 3 = false ∧ x.bit (Adr.SNS_STATUS 9) 5 = true ∧ x.snsValid 9 = true) ∧
    (((convWith [2] 0).half .a).snsValid 9 = false ∧ (((convWith [2] 0).half .a).conv 9).causes.filter (· != 1 + 1) = [] ∧
      ((convWith [2] 0).half .a).bit (Adr.SNS_STATUS 9) 5 ≠ true) ∧
    (let x := profRuns.half .a
     x.out.prof.length = 7 ∧ ((x.prof 2).now.map fun p => p.d) = some 2 ∧ x.profChannels 2 = [9, 10] ∧
      (x.conv 9).causes = [] ∧ (x.conv 9).join = false ∧ (x.conv 10).causes ≠ []) := by decide +kernel

/-- Larkspur watches channel 9 in RUN, all its converters valid, or with a capture of band 8. -/
def watched (cap : Bool) : State := withA fun x =>
  ((((x.wr (Adr.SFE_LSPK_CFG 9) 0xBFF00000#32).wr (Adr.AMP_STATUS 9) 2).wr (Adr.SNS_STATUS 9) 1).wr (Adr.SNS_STATUS 41) 1).onLsp 9
    fun l => if cap then { l with capture := some [(0, 0, 0), (0, 0, 0), (0, 0, 0), (0, 0, 0), (0, 0, 0), (0, 0, 0), (0, 0, 0),
      (0, 0, 0), (2, 5, 6)] } else l
/-- An interval with band 0 excited. -/
def anInterval : LineIn := ⟨[⟨0, 3, 4⟩], 1, 0, 0⟩

theorem wit_larkspur :
    (let x := (watched true).half .a
     x.outUp = true ∧ x.lspOn 9 = true ∧ x.running 9 = true ∧ x.snsValid 9 = true ∧ x.snsValid (32 + 9) = true ∧
      signed 16 (x.get Adr.SFE_LIM_CFG 0 16) ≤ 0 ∧ (x.lsp 9).capture.isSome = true ∧
      (List.range 32).filter x.lspOn = [9] ∧ x.get Adr.SFE_LSP_CFG 8 8 ≠ 0 ∧ x.ampActs = true ∧ x.pilotMode 9 = 1) ∧
    (((watched true).half .a).lspOn 8 = false ∧ anInterval.diff = 0) := by decide +kernel

/-! Gust, health, service life. -/

/-- Gust runs on a STANDBY half whose partner has channel 9 in RUN. -/
def gustStandby : State := withBoth (fun x => gustOn (x.put Adr.RDN_ROLE_STATUS 0 3 2)) fun x => x.wr (Adr.AMP_STATUS 9) 2

theorem wit_gust :
    (let x := (engineIs 2).half .a
     x.gustRuns 0 = true ∧ (x.gustEngines false).contains 2 = true ∧ x.katPaused 2 = false ∧ x.gustRuns 3 = true ∧
      x.up .memory = true ∧ x.rsvUnused 64 < x.poolFree ∧ x.boot.retired.cells.contains 5 = false ∧ x.granuleUsed 5 = false ∧
      x.gustRuns 5 = true ∧ x.gustRuns 8 = true ∧ x.up .control = true ∧ x.gustHas 4 = true) ∧
    (let x := gustStandby.half .a
     x.gustRuns 7 = true ∧ x.role = .standby ∧ (gustStandby.half .b).running 9 = true ∧ x.bit (Adr.AMP_TRACK 9) 31 = false ∧
      x.bit Adr.GST_GATE_MISMATCH 9 = false ∧ x.live = true) := by decide +kernel

/-- Both halves compare their converters; converter 9 has mismatched twice, converter 10 has been clean nine times. -/
def comparing : State :=
  let f := fun (x : Half) => (gustOn ((((x.put Adr.RDN_ROLE_STATUS 0 3 3).putBit Adr.RDN_LINK_STATUS 31 true).wr
    (Adr.SNS_STATUS 9) 1).wr (Adr.GST_SENSE_MISMATCH 0) 0x400)).onGust fun g => { g with mismatch := [(9, (2, 0)), (10, (0, 9))] }
  withBoth f f
/-- Windows of eleven converters that agree but for converter 9. -/
def winA : List SenseStat := List.replicate 11 ⟨0, 0⟩
def winB : List SenseStat := List.replicate 9 ⟨0, 0⟩ ++ [⟨2 ^ 24, 0⟩, ⟨0, 0⟩]

theorem wit_comparing :
    comparing.a.compares = true ∧ comparing.b.compares = true ∧ winA[9]? = some ⟨0, 0⟩ ∧ winB[9]? = some ⟨2 ^ 24, 0⟩ ∧
    comparing.a.snsValid 9 = true ∧ comparing.b.snsValid 9 = true ∧
    lookAt (fun _ => (0, 0)) comparing.a.gust.mismatch 9 = (2, 0) ∧ lookAt (fun _ => (0, 0)) comparing.a.gust.mismatch 10 = (0, 9) ∧
    senseMismatch (comparing.a.get Adr.GST_SENSE_TOL 0 16) ⟨0, 0⟩ ⟨2 ^ 24, 0⟩ = true ∧
    senseMismatch (comparing.a.get Adr.GST_SENSE_TOL 0 16) ⟨0, 0⟩ ⟨0, 0⟩ = false := by decide +kernel

/-- A linked half that warns or not, all margins 100, 10 asked for. -/
def warns (st : Word) : State := withA fun x =>
  { (((x.wr Adr.HLT_STATUS st).putBit Adr.RDN_LINK_STATUS 31 true).wr Adr.HLT_MARGIN_WARN 10) with
    hlt := { x.hlt with margins := List.replicate 12 100, equiv := 400000000000 } }

theorem wit_health :
    (let x := (warns 0).half .a
     x.live = true ∧ x.up .control = true ∧ x.linkUp = true ∧ ((warns 0).half .b).live = true ∧
      ((List.range 8).any fun r => decide (getAt [-(10 ^ 6)] r 0 ≤ -(x.get Adr.HLT_WEAR_LIMIT 0 16 : Int))) = true ∧
      x.bit Adr.HLT_STATUS 2 = false ∧ x.bit Adr.HLT_STATUS 0 ≠ true ∧ x.hlt.margins.length = 12 ∧
      (9#8).toNat < x.get Adr.HLT_MARGIN_WARN 0 8 ∧ x.bit Adr.HLT_STATUS 1 = false ∧ 315360000000 ≤ x.hlt.equiv) ∧
    ((∀ m ∈ ((warns 2).half .a).hlt.margins, 2 * ((warns 2).half .a).get Adr.HLT_MARGIN_WARN 0 8 ≤ m) ∧
      2 * ((warns 2).half .a).get Adr.HLT_MARGIN_WARN 0 8 ≤ (20#8).toNat ∧ ((warns 2).half .a).bit Adr.HLT_STATUS 1 = true) := by
  decide +kernel

/-! The mirror stream, the digests and the block boundary. -/

/-- Half A ACTIVE, Half B SYNCING; a pair of digests of block 5 waits, equal or not, void or not. -/
def digesting (role g : Nat) (v : Bool) : State :=
  pairOf (fun x => x.onRdn fun r => { r with digestOut := [⟨5, List.replicate 8 (BitVec.ofNat 32 g), v⟩] })
    fun x => (x.onRdn fun r => { r with digests := [⟨5, List.replicate 8 3#32, false⟩] }).put Adr.RDN_ROLE_STATUS 0 3 role

theorem wit_mirror :
    (digesting 2 3 false).mirrors .b = true ∧ touches .clocks = false ∧ touches .players = true ∧
    ((digesting 2 3 false).half .b).role = .standby ∧ (digesting 1 3 false).mirrors .b = true ∧
    (((digesting 1 3 false).resyncPass .b).1.half .b).role = .syncing ∧
    ((locate Adr.RDN_COMPARE_LIMIT).map fun l => (l.reg.m, l.confirm, l.reg.cls, l.reg.hook, l.reg.attr)) =
      some (true, false, .imm, .none, .rw) ∧
    (digesting 2 3 false).compares .b = true ∧
    (let s := digesting 2 4 false
     ∃ d m, (s.half .a).rdn.digestOut = [d] ∧ (s.half .b).rdn.digests.find? (fun x => x.block == d.block) = some m ∧
      (m.voids || d.voids) = false ∧ m.mismatch d ≠ 0) ∧
    (let s := digesting 2 3 false
     ∃ d m, (s.half .a).rdn.digestOut = [d] ∧ (s.half .b).rdn.digests.find? (fun x => x.block == d.block) = some m ∧
      (m.voids || d.voids) = false ∧ m.mismatch d = 0) := by
  refine ⟨by decide +kernel, by decide, by decide, by decide +kernel, by decide +kernel, by decide +kernel, by decide +kernel,
    by decide +kernel, ⟨⟨5, List.replicate 8 4#32, false⟩, ⟨5, List.replicate 8 3#32, false⟩, ?_⟩,
    ⟨⟨5, List.replicate 8 3#32, false⟩, ⟨5, List.replicate 8 3#32, false⟩, ?_⟩⟩ <;> decide +kernel

/-- A running half with a DC limit and an output gain waiting for the boundary. -/
def waitingGains : State := withA fun x => (x.stage (Adr.AMP_OUT_GAIN 3) 9).stage (Adr.AMP_DC_LIMIT 3) 7

theorem wit_boundary :
    (waitingGains.half .a).live = true ∧ waitingGains.still ∧ (waitingGains.half .a).alarm.firstBoundary = false ∧
    (waitingGains.half .a).tim.step = none ∧ ((withA fun x => { x with phase := .warmReset }).half .a).live = false ∧
    rising (waitingGains.half .a).held = true :=
  ⟨by decide +kernel, ⟨⟨rfl, rfl, rfl⟩, ⟨rfl, rfl, rfl⟩⟩, by decide +kernel, by decide +kernel, by decide +kernel, by decide +kernel⟩

/-! Resets, regions, the host link and the boot flash. -/

/-- A running half; an ACTIVE one; one in power-on reset. -/
def running : State := withA id
def isActive : State := withA fun x => x.put Adr.RDN_ROLE_STATUS 0 3 3
def atReset : State := State.reset

theorem wit_resets :
    (running.half .a).boot.flashOp = .idle ∧ (running.half .a).boot.bootOp = .idle ∧ (atReset.half .a).phase = .powerReset ∧
    (atReset.half .a).boot.cfg0.words = [] ∧ (atReset.half .a).boot.cfg1.words = [] ∧
    (atReset.half .a).bit Adr.DIE_BOOT_STATUS 28 = false := by decide +kernel

/-- The Flow region waits for its readiness; both halves see the Onar link. -/
def inReset : State := withA fun x => x.setRegion .flow .inReset
def bothLinked : State := withBoth (fun x => x.putBit Adr.RDN_LINK_STATUS 31 true) fun x => x.putBit Adr.RDN_LINK_STATUS 31 true
/-- TDM port 3 runs as a slave, MAC port 1 has its link, the PCIe link is up. -/
def clocked : State := withA fun x =>
  (((x.put (Adr.TDM_STATUS 3) 0 2 2).putBit (Adr.TDM_CFG 3) 2 true).wr (Adr.MAC_STATUS 1) 7).putBit Adr.HOST_STATUS 0 true

theorem wit_regions :
    (let x := running.half .a
     x.live = true ∧ x.regions.length = 8 ∧ x.up .flow = true ∧ x.role ≠ .active ∧ x.up .control = true ∧ x.up .memory = true) ∧
    (let x := isActive.half .a
     x.role = .active ∧ Region.output.required = true ∧ x.regions.length = 8 ∧ x.up .output = true ∧ x.sent.giveUp = .idle ∧ x.sent.dead = false) ∧
    (onStandby running).a.role = .standby ∧ (inReset.half .a).regionState .flow = .inReset ∧ (inReset.half .a).live = true ∧ (inReset.half .a).regions.length = 8 ∧ (clocked.half .a).regions.length = 8 ∧
    (bothLinked.half .a).linkUp = true ∧ (bothLinked.half .b).linkUp = true ∧
    (let x := clocked.half .a
     x.live = true ∧ x.portUp 1 = true ∧ x.bit Adr.HOST_STATUS 0 = true ∧ x.tdmState 3 = 2 ∧ x.tdmMaster 3 = false) := by
  decide +kernel

theorem wit_pcie : (running.half .a).live = true ∧ (running.half .a).pcieSelected = true ∧
    (clocked.half .a).bit Adr.HOST_STATUS 0 = true ∧ (running.half .a).bit Adr.HOST_STATUS 0 = false := by decide +kernel

/-- Half A with a flash operation and a boot operation in progress, two bytes in its page, 0x12 in its flash. -/
def flashing (f : FlashOp) (b : BootOp) : State := withA fun x =>
  { x with boot := { x.boot with flashOp := f, bootOp := b, page := [1, 2], bytes := [(0x2000001, 0x12)], security := 3 } }
/-- Half A is ACTIVE with its image in trial. -/
def trying : State := isActive.on .a fun x => x.putBit Adr.DIE_BOOT_STATUS 31 true

theorem wit_boot :
    (trying.half .a).inTrial = true ∧ (trying.half .a).role = .active ∧
    ((flashing (.program 0x2000000) .raiseFloor).half .a).boot.flashOp = .program 0x2000000 ∧
    ((flashing (.program 0x2000000) .raiseFloor).half .a).boot.page.length ≤ 256 ∧
    ((flashing (.program 0x2000000) .raiseFloor).half .a).flashBusy = true ∧
    ((flashing (.program 0x2000000) .raiseFloor).half .a).boot.bootOp ≠ .idle ∧
    ((flashing (.erase 0x2000000) .saveLibrary).half .a).boot.flashOp = .erase 0x2000000 := by decide +kernel

/-! Accesses of the register fabric. -/

/-- What the clauses about a word ask of its register. -/
def kindOf (a : Nat) : Option (Wide × Hook × Attr × Cls × Bool × Bool) :=
  (locate a).map fun l => (l.wideAs, l.reg.hook, l.reg.attr, l.reg.cls, l.confirm, l.reg.m)

theorem grants_running {a : Nat} (h : (running.half .a).takes a = true) : Grants running .a .mgmt a :=
  grants_mgmt (by decide +kernel) rfl rfl h

theorem wit_access :
    Grants running .a .mgmt Adr.RDN_COMPARE_LIMIT ∧ kindOf Adr.RDN_COMPARE_LIMIT = some (.single, .none, .rw, .imm, false, true) ∧
    Grants running .a .mgmt (Adr.AMP_OUT_GAIN 3) ∧ kindOf (Adr.AMP_OUT_GAIN 3) = some (.single, .none, .rw, .held, false, true) ∧
    Grants running .a .mgmt Adr.RDN_EVENT ∧ kindOf Adr.RDN_EVENT = some (.single, .none, .rc, .imm, false, false) ∧
    Grants running .a .mgmt 0x1028 ∧ kindOf 0x1028 = some (.lo, .none, .rw, .imm, false, false) ∧
    Grants running .a .mgmt 0x102C ∧ kindOf 0x102C = some (.hi, .none, .rw, .imm, false, false) ∧
    (kindOf 0x1000 = some (.single, .none, .ro, .imm, false, false) ∧ locate 0xF000 = none ∧
      ((locate Adr.RDN_EVENT).map fun l => l.sideEffect) = some true) ∧
    ((inReset.half .a).up .flow = false ∧ ((locate 0x40000).map fun l => l.region) = some .flow) ∧
    ((onStandby running).a.role = .standby ∧ (onStandby running).a.sent.forceMgmt = false) ∧ forcedWritable 0xA1000 = false :=
  ⟨grants_running (by decide +kernel), by decide +kernel, grants_running (by decide +kernel), by decide +kernel,
    grants_running (by decide +kernel), by decide +kernel, grants_running (by decide +kernel), by decide +kernel,
    grants_running (by decide +kernel), by decide +kernel, by decide +kernel, by decide +kernel, by decide +kernel, by decide⟩

/-- A value waits at the slot of channel 3's current limit. -/
def waitingPair : State := withA fun x => { x with acc := { x.acc with pw := [⟨Adr.AMP_ILIM 3, .mgmt, 5⟩] } }
/-- The alias word of bit 4 of COMPARE_LIMIT. -/
def aliasAdr : Nat := 0x8000000 + 4 * (32 * Adr.RDN_COMPARE_LIMIT + 4)

theorem wit_paired :
    Grants running .a .mgmt (Adr.AMP_ILIM 3) ∧ kindOf (Adr.AMP_ILIM 3) = some (.single, .none, .pw, .held, false, true) ∧
    Grants running .a .mgmt (Adr.AMP_ILIM 3 + 4) ∧ kindOf (Adr.AMP_ILIM 3 + 4) = some (.single, .none, .pw, .held, true, true) ∧
    (waitingPair.half .a).acc.pw.any (fun p => p.slot == Adr.AMP_ILIM 3 && p.req == .mgmt) = true ∧
    (aliasAdr < 0x10000000 ∧ Adr.RDN_COMPARE_LIMIT % 4 = 0 ∧ kindOf Adr.RDN_COMPARE_LIMIT = some (.single, .none, .rw, .imm, false, true) ∧
      (locate Adr.RDN_COMPARE_LIMIT).map (fun l => (l.mask.testBit 4, l.acts)) = some (true, false) ∧
      (running.half .a).reads Adr.RDN_COMPARE_LIMIT = true) ∧
    ((running.half .a).linkUp = false ∧ (bothLinked.half .a).linkUp = true ∧ (bothLinked.half .b).fabricUp = true ∧
      (bothLinked.half .b).takes Adr.RDN_COMPARE_LIMIT = true ∧ (bothLinked.half .b).reads Adr.RDN_COMPARE_LIMIT = true ∧
      ((bothLinked.on .b fun x => { x with phase := .warmReset }).half .b).fabricUp = false) ∧
    ((locate Adr.RDN_KILL_CTRL).map fun l => (l.reg.t, l.confirm, l.masked 0 == 1)) = some (true, false, false) ∧
    (running.half .a).rd Adr.RDN_KILL_CTRL = 1 ∧ (running.half .a).acc.copies = [] ∧ (running.half .a).answers .mgmt = true :=
  ⟨grants_running (by decide +kernel), by decide +kernel, grants_running (by decide +kernel), by decide +kernel, by decide +kernel,
    by decide +kernel, by decide +kernel, by decide +kernel, by decide +kernel, by decide +kernel, by decide +kernel⟩

/-! QSPI frames and the queue manager. -/

/-- Half A on QSPI. -/
def onQspi : State := withA fun x => x.putBit Adr.DIE_STRAPS 1 true

theorem asks_qspi : Asks onQspi .a .qspi :=
  ⟨by decide, by decide +kernel, ⟨⟨rfl, rfl, rfl, ⟨rfl, rfl, rfl⟩, ⟨rfl, rfl, rfl⟩, ⟨rfl, rfl, rfl⟩⟩,
    ⟨rfl, rfl, rfl, ⟨rfl, rfl, rfl⟩, ⟨rfl, rfl, rfl⟩, ⟨rfl, rfl, rfl⟩⟩⟩⟩

/-- A frame of Half A that waits for its third word. -/
def waitingFrame : State := onQspi.on .a fun x => { x with acc := { x.acc with frame := some ⟨false, 3, [], [], [1, 2]⟩ } }

theorem limit_plain : ∃ l, locate Adr.RDN_COMPARE_LIMIT = some l ∧ l.reg.hook = .none ∧ l.wideAs = .single ∧ l.reg.attr = .rw := by
  have k : kindOf Adr.RDN_COMPARE_LIMIT = some (.single, .none, .rw, .imm, false, true) := by decide +kernel
  unfold kindOf at k
  obtain ⟨l, hl, e⟩ := Option.map_eq_some_iff.mp k
  exact ⟨l, hl, congrArg (fun p => p.2.1) e, congrArg (fun p => p.1) e, congrArg (fun p => p.2.2.1) e⟩

theorem wit_qspi :
    (onQspi.half .a).reads Adr.RDN_COMPARE_LIMIT = true ∧ (onQspi.half .a).takes Adr.RDN_COMPARE_LIMIT = true ∧
    (waitingFrame.half .a).answers .qspi = true ∧ (waitingFrame.half .a).acc.host.backlog = [] ∧
    (waitingFrame.half .a).acc.mgmt.backlog = [] ∧ (waitingFrame.half .b).acc.frame = none := by decide +kernel

/-- Queue 20 enabled as a ring, fed by a producer and with the stall limit given, holding two items or none. -/
def queueWith (prod limit : Nat) (items : List (BitVec 64)) : State := withA fun x =>
  (((x.wr (Adr.Q_CTRL 20) 1).wrNat (Adr.Q_CFG 20) (2 ^ 28 * prod + limit))).setQueue 20 ⟨items, 0, none, []⟩
/-- The same for a host on a linked PCIe port. -/
def hostQueue (limit : Nat) (items : List (BitVec 64)) : State := (queueWith 1 limit items).on .a fun x => x.putBit Adr.HOST_STATUS 0 true
/-- The processor waits on it; a gap marker waits for room. -/
def stalledPop : State := (queueWith 1 5 []).on .a fun x =>
  ((x.setQueue 20 ⟨[], 0, none, [.mgmt]⟩).onPort .mgmt fun p => { p with stall := some 20 })
def heldGap : State := (queueWith 1 5 []).on .a fun x => x.setQueue 20 ⟨[], 0, some ⟨1, 1, 2⟩, []⟩
/-- Queue 20 in pool mode. -/
def poolQueue : State := (queueWith 1 5 [7]).on .a fun x => x.putBit (Adr.Q_CFG 20) 31 true

/-- The PCIe host may make requests of Half A. -/
theorem asks_pcie {s : State} (h1 : (s.half .a).answers .pcie = true) (h2 : s.a.acc = s.b.acc) (h3 : s.b = base .b) : Asks s .a .pcie := by
  have hb : s.b.acc.rest := by
    rw [h3]
    exact ⟨rfl, rfl, rfl, ⟨rfl, rfl, rfl⟩, ⟨rfl, rfl, rfl⟩, ⟨rfl, rfl, rfl⟩⟩
  exact ⟨by decide, h1, ⟨by rw [h2]; exact hb, hb⟩⟩

theorem wit_queues :
    (let x := (queueWith 2 0 []).half .a
     (queueWith 2 0 []).still ∧ x.up .memory = true ∧ x.get (Adr.Q_CFG 20) 28 3 = 2 ∧ x.queueOn 20 = true ∧ (x.queue 20).held = none ∧
      (x.queue 20).waiters = [] ∧ (x.queue 20).items.length + 2 + 1 ≤ x.capacity 20 ∧ (running.half .a).queueOn 20 = false) ∧
    (let x := (queueWith 1 0 [5]).half .a
     Grants (queueWith 1 0 [5]) .a .mgmt (Adr.Q_PUSH_HI 20) ∧ x.isProducer 20 .mgmt = true ∧ (x.queue 20).items.length + 2 ≤ x.capacity 20) ∧
    (Asks (hostQueue 0 [5]) .a .pcie ∧ Asks (hostQueue 5 []) .a .pcie ∧ ((hostQueue 0 [5]).half .a).reads (Adr.Q_POP_LO 20) = true ∧
      ((hostQueue 0 [5]).half .a).isConsumer 20 .pcie = true ∧ ((hostQueue 0 [5]).half .a).queueOn 20 = true ∧
      ((hostQueue 5 []).half .a).get (Adr.Q_CFG 20) 0 10 ≠ 0) ∧
    (((stalledPop.half .a).acc.port .mgmt).stall = some 20 ∧ stalledPop.still) ∧
    (((heldGap.half .a).queue 20).held = some ⟨1, 1, 2⟩ ∧ 1 ≤ (heldGap.half .a).capacity 20) ∧
    (Grants running .a .mgmt (Adr.Q_CTRL 20) ∧ (running.half .a).bit (Adr.Q_CTRL 20) 0 = false ∧ (running.half .a).enableRefusal 20 = none ∧
      (((queueWith 1 0 []).on .a fun x => (x.wr (Adr.Q_CTRL 20) 0).wr (Adr.Q_CFG 20) 0x9000).half .a).enableRefusal 20 = some 2) ∧
    ((poolQueue.half .a).live = true ∧ (poolQueue.half .a).queueOn 20 = true ∧ (poolQueue.half .a).queuePool 20 = true ∧
      (poolQueue.half .a).regions.length = 8) :=
  ⟨⟨⟨⟨rfl, rfl, rfl⟩, ⟨rfl, rfl, rfl⟩⟩, by decide +kernel⟩,
    ⟨grants_mgmt (by decide +kernel) rfl rfl (by decide +kernel), by decide +kernel⟩,
    ⟨asks_pcie (by decide +kernel) rfl rfl, asks_pcie (by decide +kernel) rfl rfl, by decide +kernel⟩,
    ⟨by decide +kernel, ⟨⟨rfl, rfl, rfl⟩, ⟨rfl, rfl, rfl⟩⟩⟩, by decide +kernel,
    ⟨grants_running (by decide +kernel), by decide +kernel⟩, by decide +kernel⟩

/-! The commands that are named writes. -/

/-- MAC port 0 enabled in mode AUTO with its link up. -/
def portOn : State := withA fun x => (x.wr (Adr.MAC_CTRL 0) 0x3).wr (Adr.MAC_STATUS 0) 7

theorem wit_networkWrites :
    (portOn.half .a).macs.length = 2 ∧ Grants portOn .a .mgmt (Adr.MAC_CTRL 0) ∧ (portOn.half .a).bit (Adr.MAC_CTRL 0) 0 = true ∧
    getBits 0x5#32 1 3 ≠ (portOn.half .a).get (Adr.MAC_CTRL 0) 1 3 ∧ Grants portOn .a .mgmt (Adr.MAC_MDIO_CMD 0) ∧
    Grants portOn .a .mgmt (Adr.MAC_EEE_TW 0) ∧ Grants portOn .a .mgmt (ringAdr 0 true 2 0x10) ∧ ringWritable .mgmt 2 = true ∧
    ((portOn.half .a).mac 0).tx.length = 4 ∧ ((portOn.half .a).mac 0).rx.length = 4 ∧ Grants portOn .a .mgmt (ringAdr 0 true 2 0xC) ∧
    (portOn.half .a).bit (ringAdr 0 true 2 0xC) 0 = false ∧ (onQspi.half .a).bit Adr.DIE_STRAPS 1 = true ∧
    Grants portOn .a .mgmt Adr.MACC_CTRL :=
  ⟨by decide +kernel, grants_mgmt (by decide +kernel) rfl rfl (by decide +kernel), by decide +kernel, by decide +kernel,
    grants_mgmt (by decide +kernel) rfl rfl (by decide +kernel), grants_mgmt (by decide +kernel) rfl rfl (by decide +kernel),
    grants_mgmt (by decide +kernel) rfl rfl (by decide +kernel), by decide +kernel, by decide +kernel, by decide +kernel,
    grants_mgmt (by decide +kernel) rfl rfl (by decide +kernel), by decide +kernel, by decide +kernel,
    grants_mgmt (by decide +kernel) rfl rfl (by decide +kernel)⟩

theorem wit_units :
    (Grants running .a .mgmt (Adr.AMP_CTRL 3) ∧ Grants running .a .mgmt (Adr.FRX_CTRL 9) ∧ (running.half .a).commitState = 0) ∧
    (Grants running .a .mgmt (Adr.FRXC_CTRL 1) ∧ Grants running .a .mgmt (Adr.FTXC_CTRL 1)) ∧
    (running.still ∧ (running.half .a).live = true ∧ (running.half .a).up .flow = true ∧ (running.half .a).up .output = true) ∧
    (Grants (engineIs 4) .a .mgmt (Adr.ENG_CTRL 2) ∧ ((engineIs 4).half .a).engState 2 = 4 ∧ Grants (engineIs 1) .a .mgmt (Adr.ENG_CTRL 2) ∧
      ((engineIs 1).half .a).engState 2 = 1 ∧ Grants (engineIs 2) .a .mgmt (Adr.ENG_CTRL 2) ∧ ((engineIs 2).half .a).engState 2 = 2 ∧
      (((engineIs 2).half .a).spareFor 2).isSome = true) ∧
    (Grants (engineIs 2) .a .mgmt (Adr.ENGC_CTRL 0) ∧ (∀ e ∈ clusterEngines 1, ((engineIs 2).half .a).engState e ≠ 2)) ∧
    (Grants running .a .mgmt Adr.TDMC_CTRL ∧ Grants running .a .mgmt (Adr.SNSC_CTRL 4) ∧ Grants running .a .mgmt (Adr.QC_CTRL 1)) :=
  ⟨⟨grants_running (by decide +kernel), grants_running (by decide +kernel), by decide +kernel⟩,
    ⟨grants_running (by decide +kernel), grants_running (by decide +kernel)⟩,
    ⟨⟨⟨rfl, rfl, rfl⟩, ⟨rfl, rfl, rfl⟩⟩, by decide +kernel⟩,
    ⟨grants_mgmt (by decide +kernel) rfl rfl (by decide +kernel), by decide +kernel,
      grants_mgmt (by decide +kernel) rfl rfl (by decide +kernel), by decide +kernel,
      grants_mgmt (by decide +kernel) rfl rfl (by decide +kernel), by decide +kernel⟩,
    ⟨grants_mgmt (by decide +kernel) rfl rfl (by decide +kernel), by decide +kernel⟩,
    ⟨grants_running (by decide +kernel), grants_running (by decide +kernel), grants_running (by decide +kernel)⟩⟩

/-- A submission is PENDING. -/
def submitted : State := withA fun x => x.put Adr.GRF_STATUS 0 3 3
/-- Zone 3 of the committed plan has its PRIORITY node 5, whose level 2 is an OVERRIDE. -/
def overrideZone : State := withA fun x =>
  ((((x.wr (Adr.NODE_STG 40 + 0x20000) 0x8D000000#32).wr (Adr.NODE_STG 41 + 0x20000) 0x30#32)).wr (Adr.ZONE_STG 12 + 0x1000) 0x80000005#32)

theorem wit_graphWrites :
    (Grants running .a .mgmt Adr.GRF_COMMIT ∧ (running.half .a).commitState = 0 ∧ (running.half .a).acceptsM = true ∧
      (running.half .a).sent.handover.target = none ∧ ((onStandby running).half .a).acceptsM = false ∧ (submitted.half .a).commitState ≠ 0) ∧
    Grants overrideZone .a .mgmt Adr.GRF_LEVEL_CMD ∧
    ((((overrideZone.half .a).plan false).zones.find? (fun y => y.1 == 3)).bind (fun y => ((overrideZone.half .a).plan false).node y.2)).map
      (fun n => n.mode 2) = some 3 ∧
    Grants running .a .mgmt (Adr.ALM_ISSUER_CFG 3) ∧ Grants running .a .mgmt Adr.ALM_KEY_LOAD ∧ (running.half .a).keys.length = 8 :=
  ⟨⟨grants_running (by decide +kernel), by decide +kernel⟩, grants_mgmt (by decide +kernel) rfl rfl (by decide +kernel),
    by decide +kernel, grants_running (by decide +kernel), grants_running (by decide +kernel), by decide +kernel⟩

/-- A PIO transfer is under way in an area; a load is OPEN; a pair whose ACTIVE half may copy in bulk. -/
def pioBusy (area : Nat) : State := withA fun x =>
  (x.putBit Adr.MEM_STATUS 1 true).onStore fun t => { t with xferPio := true, xferArea := area, xferLeft := 128, xferOfs := 64 }
def loadOpen : State := withA fun x => x.put Adr.MSG_STATUS 4 3 1
def bulkPair : State := pairOf id id

/-- The management processor may write an address of Half A, whatever the role of Half B. -/
theorem grants_pair {s : State} {a : Nat} (h1 : (s.half .a).answers .mgmt = true) (h2 : s.a.acc = (base .a).acc)
    (h3 : s.b.acc = (base .b).acc) (h4 : (s.half .a).takes a = true) : Grants s .a .mgmt a := by
  have hr : ∀ k, (base k).acc.rest := fun _ => ⟨rfl, rfl, rfl, ⟨rfl, rfl, rfl⟩, ⟨rfl, rfl, rfl⟩, ⟨rfl, rfl, rfl⟩⟩
  exact ⟨⟨by decide, h1, ⟨by rw [h2]; exact hr _, by rw [h3]; exact hr _⟩⟩, h4⟩

theorem wit_memoryWrites :
    (Grants running .a .mgmt Adr.MEM_PARTITION ∧ (goodPartition 1 1 && (running.half .a).partitionAllowed) = true ∧
      (goodPartition 0 1 && (running.half .a).partitionAllowed) = false) ∧
    (Grants running .a .mgmt Adr.MEM_XFER_CTRL ∧ (running.half .a).bit Adr.MEM_STATUS 1 = false ∧
      (running.half .a).xferRefusal 1 true = none ∧ (running.half .a).xferRefusal 1 false = some 6) ∧
    (Grants (pioBusy 0) .a .mgmt Adr.MEM_XFER_DATA ∧ Grants (pioBusy 1) .a .mgmt Adr.MEM_XFER_DATA ∧
      ((pioBusy 0).half .a).bit Adr.MEM_STATUS 1 = true ∧ ((pioBusy 0).half .a).store.xferPio = true ∧
      4 < ((pioBusy 0).half .a).store.xferLeft ∧ ((pioBusy 0).half .a).store.xferArea = 0 ∧ ((pioBusy 1).half .a).store.xferArea ≠ 0) ∧
    (Grants loadOpen .a .mgmt Adr.MSG_LIB_COMMIT ∧ (loadOpen.half .a).libState = 1 ∧ (running.half .a).libState ≠ 1) ∧
    (Grants bulkPair .a .mgmt Adr.MSG_BULK_CTRL ∧ (bulkPair.half .a).libState = 0 ∧
      (bulkPair.half .a).store.copying = none ∧ (bulkPair.half .a).role = .active ∧ (bulkPair.half .b).role = .standby) :=
  ⟨⟨grants_running (by decide +kernel), by decide +kernel⟩, ⟨grants_running (by decide +kernel), by decide +kernel⟩,
    ⟨grants_mgmt (by decide +kernel) rfl rfl (by decide +kernel), grants_mgmt (by decide +kernel) rfl rfl (by decide +kernel),
      by decide +kernel⟩,
    ⟨grants_mgmt (by decide +kernel) rfl rfl (by decide +kernel), by decide +kernel⟩,
    ⟨grants_pair (by decide +kernel) rfl rfl (by decide +kernel), by decide +kernel⟩⟩

/-- Profile 2 configured by a word. -/
def profCfg (v : Word) : State := withA fun x => x.wr (Adr.SFE_PROF_CFG 2) v
/-- Channel 3 of Larkspur is enabled and captures. -/
def captures : State := withA fun x =>
  (x.putBit (Adr.SFE_LSPK_CFG 3) 31 true).onLsp 3 fun y => { y with capture := some [] }

theorem wit_outputWrites :
    Grants running .a .mgmt (Adr.AMP_CTRL 3) ∧ Grants running .a .mgmt (Adr.AMPC_CTRL 3) ∧
    (Grants (profCfg 0x40001) .a .mgmt (Adr.SFE_PROF_APPLY 2) ∧ ((profCfg 0x40001).half .a).outUp = true ∧
      ((profCfg 0x40001).half .a).out.prof.length = 7) ∧
    Grants running .a .mgmt Adr.SFE_SYNC ∧ Grants running .a .mgmt (Adr.SNS_CTRL 70) ∧
    (Grants captures .a .mgmt Adr.SFE_LSP_CMD ∧ (captures.half .a).outUp = true ∧ (captures.half .a).lspOn 3 = true ∧
      ((captures.half .a).lsp 3).capture.isSome = true) :=
  ⟨grants_running (by decide +kernel), grants_running (by decide +kernel),
    ⟨grants_mgmt (by decide +kernel) rfl rfl (by decide +kernel), by decide +kernel⟩, grants_running (by decide +kernel),
    grants_running (by decide +kernel), grants_mgmt (by decide +kernel) rfl rfl (by decide +kernel), by decide +kernel⟩

/-- Half A ISOLATED; flash addressed at an offset; a boot operation in progress. -/
def isolatedA : State := withA fun x => x.put Adr.RDN_ROLE_STATUS 0 3 4
def flashAt (a : Word) : State := withA fun x => x.wr Adr.DIE_FLASH_ADDR a
def bootBusyA : State := withA fun x => { x with boot := { x.boot with bootOp := .saveConfig } }
/-- An ACTIVE half whose standby is ready for a handover. -/
def handoverReady : State := isActive.on .a fun x =>
  (x.putBit Adr.RDN_STATUS 5 true).onRdn fun r => { r with view := some ⟨2, 0, 0x3000, 0, 0, 0⟩ }

theorem wit_controlWrites :
    (Grants running .a .mgmt (Adr.EVT_REARM 0) ∧ Grants running .a .mgmt (Adr.EVT_REARM 1) ∧ Grants running .a .mgmt (Adr.EVT_FORCE 0) ∧
      Grants running .a .mgmt (Adr.EVT_FORCE 1)) ∧
    (Grants running .a .mgmt Adr.DIE_RESET_CTRL ∧ Grants isActive .a .mgmt Adr.DIE_RESET_CTRL ∧ (running.half .a).regions.length = 8 ∧
      (running.half .a).role ≠ .active ∧ (isActive.half .a).role = .active) ∧
    (Grants handoverReady .a .mgmt Adr.RDN_ROLE_CTRL ∧ (handoverReady.half .a).handoverCheck = 0 ∧ (running.half .a).handoverCheck ≠ 0 ∧
      Grants isolatedA .a .mgmt Adr.RDN_ROLE_CTRL ∧ (isolatedA.half .a).role = .isolated ∧ (isolatedA.half .a).sent.isoFault = false ∧
      (isolatedA.half .a).sent.ready = false) ∧
    Grants running .a .mgmt Adr.RDN_KILL_CTRL :=
  ⟨⟨grants_running (by decide +kernel), grants_running (by decide +kernel), grants_running (by decide +kernel),
      grants_running (by decide +kernel)⟩,
    ⟨grants_running (by decide +kernel), grants_mgmt (by decide +kernel) rfl rfl (by decide +kernel), by decide +kernel⟩,
    ⟨grants_mgmt (by decide +kernel) rfl rfl (by decide +kernel), by decide +kernel, by decide +kernel,
      grants_mgmt (by decide +kernel) rfl rfl (by decide +kernel), by decide +kernel⟩,
    grants_running (by decide +kernel)⟩

theorem wit_bootWrites :
    Grants (flashAt 0x2000000) .a .mgmt Adr.DIE_FLASH_CMD ∧ Grants bootBusyA .a .mgmt Adr.DIE_FLASH_CMD ∧
    (bootBusyA.half .a).bootBusy = true ∧
    (((flashAt 0x2000000).half .a).flashBusy = false ∧ ((flashAt 0x2000000).half .a).bootBusy = false ∧
      ((flashAt 0x2000000).half .a).flashArea 0x2000000 = true ∧ ((flashAt 0x2000000).half .a).flashArea 0x1000000 = false) ∧
    Grants running .a .mgmt Adr.DIE_FLASH_DATA ∧ (running.half .a).boot.page.length ≤ 252 ∧
    (running.half .a).reads Adr.DIE_FLASH_DATA = true ∧ Grants running .a .mgmt Adr.DIE_BOOT_CTRL :=
  ⟨grants_mgmt (by decide +kernel) rfl rfl (by decide +kernel), grants_mgmt (by decide +kernel) rfl rfl (by decide +kernel),
    by decide +kernel, by decide +kernel, grants_running (by decide +kernel), by decide +kernel, by decide +kernel,
    grants_running (by decide +kernel)⟩

/-! Heartbeats, lines, claims and handover. -/

/-- A message in sequence after 6; its sender is ACTIVE or, in what
follows a handover's request, STANDBY. -/
def msgOf (type arg : Nat) : BreezeMsg := ⟨type, if type ≤ 0x10 then 3 else 2, 1, 7, 0x0F000000#32, 0, 0, arg, 9⟩
/-- The message waits at Half B; Half A, with role code r and sentinel g, runs with its link up and its carrier aligned. -/
def hearing (type arg r : Nat) (g : Sentinel → Sentinel) : State := withBoth
  (fun x => (((((x.putBit Adr.RDN_LINK_STATUS 31 true).put Adr.RDN_ROLE_STATUS 0 3 r).wr Adr.TIM_MPLL_STATUS 0x42).putBit
    Adr.TIM_CARRIER_ALIGN 30 true).onSent g).onRdn fun y => { y with rxSeq := some 6, indexCrc := if r = 2 then some x.indexCrc else none })
  fun x => x.onRdn fun y => { y with breezeOut := [msgOf type arg] }

theorem heard_of (type arg r : Nat) (g : Sentinel → Sentinel) (m : BreezeMsg) (hm : m = msgOf type arg)
    (hl : ((hearing type arg r g).half .a).live = true) (hk : ((hearing type arg r g).half .a).linkUp = true)
    (hs : ((hearing type arg r g).half .a).rdn.rxSeq = some 6) : Heard (hearing type arg r g) .a type m [] :=
  ⟨by subst hm; rfl, by subst hm; rfl, hl, hk, by subst hm; intro n hn; rw [hs] at hn; cases hn; rfl⟩

/-- What Half A has made of the message before it looks at its role's conditions. -/
def tookMsg (s : State) (m : BreezeMsg) : Half :=
  let x := s.half .a
  let h1 := (x.putBit Adr.RDN_STATUS 5 true).event Adr.RDN_EVENT 0
  let h2 := (h1.onRdn fun y => { y with
    rxSeq := some m.seq, view := some ⟨m.role, m.mirrorFmt, m.health, m.planId, m.libGen, m.image⟩ }).onSent fun y =>
      { y with breezeLost := false, syncWaited := false, killHold := y.killHold.seen }
  ((h2.put Adr.RDN_ROLE_STATUS 8 3 m.role).putBit Adr.RDN_ROLE_STATUS 11 true).wr Adr.RDN_PARTNER_HEALTH m.health

/-- A STANDBY half holds the library of a partner that shows its generation, with the index CRC that it has itself. -/
theorem libMatch_of (x : Half) (v : PartnerView) (hv : x.rdn.view = some v) (hb : x.bit Adr.RDN_STATUS 5 = true)
    (hg : (v.libGen == x.rd Adr.MSG_LIB_GEN) = true) (hc : x.rdn.indexCrc = some x.indexCrc) : x.libMatch = true := by
  unfold Half.libMatch
  rw [hv]
  simp only [hb, hg, hc, Bool.true_and]
  split <;> simp

/-- The index CRC depends on the stored bytes and the bank in service alone. -/
theorem indexCrc_of (x y : Half) (hs : x.store = y.store) (hb : x.bankIn = y.bankIn) (hm : x.bankBytes = y.bankBytes) :
    x.indexCrc = y.indexCrc := by
  unfold Half.indexCrc Half.bankCrc Half.bankBase
  rw [hs, hb, hm]

/-- A STANDBY half that does not accept its partner's mirror format, and of which every condition that must keep holding holds, stays
STANDBY; the check shows itself in two registers beside LIB_MATCH. -/
theorem roleCheck_stays (x : Half) (v : PartnerView) (hl : x.libMatch = true)
    (hv : (x.putBit Adr.MSG_STATUS 3 true).rdn.view = some v) (hl0 : (x.putBit Adr.MSG_STATUS 3 true).libMatch = true)
    (hc : (let y := x.putBit Adr.MSG_STATUS 3 true
      (y.role == .standby && !y.sent.grace && !y.acceptsFmt v.mirrorFmt && !(decide (2 ≤ y.rdn.passes) && y.rdn.lastClean) &&
        y.holdsPlan && (y.get Adr.TIM_MPLL_STATUS 4 3 == 4 && y.get Adr.TIM_MPLL_STATUS 0 3 == 2) &&
        y.bit Adr.TIM_CARRIER_ALIGN 30 && (Region.all.all fun r => !r.required || y.up r) &&
        (y.put Adr.RDN_ROLE_STATUS 16 7 3).role == .standby)) = true) :
    x.roleCheck.role = .standby ∧ ∀ a, a ≠ Adr.RDN_ROLE_STATUS → a ≠ Adr.RDN_MIRROR_STATUS →
      x.roleCheck.rd a = (x.putBit Adr.MSG_STATUS 3 true).rd a := by
  simp only [Half.roleCheck, hl]
  generalize x.putBit Adr.MSG_STATUS 3 true = y at *
  simp only [Bool.and_eq_true, beq_iff_eq, Bool.not_eq_true'] at hc
  obtain ⟨⟨⟨⟨⟨⟨⟨⟨hr, hg⟩, hf⟩, hp⟩, hh⟩, hm⟩, ht⟩, hreg⟩, hz⟩ := hc
  have f : ofBool false = 0 := rfl
  have o : ofBool true = 1 := rfl
  have hm3 : y.missing = 3 := by
    unfold Half.missing
    simp only [hl0, hv, hf, hp, hh, hm, ht, hreg, Bool.and_false, Bool.not_true, Bool.not_false, f, o, beq_self_eq_true,
      Bool.and_self]
  simp only [hm3, hr, hg, Nat.reduceDiv, if_true, Bool.false_eq_true, if_false]
  refine ⟨?_, fun a h1 h2 => ?_⟩
  · rw [← hz]
    refine Half.role_of_rd ?_
    rw [Half.onSent_rd, Half.putBit, Half.putBit, Half.rd_put_ne _ _ _ _ (by decide), Half.rd_put_ne _ _ _ _ (by decide)]
  · simp only [Half.onSent_rd, Half.putBit, Half.rd_put_ne _ _ _ _ h2, Half.rd_put_ne _ _ _ _ h1]

/-- The library is held by a half with the base half's index. -/
theorem libMatch_base (z : Half) (hs : z.store = (base .a).store) (hb : z.bankIn = (base .a).bankIn)
    (hm : z.bankBytes = (base .a).bankBytes) (hi : z.rdn.indexCrc = some (base .a).indexCrc)
    (hv : z.rdn.view = some ⟨3, 1, 0x0F000000#32, 0, 0, 9⟩) (h5 : z.bit Adr.RDN_STATUS 5 = true) (hg : z.rd Adr.MSG_LIB_GEN = 0) :
    z.libMatch = true :=
  libMatch_of z _ hv h5 (by rw [hg]; rfl) (by rw [hi, indexCrc_of z (base .a) hs hb hm])

theorem heard_yield :
    ((hearing 2 0 2 id).heard .a (msgOf 2 0) []).role = .standby := by
  show (tookMsg (hearing 2 0 2 id) (msgOf 2 0)).roleCheck.role = _
  exact (roleCheck_stays (tookMsg (hearing 2 0 2 id) (msgOf 2 0)) _
    (libMatch_base _ rfl (by decide +kernel) (by decide +kernel) rfl rfl (by decide +kernel) (by decide +kernel)) rfl
    (libMatch_base _ rfl (by decide +kernel) (by decide +kernel) rfl rfl (by decide +kernel) (by decide +kernel))
    (by decide +kernel)).1

/-- Half A STANDBY and carrier-aligned, asked to take over at block 40; ACTIVE, having asked for it. -/
def askedToTake : State := hearing 0x10 40 2 id
def hasAsked (type : Nat) : State := hearing type 40 3 fun y => { y with handover := .asked 40 }

theorem wit_asked :
    Heard askedToTake .a 0x10 (msgOf 0x10 40) [] ∧
    (let y := askedToTake.heard .a (msgOf 0x10 40) []
     y.role = .standby ∧ y.busyCommit = false ∧ y.bit Adr.TIM_CARRIER_ALIGN 30 = true ∧ y.allTracked = true) := by
  refine ⟨heard_of 0x10 40 2 _ _ rfl (by decide +kernel) (by decide +kernel) rfl, ?_⟩
  show (let y := (tookMsg askedToTake (msgOf 0x10 40)).roleCheck
    y.role = .standby ∧ y.busyCommit = false ∧ y.bit Adr.TIM_CARRIER_ALIGN 30 = true ∧ y.allTracked = true)
  have key := roleCheck_stays (tookMsg askedToTake (msgOf 0x10 40)) _
    (libMatch_base _ rfl (by decide +kernel) (by decide +kernel) rfl rfl (by decide +kernel) (by decide +kernel)) rfl
    (libMatch_base _ rfl (by decide +kernel) (by decide +kernel) rfl rfl (by decide +kernel) (by decide +kernel))
    (by decide +kernel)
  have h1 : ((tookMsg askedToTake (msgOf 0x10 40)).putBit Adr.MSG_STATUS 3 true).busyCommit = false := by decide +kernel
  have h2 : ((tookMsg askedToTake (msgOf 0x10 40)).putBit Adr.MSG_STATUS 3 true).bit Adr.TIM_CARRIER_ALIGN 30 = true := by
    decide +kernel
  have h3 : ((tookMsg askedToTake (msgOf 0x10 40)).putBit Adr.MSG_STATUS 3 true).allTracked = true := by decide +kernel
  generalize (tookMsg askedToTake (msgOf 0x10 40)).putBit Adr.MSG_STATUS 3 true = z at *
  generalize (tookMsg askedToTake (msgOf 0x10 40)).roleCheck = y at *
  obtain ⟨hr, hd⟩ := key
  refine ⟨hr, ?_, ?_, ?_⟩
  · rw [← h1]; simp only [Half.busyCommit, Half.get, hd _ (show Adr.GRF_STATUS ≠ _ by decide) (by decide),
      hd _ (show Adr.MSG_STATUS ≠ _ by decide) (by decide)]
  · rw [← h2]; simp only [Half.bit, Half.get, hd _ (show Adr.TIM_CARRIER_ALIGN ≠ _ by decide) (by decide)]
  · simp only [Half.allTracked, List.all_eq_true, List.mem_range] at h3 ⊢
    intro k hk
    rw [← h3 k hk]
    simp only [Half.running, Half.bit, Half.get,
      hd (Adr.AMP_STATUS k) (by simp only [Adr.AMP_STATUS, Adr.RDN_ROLE_STATUS]; omega)
        (by simp only [Adr.AMP_STATUS, Adr.RDN_MIRROR_STATUS]; omega),
      hd (Adr.AMP_TRACK k) (by simp only [Adr.AMP_TRACK, Adr.RDN_ROLE_STATUS]; omega)
        (by simp only [Adr.AMP_TRACK, Adr.RDN_MIRROR_STATUS]; omega)]

theorem wit_send :
    let s := withA fun x => x.putBit Adr.RDN_LINK_STATUS 31 true
    (s.half .a).linkUp = true ∧ (s.half .a).up .control = true ∧ (s.half .a).live = true := by decide +kernel

theorem wit_messages :
    (receptionOf (.yield .a false) = some (.a, 2, false) ∧ Heard (hearing 2 0 2 id) .a 2 (msgOf 2 0) []) ∧
    (let s := hearing 2 0 2 id
     receptionOf (.yield .a true) = some (.a, 2, true) ∧ (s.half .b).rdn.breezeOut = [msgOf 2 0] ∧
      (s.half .a).live = true ∧ (s.half .a).linkUp = true) ∧
    ((hearing 2 0 2 id).heard .a (msgOf 2 0) []).role = .standby :=
  ⟨⟨rfl, heard_of 2 0 2 id _ rfl (by decide +kernel) (by decide +kernel) rfl⟩, by decide +kernel, heard_yield⟩

theorem wit_refused : ((hearing 0x10 40 3 id).heard .a (msgOf 0x10 40) []).role ≠ .standby := by decide +kernel

theorem wit_answered :
    Heard (hasAsked 0x11) .a 0x11 (msgOf 0x11 40) [] ∧
    ((hasAsked 0x11).heard .a (msgOf 0x11 40) []).sent.handover = .asked 40 :=
  ⟨heard_of 0x11 40 3 _ _ rfl (by decide +kernel) (by decide +kernel) rfl, by decide +kernel⟩

theorem wit_released :
    ((hasAsked 0x13).heard .a (msgOf 0x13 40) []).role = .active ∧
    ((hasAsked 0x13).heard .a (msgOf 0x13 40) []).rdn.arpAgain = none ∧
    ((hasAsked 0x14).heard .a (msgOf 0x14 40) []).sent.handover.target = some (msgOf 0x14 40).arg := by decide +kernel

/-- Half A with role code r and sentinel g, Half B with sentinel k. -/
def linesOf (r : Nat) (g k : Sentinel → Sentinel) : State :=
  withBoth (fun x => (x.put Adr.RDN_ROLE_STATUS 0 3 r).onSent g) fun x => x.onSent k
/-- Half A STANDBY without any heartbeat of its partner, which asserts its line. -/
def bothGone : State := linesOf 2 (fun y => { y with breezeLost := true, draughtLost := true }) fun y => { y with own := true }
/-- Half A kills Half B, which no longer asserts its line, and has heard that its role is SYNCING. -/
def killing : State := (linesOf 3 (fun y => { y with own := true, kill := true }) id).on .a fun x =>
  (x.onRdn fun y => { y with view := some ⟨1, 0, 0, 0, 0, 0⟩ }).putBit Adr.RDN_STATUS 5 true

theorem wit_heartbeats :
    ((running.half .a).bit Adr.RDN_STATUS 5 = false ∧ ((running.half .a).putBit Adr.RDN_STATUS 5 true).bit Adr.RDN_STATUS 5 = true ∧
      ((running.half .a).putBit Adr.RDN_STATUS 6 true).bit Adr.RDN_STATUS 6 = true) ∧
    ((linesOf 2 id fun y => { y with draught := .yield }).half .b).sent.draught = .yield ∧
    ((linesOf 2 id fun y => { y with draught := .alive }).half .b).sent.draught = .alive ∧
    (let s := linesOf 2 (fun y => { y with yieldWait := true }) fun y => { y with own := true }
     (s.half .a).sent.yieldWait = true ∧ s.counts .b = true) ∧
    (running.half .a).live = true ∧ (bothLinked.half .a).linkUp = true ∧
    (running.half .a).sent.dead = false ∧ (running.half .a).sent.ready = false := by decide +kernel

theorem wit_ready :
    let s := withA fun x => x.putBit Adr.DIE_BOOT_STATUS 28 false
    (s.half .a).live = true ∧ (s.half .a).bit Adr.DIE_BOOT_STATUS 28 = false ∧
      (∀ r : Region, r.required = true → (s.half .a).up r = true) ∧ (s.half .a).sent.ready = false ∧ (s.half .a).sent.dead = false := by
  refine ⟨by decide +kernel, by decide +kernel, ?_, by decide +kernel, by decide +kernel⟩
  intro r _; cases r <;> decide +kernel

theorem wit_claims :
    (let s := linesOf 0 (fun y => { y with holding := true }) id
     (s.half .a).sent.holding = true ∧ (s.half .a).role = .offline ∧ s.counts .b = false) ∧
    (let s := (linesOf 1 (fun y => { y with breezeLost := true }) id).on .a fun x =>
       x.onRdn fun y => { y with view := some ⟨2, 0, 0, 0, 0, 0⟩ }
     (s.half .a).role = .syncing ∧ (s.half .a).sent.breezeLost = true ∧ (s.half .a).holdsPlan = true ∧ s.counts .b = false) ∧
    (let s := linesOf 2 id id
     (s.half .a).role = .standby ∧ s.counts .b = false ∧ (s.half .a).sent.handover = .idle) ∧
    (let s := linesOf 2 (fun y => { y with claiming := 2 }) id
     (s.half .a).sent.claiming ≠ 0 ∧ (s.half .a).sent.claiming < 16 ∧ s.counts .b = false ∧
      (s.half .a).sent.forceCtl = false ∧ (s.half .a).sent.dead = false ∧ (s.half .a).live = true) ∧
    bothGone.counts .b = true := by decide +kernel

theorem wit_giveUp :
    (running.half .a).role ≠ .active ∧ ((linesOf 3 (fun y => { y with own := true }) id).half .a).role = .active ∧
    ((linesOf 3 (fun y => { y with own := true, giveUp := .detected 7 }) id).half .a).sent.giveUp = .detected 7 := by
  decide +kernel

theorem wit_handover :
    (let s := linesOf 3 (fun y => { y with own := true, handover := .agreed 0 }) id
     (s.half .a).sent.handover = .agreed ((s.half .a).block % 2 ^ 32)) ∧
    (let s := linesOf 2 (fun y => { y with handover := .taking 0 }) id
     (s.half .a).sent.handover = .taking ((s.half .a).block % 2 ^ 32)) ∧
    (let s := linesOf 2 (fun y => { y with handover := .waiting 0 }) id
     (s.half .a).sent.handover = .waiting 0 ∧ s.counts .b = false ∧ (s.half .a).sent.forceCtl = false ∧
      (s.half .a).sent.dead = false ∧ (s.half .a).live = true) ∧
    (linesOf 2 (fun y => { y with handover := .waiting 0 }) fun y => { y with own := true }).counts .b = true ∧
    (let s := linesOf 2 (fun y => { y with grace := true }) id
     (s.half .a).sent.grace = true ∧ (s.half .a).role = .standby ∧ (s.half .a).bit Adr.TIM_CARRIER_ALIGN 30 = false) := by
  decide +kernel

theorem wit_lines :
    (let s := linesOf 3 (fun y => { y with own := true }) fun y => { y with own := true }
     s.counts .a = true ∧ s.counts .b = true ∧ true ≠ (running.half .a).sent.own ∧ s.wiredCond = true) ∧
    (linesOf 3 (fun y => { y with own := true }) id).wiredCond = false ∧ bothGone.sentinelCond .a = true ∧
    bothGone.killDue .a = true ∧ running.killDue .a = false ∧ (killing.half .a).sent.kill = true ∧
    (∃ v, (killing.half .a).rdn.view = some v ∧ (killing.half .a).bit Adr.RDN_STATUS 5 = true ∧ v.role = 1 ∧
      (killing.half .b).line = false) := by
  refine ⟨by decide +kernel, by decide +kernel, by decide +kernel, by decide +kernel, by decide +kernel, by decide +kernel,
    ⟨1, 0, 0, 0, 0, 0⟩, rfl, by decide +kernel, rfl, by decide +kernel⟩
end Sys2Proof.Tests
end

section
/-! O6: the CRC-8 register (R49) and long division over GF(2). Both shift one bit at a time: on a remainder of eight bits a step
of the division is a step of the register XOR the bit shifted in. As a step of the register is linear, the division of one byte's
eight bits is eight register steps XOR the byte, so the register always runs eight steps, the zero bits of the CRC, ahead of the
remainder. -/

namespace Sys2Proof.Machine

/-- One step of the division of R49: shift a bit into the remainder and reduce by x^8 + x^2 + x + 1. -/
def remainderStep (r : Nat) (b : Bool) : Nat :=
  if 2 * r + ofBool b < 256 then 2 * r + ofBool b else (2 * r + ofBool b) ^^^ 0x107

theorem remainder8_eq_foldl (bits : List Bool) : remainder8 bits = bits.foldl remainderStep 0 := rfl

@[simp] theorem msbFirst_append (as bs : List Byte) : msbFirst (as ++ bs) = msbFirst as ++ msbFirst bs :=
  List.flatMap_append

theorem crc8Bit_lt (c : Nat) : crc8Bit c < 256 := by
  unfold crc8Bit
  split
  · exact Nat.xor_lt_two_pow (n := 8) (Nat.mod_lt _ (by decide)) (by decide)
  · omega

theorem crc8Bit_iterate_lt {c : Nat} (hc : c < 256) : ∀ k, crc8Bit^[k] c < 256
  | 0 => hc
  | k + 1 => by rw [Function.iterate_succ_apply']; exact crc8Bit_lt _

/-- Below 128 nothing leaves the register, so the step is a plain shift. -/
theorem crc8Bit_of_lt {c : Nat} (hc : c < 128) : crc8Bit c = 2 * c := if_neg (by omega)

/-- A step is a shift and, where the top bit leaves the register, the subtraction of the whole polynomial. -/
theorem crc8Bit_eq_shift_xor : ∀ c < 256, crc8Bit c = 2 * c ^^^ (if c.testBit 7 then 0x107 else 0) := by decide +kernel

/-- A step of the register is linear over GF(2). -/
theorem crc8Bit_xor {x y : Nat} (hx : x < 256) (hy : y < 256) : crc8Bit (x ^^^ y) = crc8Bit x ^^^ crc8Bit y := by
  have hshift : 2 * (x ^^^ y) = 2 * x ^^^ 2 * y := by
    simpa [Nat.shiftLeft_eq, mul_comm] using Nat.shiftLeft_xor_distrib (a := x) (b := y) (i := 1)
  rw [crc8Bit_eq_shift_xor _ (Nat.xor_lt_two_pow (n := 8) hx hy), crc8Bit_eq_shift_xor x hx, crc8Bit_eq_shift_xor y hy,
    hshift, Nat.testBit_xor]
  generalize 2 * x = u, 2 * y = v
  cases x.testBit 7 <;> cases y.testBit 7 <;> simp [Nat.xor_assoc, Nat.xor_comm, Nat.xor_left_comm]

theorem remainderStep_eq_crc8Bit_xor : ∀ r < 256, ∀ b, remainderStep r b = crc8Bit r ^^^ ofBool b := by decide +kernel

theorem remainderStep_lt {r : Nat} (hr : r < 256) (b : Bool) : remainderStep r b < 256 := by
  rw [remainderStep_eq_crc8Bit_xor r hr b]
  exact Nat.xor_lt_two_pow (n := 8) (crc8Bit_lt r) ((ofBool_lt b).trans (by decide))

theorem remainder8_lt (bits : List Bool) : remainder8 bits < 256 :=
  List.foldlRecOn bits remainderStep (motive := (· < 256)) (by decide) fun _ hr b _ => remainderStep_lt hr b

theorem ofBool_eq_toNat (b : Bool) : ofBool b = b.toNat := by cases b <;> rfl

/-- The leading bits of a number, with its next bit shifted in. -/
theorem two_mul_div_xor_testBit (n j : Nat) : 2 * (n / 2 ^ (j + 1)) ^^^ ofBool (n.testBit j) = n / 2 ^ j := by
  have hxor : 2 * (n / 2 ^ (j + 1)) ^^^ ofBool (n.testBit j) = 2 * (n / 2 ^ (j + 1)) + ofBool (n.testBit j) := by
    cases n.testBit j <;> simp
  have hbit : ofBool (n.testBit j) = n / 2 ^ j % 2 := by rw [ofBool_eq_toNat, Nat.toNat_testBit]
  rw [hxor, hbit, pow_succ, ← Nat.div_div_eq_div_mul]
  omega

/-- The division of the first k bits of a byte: k register steps, XOR those bits. -/
theorem foldl_remainderStep_leadingBits {r : Nat} (hr : r < 256) (b : Byte) : ∀ k ≤ 8,
    ((List.range k).map fun i => b.getLsbD (7 - i)).foldl remainderStep r = crc8Bit^[k] r ^^^ b.toNat / 2 ^ (8 - k)
  | 0, _ => by simp [Nat.div_eq_of_lt b.isLt]
  | k + 1, hk => by
    have hlead : b.toNat / 2 ^ (7 - k + 1) < 128 := by
      rw [pow_succ', ← Nat.div_div_eq_div_mul]
      exact (Nat.div_le_self _ _).trans_lt (by have := b.isLt; omega)
    have hreg := crc8Bit_iterate_lt hr k
    have hpos : 8 - k = 7 - k + 1 := by omega
    have hnext : 8 - (k + 1) = 7 - k := by omega
    rw [List.range_succ, List.map_append, List.foldl_append, foldl_remainderStep_leadingBits hr b k (by omega), hpos, hnext]
    calc remainderStep (crc8Bit^[k] r ^^^ b.toNat / 2 ^ (7 - k + 1)) (b.toNat.testBit (7 - k))
        = crc8Bit (crc8Bit^[k] r ^^^ b.toNat / 2 ^ (7 - k + 1)) ^^^ ofBool (b.toNat.testBit (7 - k)) :=
          remainderStep_eq_crc8Bit_xor _ (Nat.xor_lt_two_pow (n := 8) hreg (by omega)) _
      _ = crc8Bit^[k + 1] r ^^^ (2 * (b.toNat / 2 ^ (7 - k + 1)) ^^^ ofBool (b.toNat.testBit (7 - k))) := by
          rw [crc8Bit_xor hreg (by omega), crc8Bit_of_lt hlead, ← Function.iterate_succ_apply' crc8Bit, Nat.xor_assoc]
      _ = crc8Bit^[k + 1] r ^^^ b.toNat / 2 ^ (7 - k) := by rw [two_mul_div_xor_testBit]

/-- One more byte moves the remainder eight register steps and XORs the byte in. -/
theorem remainder8_msbFirst_concat (bytes : List Byte) (b : Byte) :
    remainder8 (msbFirst (bytes ++ [b])) = crc8Bit^[8] (remainder8 (msbFirst bytes)) ^^^ b.toNat := by
  rw [msbFirst_append, remainder8_eq_foldl, List.foldl_append, ← remainder8_eq_foldl]
  simpa [msbFirst] using foldl_remainderStep_leadingBits (remainder8_lt (msbFirst bytes)) b 8 le_rfl

theorem crc8Byte_eq_iterate (c : Nat) (b : Byte) : crc8Byte c b = crc8Bit^[8] (c ^^^ b.toNat) :=
  List.foldl_const crc8Bit _ (List.range 8)

/-- The register runs eight steps ahead of the remainder. -/
theorem foldl_crc8Byte_eq_iterate_remainder8 (bytes : List Byte) :
    bytes.foldl crc8Byte 0 = crc8Bit^[8] (remainder8 (msbFirst bytes)) := by
  induction bytes using List.reverseRecOn with
  | nil => exact (Function.iterate_fixed (crc8Bit_of_lt (by decide)) 8).symm
  | append_singleton bytes b ih =>
    rw [List.foldl_append, ih, List.foldl_cons, List.foldl_nil, crc8Byte_eq_iterate, remainder8_msbFirst_concat]

/-- The eight zero bits are the bits of a zero byte, and move the remainder eight register steps. -/
theorem remainder8_msbFirst_append_zeros (bytes : List Byte) :
    remainder8 (msbFirst bytes ++ List.replicate 8 false) = crc8Bit^[8] (remainder8 (msbFirst bytes)) := by
  have hzeros : List.replicate 8 false = msbFirst [0] := by decide
  rw [hzeros, ← msbFirst_append, remainder8_msbFirst_concat]
  exact Nat.xor_zero _

/-- Settles O6: the register runs eight steps ahead of the remainder, which is what the eight zero bits make up for. -/
theorem crc8IsThePolynomialRemainder : Obligations.Crc8IsThePolynomialRemainder := by
  refine ⟨fun bytes => ?_, by decide +kernel⟩
  rw [remainder8_msbFirst_append_zeros, crc8, foldl_crc8Byte_eq_iterate_remainder8, BitVec.toNat_ofNat]
  exact Nat.mod_eq_of_lt (crc8Bit_iterate_lt (remainder8_lt _) 8)

end Sys2Proof.Machine
end

section
/-! O18: a frame that passes the checks of R89 and R90 is counted (R120) and, when it is a MAC control frame, goes to the MAC alone
(R91), which counts an opcode that is not pause (R108). Both are additions to counters, and what a chain of operations on registers
leaves alone follows from the registers of each link. -/

namespace Sys2Proof.Machine

open Sys2Proof

theorem OnlyRegs.refl (as : List Nat) (x : Half) : OnlyRegs as x x := ⟨rfl, fun _ _ => rfl⟩

theorem OnlyRegs.mono {as bs : List Nat} {x y : Half} (h : OnlyRegs as x y) (hs : as ⊆ bs) : OnlyRegs bs x y :=
  ⟨h.1, fun a ha => h.2 a fun hm => ha (hs hm)⟩

theorem OnlyRegs.trans {as bs : List Nat} {x y z : Half} (h : OnlyRegs as x y) (k : OnlyRegs bs y z) :
    OnlyRegs (as ++ bs) x z := by
  obtain ⟨hy, hxy⟩ := h
  obtain ⟨hz, hyz⟩ := k
  refine ⟨by rw [hz, hy], fun a ha => ?_⟩
  rw [List.mem_append, not_or] at ha
  exact (hyz a ha.2).trans (hxy a ha.1)

/-- A counter apart from the registers that changed reads as it did. -/
theorem OnlyRegs.counter_eq {as : List Nat} {x y : Half} (h : OnlyRegs as x y) {p : Nat} {c : MacCnt}
    (hd : as.Disjoint (counterRegs p c)) : y.counter p c = x.counter p c := by
  have same : ∀ a ∈ counterRegs p c, y.rd a = x.rd a := fun a ha => h.2 a fun hm => hd hm ha
  simp only [counterRegs, List.forall_mem_cons] at same
  obtain ⟨lo, hi, -⟩ := same
  simp only [Half.counter, Half.rd64, lo, hi]

theorem counterRegs_disjoint (p : Nat) {c e : MacCnt} (h : c ≠ e) : (counterRegs p c).Disjoint (counterRegs p e) := by
  have hi := MacCnt.idx_inj h
  intro a hc he
  simp only [counterRegs, List.mem_cons, List.not_mem_nil, or_false, Adr.MAC_CNT] at hc he
  omega

theorem Half.tally_onlyRegs (x : Half) (p : Nat) (c : MacCnt) (d : Nat) : OnlyRegs (counterRegs p c) x (x.tally p c d) :=
  ⟨Half.tally_shape x p c d, fun _ ha => Half.tally_rd x p c d ha⟩

/-- The registers of the counters that a good frame may move (R120). -/
def goodFrameRegs (p : Nat) : List Nat :=
  counterRegs p .rxOctets ++ counterRegs p .rxFrames ++ (counterRegs p .rxBcast ++ counterRegs p .rxMcast)

theorem Half.goodFrame_onlyRegs (x : Half) (p : Nat) (da : List Byte) (len : Nat) :
    OnlyRegs (goodFrameRegs p) x (x.goodFrame p da len) := by
  have counted := (x.tally_onlyRegs p .rxOctets len).trans ((x.tally p .rxOctets len).tally_onlyRegs p .rxFrames 1)
  unfold Half.goodFrame
  refine counted.trans ?_
  split
  · exact (Half.tally_onlyRegs _ p .rxBcast 1).mono (List.subset_append_left _ _)
  · split
    · exact (Half.tally_onlyRegs _ p .rxMcast 1).mono (List.subset_append_right _ _)
    · exact .refl _ _

theorem goodFrameRegs_disjoint (p : Nat) : (goodFrameRegs p).Disjoint (counterRegs p .rxMacctrlUnsup) := by
  simp only [goodFrameRegs, List.disjoint_append_left]
  exact ⟨⟨counterRegs_disjoint p (by decide), counterRegs_disjoint p (by decide)⟩, counterRegs_disjoint p (by decide),
    counterRegs_disjoint p (by decide)⟩

/-- A frame that arrives at a port that receives moves its half as `receiveFrame` says, and nothing else (R35). -/
theorem completesAt_frameReceive {h : HalfId} {p : PortId} {bytes : List Byte} {ofs : BlockOfs} {occ : RxOcc} {s : State}
    {P : Half → Prop} (hr : (s.half h).receives p = true)
    (hP : P ((s.half h).receiveFrame p bytes ofs ((s.half h).now ofs) occ)) : CompletesAt (.frameReceive h p bytes ofs occ) h s P :=
  ⟨_, rfl, by rwa [State.on_half, if_pos hr], State.on_other .., State.on_wiredFault .., State.on_pending ..⟩

/-- A good MAC control frame is counted and consumed, whatever its address (R91). -/
theorem GoodFrame.receiveFrame_macControl {x : Half} {p : Nat} {bytes : List Byte} {occ : RxOcc} {f : Parsed}
    (hg : GoodFrame x p bytes occ) (hf : f = parseFrame (bytes.take (bytes.length - 4))) (ht : f.etype = 0x8808) (ofs sfd : Nat) :
    x.receiveFrame p bytes ofs sfd occ = (x.goodFrame p f.da bytes.length).macControl p f ofs := by
  obtain ⟨room, long, short, fcs⟩ := hg
  rw [← hf] at room
  unfold Half.receiveFrame
  simp only [room, ← hf, ht, Nat.not_lt.mpr long, Nat.not_lt.mpr short, not_not.mpr fcs, Bool.not_true, Bool.false_eq_true,
    if_false, if_true]

theorem Half.macControl_of_unsupported (x : Half) (p : Nat) {f : Parsed} (ho : beAt f.body 0 2 ≠ 1) (ofs : Nat) :
    x.macControl p f ofs = x.tally p .rxMacctrlUnsup 1 := if_neg ho

/-- Settles O18: the frame is counted as a good one is, which leaves `RX_MACCTRL_UNSUP` alone, and that counter is counted up. -/
theorem otherControlFramesAreDiscarded : Obligations.OtherControlFramesAreDiscarded := by
  intro h p bytes ofs occ s f hr hg hf ht ho
  refine completesAt_frameReceive hr ?_
  rw [hg.receiveFrame_macControl hf ht, Half.macControl_of_unsupported _ _ ho]
  have good := (s.half h).goodFrame_onlyRegs p f.da bytes.length
  constructor
  · rw [Half.counter_tally, good.counter_eq (goodFrameRegs_disjoint p)]
  · refine (good.trans (Half.tally_onlyRegs _ p .rxMacctrlUnsup 1)).mono fun a ha => ?_
    simp only [goodFrameRegs, List.mem_append] at ha ⊢
    tauto

end Sys2Proof.Machine
end

section
/-! O3, O4: a command of one half writes that half alone (R35), and the operations of the package keep the queue of waiting
commands and the pull of the wired enable logic; NEITHER_ENABLED_FAULT and FAULT_RELEASE alone write the latter. -/

namespace Sys2Proof.Machine

open Sys2Proof

theorem State.scrub_shared (h : HalfId) (as : List Nat) (s : State) :
    (as.foldl (fun t a => t.scrubWord h a) s).shared = s.shared :=
  foldl_shared (fun t a => State.scrubWord_shared t h a) as s

/-- Every command but the two of the wired enable logic (R457, R518) answers a state with the same queue and the same pull. -/
theorem exec_shared (c : Instr) (s : State) (hn : c ≠ .neitherEnabledFault) (hr : c ≠ .faultRelease) :
    ∃ t, exec c s = .next t ∧ t.shared = s.shared := by
  cases c
  case neitherEnabledFault => exact absurd rfl hn
  case faultRelease => exact absurd rfl hr
  case psenReleaseDelay h c =>
    cases c <;> exact ⟨_, rfl, by simp only [State.startRecovery_shared, State.psen_shared, State.on_shared]⟩
  case crossSenseWindow a b => exact ⟨_, rfl, by split <;> rfl⟩
  all_goals refine ⟨_, rfl, ?_⟩
  all_goals try with_reducible exact State.on_shared s _ _
  all_goals try with_reducible exact (State.lines_shared _).trans (State.on_shared s _ _)
  all_goals try with_reducible exact State.refChange_shared s _ _
  all_goals try with_reducible exact State.receive_shared s _ _ _ _
  all_goals try with_reducible exact State.write_shared s _ _ _ _
  all_goals try with_reducible exact State.pairWrite_shared s _ _ _ _
  all_goals try with_reducible exact State.issue_shared s _ _ _ _ _ _ _
  all_goals try dsimp only
  all_goals repeat' split
  all_goals try with_reducible rfl
  all_goals simp only [State.on_shared, State.lines_shared, State.psen_shared, State.settle_shared, State.frame_shared,
    State.read_shared, State.write_shared, State.claimNow_shared, State.onarDown_shared, State.select_shared,
    State.setHalf_shared, State.proceedAlone_shared, State.endKill_shared, State.finishCopy_shared, State.takeMirror_shared,
    State.shareTarget_shared, State.resyncPass_shared, State.scrub_shared, State.writeWide_shared]

/-- The two commands of the wired enable logic keep the queue. -/
theorem exec_pending (c : Instr) (s : State) : ∃ t, exec c s = .next t ∧ t.pending = s.pending := by
  by_cases hn : c = .neitherEnabledFault
  · subst hn
    exact ⟨_, rfl, by split <;> rfl⟩
  by_cases hr : c = .faultRelease
  · subst hr
    exact ⟨_, rfl, by simp only [State.on_pending]⟩
  obtain ⟨t, ht, hs⟩ := exec_shared c s hn hr
  exact ⟨t, ht, (State.shared_ext hs).1⟩

/-- Settles O3: a step takes the front command away and its meaning keeps the rest of the queue. -/
theorem stepKeepsQueueWellFormed : Obligations.StepKeepsQueueWellFormed := by
  intro s
  cases hp : s.pending with
  | nil => exact ⟨s, by simp only [step, hp], hp, id, fun _ => rfl⟩
  | cons c rest =>
    obtain ⟨t, ht, hq⟩ := exec_pending c { s with pending := rest }
    refine ⟨t, by simpa only [step, hp] using ht, hq, fun hw d hd => hw d ?_, fun h => by cases h⟩
    rw [hp]
    exact List.mem_cons_of_mem c (by rwa [hq] at hd)

/-- Settles O4: of the two commands, the first only sets the pull, under its condition, the second only clears it, without. -/
theorem wiredFaultMovesOnlyByItsTwoCommands : Obligations.WiredFaultMovesOnlyByItsTwoCommands := by
  intro c s t ht
  by_cases hn : c = .neitherEnabledFault
  · subst hn
    obtain rfl : (if s.wiredCond then { s with wiredFault := true } else s) = t := Host.Outcome.next.inj ht
    by_cases hc : s.wiredCond <;> simp_all
  by_cases hr : c = .faultRelease
  · subst hr
    have hw : (s.wiredFault && s.wiredCond) = t.wiredFault := by
      rw [← Host.Outcome.next.inj ht]
      simp only [State.on_wiredFault]
    cases hs : s.wiredFault <;> simp_all
  obtain ⟨u, hu, hs⟩ := exec_shared c s hn hr
  obtain rfl : u = t := Host.Outcome.next.inj (hu.symm.trans ht)
  have hw := (State.shared_ext hs).2
  constructor <;> intro h1 h2 <;> simp_all

end Sys2Proof.Machine
end

section
/-! What a register, a field and a bit of a half read after each operation on registers, as equations that `simp` follows through a
chain of operations; and the shapes in which a command of one half completes. -/

namespace Sys2Proof.Machine

open Sys2Proof

/-! A field of a word after a field of it is written. -/

/-- A field inside the one written reads its part of the value. -/
theorem getBits_setBits_within (w : Word) {lo n lo' n' : Nat} (v : Nat) (h : lo + n ≤ 32) (h1 : lo ≤ lo') (h2 : lo' + n' ≤ lo + n) :
    getBits (setBits w lo n v) lo' n' = v / 2 ^ (lo' - lo) % 2 ^ n' := by
  obtain ⟨k, rfl⟩ := Nat.exists_eq_add_of_le h1
  have whole := getBits_setBits_self w lo n v h
  have split : getBits (setBits w lo n v) (lo + k) n' = getBits (setBits w lo n v) lo n / 2 ^ k % 2 ^ n' := by
    unfold getBits
    generalize (setBits w lo n v).toNat = u
    obtain ⟨j, rfl⟩ : ∃ j, n = k + n' + j := ⟨n - k - n', by omega⟩
    rw [pow_add 2 lo k, ← Nat.div_div_eq_div_mul, pow_add, pow_add, mul_assoc, Nat.mod_mul_right_div_self, Nat.mod_mul_right_mod]
  rw [split, whole, Nat.add_sub_cancel_left]
  obtain ⟨j, rfl⟩ : ∃ j, n = k + n' + j := ⟨n - k - n', by omega⟩
  rw [pow_add, pow_add, mul_assoc, Nat.mod_mul_right_div_self, Nat.mod_mul_right_mod]

@[simp] theorem getBits_setBits_same (w : Word) {lo n : Nat} (v : Nat) (h : lo + n ≤ 32) :
    getBits (setBits w lo n v) lo n = v % 2 ^ n := getBits_setBits_self w lo n v h

@[simp] theorem getBits_setBits_apart (w : Word) {lo n lo' n' : Nat} (v : Nat) (h : lo + n ≤ 32)
    (h1 : lo + n ≤ lo' ∨ lo' + n' ≤ lo) : getBits (setBits w lo n v) lo' n' = getBits w lo' n' :=
  getBits_setBits_ne w lo n v lo' n' h h1

@[simp] theorem getBits_ofNat (v lo n : Nat) : getBits (BitVec.ofNat 32 v) lo n = v % 2 ^ 32 / 2 ^ lo % 2 ^ n := by
  simp only [getBits, BitVec.toNat_ofNat]

@[simp] theorem ofBool_mod_two (b : Bool) : ofBool b % 2 = ofBool b := by cases b <;> rfl
@[simp] theorem ofBool_beq_one (b : Bool) : (ofBool b == 1) = b := by cases b <;> rfl
@[simp] theorem ofBool_eq_one (b : Bool) : ofBool b = 1 ↔ b = true := by cases b <;> simp

/-! Fields and bits as reads of a half. -/

@[simp] theorem Half.getBits_rd (x : Half) (a lo n : Nat) : getBits (x.rd a) lo n = x.get a lo n := rfl
@[simp] theorem Half.get_beq_one (x : Half) (a b : Nat) : (x.get a b 1 == 1) = x.bit a b := rfl

theorem Half.get_lt (x : Half) (a lo n : Nat) : x.get a lo n < 2 ^ n := Nat.mod_lt _ (by positivity)

theorem Half.get_one_eq_ofBool (x : Half) (a b : Nat) : x.get a b 1 = ofBool (x.bit a b) := by
  have h := x.get_lt a b 1
  simp only [Half.bit, ofBool, beq_iff_eq]
  split <;> omega

@[simp] theorem Half.get_one_eq_one (x : Half) (a b : Nat) : x.get a b 1 = 1 ↔ x.bit a b = true := by
  rw [x.get_one_eq_ofBool, ofBool_eq_one]

@[simp] theorem Half.get_one_eq_zero (x : Half) (a b : Nat) : x.get a b 1 = 0 ↔ x.bit a b = false := by
  rw [x.get_one_eq_ofBool]
  cases x.bit a b <;> simp

/-! Reads after each operation. -/

section reads
variable (x : Half) (a b : Nat)

@[simp] theorem Half.read_wr (v : Word) : (x.wr a v).rd b = if b = a then v else x.rd b := Half.rd_wr x a b v
@[simp] theorem Half.read_put (lo n v : Nat) : (x.put a lo n v).rd b = if b = a then setBits (x.rd a) lo n v else x.rd b :=
  Half.rd_wr x a b _
@[simp] theorem Half.read_putBit (k : Nat) (v : Bool) :
    (x.putBit a k v).rd b = if b = a then setBits (x.rd a) k 1 (ofBool v) else x.rd b := Half.rd_wr x a b _
@[simp] theorem Half.read_event (k : Nat) : (x.event a k).rd b = if b = a then setBits (x.rd a) k 1 1 else x.rd b :=
  Half.rd_wr x a b _
@[simp] theorem Half.read_wrNat (v : Nat) : (x.wrNat a v).rd b = if b = a then BitVec.ofNat 32 v else x.rd b := Half.rd_wr x a b _
@[simp] theorem Half.read_count (lo n d : Nat) :
    (x.count a lo n d).rd b = if b = a then setBits (x.rd a) lo n (satAdd n (x.get a lo n) d) else x.rd b := Half.rd_wr x a b _
@[simp] theorem Half.read_wrap (lo n d : Nat) :
    (x.wrap a lo n d).rd b = if b = a then setBits (x.rd a) lo n (x.get a lo n + d) else x.rd b := Half.rd_wr x a b _
@[simp] theorem Half.read_latch (c : Nat) :
    (x.latch a c).rd b =
      if b = a then BitVec.ofNat 32 (0x80000000 + (if x.bit a 31 then 0x40000000 else 0) + c % 0x10000) else x.rd b :=
  Half.rd_wr x a b _

end reads

section fields
variable (x : Half) (a b lo' n' : Nat)

@[simp] theorem Half.get_wr (v : Word) : (x.wr a v).get b lo' n' = if b = a then getBits v lo' n' else x.get b lo' n' := by
  unfold Half.get; rw [Half.read_wr]; split <;> rfl
@[simp] theorem Half.get_put (lo n v : Nat) :
    (x.put a lo n v).get b lo' n' = if b = a then getBits (setBits (x.rd a) lo n v) lo' n' else x.get b lo' n' :=
  x.get_wr a b lo' n' _
@[simp] theorem Half.get_putBit (k : Nat) (v : Bool) :
    (x.putBit a k v).get b lo' n' = if b = a then getBits (setBits (x.rd a) k 1 (ofBool v)) lo' n' else x.get b lo' n' :=
  x.get_wr a b lo' n' _
@[simp] theorem Half.get_event (k : Nat) :
    (x.event a k).get b lo' n' = if b = a then getBits (setBits (x.rd a) k 1 1) lo' n' else x.get b lo' n' :=
  x.get_wr a b lo' n' _
@[simp] theorem Half.get_wrNat (v : Nat) :
    (x.wrNat a v).get b lo' n' = if b = a then getBits (BitVec.ofNat 32 v) lo' n' else x.get b lo' n' := x.get_wr a b lo' n' _
@[simp] theorem Half.get_count (lo n d : Nat) :
    (x.count a lo n d).get b lo' n' =
      if b = a then getBits (setBits (x.rd a) lo n (satAdd n (x.get a lo n) d)) lo' n' else x.get b lo' n' := x.get_wr a b lo' n' _
@[simp] theorem Half.get_wrap (lo n d : Nat) :
    (x.wrap a lo n d).get b lo' n' =
      if b = a then getBits (setBits (x.rd a) lo n (x.get a lo n + d)) lo' n' else x.get b lo' n' := x.get_wr a b lo' n' _

/-- The cause of a fault register reads as latched (R57). -/
@[simp] theorem Half.get_latch_cause (c : Nat) : (x.latch a c).get a 0 16 = c % 0x10000 := (x.latch_valid a c).2
theorem Half.get_latch_ne (c : Nat) (h : b ≠ a) : (x.latch a c).get b lo' n' = x.get b lo' n' := by
  unfold Half.get; rw [Half.rd_latch_ne x c h]

end fields

section bits
variable (x : Half) (a b k' : Nat)

@[simp] theorem Half.bit_wr (v : Word) : (x.wr a v).bit b k' = if b = a then getBits v k' 1 == 1 else x.bit b k' := by
  unfold Half.bit; rw [Half.get_wr]; split <;> rfl
@[simp] theorem Half.bit_put (lo n v : Nat) :
    (x.put a lo n v).bit b k' = if b = a then getBits (setBits (x.rd a) lo n v) k' 1 == 1 else x.bit b k' := x.bit_wr a b k' _
@[simp] theorem Half.bit_putBit (k : Nat) (v : Bool) :
    (x.putBit a k v).bit b k' = if b = a then getBits (setBits (x.rd a) k 1 (ofBool v)) k' 1 == 1 else x.bit b k' :=
  x.bit_wr a b k' _
@[simp] theorem Half.bit_event (k : Nat) :
    (x.event a k).bit b k' = if b = a then getBits (setBits (x.rd a) k 1 1) k' 1 == 1 else x.bit b k' := x.bit_wr a b k' _
@[simp] theorem Half.bit_wrNat (v : Nat) :
    (x.wrNat a v).bit b k' = if b = a then getBits (BitVec.ofNat 32 v) k' 1 == 1 else x.bit b k' := x.bit_wr a b k' _
@[simp] theorem Half.bit_count (lo n d : Nat) :
    (x.count a lo n d).bit b k' =
      if b = a then getBits (setBits (x.rd a) lo n (satAdd n (x.get a lo n) d)) k' 1 == 1 else x.bit b k' := x.bit_wr a b k' _
@[simp] theorem Half.bit_wrap (lo n d : Nat) :
    (x.wrap a lo n d).bit b k' =
      if b = a then getBits (setBits (x.rd a) lo n (x.get a lo n + d)) k' 1 == 1 else x.bit b k' := x.bit_wr a b k' _

/-- VALID of a fault register is 1 once a cause is latched (R57). -/
@[simp] theorem Half.bit_latch_valid (c : Nat) : (x.latch a c).bit a 31 = true := (x.latch_valid a c).1
theorem Half.bit_latch_ne (c : Nat) (h : b ≠ a) : (x.latch a c).bit b k' = x.bit b k' := by
  unfold Half.bit; rw [Half.get_latch_ne _ _ _ _ _ _ h]

end bits

/-! A half whose registers alone differ; reads of a half with another part changed. -/

theorem Half.get_congr {x y : Half} {a : Nat} (h : y.rd a = x.rd a) (lo n : Nat) : y.get a lo n = x.get a lo n := by
  unfold Half.get; rw [h]

theorem Half.bit_congr {x y : Half} {a : Nat} (h : y.rd a = x.rd a) (b : Nat) : y.bit a b = x.bit a b := by
  unfold Half.bit; rw [Half.get_congr h]

theorem SameRegs.refl (as : List Nat) (x : Half) : SameRegs as x x := fun _ _ => rfl

theorem SameRegs.mono {as bs : List Nat} {x y : Half} (h : SameRegs as x y) (hs : as ⊆ bs) : SameRegs bs x y :=
  fun a ha => h a fun hm => ha (hs hm)

theorem SameRegs.trans {as : List Nat} {x y z : Half} (h : SameRegs as x y) (k : SameRegs as y z) : SameRegs as x z :=
  fun a ha => (k a ha).trans (h a ha)

theorem SameRegs.get {as : List Nat} {x y : Half} (h : SameRegs as x y) {a : Nat} (ha : a ∉ as) (lo n : Nat) :
    y.get a lo n = x.get a lo n := Half.get_congr (h a ha) lo n

theorem SameRegs.bit {as : List Nat} {x y : Half} (h : SameRegs as x y) {a : Nat} (ha : a ∉ as) (b : Nat) :
    y.bit a b = x.bit a b := Half.bit_congr (h a ha) b

/-! Operations that write registers of a set only. -/

/-- y is x with registers of a set written. -/
structure Writes (p : Nat → Prop) (x y : Half) : Prop where
  same : y = { x with regs := y.regs }
  keeps : ∀ a, ¬ p a → y.rd a = x.rd a

namespace Writes
variable {p q : Nat → Prop} {x y z : Half}

theorem refl (p : Nat → Prop) (x : Half) : Writes p x x := ⟨rfl, fun _ _ => rfl⟩

theorem mono (h : Writes p x y) (hq : ∀ a, p a → q a) : Writes q x y := ⟨h.same, fun a ha => h.keeps a fun hp => ha (hq a hp)⟩

theorem trans (h : Writes p x y) (k : Writes p y z) : Writes p x z := by
  obtain ⟨hy, hxy⟩ := h
  obtain ⟨hz, hyz⟩ := k
  exact ⟨by rw [hz, hy], fun a ha => (hyz a ha).trans (hxy a ha)⟩

theorem wr (h : Writes p x y) {a : Nat} (v : Word) (ha : p a) : Writes p x (y.wr a v) :=
  h.trans ⟨rfl, fun _ hb => Half.rd_wr_ne y v fun e => hb (e ▸ ha)⟩

theorem wrNat (h : Writes p x y) {a : Nat} (v : Nat) (ha : p a) : Writes p x (y.wrNat a v) := h.wr _ ha
theorem put (h : Writes p x y) {a : Nat} (lo n v : Nat) (ha : p a) : Writes p x (y.put a lo n v) := h.wr _ ha
theorem putBit (h : Writes p x y) {a : Nat} (b : Nat) (v : Bool) (ha : p a) : Writes p x (y.putBit a b v) := h.wr _ ha
theorem event (h : Writes p x y) {a : Nat} (b : Nat) (ha : p a) : Writes p x (y.event a b) := h.wr _ ha
theorem count (h : Writes p x y) {a : Nat} (lo n d : Nat) (ha : p a) : Writes p x (y.count a lo n d) := h.wr _ ha
theorem wrap (h : Writes p x y) {a : Nat} (lo n d : Nat) (ha : p a) : Writes p x (y.wrap a lo n d) := h.wr _ ha
theorem latch (h : Writes p x y) {a : Nat} (c : Nat) (ha : p a) : Writes p x (y.latch a c) := h.wr _ ha

theorem ite {c : Prop} [Decidable c] (hy : c → Writes p x y) (hz : ¬ c → Writes p x z) : Writes p x (if c then y else z) := by
  split
  · exact hy ‹_›
  · exact hz ‹_›

/-- An operation repeated over a list of indices. -/
theorem foldl {α : Type} {is : List α} {f : Half → α → Half} (hf : ∀ i ∈ is, ∀ y, Writes p y (f y i)) (x : Half) :
    Writes p x (is.foldl f x) := by
  induction is generalizing x with
  | nil => exact refl p x
  | cons i is ih =>
    exact (hf i List.mem_cons_self x).trans (ih (fun j hj => hf j (List.mem_cons_of_mem i hj)) (f x i))

theorem onlyRegs {as : List Nat} (h : Writes (· ∈ as) x y) : OnlyRegs as x y := ⟨h.same, h.keeps⟩

theorem sameRegs {as : List Nat} (h : Writes (· ∈ as) x y) : SameRegs as x y := h.keeps

theorem get (h : Writes p x y) {a : Nat} (ha : ¬ p a) (lo n : Nat) : y.get a lo n = x.get a lo n := Half.get_congr (h.keeps a ha) lo n

theorem bit (h : Writes p x y) {a : Nat} (ha : ¬ p a) (b : Nat) : y.bit a b = x.bit a b := Half.bit_congr (h.keeps a ha) b

end Writes

theorem OnlyRegs.writes {as : List Nat} {x y : Half} (h : OnlyRegs as x y) : Writes (· ∈ as) x y := ⟨h.1, h.2⟩

/-! How a command completes. -/

theorem completes_of {c : Instr} {s t : State} {P : State → Prop} (hc : exec c s = .next t) (hP : P t) : Completes c s P :=
  ⟨t, hc, hP⟩

/-- A command that changes one half alone. -/
theorem completesAt_on {c : Instr} {h : HalfId} {s : State} {f : Half → Half} {P : Half → Prop}
    (hc : exec c s = .next (s.on h f)) (hP : P (f (s.half h))) : CompletesAt c h s P :=
  ⟨_, hc, by rwa [State.on_half], State.on_other .., State.on_wiredFault .., State.on_pending ..⟩

end Sys2Proof.Machine
end

section
/-! What sending, giving up, releasing and taking control do to a half (R444, R460, R463). -/

namespace Sys2Proof.Machine

open Sys2Proof

@[simp] theorem satAdd_mod (n v d : Nat) : satAdd n v d % 2 ^ n = satAdd n v d := by
  refine Nat.mod_eq_of_lt ?_
  have : 0 < 2 ^ n := by positivity
  unfold satAdd
  omega

/-! Reads of a half whose registers are as they were. -/

section untouched
variable (x : Half) (a b lo n : Nat)

@[simp] theorem Half.onSent_get (f : Sentinel → Sentinel) : (x.onSent f).get a lo n = x.get a lo n := rfl
@[simp] theorem Half.onSent_bit (f : Sentinel → Sentinel) : (x.onSent f).bit a b = x.bit a b := rfl
@[simp] theorem Half.onRdn_get (f : RdnSt → RdnSt) : (x.onRdn f).get a lo n = x.get a lo n := rfl
@[simp] theorem Half.onRdn_bit (f : RdnSt → RdnSt) : (x.onRdn f).bit a b = x.bit a b := rfl
@[simp] theorem Half.life_get (c : Life) (d : Nat) : (x.life c d).get a lo n = x.get a lo n := rfl
@[simp] theorem Half.life_bit (c : Life) (d : Nat) : (x.life c d).bit a b = x.bit a b := rfl
@[simp] theorem Half.send_get (t m : Nat) : (x.send t m).get a lo n = x.get a lo n := Half.get_congr (x.send_rd t m a) lo n
@[simp] theorem Half.send_bit (t m : Nat) : (x.send t m).bit a b = x.bit a b := Half.bit_congr (x.send_rd t m a) b

end untouched

@[simp] theorem Half.role_onSent (x : Half) (f : Sentinel → Sentinel) : (x.onSent f).role = x.role := rfl
@[simp] theorem Half.role_onRdn (x : Half) (f : RdnSt → RdnSt) : (x.onRdn f).role = x.role := rfl
@[simp] theorem Half.role_send (x : Half) (t m : Nat) : (x.send t m).role = x.role := Half.role_of_rd (x.send_rd t m _)
@[simp] theorem Half.role_setSvc (x : Half) (on : Bool) : (x.setSvc on).role = x.role :=
  Half.role_of_rd (x.setSvc_rd on (by decide))

/-- A message that leaves: the link is up, the Control region answers and the half is live. -/
theorem Half.send_of_up {x : Half} (t a : Nat) (hl : x.linkUp = true) (hu : x.up .control = true) (hv : x.live = true) :
    x.send t a = { x with rdn := { x.rdn with
      breezeOut := x.rdn.breezeOut ++ [x.message t a], txSeq := (x.rdn.txSeq + 1) % 2 ^ 32 } } := by
  simp only [Half.send, hl, hu, hv, Bool.and_self, if_true]

/-! Giving up control. -/

/-- The registers of the release of control apart from the transmit slots (R460). -/
def releaseRegs : List Nat := [Adr.RDN_ROLE_STATUS, Adr.RDN_EVENT, Adr.MAC_STATUS 0, Adr.MAC_STATUS 1]

/-- An address outside the pages of the transmit slots. -/
def offTxSlots (a : Nat) : Prop := a < 0x50000 ∨ 0x60000 ≤ a

theorem Half.releaseControl_rd (x : Half) (c : Nat) {a : Nat} (ha : a ∉ releaseRegs) (hp : offTxSlots a) :
    (x.releaseControl c).rd a = x.rd a := by
  simp only [releaseRegs, List.mem_cons, List.not_mem_nil, or_false, not_or] at ha
  obtain ⟨h1, h2, h3, h4⟩ := ha
  unfold Half.releaseControl
  simp only
  rw [Half.txRefresh_rd _ hp, Half.onRdn_rd, Half.setSvc_rd _ _ (by simp [h3, h4]), Half.send_rd,
    Half.setRole_rd _ _ (by simp [h1, h2]), Half.onSent_rd]

/-- The sentinel that has released control (R460 steps 2 to 4). -/
theorem Half.releaseControl_sent (x : Half) (c : Nat) :
    (x.releaseControl c).sent = { x.sent with
      own := false, draught := .yield, giveUp := .released c, ready := false, modulate := false, holding := false
      yieldWait := false, claiming := 0, grace := false, toIsolated := false, forceCtl := true
      isoFault := (x.releaseControl c).sent.isoFault, forceData := (x.releaseControl c).sent.forceData
      forceMgmt := (x.releaseControl c).sent.forceMgmt } := by
  simp only [Half.releaseControl, Half.txRefresh_sent, Half.onRdn_sent, Half.setSvc_sent, Half.send_sent, Half.setRole_sent,
    Half.onSent_sent]

theorem Half.releaseControl_role (x : Half) (c : Nat) :
    (x.releaseControl c).role = .offline ∨ (x.releaseControl c).role = .isolated := by
  simp only [Half.releaseControl, Half.txRefresh_role, Half.role_onRdn, Half.role_setSvc, Half.role_send, Half.role_setRole]
  split
  · exact Or.inr rfl
  · exact Or.inl rfl

theorem Half.releaseControl_svc (x : Half) (c : Nat) :
    (x.releaseControl c).bit (Adr.MAC_STATUS 0) 11 = false ∧ (x.releaseControl c).bit (Adr.MAC_STATUS 1) 11 = false := by
  have refreshed : ∀ (y : Half) (a : Nat), a < 0x50000 → y.txRefresh.bit a 11 = y.bit a 11 :=
    fun y a ha => Half.bit_congr (y.txRefresh_rd (Or.inl ha)) 11
  unfold Half.releaseControl
  simp only
  rw [refreshed _ _ (by decide), refreshed _ _ (by decide), Half.onRdn_bit, Half.onRdn_bit]
  exact Half.setSvc_bits _ false

/-- The registers of a give-up apart from the transmit slots and its cause (R459, R460). -/
def giveUpRegs : List Nat := [Adr.RDN_HANDOVER_STATUS, Adr.RDN_YIELD_COUNT] ++ releaseRegs

theorem Half.countGiveUp_rd (x : Half) (c : Nat) {a : Nat} (ha : a ≠ Adr.RDN_YIELD_COUNT) : (x.countGiveUp c).rd a = x.rd a := by
  simp [Half.countGiveUp, ha]

theorem Half.countGiveUp_sent (x : Half) (c : Nat) : ∃ g, (x.countGiveUp c).sent = { x.sent with giveUpAt := g } := ⟨_, rfl⟩

theorem Half.countGiveUp_cause (x : Half) {c : Nat} (hc : c < 256) : (x.countGiveUp c).get Adr.RDN_YIELD_COUNT 16 8 = c := by
  simp [Half.countGiveUp, Nat.mod_eq_of_lt hc]

/-- The branches of a give-up: its cause alone, the detection of an ACTIVE half, the release at once of a linked one. -/
theorem Half.giveUpFor_cases (x : Half) (c : Nat) :
    x.giveUpFor c = x.latch Adr.RDN_FAULT c ∨
    (x.role = .active ∧ x.giveUpFor c =
      (((((x.latch Adr.RDN_FAULT c).abandon true).countGiveUp c).forceAll).onSent fun y => { y with giveUp := .detected c })) ∨
    x.giveUpFor c = ((((x.latch Adr.RDN_FAULT c).abandon true).countGiveUp c).forceAll).releaseControl c := by
  unfold Half.giveUpFor
  split
  · exact Or.inl rfl
  · cases x.role with
    | active => exact Or.inr (Or.inl ⟨rfl, rfl⟩)
    | standby | syncing =>
      simp only
      split
      · exact Or.inl rfl
      · exact Or.inr (Or.inr rfl)
    | offline | isolated => exact Or.inl rfl

theorem Half.giveUpFor_active {x : Half} (c : Nat) (hr : x.role = .active) (hg : x.sent.giveUp = .idle) (hd : x.sent.dead = false) :
    x.giveUpFor c =
      (((((x.latch Adr.RDN_FAULT c).abandon true).countGiveUp c).forceAll).onSent fun y => { y with giveUp := .detected c }) := by
  simp [Half.giveUpFor, hr, hg, hd]

/-- A give-up leaves the other registers as the latching of its cause leaves them. -/
theorem Half.giveUpFor_rd (x : Half) (c : Nat) {a : Nat} (ha : a ∉ giveUpRegs) (hp : offTxSlots a) :
    (x.giveUpFor c).rd a = (x.latch Adr.RDN_FAULT c).rd a := by
  simp only [giveUpRegs, List.mem_append, List.mem_cons, List.not_mem_nil, or_false, not_or] at ha
  obtain ⟨⟨h1, h2⟩, h3⟩ := ha
  have forced : (((((x.latch Adr.RDN_FAULT c).abandon true).countGiveUp c).forceAll)).rd a = (x.latch Adr.RDN_FAULT c).rd a := by
    have he : a ≠ Adr.RDN_EVENT := ne_of_notMem h3 (by simp [releaseRegs])
    unfold Half.forceAll
    rw [Half.onSent_rd, Half.countGiveUp_rd _ _ h2, Half.abandon_rd _ _ (by simp [h1, he])]
  obtain e | ⟨-, e⟩ | e := x.giveUpFor_cases c <;> rw [e]
  · rw [Half.onSent_rd, forced]
  · rw [Half.releaseControl_rd _ _ h3 hp, forced]

/-- The cause of a give-up stands in `RDN.FAULT` (R459). -/
theorem Half.giveUpFor_fault (x : Half) {c : Nat} (hc : c < 0x10000) :
    (x.giveUpFor c).get Adr.RDN_FAULT 0 16 = c ∧ (x.giveUpFor c).bit Adr.RDN_FAULT 31 = true := by
  have e := x.giveUpFor_rd c (a := Adr.RDN_FAULT) (by decide) (Or.inl (by decide))
  rw [Half.get_congr e, Half.bit_congr e, Half.get_latch_cause, Half.bit_latch_valid]
  exact ⟨Nat.mod_eq_of_lt hc, rfl⟩

/-- A give-up never asserts the line, and leaves kill and the stuck level of the line. -/
theorem Half.giveUpFor_line (x : Half) (c : Nat) :
    ((x.giveUpFor c).sent.own = false ∨ (x.giveUpFor c).sent.own = x.sent.own) ∧
      (x.giveUpFor c).sent.ownStuck = x.sent.ownStuck ∧ (x.giveUpFor c).sent.kill = x.sent.kill := by
  obtain ⟨o, ho⟩ := (x.latch Adr.RDN_FAULT c).abandon_sent true
  obtain ⟨g, hg⟩ := ((x.latch Adr.RDN_FAULT c).abandon true).countGiveUp_sent c
  obtain e | ⟨-, e⟩ | e := x.giveUpFor_cases c <;> rw [e]
  · exact ⟨Or.inr rfl, rfl, rfl⟩
  · simp [Half.forceAll, ho, hg]
  · rw [Half.releaseControl_sent]
    simp [Half.forceAll, ho, hg]

end Sys2Proof.Machine
end

section
/-! O5, O7, O11 to O15: the lines, claims, kills, give-ups and handovers of the two halves (R447 to R468). -/

namespace Sys2Proof.Machine

open Sys2Proof

/-! The lines, after they have been brought into line. -/

theorem State.lines_line (s : State) (k : HalfId) : (s.lines.half k).line = (s.half k).line := by
  simp only [Half.line, State.lines_sent]

theorem State.lines_counts (s : State) (k : HalfId) : s.lines.counts k = s.counts k := by
  simp only [State.counts, State.lines_line, State.lines_sent]

theorem State.lines_role (s : State) (k : HalfId) : (s.lines.half k).role = (s.half k).role := ((State.lines_linesOnly s).halves k).role

theorem State.lines_get (s : State) (k : HalfId) {a lo n : Nat} (ha : a ∉ lineRegsOf) :
    (s.lines.half k).get a lo n = (s.half k).get a lo n := Half.get_congr (s.lines_rd k ha) lo n

theorem State.lines_bit (s : State) (k : HalfId) {a b : Nat} (ha : a ∉ lineRegsOf) : (s.lines.half k).bit a b = (s.half k).bit a b :=
  Half.bit_congr (s.lines_rd k ha) b

theorem State.lines_sameRegs (s : State) (k : HalfId) : SameRegs lineRegsOf (s.half k) (s.lines.half k) := fun _ ha => s.lines_rd k ha

/-! Taking control (R463). -/

theorem Half.refFail_writes (x : Half) (i c : Nat) : Writes (· ∈ [Adr.TIM_REF_STATUS i, Adr.TIM_EVENT]) x (x.refFail i c) := by
  unfold Half.refFail
  exact .ite (fun _ => .refl _ x) fun _ => (((Writes.refl _ x).put 0 3 4 (by simp)).put 4 4 c (by simp)).event 0 (by simp)

/-- The page of the amplifier channels. -/
def ampPage (a : Nat) : Prop := 0xA1000 ≤ a ∧ a < 0xA5000

theorem Half.restartProbes_writes (x : Half) : Writes ampPage x x.restartProbes := by
  refine Writes.foldl (fun k hk y => ?_) x
  have hk : k < 32 := List.mem_range.1 (List.mem_of_mem_filter hk)
  have status : ampPage (Adr.AMP_STATUS k) := ⟨by simp only [Adr.AMP_STATUS]; omega, by simp only [Adr.AMP_STATUS]; omega⟩
  have event : ampPage (Adr.AMP_EVENT k) := ⟨by simp only [Adr.AMP_EVENT]; omega, by simp only [Adr.AMP_EVENT]; omega⟩
  have probe : ampPage (Adr.AMP_PROBE k) := ⟨by simp only [Adr.AMP_PROBE]; omega, by simp only [Adr.AMP_PROBE]; omega⟩
  exact (((Writes.refl _ y).put 16 16 0 probe).put 0 4 3 status).event 0 event

/-- The sentinel of a half that has become ACTIVE. -/
theorem Half.becomeActive_sent (x : Half) (k : Nat) :
    (x.becomeActive k).sent = { x.sent with yieldWait := false, holding := false, modulate := false, claiming := 0 } := by
  have probes : ∀ y : Half, y.restartProbes.sent = y.sent := fun y => by rw [y.restartProbes_writes.same]
  have fails : ∀ y : Half, (y.refFail 4 7).sent = y.sent := fun y => by rw [(y.refFail_writes 4 7).same]
  unfold Half.becomeActive
  simp [Half.fresh, probes, fails]

theorem Half.becomeActive_rdn (x : Half) (k : Nat) :
    (x.becomeActive k).rdn = { x.rdn with arpDue := true, arpAgain := none, lossSeen := false } := by
  have probes : ∀ y : Half, y.restartProbes.rdn = y.rdn := fun y => by rw [y.restartProbes_writes.same]
  have fails : ∀ y : Half, (y.refFail 4 7).rdn = y.rdn := fun y => by rw [(y.refFail_writes 4 7).same]
  unfold Half.becomeActive
  simp [Half.fresh, probes, fails]

/-- The registers of an ACTIVE half's start beside its role and service addresses (R463). -/
def activeRegs : List Nat :=
  [Adr.RDN_LAST_TAKEOVER, Adr.TIM_CARRIER_ALIGN, Adr.RDN_COMPARE_STATUS, Adr.RDN_MIRROR_STATUS, Adr.TIM_REF_STATUS 4, Adr.TIM_EVENT]

@[simp] theorem Half.fresh_rd (x : Half) (w a : Nat) : (x.fresh w).2.rd a = x.rd a := rfl

theorem Half.becomeActive_rd (x : Half) (k : Nat) {a : Nat} (ha : a ∉ activeRegs) (hl : a < 0x50000) :
    (x.becomeActive k).rd a = ((x.setRole .active).setSvc true).rd a := by
  have hp : ¬ ampPage a := by unfold ampPage; omega
  simp only [activeRegs, List.mem_cons, List.not_mem_nil, or_false, not_or] at ha
  obtain ⟨h1, h2, h3, h4, h5, h6⟩ := ha
  unfold Half.becomeActive
  simp only
  rw [Half.txRefresh_rd _ (Or.inl hl), Half.onSent_rd, Half.onRdn_rd, Half.rd_put_ne _ _ _ _ h1, Half.rd_put_ne _ _ _ _ h1,
    Half.fresh_rd, Half.rd_put_ne _ _ _ _ h2, Half.rd_putBit_ne _ _ _ h3, Half.rd_putBit_ne _ _ _ h4,
    (Half.restartProbes_writes _).keeps a hp, (Half.refFail_writes _ 4 7).keeps a (by simp [h5, h6])]
  rfl

@[simp] theorem Half.becomeActive_role (x : Half) (k : Nat) : (x.becomeActive k).role = .active := by
  rw [Half.role_of_rd (x.becomeActive_rd k (by decide) (by decide)), Half.role_setSvc, Half.role_setRole]

theorem Half.becomeActive_svc (x : Half) (k : Nat) :
    (x.becomeActive k).bit (Adr.MAC_STATUS 0) 11 = true ∧ (x.becomeActive k).bit (Adr.MAC_STATUS 1) 11 = true := by
  rw [Half.bit_congr (x.becomeActive_rd k (by decide) (by decide)), Half.bit_congr (x.becomeActive_rd k (by decide) (by decide))]
  exact Half.setSvc_bits _ true

/-- The kind of the claim stands in `LAST_TAKEOVER` (R479). -/
theorem Half.becomeActive_kind (x : Half) {k : Nat} (hk : k < 16) : (x.becomeActive k).get Adr.RDN_LAST_TAKEOVER 28 4 = k := by
  have refreshed : ∀ y : Half, y.txRefresh.get Adr.RDN_LAST_TAKEOVER 28 4 = y.get Adr.RDN_LAST_TAKEOVER 28 4 :=
    fun y => Half.get_congr (y.txRefresh_rd (Or.inl (by decide))) 28 4
  unfold Half.becomeActive
  simp only [refreshed, Half.onSent_get, Half.onRdn_get]
  simp [Nat.mod_eq_of_lt hk]

/-! Claims (R447, R451). -/

theorem State.claimNow_eq {s : State} {h : HalfId} (k : Nat) (hc : s.counts h.other = false) (hf : (s.half h).sent.forceCtl = false)
    (hd : (s.half h).sent.dead = false) (hl : (s.half h).live = true) :
    s.claimNow h k = (s.on h fun x => (x.onSent fun y => { y with own := true, killHold := y.killHold }).becomeActive k).lines := by
  simp [State.claimNow, hc, hf, hd, hl]

/-- A claim that is made (R451). -/
structure Claimed (h : HalfId) (k : Nat) (s t : State) : Prop where
  own : (t.half h).sent.own = true
  role : (t.half h).role = .active
  claiming : (t.half h).sent.claiming = 0
  kind : (t.half h).get Adr.RDN_LAST_TAKEOVER 28 4 = k
  svc : (t.half h).bit (Adr.MAC_STATUS 0) 11 = true ∧ (t.half h).bit (Adr.MAC_STATUS 1) 11 = true
  arp : (t.half h).rdn.arpDue = true
  other : (t.half h.other).sent = (s.half h.other).sent
  pending : t.pending = s.pending

theorem State.claimNow_claimed {s : State} {h : HalfId} {k : Nat} (hk : k < 16) (hc : s.counts h.other = false)
    (hf : (s.half h).sent.forceCtl = false) (hd : (s.half h).sent.dead = false) (hl : (s.half h).live = true) :
    Claimed h k s (s.claimNow h k) := by
  rw [State.claimNow_eq k hc hf hd hl]
  constructor
  · simp [State.lines_sent, Half.becomeActive_sent]
  · simp [State.lines_role]
  · simp [State.lines_sent, Half.becomeActive_sent]
  · rw [State.lines_get _ _ (by decide), State.on_half, Half.becomeActive_kind _ hk]
  · rw [State.lines_bit _ _ (by decide), State.lines_bit _ _ (by decide), State.on_half]
    exact Half.becomeActive_svc _ k
  · simp [State.lines_rdn, Half.becomeActive_rdn]
  · simp [State.lines_sent]
  · simp

end Sys2Proof.Machine
end

section
/-! O5, O7, O11 to O15: lines, claims, kills, give-ups and handovers (R447 to R468). -/

namespace Sys2Proof.Machine

open Sys2Proof

/-- Settles O5: the gate of a half and the line of its partner exclude each other. -/
theorem gateFollowsLinesAndKills : Obligations.GateFollowsLinesAndKills := by
  refine ⟨fun s h => ?_, fun s ⟨ha, hb⟩ => ?_⟩
  · simp only [State.gate, State.counts, HalfId.other_other]
    cases (s.half h.other).line <;> cases (s.half h).sent.kill <;> simp
  · simp only [State.gate, Bool.and_eq_true, Bool.not_eq_true'] at ha hb
    exact Bool.eq_false_iff.mp ha.2 hb.1

/-- Settles O7: nothing of the half but its traffic moves. -/
theorem breezeSendQueuesOneMessage : Obligations.BreezeSendQueuesOneMessage := by
  intro h s hl hu hv
  exact completesAt_on (f := fun x => x.send 1 0) rfl
    ⟨(s.half h).message 1 0, rfl, rfl, rfl, rfl, rfl, rfl, rfl, Half.send_of_up 1 0 hl hu hv⟩

/-- A command whose condition holds. -/
theorem next_if_pos {c : Prop} [Decidable c] {t s : State} (h : c) :
    (Host.Outcome.next (if c then t else s) : Host.Outcome State Fault Refusal) = .next t := by rw [if_pos h]

/-- A command whose condition does not hold. -/
theorem next_if_neg {c : Prop} [Decidable c] {t s : State} (h : ¬ c) :
    (Host.Outcome.next (if c then t else s) : Host.Outcome State Fault Refusal) = .next s := by rw [if_neg h]

/-- Settles O11: what makes a half claim writes its sentinel alone, and the claim is `State.claimNow`. -/
theorem claimsTakeTheLine : Obligations.ClaimsTakeTheLine := by
  intro h s
  refine ⟨fun hh hr hc => ?_, fun hr hb hp hc => ?_, fun hr hc hi => ?_, fun h0 h16 hc hf hd hl => ?_, fun hc => ?_⟩
  · exact completesAt_on (next_if_pos (by simp [hh, hr, hc])) rfl
  · refine completesAt_on (next_if_pos ⟨hr, hb⟩) ?_
    simp [hp, hc, Half.onSent]
  · refine completesAt_on (next_if_pos ⟨hr, by simp [hc], hi⟩) ⟨?_, fun h0 => ?_, rfl⟩
    · simp only [Half.onSent_sent]
      split
      · assumption
      · split <;> decide
    · simp [h0]
  · obtain ⟨own, role, cl, kind, svc, arp, other, pending⟩ := State.claimNow_claimed h16 hc hf hd hl
    exact completes_of (next_if_pos h0) ⟨own, role, cl, kind, svc.1, svc.2, arp, other, pending⟩
  · have none : s.claimNow h (s.half h).sent.claiming = s := by simp [State.claimNow, hc]
    show Host.Outcome.next _ = _
    rw [none, ite_self]

theorem State.dualClaim_lines {s : State} (ha : s.counts .a = true) (hb : s.counts .b = true) (st : Bool) :
    exec (.dualClaim st) s =
      .next (if st then
          ((s.on .b fun x => x.onSent fun y => { y with own := false }).lines.on .b fun x => (x.onSent fun y =>
            { y with ownStuck := some true, toIsolated := true }).giveUpFor 10).lines
        else (s.on .b fun x => x.onSent fun y => { y with own := false }).lines) :=
  next_if_pos (by rw [ha, hb]; rfl)

/-- Settles O12: a line is released or recorded before the lines are brought into line, which moves neither sentinel. -/
theorem dualClaimsAndFaultPulls : Obligations.DualClaimsAndFaultPulls := by
  refine ⟨⟨fun s ha hb => ?_, fun s ha hb => ?_, fun h reads s hr => ?_⟩,
    fun s hc => ?_, fun s hc => ?_, fun h s hc => ?_, fun s => ?_, fun h s => ?_⟩
  · refine completes_of (State.dualClaim_lines ha hb false) ?_
    simp only [Bool.false_eq_true, if_false, State.lines_sent, State.lines_wired, State.lines_pending, State.on_wiredFault,
      State.on_pending, State.on_half]
    exact ⟨rfl, rfl, trivial, trivial, State.lines_sameRegs (s.on .b _) .a, State.lines_sameRegs (s.on .b _) .b⟩
  · refine completes_of (State.dualClaim_lines ha hb true) ?_
    generalize hu : (s.on .b fun x => x.onSent fun y => { y with own := false }).lines = u
    have own : (u.half .b).sent.own = false := by rw [← hu, State.lines_sent, State.on_half]; rfl
    have kept : (u.half .a).sent = (s.half .a).sent := by rw [← hu, State.lines_sent]; rfl
    simp only [if_true, State.lines_sent, State.on_half, State.lines_get _ _ (show Adr.RDN_FAULT ∉ lineRegsOf by decide),
      State.lines_bit _ _ (show Adr.RDN_FAULT ∉ lineRegsOf by decide)]
    have line := ((u.half .b).onSent fun y => { y with ownStuck := some true, toIsolated := true }).giveUpFor_line 10
    obtain ⟨off, stuck, -⟩ := line
    have fault := ((u.half .b).onSent fun y => { y with ownStuck := some true, toIsolated := true }).giveUpFor_fault
      (show 10 < 0x10000 by decide)
    exact ⟨off.elim id fun e => e.trans own, stuck, kept, fault.1, fault.2⟩
  · refine completes_of (next_if_pos hr) ?_
    simp only [State.lines_sent, State.on_half, State.lines_get _ _ (show Adr.RDN_FAULT ∉ lineRegsOf by decide),
      State.lines_bit _ _ (show Adr.RDN_FAULT ∉ lineRegsOf by decide)]
    have line := ((s.half h).onSent fun y => { y with ownStuck := some reads }).giveUpFor_line 10
    have fault := ((s.half h).onSent fun y => { y with ownStuck := some reads }).giveUpFor_fault (show 10 < 0x10000 by decide)
    exact ⟨line.2.1, fault.1, fault.2⟩
  · exact next_if_pos hc
  · exact next_if_neg (Bool.eq_false_iff.mp hc)
  · exact completesAt_on (next_if_pos hc) rfl
  · refine completes_of rfl ⟨?_, ?_, fun h => ?_⟩
    · simp only [State.on_wiredFault]
    · simp only [State.on_pending]
    · cases h <;> rfl
  · exact completesAt_on (f := fun x => x.onSent fun y => { y with padWatch := true }) rfl rfl

/-- The half that gives up control as ACTIVE: detected, its planes forced, its line kept (R460 step 1). -/
theorem Half.giveUpFor_detects {x : Half} {c : Nat} (hc : c < 256) (hr : x.role = .active) (hg : x.sent.giveUp = .idle)
    (hd : x.sent.dead = false) :
    (x.giveUpFor c).sent.giveUp = .detected c ∧ (x.giveUpFor c).sent.forceData = true ∧ (x.giveUpFor c).sent.forceCtl = true ∧
      (x.giveUpFor c).sent.forceMgmt = true ∧ (x.giveUpFor c).get Adr.RDN_YIELD_COUNT 16 8 = c ∧
      (x.giveUpFor c).sent.own = x.sent.own := by
  obtain ⟨o, ho⟩ := (x.latch Adr.RDN_FAULT c).abandon_sent true
  obtain ⟨g, hg'⟩ := ((x.latch Adr.RDN_FAULT c).abandon true).countGiveUp_sent c
  rw [Half.giveUpFor_active c hr hg hd]
  refine ⟨rfl, rfl, rfl, rfl, ?_, ?_⟩
  · rw [Half.onSent_get, Half.forceAll, Half.onSent_get, Half.countGiveUp_cause _ hc]
  · simp [Half.forceAll, ho, hg']

/-- Settles O13: a kill is a state of the sentinel, which the lines are brought into line with. -/
theorem killsCloseThePartnersGate : Obligations.KillsCloseThePartnersGate := by
  intro h s
  refine ⟨fun hk => ?_, fun hk => ?_, fun hk => ?_, fun v hk hv hb hr hl => ?_, fun hb => ?_⟩
  · refine completes_of (next_if_pos hk) ?_
    generalize hf : (fun x : Half => x.onSent fun y => { y with
      kill := true, claiming := if x.role = .syncing then 5 else if x.role = .standby then 3 else y.claiming }) = f
    have kill : (f (s.half h)).sent.kill = true := by rw [← hf]; rfl
    have off : (s.on h f).lines.counts h.other = false := by
      rw [State.lines_counts]
      simp [State.counts, kill]
    exact ⟨by rw [State.lines_sent, State.on_half, kill], off, by simp [State.gate, off], by rw [State.lines_sent, State.on_other]⟩
  · exact next_if_neg (Bool.eq_false_iff.mp hk)
  · refine completesAt_on (next_if_pos hk) ?_
    obtain ⟨cause, valid⟩ := (s.half h).giveUpFor_fault (show 9 < 0x10000 by decide)
    refine ⟨cause, valid, fun hr hg hd => ?_⟩
    obtain ⟨detected, data, ctl, mgmt, count, -⟩ := Half.giveUpFor_detects (show 9 < 256 by decide) hr hg hd
    exact ⟨detected, data, ctl, mgmt, count⟩
  · have ends : exec (.killEnd h) s = .next (s.endKill h (s.half h).sent.killHold) := by
      refine next_if_pos ?_
      simp only [hk, hv, hb, hl]
      obtain e | e | e := hr <;> simp [e]
    refine completes_of ends ?_
    have other : ∀ t : State, (t.on h.other Half.killOver).half h = t.half h := fun t => by
      simpa using t.on_other h.other Half.killOver
    simp only [State.endKill, State.lines_sent, other, State.on_half]
    rfl
  · refine next_if_neg ?_
    simp only [hb]
    cases (s.half h).rdn.view <;> simp

/-- Settles O14: what the release of control does stands in `Half.releaseControl`, and the causes of R459 all go through
`Half.giveUpFor`. -/
theorem giveUpReleasesControl : Obligations.GiveUpReleasesControl := by
  have given : ∀ (x : Half) (cause : Nat), cause < 256 →
      (x.giveUpFor cause).get Adr.RDN_FAULT 0 16 = cause ∧ (x.giveUpFor cause).bit Adr.RDN_FAULT 31 = true ∧
      (x.role = .active → x.sent.giveUp = .idle → x.sent.dead = false →
        (x.giveUpFor cause).sent.giveUp = .detected cause ∧ (x.giveUpFor cause).sent.forceData = true ∧
        (x.giveUpFor cause).sent.forceCtl = true ∧ (x.giveUpFor cause).sent.forceMgmt = true ∧
        (x.giveUpFor cause).get Adr.RDN_YIELD_COUNT 16 8 = cause ∧ (x.giveUpFor cause).sent.own = x.sent.own) := by
    intro x cause hc
    have fault := x.giveUpFor_fault (show cause < 0x10000 by omega)
    exact ⟨fault.1, fault.2, Half.giveUpFor_detects hc⟩
  refine ⟨fun c cause h s hc => ?_, fun h rail s => ?_, fun h cause s hg => ?_⟩
  · obtain ⟨rail, rfl, rfl⟩ | ⟨rfl, rfl⟩ | ⟨rfl, rfl⟩ := hc
    · refine completesAt_on (f := fun x => (x.putBit Adr.DIE_RAIL_STATUS rail false).giveUpFor 5) rfl ?_
      have role : ((s.half h).putBit Adr.DIE_RAIL_STATUS rail false).role = (s.half h).role :=
        Half.role_of_rd (Half.rd_putBit_ne _ _ _ (by decide))
      have := given ((s.half h).putBit Adr.DIE_RAIL_STATUS rail false) 5 (by decide)
      rwa [role] at this
    · exact completesAt_on (f := fun x => x.giveUpFor 6) rfl (given _ 6 (by decide))
    · exact completesAt_on (f := fun x => x.giveUpFor 7) rfl (given _ 7 (by decide))
  · refine completesAt_on (f := fun x => (x.putBit Adr.DIE_RAIL_STATUS rail false).giveUpFor 5) rfl ?_
    have kept := Half.giveUpFor_rd ((s.half h).putBit Adr.DIE_RAIL_STATUS rail false) 5 (a := Adr.DIE_RAIL_STATUS) (by decide)
      (Or.inl (by decide))
    rw [Half.bit_congr kept, Half.bit_latch_ne _ _ _ _ _ (by decide), Half.bit_putBit_self _ _ _ _ (by omega)]
  · refine completes_of (t := (s.on h Half.giveUpBoundary).lines) rfl ?_
    have boundary : (s.half h).giveUpBoundary = (s.half h).releaseControl cause := by simp only [Half.giveUpBoundary, hg]
    have svc := (s.half h).releaseControl_svc cause
    simp only [State.lines_sent, State.lines_role, State.on_half, State.on_other, boundary,
      State.lines_bit _ _ (show Adr.MAC_STATUS 0 ∉ lineRegsOf by decide),
      State.lines_bit _ _ (show Adr.MAC_STATUS 1 ∉ lineRegsOf by decide)]
    rw [Half.releaseControl_sent]
    exact ⟨rfl, rfl, rfl, rfl, (s.half h).releaseControl_role cause, svc.1, svc.2, trivial⟩

@[simp] theorem Half.becomeStandby_sent (x : Half) : x.becomeStandby.sent = x.sent := by
  simp only [Half.becomeStandby, Half.onRdn_sent, Half.putBit_sent, Half.setRole_sent]

theorem Half.becomeStandby_rd (x : Half) {a : Nat} (ha : a ∉ [Adr.RDN_ROLE_STATUS, Adr.RDN_EVENT, Adr.RDN_COMPARE_STATUS]) :
    x.becomeStandby.rd a = x.rd a := by
  simp only [List.mem_cons, List.not_mem_nil, or_false, not_or] at ha
  obtain ⟨h1, h2, h3⟩ := ha
  rw [Half.becomeStandby, Half.onRdn_rd, Half.rd_putBit_ne _ _ _ h3, Half.setRole_rd _ _ (by simp [h1, h2])]

@[simp] theorem Half.becomeStandby_role (x : Half) : x.becomeStandby.role = .standby := by
  rw [Half.becomeStandby, Half.role_onRdn, Half.role_of_rd (Half.rd_putBit_ne _ _ _ (by decide)), Half.role_setRole]

/-- Settles O15: every step ends the handover, moves its stage, or is a claim. -/
theorem handoverSteps : Obligations.HandoverSteps := by
  intro h s
  refine ⟨fun n hn => ?_, fun ht => ?_, fun ht => ?_, fun n hn hc hf hd hl => ?_, fun n hn hc => ?_, fun hg hr hb => ?_⟩
  · have fails : (s.half h).handoverFails 8 = (s.half h).endHandover 8 := by simp only [Half.handoverFails, hn]
    refine completesAt_on (f := fun x => x.handoverFails 8) rfl ?_
    simp only [fails]
    obtain ⟨result, busy, -⟩ := (s.half h).endHandover_shows 8 (by decide)
    exact ⟨rfl, result, busy, fun a ha => (s.half h).endHandover_rd 8 ha⟩
  · refine completes_of (t := (s.on h Half.reachTarget).lines) rfl ?_
    simp only [State.lines_sent, State.lines_role, State.lines_get _ _ (show Adr.RDN_HANDOVER_STATUS ∉ lineRegsOf by decide),
      State.on_half, State.on_other, Half.reachTarget, ht, if_true, Half.txRefresh_sent, Half.txRefresh_role, Half.onRdn_sent,
      Half.role_onRdn, Half.becomeStandby_sent, Half.becomeStandby_role, Half.onSent_sent]
    refine ⟨trivial, trivial, trivial, ?_, trivial⟩
    rw [Half.get_congr (Half.txRefresh_rd _ (Or.inl (by decide))), Half.onRdn_get, Half.get_congr (Half.becomeStandby_rd _ (by decide)),
      Half.onSent_get]
    exact ((s.half h).endHandover_shows 0 (by decide)).1
  · refine completes_of (t := (s.on h Half.reachTarget).lines) rfl ?_
    simp only [State.lines_sent, State.lines_rdn, State.on_half, Half.reachTarget, ht, if_true]
    exact ⟨rfl, rfl⟩
  · have claimed : Claimed h 1 s (s.claimNow h 1) := State.claimNow_claimed (by decide) hc hf hd hl
    have claims : exec (.handoverClaim h) s =
        .next ((s.claimNow h 1).on h fun x => (x.endHandover 0).onRdn fun r => { r with arpDue := false }).lines := by
      show Host.Outcome.next _ = _
      simp only [hn, claimed.own, if_true]
    generalize s.claimNow h 1 = u at claimed claims
    refine completes_of claims ?_
    have kept : ∀ a, a ∉ [Adr.RDN_HANDOVER_STATUS, Adr.RDN_EVENT] → ((u.half h).endHandover 0).rd a = (u.half h).rd a :=
      fun a ha => (u.half h).endHandover_rd 0 ha
    simp only [State.lines_sent, State.lines_role, State.lines_rdn, State.on_half, Half.onRdn_sent, Half.role_onRdn,
      State.lines_get _ _ (show Adr.RDN_HANDOVER_STATUS ∉ lineRegsOf by decide),
      State.lines_get _ _ (show Adr.RDN_LAST_TAKEOVER ∉ lineRegsOf by decide), Half.onRdn_get]
    exact ⟨claimed.own, (Half.role_of_rd (kept _ (by decide))).trans claimed.role,
      (Half.get_congr (kept _ (by decide)) 28 4).trans claimed.kind, ((u.half h).endHandover_shows 0 (by decide)).1, rfl, rfl⟩
  · refine completesAt_on (f := fun x => x.endHandover 9) ?_ ?_
    · show Host.Outcome.next _ = _
      simp only [hn, hc, if_true]
    · exact ⟨rfl, ((s.half h).endHandover_shows 9 (by decide)).1⟩
  · refine completesAt_on (f := fun x =>
      if x.sent.grace && x.role == .standby then
        let x1 := x.onSent fun y => { y with grace := false }
        if x1.bit Adr.TIM_CARRIER_ALIGN 30 then x1 else x1.goSyncing
      else x) rfl ?_
    simp only [hg, hr, beq_self_eq_true, Bool.and_self, if_true, Half.onSent_bit, hb, Bool.false_eq_true, if_false]
    obtain ⟨o, ho⟩ := Half.goSyncing_sent ((s.half h).onSent fun y => { y with grace := false })
    exact ⟨Half.goSyncing_role _, by rw [ho]; rfl, rfl⟩

end Sys2Proof.Machine
end

section
/-! O8 to O10: messages, heartbeats, the Onar link and the sentinel (R441 to R448, R467, R476). -/

namespace Sys2Proof.Machine

open Sys2Proof

/-! Reception (R444). -/

theorem State.receive_heard {s : State} {h : HalfId} {type : Nat} {m : BreezeMsg} {rest : List BreezeMsg} (hh : Heard s h type m rest)
    (f : BreezeMsg → Half → Half) :
    s.receive h type false f =
      (s.on h.other fun x => x.onRdn fun r => { r with breezeOut := rest }).setHalf h (f m (s.heard h m rest)) := by
  obtain ⟨waits, type_eq, live, link, next⟩ := hh
  have me : (s.on h.other fun x => x.onRdn fun r => { r with breezeOut := rest }).half h = s.half h := by
    simpa using s.on_other h.other fun x => x.onRdn fun r => { r with breezeOut := rest }
  simp only [State.receive, waits, type_eq, ne_eq, not_true_eq_false, if_false, me, live, link, Bool.not_true, Bool.or_self,
    Bool.false_eq_true, Bool.not_false, Bool.true_and, State.on_half, State.heard]
  cases hr : (s.half h).rdn.rxSeq with
  | none => rfl
  | some n => simp [next n hr]

/-- A message that arrives damaged or out of sequence. -/
theorem State.receive_invalid {s : State} {h : HalfId} {type : Nat} {bad : Bool} {m : BreezeMsg} {rest : List BreezeMsg}
    (hw : (s.half h.other).rdn.breezeOut = m :: rest) (ht : m.type = type) (live : (s.half h).live = true)
    (link : (s.half h).linkUp = true) (hi : bad = true ∨ ∃ n, (s.half h).rdn.rxSeq = some n ∧ m.seq ≠ (n + 1) % 2 ^ 32)
    (f : BreezeMsg → Half → Half) :
    s.receive h type bad f =
      (s.on h.other fun x => x.onRdn fun r => { r with breezeOut := rest }).setHalf h
        (((s.half h).count Adr.RDN_HB_STATS 16 16 1).life .breezeErr 1) := by
  have me : (s.on h.other fun x => x.onRdn fun r => { r with breezeOut := rest }).half h = s.half h := by
    simpa using s.on_other h.other fun x => x.onRdn fun r => { r with breezeOut := rest }
  simp only [State.receive, hw, ht, ne_eq, not_true_eq_false, if_false, me, live, link, Bool.not_true, Bool.or_self,
    Bool.false_eq_true]
  obtain rfl | ⟨n, hn, hne⟩ := hi
  · simp
  · have late : (m.seq == (n + 1) % 2 ^ 32) = false := by simpa using hne
    simp only [hn, late, Bool.and_false, Bool.false_eq_true, if_false]

/-- What every valid message of the partner shows at its receiver (R444, R446, R481). -/
structure Hears (m : BreezeMsg) (y : Half) : Prop where
  rxSeq : y.rdn.rxSeq = some m.seq
  breeze : y.sent.breezeLost = false
  status : y.bit Adr.RDN_STATUS 5 = true
  health : y.rd Adr.RDN_PARTNER_HEALTH = m.health
  role : y.get Adr.RDN_ROLE_STATUS 8 3 = m.role % 8
  roleValid : y.bit Adr.RDN_ROLE_STATUS 11 = true

theorem Hears.of_kept {m : BreezeMsg} {x y : Half} (hx : Hears m x) (hr : y.rdn.rxSeq = x.rdn.rxSeq)
    (hs : y.sent.breezeLost = x.sent.breezeLost)
    (hk : SameRegs [Adr.RDN_HANDOVER_STATUS, Adr.RDN_EVENT, Adr.RDN_HANDOVER_TARGET] x y) : Hears m y := by
  obtain ⟨rx, br, st, he, ro, rv⟩ := hx
  exact ⟨hr.trans rx, hs.trans br, (hk.bit (by decide) 5).trans st, (hk _ (by decide)).trans he, (hk.get (by decide) 8 3).trans ro,
    (hk.bit (by decide) 11).trans rv⟩

theorem Hears.of_roleShape {m : BreezeMsg} {x y : Half} (hx : Hears m x) (h : RoleShape x y) : Hears m y := by
  obtain ⟨rx, br, st, he, ro, rv⟩ := hx
  obtain ⟨o, g, sent⟩ := h.sent
  refine ⟨?_, by rw [sent]; exact br, (Half.bit_congr (h.regs _ (by decide)) 5).trans st, (h.regs _ (by decide)).trans he,
    (h.partner 8 3 (by decide) (by decide)).trans ro, ?_⟩
  · rw [h.rdn]; exact rx
  · unfold Half.bit at rv ⊢
    rwa [h.partner 11 1 (by decide) (by decide)]

section notePlan
variable (x : Half) (old : Option Word) (new : Word)

@[simp] theorem Half.notePlan_rd (a : Nat) : (x.notePlan old new).rd a = x.rd a := by unfold Half.notePlan; split <;> rfl
@[simp] theorem Half.notePlan_bit (a b : Nat) : (x.notePlan old new).bit a b = x.bit a b := Half.bit_congr (x.notePlan_rd old new a) b
@[simp] theorem Half.notePlan_sent : (x.notePlan old new).sent = x.sent := by unfold Half.notePlan; split <;> rfl
@[simp] theorem Half.notePlan_rdn : (x.notePlan old new).rdn = x.rdn := by unfold Half.notePlan; split <;> rfl

end notePlan

/-- A half as a valid message leaves it before its role acts. -/
def Half.noteBreeze (h : Half) (m : BreezeMsg) : Half :=
  let h0 := if h.bit Adr.RDN_STATUS 5 then h else (h.putBit Adr.RDN_STATUS 5 true).event Adr.RDN_EVENT 0
  let h1 := h0.onRdn fun x => { x with
    rxSeq := some m.seq
    view := some ⟨m.role, m.mirrorFmt, m.health, m.planId, m.libGen, m.image⟩ }
  let h1 := h1.notePlan (h.rdn.view.map fun v => v.planId) m.planId
  let h2 := h1.onSent fun x => { x with breezeLost := false, syncWaited := false, killHold := x.killHold.seen }
  ((h2.put Adr.RDN_ROLE_STATUS 8 3 m.role).putBit Adr.RDN_ROLE_STATUS 11 true).wr Adr.RDN_PARTNER_HEALTH m.health

/-- What the role of a half adds to a valid message (R447, R472, R477). -/
def Half.roleHears (h : Half) (m : BreezeMsg) : Half :=
  match h.role with
  | .offline =>
    if h.sent.ready && m.role == 3 then h.goSyncing.onSent fun x => { x with holding := false, claiming := 0 } else h
  | .standby => if h.rdn.lossSeen && h.linkUp then h.goSyncing.onRdn fun x => { x with lossSeen := false } else h
  | .active => if m.role == 2 then h else h.abandon true
  | _ => h

theorem Half.takeBreeze_eq (x : Half) (m : BreezeMsg) : x.takeBreeze m = ((x.noteBreeze m).roleHears m).roleCheck := rfl

theorem Half.noteBreeze_hears (x : Half) (m : BreezeMsg) : Hears m (x.noteBreeze m) := by
  have status : ∀ y : Half, (if y.bit Adr.RDN_STATUS 5 then y else (y.putBit Adr.RDN_STATUS 5 true).event Adr.RDN_EVENT 0).bit
      Adr.RDN_STATUS 5 = true := by
    intro y
    split
    · assumption
    · simp
  unfold Half.noteBreeze
  simp only
  refine ⟨by simp, by simp, ?_, by simp, by simp, by simp⟩
  simpa using status x

theorem Half.roleHears_hears {x : Half} {m : BreezeMsg} (hx : Hears m x) : Hears m (x.roleHears m) := by
  have syncing := hx.of_roleShape (RoleShape.goSyncing x)
  unfold Half.roleHears
  split
  · split
    · exact syncing.of_kept rfl rfl (SameRegs.refl _ _)
    · exact hx
  · split
    · exact syncing.of_kept rfl rfl (SameRegs.refl _ _)
    · exact hx
  · split
    · exact hx
    · exact hx.of_roleShape (RoleShape.abandon x true)
  · exact hx

theorem Half.takeBreeze_hears (x : Half) (m : BreezeMsg) : Hears m (x.takeBreeze m) := by
  rw [Half.takeBreeze_eq]
  exact (Half.roleHears_hears (x.noteBreeze_hears m)).of_roleShape (Half.roleCheck_shape _)

/-! What each type of message adds keeps what it shows. -/

theorem Hears.partnerYields {m : BreezeMsg} {x : Half} (hx : Hears m x) : Hears m x.partnerYields := by
  unfold Half.partnerYields
  split
  · exact hx.of_kept rfl rfl (SameRegs.refl _ _)
  · exact hx

theorem Hears.send {m : BreezeMsg} {x : Half} (hx : Hears m x) (t a : Nat) : Hears m (x.send t a) :=
  hx.of_kept (by rw [Half.send_rdn]) (by rw [Half.send_sent]) fun b _ => x.send_rd t a b

theorem Hears.answerHandover {m : BreezeMsg} {x : Half} (hx : Hears m x) (t : Nat) : Hears m (x.answerHandover t) := by
  have taking : Hears m ((x.onSent fun y => { y with handover := .taking t }).wrNat Adr.RDN_HANDOVER_TARGET t) :=
    hx.of_kept rfl rfl fun a ha => Half.rd_wrNat_ne _ _ (ne_of_notMem ha (by simp))
  unfold Half.answerHandover
  simp only
  split
  · exact hx.send _ _
  · split
    · exact hx.send _ _
    · split
      · exact hx.send _ _
      · split
        · exact hx.send _ _
        · exact taking.send _ _

theorem Hears.handoverAccepted {m : BreezeMsg} {x : Half} (hx : Hears m x) : Hears m x.handoverAccepted := by
  unfold Half.handoverAccepted
  split
  · exact hx.of_kept rfl rfl (SameRegs.refl _ _)
  · exact hx

theorem Hears.endHandover {m : BreezeMsg} {x : Half} (hx : Hears m x) (r : Nat) : Hears m (x.endHandover r) :=
  hx.of_kept rfl rfl fun a ha => x.endHandover_rd r fun h => ha (by
    simp only [List.mem_cons, List.not_mem_nil, or_false] at h ⊢
    tauto)

theorem Hears.handoverFails {m : BreezeMsg} {x : Half} (hx : Hears m x) (r : Nat) : Hears m (x.handoverFails r) := by
  unfold Half.handoverFails
  split
  · exact hx.endHandover r
  · exact hx

/-- Every reception is `State.receive` with an action that keeps what the message shows. -/
theorem exec_reception {c : Instr} {h : HalfId} {type : Nat} {bad : Bool} (hc : receptionOf c = some (h, type, bad)) (s : State) :
    ∃ f : BreezeMsg → Half → Half, exec c s = .next (s.receive h type bad f) ∧ ∀ m y, Hears m y → Hears m (f m y) := by
  unfold receptionOf at hc
  split at hc <;> simp only [Option.some.injEq, Prod.mk.injEq, reduceCtorEq] at hc <;> obtain ⟨rfl, rfl, rfl⟩ := hc <;>
    refine ⟨_, rfl, fun m y hy => ?_⟩
  · exact hy
  · exact hy.partnerYields
  · exact hy.answerHandover _
  · exact hy.handoverAccepted
  · exact hy.handoverFails 7
  · split
    · exact hy.of_kept rfl rfl (SameRegs.refl _ _)
    · exact hy
  · split
    · exact hy.endHandover 9
    · exact hy

/-- Settles O8: a valid message is noted before its role and type act, and an invalid one is only counted. -/
theorem messagesAreCheckedHeartbeats : Obligations.MessagesAreCheckedHeartbeats := by
  refine ⟨fun c h type s m rest hc hh => ?_, fun c h type bad s m rest hc hw ht live link hi => ?_⟩
  · obtain ⟨f, hx, hf⟩ := exec_reception hc s
    obtain ⟨hp, hwf⟩ := State.shared_ext (State.receive_shared s h type false f)
    obtain ⟨rx, br, st, he, ro, rv⟩ := hf m _ (Half.takeBreeze_hears
      ((s.half h).takeIndex ((s.half h.other).onRdn fun r => { r with breezeOut := rest })) m)
    refine completes_of hx ⟨?_, ?_, ?_, ?_, ?_, ?_, ?_, hwf, hp⟩ <;>
      rw [State.receive_heard hh]
    · rw [State.setHalf_other, State.on_half]; rfl
    all_goals rwa [State.setHalf_half]
  · obtain ⟨f, hx, -⟩ := exec_reception hc s
    refine completes_of hx ?_
    rw [State.receive_invalid hw ht live link hi, State.setHalf_half, State.setHalf_other, State.on_half]
    refine ⟨rfl, rfl, rfl, ?_, fun a ha => ?_⟩
    · simp [satAdd]
    · simp only [List.mem_singleton] at ha
      simp [ha]

/-- The half that takes a valid message, with what the message's type adds. -/
theorem completes_heard {c : Instr} {h : HalfId} {type : Nat} {s : State} {m : BreezeMsg} {rest : List BreezeMsg}
    {f : BreezeMsg → Half → Half} (hh : Heard s h type m rest) (hx : exec c s = .next (s.receive h type false f))
    {P : Half → Prop} (hP : P (f m (s.heard h m rest))) : Completes c s fun t => P (t.half h) :=
  ⟨_, hx, by rw [State.receive_heard hh]; simpa only [State.setHalf_half] using hP⟩

theorem Half.answerHandover_refuses {x : Half} (t : Nat) (hr : x.role ≠ .standby ∨ x.busyCommit = true ∨
    x.bit Adr.TIM_CARRIER_ALIGN 30 = false ∨ x.allTracked = false) : ∃ code, x.answerHandover t = x.send 0x12 code := by
  unfold Half.answerHandover
  simp only
  by_cases h1 : x.role = .standby
  · by_cases h2 : x.busyCommit = true
    · exact ⟨3, by simp [h1, h2]⟩
    by_cases h3 : x.bit Adr.TIM_CARRIER_ALIGN 30 = true
    · have h4 : x.allTracked = false := by simpa [h1, h2, h3] using hr
      exact ⟨5, by simp [h1, h2, h3, h4]⟩
    · exact ⟨4, by simp [h1, h2, h3]⟩
  · exact ⟨2, by simp [h1]⟩

/-- Settles O9: the action of each type on the half that has noted the message. -/
theorem messagesActByType : Obligations.MessagesActByType := by
  intro h s m rest y hy
  refine ⟨fun hh hr => ?_, fun hh hr hb ha ht => ?_, fun hh hr => ?_, fun n hh hn => ?_, fun n hh hn => ?_,
    fun hh hr hn => ?_, fun hh ht => ?_⟩
  · refine completes_heard (P := fun x => x.sent.claiming = 2 ∧ x.sent.yieldWait = true ∧ x = { y with sent := x.sent }) hh rfl ?_
    rw [← hy]
    simp only [Half.partnerYields, hr]
    exact ⟨rfl, rfl, rfl⟩
  · refine completes_heard (P := fun x => x.sent.handover = .taking m.arg ∧
      x.rd Adr.RDN_HANDOVER_TARGET = BitVec.ofNat 32 m.arg ∧ SameRegs [Adr.RDN_HANDOVER_TARGET] y x) hh rfl ?_
    rw [← hy]
    have accepts : y.answerHandover m.arg =
        ((y.onSent fun z => { z with handover := .taking m.arg }).wrNat Adr.RDN_HANDOVER_TARGET m.arg).send 0x11 m.arg := by
      simp [Half.answerHandover, hr, hb, ha, ht]
    rw [accepts]
    refine ⟨by simp, by simp, fun a hm => ?_⟩
    simp only [List.mem_singleton] at hm
    simp [hm]
  · refine completes_heard (P := fun x => x.sent = y.sent ∧ SameRegs [] y x) hh rfl ?_
    rw [← hy]
    obtain ⟨code, refuses⟩ := Half.answerHandover_refuses m.arg hr
    rw [refuses]
    exact ⟨y.send_sent _ _, fun a _ => y.send_rd _ _ a⟩
  · refine completes_heard (P := fun x => x = { y with sent := { y.sent with handover := .agreed n } }) hh rfl ?_
    rw [← hy]
    simp only [Half.handoverAccepted, hn]
    rfl
  · refine completes_heard (P := fun x => x.sent = { y.sent with handover := .idle } ∧ x.get Adr.RDN_HANDOVER_STATUS 24 7 = 7 ∧
      x.bit Adr.RDN_HANDOVER_STATUS 31 = false ∧ x.bit Adr.RDN_EVENT 2 = true ∧
      SameRegs [Adr.RDN_HANDOVER_STATUS, Adr.RDN_EVENT] y x) hh rfl ?_
    rw [← hy]
    simp only [Half.handoverFails, hn]
    obtain ⟨result, busy, event⟩ := y.endHandover_shows 7 (by decide)
    exact ⟨rfl, result, busy, event, fun a ha => y.endHandover_rd 7 ha⟩
  · refine completes_heard (P := fun x => x = { y with rdn := { y.rdn with arpDue := true } }) hh rfl ?_
    rw [← hy]
    exact (if_pos ⟨hr, hn⟩).trans rfl
  · refine completes_heard (P := fun x => x.sent = { y.sent with handover := .idle } ∧ x.get Adr.RDN_HANDOVER_STATUS 24 7 = 9 ∧
      x.bit Adr.RDN_HANDOVER_STATUS 31 = false ∧ x.bit Adr.RDN_EVENT 2 = true ∧
      SameRegs [Adr.RDN_HANDOVER_STATUS, Adr.RDN_EVENT] y x) hh rfl ?_
    rw [← hy]
    simp only [ht, if_true]
    obtain ⟨result, busy, event⟩ := y.endHandover_shows 9 (by decide)
    exact ⟨rfl, result, busy, event, fun a ha => y.endHandover_rd 9 ha⟩

/-! The loss of heartbeats, the Onar link and the sentinel (R443, R446, R472, R476). -/

theorem Half.mirrorLoss_rd (x : Half) {a : Nat} (h1 : a ≠ Adr.RDN_EVENT) (h2 : a ≠ Adr.RDN_FAULT) : x.mirrorLoss.rd a = x.rd a := by
  unfold Half.mirrorLoss
  split <;> simp [h1, h2]

@[simp] theorem Half.mirrorLoss_sent (x : Half) : x.mirrorLoss.sent = x.sent := by
  unfold Half.mirrorLoss
  split <;> rfl

theorem Half.event_keeps (x : Half) (a b : Nat) {k : Nat} (hb : b < 32) (hk : x.bit a k = true) : (x.event a b).bit a k = true := by
  by_cases h : k = b
  · rw [h, Half.bit_event_self _ _ _ hb]
  · rwa [Half.bit_event_bit _ _ _ _ hb h]

theorem Half.mirrorLoss_event (x : Half) {b : Nat} (hb : x.bit Adr.RDN_EVENT b = true) : x.mirrorLoss.bit Adr.RDN_EVENT b = true := by
  have kept := x.event_keeps Adr.RDN_EVENT 3 (by decide) hb
  have latched := Half.bit_latch_ne (x.event Adr.RDN_EVENT 3) Adr.RDN_FAULT Adr.RDN_EVENT b 12 (by decide)
  unfold Half.mirrorLoss
  split
  · exact latched.trans kept
  · exact latched.trans kept
  · exact hb

/-- What shows the loss of the partner's Breeze at a half whose line stands at a level (R446, R481). -/
structure BreezeGone (own : Bool) (y : Half) : Prop where
  status : y.bit Adr.RDN_STATUS 5 = false
  event : y.bit Adr.RDN_EVENT 0 = true
  roleValid : y.bit Adr.RDN_ROLE_STATUS 11 = false
  lost : y.sent.breezeLost = true
  line : y.sent.own = own

theorem BreezeGone.of_roleShape {own : Bool} {x y : Half} (hx : BreezeGone own x) (h : RoleShape x y) : BreezeGone own y := by
  obtain ⟨st, ev, rv, lost, line⟩ := hx
  obtain ⟨o, g, sent⟩ := h.sent
  refine ⟨(Half.bit_congr (h.regs _ (by decide)) 5).trans st, h.events 0 ev, ?_, by rw [sent]; exact lost, by rw [sent]; exact line⟩
  unfold Half.bit at rv ⊢
  rwa [h.partner 11 1 (by decide) (by decide)]

theorem Half.loseBreeze_gone {x : Half} (hb : x.bit Adr.RDN_STATUS 5 = true) : BreezeGone x.sent.own x.loseBreeze := by
  unfold Half.loseBreeze
  simp only [hb, Bool.not_true, Bool.false_eq_true, if_false]
  refine BreezeGone.of_roleShape ?_ (Half.roleCheck_shape _)
  have lost : BreezeGone x.sent.own (((((x.putBit Adr.RDN_STATUS 5 false).event Adr.RDN_EVENT 0).putBit Adr.RDN_ROLE_STATUS 11
      false).onSent fun y => { y with breezeLost := true, killHold := y.killHold.lostAgain }).mirrorLoss) := by
    refine ⟨?_, Half.mirrorLoss_event _ (by simp), ?_, by simp, by simp⟩
    · rw [Half.bit_congr (Half.mirrorLoss_rd _ (by decide) (by decide))]
      simp
    · rw [Half.bit_congr (Half.mirrorLoss_rd _ (by decide) (by decide))]
      simp
  generalize Half.mirrorLoss _ = z at lost
  obtain ⟨st, ev, rv, gone, line⟩ := lost
  split
  · split
    · exact ⟨st, ev, rv, gone, line⟩
    · exact ⟨st, ev, rv, gone, line⟩
  · exact BreezeGone.of_roleShape ⟨st, ev, rv, gone, line⟩ (RoleShape.abandon z true)
  · exact ⟨st, ev, rv, gone, line⟩

theorem Half.loseDraught_eq {x : Half} (hb : x.bit Adr.RDN_STATUS 6 = true ∨ x.bit Adr.RDN_STATUS 7 = true) :
    x.loseDraught = ((((x.put Adr.RDN_STATUS 6 2 0).event Adr.RDN_EVENT 1).count Adr.RDN_HB_STATS 0 16 1).life .draughtErr 1).onSent
      fun y => { y with draughtLost := true, killHold := y.killHold.lostAgain } := by
  refine if_neg ?_
  obtain e | e := hb <;> simp [e]

/-! A role is a field of `ROLE_STATUS`. -/

section role
variable (x : Half) {a : Nat} (ha : a ≠ Adr.RDN_ROLE_STATUS)
include ha

theorem Half.role_wr (v : Word) : (x.wr a v).role = x.role := Half.role_of_rd (Half.rd_wr_ne x v ha.symm)
@[simp] theorem Half.role_put (lo n v : Nat) : (x.put a lo n v).role = x.role := x.role_wr ha _
@[simp] theorem Half.role_putBit (b : Nat) (v : Bool) : (x.putBit a b v).role = x.role := x.role_wr ha _
@[simp] theorem Half.role_event (b : Nat) : (x.event a b).role = x.role := x.role_wr ha _
@[simp] theorem Half.role_wrNat (v : Nat) : (x.wrNat a v).role = x.role := x.role_wr ha _
@[simp] theorem Half.role_latch (c : Nat) : (x.latch a c).role = x.role := x.role_wr ha _

end role

@[simp] theorem Half.partnerYields_rd (x : Half) (a : Nat) : x.partnerYields.rd a = x.rd a := by
  unfold Half.partnerYields
  split <;> rfl

@[simp] theorem Half.partnerYields_draughtLost (x : Half) : x.partnerYields.sent.draughtLost = x.sent.draughtLost := by
  unfold Half.partnerYields
  split <;> rfl

theorem Half.partnerYields_eq (x : Half) : x.partnerYields = x.onSent fun _ => x.partnerYields.sent := by
  unfold Half.partnerYields
  split <;> rfl

/-- The partner's yield pattern at a half (R445, R447). -/
theorem Half.yieldSeen_shows (x : Half) {z : Half} (hz : z = (x.put Adr.RDN_STATUS 6 2 2).onSent fun y =>
      { y with draughtLost := false, killHold := y.killHold.seen }) :
    z.partnerYields.get Adr.RDN_STATUS 6 2 = 2 ∧ z.partnerYields.sent.draughtLost = false ∧
      (x.role = .standby → z.partnerYields.sent.claiming = 2 ∧ z.partnerYields.sent.yieldWait = true) ∧
      OnlyRegs [Adr.RDN_STATUS] { x with sent := z.partnerYields.sent } z.partnerYields := by
  have shows : z.get Adr.RDN_STATUS 6 2 = 2 := by simp [hz]
  have role : z.role = x.role := by simp [hz]
  have lost : z.sent.draughtLost = false := by rw [hz]; rfl
  refine ⟨(Half.get_congr (z.partnerYields_rd _) 6 2).trans shows, z.partnerYields_draughtLost.trans lost, fun hr => ?_, ?_,
    fun a ha => ?_⟩
  · simp only [Half.partnerYields, role, hr]
    exact ⟨rfl, rfl⟩
  · rw [z.partnerYields_eq, hz]
    rfl
  · rw [Half.partnerYields_rd, hz, Half.onSent_rd, Half.rd_put_ne _ _ _ _ (by simpa using ha)]
    rfl

/-- The registers that show the Onar link, through the check of the role's conditions (R443, R476). -/
theorem Half.roleCheck_link (x : Half) :
    x.roleCheck.rd Adr.RDN_LINK_STATUS = x.rd Adr.RDN_LINK_STATUS ∧ x.roleCheck.bit Adr.RDN_STATUS 4 = x.bit Adr.RDN_STATUS 4 ∧
      x.roleCheck.rdn.rxSeq = x.rdn.rxSeq := by
  have shape := x.roleCheck_shape
  exact ⟨shape.regs _ (by decide), Half.bit_congr (shape.regs _ (by decide)) 4, by rw [shape.rdn]⟩

theorem Half.mirrorDiag_rd (x : Half) (k n : Nat) {a : Nat} (ha : a ≠ Adr.QM_DROP_CNT 11) : (x.mirrorDiag k n).rd a = x.rd a :=
  x.hwPush_rd 11 8 _ ha

/-- The Onar link down at a half (R443). -/
theorem State.onarDown_shows {s : State} {h : HalfId} (hl : (s.half h).linkUp = true) :
    ((s.onarDown h).half h).rd Adr.RDN_LINK_STATUS = 0 ∧ ((s.onarDown h).half h).bit Adr.RDN_STATUS 4 = false ∧
      ((s.onarDown h).half h).rdn.rxSeq = none ∧
      (s.onarDown h).half h.other = (s.half h.other).onRdn fun r => { r with breezeOut := [], digestOut := [] } := by
  unfold State.onarDown
  simp only [hl, Bool.not_true, Bool.false_eq_true, if_false, State.on_half, State.on_other]
  have me : ∀ f, (s.on h.other f).half h = s.half h := fun f => by simpa using s.on_other h.other f
  rw [me]
  generalize s.half h = x
  have down : ((x.wrNat Adr.RDN_LINK_STATUS 0).putBit Adr.RDN_STATUS 4 false).mirrorLoss.rd Adr.RDN_LINK_STATUS = 0 ∧
      ((x.wrNat Adr.RDN_LINK_STATUS 0).putBit Adr.RDN_STATUS 4 false).mirrorLoss.bit Adr.RDN_STATUS 4 = false := by
    rw [Half.mirrorLoss_rd _ (by decide) (by decide), Half.bit_congr (Half.mirrorLoss_rd _ (by decide) (by decide))]
    simp
  generalize Half.mirrorLoss _ = y at down
  have keeps : ∀ z : Half, z.rd Adr.RDN_LINK_STATUS = y.rd Adr.RDN_LINK_STATUS → z.rd Adr.RDN_STATUS = y.rd Adr.RDN_STATUS →
      ∀ w : Half, w = (z.onRdn fun r => { r with rxSeq := none, gapSince := true }).roleCheck →
        w.rd Adr.RDN_LINK_STATUS = 0 ∧ w.bit Adr.RDN_STATUS 4 = false ∧ w.rdn.rxSeq = none := by
    rintro z hlink hstatus w rfl
    obtain ⟨link, status, seq⟩ := (z.onRdn fun r => { r with rxSeq := none, gapSince := true }).roleCheck_link
    exact ⟨link.trans (hlink.trans down.1), status.trans ((Half.bit_congr hstatus 4).trans down.2), seq⟩
  refine (and_assoc.trans (and_congr_right fun _ => and_assoc)).mp ⟨?_, trivial⟩
  split
  · exact keeps _ (y.mirrorDiag_rd 2 0 (by decide)) (y.mirrorDiag_rd 2 0 (by decide)) _ rfl
  · exact keeps _ (y.mirrorDiag_rd 2 0 (by decide)) (y.mirrorDiag_rd 2 0 (by decide)) _ rfl
  · exact keeps _ (y.abandon_rd false (by decide)) (y.abandon_rd false (by decide)) _ rfl

/-- The start of a half touches neither its readiness nor its heartbeat nor its give-up (R441). -/
theorem Half.startRole_sent (x : Half) : ∃ o b, x.startRole.sent = { x.sent with handover := o, holding := b } := by
  obtain ⟨o, ho⟩ := x.goSyncing_sent
  unfold Half.startRole
  split
  · exact ⟨_, _, rfl⟩
  · split
    · split
      · exact ⟨o, _, ho⟩
      · exact ⟨_, true, rfl⟩
    · exact ⟨_, true, rfl⟩

/-- Settles O10: what a loss, a return or a reset shows, before and through the check of the role's conditions. -/
theorem heartbeatsLinkAndSentinel : Obligations.HeartbeatsLinkAndSentinel := by
  refine ⟨fun h s => ⟨fun hb => ?_, fun hb => ?_, fun hd => ?_, fun hd => ?_, fun hy hc => ?_⟩,
    fun h s => ⟨fun hl => ?_, fun hl => ?_, fun hl hb hr hn hd => ?_, fun hd => ?_, ?_⟩⟩
  · obtain ⟨st, ev, rv, gone, line⟩ := Half.loseBreeze_gone hb
    exact completesAt_on (f := Half.loseBreeze) rfl ⟨st, ev, rv, gone, line⟩
  · refine completesAt_on (f := Half.loseDraught) rfl ?_
    rw [Half.loseDraught_eq hb]
    refine ⟨by simp, by simp, by simp [satAdd], rfl, rfl, fun a ha => ?_⟩
    simp only [List.mem_cons, List.not_mem_nil, or_false, not_or] at ha
    simp [ha]
  · exact completesAt_on (next_if_pos hd) ((s.half h).yieldSeen_shows rfl)
  · refine completesAt_on (next_if_pos hd) ?_
    refine ⟨by simp, rfl, fun hb => by simp [hb], ?_, fun a ha => ?_⟩
    · simp only
      split <;> rfl
    · simp only [List.mem_cons, List.not_mem_nil, or_false, not_or] at ha
      simp only
      split <;> simp [ha]
  · refine completesAt_on (next_if_pos (by simp [hy, hc])) rfl
  · refine completesAt_on (next_if_pos hl) ?_
    generalize hx : ((((s.half h).wrNat Adr.RDN_LINK_STATUS 0x8000000F).putBit Adr.RDN_STATUS 4 true).onRdn fun r =>
      { r with rxSeq := none }) = x
    obtain ⟨link, status, seq⟩ := x.roleCheck_link
    exact ⟨link.trans (by simp [← hx]), status.trans (by simp [← hx]), seq.trans (by rw [← hx]; rfl)⟩
  · obtain ⟨link, status, seq, other⟩ := State.onarDown_shows hl
    exact completes_of (t := s.onarDown h) rfl ⟨link, status, seq, by rw [other]; rfl, by rw [other]; rfl⟩
  · have due : ((s.half h).live && !(s.half h).bit Adr.DIE_BOOT_STATUS 28 &&
        (Region.all.all fun r => !r.required || (s.half h).up r) && !(s.half h).sent.ready && !(s.half h).sent.dead) = true := by
      simp only [hl, hb, hn, hd, Bool.not_false, Bool.and_true, Bool.true_and, List.all_eq_true]
      intro r _
      cases hq : r.required
      · rfl
      · simp [hr r hq]
    refine completesAt_on rfl ?_
    simp only [due, if_true]
    obtain ⟨o, b, sent⟩ := Half.startRole_sent (((({ s.half h with phase := .running } : Half).applyReplayedPlan).onSent fun y =>
      { y with ready := true, draught := .alive, giveUp := .idle }))
    exact ⟨by rw [sent]; rfl, by rw [sent]; rfl, by rw [sent]; rfl⟩
  · refine completes_of rfl ?_
    simp only [State.lines_sent, State.lines_role, State.on_half, hd, Bool.false_eq_true, if_false, Half.txRefresh_sent,
      Half.setSvc_sent, Half.setRole_sent, Half.onSent_sent, Half.txRefresh_role, Half.role_setSvc, Half.role_setRole, and_self]
  · refine completes_of rfl ?_
    simp only [State.lines_sent, State.on_half]
    exact ⟨rfl, rfl, rfl, rfl, fun a ha => by rw [State.lines_rd _ _ ha, State.on_half, Half.onSent_rd]⟩

end Sys2Proof.Machine
end

section
/-! O16, O20, O21: link, transmission and timers of a MAC (R83 to R120). -/

namespace Sys2Proof.Machine

open Sys2Proof

@[simp] theorem Half.bitAt_rd (x : Half) (a b : Nat) : bitAt (x.rd a) b = x.bit a b := by
  simp only [bitAt, Half.bit, Half.get, getBits, Nat.testBit_eq_decide_div_mod_eq]
  rfl

/-! Counters and the working state of a MAC beside operations on registers. -/

theorem mem_counterRegs {a p : Nat} {c : MacCnt} :
    a ∈ counterRegs p c ↔ a = Adr.MAC_CNT p (2 * c.idx) ∨ a = Adr.MAC_CNT p (2 * c.idx) + 4 := by
  simp [counterRegs]

/-- The registers of MAC p before its counters. -/
@[simp] theorem notMem_counterRegs {a p : Nat} {c : MacCnt} (h : a < 0x30200 + 0x4000 * p) : a ∉ counterRegs p c := by
  rw [mem_counterRegs, Adr.MAC_CNT]
  omega

/-- The registers of MAC p after its counters, and all those above. -/
@[simp] theorem notMem_counterRegs_of_le {a p : Nat} {c : MacCnt} (h : 0x30300 + 0x4000 * p ≤ a) : a ∉ counterRegs p c := by
  have := c.idx_lt
  rw [mem_counterRegs, Adr.MAC_CNT]
  omega

theorem Half.counter_congr {x y : Half} {p : Nat} {c : MacCnt} (h : ∀ a ∈ counterRegs p c, y.rd a = x.rd a) :
    y.counter p c = x.counter p c := by
  simp only [Half.counter, Half.rd64, h (Adr.MAC_CNT p (2 * c.idx)) (mem_counterRegs.mpr (Or.inl rfl)),
    h (Adr.MAC_CNT p (2 * c.idx) + 4) (mem_counterRegs.mpr (Or.inr rfl))]

theorem Half.counter_wr (x : Half) {a p : Nat} {c : MacCnt} (v : Word) (h : a ∉ counterRegs p c) :
    (x.wr a v).counter p c = x.counter p c :=
  Half.counter_congr fun _ hb => Half.rd_wr_ne x v fun e => h (e ▸ hb)

section counters
variable (x : Half) {a p : Nat} {c : MacCnt} (h : a ∉ counterRegs p c)
include h

@[simp] theorem Half.counter_put (lo n v : Nat) : (x.put a lo n v).counter p c = x.counter p c := x.counter_wr _ h
@[simp] theorem Half.counter_putBit (k : Nat) (v : Bool) : (x.putBit a k v).counter p c = x.counter p c := x.counter_wr _ h
@[simp] theorem Half.counter_event (k : Nat) : (x.event a k).counter p c = x.counter p c := x.counter_wr _ h
@[simp] theorem Half.counter_wrNat (v : Nat) : (x.wrNat a v).counter p c = x.counter p c := x.counter_wr _ h
@[simp] theorem Half.counter_latch (v : Nat) : (x.latch a v).counter p c = x.counter p c := x.counter_wr _ h
@[simp] theorem Half.counter_wrap (lo n d : Nat) : (x.wrap a lo n d).counter p c = x.counter p c := x.counter_wr _ h

end counters

section tallies
variable (x : Half) (p : Nat) (c : MacCnt) (d : Nat) {a : Nat}

@[simp] theorem Half.read_tally (h : a ∉ counterRegs p c) : (x.tally p c d).rd a = x.rd a := x.tally_rd p c d h
@[simp] theorem Half.get_tally (h : a ∉ counterRegs p c) (lo n : Nat) : (x.tally p c d).get a lo n = x.get a lo n :=
  Half.get_congr (x.tally_rd p c d h) lo n
@[simp] theorem Half.bit_tally (h : a ∉ counterRegs p c) (k : Nat) : (x.tally p c d).bit a k = x.bit a k :=
  Half.bit_congr (x.tally_rd p c d h) k
@[simp] theorem Half.mac_tally (q : Nat) : (x.tally p c d).mac q = x.mac q := rfl
@[simp] theorem Half.macs_tally : (x.tally p c d).macs = x.macs := rfl

end tallies

section macs
variable (x : Half) (p : Nat) (f : MacSt → MacSt) (a q lo n b v : Nat)

@[simp] theorem Half.mac_put : (x.put a lo n v).mac p = x.mac p := rfl
@[simp] theorem Half.mac_putBit (w : Bool) : (x.putBit a b w).mac p = x.mac p := rfl
@[simp] theorem Half.mac_event : (x.event a b).mac p = x.mac p := rfl
@[simp] theorem Half.mac_wrNat : (x.wrNat a v).mac p = x.mac p := rfl
@[simp] theorem Half.mac_wrap (d : Nat) : (x.wrap a lo n d).mac p = x.mac p := rfl
@[simp] theorem Half.mac_latch : (x.latch a v).mac p = x.mac p := rfl
@[simp] theorem Half.onMac_read : (x.onMac p f).rd a = x.rd a := rfl
@[simp] theorem Half.onMac_get : (x.onMac p f).get a lo n = x.get a lo n := rfl
@[simp] theorem Half.onMac_bit : (x.onMac p f).bit a b = x.bit a b := rfl
@[simp] theorem Half.onMac_counter (c : MacCnt) : (x.onMac p f).counter q c = x.counter q c := rfl
@[simp] theorem Half.onMac_registers : (x.onMac p f).regs = x.regs := rfl
@[simp] theorem Half.length_onMac : (x.onMac p f).macs.length = x.macs.length := by simp [Half.onMac, modAt]

end macs

theorem Half.counter_lt (x : Half) (p : Nat) (c : MacCnt) : x.counter p c < 2 ^ 64 := by
  have lo := (x.rd (Adr.MAC_CNT p (2 * c.idx))).isLt
  have hi := (x.rd (Adr.MAC_CNT p (2 * c.idx) + 4)).isLt
  unfold Half.counter Half.rd64
  omega

/-- A fact about the working state of a MAC after a change of it, where no list too short to hold it breaks it. -/
theorem Half.mac_onMac_holds {x : Half} {p : Nat} {f : MacSt → MacSt} (P : MacSt → Prop) (hf : P (f (x.mac p)))
    (hi : P MacSt.init) : P ((x.onMac p f).mac p) := by
  by_cases hp : p < x.macs.length
  · rwa [Half.mac_onMac x f hp]
  · rwa [Half.mac_onMac_out x f (by omega)]

/-! Verification (R102). -/

/-- y is x but for verification: bits 7 to 10 of `STATUS` and bit 6 of `EVENT`. -/
structure VerifyOnly (p : Nat) (x y : Half) : Prop where
  regs : ∀ a, a ≠ Adr.MAC_STATUS p → a ≠ Adr.MAC_EVENT p → y.rd a = x.rd a
  low : ∀ lo n, lo + n ≤ 7 ∨ 11 ≤ lo → y.get (Adr.MAC_STATUS p) lo n = x.get (Adr.MAC_STATUS p) lo n
  event : ∀ lo n, lo + n ≤ 6 ∨ 7 ≤ lo → y.get (Adr.MAC_EVENT p) lo n = x.get (Adr.MAC_EVENT p) lo n

theorem VerifyOnly.trans {p : Nat} {x y z : Half} (h : VerifyOnly p x y) (k : VerifyOnly p y z) : VerifyOnly p x z :=
  ⟨fun a h1 h2 => (k.regs a h1 h2).trans (h.regs a h1 h2), fun lo n hl => (k.low lo n hl).trans (h.low lo n hl),
    fun lo n hl => (k.event lo n hl).trans (h.event lo n hl)⟩

theorem Half.setVerify_only (x : Half) (p : Nat) {v : Nat} (hv : v < 8) : VerifyOnly p x (x.setVerify p v) := by
  obtain ⟨-, regs, low, event, -, -, -⟩ := x.setVerify_verified p v hv
  exact ⟨regs, low, event⟩

theorem Half.startVerify_only (x : Half) (p : Nat) : VerifyOnly p x (x.startVerify p) := by
  unfold Half.startVerify
  split
  · exact x.setVerify_only p (by decide)
  · have tries := (x.setVerify_only p (v := 1) (by decide)).trans ((x.setVerify p 1).setVerify_only p (v := 2) (by decide))
    exact ⟨tries.regs, tries.low, tries.event⟩

@[simp] theorem Half.mac_setVerify (x : Half) (p v q : Nat) (hv : v < 8) : (x.setVerify p v).mac q = x.mac q := by
  rw [(x.setVerify_verified p v hv).same]
  rfl

/-! O16: the link. -/

theorem linkSpeeds_lineSpeed {mode speed : Nat} {rate : LineRate} (h : (mode, rate, speed) ∈ linkSpeeds) :
    lineSpeed mode rate = speed ∧ 1 ≤ speed ∧ speed ≤ 3 ∧ 1 ≤ mode ∧ mode ≤ 4 ∧ (mode = 2 → speed = 2) ∧ (mode = 4 → speed = 1) := by
  simp only [linkSpeeds, List.mem_cons, Prod.mk.injEq, List.not_mem_nil, or_false] at h
  obtain ⟨rfl, rfl, rfl⟩ | ⟨rfl, rfl, rfl⟩ | ⟨rfl, rfl, rfl⟩ | ⟨rfl, rfl, rfl⟩ | ⟨rfl, rfl, rfl⟩ | ⟨rfl, rfl, rfl⟩ := h <;>
    decide

theorem mem_linkSpeeds_of_lineSpeed {mode : Nat} {rate : LineRate} (h : lineSpeed mode rate ≠ 0) :
    (mode, rate, lineSpeed mode rate) ∈ linkSpeeds := by
  unfold lineSpeed at h ⊢
  split at h <;> simp_all [linkSpeeds]

/-- The link of port p comes up with a SPEED. -/
def Half.linkUpAt (x : Half) (p speed : Nat) : Half :=
  ((x.put (Adr.MAC_STATUS p) 0 3 (1 + 2 * speed)).event (Adr.MAC_EVENT p) 0).startVerify p

theorem Half.linkUpAt_shows (x : Half) (p : Nat) {speed : Nat} (hs : speed ≤ 3) :
    (x.linkUpAt p speed).portUp p = true ∧ (x.linkUpAt p speed).get (Adr.MAC_STATUS p) 1 2 = speed ∧
      (x.linkUpAt p speed).bit (Adr.MAC_EVENT p) 0 = true ∧ SameRegs [Adr.MAC_STATUS p, Adr.MAC_EVENT p] x (x.linkUpAt p speed) := by
  have verify := ((x.put (Adr.MAC_STATUS p) 0 3 (1 + 2 * speed)).event (Adr.MAC_EVENT p) 0).startVerify_only p
  refine ⟨?_, ?_, ?_, fun a ha => ?_⟩
  · have := verify.low 0 1 (by omega)
    simp only [Half.portUp, Half.bit, Half.linkUpAt, this]
    simp [getBits_setBits_within]
  · rw [Half.linkUpAt, verify.low 1 2 (by omega)]
    simp [getBits_setBits_within]
    omega
  · have := verify.event 0 1 (by omega)
    simp only [Half.bit, Half.linkUpAt, this]
    simp
  · simp only [List.mem_cons, List.not_mem_nil, or_false, not_or] at ha
    rw [Half.linkUpAt, verify.regs a ha.1 ha.2]
    simp [ha]

theorem execPortLinkUp_supported {h : HalfId} {p : PortId} {s : State} {mode speed : Nat} {rate : LineRate}
    (hm : (mode, rate, speed) ∈ linkSpeeds) (on : (s.half h).macOn p = true) (down : (s.half h).portUp p = false)
    (hc : (s.half h).get (Adr.MAC_CTRL p) 1 3 = mode) :
    CompletesAt (.portLinkUp h p rate true) h s fun x => x = (s.half h).linkUpAt p speed := by
  obtain ⟨same, low, high, first, last, two, four⟩ := linkSpeeds_lineSpeed hm
  refine completesAt_on rfl ?_
  have forced : (if ((mode == 2 || mode == 4) && !(s.half h).bit (Adr.MAC_CTRL p) 13) = true then
      (if mode = 2 then 2 else 1) else lineSpeed mode rate) = speed := by
    rw [same]
    by_cases h2 : mode = 2
    · simp [h2, two h2]
    · by_cases h4 : mode = 4
      · simp [h4, four h4]
      · simp [h2, h4]
  simp only [hc, on, down, forced]
  rw [if_neg (by simp; omega), if_neg (by simp; omega)]
  rfl

theorem execPortLinkUp_forced {h : HalfId} {p : PortId} {s : State} {mode : Nat} (rate : LineRate) (full : Bool)
    (hm : mode = 2 ∨ mode = 4) (on : (s.half h).macOn p = true) (down : (s.half h).portUp p = false)
    (hc : (s.half h).get (Adr.MAC_CTRL p) 1 3 = mode) (ha : (s.half h).bit (Adr.MAC_CTRL p) 13 = false) :
    CompletesAt (.portLinkUp h p rate full) h s fun x => x = (s.half h).linkUpAt p (if mode = 2 then 2 else 1) := by
  refine completesAt_on rfl ?_
  obtain rfl | rfl := hm <;> simp [hc, on, down, ha, Half.linkUpAt]

theorem execPortLinkUp_refused {h : HalfId} {p : PortId} {s : State} {rate : LineRate} {full : Bool}
    (on : (s.half h).macOn p = true) (down : (s.half h).portUp p = false) (hm : (s.half h).get (Adr.MAC_CTRL p) 1 3 ≠ 0)
    (ha : (s.half h).bit (Adr.MAC_CTRL p) 13 = true)
    (hs : full = false ∨ ∀ speed, ((s.half h).get (Adr.MAC_CTRL p) 1 3, rate, speed) ∉ linkSpeeds) :
    CompletesAt (.portLinkUp h p rate full) h s fun x => x = (s.half h).latch (Adr.MAC_FAULT p) 2 := by
  refine completesAt_on rfl ?_
  have unsupported : lineSpeed ((s.half h).get (Adr.MAC_CTRL p) 1 3) rate = 0 ∨ full = false := by
    by_contra hc
    push Not at hc
    exact hs.elim hc.2 fun no => no _ (mem_linkSpeeds_of_lineSpeed hc.1)
  simp only [on, down, ha, Bool.not_true, Bool.and_false, Bool.false_eq_true, if_false, Bool.false_or, Bool.or_false, beq_iff_eq, hm]
  rw [if_pos]
  obtain e | e := unsupported
  · exact Or.inl e
  · simp [e]

/-! What a link that goes down discards (R86). -/

theorem ringAdr_tx (p r ofs : Nat) : ringAdr p true r ofs = 0x30500 + 0x4000 * p + 0x40 * r + ofs := by
  simp only [ringAdr, if_true]
  omega

/-- The registers of MAC p before its rings. -/
theorem ringAdr_ne_low {a p r ofs : Nat} {tx : Bool} (h : a < 0x30400 + 0x4000 * p) : ringAdr p tx r ofs ≠ a := by
  unfold ringAdr
  split <;> omega

@[simp] theorem ringAdr_notMem_counterRegs (p r ofs : Nat) (tx : Bool) (c : MacCnt) : ringAdr p tx r ofs ∉ counterRegs p c :=
  notMem_counterRegs_of_le (by unfold ringAdr; split <;> omega)

theorem Half.closeFrame_rd (x : Half) (p r first n status : Nat) {a : Nat} (ha : a ≠ ringAdr p true r 0x14) :
    (x.closeFrame p r first n status).rd a = x.rd a := by
  rw [Half.closeFrame, Half.rd_wrNat_ne _ _ ha]
  rfl

theorem Half.discardFrame_rd (x : Half) (p : Nat) (f : TxFrame) {a : Nat} (ha : a ∉ counterRegs p .txLinkdownDrop)
    (hr : a < 0x30500 + 0x4000 * p ∨ f.ring.isNone = true) : (x.discardFrame p f).rd a = x.rd a := by
  rw [Half.discardFrame, Half.read_tally _ _ _ _ ha]
  split
  · next r first n e =>
    refine x.closeFrame_rd p r first n 2 ?_
    simp only [e, Option.isNone_some, Bool.false_eq_true, or_false] at hr
    rw [ringAdr_tx]
    omega
  · rfl

theorem Half.discardFrames_rd (x : Half) (p : Nat) {a : Nat} (ha : a ∉ counterRegs p .txLinkdownDrop)
    (hr : a < 0x30500 + 0x4000 * p ∨ (x.mac p).frames.all (fun f => f.ring.isNone) = true) : (x.discardFrames p).rd a = x.rd a := by
  have each : ∀ (fs : List TxFrame) (y : Half), (a < 0x30500 + 0x4000 * p ∨ fs.all (fun f => f.ring.isNone) = true) →
      (fs.foldl (fun (z : Half) f => z.discardFrame p f) y).rd a = y.rd a := by
    intro fs
    induction fs with
    | nil => exact fun _ _ => rfl
    | cons f fs ih =>
      intro y hf
      simp only [List.all_cons, Bool.and_eq_true] at hf
      exact (ih (y.discardFrame p f) (hf.imp_right And.right)).trans (y.discardFrame_rd p f ha (hf.imp_right And.left))
  rw [Half.discardFrames, Half.onMac_read, Half.read_tally _ _ _ _ ha]
  exact each _ x hr

theorem Half.discardFrames_counter (x : Half) (p : Nat) (hr : (x.mac p).frames.all (fun f => f.ring.isNone) = true) :
    (x.discardFrames p).counter p .txLinkdownDrop =
      (x.counter p .txLinkdownDrop + (x.mac p).frames.length + (x.mac p).fw2.length + (x.mac p).fw3.length) % 2 ^ 64 := by
  have each : ∀ (fs : List TxFrame) (y : Half), fs.all (fun f => f.ring.isNone) = true →
      (fs.foldl (fun (z : Half) f => z.discardFrame p f) y).counter p .txLinkdownDrop =
        (y.counter p .txLinkdownDrop + fs.length) % 2 ^ 64 := by
    intro fs
    induction fs with
    | nil => exact fun y _ => (Nat.mod_eq_of_lt (y.counter_lt p _)).symm
    | cons f fs ih =>
      intro y hf
      simp only [List.all_cons, Bool.and_eq_true, Option.isNone_iff_eq_none] at hf
      have one : (y.discardFrame p f).counter p .txLinkdownDrop = (y.counter p .txLinkdownDrop + 1) % 2 ^ 64 := by
        simp only [Half.discardFrame, hf.1, Half.counter_tally]
      rw [List.foldl_cons, ih _ hf.2, one, List.length_cons]
      omega
  rw [Half.discardFrames, Half.onMac_counter, Half.counter_tally, each _ x hr]
  omega

/-- The working state of a MAC that has discarded what it held for transmission. -/
theorem Half.discardFrames_mac (x : Half) (p : Nat) :
    ((x.discardFrames p).mac p).frames = [] ∧ ((x.discardFrames p).mac p).fw2 = [] ∧ ((x.discardFrames p).mac p).fw3 = [] :=
  Half.mac_onMac_holds (P := fun m => m.frames = [] ∧ m.fw2 = [] ∧ m.fw3 = []) ⟨rfl, rfl, rfl⟩ ⟨rfl, rfl, rfl⟩

/-- The registers of a link that goes down, apart from verification. -/
theorem Half.portLinkDown_only {x : Half} {p : Nat} (hp : x.portUp p = true) :
    ∃ y : Half, VerifyOnly p y (x.portLinkDown p) ∧ y.get (Adr.MAC_STATUS p) 0 3 = 0 ∧ y.get (Adr.MAC_STATUS p) 4 2 = 0 ∧
      y.bit (Adr.MAC_EVENT p) 0 = true ∧
      ((x.mac p).frames.all (fun f => f.ring.isNone) = true →
        y.counter p .txLinkdownDrop = (x.counter p .txLinkdownDrop + (x.mac p).frames.length + (x.mac p).fw2.length +
          (x.mac p).fw3.length) % 2 ^ 64 ∧
        SameRegs ([Adr.MAC_STATUS p, Adr.MAC_EVENT p] ++ counterRegs p .rxFcsErr ++ counterRegs p .txLinkdownDrop) x y) := by
  generalize hd : ((x.put (Adr.MAC_STATUS p) 0 3 0).event (Adr.MAC_EVENT p) 0).discardFrames p = d
  generalize hv : (if (x.mac p).assembly.isSome then d.tally p .rxFcsErr 1 else d) = v
  have cut : ∀ a, a ∉ counterRegs p .rxFcsErr → v.rd a = d.rd a := by
    intro a ha
    rw [← hv]
    split
    · exact d.read_tally p .rxFcsErr 1 ha
    · rfl
  have low : ∀ a, a ∉ counterRegs p .rxFcsErr → a ∉ counterRegs p .txLinkdownDrop → a < 0x30500 + 0x4000 * p →
      v.rd a = ((x.put (Adr.MAC_STATUS p) 0 3 0).event (Adr.MAC_EVENT p) 0).rd a :=
    fun a h1 h2 h3 => by rw [cut a h1, ← hd, Half.discardFrames_rd _ _ h2 (Or.inl h3)]
  have status := low (Adr.MAC_STATUS p) (by simp) (by simp) (by simp)
  have event := low (Adr.MAC_EVENT p) (by simp) (by simp) (by simp)
  refine ⟨((v.putBit (Adr.MAC_STATUS p) 4 false).putBit (Adr.MAC_STATUS p) 5 false).onMac p
    (fun m => { m with assembly := none, pause := none }), ?_, ?_, ?_, ?_, fun hr => ⟨?_, fun a ha => ?_⟩⟩
  · have down : x.portLinkDown p = (((v.putBit (Adr.MAC_STATUS p) 4 false).putBit (Adr.MAC_STATUS p) 5 false).onMac p
        (fun m => { m with assembly := none, pause := none })).setVerify p 0 := by
      rw [← hv, ← hd]
      simp only [Half.portLinkDown, hp, Bool.not_true, Bool.false_eq_true, if_false]
      cases (x.mac p).assembly <;> rfl
    rw [down]
    exact Half.setVerify_only _ p (by decide)
  · simp [status]
  · have two : getBits (setBits (setBits (v.rd (Adr.MAC_STATUS p)) 4 1 0) 5 1 0) 4 2 = 0 := by
      unfold getBits
      simp only [setBits_toNat _ 5 1 _ (by decide), setBits_toNat _ 4 1 _ (by decide)]
      omega
    simpa using two
  · simp [Half.bit_congr event 0]
  · have counted := Half.discardFrames_counter ((x.put (Adr.MAC_STATUS p) 0 3 0).event (Adr.MAC_EVENT p) 0) p hr
    rw [hd] at counted
    have same : v.counter p .txLinkdownDrop = d.counter p .txLinkdownDrop :=
      Half.counter_congr fun a ha => cut a fun hb => counterRegs_disjoint p (by decide) hb ha
    simpa [same] using counted
  · simp only [List.mem_append, List.mem_cons, List.not_mem_nil, or_false, not_or] at ha
    obtain ⟨⟨⟨h1, h2⟩, h3⟩, h4⟩ := ha
    simp only [Half.onMac_read, Half.read_putBit, h1, if_false, cut a h3]
    have discarded := Half.discardFrames_rd ((x.put (Adr.MAC_STATUS p) 0 3 0).event (Adr.MAC_EVENT p) 0) p h4 (Or.inr hr)
    rw [← hd, discarded, Half.rd_event_ne _ _ h2, Half.rd_put_ne _ _ _ _ h1]

/-- The working state of the MAC of a link that goes down. -/
theorem Half.portLinkDown_mac {x : Half} {p : Nat} (hp : x.portUp p = true) :
    ((x.portLinkDown p).mac p).assembly = none ∧ ((x.portLinkDown p).mac p).pause = none ∧ ((x.portLinkDown p).mac p).frames = [] ∧
      ((x.portLinkDown p).mac p).fw2 = [] ∧ ((x.portLinkDown p).mac p).fw3 = [] := by
  simp only [Half.portLinkDown, hp, Bool.not_true, Bool.false_eq_true, if_false]
  rw [Half.mac_setVerify _ _ _ _ (by decide)]
  refine Half.mac_onMac_holds (P := fun m => m.assembly = none ∧ m.pause = none ∧ m.frames = [] ∧ m.fw2 = [] ∧ m.fw3 = [])
    ⟨rfl, rfl, ?_⟩ ⟨rfl, rfl, rfl, rfl, rfl⟩
  have gone := Half.discardFrames_mac ((x.put (Adr.MAC_STATUS p) 0 3 0).event (Adr.MAC_EVENT p) 0) p
  generalize ((x.put (Adr.MAC_STATUS p) 0 3 0).event (Adr.MAC_EVENT p) 0).discardFrames p = d at gone
  simp only [Half.mac_putBit]
  split <;> exact gone

/-- Settles O16: a link that comes up or goes down writes its STATUS and EVENT, and verification follows. -/
theorem portLinkFollowsTheLine : Obligations.PortLinkFollowsTheLine := by
  intro h p s
  refine ⟨fun mode rate speed hm on down hc => ?_, fun mode rate full hm on down hc ha => ?_,
    fun rate full on down hc ha hs => ?_, fun up => ?_, fun on down => ?_, fun data go => ?_⟩
  · obtain ⟨t, ht, e, same⟩ := execPortLinkUp_supported hm on down hc
    exact ⟨t, ht, by rw [e]; exact Half.linkUpAt_shows _ p (linkSpeeds_lineSpeed hm).2.2.1, same⟩
  · obtain ⟨t, ht, e, same⟩ := execPortLinkUp_forced rate full hm on down hc ha
    exact ⟨t, ht, by rw [e]; exact Half.linkUpAt_shows _ p (by split <;> decide), same⟩
  · obtain ⟨t, ht, e, same⟩ := execPortLinkUp_refused on down hc ha hs
    exact ⟨t, ht, by rw [e]; exact ⟨Half.bit_latch_valid .., Half.get_latch_cause .., ((Writes.refl _ _).latch 2 (by simp)).onlyRegs⟩, same⟩
  · refine completesAt_on (f := fun x => x.portLinkDown p) rfl ?_
    obtain ⟨y, verify, low, idle, event, counted⟩ := Half.portLinkDown_only up
    obtain ⟨assembly, pause, frames, fw2, fw3⟩ := Half.portLinkDown_mac up
    have disabled : ((s.half h).portLinkDown p).get (Adr.MAC_STATUS p) 7 3 = 0 := by
      simp only [Half.portLinkDown, up, Bool.not_true, Bool.false_eq_true, if_false]
      exact (Half.setVerify_verified _ p 0 (by decide)).state
    refine ⟨(verify.low 0 3 (by omega)).trans low, (verify.low 4 2 (by omega)).trans idle, disabled, ?_, assembly, pause, frames, fw2,
      fw3, fun hr => ?_⟩
    · rwa [Half.bit, verify.event 0 1 (by omega)]
    · obtain ⟨count, same⟩ := counted hr
      refine ⟨(Half.counter_congr fun a ha => verify.regs a ?_ ?_).trans count, fun a ha => (verify.regs a ?_ ?_).trans (same a ha)⟩
      · rintro rfl
        simp at ha
      · rintro rfl
        simp at ha
      · exact fun e => ha (by simp [e])
      · exact fun e => ha (by simp [e])
  · refine completesAt_on (f := fun x => if x.macOn p && !x.portUp p then x.latch (Adr.MAC_FAULT p) 1 else x) rfl ?_
    simp only [on, down, Bool.not_false, Bool.and_self, if_true]
    exact ⟨Half.bit_latch_valid .., Half.get_latch_cause .., ((Writes.refl _ _).latch 1 (by simp)).onlyRegs⟩
  · refine completesAt_on rfl ?_
    obtain ⟨op, hop⟩ : ∃ op, (s.half h).get (Adr.MAC_MDIO_CMD p) 28 2 = op := ⟨_, rfl⟩
    have field : getBits ((s.half h).rd (Adr.MAC_MDIO_CMD p)) 28 2 = op := hop
    simp only [Half.bitAt_rd, field, hop, go, Bool.not_true, Bool.false_eq_true, if_false]
    refine ⟨?_, fun c22 read => ?_, fun c45 read => ?_, fun write => ?_, ?_⟩
    · have idle : ∀ r : Bool, (if r = true then ((s.half h).putBit (Adr.MAC_MDIO_CMD p) 31 false).wrNat (Adr.MAC_MDIO_DATA p)
          data.toNat else (s.half h).putBit (Adr.MAC_MDIO_CMD p) 31 false).bit (Adr.MAC_MDIO_CMD p) 31 = false := by
        intro r
        cases r <;> simp
      exact idle _
    · simp [c22, read]
    · simp [c45, read]
    · rw [if_neg (by split <;> simp <;> omega)]
      exact ((Writes.refl _ _).putBit 31 false (by simp)).onlyRegs
    · exact (Writes.ite (fun _ => ((Writes.refl _ _).putBit 31 false (by simp)).wrNat _ (by simp))
        fun _ => (Writes.refl _ _).putBit 31 false (by simp)).onlyRegs

/-! O20: transmission. -/

/-- A frame put on the wire of a MAC that sends nothing. -/
theorem Half.putOnWire_idle {x : Half} {p : Nat} (h : (x.mac p).current = none) (f : TxFrame) (ofs : Nat) :
    x.putOnWire p f ofs = x.onMac p fun m => { m with current := some (f.onWire (x.now ofs)) } := by
  simp only [Half.putOnWire, h]

/-- A frame put on the wire of a MAC that sends another, which it cuts. -/
theorem Half.putOnWire_cut {x : Half} {p : Nat} {c : TxFrame} (h : (x.mac p).current = some c) (f : TxFrame) (ofs : Nat) :
    x.putOnWire p f ofs = ((x.onMac p fun m => { m with
      current := some (f.onWire (x.now ofs)), cut := some { c with fragSent := c.fragSent + x.fragBytes p c ofs } }).tally p
        .txPreemptions 1).tally p .txFragments 1 := by
  simp only [Half.putOnWire, h]

/-- The frame that resumes is the one that was cut. -/
theorem Half.resumeCut_mac {x : Half} {p : Nat} (hp : p < x.macs.length) :
    ((x.resumeCut p).mac p).current.map TxFrame.frame = (x.mac p).cut.map TxFrame.frame ∧ ((x.resumeCut p).mac p).cut = none ∧
      ((x.resumeCut p).mac p).lastSent = (x.mac p).lastSent := by
  rw [Half.resumeCut, Half.mac_onMac _ _ hp]
  exact ⟨by rw [Option.map_map]; rfl, rfl, rfl⟩

@[simp] theorem Half.resumeCut_rd (x : Half) (p a : Nat) : (x.resumeCut p).rd a = x.rd a := rfl
@[simp] theorem Half.resumeCut_get (x : Half) (p a lo n : Nat) : (x.resumeCut p).get a lo n = x.get a lo n := rfl
@[simp] theorem Half.counter_resumeCut (x : Half) (p q : Nat) (c : MacCnt) : (x.resumeCut p).counter q c = x.counter q c := rfl

theorem Half.mac_in_of_current {x : Half} {p : Nat} {f : TxFrame} (h : (x.mac p).current = some f) : p < x.macs.length :=
  Half.mac_in fun e => by rw [e] at h; cases h

theorem Half.closeFrame_mac {x : Half} {p : Nat} (hp : p < x.macs.length) (r first n status : Nat) :
    ((x.closeFrame p r first n status).mac p).cut = (x.mac p).cut := by
  rw [Half.closeFrame, Half.mac_wrNat, Half.onRing, Half.mac_onMac _ _ hp]
  rfl

theorem Half.closeFrame_length (x : Half) (p r first n status : Nat) :
    (x.closeFrame p r first n status).macs.length = x.macs.length := by
  rw [Half.closeFrame, Half.wrNat_macs, Half.onRing, Half.length_onMac]

@[simp] theorem Half.closeFrame_counter (x : Half) (p r first n status : Nat) (c : MacCnt) :
    (x.closeFrame p r first n status).counter p c = x.counter p c :=
  Half.counter_congr fun _ ha => x.closeFrame_rd p r first n status fun e => ringAdr_notMem_counterRegs p r 0x14 true c (e ▸ ha)

theorem Half.ringSize_dvd (x : Half) (p : Nat) (tx : Bool) (r : Nat) : x.ringSize p tx r ∣ 2 ^ 12 :=
  Nat.pow_dvd_pow 2 (by unfold clampNat; omega)

/-- HEAD of a transmit ring after a frame of it is closed (R114). -/
theorem Half.closeFrame_head (x : Half) (p r first n status : Nat) :
    (x.closeFrame p r first n status).get (ringAdr p true r 0x14) 0 12 = (first + n) % x.ringSize p true r := by
  have size := Nat.le_of_dvd (by decide) (x.ringSize_dvd p true r)
  have pos : 0 < x.ringSize p true r := Nat.pos_of_dvd_of_pos (x.ringSize_dvd p true r) (by decide)
  have lt := Nat.mod_lt (first + n) pos
  simp only [Half.closeFrame, Half.get_wrNat, if_true, getBits_ofNat]
  omega

theorem execTxUnderrun_eq {h : HalfId} {p : PortId} {s : State} {f : TxFrame} {r first n : Nat} (poisoned : Bool) {P : Half → Prop}
    (hf : ((s.half h).mac p).current = some f) (hr : f.ring = some (r, first, n))
    (hP : ∀ y, y = (((((s.half h).closeFrame p r first n (if poisoned then 3 else 1)).resumeCut p).tally p .txUnderrun 1).event
        (Adr.MAC_EVENT p) 5) →
      P (if poisoned then y.latch (Adr.MAC_FAULT p) 7
        else y.put (Adr.MAC_TX_START_THRESH p) 0 4 (min 8 (clampNat 1 8 (y.get (Adr.MAC_TX_START_THRESH p) 0 4) + 1)))) :
    CompletesAt (.txUnderrun h p poisoned) h s P := by
  refine completesAt_on (f := fun x => x.txUnderrun p poisoned) rfl ?_
  simp only [Half.txUnderrun, hf, hr]
  exact hP _ rfl

/-- The start of a frame of the highest queue. -/
theorem Half.startFrame_txq7 {x : Half} {p ofs : Nat} {f : TxFrame} {rest : List TxFrame} (can : x.canStart p 7 ofs = true)
    (waits : (x.mac p).txq7 = f :: rest) :
    x.startFrame p .txq7 ofs = (x.onMac p fun m => { m with txq7 := rest }).putOnWire p f ofs := by
  simp only [Half.startFrame, waits, can, if_true]

theorem Half.mayCut_of_canStart {x : Half} {p queue ofs : Nat} {c : TxFrame} (can : x.canStart p queue ofs = true)
    (busy : (x.mac p).current = some c) :
    64 * (1 + x.get (Adr.MAC_CTRL p) 8 2) ≤ x.fragBytes p c ofs ∧ c.fragSent + x.fragBytes p c ofs + 64 ≤ c.bytes.length + 4 := by
  simp only [Half.canStart, busy, Half.mayCut, Bool.and_eq_true, decide_eq_true_eq] at can
  obtain ⟨-, ⟨-, enough⟩, remains⟩ := can
  exact ⟨enough, remains⟩

/-- The count of a broadcast or multicast frame, where it is one. -/
theorem Half.tally_cast (u : Half) (p : Nat) (b m : Prop) [Decidable b] [Decidable m] :
    ∃ v, (if b then u.tally p .txBcast 1 else if m then u.tally p .txMcast 1 else u) = v ∧ v.macs = u.macs ∧
      ∀ c, c ≠ .txBcast → c ≠ .txMcast → v.counter p c = u.counter p c := by
  refine ⟨_, rfl, ?_, fun c hb hm => ?_⟩
  · split
    · exact Half.macs_tally ..
    · split
      · exact Half.macs_tally ..
      · rfl
  · split
    · exact Half.counter_tally_ne _ _ _ hb
    · split
      · exact Half.counter_tally_ne _ _ _ hm
      · rfl

theorem txFrameStart_idle {h : HalfId} {p : PortId} {s : State} {ofs : BlockOfs} {f : TxFrame} {rest : List TxFrame}
    (can : (s.half h).canStart p 7 ofs = true) (waits : ((s.half h).mac p).txq7 = f :: rest)
    (idle : ((s.half h).mac p).current = none) :
    CompletesAt (.txFrameStart h p .txq7 ofs) h s fun x =>
      x.mac p = { (s.half h).mac p with txq7 := rest, current := some (f.onWire ((s.half h).now ofs)) } ∧
      x.regs = (s.half h).regs := by
  have inside : (p : Nat) < (s.half h).macs.length := Half.mac_in fun e => by rw [e] at waits; cases waits
  refine completesAt_on (f := fun x => x.startFrame p .txq7 ofs) rfl ?_
  rw [Half.startFrame_txq7 can waits, Half.putOnWire_idle (by rwa [Half.mac_onMac _ _ inside]), Half.mac_onMac _ _ (by simpa using inside),
    Half.mac_onMac _ _ inside]
  exact ⟨rfl, rfl⟩

theorem txFrameStart_cut {h : HalfId} {p : PortId} {s : State} {ofs : BlockOfs} {f c : TxFrame} {rest : List TxFrame}
    (can : (s.half h).canStart p 7 ofs = true) (waits : ((s.half h).mac p).txq7 = f :: rest)
    (busy : ((s.half h).mac p).current = some c) :
    CompletesAt (.txFrameStart h p .txq7 ofs) h s fun x =>
      (x.mac p).current = some (f.onWire ((s.half h).now ofs)) ∧
      (x.mac p).cut = some { c with fragSent := c.fragSent + (s.half h).fragBytes p c ofs } ∧
      x.counter p .txPreemptions = ((s.half h).counter p .txPreemptions + 1) % 2 ^ 64 ∧
      SameRegs (counterRegs p .txPreemptions ++ counterRegs p .txFragments) (s.half h) x := by
  have inside : (p : Nat) < (s.half h).macs.length := Half.mac_in_of_current busy
  refine completesAt_on (f := fun x => x.startFrame p .txq7 ofs) rfl ?_
  rw [Half.startFrame_txq7 can waits, Half.putOnWire_cut (c := c) (by rwa [Half.mac_onMac _ _ inside])]
  refine ⟨?_, ?_, ?_, fun a ha => ?_⟩
  · rw [Half.mac_tally, Half.mac_tally, Half.mac_onMac _ _ (by simpa using inside)]
    rfl
  · rw [Half.mac_tally, Half.mac_tally, Half.mac_onMac _ _ (by simpa using inside)]
    rfl
  · rw [Half.counter_tally_ne _ _ _ (by decide), Half.counter_tally]
    rfl
  · simp only [List.mem_append, not_or] at ha
    rw [Half.tally_rd _ _ _ _ ha.2, Half.tally_rd _ _ _ _ ha.1]
    rfl

theorem txUnderrun_steps {h : HalfId} {p : PortId} {s : State} {f : TxFrame} {r first n : Nat}
    (hf : ((s.half h).mac p).current = some f) (hr : f.ring = some (r, first, n)) :
    CompletesAt (.txUnderrun h p false) h s fun x =>
      (x.mac p).current.map TxFrame.frame = ((s.half h).mac p).cut.map TxFrame.frame ∧
      x.counter p .txUnderrun = ((s.half h).counter p .txUnderrun + 1) % 2 ^ 64 ∧ x.bit (Adr.MAC_EVENT p) 5 = true ∧
      x.get (Adr.MAC_TX_START_THRESH p) 0 4 = min 8 (clampNat 1 8 ((s.half h).get (Adr.MAC_TX_START_THRESH p) 0 4) + 1) ∧
      x.get (ringAdr p true r 0x14) 0 12 = (first + n) % (s.half h).ringSize p true r := by
  have inside := Half.mac_in_of_current hf
  refine execTxUnderrun_eq false hf hr fun y hy => ?_
  have length : (p : Nat) < ((s.half h).closeFrame p r first n 1).macs.length := by rwa [Half.closeFrame_length]
  obtain ⟨resumes, -, -⟩ := Half.resumeCut_mac length
  rw [Half.closeFrame_mac inside] at resumes
  have counted : y.counter p .txUnderrun = ((s.half h).counter p .txUnderrun + 1) % 2 ^ 64 := by
    rw [hy, Half.counter_event _ (by simp), Half.counter_tally, Half.counter_resumeCut, Half.closeFrame_counter]
  have ring : y.get (ringAdr p true r 0x14) 0 12 = (first + n) % (s.half h).ringSize p true r := by
    rw [hy, Half.get_event, if_neg (ringAdr_ne_low (by simp)), Half.get_tally _ _ _ _ (by simp), Half.resumeCut_get]
    exact (s.half h).closeFrame_head p r first n 1
  have steps : y.get (Adr.MAC_TX_START_THRESH p) 0 4 = (s.half h).get (Adr.MAC_TX_START_THRESH p) 0 4 := by
    rw [hy, Half.get_event, if_neg (by simp), Half.get_tally _ _ _ _ (by simp), Half.resumeCut_get]
    exact Half.get_congr ((s.half h).closeFrame_rd p r first n 1 (ringAdr_ne_low (by simp)).symm) 0 4
  have event : y.bit (Adr.MAC_EVENT p) 5 = true := by rw [hy]; simp
  have mac : y.mac p = (((s.half h).closeFrame p r first n 1).resumeCut p).mac p := by rw [hy]; rfl
  simp only [Bool.false_eq_true, if_false, Half.mac_put]
  refine ⟨by rw [mac, resumes], by rwa [Half.counter_put _ (by simp)], by simpa using event, ?_,
    by rwa [Half.get_put, if_neg (ringAdr_ne_low (by simp))]⟩
  rw [Half.get_put, if_pos rfl, getBits_setBits_same _ _ (by decide), steps]
  omega

theorem txUnderrun_poisoned {h : HalfId} {p : PortId} {s : State} {f : TxFrame} {r first n : Nat}
    (hf : ((s.half h).mac p).current = some f) (hr : f.ring = some (r, first, n)) :
    CompletesAt (.txUnderrun h p true) h s fun x =>
      (x.mac p).current.map TxFrame.frame = ((s.half h).mac p).cut.map TxFrame.frame ∧
      x.bit (Adr.MAC_FAULT p) 31 = true ∧ x.get (Adr.MAC_FAULT p) 0 16 = 7 := by
  have inside := Half.mac_in_of_current hf
  refine execTxUnderrun_eq true hf hr fun y hy => ?_
  have length : (p : Nat) < ((s.half h).closeFrame p r first n 3).macs.length := by rwa [Half.closeFrame_length]
  obtain ⟨resumes, -, -⟩ := Half.resumeCut_mac length
  rw [Half.closeFrame_mac inside] at resumes
  have mac : y.mac p = (((s.half h).closeFrame p r first n 3).resumeCut p).mac p := by rw [hy]; rfl
  simp only [if_true, Half.mac_latch]
  exact ⟨by rw [mac, resumes], Half.bit_latch_valid .., Half.get_latch_cause ..⟩

theorem txFrameComplete_counts {h : HalfId} {p : PortId} {s : State} {f : TxFrame} (hf : ((s.half h).mac p).current = some f)
    (tag : f.tsTag = none) (ring : f.ring = none) :
    CompletesAt (.txFrameComplete h p) h s fun x =>
      (x.mac p).current.map TxFrame.frame = ((s.half h).mac p).cut.map TxFrame.frame ∧
      (x.mac p).cut = none ∧ (x.mac p).lastSent = f.bytes ++ fcsBytes f.bytes ∧
      x.counter p .txFrames = ((s.half h).counter p .txFrames + 1) % 2 ^ 64 ∧
      x.counter p .txOctets = ((s.half h).counter p .txOctets + f.bytes.length + 4) % 2 ^ 64 := by
  have inside := Half.mac_in_of_current hf
  refine completesAt_on rfl ?_
  simp only [hf, tag, ring]
  generalize hu : (((s.half h).tally p .txOctets (f.bytes.length + 4)).tally p .txFrames 1) = u
  obtain ⟨v, hv, macs, counters⟩ := u.tally_cast p (f.bytes.take 6 = broadcastMac) (byteAt f.bytes 0 % 2 = 1)
  rw [hv]
  have macs' : v.macs = (s.half h).macs := by rw [macs, ← hu, Half.macs_tally, Half.macs_tally]
  have cut : (v.mac p).cut = ((s.half h).mac p).cut := by simp only [Half.mac, macs']
  obtain ⟨current, none, last⟩ := Half.resumeCut_mac (x := v.onMac p fun m => { m with lastSent := f.bytes ++ fcsBytes f.bytes })
    (p := p) (by rwa [Half.length_onMac, macs'])
  rw [Half.mac_onMac _ _ (by rwa [macs'])] at current last
  refine ⟨current.trans (congrArg _ cut), none, last, ?_, ?_⟩
  · rw [Half.counter_resumeCut, Half.onMac_counter, counters _ (by decide) (by decide), ← hu, Half.counter_tally,
      Half.counter_tally_ne _ _ _ (by decide)]
  · rw [Half.counter_resumeCut, Half.onMac_counter, counters _ (by decide) (by decide), ← hu,
      Half.counter_tally_ne _ _ _ (by decide), Half.counter_tally, Nat.add_assoc]

theorem txLateDrop_counts {h : HalfId} {p : PortId} {s : State} {f : TxFrame} {n q : Nat} {rest : List TxFrame}
    (waits : ((s.half h).mac p).txq6 = f :: rest) (slot : f.slot = some (n, q)) (hn : n < 1024) :
    CompletesAt (.txLateDrop h p) h s fun x => (x.mac p).txq6 = rest ∧
      x.counter p .txLateDrop = ((s.half h).counter p .txLateDrop + 1) % 2 ^ 64 ∧ x.bit (Adr.FTX_EVENT n) 1 = true ∧
      SameRegs (counterRegs p .txLateDrop ++ [Adr.FTX_EVENT n, Adr.TX_STAT (2 * n + 1)]) (s.half h) x := by
  have inside : (p : Nat) < (s.half h).macs.length := Half.mac_in fun e => by rw [e] at waits; cases waits
  refine completesAt_on rfl ?_
  simp only [waits, slot, Half.flowDropped]
  have flows : ∀ a, 0x50000 ≤ a → a ∉ counterRegs p .txLateDrop := fun a ha => notMem_counterRegs_of_le (by omega)
  refine ⟨?_, ?_, ?_, fun a ha => ?_⟩
  · rw [Half.mac_wrap, Half.mac_event, Half.mac_tally, Half.mac_onMac _ _ inside]
  · rw [Half.counter_wrap _ (flows _ (by simp only [Adr.TX_STAT]; omega)), Half.counter_event _ (flows _ (by simp only [Adr.FTX_EVENT]; omega)),
      Half.counter_tally]
    rfl
  · rw [Half.bit_wrap, if_neg (by simp only [Adr.TX_STAT, Adr.FTX_EVENT]; omega)]
    simp
  · simp only [List.mem_append, List.mem_cons, List.not_mem_nil, or_false, not_or] at ha
    rw [Half.rd_wrap_ne _ _ _ _ ha.2.2, Half.rd_event_ne _ _ ha.2.1, Half.tally_rd _ _ _ _ ha.1]
    rfl

/-- Settles O20: the working state of the MAC takes the frame from where it waits, and the counters follow. -/
theorem transmissionCounts : Obligations.TransmissionCounts := by
  intro h p s
  refine ⟨fun ofs f rest can waits idle => txFrameStart_idle can waits idle, fun ofs f rest c can waits busy => ?_,
    fun f r first n hf hr _ => txUnderrun_steps hf hr, fun f r first n hf hr _ => txUnderrun_poisoned hf hr,
    fun f hf tag ring => txFrameComplete_counts hf tag ring, fun f n q rest waits slot hn => txLateDrop_counts waits slot hn⟩
  obtain ⟨t, ht, ⟨current, cut, count, same⟩, rest⟩ := txFrameStart_cut can waits busy
  obtain ⟨enough, remains⟩ := Half.mayCut_of_canStart can busy
  exact ⟨t, ht, ⟨current, cut, enough, remains, count, same⟩, rest⟩

/-! O21: verification, pause and low-power idle. -/

/-- A pause in effect that ends is counted in full (R106). -/
theorem Half.closePause_end {x : Half} {p start len : Nat} (h : (x.mac p).pause = some (start, len)) :
    x.closePause p (start + len) =
      ((x.tally p .pausedNs len).onMac p fun m => { m with pause := none }).putBit (Adr.MAC_STATUS p) 4 false := by
  simp only [Half.closePause, h, Nat.add_sub_cancel_left, Nat.min_self]

theorem Half.closePause_none {x : Half} {p : Nat} (h : (x.mac p).pause = none) (t : Nat) : x.closePause p t = x := by
  simp only [Half.closePause, h]

/-- A pause frame while no pause runs. -/
theorem Half.takePause_first {x : Half} {p : Nat} (en : x.bit (Adr.MAC_CTRL p) 4 = true) (h : (x.mac p).pause = none) (quanta ofs : Nat) :
    x.takePause p quanta ofs =
      if quanta = 0 then x.tally p .rxPause 1
      else ((x.tally p .rxPause 1).onMac p fun m =>
        { m with pause := some (x.now ofs, quanta * 512 * x.bitTenths p / 10) }).putBit (Adr.MAC_STATUS p) 4 true := by
  have tenths : (x.tally p .rxPause 1).bitTenths p = x.bitTenths p := by
    unfold Half.bitTenths
    rw [Half.get_tally _ _ _ _ (by simp)]
  have now : (x.tally p .rxPause 1).now ofs = x.now ofs := rfl
  unfold Half.takePause
  simp only [Half.bit_tally _ _ _ _ (show Adr.MAC_CTRL p ∉ counterRegs p .rxPause by simp), en, Bool.not_true, Bool.false_eq_true, if_false,
    Half.closePause_none (x := x.tally p .rxPause 1) h, tenths, now]

theorem pauseFrame_first {h : HalfId} {p : PortId} {s : State} (quanta : BitVec 16) (ofs : BlockOfs) (on : (s.half h).macOn p = true)
    (up : (s.half h).portUp p = true) (en : (s.half h).bit (Adr.MAC_CTRL p) 4 = true) (idle : ((s.half h).mac p).pause = none)
    (two : (s.half h).macs.length = 2) :
    CompletesAt (.pauseFrame h p quanta ofs) h s fun x =>
      x.counter p .rxPause = ((s.half h).counter p .rxPause + 1) % 2 ^ 64 ∧
      (quanta ≠ 0 → x.bit (Adr.MAC_STATUS p) 4 = true ∧ (x.mac p).pause =
        some ((s.half h).now ofs, quanta.toNat * 512 * (s.half h).bitTenths p / 10)) ∧
      (quanta = 0 → x.bit (Adr.MAC_STATUS p) 4 = (s.half h).bit (Adr.MAC_STATUS p) 4 ∧ (x.mac p).pause = none) ∧
      SameRegs (Adr.MAC_STATUS p :: counterRegs p .rxPause) (s.half h) x := by
  refine completesAt_on (f := fun x => if x.macOn p && x.portUp p then x.takePause p quanta.toNat ofs else x) rfl ?_
  simp only [on, up, Bool.and_self, if_true, Half.takePause_first en idle]
  have inside : (p : Nat) < ((s.half h).tally p .rxPause 1).macs.length := by
    rw [Half.macs_tally, two]
    exact p.isLt
  by_cases hq : quanta = 0
  · have zero : quanta.toNat = 0 := by simp [hq]
    simp only [zero, if_true]
    refine ⟨Half.counter_tally .., fun e => absurd hq e, fun _ => ⟨Half.bit_tally _ _ _ _ (by simp) _, ?_⟩, fun a ha => ?_⟩
    · rw [Half.mac_tally, idle]
    · exact Half.tally_rd _ _ _ _ (List.not_mem_of_not_mem_cons ha)
  · have some : quanta.toNat ≠ 0 := fun e => hq (BitVec.eq_of_toNat_eq (by simpa using e))
    simp only [some, if_false]
    refine ⟨?_, fun _ => ⟨by simp, ?_⟩, fun e => absurd e hq, fun a ha => ?_⟩
    · rw [Half.counter_putBit _ (by simp), Half.onMac_counter, Half.counter_tally]
    · rw [Half.mac_putBit, Half.mac_onMac _ _ inside]
    · simp only [List.mem_cons, not_or] at ha
      rw [Half.rd_putBit_ne _ _ _ ha.1, Half.onMac_read, Half.tally_rd _ _ _ _ ha.2]

theorem pauseExpiry_ends {h : HalfId} {p : PortId} {s : State} {start len : Nat} (hp : ((s.half h).mac p).pause = some (start, len)) :
    CompletesAt (.pauseExpiry h p) h s fun x => x.bit (Adr.MAC_STATUS p) 4 = false ∧ (x.mac p).pause = none ∧
      x.counter p .pausedNs = ((s.half h).counter p .pausedNs + len) % 2 ^ 64 ∧
      SameRegs (Adr.MAC_STATUS p :: counterRegs p .pausedNs) (s.half h) x := by
  have inside : (p : Nat) < ((s.half h).tally p .pausedNs len).macs.length := by
    rw [Half.macs_tally]
    exact Half.mac_in fun e => by rw [e] at hp; cases hp
  refine completesAt_on rfl ?_
  simp only [hp, Half.closePause_end hp]
  refine ⟨by simp, ?_, ?_, fun a ha => ?_⟩
  · rw [Half.mac_putBit, Half.mac_onMac _ _ inside]
  · rw [Half.counter_putBit _ (by simp), Half.onMac_counter, Half.counter_tally]
  · simp only [List.mem_cons, not_or] at ha
    rw [Half.rd_putBit_ne _ _ _ ha.1, Half.onMac_read, Half.tally_rd _ _ _ _ ha.2]

theorem Half.leaveLpi_rd (x : Half) (p ofs : Nat) {a : Nat} (h1 : a ≠ Adr.MAC_STATUS p) (h2 : a ∉ counterRegs p .lpiNs) :
    (x.leaveLpi p ofs).rd a = x.rd a := by
  unfold Half.leaveLpi
  split
  · rfl
  · rw [Half.tally_rd _ _ _ _ h2, Half.rd_putBit_ne _ _ _ h1]

/-- Settles O21: each command writes STATUS, its counter and what its rule names. -/
theorem portStatesFollowTheirTimers : Obligations.PortStatesFollowTheirTimers := by
  intro h p s
  refine ⟨fun hv => ?_, fun hv tries => ?_, fun hv tries => ?_,
    fun quanta ofs on up en idle two => pauseFrame_first quanta ofs on up en idle two, fun start len hp => pauseExpiry_ends hp,
    fun hp hi => ?_, fun hp hi => ?_, fun ofs on up idle allowed awake two => ?_, fun ofs asleep => ?_, fun addFrag tw on up => ?_⟩
  · refine completesAt_on rfl ?_
    simp only [hv, if_true]
    obtain ⟨same, regs, low, event, state, active, raised⟩ := (s.half h).setVerify_verified p 3 (by decide)
    exact ⟨state, raised (by rw [hv]; decide), by simpa using active, same, fun a ha => regs a (ne_of_notMem ha (by simp)) (ne_of_notMem ha (by simp))⟩
  · refine completesAt_on rfl ?_
    simp only [hv, if_true, ge_iff_le, tries]
    obtain ⟨same, regs, low, event, state, active, raised⟩ := (s.half h).setVerify_verified p 4 (by decide)
    have only : OnlyRegs [Adr.MAC_STATUS p, Adr.MAC_EVENT p, Adr.MAC_FAULT p] (s.half h) ((s.half h).setVerify p 4) :=
      ⟨same, fun a ha => regs a (ne_of_notMem ha (by simp)) (ne_of_notMem ha (by simp))⟩
    exact ⟨(Half.get_latch_ne _ _ _ _ _ _ (by simp)).trans state, Half.get_latch_cause .., Half.bit_latch_valid ..,
      (Half.bit_latch_ne _ _ _ _ _ (by simp)).trans (raised (by rw [hv]; decide)), (only.writes.latch 4 (by simp)).onlyRegs⟩
  · refine completesAt_on rfl ?_
    simp only [hv, if_true, ge_iff_le, Nat.not_le.mpr tries, if_false]
    rfl
  · refine completesAt_on rfl ?_
    simp only [hp, hi, Bool.not_false, Bool.and_self, if_true]
    refine ⟨?_, ?_, Half.get_latch_cause .., (((((Writes.refl _ _).putBit 3 true (by simp)).event 1 (by simp)).latch 3 (by simp)).onlyRegs)⟩
    · rw [Half.bit_latch_ne _ _ _ _ _ (by simp)]
      simp
    · rw [Half.bit_latch_ne _ _ _ _ _ (by simp)]
      simp
  · refine completesAt_on rfl ?_
    simp only [hp, hi, Option.isNone_none, Bool.and_self, if_true]
    exact ⟨by simp, by simp, ((((Writes.refl _ _).putBit 3 false (by simp)).event 1 (by simp)).onlyRegs)⟩
  · have inside : (p : Nat) < (((s.half h).putBit (Adr.MAC_STATUS p) 5 true).tally p .lpiEntries 1).macs.length := by
      rw [Half.macs_tally, Half.putBit_macs, two]
      exact p.isLt
    refine completesAt_on rfl ?_
    simp only [on, up, idle, allowed, awake, Bool.not_false, Bool.and_self, if_true]
    refine ⟨by simp, ?_, by rw [Half.mac_onMac _ _ inside], fun a ha => ?_⟩
    · rw [Half.onMac_counter, Half.counter_tally, Half.counter_putBit _ (by simp)]
    · simp only [List.mem_cons, not_or] at ha
      rw [Half.onMac_read, Half.tally_rd _ _ _ _ ha.2, Half.rd_putBit_ne _ _ _ ha.1]
  · refine completesAt_on (f := fun x => x.leaveLpi p ofs) rfl ?_
    simp only [Half.leaveLpi, asleep, Bool.not_true, Bool.false_eq_true, if_false]
    refine ⟨by simp, ?_, ?_⟩
    · rw [Half.counter_tally, Half.counter_putBit _ (by simp)]
    · exact (((Writes.refl _ (s.half h)).putBit 5 false (by simp)).trans
        ((Half.tally_onlyRegs _ p .lpiNs _).mono (List.subset_cons_self _ _)).writes).onlyRegs
  · refine completesAt_on rfl ?_
    simp only [on, up, Bool.and_self, if_true, Half.writeEeeTw]
    have kept : ∀ (y : Half) (c : Bool) (a : Nat), a ≠ Adr.MAC_STATUS p → a ∉ counterRegs p .lpiNs →
        (if c = true then y else y.leaveLpi p 0).rd a = y.rd a := by
      intro y c a h1 h2
      split
      · rfl
      · exact y.leaveLpi_rd p 0 h1 h2
    refine ⟨?_, ?_, fun a ha => ?_⟩
    · rw [Half.get_congr (kept _ _ _ (by simp) (by simp))]
      simp
    · rw [kept _ _ _ (by simp) (by simp)]
      have word : BitVec.ofNat 32 (tw.toNat % 0x10000) = tw.setWidth 32 :=
        BitVec.eq_of_toNat_eq (by simp only [BitVec.toNat_ofNat, BitVec.toNat_setWidth]; omega)
      simpa using word
    · simp only [List.mem_append, List.mem_cons, List.not_mem_nil, or_false, not_or] at ha
      obtain ⟨⟨h1, h2, h3⟩, h4⟩ := ha
      rw [kept _ _ _ h3 h4]
      simp [h1, h2]

end Sys2Proof.Machine
end

section
/-! O23 to O25: flow slots (R141 to R161) and what the management firmware does for the flows (R154 to R158). -/

namespace Sys2Proof.Machine

open Sys2Proof

/-! The registers that are listed. -/

theorem keys_storeAt {α : Type} [DecidableEq α] {d : Nat → α} {k : Nat} {v : α} {m : List (Nat × α)} {e : Nat × α}
    (he : e ∈ storeAt d m k v) : e.1 = k ∨ e ∈ m := by
  unfold storeAt at he
  split at he
  · exact Or.inr (mem_eraseAt he)
  · exact (mem_insertAt he).imp (congrArg Prod.fst) id

/-- A list of the pairs whose index is apart from the one that is written. -/
theorem filter_storeAt {α : Type} [DecidableEq α] (d : Nat → α) {k : Nat} (v : α) (m : List (Nat × α)) {p : Nat × α → Bool}
    (hp : ∀ w, p (k, w) = false) : (storeAt d m k v).filter p = m.filter p := by
  have erased : ∀ l : List (Nat × α), (eraseAt k l).filter p = l.filter p := by
    intro l
    induction l with
    | nil => rfl
    | cons e l ih =>
      obtain ⟨j, w⟩ := e
      by_cases hj : k = j
      · subst hj
        simp [eraseAt, hp, ih]
      · simp [eraseAt, hj, List.filter_cons, ih]
  have inserted : ∀ l : List (Nat × α), (insertAt k v l).filter p = l.filter p := by
    intro l
    induction l with
    | nil => simp [insertAt, hp]
    | cons e l ih =>
      obtain ⟨j, w⟩ := e
      unfold insertAt
      split
      · rw [List.filter_cons, hp, if_neg Bool.false_ne_true]
      · split
        · next hj =>
          subst hj
          simp [hp]
        · simp [List.filter_cons, ih]
  unfold storeAt
  split
  · exact erased m
  · exact inserted m

theorem Half.txSlots_wr (x : Half) {a : Nat} (v : Word) (ha : offTxSlots a) : (x.wr a v).txSlots = x.txSlots := by
  unfold Half.txSlots Half.wr
  dsimp only
  rw [filter_storeAt]
  intro w
  obtain h | h := ha <;> simp <;> omega

theorem Half.mem_rxSlots_wr {x : Half} {a m : Nat} {v : Word} (hm : m ∈ (x.wr a v).rxSlots) :
    (0x40000 ≤ a ∧ a < 0x50000 ∧ (a - 0x40000) / 0x40 = m) ∨ m ∈ x.rxSlots := by
  simp only [Half.rxSlots, List.mem_dedup, List.mem_map, List.mem_filter, decide_eq_true_eq] at hm ⊢
  obtain ⟨e, ⟨he, lo, hi⟩, rfl⟩ := hm
  obtain h | h := keys_storeAt he
  · exact Or.inl ⟨h ▸ lo, h ▸ hi, by rw [h]⟩
  · exact Or.inr ⟨e, ⟨h, lo, hi⟩, rfl⟩

/-! O23: receive and transmit slots. -/

theorem Half.rxs_onRx_same (x : Half) (n : Nat) (f : RxSlot → RxSlot) : (x.onRx n f).rxs_ n = f (x.rxs_ n) := by
  unfold Half.onRx Half.rxs_
  exact lookAt_storeAt_self ..

theorem Half.rxs_onRx_ne (x : Half) {n m : Nat} (f : RxSlot → RxSlot) (h : m ≠ n) : (x.onRx n f).rxs_ m = x.rxs_ m := by
  unfold Half.onRx Half.rxs_
  exact lookAt_storeAt_ne _ _ _ h

@[simp] theorem Half.rxs_wr (x : Half) (a : Nat) (v : Word) (n : Nat) : (x.wr a v).rxs_ n = x.rxs_ n := rfl
@[simp] theorem Half.onRx_get (x : Half) (n : Nat) (f : RxSlot → RxSlot) (a lo k : Nat) : (x.onRx n f).get a lo k = x.get a lo k := rfl

/-- The registers of receive slot n that its start writes. -/
def rxStartRegs (n : Nat) : List Nat :=
  [Adr.FRX_STATUS n, Adr.FRX_EVENT n, Adr.RX_STAT (4 * n), Adr.RX_STAT (4 * n + 1), Adr.RX_STAT (4 * n + 2), Adr.RX_STAT (4 * n + 3)]

/-- y is x but for what the start of receive slot n changes. -/
structure OnlySlot (n : Nat) (x y : Half) : Prop where
  regs : SameRegs (rxStartRegs n) x y
  slots : ∀ m ∈ y.rxSlots, m = n ∨ m ∈ x.rxSlots
  state : ∀ m, m ≠ n → y.rxs_ m = x.rxs_ m

namespace OnlySlot
variable {n : Nat} {x y z : Half}

theorem refl (n : Nat) (x : Half) : OnlySlot n x x := ⟨.refl _ _, fun _ => Or.inr, fun _ _ => rfl⟩

theorem wr (h : OnlySlot n x y) {a : Nat} (v : Word) (ha : a ∈ rxStartRegs n) (hn : n < 1024) : OnlySlot n x (y.wr a v) := by
  refine ⟨fun b hb => (Half.rd_wr_ne y v fun e : b = a => hb (e ▸ ha)).trans (h.regs b hb), fun m hm => ?_, h.state⟩
  obtain ⟨-, hi, rfl⟩ | hm := Half.mem_rxSlots_wr hm
  · simp only [rxStartRegs, List.mem_cons, List.not_mem_nil, or_false, Adr.FRX_STATUS, Adr.FRX_EVENT, Adr.RX_STAT] at ha
    left
    omega
  · exact h.slots m hm

theorem onRx (h : OnlySlot n x y) (f : RxSlot → RxSlot) : OnlySlot n x (y.onRx n f) :=
  ⟨h.regs, h.slots, fun m hm => (y.rxs_onRx_ne f hm).trans (h.state m hm)⟩

end OnlySlot

theorem Half.rxSlots_lt {x : Half} {m : Nat} (hm : m ∈ x.rxSlots) : m < 1024 := by
  simp only [Half.rxSlots, List.mem_dedup, List.mem_map, List.mem_filter, decide_eq_true_eq] at hm
  obtain ⟨e, ⟨-, lo, hi⟩, rfl⟩ := hm
  omega

/-- Another slot runs under the configuration it ran under. -/
theorem OnlySlot.rxCfg {n m : Nat} {x y : Half} (h : OnlySlot n x y) (hn : n < 1024) (hm : m ≠ n) (hb : m < 1024) : y.rxCfg m = x.rxCfg m := by
  have page : ∀ o, 0 ≤ o → o < 0x40 → o ≠ 8 → o ≠ 0xC → y.rd (0x40000 + o + 0x40 * m) = x.rd (0x40000 + o + 0x40 * m) := by
    intro o _ ho h1 h2
    refine h.regs _ ?_
    simp only [rxStartRegs, List.mem_cons, List.not_mem_nil, or_false, Adr.FRX_STATUS, Adr.FRX_EVENT, Adr.RX_STAT]
    omega
  have map : ∀ i ∈ List.range 64, y.rd (Adr.RX_MAP (64 * m + i)) = x.rd (Adr.RX_MAP (64 * m + i)) := by
    intro i hi
    have := List.mem_range.mp hi
    refine h.regs _ ?_
    simp only [rxStartRegs, List.mem_cons, List.not_mem_nil, or_false, Adr.FRX_STATUS, Adr.FRX_EVENT, Adr.RX_STAT, Adr.RX_MAP]
    omega
  have committed : y.rxCommitted m = x.rxCommitted m := by
    unfold Half.rxCommitted
    rw [List.map_congr_left map]
    congr 1
    · exact page 0x4 (by omega) (by omega) (by omega) (by omega)
    · exact page 0x20 (by omega) (by omega) (by omega) (by omega)
    · exact page 0x24 (by omega) (by omega) (by omega) (by omega)
    · exact page 0x28 (by omega) (by omega) (by omega) (by omega)
    · exact page 0x2C (by omega) (by omega) (by omega) (by omega)
    · exact page 0x30 (by omega) (by omega) (by omega) (by omega)
  unfold Half.rxCfg
  rw [h.state m hm, committed]

/-- A slot without secondaries has none after its start. -/
theorem OnlySlot.rxMembers {n : Nat} {x y : Half} (h : OnlySlot n x y) (hn : n < 1024) (hx : x.rxMembers n = [n]) : y.rxMembers n = [n] := by
  simp only [Half.rxMembers, List.cons.injEq, true_and, List.filter_eq_nil_iff] at hx ⊢
  intro m hm
  by_cases e : m = n
  · simp [e]
  · rw [h.rxCfg hn e (Half.rxSlots_lt hm)]
    exact hx m ((h.slots m hm).resolve_left e)

/-- A slot, enabled and no secondary, as its start leaves it before its STATE is shown. -/
structure Started (n : Nat) (x y : Half) : Prop where
  only : OnlySlot n x y
  state : y.rxState n = x.rxState n
  slot : (y.rxs_ n).changing = none ∧ (y.rxs_ n).buf = [] ∧ (y.rxs_ n).next = x.mediaIdx
  stat : ∀ w, w < 4 → y.rd (Adr.RX_STAT (4 * n + w)) = 0

theorem Half.rxStart_started {x : Half} {n : Nat} (hn : n < 1024) (en : (x.rxCommitted n).en = true)
    (paired : (x.rxCommitted n).paired = false) : ∃ y, Started n x y ∧ x.rxStart n = y.rxSetState n 1 := by
  have status : Adr.FRX_STATUS n ∈ rxStartRegs n := by simp [rxStartRegs]
  have event : Adr.FRX_EVENT n ∈ rxStartRegs n := by simp [rxStartRegs]
  generalize hz : (if x.bit (Adr.FRX_STATUS n) 4 then (x.putBit (Adr.FRX_STATUS n) 4 false).event (Adr.FRX_EVENT n) 1 else x) = z
  have only : OnlySlot n x z := by
    rw [← hz]
    split
    · exact ((OnlySlot.refl n x).wr _ status hn).wr _ event hn
    · exact .refl n x
  have shown : z.rxState n = x.rxState n := by
    rw [← hz]
    split <;> simp [Half.rxState]
  have start := fun (slot : RxSlot) => ((((only.wr (setBits (z.rd (Adr.FRX_STATUS n)) 5 1 (ofBool false)) status hn).onRx fun _ => slot).wr
    (BitVec.ofNat 32 0) (a := Adr.RX_STAT (4 * n + 0)) (by simp [rxStartRegs]) hn).wr
    (BitVec.ofNat 32 0) (a := Adr.RX_STAT (4 * n + 1)) (by simp [rxStartRegs]) hn).wr
    (BitVec.ofNat 32 0) (a := Adr.RX_STAT (4 * n + 2)) (by simp [rxStartRegs]) hn |>.wr
    (BitVec.ofNat 32 0) (a := Adr.RX_STAT (4 * n + 3)) (by simp [rxStartRegs]) hn
  refine ⟨_, ⟨start { RxSlot.init with
    credit := policeCost (x.rxCommitted n).ptime * max 1 (getBits (x.rxCommitted n).ctrl 8 4), creditAt := x.now 0, next := x.mediaIdx },
    ?_, ?_, ?_⟩, ?_⟩
  · have apart : ∀ w, Adr.FRX_STATUS n ≠ Adr.RX_STAT (4 * n + w) := by
      intro w
      simp only [Adr.FRX_STATUS, Adr.RX_STAT]
      omega
    rw [← shown, Half.rxState, Half.get_wr, if_neg (apart 3), Half.get_wr, if_neg (apart 2), Half.get_wr, if_neg (apart 1), Half.get_wr,
      if_neg (apart 0), Half.onRx_get, Half.get_wr, if_pos rfl, getBits_setBits_apart _ _ (by decide) (by decide)]
    rfl
  · simp [Half.rxs_onRx_same, RxSlot.init]
  · intro w hw
    have apart : ∀ i j, Adr.RX_STAT (4 * n + i) = Adr.RX_STAT (4 * n + j) ↔ i = j := by
      intro i j
      simp only [Adr.RX_STAT]
      omega
    simp only [Half.read_wr, apart]
    interval_cases w <;> rfl
  · simp only [Half.rxStart, en, paired, if_true, hz, Bool.not_true, Bool.false_eq_true, if_false]
    rfl

theorem Half.rxShow_changes {x : Half} {n v : Nat} (h : x.rxState n ≠ v) (hv : v < 8) :
    (x.rxShow n v).rxState n = v ∧ (x.rxShow n v).bit (Adr.FRX_EVENT n) 0 = true ∧
      (∀ m, (x.rxShow n v).rxs_ m = x.rxs_ m) ∧ SameRegs [Adr.FRX_STATUS n, Adr.FRX_EVENT n] x (x.rxShow n v) := by
  have h' : ¬ x.get (Adr.FRX_STATUS n) 0 3 = v := h
  unfold Half.rxShow
  rw [if_neg h']
  refine ⟨?_, by simp, fun _ => rfl, fun a ha => ?_⟩
  · simp [Half.rxState]
    omega
  · simp only [List.mem_cons, List.not_mem_nil, or_false, not_or] at ha
    simp [ha]

theorem changingEnd_starts {h : HalfId} {n : SlotId} {s : State} (hs : (s.half h).rxState n = 4) (leave : ((s.half h).rxs_ n).leave = 0)
    (changing : ((s.half h).rxs_ n).changing.isSome = true) (alone : (s.half h).rxMembers n = [n.val])
    (en : ((s.half h).rxCommitted n).en = true) (paired : ((s.half h).rxCommitted n).paired = false)
    (primary : ((s.half h).rxCfg n).paired = false) :
    CompletesAt (.changingEnd h n) h s fun x => x.rxState n = 1 ∧ x.bit (Adr.FRX_EVENT n) 0 = true ∧
      (x.rxs_ n).changing = none ∧ (x.rxs_ n).buf = [] ∧ (x.rxs_ n).next = (s.half h).mediaIdx ∧
      (∀ w, w < 4 → x.rd (Adr.RX_STAT (4 * n + w)) = 0) ∧ SameRegs (rxStartRegs n) (s.half h) x := by
  refine completesAt_on rfl ?_
  simp only [hs, leave, changing, primary, alone, Bool.not_false, and_self, if_true, List.drop_one, List.tail_cons, List.foldl_nil]
  obtain ⟨y, ⟨only, state, ⟨changed, buf, next⟩, stat⟩, start⟩ := Half.rxStart_started n.isLt en paired
  have shows : y.rxSetState n 1 = y.rxShow n 1 := by
    rw [Half.rxSetState, only.rxMembers n.isLt alone]
    rfl
  obtain ⟨one, event, slots, same⟩ := Half.rxShow_changes (x := y) (n := n) (v := 1) (by rw [state, hs]; decide) (by decide)
  rw [start, shows, slots]
  refine ⟨one, event, changed, buf, next, fun w hw => (same _ ?_).trans (stat w hw), (only.regs).trans fun a ha => same a fun hm => ha ?_⟩
  · have := n.isLt
    simp only [List.mem_cons, List.not_mem_nil, or_false, Adr.RX_STAT, Adr.FRX_STATUS, Adr.FRX_EVENT]
    omega
  · simp only [List.mem_cons, List.not_mem_nil, or_false, rxStartRegs] at hm ⊢
    tauto

/-- What PACKET_LAUNCH does with the packet of a RUNNING slot whose instant has come. -/
theorem packetLaunch_due {h : HalfId} {n : SlotId} {ofs : BlockOfs} {s : State} {c : TxCfg} {m0 : Nat} {p : PortId}
    (hc : (s.half h).txCfgAt n ((s.half h).mediaAt ofs) = some (c, m0)) (paired : bitAt c.timing 31 = false)
    (port : getBits c.timing 12 1 = p) (running : (s.half h).get (Adr.FTX_STATUS n) 0 3 = 1) (up : (s.half h).up .flow = true)
    (live : (s.half h).live = true)
    (due : (m0 + packetSamples (s.half h).rate96 (getBits c.format 8 3)) * 125000 / (s.half h).blockLen +
      500 * (s.half h).get (Adr.FTX_STATUS n) 16 12 ≤ (s.half h).mediaIdx * 125000 / (s.half h).blockLen + ofs) {P : Half → Prop}
    (hP : ∀ (seq : Nat) (x1 : Half), (∃ f, x1 = (s.half h).onTx n f) → (x1.txs_ n).last = some m0 →
      P (if x1.bit (Adr.MAC_STATUS p) 3 then (x1.tally p .txLateDrop 1).flowDropped n
        else x1.queueFrame p 6 (x1.txFrame c c m0) (some (n, seq)))) :
    CompletesAt (.packetLaunch h n ofs) h s P := by
  refine completesAt_on rfl ?_
  simp only [hc, paired, port, running, up, live, due, and_self, if_true, Bool.false_eq_true, if_false]
  refine hP _ _ ⟨_, rfl⟩ ?_
  unfold Half.onTx Half.txs_
  rw [lookAt_storeAt_self]

/-- Settles O23: a path times out, a slot starts again, a packet is launched. -/
theorem flowSlotEvents : Obligations.FlowSlotEvents := by
  intro h n s
  refine ⟨fun t ht up due => ?_, fun hs leave changing alone en paired primary =>
      changingEnd_starts hs leave changing alone en paired primary,
    fun ofs c m0 p hc paired port running up live due => ⟨fun fit on link two => ?_, fun impaired => ?_⟩⟩
  · refine completesAt_on rfl ?_
    simp only [ht, up, due, decide_true, Bool.and_self, if_true]
    exact ⟨by simp, by simp, (((Writes.refl _ _).putBit 4 false (by simp)).event 1 (by simp)).onlyRegs⟩
  · refine packetLaunch_due hc paired port running up live due fun seq x1 ⟨f, hx⟩ last => ?_
    have fit' : x1.bit (Adr.MAC_STATUS p) 3 = false := by rw [hx]; exact fit
    have on' : x1.macOn p = true := by rw [hx]; exact on
    have link' : x1.portUp p = true := by rw [hx]; exact link
    have inside : (p : Nat) < x1.macs.length := by
      rw [hx]
      show (p : Nat) < (s.half h).macs.length
      rw [two]
      exact p.isLt
    simp only [fit', Bool.false_eq_true, if_false, Half.queueFrame, on', link', Bool.not_true]
    refine ⟨last, by rw [hx]; rfl, ⟨x1.txFrame c c m0, 6, none, none, some (n, seq), 0, 0, 0⟩, ?_, by rw [hx]; rfl, rfl, rfl⟩
    rw [Half.mac_onMac _ _ inside, hx]
    rfl
  · refine packetLaunch_due hc paired port running up live due fun seq x1 ⟨f, hx⟩ last => ?_
    have impaired' : x1.bit (Adr.MAC_STATUS p) 3 = true := by rw [hx]; exact impaired
    have small := n.isLt
    have flows : ∀ a, 0x50000 ≤ a → a ∉ counterRegs p .txLateDrop := fun a ha => notMem_counterRegs_of_le (by omega)
    simp only [impaired', if_true, Half.flowDropped]
    refine ⟨last, by rw [hx]; rfl, ?_, ?_, fun a ha => ?_⟩
    · rw [Half.counter_wrap _ (flows _ (by simp only [Adr.TX_STAT]; omega)), Half.counter_event _ (flows _ (by simp only [Adr.FTX_EVENT]; omega)),
        Half.counter_tally, hx]
      rfl
    · rw [Half.bit_wrap, if_neg (by simp only [Adr.TX_STAT, Adr.FTX_EVENT]; omega)]
      simp
    · simp only [List.mem_append, List.mem_cons, List.not_mem_nil, or_false, not_or] at ha
      rw [Half.rd_wrap_ne _ _ _ _ ha.2.2, Half.rd_event_ne _ _ ha.2.1, Half.tally_rd _ _ _ _ ha.1, hx]
      rfl

/-! O24: the commands of the firmware. -/

@[simp] theorem Half.answer_flow (x : Half) (op tag result low : Nat) : (x.answer op tag result low).flow = x.flow := by
  rw [Half.answer, (Half.hwPush_pushed ..).same]

@[simp] theorem Half.answer_held (x : Half) (op tag result low : Nat) : (x.answer op tag result low).held = x.held := by
  rw [Half.answer, (Half.hwPush_pushed ..).same]

@[simp] theorem Half.answer_netOf (x : Half) (op tag result low p : Nat) : (x.answer op tag result low).netOf p = x.netOf p := by
  rw [Half.netOf, Half.answer, (Half.hwPush_pushed ..).same]
  rfl

theorem Half.answer_sameRegs (x : Half) (op tag result low : Nat) : SameRegs [Adr.QM_DROP_CNT 1] x (x.answer op tag result low) :=
  fun _ ha => Half.hwPush_rd _ _ _ _ (List.ne_of_not_mem_cons ha)

theorem Half.netOf_onNet {x : Half} {p : Nat} (f : NetPort → NetPort) (hp : p < x.net.length) : (x.onNet p f).netOf p = f (x.netOf p) :=
  getAt_modAt _ _ _ _ hp

theorem Half.acceptsM_of_role {x : Half} (h : x.role = .active ∨ x.role = .offline ∨ x.role = .isolated) : x.acceptsM = true := by
  obtain e | e | e := h <;> simp only [Half.acceptsM, e]

theorem Half.not_acceptsM_of_role {x : Half} (h : x.role = .standby ∨ x.role = .syncing) : x.acceptsM = false := by
  obtain e | e := h <;> simp only [Half.acceptsM, e]

/-- A slot that is open alone is closed alone. -/
theorem Half.closeFlow_alone {y : Half} {d : Nat} (h : y.flow.slots (d.testBit 39) = [d % 1024]) :
    y.closeFlow d = (y.closeSlot (d.testBit 39) (d % 1024)).answer 0x22 (d / 2 ^ 40 % 256) 0 (d % 1024) := by
  simp [Half.closeFlow, h]

/-- Settles O24: an answer is a push to Q1, which moves that queue's count of drops alone. -/
theorem firmwareCommandsAreAnswered : Obligations.FirmwareCommandsAreAnswered := by
  intro h s d y
  refine ⟨fun hd => ⟨fun a free single => ?_, fun full => ?_⟩, fun hd idle => ⟨fun closed => ?_, fun alone => ?_⟩,
    fun hd two => ⟨fun bad => ?_, fun good own => ?_, fun good svc role => ?_⟩, fun hd two => ⟨fun role => ?_, fun role => ?_⟩⟩
  · refine completesAt_on rfl ?_
    simp only [hd, Half.openFlow, free, single, Bool.false_eq_true, if_false]
  · refine completesAt_on rfl ?_
    simp only [hd, Half.openFlow, full]
  · refine completesAt_on rfl ?_
    simp only [idle, ne_eq, not_true_eq_false, if_false, hd, Half.closeFlow, closed, Bool.not_false, if_true]
  · refine completesAt_on rfl ?_
    simp only [idle, ne_eq, not_true_eq_false, if_false, hd, Half.closeFlow_alone alone, Half.answer_flow]
    refine ⟨rfl, ?_, Half.answer_sameRegs (y.closeSlot _ _) _ _ _ _⟩
    rw [Half.staged, Half.answer_held]
    exact lookAt_insertAt_self ..
  · refine completesAt_on rfl ?_
    simp only [hd, Half.setNetAddr, bad, if_true]
  · have inside : d / 2 ^ 39 % 2 < y.net.length := by omega
    refine completesAt_on rfl ?_
    simp only [hd, Half.setNetAddr, good, own, Bool.false_and, Bool.false_eq_true, if_false, Half.answer_netOf,
      Half.netOf_onNet _ inside]
    exact ⟨trivial, trivial, trivial, Half.answer_sameRegs (y.onNet _ _) _ _ _ _⟩
  · refine completesAt_on rfl ?_
    simp only [hd, Half.setNetAddr, good, svc, Half.not_acceptsM_of_role role, Bool.not_false, Bool.and_self, Bool.false_eq_true, if_false,
      if_true]
  · have inside : d / 2 ^ 39 % 2 < y.net.length := by omega
    refine completesAt_on rfl ?_
    simp only [hd, Half.setPtpAttr, Half.acceptsM_of_role role, Bool.not_true, Bool.false_eq_true, if_false, Half.answer_netOf,
      Half.netOf_onNet _ inside]
    exact ⟨trivial, trivial, trivial, trivial, Half.answer_sameRegs (y.onNet _ _) _ _ _ _⟩
  · refine completesAt_on rfl ?_
    simp only [hd, Half.setPtpAttr, Half.not_acceptsM_of_role role, Bool.not_false, if_true]

/-! O25: messages of the firmware, SAP. -/

/-- The counters of frames that the two ports discard without a link. -/
def linkdownRegs : List Nat := counterRegs 0 .txLinkdownDrop ++ counterRegs 1 .txLinkdownDrop

/-- y is x but for messages handed to the MACs, or counted there as discarded. -/
structure Talks (x y : Half) : Prop where
  same : y = { x with regs := y.regs, macs := y.macs }
  regs : SameRegs linkdownRegs x y
  slots : y.txSlots = x.txSlots

namespace Talks
variable {x y z : Half}

theorem refl (x : Half) : Talks x x := ⟨rfl, .refl _ _, rfl⟩

theorem trans (h : Talks x y) (k : Talks y z) : Talks x z := by
  refine ⟨?_, h.regs.trans k.regs, k.slots.trans h.slots⟩
  have e := k.same
  rw [h.same] at e
  exact e

theorem flow (h : Talks x y) : y.flow = x.flow := by rw [h.same]

theorem foldl {α : Type} {f : Half → α → Half} {is : List α} (hf : ∀ i ∈ is, ∀ y, Talks y (f y i)) (x : Half) :
    Talks x (is.foldl f x) := by
  induction is generalizing x with
  | nil => exact refl x
  | cons i is ih => exact (hf i List.mem_cons_self x).trans (ih (fun j hj => hf j (List.mem_cons_of_mem i hj)) (f x i))

end Talks

theorem Half.fwSend_of_up {x : Half} {p : Nat} (on : x.macOn p = true) (up : x.portUp p = true) (r : Nat) (m : FwMsg) :
    x.fwSend p r m = x.onMac p fun y => if r = 3 then { y with fw3 := y.fw3 ++ [m] } else { y with fw2 := y.fw2 ++ [m] } := by
  simp only [Half.fwSend, on, up, Bool.not_true, Bool.false_eq_true, if_false]

theorem Half.fwSend_talks (x : Half) {p : Nat} (hp : p < 2) (r : Nat) (m : FwMsg) : Talks x (x.fwSend p r m) := by
  have low : ∀ a ∈ counterRegs p .txLinkdownDrop, offTxSlots a ∧ a ∈ linkdownRegs := by
    intro a ha
    have small : a < 0x50000 := by
      rw [mem_counterRegs] at ha
      simp only [Adr.MAC_CNT, MacCnt.idx] at ha
      omega
    have : p = 0 ∨ p = 1 := by omega
    refine ⟨Or.inl small, ?_⟩
    obtain rfl | rfl := this <;> simp [linkdownRegs, ha]
  unfold Half.fwSend
  split
  · exact .refl x
  · split
    · obtain ⟨lo, -⟩ := low (Adr.MAC_CNT p (2 * MacCnt.txLinkdownDrop.idx)) (mem_counterRegs.mpr (Or.inl rfl))
      obtain ⟨hi, -⟩ := low (Adr.MAC_CNT p (2 * MacCnt.txLinkdownDrop.idx) + 4) (mem_counterRegs.mpr (Or.inr rfl))
      refine ⟨Half.tally_shape x p _ 1, fun a ha => x.tally_rd p _ 1 fun hm => ha (low a hm).2, ?_⟩
      unfold Half.tally Half.wr64 Half.wrNat
      rw [Half.txSlots_wr _ _ hi, Half.txSlots_wr _ _ lo]
    · exact ⟨rfl, .refl _ _, rfl⟩

theorem Half.neededGroups_port {x : Half} {g : Nat × Nat × Nat} (hg : g ∈ x.neededGroups) : g.1 < 2 := by
  simp only [Half.neededGroups, List.mem_dedup, List.mem_filter, List.mem_append, List.mem_map] at hg
  obtain ⟨⟨n, -, rfl⟩ | hg, -⟩ := hg
  · exact x.get_lt _ 12 1
  · simp only [List.map_cons, List.map_nil, List.flatten_cons, List.flatten_nil, List.mem_append, List.mem_cons, List.not_mem_nil,
      or_false] at hg
    obtain (rfl | rfl) | rfl | rfl := hg <;> simp

theorem membershipUpdate_joins {h : HalfId} {s : State} (runs : (s.half h).fwRuns = true)
    (ports : ∀ g ∈ (s.half h).flow.joined, g.1 < 2) :
    CompletesAt (.membershipUpdate h) h s fun x => x.flow = { (s.half h).flow with joined := (s.half h).neededGroups } ∧
      SameRegs linkdownRegs (s.half h) x := by
  refine completesAt_on rfl ?_
  simp only [runs, if_true, Half.updateGroups]
  have joins : ∀ (gs : List (Nat × Nat × Nat)), (∀ g ∈ gs, g.1 < 2) → ∀ y : Half, Talks y (gs.foldl (fun (x : Half) g =>
      x.fwSend g.1 2 (.igmpReport (x.igmpVersion g.1) (x.netOf g.1).ownIp.toNat [g.2])) y) :=
    fun gs hgs => Talks.foldl fun g hg y => y.fwSend_talks (hgs g hg) _ _
  have leaves : ∀ (gs : List (Nat × Nat × Nat)), (∀ g ∈ gs, g.1 < 2) → ∀ y : Half, Talks y (gs.foldl (fun (x : Half) g =>
      x.fwSend g.1 2 (.igmpLeave (x.igmpVersion g.1) (x.netOf g.1).ownIp.toNat g.2)) y) :=
    fun gs hgs => Talks.foldl fun g hg y => y.fwSend_talks (hgs g hg) _ _
  have both := (joins ((s.half h).neededGroups.filter fun g => !(s.half h).flow.joined.contains g)
      (fun g hg => Half.neededGroups_port (List.mem_of_mem_filter hg)) (s.half h)).trans
    (leaves ((s.half h).flow.joined.filter fun g => !(s.half h).neededGroups.contains g)
      (fun g hg => ports g (List.mem_of_mem_filter hg)) _)
  exact ⟨congrArg (fun f => { f with joined := (s.half h).neededGroups }) both.flow, both.regs⟩

theorem igmpQuery_noted {h : HalfId} {p : PortId} {v2 : Bool} {s : State} (runs : (s.half h).fwRuns = true)
    (on : (s.half h).macOn p = true) (up : (s.half h).portUp p = true) :
    CompletesAt (.igmpQuery h p v2) h s fun x => x.flow.igmpV2.contains p.val = v2 ∧
      (∀ r : Nat, r ≠ p → x.flow.igmpV2.contains r = (s.half h).flow.igmpV2.contains r) ∧
      x.flow.joined = (s.half h).flow.joined ∧ x.regs = (s.half h).regs := by
  refine completesAt_on rfl ?_
  simp only [runs, on, up, Bool.and_self, if_true]
  generalize hl : (if v2 = true then (p : Nat) :: (s.half h).flow.igmpV2.filter (· != (p : Nat))
    else (s.half h).flow.igmpV2.filter (· != (p : Nat))) = l
  have noted : l.contains p.val = v2 ∧ ∀ r : Nat, r ≠ p → l.contains r = (s.half h).flow.igmpV2.contains r := by
    rw [← hl]
    cases v2
    · refine ⟨by simp, fun r hr => ?_⟩
      simp [List.contains_eq_mem, hr]
    · refine ⟨by simp, fun r hr => ?_⟩
      simp [List.contains_eq_mem, hr]
  generalize hx : ({ s.half h with flow := { (s.half h).flow with igmpV2 := l } } : Half) = x1
  have flow : x1.flow = { (s.half h).flow with igmpV2 := l } := by rw [← hx]
  have regs : x1.regs = (s.half h).regs := by rw [← hx]
  have on1 : x1.macOn p = true := by rw [← hx]; exact on
  have up1 : x1.portUp p = true := by rw [← hx]; exact up
  split
  · rw [flow]
    exact ⟨noted.1, noted.2, rfl, regs⟩
  · rw [Half.fwSend_of_up on1 up1]
    refine ⟨?_, ?_, ?_, regs⟩
    · exact (congrArg (fun f => f.igmpV2.contains p.val) flow).trans noted.1
    · exact fun r hr => (congrArg (fun f => f.igmpV2.contains r) flow).trans (noted.2 r hr)
    · exact congrArg (fun f => f.joined) flow

theorem arpRequest_answered {h : HalfId} {p : PortId} {target sender : BitVec 32} {mac : BitVec 48} {s : State}
    (runs : (s.half h).fwRuns = true) (on : (s.half h).macOn p = true) (up : (s.half h).portUp p = true)
    (two : (s.half h).macs.length = 2) (some : target ≠ 0)
    (mine : target = ((s.half h).netOf p).ownIp ∨ (target = ((s.half h).netOf p).svcIp ∧ (s.half h).role = .active)) :
    CompletesAt (.arpRequest h p target sender mac) h s fun x => x.regs = (s.half h).regs ∧
      x.mac p = { (s.half h).mac p with
        fw2 := ((s.half h).mac p).fw2 ++ [.arpReply target.toNat sender.toNat (beBytes 6 mac.toNat)] } := by
  have inside : (p : Nat) < (s.half h).macs.length := by
    rw [two]
    exact p.isLt
  have own : (target != 0 && (target == ((s.half h).netOf p).ownIp ||
      (target == ((s.half h).netOf p).svcIp && (s.half h).role == .active))) = true := by
    rw [bne_iff_ne.mpr some, Bool.true_and]
    obtain e | ⟨e, a⟩ := mine
    · simp [← e]
    · simp [← e, a]
  refine completesAt_on rfl ?_
  simp only [runs, on, up, own, Bool.and_self, if_true, Half.fwSend_of_up on up]
  refine ⟨rfl, ?_⟩
  rw [Half.mac_onMac _ _ inside]
  rfl

/-- The gratuitous ARP of one port. -/
def Half.arpPort (y : Half) (p : Nat) : Half :=
  if y.portUp p && (y.netOf p).svcIp != 0 then y.fwSend p 2 (.gratuitousArp (y.netOf p).svcIp.toNat) else y

theorem Half.arpPort_cases (y : Half) (p : Nat) : y.arpPort p = y ∨ ∃ m : FwMsg, y.arpPort p = y.onMac p fun x => { x with fw2 := x.fw2 ++ [m] } := by
  unfold Half.arpPort Half.fwSend
  split
  · next c =>
    simp only [Bool.and_eq_true] at c
    simp only [c.1, Bool.not_true, Bool.false_eq_true, if_false]
    split
    · exact Or.inl rfl
    · exact Or.inr ⟨_, rfl⟩
  · exact Or.inl rfl

theorem Half.arpPort_keeps (y : Half) (p : Nat) : (y.arpPort p) = { y with macs := (y.arpPort p).macs } ∧
    (y.arpPort p).macs.length = y.macs.length ∧ ∀ q, q ≠ p → (y.arpPort p).mac q = y.mac q := by
  obtain e | ⟨m, e⟩ := y.arpPort_cases p <;> rw [e]
  · exact ⟨rfl, rfl, fun _ _ => rfl⟩
  · exact ⟨rfl, Half.length_onMac .., fun q hq => getAt_modAt_ne _ _ _ hq⟩

theorem Half.arpPort_sends {y : Half} {p : Nat} (on : y.macOn p = true) (up : y.portUp p = true) (set : (y.netOf p).svcIp ≠ 0)
    (inside : p < y.macs.length) :
    ((y.arpPort p).mac p).fw2 = (y.mac p).fw2 ++ [.gratuitousArp (y.netOf p).svcIp.toNat] := by
  have sends : (y.portUp p && (y.netOf p).svcIp != 0) = true := by rw [up, bne_iff_ne.mpr set]; rfl
  rw [Half.arpPort, if_pos sends, Half.fwSend_of_up on up, Half.mac_onMac _ _ inside]
  rfl

theorem gratuitousArp_sent {h : HalfId} {s : State} (runs : (s.half h).fwRuns = true) (active : (s.half h).role = .active)
    (due : (s.half h).rdn.arpDue = true) (first : (s.half h).rdn.arpAgain = none) (two : (s.half h).macs.length = 2) :
    CompletesAt (.gratuitousArp h) h s fun x => x.rdn.arpDue = false ∧ x.rdn.arpAgain = some ((s.half h).age + 800) ∧
      ∀ p : PortId, (s.half h).macOn p = true → (s.half h).portUp p = true → ((s.half h).netOf p).svcIp ≠ 0 →
        (x.mac p).fw2 = ((s.half h).mac p).fw2 ++ [.gratuitousArp ((s.half h).netOf p).svcIp.toNat] := by
  refine completesAt_on rfl ?_
  simp only [runs, active, due, first, beq_self_eq_true, Bool.and_self, if_true]
  generalize hy : ({ s.half h with rdn := { (s.half h).rdn with arpDue := false, arpAgain := some ((s.half h).age + 800) } } : Half) = y
  have rdn : y.rdn = { (s.half h).rdn with arpDue := false, arpAgain := some ((s.half h).age + 800) } := by rw [← hy]
  have same : y = { s.half h with rdn := y.rdn } := by rw [← hy]
  have length : y.macs.length = 2 := by rw [← hy]; exact two
  show ((y.arpPort 0).arpPort 1).rdn.arpDue = false ∧ ((y.arpPort 0).arpPort 1).rdn.arpAgain = _ ∧ _
  obtain ⟨same0, length0, other0⟩ := y.arpPort_keeps 0
  obtain ⟨same1, length1, other1⟩ := (y.arpPort 0).arpPort_keeps 1
  have rdn' : ((y.arpPort 0).arpPort 1).rdn = y.rdn := by rw [same1, same0]
  refine ⟨by rw [rdn', rdn], by rw [rdn', rdn], fun p on up set => ?_⟩
  have on' : y.macOn p = true := by rw [same]; exact on
  have up' : y.portUp p = true := by rw [same]; exact up
  have mac : y.mac p = (s.half h).mac p := by rw [same]; rfl
  have net : y.netOf p = (s.half h).netOf p := by rw [same]; rfl
  have set' : (y.netOf p).svcIp ≠ 0 := by rw [net]; exact set
  rw [← mac, ← net]
  obtain ⟨q, hq⟩ : ∃ q, (p : Nat) = q := ⟨_, rfl⟩
  have port : q = 0 ∨ q = 1 := by omega
  rw [hq] at on' up' set' ⊢
  show ((((y.arpPort 0).arpPort 1).mac q)).fw2 = _
  obtain rfl | rfl := port
  · rw [other1 0 (by decide)]
    exact Half.arpPort_sends on' up' set' (by omega)
  · have net1 : (y.arpPort 0).netOf 1 = y.netOf 1 := by rw [same0]; rfl
    rw [← other0 1 (by decide), ← net1]
    exact Half.arpPort_sends (by rw [same0]; exact on') (by rw [same0]; exact up') (by rw [net1]; exact set') (by omega)

/-! SAP. -/

theorem Half.discover_flow (x : Half) (i : SapInfo) (k : Nat) : (x.discover i k).flow = x.flow := by
  rw [Half.discover, Half.event_flow, (Half.hwPush_pushed ..).same]

theorem Half.discover_shows (x : Half) (i : SapInfo) (k : Nat) : (x.discover i k).bit Adr.EVT_SYS_EVENT 0 = true ∧
    SameRegs [Adr.EVT_SYS_EVENT, Adr.QM_DROP_CNT 12] x (x.discover i k) := by
  refine ⟨by simp [Half.discover], fun a ha => ?_⟩
  simp only [List.mem_cons, List.not_mem_nil, or_false, not_or] at ha
  rw [Half.discover, Half.rd_event_ne _ _ ha.1, Half.hwPush_rd _ _ _ _ ha.2]

/-- What the firmware keeps of the announced flows. -/
def Half.setSap (x : Half) (l : List SapEntry) : Half := { x with flow := { x.flow with sap := l } }

theorem Half.setSap_discovered (x : Half) (l : List SapEntry) (i : SapInfo) (k : Nat) :
    ((x.setSap l).discover i k).flow = { x.flow with sap := l } ∧ ((x.setSap l).discover i k).bit Adr.EVT_SYS_EVENT 0 = true ∧
      SameRegs [Adr.EVT_SYS_EVENT, Adr.QM_DROP_CNT 12] x ((x.setSap l).discover i k) :=
  ⟨Half.discover_flow .., Half.discover_shows ..⟩

/-- A flow that is announced as deleted. -/
theorem Half.hearSap_deleted {x : Half} {i : SapInfo} {e : SapEntry} (he : (x.flow.sap.find? fun e => sapSame e.info i) = some e) :
    x.hearSap i true = (x.setSap (x.flow.sap.filter fun e => !sapSame e.info i)).discover e.info 3 := by
  simp only [Half.hearSap, he, if_true, Half.setSap]

theorem Half.saySap_talks (x : Half) (delete : Bool) (n : Nat) : Talks x (x.saySap delete n) := by
  unfold Half.saySap
  dsimp only
  split
  · exact .refl x
  · exact x.fwSend_talks (x.get_lt _ 12 1) _ _

theorem sapAnnounceTimer_announces {h : HalfId} {s : State} (runs : (s.half h).fwRuns = true) (active : (s.half h).role = .active) :
    CompletesAt (.sapAnnounceTimer h) h s fun x =>
      x.flow = { (s.half h).flow with
        announced := (s.half h).txSlots.dedup.filter fun n => (s.half h).get (Adr.FTX_STATUS n) 0 3 == 1 } ∧
      SameRegs linkdownRegs (s.half h) x := by
  refine completesAt_on rfl ?_
  simp only [runs, active, beq_self_eq_true, Bool.and_self, if_true, Half.sapDelete]
  have deleted : ∀ (is : List Nat) (x : Half), Talks x (is.foldl (fun (y : Half) n => y.saySap true n) x) :=
    fun is => Talks.foldl fun n _ y => y.saySap_talks true n
  have said : ∀ (is : List Nat) (x : Half), Talks x (is.foldl (fun (y : Half) n => y.saySap false n) x) :=
    fun is => Talks.foldl fun n _ y => y.saySap_talks false n
  have gone := deleted ((s.half h).flow.announced.filter fun n => (s.half h).get (Adr.FTX_STATUS n) 0 3 == 0) (s.half h)
  generalize ((s.half h).flow.announced.filter fun n => (s.half h).get (Adr.FTX_STATUS n) 0 3 == 0).foldl
    (fun (y : Half) n => y.saySap true n) (s.half h) = z at gone ⊢
  generalize hf : (z.flow.announced.filter fun n => !(((s.half h).flow.announced.filter fun n =>
    (s.half h).get (Adr.FTX_STATUS n) 0 3 == 0).contains n)) = left
  have status : ∀ n, z.get (Adr.FTX_STATUS n) 0 3 = (s.half h).get (Adr.FTX_STATUS n) 0 3 := by
    refine fun n => gone.regs.get ?_ 0 3
    simp only [linkdownRegs, List.mem_append, mem_counterRegs, MacCnt.idx, Adr.MAC_CNT, Adr.FTX_STATUS]
    omega
  have running : (({ z with flow := { z.flow with announced := left } } : Half).txSlots.dedup.filter fun n =>
      ({ z with flow := { z.flow with announced := left } } : Half).get (Adr.FTX_STATUS n) 0 3 == 1) =
      (s.half h).txSlots.dedup.filter fun n => (s.half h).get (Adr.FTX_STATUS n) 0 3 == 1 := by
    show (z.txSlots.dedup.filter fun n => z.get (Adr.FTX_STATUS n) 0 3 == 1) = _
    simp only [gone.slots, status]
  rw [running]
  generalize ((s.half h).txSlots.dedup.filter fun n => (s.half h).get (Adr.FTX_STATUS n) 0 3 == 1) = run
  have told := said run { z with flow := { z.flow with announced := left } }
  refine ⟨?_, fun a ha => (told.regs a ha).trans (gone.regs a ha)⟩
  exact (congrArg (fun f => { f with announced := run }) told.flow).trans (congrArg (fun f => { f with announced := run }) gone.flow)

/-- Settles O25: a message is handed to a MAC or counted as discarded there; a report is a push to Q12. -/
theorem networkFirmwareAnswersAndSap : Obligations.NetworkFirmwareAnswersAndSap := by
  refine ⟨fun h s runs => ⟨fun ports => membershipUpdate_joins runs ports, fun p v2 on up => igmpQuery_noted runs on up,
      fun p target sender mac on up two some mine => arpRequest_answered runs on up two some mine,
      fun active due first two => gratuitousArp_sent runs active due first two⟩,
    fun h s runs => ⟨fun i fresh good => ?_, fun i e he => ⟨?_, fun same => ?_⟩, fun src session e he => ?_,
      fun active => sapAnnounceTimer_announces runs active⟩⟩
  · refine completesAt_on rfl ?_
    simp only [runs, if_true, Half.hearSap, fresh, good, Bool.not_true, Bool.or_self, Bool.false_eq_true, if_false]
    exact Half.setSap_discovered (s.half h) _ i 1
  · refine completesAt_on rfl ?_
    simp only [runs, if_true, Half.hearSap_deleted he]
    exact Half.setSap_discovered (s.half h) _ e.info 3
  · refine congrArg Host.Outcome.next (State.on_eq_self ?_)
    simp only [runs, if_true, Half.hearSap, he, Bool.false_eq_true, if_false, same]
  · have found : ((s.half h).flow.sap.find? fun k => sapSame k.info e.info) = some e := by
      have key := List.find?_some he
      simp only [Bool.and_eq_true, beq_iff_eq] at key
      simpa only [sapSame, key.1, key.2] using he
    refine completesAt_on rfl ?_
    simp only [he, runs, if_true, Half.hearSap_deleted found]
    obtain ⟨flow, event, same⟩ := Half.setSap_discovered (s.half h) ((s.half h).flow.sap.filter fun k => !sapSame k.info e.info) e.info 3
    exact ⟨by rw [flow], event, same⟩

end Sys2Proof.Machine
end

section
/-! O26 to O28: references, the selector, the ADPLLs and the PTP ports (R174 to R200). -/

namespace Sys2Proof.Machine

open Sys2Proof

/-! Signed registers. -/

theorem signed_unsigned_satSigned (v : Int) : signed 32 (BitVec.ofNat 32 (unsigned 32 (satSigned 32 v))).toNat = satSigned 32 v := by
  have lo : -2147483648 ≤ satSigned 32 v := by unfold satSigned; omega
  have hi : satSigned 32 v ≤ 2147483647 := by unfold satSigned; omega
  generalize satSigned 32 v = u at lo hi ⊢
  simp only [signed, unsigned, BitVec.toNat_ofNat]
  split <;> omega

@[simp] theorem Half.rdS_wrS_self (x : Half) (a : Nat) (v : Int) : (x.wrS a v).rdS a = satSigned 32 v := by
  rw [Half.rdS, Half.wrS, Half.rd_wrNat_self, signed_unsigned_satSigned]

theorem Half.rd_wrS_ne (x : Half) {a b : Nat} (v : Int) (h : b ≠ a) : (x.wrS a v).rd b = x.rd b := Half.rd_wrNat_ne x _ h

theorem Half.rdS_congr {x y : Half} {a : Nat} (h : y.rd a = x.rd a) : y.rdS a = x.rdS a := by rw [Half.rdS, h]; rfl

@[simp] theorem Half.onTim_get (x : Half) (f : TimSt → TimSt) (a lo n : Nat) : (x.onTim f).get a lo n = x.get a lo n := rfl
@[simp] theorem Half.onTim_bit (x : Half) (f : TimSt → TimSt) (a b : Nat) : (x.onTim f).bit a b = x.bit a b := rfl
@[simp] theorem Half.onRef_rd (x : Half) (i : Nat) (f : RefSt → RefSt) (a : Nat) : (x.onRef i f).rd a = x.rd a := rfl
@[simp] theorem Half.onRef_get (x : Half) (i : Nat) (f : RefSt → RefSt) (a lo n : Nat) : (x.onRef i f).get a lo n = x.get a lo n := rfl
@[simp] theorem Half.onRef_bit (x : Half) (i : Nat) (f : RefSt → RefSt) (a b : Nat) : (x.onRef i f).bit a b = x.bit a b := rfl

/-! The states of references (R178). -/

theorem Half.refState_congr {x y : Half} {i : Nat} (h : y.rd (Adr.TIM_REF_STATUS i) = x.rd (Adr.TIM_REF_STATUS i)) :
    y.refState i = x.refState i := Half.get_congr h 0 3

theorem Half.setRef_same {x : Half} {i v : Nat} (h : x.refState i = v) : x.setRef i v = x := if_pos h

theorem Half.setRef_writes (x : Half) (i v : Nat) : Writes (· ∈ [Adr.TIM_REF_STATUS i, Adr.TIM_EVENT]) x (x.setRef i v) := by
  unfold Half.setRef
  split
  · exact .refl _ x
  · exact ((Writes.refl _ x).put 0 3 v (by simp)).event 0 (by simp)

theorem ref_ne_event (i : Nat) : Adr.TIM_REF_STATUS i ≠ Adr.TIM_EVENT := by simp only [Adr.TIM_REF_STATUS, Adr.TIM_EVENT]; omega

theorem ref_inj {i j : Nat} : Adr.TIM_REF_STATUS i = Adr.TIM_REF_STATUS j ↔ i = j := by simp only [Adr.TIM_REF_STATUS]; omega

@[simp] theorem Half.setRef_refState (x : Half) (i : Nat) {v : Nat} (hv : v < 8) (j : Nat) :
    (x.setRef i v).refState j = if j = i then v else x.refState j := by
  by_cases hj : j = i
  · subst hj
    unfold Half.setRef
    split
    · next h => simpa using h
    · simp [Half.refState, ref_ne_event]
      omega
  · rw [if_neg hj]
    exact Half.refState_congr ((x.setRef_writes i v).keeps _ (by simp [hj, ref_ne_event]))

/-- A disabled reference that is DISABLED stays so. -/
theorem Half.refEval_disabled {x : Half} {i : Nat} (second : Bool) (hi : i ≠ 6) (off : x.bit (Adr.TIM_REF_CFG i) 0 = false)
    (state : x.refState i = 0) : x.refEval second i = x := by
  rw [Half.refEval, if_neg hi, if_pos (by simp [off])]
  exact Half.setRef_same state

/-! The selector after a change of a reference (R180). -/

theorem State.refChange_calm {s : State} {h : HalfId} {f : Half → Half} (live : (s.half h).live = true)
    (up : (s.half h).up .timing = true) (same : ∀ i, i < 8 → (f (s.half h)).refState i = (s.half h).refState i) :
    s.refChange h f = s.on h f := by
  have all : ((List.range 8).all fun i => ((s.on h f).half h).refState i == (s.half h).refState i) = true := by
    simp only [List.all_eq_true, List.mem_range, State.on_half, beq_iff_eq]
    exact same
  simp only [State.refChange, live, up, Bool.not_true, Bool.or_self, Bool.false_eq_true, if_false, all, if_true]

/-- A command that changes references, none of which changes its state. -/
theorem completesAt_calm {c : Instr} {h : HalfId} {s : State} {f : Half → Half} {P : Half → Prop}
    (hc : exec c s = .next (s.refChange h f)) (live : (s.half h).live = true) (up : (s.half h).up .timing = true)
    (same : ∀ i, i < 8 → (f (s.half h)).refState i = (s.half h).refState i) (hP : P (f (s.half h))) : CompletesAt c h s P :=
  completesAt_on (hc.trans (congrArg _ (State.refChange_calm live up same))) hP

/-! O26. -/

/-- References 0 and 7, QUALIFIED the one, QUALIFYING with a higher rank the other. -/
def rivalRefs : State :=
  { State.reset with a := { (((Half.init .a).wr (Adr.TIM_REF_STATUS 0) 2).wr (Adr.TIM_REF_STATUS 7) 1).wr (Adr.TIM_REF_CFG 7) 0x10000 with
    phase := .running, regions := [.up, .up, .up, .up, .up, .up, .up, .up] } }

theorem rivalRefs_qualifying :
    (rivalRefs.half .a).live = true ∧ (rivalRefs.half .a).up .timing = true ∧ (rivalRefs.half .a).role = .offline ∧
      (rivalRefs.half .a).refCheck 7 = none ∧ (rivalRefs.half .a).refState 7 = 1 := by decide +kernel

/-- The selector prefers reference 0, of lower rank. -/
theorem rivalRefs_selected :
    (match exec (.qualificationComplete .a 7) rivalRefs with | .next t => (t.half .a).selected | _ => 7) = 0 := by decide +kernel

/-- Refutes O26: the premise that no other reference is QUALIFIED ranges over `j < 8` in `Fin 8`, where 8 is 0, so it says nothing;
reference 7, which qualifies beside reference 0 of a lower rank, is not selected. -/
theorem not_referencesQualifyAndFail : ¬ Obligations.ReferencesQualifyAndFail := by
  intro holds
  obtain ⟨live, up, offline, ok, qualifying⟩ := rivalRefs_qualifying
  obtain ⟨-, -, -, alone, -⟩ := holds .a 7 rivalRefs live up
  obtain ⟨completes, -⟩ := alone (by decide) (by decide) ok offline fun j hj => absurd hj (Fin.not_lt_zero j)
  obtain ⟨t, ht, ⟨-, selected, -⟩, -⟩ := completes qualifying
  have none := rivalRefs_selected
  rw [ht] at none
  exact absurd (none.symm.trans selected) (by decide)

/-! O27: the loops. -/

theorem Half.setMpll_moves {x : Half} {v : Nat} (h : x.get Adr.TIM_MPLL_STATUS 0 3 ≠ v) (hv : v < 8) :
    (x.setMpll v).get Adr.TIM_MPLL_STATUS 0 3 = v ∧ (x.setMpll v).bit Adr.TIM_STATUS 0 = (v == 2 || v == 3) ∧
      (x.setMpll v).bit Adr.TIM_EVENT 2 = true ∧ (v = 2 ∨ v = 3 → (x.setMpll v).tim.lockHeld = true) ∧
      SameRegs [Adr.TIM_MPLL_STATUS, Adr.TIM_STATUS, Adr.TIM_EVENT] x (x.setMpll v) := by
  generalize hy : ((x.put Adr.TIM_MPLL_STATUS 0 3 v).event Adr.TIM_EVENT 2).putBit Adr.TIM_STATUS 0 (v == 2 || v == 3) = y
  generalize hz : (if x.get Adr.TIM_MPLL_STATUS 0 3 = 4 ∨ v = 4 then y.event Adr.TIM_EVENT 4 else y) = z
  have shown : z.get Adr.TIM_MPLL_STATUS 0 3 = v ∧ z.bit Adr.TIM_STATUS 0 = (v == 2 || v == 3) ∧ z.bit Adr.TIM_EVENT 2 = true ∧
      SameRegs [Adr.TIM_MPLL_STATUS, Adr.TIM_STATUS, Adr.TIM_EVENT] x z := by
    have written : Writes (· ∈ [Adr.TIM_MPLL_STATUS, Adr.TIM_STATUS, Adr.TIM_EVENT]) x y := by
      rw [← hy]
      exact (((Writes.refl _ x).put 0 3 v (by simp)).event 2 (by simp)).putBit 0 _ (by simp)
    have more : Writes (· ∈ [Adr.TIM_MPLL_STATUS, Adr.TIM_STATUS, Adr.TIM_EVENT]) x z := by
      rw [← hz]
      exact .ite (fun _ => written.event 4 (by simp)) fun _ => written
    refine ⟨?_, ?_, ?_, more.sameRegs⟩ <;> rw [← hz, ← hy] <;> split <;> simp <;> omega
  have regs : ∀ a, (x.setMpll v).rd a = z.rd a := by
    intro a
    unfold Half.setMpll
    simp only [h, if_false, hy, hz]
    split
    · rfl
    · split <;> rfl
  obtain ⟨state, locked, event, same⟩ := shown
  refine ⟨(Half.get_congr (regs _) 0 3).trans state, (Half.bit_congr (regs _) 0).trans locked, (Half.bit_congr (regs _) 2).trans event,
    fun hl => ?_, fun a ha => (regs a).trans (same a ha)⟩
  have one : v ≠ 1 := by omega
  unfold Half.setMpll
  simp only [h, if_false, hy, hz, one, hl, if_true]
  rfl

theorem Half.setCpll_moves {x : Half} {v : Nat} (h : x.get Adr.TIM_CPLL_STATUS 0 3 ≠ v) (hv : v < 8) :
    (x.setCpll v).get Adr.TIM_CPLL_STATUS 0 3 = v ∧ (x.setCpll v).bit Adr.TIM_STATUS 1 = (v == 2) ∧
      (x.setCpll v).bit Adr.TIM_EVENT 3 = true ∧ OnlyRegs [Adr.TIM_CPLL_STATUS, Adr.TIM_STATUS, Adr.TIM_EVENT] x (x.setCpll v) := by
  rw [Half.setCpll, if_neg h]
  refine ⟨?_, by simp, by simp, ((((Writes.refl _ x).put 0 3 v (by simp)).event 3 (by simp)).putBit 1 _ (by simp)).onlyRegs⟩
  simp
  omega

/-- The state of either loop after a fault, whatever it was. -/
theorem Half.set_fault (x : Half) : (x.setMpll 7).get Adr.TIM_MPLL_STATUS 0 3 = 7 ∧ (x.setCpll 7).get Adr.TIM_CPLL_STATUS 0 3 = 7 := by
  constructor
  · by_cases h : x.get Adr.TIM_MPLL_STATUS 0 3 = 7
    · rw [Half.setMpll]
      simp [h]
    · exact (Half.setMpll_moves h (by decide)).1
  · by_cases h : x.get Adr.TIM_CPLL_STATUS 0 3 = 7
    · rw [Half.setCpll, if_pos h, h]
    · exact (Half.setCpll_moves h (by decide)).1

/-- What a fault of an ADPLL does to its half (R187, R199, R459). -/
def Half.adpllFails (x : Half) (carrier oscillator : Bool) : Half :=
  let y := x.latch Adr.TIM_FAULT (1 + 2 * ofBool carrier + ofBool oscillator)
  (if carrier then y.setCpll 7 else y.setMpll 7).giveUpFor 4

theorem Half.adpllFails_shows (x : Half) (carrier oscillator : Bool) :
    (x.adpllFails carrier oscillator).get Adr.TIM_FAULT 0 16 = 1 + 2 * ofBool carrier + ofBool oscillator ∧
      (x.adpllFails carrier oscillator).bit Adr.TIM_FAULT 31 = true ∧ (x.adpllFails carrier oscillator).get Adr.RDN_FAULT 0 16 = 4 ∧
      (carrier = false → (x.adpllFails carrier oscillator).get Adr.TIM_MPLL_STATUS 0 3 = 7) ∧
      (carrier = true → (x.adpllFails carrier oscillator).get Adr.TIM_CPLL_STATUS 0 3 = 7) := by
  generalize hy : x.latch Adr.TIM_FAULT (1 + 2 * ofBool carrier + ofBool oscillator) = y
  generalize hz : (if carrier then y.setCpll 7 else y.setMpll 7) = z
  have fails : x.adpllFails carrier oscillator = z.giveUpFor 4 := by rw [← hz, ← hy]; rfl
  have given : ∀ a, a ∉ giveUpRegs → a < 0x50000 → a ≠ Adr.RDN_FAULT → (z.giveUpFor 4).rd a = z.rd a := fun a ha hp hf =>
    (z.giveUpFor_rd 4 ha (Or.inl hp)).trans (Half.rd_latch_ne _ _ hf)
  have fault : z.rd Adr.TIM_FAULT = y.rd Adr.TIM_FAULT := by
    rw [← hz]
    split
    · by_cases h : y.get Adr.TIM_CPLL_STATUS 0 3 = 7
      · rw [Half.setCpll, if_pos h]
      · exact (Half.setCpll_moves h (by decide)).2.2.2.2 _ (by decide)
    · by_cases h : y.get Adr.TIM_MPLL_STATUS 0 3 = 7
      · rw [Half.setMpll]
        simp [h]
      · exact (Half.setMpll_moves h (by decide)).2.2.2.2 _ (by decide)
  have cause : 1 + 2 * ofBool carrier + ofBool oscillator < 0x10000 := by
    have := ofBool_lt carrier
    have := ofBool_lt oscillator
    omega
  have latched := (given Adr.TIM_FAULT (by decide) (by decide) (by decide)).trans fault
  rw [fails]
  refine ⟨?_, ?_, (z.giveUpFor_fault (by decide)).1, fun c => ?_, fun c => ?_⟩
  · rw [Half.get_congr latched, ← hy, Half.get_latch_cause, Nat.mod_eq_of_lt cause]
  · rw [Half.bit_congr latched, ← hy, Half.bit_latch_valid]
  · rw [Half.get_congr (given Adr.TIM_MPLL_STATUS (by decide) (by decide) (by decide)), ← hz, c]
    exact y.set_fault.1
  · rw [Half.get_congr (given Adr.TIM_CPLL_STATUS (by decide) (by decide) (by decide)), ← hz, c]
    exact y.set_fault.2

/-- Settles O27: a lock or its loss is a move of a loop; a fault moves a loop to FAULT and makes the half give up. -/
theorem loopsLockAndFail : Obligations.LoopsLockAndFail := by
  intro h s
  refine ⟨fun st => ?_, fun st => ?_, fun st wide => ?_, fun carrier oscillator live up => ?_, fun offset carrier live up link off partner => ?_,
    fun within partner valid => ?_, fun live up st => ?_, fun st => ?_⟩
  · refine completesAt_on rfl ?_
    simp only [st]
    generalize hv : (if (s.half h).refKind (s.half h).selected = 0 then 2 else 3) = v
    have two : v = 2 ∨ v = 3 := by rw [← hv]; split <;> simp
    obtain ⟨state, locked, event, held, same⟩ := Half.setMpll_moves (x := s.half h) (v := v) (by omega) (by omega)
    refine ⟨state, locked.trans ?_, event, held two, same⟩
    obtain rfl | rfl := two <;> rfl
  · have moves : exec (.mediaLockLost h) s = .next (s.on h fun x => if x.get Adr.TIM_MPLL_STATUS 0 3 = 2 ∨
        x.get Adr.TIM_MPLL_STATUS 0 3 = 3 then x.setMpll 1 else x) := by
      refine congrArg Host.Outcome.next (State.on_congr ?_)
      obtain st | st := st <;> simp only [st] <;> rfl
    refine completesAt_on moves ?_
    rw [if_pos st]
    obtain ⟨state, locked, event, -, same⟩ := Half.setMpll_moves (x := s.half h) (v := 1) (by omega) (by decide)
    exact ⟨state, locked, event, same⟩
  · refine completesAt_on rfl ?_
    simp only [st, wide, true_or, and_self, if_true]
    exact ⟨rfl, rfl⟩
  · have faults : exec (.adpllFault h carrier oscillator) s = .next (s.on h fun x => x.adpllFails carrier oscillator).lines := by
      refine congrArg (fun u : State => Host.Outcome.next u.lines) (State.on_congr ?_)
      simp only [live, up, Bool.and_self, if_true, Half.adpllFails]
    refine completes_of faults ?_
    obtain ⟨cause, valid, die, media, carrier⟩ := (s.half h).adpllFails_shows carrier oscillator
    simp only [State.lines_get _ _ (show Adr.TIM_FAULT ∉ lineRegsOf by decide), State.lines_bit _ _ (show Adr.TIM_FAULT ∉ lineRegsOf by decide),
      State.lines_get _ _ (show Adr.RDN_FAULT ∉ lineRegsOf by decide), State.lines_get _ _ (show Adr.TIM_MPLL_STATUS ∉ lineRegsOf by decide),
      State.lines_get _ _ (show Adr.TIM_CPLL_STATUS ∉ lineRegsOf by decide), State.on_half]
    exact ⟨cause, valid, die, media, carrier⟩
  · refine completesAt_calm (f := fun x => if !x.linkUp then x
      else
        let x1 := if x.refState 4 = 0 then x else x.phaseSample 4 offset
        if x1.bit Adr.TIM_CPLL_STATUS 3 then
          (x1.putBit Adr.TIM_CARRIER_ALIGN 31 true).put Adr.TIM_CARRIER_ALIGN 0 16 (unsigned 16 (satSigned 16 carrier))
        else x1) rfl live up (fun i hi => ?_) ?_
    all_goals simp only [link, off, partner, Bool.not_true, Bool.false_eq_true, if_false, if_true]
    · have apart : Adr.TIM_REF_STATUS i ≠ Adr.TIM_CARRIER_ALIGN := by simp only [Adr.TIM_REF_STATUS, Adr.TIM_CARRIER_ALIGN]; omega
      exact Half.refState_congr (by rw [Half.rd_put_ne _ _ _ _ apart, Half.rd_putBit_ne _ _ _ apart])
    · have small : unsigned 16 (satSigned 16 carrier) < 2 ^ 16 := by unfold unsigned; omega
      refine ⟨by simp, ?_, (((Writes.refl _ _).putBit 31 true (by simp)).put 0 16 _ (by simp)).onlyRegs⟩
      simpa using Nat.mod_eq_of_lt small
  · refine completesAt_on rfl ?_
    simp only [partner, valid, Bool.and_self, if_true]
    exact ⟨by simp, ((Writes.refl _ _).putBit 30 within (by simp)).onlyRegs⟩
  · refine completesAt_on rfl ?_
    rw [if_pos (by simp [live, up, st])]
    exact Half.setCpll_moves (v := 2) (by omega) (by decide)
  · refine completesAt_on rfl ?_
    simp only [st, if_true]
    exact Half.setCpll_moves (v := 1) (by omega) (by decide)

/-! O28: the PTP ports. -/

/-- A change of a PTP port's state or grandmaster (R175). -/
theorem Half.setPtp_shows {x : Half} {p st : Nat} (gm : BitVec 64) (hs : st < 16) :
    (x.setPtp p st gm).get (Adr.TIM_PTP_STATUS p) 0 4 = st ∧
      (x.setPtp p st gm).get (Adr.TIM_PTP_STATUS p) 16 8 = x.get (Adr.TIM_PTP_STATUS p) 16 8 ∧
      (p < x.tim.ptp.length → (x.setPtp p st gm).grandmaster p = gm) ∧
      (p < 2 → x.get (Adr.TIM_PTP_STATUS p) 0 4 ≠ st → (x.setPtp p st gm).bit Adr.TIM_EVENT (8 + p) = true) ∧
      SameRegs [Adr.TIM_PTP_STATUS p, Adr.TIM_EVENT] x (x.setPtp p st gm) := by
  have apart : Adr.TIM_PTP_STATUS p ≠ Adr.TIM_EVENT := by simp only [Adr.TIM_PTP_STATUS, Adr.TIM_EVENT]; omega
  unfold Half.setPtp
  split
  · next same => exact ⟨same.1, rfl, fun _ => same.2, fun _ h => absurd same.1 h, .refl _ x⟩
  · refine ⟨?_, ?_, fun hp => ?_, fun hp _ => Half.bit_event_self _ _ _ (by omega), fun a ha => ?_⟩
    · simp [apart]
      omega
    · simp [apart]
    · have same : ∀ (y : Half) (b : Nat), (y.event Adr.TIM_EVENT b).grandmaster p = y.grandmaster p := fun _ _ => rfl
      rw [same]
      exact congrArg PtpPort.gm (getAt_modAt _ _ _ _ hp)
    · simp only [List.mem_cons, List.not_mem_nil, or_false, not_or] at ha
      simp [ha]

/-- A change of a PTP port whose reference is disabled changes no reference (R178). -/
theorem Half.refEval_ptp {x : Half} {p : Nat} (hp : p < 2) (off : x.bit (Adr.TIM_REF_CFG p) 0 = false) (state : x.refState p = 0)
    {y : Half} (hy : SameRegs [Adr.TIM_PTP_STATUS p, Adr.TIM_EVENT] x y) : y.refEval false p = y ∧ ∀ i, y.refState i = x.refState i := by
  have apart : ∀ a, a < 0x2000C ∨ 0x20100 ≤ a → a ∉ [Adr.TIM_PTP_STATUS p, Adr.TIM_EVENT] := by
    intro a ha
    simp only [List.mem_cons, List.not_mem_nil, or_false, Adr.TIM_PTP_STATUS, Adr.TIM_EVENT]
    omega
  have states : ∀ i, y.refState i = x.refState i := fun i =>
    Half.refState_congr (hy _ (apart _ (by simp only [Adr.TIM_REF_STATUS]; omega)))
  refine ⟨Half.refEval_disabled false (by omega) ?_ ((states p).trans state), states⟩
  rw [hy.bit (apart _ (by simp only [Adr.TIM_REF_CFG]; omega))]
  exact off

/-- A message that the protocol answers with a state of the port: Announce notes the grandmaster and stepsRemoved (R174, R200). -/
def Half.ptpTakes (x : Half) (p : Nat) (m : PtpMsg) (next : Nat) : Half :=
  let announce := (m.type : Nat) == 0xB && (next == 9 || next == 8)
  (if announce then x.put (Adr.TIM_PTP_STATUS p) 16 8 (min 255 m.steps.toNat) else x).setPtp p next
    (if announce then m.grandmaster else x.grandmaster p)

theorem Half.ptpTakes_shows (x : Half) {p : Nat} (hp : p < 2) (m : PtpMsg) {next : Nat} (hn : next < 10) (two : x.tim.ptp.length = 2) :
    (x.ptpTakes p m next).get (Adr.TIM_PTP_STATUS p) 0 4 = next ∧
      (m.type.val = 0xB → next = 9 → (x.ptpTakes p m next).grandmaster p = m.grandmaster ∧
        (x.ptpTakes p m next).get (Adr.TIM_PTP_STATUS p) 16 8 = min 255 m.steps.toNat) ∧
      (x.get (Adr.TIM_PTP_STATUS p) 0 4 ≠ next → (x.ptpTakes p m next).bit Adr.TIM_EVENT (8 + p) = true) ∧
      SameRegs [Adr.TIM_PTP_STATUS p, Adr.TIM_EVENT] x (x.ptpTakes p m next) := by
  have takes : ∃ (y : Half) (gm : BitVec 64), x.ptpTakes p m next = y.setPtp p next gm ∧ y.tim = x.tim ∧
      SameRegs [Adr.TIM_PTP_STATUS p, Adr.TIM_EVENT] x y ∧ y.get (Adr.TIM_PTP_STATUS p) 0 4 = x.get (Adr.TIM_PTP_STATUS p) 0 4 ∧
      (m.type.val = 0xB → next = 9 → gm = m.grandmaster ∧ y.get (Adr.TIM_PTP_STATUS p) 16 8 = min 255 m.steps.toNat) := by
    refine ⟨_, _, rfl, ?_, ?_, ?_, fun hm h9 => ?_⟩
    · split <;> rfl
    · split
      · exact ((Writes.refl _ x).put 16 8 _ (by simp)).sameRegs
      · exact .refl _ x
    · split
      · exact Half.get_put_field _ _ 16 8 _ 0 4 (by decide) (by decide)
      · rfl
    · have announce : ((m.type : Nat) == 0xB && (next == 9 || next == 8)) = true := by simp [hm, h9]
      rw [if_pos announce, if_pos announce]
      refine ⟨rfl, (Half.get_put_self _ _ 16 8 _ (by decide)).trans ?_⟩
      omega
  obtain ⟨y, gm, e, tim, same, before, announced⟩ := takes
  obtain ⟨state, steps, grand, event, moved⟩ := Half.setPtp_shows (x := y) (p := p) (st := next) gm (by omega)
  rw [e]
  refine ⟨state, fun hm h9 => ?_, fun hne => event hp (by rwa [before]), same.trans moved⟩
  obtain ⟨hg, hs⟩ := announced hm h9
  exact ⟨(grand (by rw [tim, two]; exact hp)).trans hg, steps.trans hs⟩

/-- The time counter restarts, at a free time (R175). -/
def Half.restartPtp (x : Half) : Half :=
  if x.tim.cd4 then x
  else
    let (ns, x1) := x.fresh 30
    let (lo, x2) := x1.fresh 32
    let (hi, x3) := x2.fresh 16
    let x4 := x3.onTim fun t => { t with cd4 := true }
    (((x4.wrNat (Adr.TIM_PTP_TIME 0) (ns.toNat % 1000000000)).wr (Adr.TIM_PTP_TIME 1) lo).wrNat (Adr.TIM_PTP_TIME 2)
      hi.toNat).refEval false 0 |>.refEval false 1

theorem Half.restartPtp_shows {x : Half} (lost : x.tim.cd4 = false) (state0 : x.refState 0 = 0) (state1 : x.refState 1 = 0)
    (off0 : x.bit (Adr.TIM_REF_CFG 0) 0 = false) (off1 : x.bit (Adr.TIM_REF_CFG 1) 0 = false) :
    x.restartPtp.tim.cd4 = true ∧ SameRegs [Adr.TIM_PTP_TIME 0, Adr.TIM_PTP_TIME 1, Adr.TIM_PTP_TIME 2] x x.restartPtp := by
  have restarts : ∃ y : Half, x.restartPtp = (y.refEval false 0).refEval false 1 ∧ y.tim.cd4 = true ∧
      SameRegs [Adr.TIM_PTP_TIME 0, Adr.TIM_PTP_TIME 1, Adr.TIM_PTP_TIME 2] x y := by
    unfold Half.restartPtp
    rw [lost, if_neg Bool.false_ne_true]
    refine ⟨_, rfl, rfl, fun a ha => ?_⟩
    simp only [List.mem_cons, List.not_mem_nil, or_false, not_or] at ha
    rw [Half.rd_wrNat_ne _ _ ha.2.2, Half.rd_wr_ne _ _ ha.2.1, Half.rd_wrNat_ne _ _ ha.1]
    rfl
  obtain ⟨y, e, cd4, same⟩ := restarts
  rw [e, Half.refEval_disabled (x := y) false (by decide) ((same.bit (by decide) 0).trans off0) ((same.get (by decide) 0 3).trans state0),
    Half.refEval_disabled (x := y) false (by decide) ((same.bit (by decide) 0).trans off1) ((same.get (by decide) 0 3).trans state1)]
  exact ⟨cd4, same⟩

/-- Settles O28: of a port whose reference is disabled nothing but its own state moves, so the selector stays. -/
theorem ptpPortsFollowTheProtocol : Obligations.PtpPortsFollowTheProtocol := by
  intro h p s
  refine ⟨fun m next live up state off two hears allowed => ?_, fun next live up state off allowed => ?_,
    fun type live up en sends on link two g n port => ?_, fun live up lost state0 state1 off0 off1 => ?_, fun rise => ?_⟩
  · have shown := (s.half h).ptpTakes_shows p.isLt m next.isLt two
    have ⟨_, _, _, same⟩ := shown
    obtain ⟨eval, states⟩ := Half.refEval_ptp p.isLt off state same
    have takes : exec (.ptpMessageReceive h p m next) s = .next (s.refChange h fun x =>
      if x.ptpHears p m && x.ptpAllowed p next then (x.ptpTakes p m next).refEval false p else x) := rfl
    refine completesAt_calm takes live up (fun i _ => ?_) ?_ <;> simp only [hears, allowed, Bool.and_self, if_true, eval]
    · exact states i
    · exact shown
  · obtain ⟨state', -, -, -, same⟩ := Half.setPtp_shows (x := s.half h) (p := p) (st := next)
      (if next = (6 : Nat) then 0 else (s.half h).grandmaster p) (by omega)
    obtain ⟨eval, states⟩ := Half.refEval_ptp p.isLt off state same
    refine completesAt_calm (f := fun x => if x.ptpAllowed p next then
      (x.setPtp p next (if next = (6 : Nat) then 0 else x.grandmaster p)).refEval false p else x) rfl live up (fun i _ => ?_) ?_ <;>
      simp only [allowed, if_true, eval]
    · exact states i
    · exact ⟨state', same⟩
  · have inside : (p : Nat) < (s.half h).macs.length := by
      rw [two]
      exact p.isLt
    have here : getAt (s.half h).tim.ptp p ⟨0, 0⟩ = ⟨g, n⟩ := by simp [getAt, port]
    refine completesAt_on rfl ?_
    simp only [live, up, en, sends, Bool.and_self, if_true, here, Half.fwSend_of_up on link]
    refine ⟨?_, ?_, rfl⟩
    · simp [Half.onMac, modAt, port]
    · exact Half.mac_onMac _ _ inside
  · obtain ⟨returns, same⟩ := Half.restartPtp_shows lost state0 state1 off0 off1
    refine completesAt_calm (f := Half.restartPtp) rfl live up (fun i _ => Half.refState_congr (same _ ?_)) ⟨returns, same⟩
    simp only [List.mem_cons, List.not_mem_nil, or_false, Adr.TIM_REF_STATUS, Adr.TIM_PTP_TIME]
    omega
  · exact completesAt_on rfl rfl

end Sys2Proof.Machine
end

section
/-! O1, O2, O30 and O31: the queue of commands, reset, plan commits and the audio graph's intervals (R205 to R225). -/

namespace Sys2Proof.Machine

open Sys2Proof

/-! Fields and bits of a half with another part changed. -/

section parts
variable (x : Half) (a b lo n : Nat)

@[simp] theorem Half.onStore_get (f : StoreSt → StoreSt) : (x.onStore f).get a lo n = x.get a lo n := rfl
@[simp] theorem Half.onStore_bit (f : StoreSt → StoreSt) : (x.onStore f).bit a b = x.bit a b := rfl
@[simp] theorem Half.onGraph_get (f : GraphSt → GraphSt) : (x.onGraph f).get a lo n = x.get a lo n := rfl
@[simp] theorem Half.onGraph_bit (f : GraphSt → GraphSt) : (x.onGraph f).bit a b = x.bit a b := rfl
@[simp] theorem Half.onGust_get (f : GustSt → GustSt) : (x.onGust f).get a lo n = x.get a lo n := rfl
@[simp] theorem Half.onGust_bit (f : GustSt → GustSt) : (x.onGust f).bit a b = x.bit a b := rfl
@[simp] theorem Half.onAlarm_get (f : AlarmSt → AlarmSt) : (x.onAlarm f).get a lo n = x.get a lo n := rfl
@[simp] theorem Half.onAlarm_bit (f : AlarmSt → AlarmSt) : (x.onAlarm f).bit a b = x.bit a b := rfl
@[simp] theorem Half.onOut_get (f : OutSt → OutSt) : (x.onOut f).get a lo n = x.get a lo n := rfl
@[simp] theorem Half.onOut_bit (f : OutSt → OutSt) : (x.onOut f).bit a b = x.bit a b := rfl
@[simp] theorem Half.onRec_get (f : RecSt → RecSt) : (x.onRec f).get a lo n = x.get a lo n := rfl
@[simp] theorem Half.onRec_bit (f : RecSt → RecSt) : (x.onRec f).bit a b = x.bit a b := rfl
@[simp] theorem Half.onRetired_rd (f : RetireBank → RetireBank) : (x.onRetired f).rd a = x.rd a := rfl
@[simp] theorem Half.onRetired_get (f : RetireBank → RetireBank) : (x.onRetired f).get a lo n = x.get a lo n := rfl
@[simp] theorem Half.onRetired_bit (f : RetireBank → RetireBank) : (x.onRetired f).bit a b = x.bit a b := rfl

end parts

/-- A change of the other half leaves this one. -/
@[simp] theorem State.on_other_half (s : State) (h : HalfId) (f : Half → Half) : (s.on h.other f).half h = s.half h := by cases h <;> rfl

/-- Settles O1: a step takes the front command off the queue and is `exec` of it. -/
theorem stepRunsFrontCommand : Obligations.StepRunsFrontCommand := fun _ _ _ => rfl

theorem State.reset_half (h : HalfId) : State.reset.half h = Half.init h := by cases h <;> rfl

theorem Half.init_up (h : HalfId) (r : Region) : (Half.init h).up r = false := by cases r <;> rfl

theorem Half.init_role (h : HalfId) : (Half.init h).role = .offline := by cases h <;> decide +kernel

/-- Settles O2: both halves come up as `Half.init` has it, with no register listed. -/
theorem resetState : Obligations.ResetState := by
  refine ⟨rfl, fun c hc => absurd hc (by simp [State.reset]), rfl, fun h => ?_⟩
  have hg : State.reset.gate h = false := by cases h <;> rfl
  rw [State.reset_half]
  exact ⟨rfl, Half.init_role h, rfl, rfl, rfl, hg, fun _ => rfl, rfl, rfl, Half.init_up h⟩

/-! Copies of windows of sparse storage (R208). -/

theorem lookAt_congr {α : Type} {d e : Nat → α} (m : List (Nat × α)) {a : Nat} (h : d a = e a) : lookAt d m a = lookAt e m a := by
  induction m with
  | nil => exact h
  | cons p m ih => simp only [lookAt, ih]

theorem lookAt_filter {α : Type} (d : Nat → α) (p : Nat → Bool) (m : List (Nat × α)) (a : Nat) :
    lookAt d (m.filter fun q => p q.1) a = if p a then lookAt d m a else d a := by
  induction m with
  | nil => simp [lookAt]
  | cons q m ih =>
    obtain ⟨j, w⟩ := q
    simp only [List.filter_cons]
    by_cases hj : p j = true
    · by_cases ha : a = j
      · simp [lookAt, ha, hj]
      · simp [lookAt, ha, hj, ih]
    · by_cases ha : a = j
      · subst ha; simp [hj, ih]
      · simp [lookAt, ha, hj, ih]

/-- Inserting the pairs of a rising list: each index it lists reads as there. -/
theorem lookAt_foldl_insertAt {α : Type} (d : Nat → α) {src : List (Nat × α)} (hs : rising src = true) (m : List (Nat × α)) (a : Nat) :
    lookAt d (src.foldl (fun m p => insertAt p.1 p.2 m) m) a = lookAt (lookAt d m) src a := by
  induction src generalizing m with
  | nil => rfl
  | cons q src ih =>
    obtain ⟨j, w⟩ := q
    obtain ⟨above, hr⟩ := (rising_cons j w src).1 hs
    rw [List.foldl_cons, ih hr]
    by_cases ha : a = j
    · subst ha
      rw [lookAt_below _ above, lookAt_insertAt_self]
      simp [lookAt]
    · rw [lookAt_congr (e := lookAt d m) src (lookAt_insertAt_ne d w m ha)]
      simp [lookAt, ha]

theorem rising_filter {α : Type} [DecidableEq α] (p : Nat → Bool) {m : List (Nat × α)} (h : rising m = true) :
    rising (m.filter fun q => p q.1) = true := by
  induction m with
  | nil => rfl
  | cons q m ih =>
    obtain ⟨j, w⟩ := q
    obtain ⟨above, hr⟩ := (rising_cons j w m).1 h
    simp only [List.filter_cons]
    split
    · exact (rising_cons j w _).2 ⟨fun x hx => above x (List.mem_of_mem_filter hx), ih hr⟩
    · exact ih hr

/-- A window replaced by the same window of another list reads as there. -/
theorem lookAt_copyWindow (d : Nat → Word) {src : List (Nat × Word)} (hs : rising src = true) (regs : List (Nat × Word)) (base size a : Nat) :
    lookAt d (copyWindow regs base size 0 src) a = if base ≤ a ∧ a < base + size then lookAt d src a else lookAt d regs a := by
  have hf := rising_filter (fun k => decide (base ≤ k ∧ k < base + size)) hs
  simp only [copyWindow, Nat.add_zero]
  rw [lookAt_foldl_insertAt d hf, lookAt_filter _ (fun k => decide (base ≤ k ∧ k < base + size))]
  have hd : lookAt d (dropWhere (fun k => decide (base ≤ k ∧ k < base + size)) regs) a = _ :=
    lookAt_filter d (fun k => !decide (base ≤ k ∧ k < base + size)) regs a
  by_cases ha : base ≤ a ∧ a < base + size
  · simp only [ha, and_self, decide_true, if_true]
    refine lookAt_congr src ?_
    rw [hd]
    simp [ha]
  · simp only [ha, decide_false, Bool.false_eq_true, if_false]
    rw [hd]
    simp [ha]

/-- Every page of registers lies below the tables of the map or above the graph's (R53, R620). -/
theorem findPage_none_of {ps : List PageDef} {a : Nat} (h : ∀ p ∈ ps, ¬(p.base ≤ a ∧ (a - p.base) / p.stride < p.count)) :
    findPage ps a = none := by
  induction ps with
  | nil => rfl
  | cons p ps ih =>
    rw [findPage, if_neg (h p List.mem_cons_self)]
    exact ih fun q hq => h q (List.mem_cons_of_mem p hq)

theorem pages_apart : ∀ p ∈ pages, 0 < p.stride ∧ (p.base + p.stride * p.count ≤ 0x1000000 ∨ 0x5000000 ≤ p.base) := by decide

/-- A word of a table resets to 0. -/
theorem findTable_reset {ts : List TableDef} {a : Nat} {l : Loc} (h : findTable ts a = some l) (k : HalfId) (i j : Nat) :
    l.reg.reset k i j = 0 := by
  induction ts with
  | nil => simp [findTable] at h
  | cons t ts ih =>
    rw [findTable] at h
    split at h
    · obtain rfl := Option.some.inj h; rfl
    · exact ih h

/-- A word of the graph's banks and the tables beside them reads 0 after reset at either half. -/
theorem resetWord_table (k : HalfId) {a : Nat} (h1 : 0x1000000 ≤ a) (h2 : a < 0x5000000) : resetWord k a = 0 := by
  have hp : findPage pages a = none := by
    refine findPage_none_of fun p hp hin => ?_
    obtain ⟨pos, far | far⟩ := pages_apart p hp
    · have hk : a - p.base < p.count * p.stride := (Nat.div_lt_iff_lt_mul pos).1 hin.2
      rw [Nat.mul_comm] at hk
      omega
    · omega
  rw [resetWord, locate, hp]
  cases ht : findTable tables a with
  | none => rfl
  | some l => simp [findTable_reset ht]

/-! The staging banks of the graph (R208, R224). -/

theorem lookAt_copyBanks (d : Nat → Word) {src : List (Nat × Word)} (hs : rising src = true) (banks : List (Nat × Nat × Nat))
    (regs : List (Nat × Word)) (a : Nat) :
    lookAt d (banks.foldl (fun m b => copyWindow m b.1 b.2.1 0 src) regs) a =
      if (banks.any fun b => decide (b.1 ≤ a ∧ a < b.1 + b.2.1)) = true then lookAt d src a else lookAt d regs a := by
  induction banks generalizing regs with
  | nil => rfl
  | cons b banks ih =>
    rw [List.foldl_cons, ih, lookAt_copyWindow d hs]
    by_cases hb : b.1 ≤ a ∧ a < b.1 + b.2.1
    · simp [hb]
    · simp only [List.any_cons, hb, decide_false, Bool.false_or, if_false]

theorem inStagingBank_range {a : Nat} (h : inStagingBank a = true) : 0x3000000 ≤ a ∧ a < 0x4020000 := by
  simp only [inStagingBank, stagingBanks, List.any_cons, List.any_nil, Bool.or_false, Bool.or_eq_true, decide_eq_true_eq] at h
  omega

/-- A staged copy of the partner's plan reads as the partner's in the staging banks, and as before elsewhere. -/
theorem Half.takeStaging_rd (x act : Half) (hact : act.regsWf) (a : Nat) :
    (x.takeStaging act false).rd a = if inStagingBank a = true then act.rd a else x.rd a := by
  have hs : rising act.regs = true := by
    simp only [Half.regsWf, canonical, Bool.and_eq_true] at hact
    exact hact.1
  have copied := lookAt_copyBanks (resetWord x.id) hs stagingBanks x.regs a
  rw [show (x.takeStaging act false).rd a = lookAt (resetWord x.id) _ a from rfl]
  refine copied.trans ?_
  rw [← inStagingBank]
  split
  · next hin =>
    obtain ⟨low, high⟩ := inStagingBank_range hin
    exact lookAt_congr _ (by rw [resetWord_table _ (by omega) (by omega), resetWord_table _ (by omega) (by omega)])
  · rfl

/-! Submissions (R223 to R225). -/

theorem Half.pend_writes (x : Half) {p : Submission} (hp : x.graph.sub = some p) (t : Nat) :
    (x.pend t).graph.sub = some { p with target := some t } ∧ (x.pend t).commitState = 3 ∧
      (x.pend t).rd Adr.GRF_COMMIT_TARGET = BitVec.ofNat 32 t ∧
      SameRegs [Adr.GRF_STATUS, Adr.GRF_COMMIT_TARGET] x (x.pend t) := by
  simp only [Half.pend, hp]
  refine ⟨rfl, by simp [Half.commitState], by simp, fun a ha => ?_⟩
  simp only [List.mem_cons, List.not_mem_nil, or_false, not_or] at ha
  simp [ha]

theorem Half.rejectPlan_shows (x : Half) (r : Reject) :
    (x.rejectPlan r).commitState = 0 ∧ (x.rejectPlan r).graph.sub = none ∧
      (x.rejectPlan r).rd Adr.GRF_COMMIT_STATUS = BitVec.ofNat 32 (2 ^ 24 * r.reason + 2 ^ 23 + 2 ^ 20 * r.kind + r.detail) ∧
      (x.rejectPlan r).bit Adr.GRF_EVENT 1 = true ∧
      SameRegs [Adr.GRF_STATUS, Adr.GRF_COMMIT_STATUS, Adr.GRF_EVENT] x (x.rejectPlan r) := by
  refine ⟨?_, rfl, ?_, ?_, fun a ha => ?_⟩
  · simp [Half.rejectPlan, Half.endSubmission, Half.showReject, Half.commitState]
  · simp [Half.rejectPlan, Half.endSubmission, Half.showReject]
  · simp [Half.rejectPlan, Half.showReject]
  · simp only [List.mem_cons, List.not_mem_nil, or_false, not_or] at ha
    simp [Half.rejectPlan, Half.endSubmission, Half.showReject, ha]

/-- `PENDING_ID` takes the number after the plan in force, modulo 2^32. -/
theorem Half.wrap_pending (x : Half) (id : Word) :
    (x.wrap Adr.GRF_PENDING_ID 0 32 (id.toNat + 1 + (2 ^ 32 - (x.rd Adr.GRF_PENDING_ID).toNat))).rd Adr.GRF_PENDING_ID = id + 1 := by
  have := (x.rd Adr.GRF_PENDING_ID).isLt
  have := id.isLt
  apply BitVec.eq_of_toNat_eq
  have one : BitVec.toNat (1 : Word) = 1 := rfl
  simp only [Half.read_wrap, if_true, setBits_toNat _ 0 32 _ (by decide), Half.get, getBits, BitVec.toNat_add, one, pow_zero, Nat.div_one,
    Nat.mod_one, Nat.one_mul, Nat.zero_add, Nat.reducePow]
  omega

theorem planValidation_rejects {h : HalfId} (ofs : BlockOfs) {s : State} {r : Reject} (live : (s.half h).live = true)
    (up : (s.half h).up .processing = true) (st : (s.half h).commitState = 1) (sub : (s.half h).graph.sub = none)
    (acc : (s.half h).acceptsM = true) (hr : (s.half h).checkPlan = .error r) :
    CompletesAt (.planValidationComplete h ofs) h s fun x => x.commitState = 0 ∧ x.graph.sub = none ∧
      x.rd Adr.GRF_COMMIT_STATUS = BitVec.ofNat 32 (2 ^ 24 * r.reason + 2 ^ 23 + 2 ^ 20 * r.kind + r.detail) ∧
      x.bit Adr.GRF_EVENT 1 = true ∧ SameRegs [Adr.GRF_STATUS, Adr.GRF_COMMIT_STATUS, Adr.GRF_EVENT] (s.half h) x := by
  refine completesAt_on rfl ?_
  simp only [live, up, st, sub, acc, Half.validated, hr, beq_self_eq_true, Option.isNone_none, Bool.and_self, if_true]
  exact (s.half h).rejectPlan_shows r

theorem planValidation_waits_for_boundary {h : HalfId} (ofs : BlockOfs) {s : State} {pl : Placement} (live : (s.half h).live = true)
    (up : (s.half h).up .processing = true) (st : (s.half h).commitState = 1) (sub : (s.half h).graph.sub = none)
    (acc : (s.half h).acceptsM = true) (hr : (s.half h).checkPlan = .ok pl) (alone : (s.half h).standbyPresent = false) :
    CompletesAt (.planValidationComplete h ofs) h s fun x => x.commitState = 3 ∧
      x.graph.sub = some ⟨some ((s.half h).block + if ofs.val = 0 then 2 else 3), pl⟩ ∧
      x.rd Adr.GRF_COMMIT_TARGET = BitVec.ofNat 32 ((s.half h).block + if ofs.val = 0 then 2 else 3) ∧
      x.rd Adr.GRF_PENDING_ID = (s.half h).rd Adr.GRF_PLAN_ID + 1 ∧
      SameRegs [Adr.GRF_STATUS, Adr.GRF_COMMIT_TARGET, Adr.GRF_PENDING_ID] (s.half h) x := by
  refine completesAt_on rfl ?_
  simp only [live, up, st, sub, acc, Half.validated, hr, beq_self_eq_true, Option.isNone_none, Bool.and_self, if_true, alone,
    Bool.false_eq_true, if_false]
  generalize s.half h = x
  obtain ⟨hsub, hst, htgt, hsame⟩ := Half.pend_writes ((x.onGraph fun g => { g with sub := some ⟨none, pl⟩ }).wrap Adr.GRF_PENDING_ID 0 32
    ((x.rd Adr.GRF_PLAN_ID).toNat + 1 + (2 ^ 32 - (x.rd Adr.GRF_PENDING_ID).toNat))) (p := ⟨none, pl⟩) rfl (x.targetAfter ofs)
  refine ⟨hst, hsub, htgt, ?_, fun a ha => ?_⟩
  · rw [hsame _ (by simp)]
    exact (x.onGraph fun g => { g with sub := some ⟨none, pl⟩ }).wrap_pending (x.rd Adr.GRF_PLAN_ID)
  · simp only [List.mem_cons, List.not_mem_nil, or_false, not_or] at ha
    rw [hsame a (by simp [ha])]
    simp [ha]

theorem planValidation_asks_standby {h : HalfId} (ofs : BlockOfs) {s : State} {pl : Placement} (live : (s.half h).live = true)
    (up : (s.half h).up .processing = true) (st : (s.half h).commitState = 1) (sub : (s.half h).graph.sub = none)
    (acc : (s.half h).acceptsM = true) (hr : (s.half h).checkPlan = .ok pl) (two : (s.half h).standbyPresent = true) :
    CompletesAt (.planValidationComplete h ofs) h s fun x => x.commitState = 2 ∧ x.graph.sub = some ⟨none, pl⟩ ∧
      x.graph.recordOut = true ∧ x.rd Adr.GRF_PENDING_ID = (s.half h).rd Adr.GRF_PLAN_ID + 1 ∧
      SameRegs [Adr.GRF_STATUS, Adr.GRF_PENDING_ID] (s.half h) x := by
  refine completesAt_on rfl ?_
  simp only [live, up, st, sub, acc, Half.validated, hr, beq_self_eq_true, Option.isNone_none, Bool.and_self, if_true, two]
  generalize s.half h = x
  refine ⟨by simp [Half.commitState], rfl, rfl, ?_, fun a ha => ?_⟩
  · rw [Half.onGraph_rd, Half.rd_put_ne _ _ _ _ (by decide)]
    exact (x.onGraph fun g => { g with sub := some ⟨none, pl⟩ }).wrap_pending (x.rd Adr.GRF_PLAN_ID)
  · simp only [List.mem_cons, List.not_mem_nil, or_false, not_or] at ha
    simp [ha]

/-! The standby's part of a commit (R223, R224). -/

/-- The standby's answer to a commit record, by its own checks. -/
def Half.answerRecord (x act : Half) : Half :=
  match x.checkPlan with
  | .ok pl =>
    ((x.onGraph fun g => { g with sub := some ⟨none, pl⟩, answer := some true }).put Adr.GRF_STATUS 0 3 1).wr
      Adr.GRF_PENDING_ID (act.rd Adr.GRF_PENDING_ID)
  | .error _ => (x.endSubmission).onGraph fun g => { g with answer := some false }

theorem Half.answerRecord_rd (x act : Half) {a : Nat} (h1 : a ≠ Adr.GRF_STATUS) (h2 : a ≠ Adr.GRF_PENDING_ID) :
    (x.answerRecord act).rd a = x.rd a := by
  unfold Half.answerRecord
  split
  · simp [h1, h2]
  · simp [Half.endSubmission, h1]

theorem commitRecordReceive_answers (h : HalfId) (s : State) (out : (s.half h.other).graph.recordOut = true)
    (live : (s.half h).live = true) (up : (s.half h).up .processing = true) (link : (s.half h).linkUp = true)
    (role : (s.half h).role = .standby) (wf : (s.half h.other).regsWf) :
    Completes (.commitRecordReceive h) s fun t =>
      t.half h.other = (s.half h.other).onGraph (fun g => { g with recordOut := false }) ∧
      (∀ a, inStagingBank a = true → (t.half h).rd a = (s.half h.other).rd a) ∧
      (∀ a, inStagingBank a = false → a ≠ Adr.GRF_STATUS → a ≠ Adr.GRF_PENDING_ID → (t.half h).rd a = (s.half h).rd a) ∧
      (∀ pl, ((s.half h).takeStaging (s.half h.other) false).checkPlan = .ok pl →
        (t.half h).graph.answer = some true ∧ (t.half h).graph.sub = some ⟨none, pl⟩ ∧
        (t.half h).rd Adr.GRF_PENDING_ID = (s.half h.other).rd Adr.GRF_PENDING_ID) ∧
      (∀ r, ((s.half h).takeStaging (s.half h.other) false).checkPlan = .error r →
        (t.half h).graph.answer = some false ∧ (t.half h).graph.sub = none ∧ (t.half h).commitState = 0) := by
  have run : exec (.commitRecordReceive h) s =
      .next ((s.setHalf h (((s.half h).takeStaging (s.half h.other) false).answerRecord (s.half h.other))).on h.other
        fun z => z.onGraph fun g => { g with recordOut := false }) := by
    have cond : ((s.half h.other).graph.recordOut && (s.half h).live && (s.half h).up .processing && (s.half h).linkUp &&
      (s.half h).role == .standby) = true := by simp [out, live, up, link, role]
    exact congrArg Host.Outcome.next (if_pos cond)
  refine completes_of run ?_
  rw [State.on_other_half, State.setHalf_half]
  have copied := (s.half h).takeStaging_rd (s.half h.other) wf
  refine ⟨by rw [State.on_half, State.setHalf_other], fun a ha => ?_, fun a ha h1 h2 => ?_, fun pl hp => ?_, fun r hr => ?_⟩
  · obtain ⟨low, -⟩ := inStagingBank_range ha
    rw [Half.answerRecord_rd _ _ (by simp only [Adr.GRF_STATUS]; omega) (by simp only [Adr.GRF_PENDING_ID]; omega), copied, if_pos ha]
  · rw [Half.answerRecord_rd _ _ h1 h2, copied, if_neg (by simp [ha])]
  · simp only [Half.answerRecord, hp]
    exact ⟨rfl, rfl, Half.rd_wr_self ..⟩
  · simp only [Half.answerRecord, hr]
    exact ⟨rfl, rfl, by simp [Half.endSubmission, Half.commitState]⟩

/-- The answer that the active half h waits for is met by its submission. -/
theorem State.awaits_of {s : State} {h : HalfId} {p : Submission} (st : (s.half h).commitState = 2)
    (sub : (s.half h).graph.sub = some p) : s.awaits h = true := by simp [State.awaits, st, sub]

theorem standbyPlanAccept_pends (h : HalfId) (ofs : BlockOfs) (s : State) {p q : Submission} (st : (s.half h).commitState = 2)
    (sub : (s.half h).graph.sub = some p) (sub' : (s.half h.other).graph.sub = some q)
    (ans : (s.half h.other).graph.answer = some true) :
    Completes (.standbyPlanAccept h ofs) s fun t =>
      (t.half h).graph.sub = some { p with target := some ((s.half h).block + if ofs.val = 0 then 2 else 3) } ∧
      (t.half h.other).graph.sub = some { q with target := some ((s.half h).block + if ofs.val = 0 then 2 else 3) } ∧
      ∀ k, (t.half k).commitState = 3 ∧
        (t.half k).rd Adr.GRF_COMMIT_TARGET = BitVec.ofNat 32 ((s.half h).block + if ofs.val = 0 then 2 else 3) ∧
        SameRegs [Adr.GRF_STATUS, Adr.GRF_COMMIT_TARGET] (s.half k) (t.half k) := by
  have cond : (s.awaits h && (s.half h.other).graph.answer == some true) = true := by simp [State.awaits_of st sub, ans]
  refine completes_of (congrArg Host.Outcome.next (if_pos cond)) ?_
  obtain ⟨hsub, hst, htgt, hsame⟩ := (s.half h).pend_writes sub ((s.half h).targetAfter ofs)
  obtain ⟨hsub', hst', htgt', hsame'⟩ := (s.half h.other).pend_writes sub' ((s.half h).targetAfter ofs)
  have mine : ∀ f g : Half → Half, (((s.on h f).on h.other g).half h) = f (s.half h) := fun f g => by
    rw [State.on_other_half, State.on_half]
  have other : ∀ f g : Half → Half, (((s.on h f).on h.other g).half h.other) = g (s.half h.other) := fun f g => by
    rw [State.on_half, State.on_other]
  refine ⟨by rw [mine]; exact hsub, by rw [other]; exact hsub', fun k => ?_⟩
  obtain rfl | rfl : k = h ∨ k = h.other := by cases k <;> cases h <;> simp [HalfId.other]
  · rw [mine]; exact ⟨hst, htgt, hsame⟩
  · rw [other]; exact ⟨hst', htgt', hsame'⟩

/-- What the active half shows as it goes on without its standby (R223). -/
theorem Half.pend_alone (x : Half) {p : Submission} (sub : x.graph.sub = some p) (t : Nat) :
    ((x.pend t).latch Adr.GRF_FAULT 1).commitState = 3 ∧
      ((x.pend t).latch Adr.GRF_FAULT 1).graph.sub = some { p with target := some t } ∧
      ((x.pend t).latch Adr.GRF_FAULT 1).bit Adr.GRF_FAULT 31 = true ∧ ((x.pend t).latch Adr.GRF_FAULT 1).get Adr.GRF_FAULT 0 16 = 1 ∧
      SameRegs [Adr.GRF_STATUS, Adr.GRF_COMMIT_TARGET, Adr.GRF_FAULT] x ((x.pend t).latch Adr.GRF_FAULT 1) := by
  obtain ⟨hsub, hst, -, hsame⟩ := x.pend_writes sub t
  refine ⟨?_, hsub, Half.bit_latch_valid .., Half.get_latch_cause .., fun a ha => ?_⟩
  · rw [Half.commitState, Half.get_latch_ne _ _ _ _ _ _ (by decide)]; exact hst
  · simp only [List.mem_cons, List.not_mem_nil, or_false, not_or] at ha
    rw [Half.rd_latch_ne _ _ ha.2.2, hsame a (by simp [ha])]

/-- The active half without its standby's answer; the standby's part of the submission ends where it has not answered. -/
def Half.partEnds (x : Half) : Half :=
  match x.role with
  | .standby => if x.graph.answer == some false then x else x.endSubmission
  | _ => x

theorem Half.partEnds_of_refused {x : Half} (h : x.graph.answer = some false) : x.partEnds = x := by
  unfold Half.partEnds
  split
  · exact if_pos (by rw [h]; rfl)
  · rfl

theorem standbyPlanReject_pends (h : HalfId) (ofs : BlockOfs) (s : State) {p : Submission} (st : (s.half h).commitState = 2)
    (sub : (s.half h).graph.sub = some p) (ans : (s.half h.other).graph.answer = some false) :
    CompletesAt (.standbyPlanReject h ofs) h s fun x => x.commitState = 3 ∧
      x.graph.sub = some { p with target := some ((s.half h).block + if ofs.val = 0 then 2 else 3) } ∧
      x.bit Adr.GRF_FAULT 31 = true ∧ x.get Adr.GRF_FAULT 0 16 = 1 ∧
      SameRegs [Adr.GRF_STATUS, Adr.GRF_COMMIT_TARGET, Adr.GRF_FAULT] (s.half h) x := by
  have cond : (s.awaits h && (s.half h.other).graph.answer == some false) = true := by simp [State.awaits_of st sub, ans]
  refine completesAt_on (f := fun x => (x.pend (x.targetAfter ofs)).latch Adr.GRF_FAULT 1) ?_
    ((s.half h).pend_alone sub ((s.half h).targetAfter ofs))
  refine congrArg Host.Outcome.next ((if_pos cond).trans ?_)
  refine State.on_eq_self (f := Half.partEnds) ?_
  rw [State.on_other]
  exact Half.partEnds_of_refused ans

theorem standbyAnswerTimeout_pends (h : HalfId) (ofs : BlockOfs) (s : State) {p : Submission} (st : (s.half h).commitState = 2)
    (sub : (s.half h).graph.sub = some p) (ans : (s.half h.other).graph.answer = none) (role : (s.half h.other).role = .standby) :
    Completes (.standbyAnswerTimeout h ofs) s fun t => (t.half h).commitState = 3 ∧
      (t.half h).graph.sub = some { p with target := some ((s.half h).block + if ofs.val = 0 then 2 else 3) } ∧
      (t.half h).bit Adr.GRF_FAULT 31 = true ∧ (t.half h).get Adr.GRF_FAULT 0 16 = 1 ∧
      (t.half h.other).commitState = 0 ∧ (t.half h.other).graph.sub = none ∧
      SameRegs [Adr.GRF_STATUS, Adr.GRF_COMMIT_TARGET, Adr.GRF_FAULT] (s.half h) (t.half h) ∧
      SameRegs [Adr.GRF_STATUS] (s.half h.other) (t.half h.other) := by
  refine completes_of (t := (s.on h fun x => (x.pend (x.targetAfter ofs)).latch Adr.GRF_FAULT 1).on h.other Half.partEnds)
    (congrArg Host.Outcome.next (if_pos (State.awaits_of st sub))) ?_
  have ended : (s.half h.other).partEnds = (s.half h.other).endSubmission := by simp [Half.partEnds, role, ans]
  rw [State.on_other_half, State.on_half, State.on_half, State.on_other, ended]
  obtain ⟨hst, hsub, hv, hc, hsame⟩ := (s.half h).pend_alone sub ((s.half h).targetAfter ofs)
  refine ⟨hst, hsub, hv, hc, by simp [Half.endSubmission, Half.commitState], rfl, hsame, fun a ha => ?_⟩
  simp only [List.mem_cons, List.not_mem_nil, or_false] at ha
  simp [Half.endSubmission, ha]

/-- Settles O30: each stage of a commit, on the active half, on its standby and on both. -/
theorem plansAreCheckedAndWaitForTheirTarget : Obligations.PlansAreCheckedAndWaitForTheirTarget := fun h ofs s =>
  ⟨fun live up st sub acc =>
    ⟨fun _ hr => planValidation_rejects ofs live up st sub acc hr,
      fun _ hp alone => planValidation_waits_for_boundary ofs live up st sub acc hp alone,
      fun _ hp two => planValidation_asks_standby ofs live up st sub acc hp two⟩,
    fun out live up link role wf => commitRecordReceive_answers h s out live up link role wf,
    fun _ _ st sub sub' ans => standbyPlanAccept_pends h ofs s st sub sub' ans,
    fun _ st sub => ⟨fun ans => standbyPlanReject_pends h ofs s st sub ans,
      fun ans role => standbyAnswerTimeout_pends h ofs s st sub ans role⟩⟩

/-! Zones, node states and packets of the graph (R212, R215). -/

theorem Half.zone_onZone (x : Half) (z : Nat) (f : ZoneSt → ZoneSt) (k : Nat) :
    (x.onZone z f).zone k = if k = z then f (x.zone z) else x.zone k := lookAt_storeAt ..

theorem Half.nodeSt_setNode (x : Half) (i : Nat) (st : NodeSt) (k : Nat) :
    (x.setNode i st).nodeSt k = if k = i then st else x.nodeSt k := lookAt_storeAt ..

theorem length_packetItems (src : Nat) (data : List Nat) : (packetItems src data).length = data.length := by
  induction data with
  | nil => rfl
  | cons d data ih =>
    cases data with
    | nil => rfl
    | cons e data => simp only [packetItems, List.length_cons] at ih ⊢; omega

@[simp] theorem Half.queue_setQueue (x : Half) (q : Nat) (u : Queue) (k : Nat) :
    (x.setQueue q u).queue k = if k = q then u else x.queue k := lookAt_storeAt ..

/-- A packet that fits enters its queue whole, where no pop waits (R421). -/
theorem Half.hwPush_items {x : Half} {q : Nat} (src : Nat) (data : List Nat) (up : x.up .memory = true) (on : x.queueOn q = true)
    (held : (x.queue q).held = none) (idle : (x.queue q).waiters = []) (room : (x.queue q).items.length + data.length + 1 ≤ x.capacity q) :
    ((x.hwPush q src data).queue q).items = (x.queue q).items ++ packetItems src data := by
  cases data with
  | nil => simp [Half.hwPush, packetItems]
  | cons d data =>
    have fits : (x.queue q).items.length + (packetItems src (d :: data)).length + 1 ≤ x.capacity q := by
      rw [length_packetItems]; exact room
    have accepted : x.hwPush q src (d :: data) =
        x.setQueue q { x.queue q with items := (x.queue q).items ++ packetItems src (d :: data) } := by
      have cond : ((x.queue q).held.isNone &&
          decide ((x.queue q).items.length + (packetItems src (d :: data)).length + 1 ≤ x.capacity q)) = true := by simp [held, fits]
      rw [Half.hwPush, if_neg (by simp [up]), if_neg (by simp [on]), Half.pushItems]
      refine (if_pos cond).trans ?_
      simp [Half.serveStall, idle]
    rw [accepted, Half.queue_setQueue, if_pos rfl]

theorem Half.graphPush_pushed (x : Half) (q : Nat) (data : List Nat) : Pushed q x (x.graphPush q data) := by
  unfold Half.graphPush
  split
  · exact .refl q x
  · split
    · exact x.hwPush_pushed q 9 data
    · split
      · exact .refl q x
      · exact x.count_pushed q 0 32 _

theorem voxHoldExpiry_ends {h : HalfId} {s : State} {n : Node} (zone : BitVec 8) (level : Fin 16) {zp : Nat × Nat}
    (hz : (((s.half h).plan false).zones.find? fun y => y.1 == zone.toNat) = some zp)
    (hn : ((s.half h).plan false).node zp.2 = some n) :
    CompletesAt (.voxHoldExpiry h zone level) h s fun x => x.regs = (s.half h).regs ∧
      (∀ v, v ∈ (x.zone zone.toNat).vox ↔
        v ∈ ((s.half h).zone zone.toNat).vox ∧ (v.1 = level → (s.half h).age < v.2 + 8 * getBits (n.w 3) 0 16)) ∧
      (x.zone zone.toNat).feeds = ((s.half h).zone zone.toNat).feeds ∧
      (∀ z, z ≠ zone.toNat → x.zone z = (s.half h).zone z) := by
  refine completesAt_on rfl ?_
  simp only [hz, Option.bind_some, hn]
  refine ⟨rfl, fun v => ?_, by rw [Half.zone_onZone, if_pos rfl], fun z ne => by rw [Half.zone_onZone, if_neg ne]⟩
  rw [Half.zone_onZone, if_pos rfl]
  simp only [List.mem_filter, Bool.not_eq_true', Bool.and_eq_false_iff, beq_eq_false_iff_ne, decide_eq_false_iff_not, Nat.not_le,
    ne_eq, imp_iff_not_or]

theorem meterInterval_pushes {h : HalfId} {s : State} {n : Node} (node : Fin 4096) (hn : ((s.half h).plan false).node node = some n)
    (ty : n.type = 0xD) (due : getBits (n.w 1) 0 16 ≤ getAt ((s.half h).nodeSt node).nums 0 0)
    (some_ : 0 < getAt ((s.half h).nodeSt node).nums 0 0) :
    CompletesAt (.meterInterval h node) h s fun x => x.nodeSt node = NodeSt.init ∧
      SameRegs [Adr.QM_DROP_CNT (getBits (n.w 1) 16 6)] (s.half h) x ∧
      (∀ i, i ≠ node.val → x.nodeSt i = (s.half h).nodeSt i) ∧
      ∀ q, q = getBits (n.w 1) 16 6 → 16 ≤ q → (s.half h).get (Adr.Q_CFG q) 28 3 = 2 → (s.half h).up .memory = true →
        (s.half h).queueOn q = true → ((s.half h).queue q).held = none → ((s.half h).queue q).waiters = [] →
        ((s.half h).queue q).items.length + n.width + 1 ≤ (s.half h).capacity q →
        (x.queue q).items = ((s.half h).queue q).items ++ packetItems 9 ((List.range n.width).map fun ch =>
          meterItem n (getAt ((s.half h).nodeSt node).nums 0 0) (s.half h).blockLen ch
            (getAt ((s.half h).nodeSt node).rows ch [])) := by
  refine completesAt_on rfl ?_
  simp only [hn, ty, due, some_, and_self, if_true]
  generalize s.half h = x
  have pushed := (x.setNode node NodeSt.init).graphPush_pushed (getBits (n.w 1) 16 6)
    ((List.range n.width).map fun ch => meterItem n (getAt (x.nodeSt node).nums 0 0) x.blockLen ch (getAt (x.nodeSt node).rows ch []))
  have states : ∀ i, ((x.setNode node NodeSt.init).graphPush (getBits (n.w 1) 16 6) ((List.range n.width).map fun ch =>
      meterItem n (getAt (x.nodeSt node).nums 0 0) x.blockLen ch (getAt (x.nodeSt node).rows ch []))).nodeSt i =
        if i = node.val then NodeSt.init else x.nodeSt i := fun i => by
    rw [pushed.same, ← Half.nodeSt_setNode]; rfl
  refine ⟨by rw [states, if_pos rfl], fun a ha => pushed.regs a (by simpa using ha), fun i ne => by rw [states, if_neg ne], ?_⟩
  rintro q rfl user gr up on held idle room
  rw [Half.graphPush, if_neg (by omega), if_pos (c := (x.setNode node NodeSt.init).get (Adr.Q_CFG _) 28 3 = 2) gr]
  exact Half.hwPush_items (x := x.setNode node NodeSt.init) 9 _ up on held idle (by rw [List.length_map, List.length_range]; exact room)

/-- Settles O31: the end of a hold filters the zone's VOX levels; a METER node's packet is a push of the graph. -/
theorem voxAndMetersFollowTheirIntervals : Obligations.VoxAndMetersFollowTheirIntervals := fun _ _ _ =>
  ⟨fun zone level _ hz hn => voxHoldExpiry_ends zone level hz hn, fun node hn ty due pos => meterInterval_pushes node hn ty due pos⟩

end Sys2Proof.Machine
end

section
/-! O32 and O43 to O45: the engines (R234 to R256), Gust's tests and cross-half checks, health and service life (R485 to R506). -/

namespace Sys2Proof.Machine

open Sys2Proof

/-! Gust's bookkeeping (R485, R506). -/

/-- y is x with registers of a set changed, and what Gust and the health record keep. -/
structure Gusts (p : Nat → Prop) (x y : Half) : Prop where
  same : y = { x with regs := y.regs, gust := y.gust, rdn := y.rdn, hlt := y.hlt }
  keeps : ∀ a, ¬ p a → y.rd a = x.rd a

namespace Gusts
variable {p q : Nat → Prop} {x y z : Half}

theorem trans (h : Gusts p x y) (k : Gusts p y z) : Gusts p x z := by
  obtain ⟨hy, hxy⟩ := h
  obtain ⟨hz, hyz⟩ := k
  exact ⟨by rw [hz, hy], fun a ha => (hyz a ha).trans (hxy a ha)⟩

theorem mono (h : Gusts p x y) (hq : ∀ a, p a → q a) : Gusts q x y := ⟨h.same, fun a ha => h.keeps a fun hp => ha (hq a hp)⟩

theorem of_writes (h : Writes p x y) : Gusts p x y := by
  obtain ⟨hy, hxy⟩ := h
  exact ⟨by rw [hy], hxy⟩

theorem onGust (h : Gusts p x y) (f : GustSt → GustSt) : Gusts p x (y.onGust f) := h.trans ⟨rfl, fun _ _ => rfl⟩

theorem life (h : Gusts p x y) (c : Life) (d : Nat) : Gusts p x (y.life c d) := h.trans ⟨rfl, fun _ _ => rfl⟩

theorem sameRegs {as : List Nat} (h : Gusts (· ∈ as) x y) : SameRegs as x y := h.keeps

theorem boot (h : Gusts p x y) : y.boot = x.boot := by rw [h.same]

theorem get (h : Gusts p x y) {a : Nat} (ha : ¬ p a) (lo n : Nat) : y.get a lo n = x.get a lo n := Half.get_congr (h.keeps a ha) lo n

theorem bit (h : Gusts p x y) {a : Nat} (ha : ¬ p a) (b : Nat) : y.bit a b = x.bit a b := Half.bit_congr (h.keeps a ha) b

end Gusts

/-- The outcome of a test shown for its class: the failure with its cause, or none. -/
def Half.gustMark (x : Half) (i : Nat) : Option Nat → Half
  | some cause => x.gustFail i cause
  | none => x.putBit (Adr.GST_CLASS i) 31 false

theorem gust_class_ne {i : Nat} (hi : i < 9) : Adr.GST_CLASS i ≠ Adr.GST_EVENT ∧ Adr.GST_CLASS i ≠ Adr.GST_LAST_PASS 0 ∧
    Adr.GST_CLASS i ≠ Adr.GST_LAST_PASS 0 + 4 ∧ Adr.GST_CLASS i ≠ Adr.GST_FAIL_CNT ∧ Adr.GST_CLASS i ≠ Adr.GST_FAULT := by
  simp only [Adr.GST_CLASS, Adr.GST_EVENT, Adr.GST_LAST_PASS, Adr.GST_FAIL_CNT, Adr.GST_FAULT]
  omega

theorem Half.gustPass_gusts (x : Half) :
    Gusts (· ∈ [Adr.GST_EVENT, Adr.GST_LAST_PASS 0, Adr.GST_LAST_PASS 0 + 4]) x x.gustPass := by
  unfold Half.gustPass
  split
  · exact (Gusts.of_writes ((((Writes.refl _ x).wrNat _ (by simp)).wrNat _ (by simp)).event 3 (by simp))).onGust _
  · exact .of_writes (.refl _ x)

/-- The units of class i that have completed, with one more. -/
def Half.gustUnits (x : Half) (i unit : Nat) : List Nat := unit :: (getAt x.gust.classes i GustClass.init).done.filter (· != unit)

/-- A unit of class i counted. -/
def Half.gustCount (x : Half) (i unit age : Nat) : Half :=
  x.onGust fun g => { g with
    classes := modAt g.classes i fun c => { c with done := x.gustUnits i unit }
    tested := if i < 2 then insertAt (8 * i + unit) age g.tested else g.tested }

/-- Class 0, once it completes, lets the comparison of the halves go on. -/
def Half.endHold (x : Half) (i : Nat) : Half := if i = 0 then { x with rdn := { x.rdn with compareHold := false } } else x

/-- Class i starts again. -/
def Half.gustRestart (x : Half) (i : Nat) : Half :=
  ((x.endHold i).onGust fun g => { g with classes := modAt g.classes i fun _ => ⟨[], true⟩ }).put (Adr.GST_CLASS i) 0 31 0

theorem Half.gustDone_eq (x : Half) (i unit : Nat) (fault : Option Nat) :
    x.gustDone i unit fault =
      if (((x.gustMark i fault).gustCount i unit x.age).gustComplete i ((x.gustMark i fault).gustUnits i unit)) = true then
        (((x.gustMark i fault).gustCount i unit x.age).gustRestart i).gustPass
      else (x.gustMark i fault).gustCount i unit x.age := by cases fault <;> rfl

theorem Half.endHold_gusts (x : Half) (i : Nat) (p : Nat → Prop) : Gusts p x (x.endHold i) := by
  unfold Half.endHold
  split
  · exact ⟨rfl, fun _ _ => rfl⟩
  · exact .of_writes (.refl _ x)

/-- After the mark, a completed test counts its unit, and a completed class starts again. -/
theorem Half.gustDone_after (x : Half) {i : Nat} (hi : i < 9) (unit : Nat) (fault : Option Nat) :
    Gusts (· ∈ gustRegs i) (x.gustMark i fault) (x.gustDone i unit fault) ∧
      (x.gustDone i unit fault).bit (Adr.GST_CLASS i) 31 = (x.gustMark i fault).bit (Adr.GST_CLASS i) 31 := by
  obtain ⟨ev, lo, hi', -, -⟩ := gust_class_ne hi
  rw [Half.gustDone_eq]
  generalize x.gustMark i fault = y
  have counted : Gusts (· ∈ gustRegs i) y (y.gustCount i unit x.age) := (Gusts.of_writes (.refl _ y)).onGust _
  split
  · have passed := (((y.gustCount i unit x.age).gustRestart i).gustPass_gusts)
    have held := (y.gustCount i unit x.age).endHold_gusts i (· ∈ gustRegs i)
    refine ⟨counted.trans (((held.onGust _).trans (.of_writes ((Writes.refl _ _).put 0 31 0 (by simp [gustRegs])))).trans
      (passed.mono fun a ha => ?_)), ?_⟩
    · simp [gustRegs] at ha ⊢
      tauto
    · rw [passed.bit (by simp [ev, lo, hi']), Half.gustRestart, Half.bit_put_field _ _ _ _ _ _ (by decide) (by decide), Half.onGust_bit,
        ((y.gustCount i unit x.age).endHold_gusts i fun _ => False).bit not_false]
      rfl
  · exact ⟨counted, rfl⟩

/-- The test of a unit that passed. -/
theorem Half.gustDone_passed (x : Half) {i : Nat} (hi : i < 9) (unit : Nat) :
    (x.gustDone i unit none).bit (Adr.GST_CLASS i) 31 = false ∧ Gusts (· ∈ gustRegs i) x (x.gustDone i unit none) := by
  obtain ⟨after, flag⟩ := x.gustDone_after hi unit none
  exact ⟨flag.trans (by simp [Half.gustMark]),
    (Gusts.of_writes ((Writes.refl _ x).putBit 31 false (by simp [gustRegs]))).trans after⟩

theorem Half.gustFail_shows (x : Half) {i : Nat} (hi : i < 9) (cause : Nat) :
    (x.gustFail i cause).bit (Adr.GST_CLASS i) 31 = true ∧ (x.gustFail i cause).get Adr.GST_FAULT 0 16 = cause % 0x10000 ∧
      (x.gustFail i cause).bit Adr.GST_EVENT 0 = true ∧
      (x.gustFail i cause).get Adr.GST_FAIL_CNT 0 16 = satAdd 16 (x.get Adr.GST_FAIL_CNT 0 16) 1 ∧
      Gusts (· ∈ [Adr.GST_CLASS i, Adr.GST_EVENT, Adr.GST_FAULT, Adr.GST_FAIL_CNT]) x (x.gustFail i cause) := by
  obtain ⟨ev, -, -, cnt, fault⟩ := gust_class_ne hi
  unfold Half.gustFail
  refine ⟨?_, Half.get_latch_cause .., ?_, ?_, ?_⟩
  · rw [Half.bit_latch_ne _ _ _ _ _ fault, Half.bit_event_ne _ _ _ ev, Half.life_bit, Half.bit_congr (Half.rd_count_ne _ _ _ _ cnt)]
    exact Half.bit_putBit_self _ _ _ _ (by decide)
  · rw [Half.bit_latch_ne _ _ _ _ _ (by decide)]
    exact Half.bit_event_self _ _ _ (by decide)
  · rw [Half.get_latch_ne _ _ _ _ _ _ (by decide), Half.get_congr (Half.rd_event_ne _ _ (by decide)), Half.life_get, Half.count_eq,
      Half.get_put_self _ _ _ _ _ (by decide), satAdd_mod, Half.get_congr (Half.rd_putBit_ne _ _ _ cnt.symm)]
  · refine Gusts.trans (Gusts.life (.of_writes ?_) _ _) (.of_writes (((Writes.refl _ _).event 0 (by simp)).latch _ (by simp)))
    exact ((Writes.refl _ x).putBit 31 true (by simp)).count 0 16 1 (by simp)

/-- The test of a unit that failed. -/
theorem Half.gustDone_failed (x : Half) {i : Nat} (hi : i < 9) (unit : Nat) {cause : Nat} (hc : cause < 0x10000) :
    (x.gustDone i unit (some cause)).bit (Adr.GST_CLASS i) 31 = true ∧
      (x.gustDone i unit (some cause)).get Adr.GST_FAULT 0 16 = cause ∧
      Gusts (· ∈ gustFailRegs i) x (x.gustDone i unit (some cause)) := by
  obtain ⟨after, flag⟩ := x.gustDone_after hi unit (some cause)
  obtain ⟨shown, code, -, -, moved⟩ := x.gustFail_shows hi cause
  obtain ⟨-, -, -, -, fault⟩ := gust_class_ne hi
  refine ⟨flag.trans shown, ?_, (moved.mono ?_).trans (after.mono fun a ha => by simp [gustFailRegs, ha])⟩
  · rw [after.get (by simp only [gustRegs, List.mem_cons, List.not_mem_nil, or_false, fault.symm, false_or]; decide), Half.gustMark, code, Nat.mod_eq_of_lt hc]
  · intro a ha
    simp [gustFailRegs, gustRegs] at ha ⊢
    tauto

/-! The retirement list (R287, R495). -/

/-- The list in force after a rewrite is the rewritten one. -/
theorem BootSt.retired_retire (b : BootSt) (f : RetireBank → RetireBank) :
    (b.retire f).retired = { f b.retired with gen := b.retired.gen + 1, valid := true } := by
  unfold BootSt.retire
  simp only
  rw [← BootSt.retired]
  by_cases hc : (decide (b.retired = b.retire1) && b.retire1.valid) = true
  · rw [if_pos hc]
    obtain ⟨same, -⟩ := Bool.and_eq_true_iff.1 hc
    have gen : b.retired.gen = b.retire1.gen := by rw [of_decide_eq_true same]
    have newer : ∀ r : RetireBank, r.gen = b.retire1.gen + 1 → r.valid = true → BootSt.retired { b with retire0 := r } = r := fun r hg hv => by
      simp [BootSt.retired, hg, hv]
    exact newer _ (by rw [gen]) rfl
  · rw [if_neg hc]
    have old : b.retired = b.retire0 := by
      unfold BootSt.retired at hc ⊢
      split
      · next h =>
        rw [if_pos h] at hc
        simp [(Bool.and_eq_true_iff.1 h).1] at hc
      · rfl
    have newer : ∀ r : RetireBank, r.gen = b.retire0.gen + 1 → r.valid = true → BootSt.retired { b with retire1 := r } = r := fun r hg hv => by
      simp [BootSt.retired, hg, hv]
    exact newer _ (by rw [old]) rfl

/-! Engines (R250 to R254). -/

/-- y is x with registers of a set changed, the graph's working state and the boot flash. -/
structure EngineMoves (p : Nat → Prop) (x y : Half) : Prop where
  same : y = { x with regs := y.regs, graph := y.graph, boot := y.boot }
  keeps : ∀ a, ¬ p a → y.rd a = x.rd a

namespace EngineMoves
variable {p q : Nat → Prop} {x y z : Half}

theorem trans (h : EngineMoves p x y) (k : EngineMoves p y z) : EngineMoves p x z := by
  obtain ⟨hy, hxy⟩ := h
  obtain ⟨hz, hyz⟩ := k
  exact ⟨by rw [hz, hy], fun a ha => (hyz a ha).trans (hxy a ha)⟩

theorem mono (h : EngineMoves p x y) (hq : ∀ a, p a → q a) : EngineMoves q x y :=
  ⟨h.same, fun a ha => h.keeps a fun hp => ha (hq a hp)⟩

theorem of_writes (h : Writes p x y) : EngineMoves p x y := by
  obtain ⟨hy, hxy⟩ := h
  exact ⟨by rw [hy], hxy⟩

theorem refl (p : Nat → Prop) (x : Half) : EngineMoves p x x := ⟨rfl, fun _ _ => rfl⟩

theorem onGraph (h : EngineMoves p x y) (f : GraphSt → GraphSt) : EngineMoves p x (y.onGraph f) := h.trans ⟨rfl, fun _ _ => rfl⟩

theorem onRetired (h : EngineMoves p x y) (f : RetireBank → RetireBank) : EngineMoves p x (y.onRetired f) :=
  h.trans ⟨rfl, fun _ _ => rfl⟩

theorem sameRegs {as : List Nat} (h : EngineMoves (· ∈ as) x y) : SameRegs as x y := h.keeps

theorem get (h : EngineMoves p x y) {a : Nat} (ha : ¬ p a) (lo n : Nat) : y.get a lo n = x.get a lo n := Half.get_congr (h.keeps a ha) lo n

theorem bit (h : EngineMoves p x y) {a : Nat} (ha : ¬ p a) (b : Nat) : y.bit a b = x.bit a b := Half.bit_congr (h.keeps a ha) b

end EngineMoves

theorem Half.setEng_writes (x : Half) (e v : Nat) : Writes (· ∈ [Adr.ENG_STATUS e, Adr.ENG_EVENT e]) x (x.setEng e v) := by
  unfold Half.setEng
  exact Writes.ite (fun _ => .refl _ x) fun _ => ((Writes.refl _ x).put 0 3 v (by simp)).event 0 (by simp)

@[simp] theorem Half.setEng_engState (x : Half) (e : Nat) {v : Nat} (hv : v < 8) : (x.setEng e v).engState e = v := by
  unfold Half.setEng
  split
  · assumption
  · simp [Half.engState, Nat.mod_eq_of_lt hv]

theorem Half.showPlc_moves (x : Half) : EngineMoves (· ∈ [Adr.PLC_STATUS, Adr.PLC_CAPACITY]) x x.showPlc := by
  unfold Half.showPlc
  exact EngineMoves.onGraph (.of_writes ((((Writes.refl _ x).put 8 4 _ (by simp)).putBit 1 _ (by simp)).wrNat _ (by simp))) _

theorem Half.vacate_moves (x : Half) (e : Nat) : EngineMoves (· ∈ [Adr.PLC_STATUS, Adr.PLC_CAPACITY]) x (x.vacate e) := by
  unfold Half.vacate
  simp only
  have start : ∀ (y : Half) (r : Option (Replace)), EngineMoves (· ∈ [Adr.PLC_STATUS, Adr.PLC_CAPACITY]) y
      (((y.onGraph fun g => { g with replace := r }).putBit Adr.PLC_STATUS 4 true).showPlc) := fun y r =>
    (((EngineMoves.refl _ y).onGraph _).trans (.of_writes ((Writes.refl _ _).putBit 4 true (by simp)))).trans (Half.showPlc_moves _)
  split
  · exact x.showPlc_moves
  · split
    · exact ((EngineMoves.refl _ x).onGraph _).trans (start _ _)
    · exact start _ _

/-- The registers of a submission placed again (R254). -/
def resubmitRegs : List Nat := [Adr.GRF_COMMIT_TARGET, Adr.GRF_STATUS, Adr.GRF_COMMIT_STATUS, Adr.GRF_EVENT, Adr.PLC_EVENT]

theorem Half.resubmit_moves (x : Half) (e : Nat) : EngineMoves (· ∈ resubmitRegs) x (x.resubmit e) := by
  unfold Half.resubmit
  simp only
  split
  · split
    · split
      · split
        · exact ((EngineMoves.refl _ x).onGraph _).trans (.of_writes ((Writes.refl _ _).wrNat _ (by simp [resubmitRegs])))
        · exact (EngineMoves.refl _ x).onGraph _
      · exact ((EngineMoves.refl _ x).onGraph _).trans (.of_writes
          (((((Writes.refl _ _).put 0 3 0 (by decide)).wrNat _ (by decide)).event 1 (by decide)).event 1 (by decide)))
    · exact .refl _ x
  · exact .refl _ x

/-- An engine's registers lie apart from the graph's and the placement's. -/
theorem engine_apart {a e : Nat} (ha : 0xE0000 + 0x1000 * e ≤ a) : a ∉ resubmitRegs ∧ a ∉ [Adr.PLC_STATUS, Adr.PLC_CAPACITY] := by
  simp only [resubmitRegs, Adr.GRF_COMMIT_TARGET, Adr.GRF_STATUS, Adr.GRF_COMMIT_STATUS, Adr.GRF_EVENT, Adr.PLC_EVENT, Adr.PLC_STATUS,
    Adr.PLC_CAPACITY, List.mem_cons, List.not_mem_nil, or_false]
  omega

theorem Half.markRetired_moves (x : Half) (e c : Nat) :
    EngineMoves (· ∈ [Adr.ENG_STATUS e, Adr.ENG_EVENT e, Adr.ENG_FAULT e]) x (x.markRetired e c) :=
  ((EngineMoves.of_writes ((x.setEng_writes e 4).mono fun a ha => by simp at ha ⊢; tauto)).trans
    (.of_writes ((Writes.refl _ _).latch c (by simp)))).onGraph _

theorem Half.markRetired_shows (x : Half) (e c : Nat) :
    (x.markRetired e c).engState e = 4 ∧ (x.markRetired e c).bit (Adr.ENG_FAULT e) 31 = true ∧
      (x.markRetired e c).get (Adr.ENG_FAULT e) 0 16 = c % 0x10000 := by
  unfold Half.markRetired Half.engState
  rw [Half.onGraph_get, Half.onGraph_bit, Half.onGraph_get, Half.get_latch_ne _ _ _ _ _ _ (by simp)]
  exact ⟨x.setEng_engState e (by decide), Half.bit_latch_valid .., Half.get_latch_cause ..⟩

/-- Retirement after the mark: the engine's nodes are given to others, its load clears, submissions are placed again. -/
def Half.unload (x : Half) (e : Nat) : Half :=
  (((x.vacate e).put (Adr.ENG_STATUS e) 16 16 0).putBit (Adr.ENG_STATUS e) 8 false).wrNat (Adr.ENG_LOAD e) 0 |>.resubmit e

/-- The engine that was retired holds no nodes, and is listed. -/
def Half.listRetired (x : Half) (e : Nat) (nodes : List Nat) : Half :=
  (x.onGraph fun g => { g with missing := g.missing ++ nodes, voids := true, kat := g.kat.filter (· != e) }).onRetired
    fun r => { r with engines := maskSet r.engines e true }

theorem Half.retireEngine_eq {x : Half} {e : Nat} (hr : inRange 1 3 (x.engState e) = true) (c : Nat) :
    x.retireEngine e c = ((x.markRetired e c).listRetired e
      ((x.graph.place.parts.filter fun p => p.engine == e).map fun p => p.node)).unload e := by
  unfold Half.retireEngine
  rw [if_neg (by simp [hr])]
  rfl

theorem Half.unload_moves (x : Half) (e : Nat) :
    EngineMoves (· ∈ [Adr.ENG_STATUS e, Adr.ENG_LOAD e, Adr.PLC_STATUS, Adr.PLC_CAPACITY] ++ resubmitRegs) x (x.unload e) := by
  unfold Half.unload
  have left := (x.vacate_moves e).mono (q := (· ∈ [Adr.ENG_STATUS e, Adr.ENG_LOAD e, Adr.PLC_STATUS, Adr.PLC_CAPACITY] ++ resubmitRegs))
    fun a ha => by simp at ha ⊢; tauto
  refine (left.trans (.of_writes ((((Writes.refl _ _).put 16 16 0 (by simp)).putBit 8 false (by simp)).wrNat 0 (by simp)))).trans
    ((Half.resubmit_moves _ e).mono fun a ha => by simp [ha])

theorem Half.unload_engState (x : Half) (e : Nat) : (x.unload e).engState e = x.engState e := by
  unfold Half.unload Half.engState
  obtain ⟨apart, apart'⟩ := engine_apart (a := Adr.ENG_STATUS e) (e := e) (by simp only [Adr.ENG_STATUS]; omega)
  rw [(Half.resubmit_moves _ e).get apart, Half.get_congr (Half.rd_wrNat_ne _ _ (by simp)), Half.putBit_eq,
    Half.get_put_field _ _ _ _ _ _ _ (by decide) (by decide), Half.get_put_field _ _ _ _ _ _ _ (by decide) (by decide),
    (Half.vacate_moves _ e).get apart']

/-- An engine in service is retired with a cause (R250, R251). -/
theorem Half.retireEngine_retires {x : Half} {e : Nat} (hr : inRange 1 3 (x.engState e) = true) {c : Nat} (hc : c < 0x10000) :
    (x.retireEngine e c).engState e = 4 ∧ (x.retireEngine e c).bit (Adr.ENG_FAULT e) 31 = true ∧
      (x.retireEngine e c).get (Adr.ENG_FAULT e) 0 16 = c ∧ EngineMoves (· ∈ engineRegs e) x (x.retireEngine e c) := by
  rw [Half.retireEngine_eq hr]
  generalize (x.graph.place.parts.filter fun p => p.engine == e).map (fun p => p.node) = nodes
  obtain ⟨st, valid, cause⟩ := x.markRetired_shows e c
  have listed : EngineMoves (· ∈ engineRegs e) (x.markRetired e c) ((x.markRetired e c).listRetired e nodes) :=
    ((EngineMoves.refl _ _).onGraph _).onRetired _
  have fault : Adr.ENG_FAULT e ∉ [Adr.ENG_STATUS e, Adr.ENG_LOAD e, Adr.PLC_STATUS, Adr.PLC_CAPACITY] ++ resubmitRegs := by
    obtain ⟨h1, h2⟩ := engine_apart (a := Adr.ENG_FAULT e) (e := e) (by simp only [Adr.ENG_FAULT]; omega)
    simp at h2 ⊢
    exact ⟨h2.1, h2.2, h1⟩
  have moved := ((x.markRetired e c).listRetired e nodes).unload_moves e
  refine ⟨(Half.unload_engState _ e).trans st, (moved.bit fault 31).trans valid, (moved.get fault 0 16).trans ?_,
    ((x.markRetired_moves e c).mono fun a ha => ?_).trans (listed.trans (moved.mono fun a ha => ?_))⟩
  · exact cause.trans (Nat.mod_eq_of_lt hc)
  · simp [engineRegs] at ha ⊢
    tauto
  · simp [engineRegs, resubmitRegs] at ha ⊢
    tauto

/-- A retirement leaves the other events of its engine. -/
theorem Half.retireEngine_event {x : Half} {e : Nat} (hr : inRange 1 3 (x.engState e) = true) (c : Nat) {b : Nat} (hb : b ≠ 0) :
    (x.retireEngine e c).bit (Adr.ENG_EVENT e) b = x.bit (Adr.ENG_EVENT e) b := by
  rw [Half.retireEngine_eq hr]
  have ev : Adr.ENG_EVENT e ∉ [Adr.ENG_STATUS e, Adr.ENG_LOAD e, Adr.PLC_STATUS, Adr.PLC_CAPACITY] ++ resubmitRegs := by
    obtain ⟨h1, h2⟩ := engine_apart (a := Adr.ENG_EVENT e) (e := e) (by simp only [Adr.ENG_EVENT]; omega)
    simp at h2 ⊢
    exact ⟨h2.1, h2.2, h1⟩
  rw [(Half.unload_moves _ e).bit ev]
  show (x.markRetired e c).bit _ _ = _
  unfold Half.markRetired Half.setEng
  rw [Half.onGraph_bit, Half.bit_latch_ne _ _ _ _ _ (by simp)]
  split
  · rfl
  · rw [Half.bit_event_bit _ _ _ _ (by decide) hb, Half.bit_put_ne _ _ _ _ _ (by simp)]

/-! Residue errors (R234, R251, R459). -/

theorem Half.giveUpFor_rd_above (x : Half) {c a : Nat} (ha : 0xE0000 ≤ a) : (x.giveUpFor c).rd a = x.rd a := by
  have out : a ∉ giveUpRegs ∧ a ≠ Adr.RDN_FAULT := by
    simp only [giveUpRegs, releaseRegs, Adr.RDN_HANDOVER_STATUS, Adr.RDN_YIELD_COUNT, Adr.RDN_ROLE_STATUS, Adr.RDN_EVENT, Adr.MAC_STATUS,
      Adr.RDN_FAULT, List.mem_append, List.mem_cons, List.not_mem_nil, or_false]
    omega
  rw [x.giveUpFor_rd c out.1 (.inr (by omega)), Half.rd_latch_ne _ _ out.2]

theorem notMem_lineRegs_above {a : Nat} (ha : 0xE0000 ≤ a) : a ∉ lineRegsOf := by
  simp only [lineRegsOf, Adr.RDN_STATUS, Adr.AMPC_STATUS, Adr.AMPC_EVENT, List.mem_cons, List.not_mem_nil, or_false]
  omega

/-- A residue error of an engine counted, and the engine retired with cause 0x0001. -/
def Half.residue (x : Half) (e : Nat) : Half := ((x.count (Adr.ENG_RESIDUE_CNT e) 0 16 1).event (Adr.ENG_EVENT e) 2).retireEngine e 1

/-- The node is on a life-safety path, and placed on the engine. -/
def Half.onLsPath (x : Half) (e node : Nat) : Bool :=
  (x.plan false).lsNodes.contains node && x.graph.place.parts.any fun p => p.engine == e && p.node == node

/-- A residue error at a half whose engine is in service. -/
def Half.residueError (x : Half) (e node : Nat) : Half := if x.onLsPath e node then (x.residue e).giveUpFor 2 else x.residue e

theorem Half.residue_shows {x : Half} {e : Nat} (hr : inRange 1 3 (x.engState e) = true) :
    (x.residue e).engState e = 4 ∧ (x.residue e).bit (Adr.ENG_EVENT e) 2 = true ∧
      (x.residue e).get (Adr.ENG_RESIDUE_CNT e) 0 16 = satAdd 16 (x.get (Adr.ENG_RESIDUE_CNT e) 0 16) 1 ∧
      (x.residue e).bit (Adr.ENG_FAULT e) 31 = true ∧ (x.residue e).get (Adr.ENG_FAULT e) 0 16 = 1 ∧
      (x.residue e).sent = x.sent ∧ SameRegs (Adr.ENG_RESIDUE_CNT e :: engineRegs e) x (x.residue e) := by
  have counted : Writes (· ∈ [Adr.ENG_RESIDUE_CNT e, Adr.ENG_EVENT e]) x ((x.count (Adr.ENG_RESIDUE_CNT e) 0 16 1).event (Adr.ENG_EVENT e) 2) :=
    ((Writes.refl _ x).count 0 16 1 (by simp)).event 2 (by simp)
  have serves : inRange 1 3 (((x.count (Adr.ENG_RESIDUE_CNT e) 0 16 1).event (Adr.ENG_EVENT e) 2).engState e) = true := by
    rw [Half.engState, counted.get (by simp)]
    exact hr
  have cnt : Adr.ENG_RESIDUE_CNT e ∉ engineRegs e := by
    obtain ⟨h1, h2⟩ := engine_apart (a := Adr.ENG_RESIDUE_CNT e) (e := e) (by simp only [Adr.ENG_RESIDUE_CNT]; omega)
    simp [resubmitRegs] at h1 h2
    simp [engineRegs, h1, h2]
  obtain ⟨st, valid, cause, moved⟩ := Half.retireEngine_retires serves (c := 1) (by decide)
  refine ⟨st, ?_, ?_, valid, cause, by rw [Half.residue, moved.same, counted.same], fun a ha => ?_⟩
  · exact (Half.retireEngine_event serves 1 (by decide)).trans (Half.bit_event_self _ _ _ (by decide))
  · refine (moved.get cnt 0 16).trans ?_
    rw [Half.get_congr (Half.rd_event_ne _ _ (by simp)), Half.count_eq, Half.get_put_self _ _ _ _ _ (by decide), satAdd_mod]
  · simp only [List.mem_cons, not_or] at ha
    refine (moved.keeps a ha.2).trans (counted.keeps a ?_)
    simp only [List.mem_cons, List.not_mem_nil, or_false, not_or]
    exact ⟨ha.1, fun eq => ha.2 (by simp [engineRegs, eq])⟩

theorem Half.residueError_rd_above (x : Half) (e node : Nat) {a : Nat} (ha : 0xE0000 ≤ a) :
    (x.residueError e node).rd a = (x.residue e).rd a := by
  unfold Half.residueError
  split
  · exact Half.giveUpFor_rd_above _ ha
  · rfl

theorem residueError_runs {h : HalfId} {e : Fin 8} {s : State} (node : Fin 4096) (live : (s.half h).live = true)
    (up : (s.half h).up .processing = true) (hr : inRange 1 3 ((s.half h).engState e) = true) :
    exec (.residueError h e node) s = .next (s.on h fun x => x.residueError e node).lines := by
  have body : exec (.residueError h e node) s = .next (s.on h fun x =>
    if x.live && x.up .processing && inRange 1 3 (x.engState e) then x.residueError e node else x).lines := rfl
  have cond : ((s.half h).live && (s.half h).up .processing && inRange 1 3 ((s.half h).engState e)) = true := by simp [live, up, hr]
  rw [body]
  exact congrArg (fun t => Host.Outcome.next (State.lines t)) (State.on_congr (if_pos cond))

theorem residueError_retires {h : HalfId} {e : Fin 8} {s : State} (node : Fin 4096) (live : (s.half h).live = true)
    (up : (s.half h).up .processing = true) (low : 1 ≤ (s.half h).engState e) (high : (s.half h).engState e ≤ 3) :
    Completes (.residueError h e node) s (fun t => (t.half h).engState e = 4 ∧ (t.half h).bit (Adr.ENG_EVENT e) 2 = true ∧
      (t.half h).get (Adr.ENG_RESIDUE_CNT e) 0 16 = satAdd 16 ((s.half h).get (Adr.ENG_RESIDUE_CNT e) 0 16) 1 ∧
      (t.half h).bit (Adr.ENG_FAULT e) 31 = true ∧ (t.half h).get (Adr.ENG_FAULT e) 0 16 = 1) ∧
    ((((s.half h).plan false).lsNodes.contains node.val = false ∨
        ((s.half h).graph.place.parts.any fun p => p.engine == e.val && p.node == node.val) = false) →
      Completes (.residueError h e node) s fun t =>
        SameRegs (Adr.ENG_RESIDUE_CNT e :: engineRegs e ++ lineRegsOf) (s.half h) (t.half h)) ∧
    (((s.half h).plan false).lsNodes.contains node.val = true →
      ((s.half h).graph.place.parts.any fun p => p.engine == e.val && p.node == node.val) = true →
      (s.half h).role = .active → (s.half h).sent.giveUp = .idle → (s.half h).sent.dead = false →
      Completes (.residueError h e node) s fun t => (t.half h).sent.giveUp = .detected 2) := by
  have hr : inRange 1 3 ((s.half h).engState e) = true := by simp [inRange, low, high]
  have run := residueError_runs node live up hr
  obtain ⟨st, ev, cnt, valid, cause, sent, same⟩ := Half.residue_shows hr
  have shown : ∀ a, 0xE0000 ≤ a →
      ((s.on h fun x => x.residueError e node).lines.half h).rd a = ((s.half h).residue e).rd a := fun a ha => by
    rw [State.lines_rd _ _ (notMem_lineRegs_above ha), State.on_half, Half.residueError_rd_above _ _ _ ha]
  refine ⟨completes_of run ⟨?_, ?_, ?_, ?_, ?_⟩, fun off => completes_of run fun a ha => ?_, fun ls placed role idle alive => ?_⟩
  · exact (Half.get_congr (shown _ (by simp only [Adr.ENG_STATUS]; omega)) 0 3).trans st
  · exact (Half.bit_congr (shown _ (by simp only [Adr.ENG_EVENT]; omega)) 2).trans ev
  · exact (Half.get_congr (shown _ (by simp only [Adr.ENG_RESIDUE_CNT]; omega)) 0 16).trans cnt
  · exact (Half.bit_congr (shown _ (by simp only [Adr.ENG_FAULT]; omega)) 31).trans valid
  · exact (Half.get_congr (shown _ (by simp only [Adr.ENG_FAULT]; omega)) 0 16).trans cause
  · have calm : (s.half h).residueError e node = (s.half h).residue e := if_neg (by
      simp only [Half.onLsPath, Bool.and_eq_true, not_and_or, Bool.not_eq_true]
      exact off)
    simp only [List.mem_append, not_or] at ha
    rw [State.lines_rd _ _ ha.2, State.on_half, calm, same a ha.1]
  · refine completes_of run ?_
    have given : (s.half h).residueError e node = ((s.half h).residue e).giveUpFor 2 := if_pos (by
      simp only [Half.onLsPath, ls, placed, Bool.and_self])
    rw [State.lines_sent, State.on_half, given]
    have apart : Adr.RDN_ROLE_STATUS ∉ Adr.ENG_RESIDUE_CNT e :: engineRegs e := by
      simp only [engineRegs, Adr.RDN_ROLE_STATUS, Adr.ENG_RESIDUE_CNT, Adr.ENG_STATUS, Adr.ENG_EVENT, Adr.ENG_FAULT, Adr.ENG_LOAD,
        Adr.PLC_STATUS, Adr.PLC_CAPACITY, Adr.PLC_EVENT, Adr.GRF_STATUS, Adr.GRF_COMMIT_STATUS, Adr.GRF_COMMIT_TARGET, Adr.GRF_EVENT,
        List.mem_cons, List.not_mem_nil, or_false]
      omega
    exact (Half.giveUpFor_detects (by decide) ((Half.role_of_rd (same _ apart)).trans role) (by rw [sent]; exact idle)
      (by rw [sent]; exact alive)).1

/-! Re-placement, tests of engines, rows (R248 to R256, R485). -/

theorem replacement_first_stage {h : HalfId} {s : State} {r : Replace} (hr : (s.half h).graph.replace = some r) (st : r.stage = 1) :
    CompletesAt (.replacementStageComplete h) h s fun x => x.graph.nextPlace = some (s.half h).replaceLs ∧
      x.graph.replace = some { r with stage := 2 } ∧ SameRegs [Adr.PLC_FAULT] (s.half h) x := by
  refine completesAt_on rfl ?_
  simp only [hr, st, if_true]
  refine ⟨rfl, rfl, ?_⟩
  exact (Writes.ite (p := (· ∈ [Adr.PLC_FAULT])) (fun _ => (Writes.refl _ (s.half h)).latch 2 (by simp)) fun _ => .refl _ _).sameRegs

theorem replacement_last_stage {h : HalfId} {s : State} {r : Replace} (hr : (s.half h).graph.replace = some r) (st : r.stage ≠ 1) :
    CompletesAt (.replacementStageComplete h) h s fun x => x.graph.nextPlace = some (s.half h).replaceAll ∧
      x.graph.replace = none ∧ x.bit Adr.PLC_STATUS 4 = false ∧
      (x.rd Adr.PLC_REPLACE_TIME).toNat = min 0xFFFF (rounded ((s.half h).age - r.since) 8) ∧
      SameRegs [Adr.PLC_STATUS, Adr.PLC_REPLACE_TIME, Adr.PLC_FAULT] (s.half h) x := by
  refine completesAt_on rfl ?_
  simp only [hr, st, if_false]
  have late : Writes (· ∈ [Adr.PLC_FAULT]) (s.half h)
      (if (decide (8000 < (s.half h).age - r.since)) = true then (s.half h).latch Adr.PLC_FAULT 2 else s.half h) :=
    .ite (fun _ => (Writes.refl _ (s.half h)).latch 2 (by simp)) fun _ => .refl _ _
  generalize (if (decide (8000 < (s.half h).age - r.since)) = true then (s.half h).latch Adr.PLC_FAULT 2 else s.half h) = y at late ⊢
  generalize (s.half h).replaceAll = place
  refine ⟨rfl, rfl, ?_, ?_, fun a ha => ?_⟩
  · rw [Half.bit_congr (Half.rd_wrNat_ne _ _ (by decide))]
    exact Half.bit_putBit_self _ _ _ _ (by decide)
  · rw [Half.rd_wrNat_self, BitVec.toNat_ofNat]
    exact Nat.mod_eq_of_lt (by omega)
  · simp only [List.mem_cons, List.not_mem_nil, or_false, not_or] at ha
    rw [Half.rd_wrNat_ne _ _ ha.2.1, Half.rd_putBit_ne _ _ _ ha.1, Half.onGraph_rd, late.keeps a (by simp [ha.2.2])]

theorem Half.showPlc_engState (x : Half) (e : Nat) : x.showPlc.engState e = x.engState e :=
  x.showPlc_moves.get (engine_apart (e := e) (by simp only [Adr.ENG_STATUS]; omega)).2 0 3

@[simp] theorem Half.setEng_graph (x : Half) (e v : Nat) : (x.setEng e v).graph = x.graph := by rw [(x.setEng_writes e v).same]
@[simp] theorem Half.onRetired_graph (x : Half) (f : RetireBank → RetireBank) : (x.onRetired f).graph = x.graph := rfl
theorem Half.showPlc_kat (x : Half) : x.showPlc.graph.kat = x.graph.kat := by
  have planDue : ∀ (y : Half) (b : GraphSt → Bool), (y.onGraph fun g => { g with planDue := b g }).graph.kat = y.graph.kat := fun _ _ => rfl
  unfold Half.showPlc
  rw [planDue, Half.wrNat_graph, Half.putBit_graph, Half.put_graph]

/-- The known-answer test of engine e is no longer under way. -/
def Half.endKat (x : Half) (e : Nat) : Half := x.onGraph fun g => { g with kat := g.kat.filter (· != e) }

theorem Half.endKat_kat (x : Half) (e : Nat) : (x.endKat e).graph.kat.contains e = false := by simp [Half.endKat]

/-- A known-answer test has passed: the engine is SPARE. -/
def Half.katPass (x : Half) (e : Nat) : Half :=
  (((x.endKat e).setEng e 1).onRetired fun r => { r with engines := maskSet r.engines e false }).showPlc

/-- A known-answer test has failed: the engine is RETIRED. -/
def Half.katFail (x : Half) (e : Nat) : Half :=
  (((x.endKat e).markRetired e 3).onRetired fun r => { r with engines := maskSet r.engines e true }).showPlc

theorem knownAnswerTestComplete_runs {h : HalfId} {e : Fin 8} {s : State} (pass : Bool) (run : (s.half h).graph.kat.contains e.val = true) :
    exec (.knownAnswerTestComplete h e pass) s = .next (s.on h fun x => if pass then x.katPass e else x.katFail e) := by
  have body : exec (.knownAnswerTestComplete h e pass) s = .next (s.on h fun x =>
    if x.graph.kat.contains e then (if pass then x.katPass e else x.katFail e) else x) := rfl
  rw [body]
  exact congrArg Host.Outcome.next (State.on_congr (if_pos run))

theorem knownAnswer_passes {h : HalfId} {e : Fin 8} {s : State} (run : (s.half h).graph.kat.contains e.val = true) :
    CompletesAt (.knownAnswerTestComplete h e true) h s fun x => x.engState e = 1 ∧ x.graph.kat.contains e.val = false ∧
      SameRegs [Adr.ENG_STATUS e, Adr.ENG_EVENT e, Adr.PLC_STATUS, Adr.PLC_CAPACITY] (s.half h) x := by
  refine completesAt_on (knownAnswerTestComplete_runs true run) ?_
  generalize s.half h = x
  show (x.katPass e).engState e = 1 ∧ (x.katPass e).graph.kat.contains e.val = false ∧ SameRegs _ x (x.katPass e)
  have spare := (EngineMoves.of_writes ((x.endKat e).setEng_writes e 1)).mono (q := (· ∈ [Adr.ENG_STATUS e, Adr.ENG_EVENT e, Adr.PLC_STATUS,
    Adr.PLC_CAPACITY])) fun a ha => by simp at ha ⊢; tauto
  unfold Half.katPass
  refine ⟨?_, ?_, fun a ha => ?_⟩
  · rw [Half.showPlc_engState]
    exact Half.setEng_engState _ _ (by decide)
  · rw [Half.showPlc_kat, Half.onRetired_graph, Half.setEng_graph, Half.endKat_kat]
  · rw [(Half.showPlc_moves _).keeps a (by simp at ha ⊢; tauto), Half.onRetired_rd, spare.keeps a ha]
    rfl

theorem knownAnswer_fails {h : HalfId} {e : Fin 8} {s : State} (run : (s.half h).graph.kat.contains e.val = true) :
    CompletesAt (.knownAnswerTestComplete h e false) h s fun x => x.engState e = 4 ∧ x.graph.kat.contains e.val = false ∧
      x.bit (Adr.ENG_FAULT e) 31 = true ∧ x.get (Adr.ENG_FAULT e) 0 16 = 3 ∧
      SameRegs [Adr.ENG_STATUS e, Adr.ENG_EVENT e, Adr.ENG_FAULT e, Adr.PLC_STATUS, Adr.PLC_CAPACITY] (s.half h) x := by
  refine completesAt_on (knownAnswerTestComplete_runs false run) ?_
  generalize s.half h = x
  show (x.katFail e).engState e = 4 ∧ (x.katFail e).graph.kat.contains e.val = false ∧ (x.katFail e).bit (Adr.ENG_FAULT e) 31 = true ∧
    (x.katFail e).get (Adr.ENG_FAULT e) 0 16 = 3 ∧ SameRegs _ x (x.katFail e)
  obtain ⟨st, valid, cause⟩ := (x.endKat e).markRetired_shows e 3
  have fault := (engine_apart (a := Adr.ENG_FAULT e) (e := e) (by simp only [Adr.ENG_FAULT]; omega)).2
  unfold Half.katFail
  refine ⟨?_, ?_, ?_, ?_, fun a ha => ?_⟩
  · rw [Half.showPlc_engState]
    exact st
  · rw [Half.showPlc_kat, Half.onRetired_graph, Half.markRetired, Half.onGraph_graph]
    exact (congrArg (fun g : GraphSt => g.kat.contains e.val) (Half.setEng_graph _ _ _)).trans (Half.endKat_kat x e)
  · exact ((Half.showPlc_moves _).bit fault 31).trans valid
  · exact ((Half.showPlc_moves _).get fault 0 16).trans cause
  · rw [(Half.showPlc_moves _).keeps a (by simp at ha ⊢; tauto), Half.onRetired_rd,
      ((x.endKat e).markRetired_moves e 3).keeps a (by simp at ha ⊢; tauto)]
    rfl

theorem deepTestTurn_spare {h : HalfId} {e : Fin 8} {s : State} (turn : (s.half h).deepTurn = true) (st : (s.half h).engState e = 1)
    (free : ((s.half h).comingPlace.parts.any fun p => p.engine == e.val) = false) :
    CompletesAt (.deepTestTurn h e) h s fun x => x.engState e = 3 ∧ x.bit (Adr.ENG_EVENT e) 0 = true ∧
      SameRegs [Adr.ENG_STATUS e, Adr.ENG_EVENT e, Adr.PLC_STATUS, Adr.PLC_CAPACITY] (s.half h) x := by
  refine completesAt_on rfl ?_
  simp only [turn, st, free, Bool.not_true, Bool.false_eq_true, if_false, Bool.not_false, and_self, if_true]
  generalize s.half h = x at st ⊢
  have ev := (engine_apart (a := Adr.ENG_EVENT e) (e := e) (by simp only [Adr.ENG_EVENT]; omega)).2
  refine ⟨?_, ?_, ?_⟩
  · rw [Half.showPlc_engState]
    exact Half.setEng_engState _ _ (by decide)
  · refine ((Half.showPlc_moves _).bit ev 0).trans ?_
    rw [Half.setEng, if_neg (by rw [st]; decide)]
    exact Half.bit_event_self _ _ _ (by decide)
  · refine EngineMoves.sameRegs (EngineMoves.trans (y := x.setEng e 3) ?_ ?_)
    · exact .of_writes ((Half.setEng_writes _ e 3).mono fun a ha => by simp at ha ⊢; tauto)
    · exact (Half.showPlc_moves _).mono fun a ha => by simp at ha ⊢; tauto

theorem deepTestTurn_loaded {h : HalfId} {e : Fin 8} {s : State} {d : Nat} (turn : (s.half h).deepTurn = true)
    (st : (s.half h).engState e = 2) (role : (s.half h).role = .standby) (spare : (s.half h).spareFor e = some d) :
    CompletesAt (.deepTestTurn h e) h s fun x => x.regs = (s.half h).regs ∧ x.graph.toTest.contains e.val = true ∧
      x.graph.nextPlace = some ((s.half h).comingPlace.move e d) := by
  refine completesAt_on rfl ?_
  simp only [turn, st, role, spare, Bool.not_true, Bool.false_eq_true, if_false, OfNat.ofNat_ne_one, false_and, and_self, if_true]
  exact ⟨rfl, by simp, rfl⟩

theorem deepTestComplete_passes {h : HalfId} {e : Fin 8} {s : State} (st : (s.half h).engState e = 3)
    (free : ((s.half h).comingPlace.parts.any fun p => p.engine == e.val) = false) :
    CompletesAt (.deepTestComplete h e true) h s fun x => x.engState e = 1 ∧ x.bit (Adr.GST_CLASS 1) 31 = false ∧
      SameRegs ([Adr.ENG_STATUS e, Adr.ENG_EVENT e, Adr.PLC_STATUS, Adr.PLC_CAPACITY] ++ gustRegs 1) (s.half h) x := by
  refine completesAt_on (f := fun x => if x.engState e = 3 ∧ !(x.comingPlace.parts.any fun p => p.engine == e.val) then
    ((x.setEng e 1).gustDone 1 e none).showPlc else x) rfl ?_
  simp only [st, free, Bool.not_false, and_self, if_true]
  generalize s.half h = x
  obtain ⟨flag, moved⟩ := (x.setEng e 1).gustDone_passed (i := 1) (by decide) e
  generalize (x.setEng e 1).gustDone 1 e none = y at flag moved ⊢
  refine ⟨?_, ?_, fun a ha => ?_⟩
  · rw [Half.showPlc_engState, Half.engState, moved.get]
    · exact Half.setEng_engState _ _ (by decide)
    · simp only [gustRegs, Adr.GST_CLASS, Adr.GST_EVENT, Adr.GST_LAST_PASS, Adr.ENG_STATUS, List.mem_cons, List.not_mem_nil, or_false]
      omega
  · exact (y.showPlc_moves.bit (by decide) 31).trans flag
  · simp only [List.mem_append, List.mem_cons, List.not_mem_nil, or_false, not_or] at ha
    obtain ⟨⟨h1, h2, h3, h4⟩, h5⟩ := ha
    rw [y.showPlc_moves.keeps a (by simp [h3, h4]), moved.keeps a h5, (x.setEng_writes e 1).keeps a (by simp [h1, h2])]

theorem deepTestComplete_fails {h : HalfId} {e : Fin 8} {s : State} (st : (s.half h).engState e = 3)
    (free : ((s.half h).comingPlace.parts.any fun p => p.engine == e.val) = false) :
    CompletesAt (.deepTestComplete h e false) h s fun x => x.engState e = 4 ∧ x.bit (Adr.GST_CLASS 1) 31 = true ∧
      x.get (Adr.GST_FAULT) 0 16 = 2 ∧ x.get (Adr.ENG_FAULT e) 0 16 = 3 ∧
      SameRegs (engineRegs e ++ gustFailRegs 1) (s.half h) x := by
  refine completesAt_on (f := fun x => if x.engState e = 3 ∧ !(x.comingPlace.parts.any fun p => p.engine == e.val) then
    ((x.retireEngine e 3).gustDone 1 e (some 2)).showPlc else x) rfl ?_
  simp only [st, free, Bool.not_false, and_self, if_true]
  obtain ⟨ret, -, why, retired⟩ := Half.retireEngine_retires (x := s.half h) (e := e) (by rw [st]; decide) (c := 3) (by decide)
  generalize s.half h = x at ret why retired ⊢
  obtain ⟨flag, cause, moved⟩ := (x.retireEngine e 3).gustDone_failed (i := 1) (by decide) e (cause := 2) (by decide)
  generalize x.retireEngine e 3 = z at ret why retired flag cause moved ⊢
  generalize z.gustDone 1 e (some 2) = y at flag cause moved ⊢
  have apart : ∀ {a}, 0xE0000 ≤ a → a ∉ gustFailRegs 1 := fun {a} ha => by
    simp only [gustFailRegs, gustRegs, Adr.GST_CLASS, Adr.GST_EVENT, Adr.GST_LAST_PASS, Adr.GST_FAIL_CNT, Adr.GST_FAULT, List.mem_append,
      List.mem_cons, List.not_mem_nil, or_false]
    omega
  have fault := (engine_apart (a := Adr.ENG_FAULT e) (e := e) (by simp only [Adr.ENG_FAULT]; omega)).2
  refine ⟨?_, (y.showPlc_moves.bit (by decide) 31).trans flag, (y.showPlc_moves.get (by decide) 0 16).trans cause, ?_, fun a ha => ?_⟩
  · rw [Half.showPlc_engState, Half.engState, moved.get (apart (by simp only [Adr.ENG_STATUS]; omega))]
    exact ret
  · rw [y.showPlc_moves.get fault, moved.get (apart (by simp only [Adr.ENG_FAULT]; omega))]
    exact why
  · simp only [List.mem_append, not_or] at ha
    obtain ⟨h1, h2⟩ := ha
    rw [y.showPlc_moves.keeps a (by simp [engineRegs] at h1; simp [h1]), moved.keeps a h2, retired.keeps a h1]

theorem Half.retireRow_rows {x : Half} {row : Nat} (new : x.boot.retired.rows.contains row = false) :
    (x.retireRow row).boot.retired.rows = x.boot.retired.rows ++ [row] ∧ (x.retireRow row).regs = x.regs ∧
      ∀ a, (x.retireRow row).rd a = x.rd a := by
  unfold Half.retireRow
  rw [if_neg (by rw [new]; decide)]
  refine ⟨?_, rfl, fun _ => rfl⟩
  show (x.boot.retire _).retired.rows = _
  rw [BootSt.retired_retire]

theorem sramRowTest_passes {h : HalfId} {row : Fin 2048} {s : State} (run : (s.half h).gustRuns 2 = true)
    (new : (s.half h).boot.retired.rows.contains row.val = false) :
    CompletesAt (.sramRowTest h row true) h s fun x => x.bit (Adr.GST_CLASS 2) 31 = false ∧
      x.boot = (s.half h).boot ∧ SameRegs (gustRegs 2) (s.half h) x := by
  refine completesAt_on rfl ?_
  simp only [run, new, Bool.not_true, Bool.or_self, Bool.false_eq_true, if_false, if_true]
  obtain ⟨flag, moved⟩ := (s.half h).gustDone_passed (i := 2) (by decide) row
  exact ⟨flag, moved.boot, moved.sameRegs⟩

theorem sramRowTest_fails {h : HalfId} {row : Fin 2048} {s : State} (run : (s.half h).gustRuns 2 = true)
    (new : (s.half h).boot.retired.rows.contains row.val = false) :
    CompletesAt (.sramRowTest h row false) h s fun x => x.bit (Adr.GST_CLASS 2) 31 = true ∧
      x.get Adr.GST_FAULT 0 16 = 3 ∧ x.boot.retired.rows = (s.half h).boot.retired.rows ++ [row.val] ∧
      SameRegs (gustFailRegs 2) (s.half h) x := by
  refine completesAt_on rfl ?_
  simp only [run, new, Bool.not_true, Bool.or_self, Bool.false_eq_true, if_false]
  obtain ⟨rows, -, same⟩ := Half.retireRow_rows new
  obtain ⟨flag, cause, moved⟩ := ((s.half h).retireRow row).gustDone_failed (i := 2) (by decide) row (cause := 3) (by decide)
  exact ⟨flag, cause, by rw [moved.boot, rows], fun a ha => (moved.keeps a ha).trans (same a)⟩

/-- Settles O32: an engine leaves service by its retirement, a test shows in its class, a row by the list in the flash. -/
theorem enginesAreTestedRetiredAndReplaced : Obligations.EnginesAreTestedRetiredAndReplaced := by
  refine fun h e s => ⟨fun node live up low high => residueError_retires node live up low high,
    fun r hr => ⟨fun st => replacement_first_stage hr st, fun st => replacement_last_stage hr st⟩,
    fun run => ⟨knownAnswer_passes run, knownAnswer_fails run⟩,
    fun turn => ⟨fun st free => deepTestTurn_spare turn st free, fun d st role spare => deepTestTurn_loaded turn st role spare⟩,
    fun st free => ⟨deepTestComplete_passes st free, deepTestComplete_fails st free⟩,
    fun row live up room => ?_, fun row run new => ⟨sramRowTest_passes run new, sramRowTest_fails run new⟩⟩
  refine completesAt_on rfl ?_
  simp only [live, up, room, decide_true, Bool.and_self, if_true]
  exact ⟨by simp, rfl⟩

end Sys2Proof.Machine
end

section
/-! O43 to O45: Gust's tests and cross-half checks, health and service life (R485 to R506). -/

namespace Sys2Proof.Machine

open Sys2Proof

/-- A completed test leaves the failure event of Gust. -/
theorem Half.gustPass_event (x : Half) : x.gustPass.bit Adr.GST_EVENT 0 = x.bit Adr.GST_EVENT 0 := by
  unfold Half.gustPass
  split
  · rw [Half.onGust_bit, Half.bit_event_bit _ _ _ _ (by decide) (by decide)]
    exact Half.bit_congr ((Half.rd_wrNat_ne _ _ (by decide)).trans (Half.rd_wrNat_ne _ _ (by decide))) 0
  · rfl

theorem Half.gustCount_bit (x : Half) (i unit age a b : Nat) : (x.gustCount i unit age).bit a b = x.bit a b := by
  rw [Half.gustCount, Half.onGust_bit]

theorem Half.gustRestart_event (x : Half) {i : Nat} (hi : i < 9) : (x.gustRestart i).bit Adr.GST_EVENT 0 = x.bit Adr.GST_EVENT 0 := by
  rw [Half.gustRestart, Half.bit_put_ne _ _ _ _ _ (gust_class_ne hi).1.symm, Half.onGust_bit]
  exact (x.endHold_gusts i fun _ => False).bit not_false 0

theorem Half.gustDone_event (x : Half) {i : Nat} (hi : i < 9) (unit : Nat) (fault : Option Nat) :
    (x.gustDone i unit fault).bit Adr.GST_EVENT 0 = (x.gustMark i fault).bit Adr.GST_EVENT 0 := by
  rw [Half.gustDone_eq]
  split
  · rw [Half.gustPass_event, Half.gustRestart_event _ hi, Half.gustCount_bit]
  · rw [Half.gustCount_bit]

/-! Tests of units (R485, R488, R491, R492). -/

theorem engineKatSlice_fails {h : HalfId} {s : State} {e : Fin 8} (run : (s.half h).gustRuns 0 = true)
    (serves : ((s.half h).gustEngines false).contains e.val = true) (on : (s.half h).katPaused e = false) (last : Bool) :
    CompletesAt (.engineKatSlice h e last false) h s fun x => x.engState e = 4 ∧ x.get (Adr.ENG_FAULT e) 0 16 = 3 ∧
      x.bit (Adr.GST_CLASS 0) 31 = true ∧ x.get Adr.GST_FAULT 0 16 = 1 ∧
      SameRegs (engineRegs e ++ gustFailRegs 0) (s.half h) x := by
  refine completesAt_on rfl ?_
  simp only [run, serves, on, Bool.not_true, Bool.not_false, Bool.or_self, Bool.false_eq_true, if_false, if_true]
  have hr : inRange 1 3 ((s.half h).engState e) = true := by
    simp [Half.gustEngines] at serves
    simp [inRange, Half.engState, serves]
  obtain ⟨ret, -, why, retired⟩ := Half.retireEngine_retires hr (c := 3) (by decide)
  generalize (s.half h).retireEngine e 3 = z at ret why retired ⊢
  obtain ⟨flag, cause, moved⟩ := z.gustDone_failed (i := 0) (by decide) e (cause := 1) (by decide)
  have apart : ∀ {a}, 0xE0000 ≤ a → a ∉ gustFailRegs 0 := fun {a} ha => by
    simp only [gustFailRegs, gustRegs, Adr.GST_CLASS, Adr.GST_EVENT, Adr.GST_LAST_PASS, Adr.GST_FAIL_CNT, Adr.GST_FAULT, List.mem_append,
      List.mem_cons, List.not_mem_nil, or_false]
    omega
  refine ⟨?_, ?_, flag, cause, fun a ha => ?_⟩
  · exact (moved.get (apart (by simp only [Adr.ENG_STATUS]; omega)) 0 3).trans ret
  · exact (moved.get (apart (by simp only [Adr.ENG_FAULT]; omega)) 0 16).trans why
  · simp only [List.mem_append, not_or] at ha
    rw [moved.keeps a ha.2, retired.keeps a ha.1]

theorem engineKatSlice_passes {h : HalfId} {s : State} {e : Fin 8} (run : (s.half h).gustRuns 0 = true)
    (serves : ((s.half h).gustEngines false).contains e.val = true) (on : (s.half h).katPaused e = false) :
    (CompletesAt (.engineKatSlice h e true true) h s fun x => x.bit (Adr.GST_CLASS 0) 31 = false ∧
      SameRegs (gustRegs 0) (s.half h) x) ∧ exec (.engineKatSlice h e false true) s = .next s := by
  constructor
  · refine completesAt_on rfl ?_
    simp only [run, serves, on, Bool.not_true, Bool.or_self, Bool.false_eq_true, if_false, if_true]
    obtain ⟨flag, moved⟩ := (s.half h).gustDone_passed (i := 0) (by decide) e
    exact ⟨flag, moved.sameRegs⟩
  · exact congrArg Host.Outcome.next (State.on_eq_self (by simp))

theorem poolCellTest_cell {h : HalfId} {s : State} {i : BitVec 16} (run : (s.half h).gustRuns 3 = true)
    (up : (s.half h).up .memory = true) (room : (s.half h).rsvUnused 64 < (s.half h).poolFree)
    (new : (s.half h).boot.retired.cells.contains i.toNat = false) :
    (CompletesAt (.poolCellTest h false i true) h s fun x => x.bit (Adr.GST_CLASS 3) 31 = false ∧ x.boot = (s.half h).boot ∧
      SameRegs (gustRegs 3) (s.half h) x) ∧
    (CompletesAt (.poolCellTest h false i false) h s fun x => x.bit (Adr.GST_CLASS 3) 31 = true ∧
      x.get Adr.GST_FAULT 0 16 = 4 ∧ x.boot.retired.cells = (s.half h).boot.retired.cells ++ [i.toNat] ∧
      SameRegs (gustFailRegs 3) (s.half h) x) := by
  constructor
  · refine completesAt_on rfl ?_
    simp only [run, up, room, new, decide_true, Bool.not_true, Bool.not_false, Bool.and_self, Bool.or_self, Bool.false_eq_true, if_false,
      if_true]
    obtain ⟨flag, moved⟩ := (s.half h).gustDone_passed (i := 3) (by decide) i.toNat
    exact ⟨flag, moved.boot, moved.sameRegs⟩
  · refine completesAt_on rfl ?_
    simp only [run, up, room, new, decide_true, Bool.not_true, Bool.not_false, Bool.and_self, Bool.or_self, Bool.false_eq_true, if_false]
    obtain ⟨flag, cause, moved⟩ := ((s.half h).onRetired fun r => { r with cells := r.cells ++ [i.toNat] }).gustDone_failed (i := 3)
      (by decide) i.toNat (cause := 4) (by decide)
    refine ⟨flag, cause, ?_, fun a ha => moved.keeps a ha⟩
    rw [moved.boot, Half.onRetired]
    exact congrArg RetireBank.cells (BootSt.retired_retire _ _)

theorem poolCellTest_granule {h : HalfId} {s : State} {i : BitVec 16} (run : (s.half h).gustRuns 3 = true)
    (up : (s.half h).up .memory = true) (low : i.toNat < 256) (free : (s.half h).granuleUsed i.toNat = false) :
    (CompletesAt (.poolCellTest h true i true) h s fun x => x.bit (Adr.GST_CLASS 3) 31 = false ∧ x.boot = (s.half h).boot ∧
      SameRegs (gustRegs 3) (s.half h) x) ∧
    (CompletesAt (.poolCellTest h true i false) h s fun x => x.bit (Adr.GST_CLASS 3) 31 = true ∧
      x.get Adr.GST_FAULT 0 16 = 4 ∧ x.boot.retired.granules.contains i.toNat = true ∧
      SameRegs (gustFailRegs 3) (s.half h) x) := by
  constructor
  · refine completesAt_on rfl ?_
    simp only [run, up, low, free, decide_true, Bool.not_true, Bool.not_false, Bool.and_self, Bool.or_self, Bool.false_eq_true, if_false,
      if_true]
    obtain ⟨flag, moved⟩ := (s.half h).gustDone_passed (i := 3) (by decide) (0x10000 + i.toNat)
    exact ⟨flag, moved.boot, moved.sameRegs⟩
  · refine completesAt_on rfl ?_
    simp only [run, up, low, free, decide_true, Bool.not_true, Bool.not_false, Bool.and_self, Bool.or_self, Bool.false_eq_true, if_false,
      if_true]
    obtain ⟨flag, cause, moved⟩ := ((s.half h).onRetired fun r =>
      { r with granules := i.toNat :: r.granules.filter (· != i.toNat) }).gustDone_failed (i := 3) (by decide) (0x10000 + i.toNat)
      (cause := 4) (by decide)
    refine ⟨flag, cause, ?_, fun a ha => moved.keeps a ha⟩
    rw [moved.boot, Half.onRetired]
    exact (congrArg (fun r : RetireBank => r.granules.contains i.toNat) (BootSt.retired_retire _ _)).trans (by simp)

/-- A test of one unit that only its class shows. -/
theorem gustTest_shows {c : Instr} {h : HalfId} {s : State} {cls cause unit : Nat} (pass : Bool) (hi : cls < 9) (hc : cause < 0x10000)
    (run : exec c s = .next (s.on h fun x => x.gustDone cls unit (if pass then none else some cause))) :
    (pass = true → CompletesAt c h s fun x => x.bit (Adr.GST_CLASS cls) 31 = false ∧ SameRegs (gustRegs cls) (s.half h) x) ∧
    (pass = false → CompletesAt c h s fun x => x.bit (Adr.GST_CLASS cls) 31 = true ∧ x.get Adr.GST_FAULT 0 16 = cause ∧
      x.bit Adr.GST_EVENT 0 = true ∧ SameRegs (gustFailRegs cls) (s.half h) x) := by
  constructor
  · rintro rfl
    obtain ⟨flag, moved⟩ := (s.half h).gustDone_passed hi unit
    exact completesAt_on run ⟨flag, moved.sameRegs⟩
  · rintro rfl
    obtain ⟨flag, shown, moved⟩ := (s.half h).gustDone_failed hi unit hc
    obtain ⟨-, -, ev, -, -⟩ := (s.half h).gustFail_shows hi cause
    exact completesAt_on run ⟨flag, shown, ((s.half h).gustDone_event hi unit (some cause)).trans ev, moved.sameRegs⟩

theorem gateTrackingLost_shows {h : HalfId} {s : State} {k : Fin 32} (run : (s.half h).gustRuns 7 = true) (role : (s.half h).role = .standby)
    (drives : (s.half h.other).running k = true) (track : (s.half h).bit (Adr.AMP_TRACK k) 31 = false)
    (new : (s.half h).bit Adr.GST_GATE_MISMATCH k = false) :
    CompletesAt (.gateTrackingLost h k) h s fun x => x.bit Adr.GST_GATE_MISMATCH k = true ∧
      x.bit (Adr.GST_CLASS 7) 31 = true ∧ x.get Adr.GST_FAULT 0 16 = 7 ∧
      SameRegs [Adr.GST_GATE_MISMATCH, Adr.GST_CLASS 7, Adr.GST_FAULT, Adr.GST_FAIL_CNT] (s.half h) x := by
  refine completesAt_on rfl ?_
  simp only [run, role, drives, track, new, beq_self_eq_true, Bool.not_false, Bool.and_self, if_true]
  generalize s.half h = x
  refine ⟨?_, ?_, ?_, fun a ha => ?_⟩
  · rw [Half.life_bit, Half.bit_congr (Half.rd_count_ne _ _ _ _ (by decide)), Half.bit_putBit_ne _ _ _ _ (by decide),
      Half.bit_latch_ne _ _ _ _ _ (by decide)]
    exact Half.bit_putBit_self _ _ _ _ k.isLt
  · rw [Half.life_bit, Half.bit_congr (Half.rd_count_ne _ _ _ _ (by decide))]
    exact Half.bit_putBit_self _ _ _ _ (by decide)
  · rw [Half.life_get, Half.get_congr (Half.rd_count_ne _ _ _ _ (by decide)), Half.get_congr (Half.rd_putBit_ne _ _ _ (by decide))]
    exact Half.get_latch_cause ..
  · simp only [List.mem_cons, List.not_mem_nil, or_false, not_or] at ha
    obtain ⟨h1, h2, h3, h4⟩ := ha
    rw [Half.life_rd, Half.rd_count_ne _ _ _ _ h4, Half.rd_putBit_ne _ _ _ h2, Half.rd_latch_ne _ _ h3, Half.rd_putBit_ne _ _ _ h1]

theorem forbiddenGateCombination_shows {h : HalfId} {s : State} (k : Fin 32) (run : (s.half h).gustRuns 7 = true)
    (role : (s.half h).role = .standby) :
    CompletesAt (.forbiddenGateCombination h k) h s fun x => x.bit (Adr.GST_CLASS 7) 31 = true ∧
      x.bit Adr.GST_EVENT 0 = true ∧ x.get Adr.GST_FAULT 0 16 = 8 ∧
      (x.rd Adr.GST_FAIL_CNT).toNat % 2 ^ 16 = satAdd 16 ((s.half h).get Adr.GST_FAIL_CNT 0 16) 1 ∧
      SameRegs [Adr.GST_CLASS 7, Adr.GST_EVENT, Adr.GST_FAULT, Adr.GST_FAIL_CNT] (s.half h) x := by
  refine completesAt_on rfl ?_
  simp only [run, role, k.isLt, beq_self_eq_true, decide_true, Bool.and_self, if_true]
  obtain ⟨flag, cause, ev, cnt, moved⟩ := (s.half h).gustFail_shows (i := 7) (by decide) 8
  refine ⟨flag, ev, cause, ?_, moved.sameRegs⟩
  rw [← cnt, Half.get, getBits, pow_zero, Nat.div_one]

theorem ampDiffExpiry_shows {h : HalfId} {s : State} {i : Fin 32} (live : (s.half h).live = true) (role : (s.half h).role = .standby) :
    (CompletesAt (.ampDiffExpiry h false i) h s fun x => x.bit Adr.GST_AMP_DIFF i = true ∧ OnlyRegs [Adr.GST_AMP_DIFF] (s.half h) x) ∧
    (i.val < 4 → CompletesAt (.ampDiffExpiry h true i) h s fun x => x.bit Adr.GST_NTC_DIFF i = true ∧
      OnlyRegs [Adr.GST_NTC_DIFF] (s.half h) x) ∧
    (4 ≤ i.val → exec (.ampDiffExpiry h true i) s = .next s) := by
  refine ⟨completesAt_on rfl ?_, fun low => completesAt_on rfl ?_, fun high => congrArg Host.Outcome.next (State.on_eq_self ?_)⟩
  · simp only [live, role, beq_self_eq_true, Bool.and_self, Bool.not_false, if_true]
    exact ⟨Half.bit_putBit_self _ _ _ _ i.isLt, ((Writes.refl _ _).putBit i true (by simp)).onlyRegs⟩
  · simp only [live, role, low, beq_self_eq_true, Bool.and_self, Bool.not_true, Bool.false_eq_true, if_false, if_true]
    exact ⟨Half.bit_putBit_self _ _ _ _ i.isLt, ((Writes.refl _ _).putBit i true (by simp)).onlyRegs⟩
  · simp [Nat.not_lt.2 high]

theorem gustClassOverdue_shows {h : HalfId} {s : State} {cls : Fin 9} (live : (s.half h).live = true) (up : (s.half h).up .control = true)
    (has : (s.half h).gustHas cls = true) :
    CompletesAt (.gustClassOverdue h cls) h s fun x => x.bit (Adr.GST_CLASS cls) 30 = true ∧ x.bit Adr.GST_EVENT 1 = true ∧
      OnlyRegs [Adr.GST_CLASS cls, Adr.GST_EVENT] (s.half h) x := by
  refine completesAt_on rfl ?_
  simp only [live, up, has, Bool.and_self, if_true]
  obtain ⟨ne, -⟩ := gust_class_ne cls.isLt
  refine ⟨?_, Half.bit_event_self _ _ _ (by decide), (((Writes.refl _ _).putBit 30 true (by simp)).event 1 (by simp)).onlyRegs⟩
  rw [Half.bit_event_ne _ _ _ ne]
  exact Half.bit_putBit_self _ _ _ _ (by decide)

/-- Settles O43: each test ends in `gustDone` of its class, after what its failure retires. -/
theorem gustTestsReportTheirUnits : Obligations.GustTestsReportTheirUnits := by
  refine fun h s => ⟨fun e run serves on => ⟨engineKatSlice_fails run serves on, engineKatSlice_passes run serves on⟩,
    fun i run up => ⟨poolCellTest_cell run up, poolCellTest_granule run up⟩, fun c cls cause pass which run => ?_,
    fun k run role => ⟨gateTrackingLost_shows run role, forbiddenGateCombination_shows k run role⟩,
    fun i live role => ampDiffExpiry_shows live role, fun cls live up has => gustClassOverdue_shows live up has⟩
  obtain ⟨rfl, rfl, rfl⟩ | ⟨⟨d, rfl⟩, rfl, rfl⟩ := which
  · exact gustTest_shows (unit := 0) pass (by decide) (by decide) (congrArg Host.Outcome.next (State.on_congr (if_pos run)))
  · exact gustTest_shows (unit := d) pass (by decide) (by decide) (congrArg Host.Outcome.next (State.on_congr (if_pos run)))

/-! The comparison of converters (R490). -/

/-- Mismatches and clean windows in a row of converter i, and its bit. -/
def Half.senseView (x : Half) (i : Nat) : (Nat × Nat) × Bool :=
  (lookAt (fun _ => (0, 0)) x.gust.mismatch i, x.bit (Adr.GST_SENSE_MISMATCH (i / 32)) (i % 32))

/-- One compared window, as a converter's counts and bit see it. -/
def senseNext (bad : Bool) (v : (Nat × Nat) × Bool) : (Nat × Nat) × Bool :=
  let n := if bad then (v.1.1 + 1, 0) else (0, v.1.2 + 1)
  ((min n.1 3, min n.2 10), if !v.2 && n.1 == 3 then true else if v.2 && n.2 == 10 then false else v.2)

/-- The registers that a compared window of converter i writes. -/
def senseRegs (i : Nat) : List Nat :=
  [Adr.GST_SENSE_MISMATCH (i / 32), Adr.SNS_FAULT i, Adr.GST_EVENT, Adr.GST_FAULT, Adr.GST_FAIL_CNT]

/-- The counts of converter i after a window. -/
def Half.senseCount (x : Half) (i : Nat) (n : Nat × Nat) : Half :=
  x.onGust fun g => { g with mismatch := storeAt (fun _ => (0, 0)) g.mismatch i n }

/-- The bit of converter i is set with its causes. -/
def Half.senseSet (x : Half) (i : Nat) : Half :=
  (((((x.putBit (Adr.GST_SENSE_MISMATCH (i / 32)) (i % 32) true).latch (Adr.SNS_FAULT i) 4).event Adr.GST_EVENT 2).latch
    Adr.GST_FAULT 6).count Adr.GST_FAIL_CNT 0 16 1).life .gustFails 1

theorem Half.senseWindow_eq (x : Half) (i : Nat) (bad : Bool) (n : Nat × Nat)
    (hn : n = if bad then ((lookAt (fun _ => (0, 0)) x.gust.mismatch i).1 + 1, 0) else (0, (lookAt (fun _ => (0, 0)) x.gust.mismatch i).2 + 1)) :
    x.senseWindow i bad =
      if (!x.bit (Adr.GST_SENSE_MISMATCH (i / 32)) (i % 32) && n.1 == 3) = true then (x.senseCount i (min n.1 3, min n.2 10)).senseSet i
      else if (x.bit (Adr.GST_SENSE_MISMATCH (i / 32)) (i % 32) && n.2 == 10) = true then
        (x.senseCount i (min n.1 3, min n.2 10)).putBit (Adr.GST_SENSE_MISMATCH (i / 32)) (i % 32) false
      else x.senseCount i (min n.1 3, min n.2 10) := by
  subst hn
  rfl

theorem Half.senseSet_gusts (x : Half) (i : Nat) : Gusts (· ∈ senseRegs i) x (x.senseSet i) := by
  refine Gusts.life (.of_writes ?_) _ _
  exact (((((Writes.refl _ x).putBit _ true (by simp [senseRegs])).latch 4 (by simp [senseRegs])).event 2 (by simp [senseRegs])).latch 6
    (by simp [senseRegs])).count 0 16 1 (by simp [senseRegs])

theorem Half.life_gust (x : Half) (c : Life) (d : Nat) : (x.life c d).gust = x.gust := rfl

theorem Half.senseSet_gust (x : Half) (i : Nat) : (x.senseSet i).gust = x.gust := by
  rw [Half.senseSet, Half.life_gust, Half.count_gust, Half.latch_gust, Half.event_gust, Half.latch_gust, Half.putBit_gust]

theorem senseMismatch_ne (w : Nat) : Adr.GST_SENSE_MISMATCH w ≠ Adr.GST_EVENT ∧ Adr.GST_SENSE_MISMATCH w ≠ Adr.GST_FAULT ∧
    Adr.GST_SENSE_MISMATCH w ≠ Adr.GST_FAIL_CNT ∧ ∀ i, i < 80 → Adr.GST_SENSE_MISMATCH w ≠ Adr.SNS_FAULT i := by
  simp only [Adr.GST_SENSE_MISMATCH, Adr.GST_EVENT, Adr.GST_FAULT, Adr.GST_FAIL_CNT, Adr.SNS_FAULT]
  exact ⟨by omega, by omega, by omega, fun i hi => by omega⟩

theorem Half.senseSet_bit (x : Half) {i : Nat} (hi : i < 80) (w b : Nat) :
    (x.senseSet i).bit (Adr.GST_SENSE_MISMATCH w) b =
      (x.putBit (Adr.GST_SENSE_MISMATCH (i / 32)) (i % 32) true).bit (Adr.GST_SENSE_MISMATCH w) b := by
  obtain ⟨ev, fault, cnt, sns⟩ := senseMismatch_ne w
  rw [Half.senseSet, Half.life_bit, Half.bit_congr (Half.rd_count_ne _ _ _ _ cnt), Half.bit_latch_ne _ _ _ _ _ fault,
    Half.bit_event_ne _ _ _ ev, Half.bit_latch_ne _ _ _ _ _ (sns i hi)]

/-- A bit of a converter after the bit of one is written. -/
theorem Half.senseBit_putBit (x : Half) (i j : Nat) (v : Bool) :
    (x.putBit (Adr.GST_SENSE_MISMATCH (i / 32)) (i % 32) v).bit (Adr.GST_SENSE_MISMATCH (j / 32)) (j % 32) =
      if j = i then v else x.bit (Adr.GST_SENSE_MISMATCH (j / 32)) (j % 32) := by
  split
  · next h =>
    subst h
    exact Half.bit_putBit_self _ _ _ _ (Nat.mod_lt _ (by decide))
  · next h =>
    by_cases hw : j / 32 = i / 32
    · rw [hw]
      exact Half.bit_putBit_bit _ _ _ _ _ (Nat.mod_lt _ (by decide)) (by omega)
    · exact Half.bit_putBit_ne _ _ _ _ (by simp only [Adr.GST_SENSE_MISMATCH]; omega)

theorem Half.senseCount_mismatch (x : Half) (i j : Nat) (n : Nat × Nat) :
    lookAt (fun _ => (0, 0)) (x.senseCount i n).gust.mismatch j = if j = i then n else lookAt (fun _ => (0, 0)) x.gust.mismatch j :=
  lookAt_storeAt ..

theorem Half.senseCount_bit (x : Half) (i : Nat) (n : Nat × Nat) (a b : Nat) : (x.senseCount i n).bit a b = x.bit a b := by
  rw [Half.senseCount, Half.onGust_bit]

/-- A compared window of converter i moves the counts and the bit of converter i alone. -/
theorem Half.senseWindow_view (x : Half) {i : Nat} (hi : i < 80) (bad : Bool) (j : Nat) :
    (x.senseWindow i bad).senseView j = if j = i then senseNext bad (x.senseView i) else x.senseView j := by
  rw [x.senseWindow_eq i bad _ rfl]
  unfold Half.senseView senseNext
  simp only
  generalize hn : (if bad = true then ((lookAt (fun _ => (0, 0)) x.gust.mismatch i).1 + 1, 0)
    else (0, (lookAt (fun _ => (0, 0)) x.gust.mismatch i).2 + 1)) = n
  generalize hb : x.bit (Adr.GST_SENSE_MISMATCH (i / 32)) (i % 32) = set
  by_cases hset : (!set && n.1 == 3) = true
  · rw [if_pos hset, if_pos hset, Half.senseSet_gust, Half.senseCount_mismatch, Half.senseSet_bit _ hi, Half.senseBit_putBit,
      Half.senseCount_bit]
    split <;> rfl
  · rw [if_neg hset, if_neg hset]
    by_cases hclear : (set && n.2 == 10) = true
    · rw [if_pos hclear, if_pos hclear, Half.putBit_gust, Half.senseCount_mismatch, Half.senseBit_putBit, Half.senseCount_bit]
      split <;> rfl
    · rw [if_neg hclear, if_neg hclear, Half.senseCount_mismatch, Half.senseCount_bit]
      split
      · next h => rw [h, hb]
      · rfl

theorem Half.senseWindow_gusts (x : Half) (i : Nat) (bad : Bool) : Gusts (· ∈ senseRegs i) x (x.senseWindow i bad) := by
  obtain ⟨n, hn⟩ : ∃ n, n = if bad then ((lookAt (fun _ => (0, 0)) x.gust.mismatch i).1 + 1, 0)
    else (0, (lookAt (fun _ => (0, 0)) x.gust.mismatch i).2 + 1) := ⟨_, rfl⟩
  rw [x.senseWindow_eq i bad n hn]
  have counted : ∀ n, Gusts (· ∈ senseRegs i) x (x.senseCount i n) := fun n => (Gusts.of_writes (.refl _ x)).onGust _
  split
  · exact (counted _).trans (Half.senseSet_gusts _ i)
  · split
    · exact (counted _).trans (.of_writes ((Writes.refl _ _).putBit _ false (by simp [senseRegs])))
    · exact counted _

theorem snsStatus_notMem {i j : Nat} (hi : i < 80) (hj : j < 80) : Adr.SNS_STATUS j ∉ senseRegs i := by
  simp only [senseRegs, Adr.SNS_STATUS, Adr.GST_SENSE_MISMATCH, Adr.SNS_FAULT, Adr.GST_EVENT, Adr.GST_FAULT, Adr.GST_FAIL_CNT,
    List.mem_cons, List.not_mem_nil, or_false]
  omega

/-- The converters of a list compared in turn, each where it is valid on both halves. -/
def Half.senseStep (partner : Half) (tol : Nat) (x : Half) (q : (SenseStat × SenseStat) × Nat) : Half :=
  if x.snsValid q.2 && partner.snsValid q.2 then x.senseWindow q.2 (senseMismatch tol q.1.1 q.1.2) else x

/-- What comparing some converters leaves of a half: the registers of none of them, the validity of every one, the rest by index. -/
structure Compared (low high : Nat) (x y : Half) : Prop where
  gusts : Gusts (fun a => ∃ i, i < 80 ∧ a ∈ senseRegs i) x y
  view : ∀ j, j < low ∨ high ≤ j → y.senseView j = x.senseView j

theorem Compared.refl (low high : Nat) (x : Half) : Compared low high x x := ⟨.of_writes (.refl _ x), fun _ _ => rfl⟩

theorem Compared.snsValid {low high : Nat} {x y : Half} (h : Compared low high x y) {j : Nat} (hj : j < 80) :
    y.snsValid j = x.snsValid j := h.gusts.bit (fun ⟨_, hi, hm⟩ => snsStatus_notMem hi hj hm) 0

theorem Half.senseStep_compared (x partner : Half) (tol : Nat) (p : SenseStat × SenseStat) {i : Nat} (hi : i < 80) :
    Compared i (i + 1) x (Half.senseStep partner tol x (p, i)) := by
  unfold Half.senseStep
  split
  · refine ⟨(x.senseWindow_gusts i _).mono fun a ha => ⟨i, hi, ha⟩, fun j hj => ?_⟩
    rw [x.senseWindow_view hi, if_neg (by omega)]
  · exact .refl _ _ x

theorem Half.senseFold_compared (partner : Half) (tol : Nat) (l : List (SenseStat × SenseStat)) (k : Nat) (hk : k + l.length ≤ 80)
    (x : Half) : Compared k (k + l.length) x ((l.zipIdx k).foldl (Half.senseStep partner tol) x) := by
  induction l generalizing k x with
  | nil => exact .refl _ _ x
  | cons p l ih =>
    simp only [List.length_cons] at hk ⊢
    rw [List.zipIdx_cons, List.foldl_cons]
    have first := x.senseStep_compared partner tol p (i := k) (by omega)
    have rest := ih (k + 1) (by omega) (Half.senseStep partner tol x (p, k))
    exact ⟨first.gusts.trans rest.gusts, fun j hj => (rest.view j (by omega)).trans (first.view j (by omega))⟩

/-- A converter of the list, valid on both halves, sees one window. -/
theorem Half.senseFold_view (partner : Half) (tol : Nat) (l : List (SenseStat × SenseStat)) (k : Nat) (hk : k + l.length ≤ 80)
    (x : Half) {i : Nat} {p : SenseStat × SenseStat} (hp : l[i]? = some p) (v1 : x.snsValid (k + i) = true)
    (v2 : partner.snsValid (k + i) = true) :
    ((l.zipIdx k).foldl (Half.senseStep partner tol) x).senseView (k + i) = senseNext (senseMismatch tol p.1 p.2) (x.senseView (k + i)) := by
  induction l generalizing k x i with
  | nil => simp at hp
  | cons q l ih =>
    simp only [List.length_cons] at hk
    rw [List.zipIdx_cons, List.foldl_cons]
    have first := x.senseStep_compared partner tol q (i := k) (by omega)
    cases i with
    | zero =>
      obtain rfl : q = p := by simpa using hp
      have rest := Half.senseFold_compared partner tol l (k + 1) (by omega) (Half.senseStep partner tol x (q, k))
      simp only [Nat.add_zero] at v1 v2 ⊢
      rw [rest.view k (by omega), Half.senseStep, if_pos (by simp [v1, v2]), x.senseWindow_view (by omega), if_pos rfl]
    | succ i =>
      have hi : i < l.length := by
        obtain ⟨h, -⟩ := List.getElem?_eq_some_iff.1 hp
        simpa using h
      have hx := ih (k + 1) (by omega) (Half.senseStep partner tol x (q, k)) (i := i) (by simpa using hp)
        ((first.snsValid (by omega)).trans (by rw [← v1]; congr 1; omega)) (by rw [← v2]; congr 1; omega)
      rw [show k + (i + 1) = k + 1 + i by omega, hx, first.view _ (by omega)]

/-- Class 6 has completed, its flag the bits of the converters. -/
def Half.senseDone (x : Half) : Half :=
  (x.gustDone 6 0 none).putBit (Adr.GST_CLASS 6) 31 ((List.range 3).any fun w => (x.rd (Adr.GST_SENSE_MISMATCH w)).toNat != 0)

theorem Half.crossWindow_eq (x partner : Half) (a b : List SenseStat) :
    x.crossWindow partner a b =
      ((((a.zip b).take 80).zipIdx).foldl (Half.senseStep partner (x.get Adr.GST_SENSE_TOL 0 16)) x).senseDone := rfl

/-- The mismatches of the converters are no part of a class. -/
theorem Half.gustDone_mismatch (x : Half) (i unit : Nat) : (x.gustDone i unit none).gust.mismatch = x.gust.mismatch := by
  have passed : ∀ y : Half, y.gustPass.gust.mismatch = y.gust.mismatch := fun y => by
    unfold Half.gustPass
    split
    · rw [Half.onGust_gust, Half.event_gust, Half.wr64, Half.wrNat_gust, Half.wrNat_gust]
    · rfl
  have held : ∀ y : Half, (y.endHold i).gust = y.gust := fun y => by
    unfold Half.endHold
    split <;> rfl
  have counted : ∀ y : Half, (y.gustCount i unit x.age).gust.mismatch = y.gust.mismatch := fun y => by
    rw [Half.gustCount, Half.onGust_gust]
  have marked : (x.gustMark i none).gust = x.gust := Half.putBit_gust ..
  rw [Half.gustDone_eq]
  split
  · rw [passed, Half.gustRestart, Half.put_gust, Half.onGust_gust, held, counted, marked]
  · rw [counted, marked]

theorem Half.senseDone_gusts (x : Half) : Gusts (· ∈ gustRegs 6) x x.senseDone :=
  (x.gustDone_passed (i := 6) (by decide) 0).2.trans (.of_writes ((Writes.refl _ _).putBit 31 _ (by simp [gustRegs])))

theorem Half.senseDone_view (x : Half) (i : Nat) : x.senseDone.senseView i = x.senseView i := by
  have apart : Adr.GST_SENSE_MISMATCH (i / 32) ∉ gustRegs 6 := by
    simp only [gustRegs, Adr.GST_CLASS, Adr.GST_EVENT, Adr.GST_LAST_PASS, Adr.GST_SENSE_MISMATCH, List.mem_cons, List.not_mem_nil, or_false]
    omega
  rw [Half.senseView, x.senseDone_gusts.bit apart, Half.senseDone, Half.putBit_gust, Half.gustDone_mismatch, ← Half.senseView]

/-- Settles O44: each half folds the converters of the window in turn, then completes class 6. -/
theorem halvesCompareTheirConverters : Obligations.HalvesCompareTheirConverters := by
  intro a b s ca cb
  have run : exec (.crossSenseWindow a b) s = .next { s with a := s.a.crossWindow s.b a b, b := s.b.crossWindow s.a a b } :=
    congrArg Host.Outcome.next (if_pos (by rw [ca, cb]; rfl))
  refine completes_of run fun k => ?_
  have half : ({ s with a := s.a.crossWindow s.b a b, b := s.b.crossWindow s.a a b } : State).half k =
      (s.half k).crossWindow (s.half k.other) a b := by cases k <;> rfl
  rw [half, Half.crossWindow_eq]
  generalize s.half k = x
  generalize s.half k.other = partner
  have few : 0 + ((a.zip b).take 80).length ≤ 80 := by simp
  have folded := Half.senseFold_compared partner (x.get Adr.GST_SENSE_TOL 0 16) ((a.zip b).take 80) 0 few x
  refine ⟨fun i u v hi ha hb v1 v2 n hn => ?_, fun r hr words faults => ?_⟩
  · have listed : ((a.zip b).take 80)[i]? = some (u, v) := by
      rw [List.getElem?_take, if_pos hi, List.getElem?_zip_eq_some]
      exact ⟨ha, hb⟩
    have view := Half.senseFold_view partner (x.get Adr.GST_SENSE_TOL 0 16) _ 0 few x listed (by rwa [Nat.zero_add]) (by rwa [Nat.zero_add])
    rw [Nat.zero_add, ← Half.senseDone_view] at view
    have counts := congrArg Prod.fst view
    have flag := congrArg Prod.snd view
    simp only [Half.senseView, ← hn] at counts flag
    refine ⟨counts.trans ?_, fun bad two => flag.trans ?_, fun good nine => flag.trans ?_⟩
    · cases hm : senseMismatch (x.get Adr.GST_SENSE_TOL 0 16) u v <;> simp [senseNext]
    · simp [senseNext, bad, two]
    · simp [senseNext, good, nine]
  · have apart : ¬ ∃ i, i < 80 ∧ r ∈ senseRegs i := by
      rintro ⟨i, hi, hm⟩
      simp only [gustFailRegs, gustRegs, List.mem_append, List.mem_cons, List.not_mem_nil, or_false, not_or] at hr
      simp only [senseRegs, List.mem_cons, List.not_mem_nil, or_false] at hm
      obtain e | e | e | e | e := hm
      · exact words (i / 32) (by omega) e
      · exact faults i hi e
      · exact hr.1.2.1 e
      · exact hr.2.2 e
      · exact hr.2.1 e
    rw [(Half.senseDone_gusts _).keeps r (fun hm => hr (by simp [gustFailRegs, hm])), folded.gusts.keeps r apart]

/-! The health record, wear, hours, warnings (R493 to R503). -/

theorem Half.each_range_succ (x : Half) (n : Nat) (g : Half → Nat → Half) :
    x.each (List.range (n + 1)) g = g (x.each (List.range n) g) n := by
  rw [Half.each, List.range_succ, List.foldl_append, List.foldl_cons, List.foldl_nil, ← Half.each]

/-- Words written in turn at a row of addresses. -/
theorem Half.each_wr_writes (x : Half) (f : Nat → Nat) (v : Nat → Word) (n : Nat) :
    Writes (fun a => ∃ i, i < n ∧ a = f i) x (x.each (List.range n) fun y i => y.wr (f i) (v i)) :=
  .foldl (fun i hi y => (Writes.refl _ y).wr _ ⟨i, List.mem_range.1 hi, rfl⟩) x

theorem Half.each_wr_rd (x : Half) {f : Nat → Nat} (v : Nat → Word) (hf : ∀ i j, f i = f j → i = j) {n j : Nat} (hj : j < n) :
    (x.each (List.range n) fun y i => y.wr (f i) (v i)).rd (f j) = v j := by
  induction n with
  | zero => omega
  | succ n ih =>
    rw [Half.each_range_succ, Half.rd_wr]
    split
    · next h => rw [hf _ _ h]
    · next h => exact ih (by have : j ≠ n := fun e => h (by rw [e]); omega)

/-- The counts of the link since the last record, in the record (R497). -/
def Half.linkLife (x : Half) (ecc rep : Nat) : Half := (x.life .linkEcc ecc).life .onarRetry rep

/-- The half with its next record's number. -/
def Half.nextRecord (x : Half) : Half := { x with hlt := { x.hlt with seq := (x.hlt.seq + 1) % 2 ^ 32 } }

/-- A record of these bytes in its window. -/
def Half.showRecord (x : Half) (bs : List Byte) : Half :=
  x.each (List.range 64) fun y i => y.wr (Adr.HLT_RECORD i) (BitVec.ofNat 32 (beAt bs (4 * i) 4))

/-- A record of these bytes on its queue, where it is enabled. -/
def Half.sendRecord (x : Half) (bs : List Byte) : Half := if x.bit Adr.HLT_CTRL 0 then x.hwPush 8 5 (healthItems bs) else x

theorem Half.sendRecord_pushed (x : Half) (bs : List Byte) : Pushed 8 x (x.sendRecord bs) := by
  unfold Half.sendRecord
  split
  · exact x.hwPush_pushed 8 5 _
  · exact .refl 8 x

theorem hltRecord_inj (i j : Nat) (h : Adr.HLT_RECORD i = Adr.HLT_RECORD j) : i = j := by
  simp only [Adr.HLT_RECORD] at h
  omega

theorem healthRecord_shows {h : HalfId} {s : State} (live : (s.half h).live = true) (up : (s.half h).up .control = true)
    (ecc rep : BitVec 16) {y : Half} (hy : y = ((s.half h).life .linkEcc ecc.toNat).life .onarRetry rep.toNat) :
    CompletesAt (.healthRecord h ecc rep) h s fun x =>
      x.hlt = { y.hlt with seq := ((s.half h).hlt.seq + 1) % 2 ^ 32 } ∧
      (∀ i z, i < 64 → z = { y with hlt := { y.hlt with seq := ((s.half h).hlt.seq + 1) % 2 ^ 32 } } →
        x.rd (Adr.HLT_RECORD i) = BitVec.ofNat 32 (beAt
          (z.healthBytes (if (s.half h).bit Adr.HLT_STATUS 4 then (s.half h).lspDiff (s.half h.other) else 0)) (4 * i) 4)) ∧
      (∀ r, r ≠ Adr.QM_DROP_CNT 8 → (∀ i, i < 64 → r ≠ Adr.HLT_RECORD i) → x.rd r = (s.half h).rd r) := by
  generalize hp : s.half h.other = p
  have run : exec (.healthRecord h ecc rep) s = .next (s.on h fun x => if x.live && x.up .control then
      let z := (x.linkLife ecc.toNat rep.toNat).nextRecord
      let bs := z.healthBytes (if z.bit Adr.HLT_STATUS 4 then z.lspDiff p else 0)
      (z.showRecord bs).sendRecord bs
    else x) := by rw [← hp]; rfl
  refine completesAt_on run ?_
  simp only [live, up, Bool.and_self, if_true]
  have named : y = (s.half h).linkLife ecc.toNat rep.toNat := hy
  generalize hx : s.half h = x at named ⊢
  have reg : ∀ a, (x.linkLife ecc.toNat rep.toNat).nextRecord.rd a = x.rd a := fun _ => rfl
  have next : (x.linkLife ecc.toNat rep.toNat).nextRecord = { y with hlt := { y.hlt with seq := (x.hlt.seq + 1) % 2 ^ 32 } } := by
    rw [named]; rfl
  have diff : (if (x.linkLife ecc.toNat rep.toNat).nextRecord.bit Adr.HLT_STATUS 4 = true then
      (x.linkLife ecc.toNat rep.toNat).nextRecord.lspDiff p else 0) = if x.bit Adr.HLT_STATUS 4 = true then x.lspDiff p else 0 := by
    rw [Half.bit_congr (reg _), Half.lspDiff, Half.lspDiff]
    simp only [Half.get_congr (reg _)]
  rw [diff]
  generalize (if x.bit Adr.HLT_STATUS 4 = true then x.lspDiff p else 0) = lsp
  generalize (x.linkLife ecc.toNat rep.toNat).nextRecord = w at reg next ⊢
  generalize hb : w.healthBytes lsp = bs
  have pushed := (w.showRecord bs).sendRecord_pushed bs
  have shown := w.each_wr_writes Adr.HLT_RECORD (fun i => BitVec.ofNat 32 (beAt bs (4 * i) 4)) 64
  rw [show (w.each (List.range 64) fun y i => y.wr (Adr.HLT_RECORD i) (BitVec.ofNat 32 (beAt bs (4 * i) 4))) = w.showRecord bs from rfl]
    at shown
  refine ⟨?_, fun i z hi hz => ?_, fun r hr hrec => ?_⟩
  · rw [pushed.same, shown.same, next]
  · rw [hz, ← next, hb, pushed.regs _ (by simp only [Adr.HLT_RECORD, Adr.QM_DROP_CNT]; omega)]
    exact w.each_wr_rd (fun i => BitVec.ofNat 32 (beAt bs (4 * i) 4)) hltRecord_inj hi
  · rw [pushed.regs r hr, shown.keeps r (fun ⟨i, hi, e⟩ => hrec i hi e), reg]

theorem partnerHealthRecord_shows {h : HalfId} {s : State} (live : (s.half h).live = true) (up : (s.half h).up .control = true)
    (link : (s.half h).linkUp = true) (other : (s.half h.other).live = true) :
    CompletesAt (.partnerHealthRecord h) h s fun x => x.bit Adr.HLT_STATUS 4 = true ∧
      x.hlt = { (s.half h).hlt with partnerAt := some (s.half h).age } ∧
      (∀ i, i < 64 → x.rd (Adr.HLT_PARTNER_RECORD i) = (s.half h.other).rd (Adr.HLT_RECORD i)) ∧
      (∀ r, r ≠ Adr.HLT_STATUS → (∀ i, i < 64 → r ≠ Adr.HLT_PARTNER_RECORD i) → x.rd r = (s.half h).rd r) := by
  refine completesAt_on rfl ?_
  simp only [live, up, link, other, Bool.and_self, if_true]
  generalize s.half h.other = p
  generalize s.half h = x
  have shown := x.each_wr_writes Adr.HLT_PARTNER_RECORD (fun i => p.rd (Adr.HLT_RECORD i)) 64
  have each := fun j (hj : j < 64) => x.each_wr_rd (f := Adr.HLT_PARTNER_RECORD) (fun i => p.rd (Adr.HLT_RECORD i))
    (fun i j h => by simp only [Adr.HLT_PARTNER_RECORD] at h; omega) hj
  generalize (x.each (List.range 64) fun y i => y.wr (Adr.HLT_PARTNER_RECORD i) (p.rd (Adr.HLT_RECORD i))) = y at shown each ⊢
  have reg : ∀ a, ({ y.putBit Adr.HLT_STATUS 4 true with hlt := { y.hlt with partnerAt := some y.age } } : Half).rd a =
      (y.putBit Adr.HLT_STATUS 4 true).rd a := fun _ => rfl
  refine ⟨?_, by rw [shown.same], fun i hi => ?_, fun r h1 h2 => ?_⟩
  · rw [Half.bit_congr (reg _)]
    exact Half.bit_putBit_self _ _ _ _ (by decide)
  · rw [reg, Half.rd_putBit_ne _ _ _ (by simp only [Adr.HLT_PARTNER_RECORD, Adr.HLT_STATUS]; omega), each i hi]
  · rw [reg, Half.rd_putBit_ne _ _ _ h1, shown.keeps r (fun ⟨i, hi, e⟩ => h2 i hi e)]

theorem wearMeasurement_shows {h : HalfId} {s : State} (live : (s.half h).live = true) (up : (s.half h).up .control = true)
    (drifts : List Int) {worn : Bool}
    (hw : worn = ((List.range 8).any fun r => decide (getAt drifts r 0 ≤ -((s.half h).get Adr.HLT_WEAR_LIMIT 0 16 : Int)))) :
    (worn = true → (s.half h).bit Adr.HLT_STATUS 2 = false →
      CompletesAt (.wearMeasurement h drifts) h s fun x => x.bit Adr.HLT_STATUS 2 = true ∧ x.bit Adr.HLT_EVENT 2 = true ∧
        x.get Adr.HLT_FAULT 0 16 = 1 ∧ SameRegs [Adr.HLT_STATUS, Adr.HLT_EVENT, Adr.HLT_FAULT] (s.half h) x) ∧
    (worn = false → CompletesAt (.wearMeasurement h drifts) h s fun x => x.regs = (s.half h).regs ∧
      x.hlt.wear = (List.range 8).map fun r => getAt drifts r 0) := by
  have worn_iff : (((List.range 8).map fun r => getAt drifts r 0).any fun d =>
      decide (d ≤ -((s.half h).get Adr.HLT_WEAR_LIMIT 0 16 : Int))) = worn := by
    rw [hw, List.any_map]
    rfl
  refine ⟨fun yes first => completesAt_on rfl ?_, fun no => completesAt_on rfl ?_⟩
  · simp only [live, up, worn_iff, yes, first, Bool.not_false, Bool.and_self, if_true]
    generalize hy : ({ s.half h with hlt := { (s.half h).hlt with wear := (List.range 8).map fun r => getAt drifts r 0 } } : Half) = y
    have reg : ∀ a, y.rd a = (s.half h).rd a := fun a => by rw [← hy]; rfl
    refine ⟨?_, ?_, Half.get_latch_cause .., fun a ha => ?_⟩
    · rw [Half.bit_latch_ne _ _ _ _ _ (by decide), Half.bit_event_ne _ _ _ (by decide)]
      exact Half.bit_putBit_self _ _ _ _ (by decide)
    · rw [Half.bit_latch_ne _ _ _ _ _ (by decide)]
      exact Half.bit_event_self _ _ _ (by decide)
    · simp only [List.mem_cons, List.not_mem_nil, or_false, not_or] at ha
      obtain ⟨h1, h2, h3⟩ := ha
      rw [Half.rd_latch_ne _ _ h3, Half.rd_event_ne _ _ h2, Half.rd_putBit_ne _ _ _ h1, reg]
  · simp only [live, up, worn_iff, no, Bool.false_and, Bool.and_self, Bool.false_eq_true, if_false, if_true]
    exact ⟨trivial, trivial⟩

/-- The hours after one more, for a junction temperature (R499, R500). -/
def Half.addHour (x : Half) (tj : Int) : Half :=
  let y := (x.count Adr.HLT_POWER_HOURS 0 32 1).wrNat Adr.HLT_EQUIV_HOURS (min 0xFFFFFFFF ((x.hlt.equiv + Config.arrhenius tj) / 1000000))
  { y with
    hlt := { y.hlt with equiv := x.hlt.equiv + Config.arrhenius tj }
    boot := { y.boot with hours := [((y.rd Adr.HLT_POWER_HOURS).toNat, x.hlt.equiv + Config.arrhenius tj)] } }

theorem Half.lifeWarn_writes (x : Half) : Writes (· ∈ [Adr.HLT_STATUS, Adr.HLT_EVENT]) x x.lifeWarn :=
  .ite (fun _ => ((Writes.refl _ x).putBit 3 true (by simp)).event 3 (by simp)) fun _ => .refl _ x

theorem Half.lifeWarn_warns {x : Half} (old : 315360 ≤ (x.rd Adr.HLT_EQUIV_HOURS).toNat) : x.lifeWarn.bit Adr.HLT_STATUS 3 = true := by
  unfold Half.lifeWarn
  split
  · rw [Half.bit_event_ne _ _ _ (by decide)]
    exact Half.bit_putBit_self _ _ _ _ (by decide)
  · next h => simpa [old] using h

theorem Half.addHour_rd (x : Half) (tj : Int) (a : Nat) : (x.addHour tj).rd a =
    ((x.count Adr.HLT_POWER_HOURS 0 32 1).wrNat Adr.HLT_EQUIV_HOURS (min 0xFFFFFFFF ((x.hlt.equiv + Config.arrhenius tj) / 1000000))).rd a :=
  rfl

theorem hoursWrite_shows {h : HalfId} {s : State} (live : (s.half h).live = true) (up : (s.half h).up .control = true) (tj : Int) :
    CompletesAt (.hoursWrite h tj) h s fun x => x.hlt.equiv = (s.half h).hlt.equiv + Config.arrhenius tj ∧
      x.get Adr.HLT_POWER_HOURS 0 32 = satAdd 32 ((s.half h).get Adr.HLT_POWER_HOURS 0 32) 1 ∧
      (x.rd Adr.HLT_EQUIV_HOURS).toNat = min 0xFFFFFFFF (((s.half h).hlt.equiv + Config.arrhenius tj) / 1000000) ∧
      x.get Adr.MSG_LIB_CHECK 0 16 = satAdd 16 ((s.half h).get Adr.MSG_LIB_CHECK 0 16) 1 ∧
      (315360000000 ≤ (s.half h).hlt.equiv → x.bit Adr.HLT_STATUS 3 = true) ∧
      SameRegs [Adr.HLT_POWER_HOURS, Adr.HLT_EQUIV_HOURS, Adr.MSG_LIB_CHECK, Adr.HLT_STATUS, Adr.HLT_EVENT] (s.half h) x := by
  have run : exec (.hoursWrite h tj) s = .next (s.on h fun x => if x.live && x.up .control then
    ((x.addHour tj).count Adr.MSG_LIB_CHECK 0 16 1).lifeWarn else x) := rfl
  refine completesAt_on run ?_
  simp only [live, up, Bool.and_self, if_true]
  generalize s.half h = x
  have warned := ((x.addHour tj).count Adr.MSG_LIB_CHECK 0 16 1).lifeWarn_writes
  have equiv : (((x.addHour tj).count Adr.MSG_LIB_CHECK 0 16 1).rd Adr.HLT_EQUIV_HOURS).toNat =
      min 0xFFFFFFFF ((x.hlt.equiv + Config.arrhenius tj) / 1000000) := by
    rw [Half.rd_count_ne _ _ _ _ (by decide), Half.addHour_rd, Half.rd_wrNat_self, BitVec.toNat_ofNat]
    exact Nat.mod_eq_of_lt (by omega)
  refine ⟨?_, ?_, ?_, ?_, fun old => Half.lifeWarn_warns ?_, fun a ha => ?_⟩
  · rw [warned.same, Half.count_hlt]
    rfl
  · rw [warned.get (by decide), Half.get_congr (Half.rd_count_ne _ _ _ _ (by decide)), Half.get_congr (x.addHour_rd tj _),
      Half.get_congr (Half.rd_wrNat_ne _ _ (by decide)), Half.count_eq, Half.get_put_self _ _ _ _ _ (by decide), satAdd_mod]
  · rw [warned.keeps _ (by decide)]
    exact equiv
  · rw [warned.get (by decide), Half.count_eq, Half.get_put_self _ _ _ _ _ (by decide), satAdd_mod, Half.get_congr (x.addHour_rd tj _),
      Half.get_congr (Half.rd_wrNat_ne _ _ (by decide)), Half.get_congr (Half.rd_count_ne _ _ _ _ (by decide))]
  · rw [equiv]
    omega
  · simp only [List.mem_cons, List.not_mem_nil, or_false, not_or] at ha
    obtain ⟨h1, h2, h3, h4, h5⟩ := ha
    rw [warned.keeps a (by simp [h4, h5]), Half.rd_count_ne _ _ _ _ h3, Half.addHour_rd, Half.rd_wrNat_ne _ _ h2, Half.rd_count_ne _ _ _ _ h1]

theorem tempWarn_shows {h : HalfId} {s : State} (live : (s.half h).live = true) (up : (s.half h).up .control = true) {on : Bool}
    (change : (s.half h).bit Adr.HLT_STATUS 0 ≠ on) :
    CompletesAt (.tempWarn h on) h s fun x => x.bit Adr.HLT_STATUS 0 = on ∧ x.bit Adr.HLT_EVENT 0 = true ∧
      (on = true → x.get Adr.HLT_FAULT 0 16 = 2) ∧
      OnlyRegs [Adr.HLT_STATUS, Adr.HLT_EVENT, Adr.HLT_FAULT] (s.half h) x := by
  have differs : ((s.half h).bit Adr.HLT_STATUS 0 != on) = true := bne_iff_ne.2 change
  refine completesAt_on rfl ?_
  simp only [live, up, differs, Bool.and_self, if_true]
  generalize s.half h = x
  have shown : Writes (· ∈ [Adr.HLT_STATUS, Adr.HLT_EVENT, Adr.HLT_FAULT]) x ((x.putBit Adr.HLT_STATUS 0 on).event Adr.HLT_EVENT 0) :=
    ((Writes.refl _ x).putBit 0 on (by simp)).event 0 (by simp)
  have status : ((x.putBit Adr.HLT_STATUS 0 on).event Adr.HLT_EVENT 0).bit Adr.HLT_STATUS 0 = on := by
    rw [Half.bit_event_ne _ _ _ (by decide)]
    exact Half.bit_putBit_self _ _ _ _ (by decide)
  have ev : ((x.putBit Adr.HLT_STATUS 0 on).event Adr.HLT_EVENT 0).bit Adr.HLT_EVENT 0 = true := Half.bit_event_self _ _ _ (by decide)
  generalize (x.putBit Adr.HLT_STATUS 0 on).event Adr.HLT_EVENT 0 = y at shown status ev ⊢
  cases on
  · exact ⟨status, ev, nofun, shown.onlyRegs⟩
  · rw [if_pos rfl, Half.bit_latch_ne _ _ _ _ _ (by decide), Half.bit_latch_ne _ _ _ _ _ (by decide)]
    exact ⟨status, ev, fun _ => Half.get_latch_cause .., (shown.latch 2 (by simp)).onlyRegs⟩

/-- A supply margin as measured (R503). -/
def Half.setMargin (x : Half) (rail m : Nat) : Half :=
  { x with hlt := { x.hlt with margins := setAt x.hlt.margins rail m, least := modAt x.hlt.least rail (min m) } }

theorem getAt_setAt {α : Type} (l : List α) {i : Nat} (v d : α) (hi : i < l.length) : getAt (setAt l i v) i d = v := by
  simp [getAt, setAt, hi]

/-- A supply warning with the margins that the half now knows. -/
def Half.judgeMargins (x : Half) (warn : Nat) : Half :=
  if x.hlt.margins.any (fun m => decide (m < warn)) && !x.bit Adr.HLT_STATUS 1 then
    ((x.putBit Adr.HLT_STATUS 1 true).event Adr.HLT_EVENT 1).latch Adr.HLT_FAULT 3
  else if x.hlt.margins.all (fun m => decide (2 * warn ≤ m)) && x.bit Adr.HLT_STATUS 1 then
    (x.putBit Adr.HLT_STATUS 1 false).event Adr.HLT_EVENT 1
  else x

theorem supplyWarn_runs {h : HalfId} {s : State} (rail : Fin 12) (margin : BitVec 8) (live : (s.half h).live = true)
    (up : (s.half h).up .control = true) :
    exec (.supplyWarn h rail margin) s =
      .next (s.on h fun x => (x.setMargin rail margin.toNat).judgeMargins (x.get Adr.HLT_MARGIN_WARN 0 8)) := by
  have body : exec (.supplyWarn h rail margin) s = .next (s.on h fun x => if x.live && x.up .control then
    (x.setMargin rail margin.toNat).judgeMargins (x.get Adr.HLT_MARGIN_WARN 0 8) else x) := rfl
  rw [body]
  exact congrArg Host.Outcome.next (State.on_congr (if_pos (by rw [live, up]; rfl)))

theorem supplyWarn_low {h : HalfId} {s : State} (live : (s.half h).live = true) (up : (s.half h).up .control = true) (rail : Fin 12)
    (margin : BitVec 8) (len : (s.half h).hlt.margins.length = 12) (low : margin.toNat < (s.half h).get Adr.HLT_MARGIN_WARN 0 8)
    (first : (s.half h).bit Adr.HLT_STATUS 1 = false) :
    CompletesAt (.supplyWarn h rail margin) h s fun x => x.bit Adr.HLT_STATUS 1 = true ∧ x.bit Adr.HLT_EVENT 1 = true ∧
      x.get Adr.HLT_FAULT 0 16 = 3 ∧ getAt x.hlt.margins rail 0 = margin.toNat ∧
      SameRegs [Adr.HLT_STATUS, Adr.HLT_EVENT, Adr.HLT_FAULT] (s.half h) x := by
  refine completesAt_on (supplyWarn_runs rail margin live up) ?_
  generalize s.half h = x at len low first ⊢
  have reg : ∀ a, (x.setMargin rail margin.toNat).rd a = x.rd a := fun _ => rfl
  have margins : (x.setMargin rail margin.toNat).hlt.margins = setAt x.hlt.margins rail margin.toNat := rfl
  have stands : getAt (setAt x.hlt.margins rail margin.toNat) rail 0 = margin.toNat :=
    getAt_setAt _ _ _ (by have := rail.isLt; omega)
  have any : (x.setMargin rail margin.toNat).hlt.margins.any (fun m => decide (m < x.get Adr.HLT_MARGIN_WARN 0 8)) = true := by
    rw [margins, List.any_eq_true]
    refine ⟨margin.toNat, ?_, decide_eq_true low⟩
    rw [setAt]
    exact List.mem_set (by have := rail.isLt; omega) _
  generalize x.setMargin rail margin.toNat = y at reg margins any ⊢
  rw [Half.judgeMargins, if_pos (by rw [any, Half.bit_congr (reg _), first]; rfl)]
  refine ⟨?_, ?_, Half.get_latch_cause .., ?_, fun a ha => ?_⟩
  · rw [Half.bit_latch_ne _ _ _ _ _ (by decide), Half.bit_event_ne _ _ _ (by decide)]
    exact Half.bit_putBit_self _ _ _ _ (by decide)
  · rw [Half.bit_latch_ne _ _ _ _ _ (by decide)]
    exact Half.bit_event_self _ _ _ (by decide)
  · rw [Half.latch_hlt, Half.event_hlt, Half.putBit_hlt, margins, stands]
  · simp only [List.mem_cons, List.not_mem_nil, or_false, not_or] at ha
    obtain ⟨h1, h2, h3⟩ := ha
    rw [Half.rd_latch_ne _ _ h3, Half.rd_event_ne _ _ h2, Half.rd_putBit_ne _ _ _ h1, reg]

theorem supplyWarn_clears {h : HalfId} {s : State} (live : (s.half h).live = true) (up : (s.half h).up .control = true) (rail : Fin 12)
    (margin : BitVec 8) (high : ∀ m ∈ (s.half h).hlt.margins, 2 * (s.half h).get Adr.HLT_MARGIN_WARN 0 8 ≤ m)
    (new : 2 * (s.half h).get Adr.HLT_MARGIN_WARN 0 8 ≤ margin.toNat) (on : (s.half h).bit Adr.HLT_STATUS 1 = true) :
    CompletesAt (.supplyWarn h rail margin) h s fun x => x.bit Adr.HLT_STATUS 1 = false ∧ x.bit Adr.HLT_EVENT 1 = true ∧
      SameRegs [Adr.HLT_STATUS, Adr.HLT_EVENT] (s.half h) x := by
  refine completesAt_on (supplyWarn_runs rail margin live up) ?_
  generalize s.half h = x at high new on ⊢
  have reg : ∀ a, (x.setMargin rail margin.toNat).rd a = x.rd a := fun _ => rfl
  have all : (x.setMargin rail margin.toNat).hlt.margins.all (fun m => decide (2 * x.get Adr.HLT_MARGIN_WARN 0 8 ≤ m)) = true := by
    rw [List.all_eq_true]
    intro m hm
    obtain old | rfl := List.mem_or_eq_of_mem_set hm
    · exact decide_eq_true (high m old)
    · exact decide_eq_true new
  generalize x.setMargin rail margin.toNat = y at reg all ⊢
  have still : y.bit Adr.HLT_STATUS 1 = true := (Half.bit_congr (reg _) 1).trans on
  rw [Half.judgeMargins, if_neg (by simp [still]), if_pos (by rw [all, still]; rfl)]
  refine ⟨?_, Half.bit_event_self _ _ _ (by decide), fun a ha => ?_⟩
  · rw [Half.bit_event_ne _ _ _ (by decide)]
    exact Half.bit_putBit_self _ _ _ _ (by decide)
  · simp only [List.mem_cons, List.not_mem_nil, or_false, not_or] at ha
    rw [Half.rd_event_ne _ _ ha.2, Half.rd_putBit_ne _ _ _ ha.1, reg]

/-- Settles O45: a record is words written in turn, the warnings follow their measures. -/
theorem healthRecordsAndWarnings : Obligations.HealthRecordsAndWarnings := fun _ _ live up =>
  ⟨fun ecc rep _ hy => healthRecord_shows live up ecc rep hy, fun link other => partnerHealthRecord_shows live up link other,
    fun drifts _ hw => wearMeasurement_shows live up drifts hw, fun tj => hoursWrite_shows live up tj,
    fun _ change => tempWarn_shows live up change,
    fun rail margin len => ⟨fun low first => supplyWarn_low live up rail margin len low first,
      fun high new on _ => supplyWarn_clears live up rail margin high new on⟩⟩

end Sys2Proof.Machine
end

section
/-! O33: host alarm commands (R216, R262, R263, R278, R281). -/

namespace Sys2Proof.Machine

open Sys2Proof

/-! The valid zones of the plan in force (R215, R261). -/

theorem Half.recordsAt_wr (x : Half) {a : Nat} (v : Word) {base size : Nat} (n : Nat) (ha : a < base ∨ base + size ≤ a) :
    (x.wr a v).recordsAt base size n = x.recordsAt base size n := by
  unfold Half.recordsAt Half.wr
  dsimp only
  rw [filter_storeAt]
  intro w
  simp only [decide_eq_false_iff_not]
  omega

theorem Half.zones_wr (x : Half) {a : Nat} (v : Word) (ha : a < 0x1000000) : (x.wr a v).zones = x.zones := by
  have word : ∀ z, (x.wr a v).bankWord false (Adr.ZONE_STG (4 * z)) 0x1000 = x.bankWord false (Adr.ZONE_STG (4 * z)) 0x1000 := fun z =>
    Half.rd_wr_ne _ _ (by simp only [Adr.ZONE_STG, Bool.false_eq_true, if_false]; omega)
  unfold Half.zones Half.plan
  simp only [word]
  rw [Half.recordsAt_wr x v 16 (by simp only [Bool.false_eq_true, if_false]; omega)]

theorem Half.validOf_wr (x : Half) {a : Nat} (v : Word) (ha : a < 0x1000000) (zs : List Nat) : (x.wr a v).validOf zs = x.validOf zs := by
  rw [Half.validOf, x.zones_wr v ha, ← Half.validOf]

theorem Half.zones_nodup (x : Half) : (x.zones.map fun z => z.1).Nodup := by
  have each : ∀ {l : List Nat}, l.Nodup → ∀ g : Nat → Nat, ∀ p : Nat → Bool,
      ((l.filterMap fun z => if p z = true then some (z, g z) else none).map fun z => z.1).Nodup := fun {l} hl g p => by
    have filtered : (l.filterMap fun z => if p z = true then some (z, g z) else none).map (fun z => z.1) = l.filter p := by
      rw [List.map_filterMap, ← List.filterMap_eq_filter]
      refine congrArg (List.filterMap · l) (funext fun z => ?_)
      by_cases hz : p z = true <;> simp [hz, Option.guard]
    rw [filtered]
    exact hl.filter p
  exact each (List.nodup_dedup _) (fun z => getBits (x.bankWord false (Adr.ZONE_STG (4 * z)) 0x1000) 0 12)
    fun z => bitAt (x.bankWord false (Adr.ZONE_STG (4 * z)) 0x1000) 31

theorem Half.validOf_nodup (x : Half) (zs : List Nat) : (x.validOf zs).Nodup := x.zones_nodup.filter _

/-- An effect on each of some zones. -/
theorem Half.zone_each (f : ZoneSt → ZoneSt) {zs : List Nat} (nd : zs.Nodup) (x : Half) (z : Nat) :
    (x.each zs fun y z => y.onZone z f).zone z = if z ∈ zs then f (x.zone z) else x.zone z := by
  induction zs generalizing x with
  | nil => rfl
  | cons k zs ih =>
    obtain ⟨new, nd'⟩ := List.nodup_cons.1 nd
    have step : (x.each (k :: zs) fun y z => y.onZone z f) = (x.onZone k f).each zs fun y z => y.onZone z f := rfl
    rw [step, ih nd', Half.zone_onZone]
    by_cases hz : z = k
    · subst hz; simp [new]
    · simp [hz]

/-- y is x with the zones changed. -/
structure ZonesOnly (x y : Half) : Prop where
  same : ∃ zs, y = x.onGraph fun g => { g with zones := zs }

theorem ZonesOnly.rd {x y : Half} (h : ZonesOnly x y) (a : Nat) : y.rd a = x.rd a := by
  obtain ⟨zs, rfl⟩ := h.same
  rfl

theorem Half.each_onZone_only (f : ZoneSt → ZoneSt) (zs : List Nat) (x : Half) : ZonesOnly x (x.each zs fun y z => y.onZone z f) := by
  induction zs generalizing x with
  | nil => exact ⟨x.graph.zones, rfl⟩
  | cons k zs ih =>
    obtain ⟨zs', h⟩ := (ih (x.onZone k f)).same
    exact ⟨zs', h⟩

/-! What shows a command at its end (R278, R281). -/

/-- y is x after a command was logged: the queue of the log, its events, and the result of a host command. -/
structure Logged (p : Nat → Prop) (x y : Half) : Prop where
  same : y = { x with regs := y.regs, queues := y.queues, acc := y.acc }
  keeps : ∀ a, ¬ p a → y.rd a = x.rd a

namespace Logged
variable {p q : Nat → Prop} {x y z : Half}

theorem trans (h : Logged p x y) (k : Logged p y z) : Logged p x z := by
  obtain ⟨hy, hxy⟩ := h
  obtain ⟨hz, hyz⟩ := k
  exact ⟨by rw [hz, hy], fun a ha => (hyz a ha).trans (hxy a ha)⟩

theorem of_writes (h : Writes p x y) : Logged p x y := by
  obtain ⟨hy, hxy⟩ := h
  exact ⟨by rw [hy], hxy⟩

theorem of_pushed {q : Nat} (h : Pushed q x y) (hp : p (Adr.QM_DROP_CNT q)) : Logged p x y :=
  ⟨h.same, fun a ha => h.regs a fun e => ha (e ▸ hp)⟩

theorem mono (h : Logged p x y) (hq : ∀ a, p a → q a) : Logged q x y := ⟨h.same, fun a ha => h.keeps a fun hp => ha (hq a hp)⟩

theorem graph (h : Logged p x y) : y.graph = x.graph := by rw [h.same]
theorem alarm (h : Logged p x y) : y.alarm = x.alarm := by rw [h.same]
theorem get (h : Logged p x y) {a : Nat} (ha : ¬ p a) (lo n : Nat) : y.get a lo n = x.get a lo n := Half.get_congr (h.keeps a ha) lo n
theorem bit (h : Logged p x y) {a : Nat} (ha : ¬ p a) (b : Nat) : y.bit a b = x.bit a b := Half.bit_congr (h.keeps a ha) b

end Logged

theorem Half.logCmd_logged (x : Half) (c : AlarmCmd) (result : Nat) :
    Logged (· ∈ [Adr.ALM_EVENT, Adr.QM_DROP_CNT 9]) x (x.logCmd c result) := by
  unfold Half.logCmd
  simp only
  have pushed : Logged (· ∈ [Adr.ALM_EVENT, Adr.QM_DROP_CNT 9]) x (if c.logged = true then x else x.hwPush 9 6 (c.record result)) := by
    split
    · exact .of_writes (.refl _ x)
    · exact .of_pushed (x.hwPush_pushed 9 6 _) (by simp)
  split
  · exact pushed.trans (.of_writes ((Writes.refl _ _).event 0 (by simp)))
  · split
    · exact pushed.trans (.of_writes ((Writes.refl _ _).event 1 (by simp)))
    · exact pushed

/-- An execution and a refusal set their event. -/
theorem Half.logCmd_event (x : Half) (c : AlarmCmd) (result : Nat) :
    ((result = 0 ∨ result = 2) → (x.logCmd c result).bit Adr.ALM_EVENT 0 = true) ∧
      (0x10 ≤ result → (x.logCmd c result).bit Adr.ALM_EVENT 1 = true) := by
  unfold Half.logCmd
  simp only
  refine ⟨fun h => ?_, fun h => ?_⟩
  · rw [if_pos h]
    exact Half.bit_event_self _ _ _ (by decide)
  · rw [if_neg (by omega), if_pos h]
    exact Half.bit_event_self _ _ _ (by decide)

/-- Events and log leave the other events. -/
theorem Half.logCmd_keepsEvent (x : Half) (c : AlarmCmd) (result : Nat) {b : Nat} (h0 : b ≠ 0) (h1 : b ≠ 1) :
    (x.logCmd c result).bit Adr.ALM_EVENT b = x.bit Adr.ALM_EVENT b := by
  have pushed : (if c.logged = true then x else x.hwPush 9 6 (c.record result)).bit Adr.ALM_EVENT b = x.bit Adr.ALM_EVENT b := by
    split
    · rfl
    · exact Half.bit_congr (x.hwPush_rd 9 6 _ (by decide)) b
  unfold Half.logCmd
  simp only
  split
  · rw [Half.bit_event_bit _ _ _ _ (by decide) h0, pushed]
  · split
    · rw [Half.bit_event_bit _ _ _ _ (by decide) h1, pushed]
    · exact pushed

/-- The registers of a host command's end. -/
def hostRegs : List Nat := [Adr.ALM_CMD_STATUS, Adr.ALM_EVENT, Adr.QM_DROP_CNT 9]

/-- A host command logged and shown with its result. -/
def Half.endHost (x : Half) (c : AlarmCmd) (result : Nat) : Half := (x.logCmd c result).put Adr.ALM_CMD_STATUS 24 8 result

theorem Half.endHost_logged (x : Half) (c : AlarmCmd) (result : Nat) : Logged (· ∈ hostRegs) x (x.endHost c result) :=
  ((x.logCmd_logged c result).mono fun a ha => by simp [hostRegs] at ha ⊢; tauto).trans
    (.of_writes ((Writes.refl _ _).put 24 8 result (by simp [hostRegs])))

theorem Half.endHost_shows (x : Half) (c : AlarmCmd) {result : Nat} (hr : result < 256) :
    (x.endHost c result).get Adr.ALM_CMD_STATUS 24 8 = result ∧
      (x.endHost c result).get Adr.ALM_CMD_STATUS 0 16 = x.get Adr.ALM_CMD_STATUS 0 16 ∧
      ((result = 0 ∨ result = 2) → (x.endHost c result).bit Adr.ALM_EVENT 0 = true) ∧
      (0x10 ≤ result → (x.endHost c result).bit Adr.ALM_EVENT 1 = true) := by
  obtain ⟨done, refused⟩ := x.logCmd_event c result
  unfold Half.endHost
  rw [Half.get_put_self _ _ _ _ _ (by decide), show result % 2 ^ 8 = result from Nat.mod_eq_of_lt hr, Half.get_put_field _ _ _ _ _ _ _ (by decide) (by decide),
    Half.bit_put_ne _ _ _ _ _ (by decide), Half.bit_put_ne _ _ _ _ _ (by decide)]
  exact ⟨rfl, (x.logCmd_logged c result).get (by decide) 0 16, done, refused⟩

/-! Host commands (R262, R263, R278). -/

theorem Writes.graph {p : Nat → Prop} {x y : Half} (h : Writes p x y) : y.graph = x.graph := by rw [h.same]

theorem Half.zone_congr {x y : Half} (h : y.graph = x.graph) (z : Nat) : y.zone z = x.zone z := by rw [Half.zone, h, ← Half.zone]

/-- A host command as a half that takes it counts it. -/
def Half.countHost (x : Half) : Half := x.wrap Adr.ALM_CMD_STATUS 0 16 1

theorem Half.countHost_writes (x : Half) : Writes (· ∈ hostRegs) x x.countHost := (Writes.refl _ x).wrap 0 16 1 (by simp [hostRegs])

theorem Half.countHost_count (x : Half) :
    x.countHost.get Adr.ALM_CMD_STATUS 0 16 = (x.get Adr.ALM_CMD_STATUS 0 16 + 1) % 2 ^ 16 := by
  rw [Half.countHost, Half.wrap_eq, Half.get_put_self _ _ _ _ _ (by decide)]

theorem Half.countHost_validOf (x : Half) (zs : List Nat) : x.countHost.validOf zs = x.validOf zs := x.validOf_wr _ (by decide) zs

section hostCommands
variable {h : HalfId} {s : State} {prio : Fin 16} {zones : BitVec 256}

/-- A host command runs at a half that is live, has both regions and executes commands of its own. -/
theorem Half.takeHost_of {x : Half} (live : x.live = true) (up : x.up .control = true) (up' : x.up .processing = true)
    (own : x.holds = false) (code p : Nat) (zs : BitVec 256) (source flags : Nat) :
    x.takeHost code p zs source flags =
      x.issueHost (x.hostCmd code p (zonesOf zs.toNat) source flags (x.now 0)) fun y =>
        y.execCmd (x.hostCmd code p (zonesOf zs.toNat) source flags (x.now 0)) 0 :=
  if_neg (by simp [live, up, up', own])

theorem Half.issueHost_refused {x : Half} {c : AlarmCmd} {r : Nat} (f : Half → Half) (route : c.route = 3)
    (hr : x.hostRefusal c = some r) : x.issueHost c f = x.countHost.endHost c r := by
  unfold Half.issueHost
  simp only [hr]
  rw [Half.refuseCmd, if_neg (by rw [route]; omega), Half.showHost, if_pos route]
  rfl

theorem Half.issueHost_taken {x : Half} {c : AlarmCmd} (f : Half → Half) (hr : x.hostRefusal c = none) :
    x.issueHost c f = f x.countHost := by
  unfold Half.issueHost
  simp only [hr]
  rfl

theorem Half.hostRefusal_denied {x : Half} {c : AlarmCmd} (low : 1 ≤ c.code) (high : c.code ≤ 6) (live : badLive c.code c.prio c.flags = false)
    (above : x.get Adr.ALM_HOST_MAX_PRI 0 4 < c.prio) : x.hostRefusal c = some 0x16 := by
  rw [Half.hostRefusal, if_neg (by simp [live]; omega), if_pos above]

theorem Half.hostRefusal_none {x : Half} {c : AlarmCmd} (low : 1 ≤ c.code) (high : c.code ≤ 6) (live : badLive c.code c.prio c.flags = false)
    (within : c.prio ≤ x.get Adr.ALM_HOST_MAX_PRI 0 4) : x.hostRefusal c = none := by
  rw [Half.hostRefusal, if_neg (by simp [live]; omega), if_neg (by omega)]

/-- The arbiter takes a host command: its effect, then its end. -/
theorem Half.execCmd_host (x : Half) {c : AlarmCmd} (route : c.route = 3) (code : c.code ≠ 0x80) :
    x.execCmd c 0 = (x.applyCmd c).1.endHost c (x.applyCmd c).2 := by
  unfold Half.execCmd
  simp only
  rw [if_neg code, if_neg (by omega), Half.showHost, if_pos route]
  rfl

/-- A command without a source acts on each valid zone that it names. -/
theorem Half.applyCmd_zones (x : Half) {c : AlarmCmd} (code : c.code = 2 ∨ c.code = 3 ∨ c.code = 5) :
    x.applyCmd c = (x.each (x.validOf c.zones) fun y z => y.onZone z fun s => s.apply c.code c.prio, 0) := by
  unfold Half.applyCmd
  simp only
  rw [if_neg (by omega), if_neg (by omega)]
  split
  · next empty => rw [List.isEmpty_iff.1 empty]; rfl
  · rw [if_neg (by omega), if_neg (by omega)]

theorem Half.applyCmd_live (x : Half) {c : AlarmCmd} (code : c.code = 1) (live : c.flags.testBit 1 = true) :
    x.applyCmd c = (x.each (x.validOf c.zones) fun y z => y.onZone z fun s => s.setCtl c.prio true c.mark, 0) := by
  unfold Half.applyCmd
  simp only
  rw [if_neg (by omega), if_neg (by omega)]
  split
  · next empty => rw [List.isEmpty_iff.1 empty]; rfl
  · rw [if_pos ⟨code, live⟩]

/-- A host command above the limit: shown, counted, without effect. -/
theorem hostCommand_denied {c : Instr} {code source flags : Nat} (live : (s.half h).live = true) (up : (s.half h).up .control = true)
    (up' : (s.half h).up .processing = true) (own : (s.half h).holds = false)
    (run : exec c s = .next (s.on h fun x => x.takeHost code prio zones source flags)) (low : 1 ≤ code) (high : code ≤ 6)
    (bad : badLive code prio flags = false) (above : (s.half h).get Adr.ALM_HOST_MAX_PRI 0 4 < prio) :
    CompletesAt c h s fun x => x.get Adr.ALM_CMD_STATUS 24 8 = 0x16 ∧ x.bit Adr.ALM_EVENT 1 = true ∧
      x.graph = (s.half h).graph ∧ SameRegs [Adr.ALM_CMD_STATUS, Adr.ALM_EVENT, Adr.QM_DROP_CNT 9] (s.half h) x := by
  refine completesAt_on run ?_
  rw [Half.takeHost_of live up up' own, Half.issueHost_refused (r := 0x16) _ rfl (Half.hostRefusal_denied low high bad above)]
  generalize (s.half h).hostCmd code prio (zonesOf zones.toNat) source flags ((s.half h).now 0) = cmd
  obtain ⟨res, -, -, ev⟩ := (s.half h).countHost.endHost_shows cmd (result := 0x16) (by decide)
  have ended := (s.half h).countHost.endHost_logged cmd 0x16
  refine ⟨res, ev (by decide), ?_, fun a ha => (ended.keeps a ha).trans ((s.half h).countHost_writes.keeps a ha)⟩
  rw [ended.graph, (s.half h).countHost_writes.same]

/-- A host command within the limit that acts on zones alone. -/
theorem hostCommand_zones {c : Instr} {code source flags : Nat} {f : ZoneSt → ZoneSt} (live : (s.half h).live = true)
    (up : (s.half h).up .control = true) (up' : (s.half h).up .processing = true) (own : (s.half h).holds = false)
    (run : exec c s = .next (s.on h fun x => x.takeHost code prio zones source flags)) (low : 1 ≤ code) (high : code ≤ 6)
    (bad : badLive code prio flags = false) (within : prio ≤ (s.half h).get Adr.ALM_HOST_MAX_PRI 0 4)
    (effect : ∀ y : Half, ∀ cmd : AlarmCmd, cmd.code = code → cmd.prio = prio → cmd.flags = flags → cmd.mark = none →
      y.applyCmd cmd = (y.each (y.validOf cmd.zones) fun y z => y.onZone z f, 0)) :
    CompletesAt c h s fun x =>
      (∀ z, x.zone z = if z ∈ (s.half h).validOf (zonesOf zones.toNat) then f ((s.half h).zone z) else (s.half h).zone z) ∧
      x.get Adr.ALM_CMD_STATUS 24 8 = 0 ∧
      x.get Adr.ALM_CMD_STATUS 0 16 = ((s.half h).get Adr.ALM_CMD_STATUS 0 16 + 1) % 2 ^ 16 ∧ x.bit Adr.ALM_EVENT 0 = true ∧
      SameRegs [Adr.ALM_CMD_STATUS, Adr.ALM_EVENT, Adr.QM_DROP_CNT 9] (s.half h) x := by
  refine completesAt_on run ?_
  rw [Half.takeHost_of live up up' own, Half.issueHost_taken _ (Half.hostRefusal_none low high bad within),
    Half.execCmd_host _ rfl (by show code ≠ 0x80; omega), effect _ _ rfl rfl rfl rfl]
  have zs : (s.half h).countHost.validOf ((s.half h).hostCmd code prio (zonesOf zones.toNat) source flags ((s.half h).now 0)).zones =
      (s.half h).validOf (zonesOf zones.toNat) := (s.half h).countHost_validOf _
  generalize (s.half h).hostCmd code prio (zonesOf zones.toNat) source flags ((s.half h).now 0) = cmd at zs ⊢
  rw [zs]
  generalize s.half h = x
  have counted := x.countHost_writes
  have nd := x.validOf_nodup (zonesOf zones.toNat)
  generalize x.validOf (zonesOf zones.toNat) = valid at nd
  have zoned := x.countHost.each_onZone_only f valid
  have zone := Half.zone_each f nd x.countHost
  generalize (x.countHost.each valid fun y z => y.onZone z f) = y at zoned zone ⊢
  obtain ⟨res, cnt, ev, -⟩ := y.endHost_shows cmd (result := 0) (by decide)
  have ended := y.endHost_logged cmd 0
  have old : ∀ z, x.countHost.zone z = x.zone z := Half.zone_congr counted.graph
  refine ⟨fun z => ?_, res, ?_, ev (.inl rfl), fun a ha => ?_⟩
  · rw [Half.zone_congr ended.graph, zone, old]
  · rw [cnt, Half.get_congr (zoned.rd _), x.countHost_count]
  · rw [ended.keeps a ha, zoned.rd, counted.keeps a ha]

theorem test_logs (live : (s.half h).live = true) (up : (s.half h).up .control = true) (up' : (s.half h).up .processing = true)
    (own : (s.half h).holds = false) (within : prio ≤ (s.half h).get Adr.ALM_HOST_MAX_PRI 0 4) :
    CompletesAt (.test h prio zones) h s fun x => x.graph = (s.half h).graph ∧ x.get Adr.ALM_CMD_STATUS 24 8 = 2 ∧
      x.bit Adr.ALM_EVENT 0 = true ∧ SameRegs [Adr.ALM_CMD_STATUS, Adr.ALM_EVENT, Adr.QM_DROP_CNT 9] (s.half h) x := by
  have run : exec (.test h prio zones) s = .next (s.on h fun x => x.takeHost 6 prio zones 0 0) := rfl
  refine completesAt_on run ?_
  have bad : badLive 6 prio 0 = false := by simp [badLive]
  have effect : ∀ (y : Half) (cmd : AlarmCmd), cmd.code = 6 → y.applyCmd cmd = (y, 2) := fun y cmd hc => by
    unfold Half.applyCmd
    simp only
    rw [if_neg (by omega), if_pos hc]
  rw [Half.takeHost_of live up up' own, Half.issueHost_taken _ (Half.hostRefusal_none (show 1 ≤ 6 by decide) (show 6 ≤ 6 by decide) bad within),
    Half.execCmd_host _ rfl (show 6 ≠ 0x80 by decide), effect _ _ rfl]
  generalize (s.half h).hostCmd 6 prio (zonesOf zones.toNat) 0 0 ((s.half h).now 0) = cmd
  obtain ⟨res, -, ev, -⟩ := (s.half h).countHost.endHost_shows cmd (result := 2) (by decide)
  have ended := (s.half h).countHost.endHost_logged cmd 2
  exact ⟨ended.graph.trans (s.half h).countHost_writes.graph, res, ev (.inr rfl), fun a ha =>
    (ended.keeps a ha).trans ((s.half h).countHost_writes.keeps a ha)⟩

end hostCommands

/-! Players and generators (R263, R301, R307, R308). -/

theorem msgPlayer_ne {p : Nat} : Adr.MSG_PLAYER p ≠ Adr.MSG_STATUS ∧ Adr.MSG_PLAYER p ≠ Adr.MSG_EVENT := by
  simp only [Adr.MSG_PLAYER, Adr.MSG_STATUS, Adr.MSG_EVENT]
  omega

theorem Half.showBankBusy_writes (x : Half) : Writes (· ∈ [Adr.MSG_STATUS]) x x.showBankBusy := (Writes.refl _ x).putBit 2 _ (by simp)

theorem Half.playerFault_writes (x : Half) (p cause : Nat) :
    Writes (· ∈ [Adr.MSG_PLAYER p, Adr.MSG_EVENT, Adr.MSG_STATUS]) x (x.playerFault p cause) := by
  unfold Half.playerFault
  refine Writes.trans ?_ ((Half.showBankBusy_writes _).mono fun a ha => by simp at ha ⊢; tauto)
  exact ((((Writes.refl _ x).putBit 31 false (by simp)).putBit 30 true (by simp)).put 8 4 cause (by simp)).event 2 (by simp)

theorem Half.playerFault_msg (x : Half) (p cause : Nat) : (x.playerFault p cause).playerMsg p = x.playerMsg p := by
  unfold Half.playerFault Half.playerMsg
  simp only
  rw [(Half.showBankBusy_writes _).get (by simp [msgPlayer_ne.1]), Half.get_congr (Half.rd_event_ne _ _ msgPlayer_ne.2),
    Half.get_put_field _ _ _ _ _ _ _ (by decide) (by decide), Half.putBit_eq, Half.get_put_field _ _ _ _ _ _ _ (by decide) (by decide),
    Half.putBit_eq, Half.get_put_field _ _ _ _ _ _ _ (by decide) (by decide)]

/-- Player p set to the start of message m. -/
def Half.playerSet (x : Half) (p m : Nat) (repeats : Bool) : Half :=
  (x.wrNat (Adr.MSG_PLAYER p) (0x80000000 + 2 ^ 29 * x.bankIn + 2 ^ 28 * ofBool (x.entry x.bankIn m).stereo + 2 ^ 12 * (m % 4096))).setPlayer
    p ⟨0, false, repeats⟩

/-- The outcomes of the start of a pass. -/
theorem Half.playerPass_cases (x : Half) (p m : Nat) (repeats : Bool) :
    x.playerPass p m repeats = (x.playerSet p m repeats).playerFault p 1 ∨
      x.playerPass p m repeats = (x.playerSet p m repeats).playerFault p 2 ∨
      x.playerPass p m repeats = (x.playerSet p m repeats).showBankBusy := by
  unfold Half.playerPass
  simp only
  rw [← Half.playerSet]
  split
  · exact .inl rfl
  · split
    · exact .inr (.inl rfl)
    · exact .inr (.inr rfl)

theorem Half.playerSet_msg (x : Half) (p m : Nat) (repeats : Bool) : (x.playerSet p m repeats).playerMsg p = m % 4096 := by
  have bank : x.bankIn < 2 := x.get_lt _ 1 1
  have stereo := ofBool_lt (x.entry x.bankIn m).stereo
  unfold Half.playerSet Half.playerMsg Half.setPlayer
  rw [Half.onGraph_get, Half.get_wrNat, if_pos rfl, getBits_ofNat]
  omega

theorem Half.playerPass_starts (x : Half) (p m : Nat) (repeats : Bool) :
    (x.playerPass p m repeats).graph = { x.graph with players := insertAt p ⟨0, false, repeats⟩ x.graph.players } ∧
      (x.playerPass p m repeats).playerMsg p = m % 4096 ∧
      SameRegs [Adr.MSG_PLAYER p, Adr.MSG_EVENT, Adr.MSG_STATUS] x (x.playerPass p m repeats) := by
  have set : SameRegs [Adr.MSG_PLAYER p, Adr.MSG_EVENT, Adr.MSG_STATUS] x (x.playerSet p m repeats) := fun a ha => by
    simp only [List.mem_cons, List.not_mem_nil, or_false, not_or] at ha
    rw [Half.playerSet, Half.setPlayer, Half.onGraph_rd, Half.rd_wrNat_ne _ _ ha.1]
  have msg := x.playerSet_msg p m repeats
  have graph : (x.playerSet p m repeats).graph = { x.graph with players := insertAt p ⟨0, false, repeats⟩ x.graph.players } := by
    rw [Half.playerSet, Half.setPlayer, Half.onGraph_graph, Half.wrNat_graph]
  have faulted : ∀ cause, ((x.playerSet p m repeats).playerFault p cause).graph =
      { x.graph with players := insertAt p ⟨0, false, repeats⟩ x.graph.players } ∧
      ((x.playerSet p m repeats).playerFault p cause).playerMsg p = m % 4096 ∧
      SameRegs [Adr.MSG_PLAYER p, Adr.MSG_EVENT, Adr.MSG_STATUS] x ((x.playerSet p m repeats).playerFault p cause) := fun cause =>
    ⟨((Half.playerFault_writes _ p cause).graph).trans graph, (Half.playerFault_msg _ p cause).trans msg,
      set.trans (Half.playerFault_writes _ p cause).sameRegs⟩
  obtain e | e | e := x.playerPass_cases p m repeats <;> rw [e]
  · exact faulted 1
  · exact faulted 2
  · refine ⟨(Half.showBankBusy_writes _).graph.trans graph, ?_, set.trans ((Half.showBankBusy_writes _).sameRegs.mono (by simp))⟩
    exact ((Half.showBankBusy_writes _).get (by simp [msgPlayer_ne.1]) 12 12).trans msg

/-! Commands that assign a source (R262, R263). -/

theorem Half.inUse_congr {x y : Half} (h : y.graph = x.graph) (src : Source) : y.inUse src = x.inUse src := by
  cases src with
  | player p => rw [Half.inUse, Half.inUse, Half.player, Half.player, h]
  | tone g => rw [Half.inUse, Half.inUse, h]

theorem Half.pickSource_free {x : Half} {tone : Bool} {src : Source} (p : Nat)
    (free : ((sourcesOf tone).find? fun y => !x.inUse y) = some src) : x.pickSource tone p = some (src, x) := by
  unfold Half.pickSource
  simp only [free]

theorem Half.applyCmd_source {x : Half} {c : AlarmCmd} {src : Source} (code : c.code = 1 ∧ c.flags.testBit 1 = false ∨ c.code = 4)
    (some_ : x.validOf c.zones ≠ []) (free : ((sourcesOf (c.code == 4)).find? fun y => !x.inUse y) = some src) :
    x.applyCmd c = ((x.startSource src c.source (c.flags.testBit 0)).assign src c.prio c.mark (x.validOf c.zones), 0) := by
  have stored : ¬(c.code = 1 ∧ c.flags.testBit 1 = true) := by
    rintro ⟨one, live⟩
    obtain ⟨-, dead⟩ | four := code
    · rw [dead] at live; exact Bool.false_ne_true live
    · omega
  unfold Half.applyCmd
  simp only
  rw [if_neg (by omega), if_neg (by omega), if_neg (by simpa using some_), if_neg stored, if_pos (by omega), Half.pickSource_free _ free]

/-- A host command within the limit that assigns a free source. -/
theorem Half.takeHost_source {x : Half} {code prio flags source : Nat} {zones : BitVec 256} {src : Source} (live : x.live = true)
    (up : x.up .control = true) (up' : x.up .processing = true) (own : x.holds = false)
    (codes : code = 1 ∧ flags = 0 ∨ code = 4 ∧ flags = 0) (within : prio ≤ x.get Adr.ALM_HOST_MAX_PRI 0 4)
    (some_ : x.validOf (zonesOf zones.toNat) ≠ []) (free : ((sourcesOf (code == 4)).find? fun y => !x.inUse y) = some src) :
    ∃ cmd, x.takeHost code prio zones source flags =
      ((x.countHost.startSource src source false).assign src prio none (x.validOf (zonesOf zones.toNat))).endHost cmd 0 := by
  obtain ⟨low, high, noFlags⟩ : 1 ≤ code ∧ code ≤ 6 ∧ flags = 0 := by omega
  subst noFlags
  have bad : badLive code prio 0 = false := by simp [badLive]
  have free' : ((sourcesOf (code == 4)).find? fun y => !x.countHost.inUse y) = some src := by
    rw [← free]
    exact congrArg (List.find? · _) (funext fun y => by rw [Half.inUse_congr x.countHost_writes.graph])
  have effect : ∀ cmd : AlarmCmd, cmd.code = code → cmd.prio = prio → cmd.flags = 0 → cmd.mark = none → cmd.source = source →
      cmd.zones = zonesOf zones.toNat →
      x.countHost.applyCmd cmd = ((x.countHost.startSource src source false).assign src prio none (x.validOf (zonesOf zones.toNat)), 0) := by
    intro cmd h1 h2 h3 h4 h5 h6
    rw [Half.applyCmd_source (src := src) (by rw [h1, h3]; simp; omega) (by rw [h6, x.countHost_validOf]; exact some_)
      (by rw [h1]; exact free'), h2, h3, h4, h5, h6, x.countHost_validOf, Nat.zero_testBit]
  refine ⟨x.hostCmd code prio (zonesOf zones.toNat) source 0 (x.now 0), ?_⟩
  rw [Half.takeHost_of live up up' own, Half.issueHost_taken _ (Half.hostRefusal_none low high bad within),
    Half.execCmd_host _ rfl (by show code ≠ 0x80; omega), effect _ rfl rfl rfl rfl rfl rfl]

/-- A source assigned in zones, and the command's end. -/
theorem Half.assign_ends (x : Half) (src : Source) (prio : Nat) {valid : List Nat} (nd : valid.Nodup) (cmd : AlarmCmd) :
    (∀ z, (((x.assign src prio none valid).endHost cmd 0).zone z).feeds =
      if z ∈ valid then (x.zone z).feeds ++ [⟨prio, src, none, false⟩] else (x.zone z).feeds) ∧
    ((x.assign src prio none valid).endHost cmd 0).graph.players = x.graph.players ∧
    ((x.assign src prio none valid).endHost cmd 0).graph.tones = x.graph.tones ∧
    ((x.assign src prio none valid).endHost cmd 0).get Adr.ALM_CMD_STATUS 24 8 = 0 ∧
    SameRegs hostRegs x ((x.assign src prio none valid).endHost cmd 0) := by
  have zone := Half.zone_each (fun s => { s with feeds := s.feeds ++ [⟨prio, src, none, false⟩] }) nd x
  obtain ⟨zs, only⟩ := (x.each_onZone_only (fun s => { s with feeds := s.feeds ++ [⟨prio, src, none, false⟩] }) valid).same
  rw [← Half.assign] at zone only
  generalize x.assign src prio none valid = y at zone only ⊢
  obtain ⟨res, -, -, -⟩ := y.endHost_shows cmd (result := 0) (by decide)
  have ended := y.endHost_logged cmd 0
  refine ⟨fun z => ?_, by rw [ended.graph, only]; rfl, by rw [ended.graph, only]; rfl, res, fun a ha => ?_⟩
  · rw [Half.zone_congr ended.graph, zone]
    split <;> rfl
  · rw [ended.keeps a ha, only]
    rfl

section sourceCommands
variable {h : HalfId} {s : State} {prio : Fin 16} {zones : BitVec 256}

theorem find_insertAt {α : Type} (k : Nat) (v : α) (m : List (Nat × α)) : ((insertAt k v m).find? fun x => x.1 == k) = some (k, v) := by
  induction m with
  | nil => simp [insertAt]
  | cons p m ih =>
    obtain ⟨j, w⟩ := p
    by_cases h1 : k < j
    · simp [insertAt, h1]
    · by_cases h2 : k = j
      · simp [insertAt, h2]
      · simp [insertAt, h1, h2, ih, Ne.symm h2]

theorem activate_assigns (live : (s.half h).live = true) (up : (s.half h).up .control = true) (up' : (s.half h).up .processing = true)
    (own : (s.half h).holds = false) (within : prio ≤ (s.half h).get Adr.ALM_HOST_MAX_PRI 0 4) (source : BitVec 16) {p : Nat}
    (some_ : (s.half h).validOf (zonesOf zones.toNat) ≠ [])
    (free : ((sourcesOf false).find? fun y => !(s.half h).inUse y) = some (.player p)) :
    CompletesAt (.activate h prio zones source false false) h s fun x =>
      (∀ z, (x.zone z).feeds = if z ∈ (s.half h).validOf (zonesOf zones.toNat)
        then ((s.half h).zone z).feeds ++ [⟨prio, .player p, none, false⟩] else ((s.half h).zone z).feeds) ∧
      x.player p = some ⟨0, false, false⟩ ∧ x.playerMsg p = source.toNat % 4096 ∧ x.get Adr.ALM_CMD_STATUS 24 8 = 0 ∧
      SameRegs [Adr.ALM_CMD_STATUS, Adr.ALM_EVENT, Adr.QM_DROP_CNT 9, Adr.MSG_PLAYER p, Adr.MSG_EVENT, Adr.MSG_STATUS] (s.half h) x := by
  have run : exec (.activate h prio zones source false false) s = .next (s.on h fun x => x.takeHost 1 prio zones source.toNat 0) := rfl
  refine completesAt_on run ?_
  generalize s.half h = x at *
  obtain ⟨cmd, takes⟩ := Half.takeHost_source (source := source.toNat) live up up' own (.inl ⟨rfl, rfl⟩) within some_ free
  rw [takes]
  have member : p < 64 := by
    have := List.mem_of_find?_eq_some free
    simpa [sourcesOf] using this
  have start : x.countHost.startSource (.player p) source.toNat false =
      (x.countHost.wrNat (Adr.MSG_PLAYER p) 0).playerPass p source.toNat false := rfl
  obtain ⟨graph, msg, same⟩ := (x.countHost.wrNat (Adr.MSG_PLAYER p) 0).playerPass_starts p source.toNat false
  rw [← start] at graph msg same
  obtain ⟨feeds, players, -, res, keeps⟩ := (x.countHost.startSource (.player p) source.toNat false).assign_ends (.player p) prio
    (x.validOf_nodup (zonesOf zones.toNat)) cmd
  have apart : Adr.MSG_PLAYER p ∉ hostRegs := by
    simp only [hostRegs, Adr.MSG_PLAYER, Adr.ALM_CMD_STATUS, Adr.ALM_EVENT, Adr.QM_DROP_CNT, List.mem_cons, List.not_mem_nil, or_false]
    omega
  have zone : ∀ z, (x.countHost.startSource (.player p) source.toNat false).zone z = x.zone z := fun z => by
    rw [Half.zone, graph, Half.wrNat_graph, x.countHost_writes.graph, Half.zone]
  refine ⟨fun z => by rw [feeds, zone], ?_, ?_, res, fun a ha => ?_⟩
  · rw [Half.player, players, graph, find_insertAt]
    rfl
  · exact (Half.get_congr (keeps _ apart) 12 12).trans msg
  · simp only [List.mem_cons, List.not_mem_nil, or_false, not_or] at ha
    obtain ⟨h1, h2, h3, h4, h5, h6⟩ := ha
    rw [keeps a (by simp [hostRegs, h1, h2, h3]), same a (by simp [h4, h5, h6]), Half.rd_wrNat_ne _ _ h4,
      x.countHost_writes.keeps a (by simp [hostRegs, h1, h2, h3])]

theorem tone_assigns (live : (s.half h).live = true) (up : (s.half h).up .control = true) (up' : (s.half h).up .processing = true)
    (own : (s.half h).holds = false) (within : prio ≤ (s.half h).get Adr.ALM_HOST_MAX_PRI 0 4) (source : BitVec 16) {g : Nat}
    (some_ : (s.half h).validOf (zonesOf zones.toNat) ≠ [])
    (free : ((sourcesOf true).find? fun y => !(s.half h).inUse y) = some (.tone g)) :
    CompletesAt (.tone h prio zones source) h s fun x =>
      (∀ z, (x.zone z).feeds = if z ∈ (s.half h).validOf (zonesOf zones.toNat)
        then ((s.half h).zone z).feeds ++ [⟨prio, .tone g, none, false⟩] else ((s.half h).zone z).feeds) ∧
      (g, ⟨source.toNat, 0⟩) ∈ x.graph.tones ∧ x.get Adr.ALM_CMD_STATUS 24 8 = 0 ∧
      SameRegs [Adr.ALM_CMD_STATUS, Adr.ALM_EVENT, Adr.QM_DROP_CNT 9] (s.half h) x := by
  have run : exec (.tone h prio zones source) s = .next (s.on h fun x => x.takeHost 4 prio zones source.toNat 0) := rfl
  refine completesAt_on run ?_
  generalize s.half h = x at *
  obtain ⟨cmd, takes⟩ := Half.takeHost_source (source := source.toNat) live up up' own (.inr ⟨rfl, rfl⟩) within some_ free
  rw [takes]
  have start : x.countHost.startSource (.tone g) source.toNat false =
      x.countHost.onGraph fun y => { y with tones := insertAt g ⟨source.toNat, 0⟩ y.tones } := rfl
  obtain ⟨feeds, -, tones, res, keeps⟩ := (x.countHost.startSource (.tone g) source.toNat false).assign_ends (.tone g) prio
    (x.validOf_nodup (zonesOf zones.toNat)) cmd
  have zone : ∀ z, (x.countHost.startSource (.tone g) source.toNat false).zone z = x.zone z := fun z => by
    rw [start, Half.zone, Half.onGraph_graph, x.countHost_writes.graph, Half.zone]
  refine ⟨fun z => by rw [feeds, zone], ?_, res, fun a ha => ?_⟩
  · rw [tones, start, Half.onGraph_graph]
    exact List.mem_of_find?_eq_some (find_insertAt g _ _)
  · rw [keeps a ha, start, Half.onGraph_rd, x.countHost_writes.keeps a ha]

/-- Settles O33: a host command is refused above the limit, and else acts on its zones, or assigns a source. -/
theorem hostAlarmCommandsTakeEffect : Obligations.HostAlarmCommandsTakeEffect := by
  intro h prio zones s live up up' own
  have plain : ∀ code, badLive code prio 0 = false := fun code => by simp [badLive]
  refine ⟨fun above c hc => ?_, fun within => ⟨fun c f hc => ?_, test_logs live up up' own within,
    fun src p some_ free => activate_assigns live up up' own within src some_ free,
    fun src g some_ free => tone_assigns live up up' own within src some_ free⟩⟩
  · have stored : ∀ rep : Bool, badLive 1 prio (ofBool rep + 2 * ofBool false) = false := fun rep => by
      have flag : (ofBool rep + 2 * ofBool false).testBit 1 = false := by cases rep <;> decide
      simp only [badLive, flag, Bool.false_and]
    obtain rfl | rfl | rfl | rfl | ⟨src, rfl⟩ | ⟨src, rep, rfl⟩ := hc
    · exact hostCommand_denied live up up' own rfl (show 1 ≤ 2 by decide) (show 2 ≤ 6 by decide) (plain 2) above
    · exact hostCommand_denied live up up' own rfl (show 1 ≤ 3 by decide) (show 3 ≤ 6 by decide) (plain 3) above
    · exact hostCommand_denied live up up' own rfl (show 1 ≤ 5 by decide) (show 5 ≤ 6 by decide) (plain 5) above
    · exact hostCommand_denied live up up' own rfl (show 1 ≤ 6 by decide) (show 6 ≤ 6 by decide) (plain 6) above
    · exact hostCommand_denied live up up' own rfl (show 1 ≤ 4 by decide) (show 4 ≤ 6 by decide) (plain 4) above
    · exact hostCommand_denied live up up' own rfl (show 1 ≤ 1 by decide) (show 1 ≤ 6 by decide) (stored rep) above
  · have applied : ∀ code, (code = 2 ∨ code = 3 ∨ code = 5) → ∀ (y : Half) (cmd : AlarmCmd), cmd.code = code → cmd.prio = prio →
        cmd.flags = 0 → cmd.mark = none →
        y.applyCmd cmd = (y.each (y.validOf cmd.zones) fun y z => y.onZone z fun s => s.apply code prio, 0) := by
      intro code hcode y cmd h1 h2 _ _
      rw [y.applyCmd_zones (by rw [h1]; exact hcode), h1, h2]
    obtain ⟨rfl, rfl⟩ | ⟨rfl, rfl⟩ | ⟨rfl, rfl⟩ | ⟨high, ⟨src, rep, rfl⟩, rfl⟩ := hc
    · exact hostCommand_zones live up up' own rfl (show 1 ≤ 2 by decide) (show 2 ≤ 6 by decide) (plain 2) within (applied 2 (by decide))
    · exact hostCommand_zones live up up' own rfl (show 1 ≤ 3 by decide) (show 3 ≤ 6 by decide) (plain 3) within (applied 3 (by decide))
    · exact hostCommand_zones live up up' own rfl (show 1 ≤ 5 by decide) (show 5 ≤ 6 by decide) (plain 5) within (applied 5 (by decide))
    · have flag : (ofBool rep + 2 * ofBool true).testBit 1 = true := by cases rep <;> decide
      have run : exec (.activate h prio zones src rep true) s =
        .next (s.on h fun x => x.takeHost 1 prio zones src.toNat (ofBool rep + 2 * ofBool true)) := rfl
      refine hostCommand_zones (f := fun z => z.setCtl prio true none) live up up' own run (by decide) (by decide) (by simp [badLive, high]) within ?_
      intro y cmd h1 h2 h3 h4
      rw [y.applyCmd_live h1 (by rw [h3]; exact flag), h2, h4]

end sourceCommands

end Sys2Proof.Machine
end

section
/-! O34: alarm frames and EVAC inputs (R266 to R279). -/

namespace Sys2Proof.Machine

open Sys2Proof

/-! Alarm frames (R266 to R272, R279). -/

/-- The half without its first waiting alarm frame. -/
def Half.popFrame (x : Half) (rest : List AlarmFrame) : Half := x.onAlarm fun a => { a with waiting := rest }

theorem Half.refuseCmd_eq_logCmd (x : Half) {c : AlarmCmd} {r : Nat} (ofs : Nat) (route : c.route ≠ 3) (checked : r ≠ 0x16) :
    x.refuseCmd c r ofs = x.logCmd c r := by
  unfold Half.refuseCmd
  simp only
  rw [if_neg (fun h => checked h.1), Half.showHost, if_neg route]

/-- A command of another route than the host's, refused: only the log and its event. -/
theorem Half.refuseCmd_refused (x : Half) {c : AlarmCmd} {r : Nat} (ofs : Nat) (route : c.route ≠ 3) (hr : 0x10 ≤ r) (checked : r ≠ 0x16) :
    (x.refuseCmd c r ofs).bit Adr.ALM_EVENT 1 = true ∧ Logged (· ∈ [Adr.ALM_EVENT, Adr.QM_DROP_CNT 9]) x (x.refuseCmd c r ofs) := by
  rw [x.refuseCmd_eq_logCmd ofs route checked]
  exact ⟨(x.logCmd_event c r).2 hr, x.logCmd_logged c r⟩

theorem alarmFrame_runs {h : HalfId} {s : State} (ofs : BlockOfs) {f : AlarmFrame} {rest : List AlarmFrame}
    (waits : (s.half h).alarm.waiting = f :: rest) :
    exec (.alarmFrame h ofs) s = .next (s.on h fun x => (x.popFrame rest).authenticate f ofs) := by
  refine congrArg Host.Outcome.next (State.on_congr ?_)
  simp only [waits]
  rfl

theorem alarmFrame_unknown {h : HalfId} {s : State} (ofs : BlockOfs) {f : AlarmFrame} {rest : List AlarmFrame} {d : Udp} {c : AlarmCmd}
    (waits : (s.half h).alarm.waiting = f :: rest) (port : f.port < 2) (udp : (s.half h).alarmUdp (parseFrame f.bytes) = some d)
    (hc : c = f.cmd d ((s.half h).now ofs) (!(s.half h).bit Adr.TIM_STATUS 2)) (unknown : (s.half h).issuerOf c.issuer = none) :
    CompletesAt (.alarmFrame h ofs) h s fun x => x.bit Adr.ALM_EVENT 1 = true ∧
      x.alarm = { (s.half h).alarm with waiting := rest } ∧ SameRegs [Adr.ALM_EVENT, Adr.QM_DROP_CNT 9] (s.half h) x := by
  refine completesAt_on (alarmFrame_runs ofs waits) ?_
  generalize s.half h = x at *
  have route : c.route ≠ 3 := by rw [hc]; show f.port ≠ 3; omega
  have judged : (x.popFrame rest).authenticate f ofs = (x.popFrame rest).refuseCmd c 0x11 ofs := by
    have udp' : (x.popFrame rest).alarmUdp (parseFrame f.bytes) = some d := udp
    have cmd : f.cmd d ((x.popFrame rest).now ofs) (!(x.popFrame rest).bit Adr.TIM_STATUS 2) = c := hc.symm
    have unknown' : (x.popFrame rest).issuerOf c.issuer = none := unknown
    unfold Half.authenticate
    simp only [udp', cmd, unknown']
  rw [judged]
  obtain ⟨ev, logged⟩ := (x.popFrame rest).refuseCmd_refused ofs route (r := 0x11) (by decide) (by decide)
  exact ⟨ev, logged.alarm, fun a ha => (logged.keeps a ha).trans rfl⟩

/-- A frame of a known issuer, from its source address and within its bucket, that passes every check. -/
theorem Half.authenticate_passes {x : Half} (ofs : Nat) {f : AlarmFrame} (rest : List AlarmFrame) {d : Udp} {c : AlarmCmd} {i : Nat}
    (udp : x.alarmUdp (parseFrame f.bytes) = some d) (hc : c = f.cmd d (x.now ofs) (!x.bit Adr.TIM_STATUS 2))
    (known : x.issuerOf c.issuer = some i)
    (source : (x.rd (Adr.ALM_ISSUER_SRC_IP i)).toNat = 0 ∨ (x.rd (Adr.ALM_ISSUER_SRC_IP i)).toNat = d.srcIp)
    (level : 1000000000 ≤ x.bucketLevel i (x.now ofs)) (checked : x.frameCheck i d.payload c ofs = none) :
    (x.popFrame rest).authenticate f ofs =
      (let y := (x.popFrame rest).setBucket i (x.bucketLevel i (x.now ofs) - 1000000000) (x.now ofs)
       if y.holds then (y.logCmd c 3).onAlarm fun a => { a with held := a.held ++ [{ c with logged := true }] }
       else (y.setLastSeq i c).acceptCmd { c with reply := if y.role = .active then c.reply else none }) := by
  have udp' : (x.popFrame rest).alarmUdp (parseFrame f.bytes) = some d := udp
  have cmd : f.cmd d ((x.popFrame rest).now ofs) (!(x.popFrame rest).bit Adr.TIM_STATUS 2) = c := hc.symm
  have known' : (x.popFrame rest).issuerOf c.issuer = some i := known
  have bucket : (x.popFrame rest).bucketLevel i ((x.popFrame rest).now ofs) = x.bucketLevel i (x.now ofs) := rfl
  have passed : ((x.popFrame rest).setBucket i (x.bucketLevel i (x.now ofs) - 1000000000) (x.now ofs)).frameCheck i d.payload c ofs =
      none := checked
  have when_ : (x.popFrame rest).now ofs = x.now ofs := rfl
  have src : ¬(((x.popFrame rest).rd (Adr.ALM_ISSUER_SRC_IP i)).toNat ≠ 0 ∧
      ((x.popFrame rest).rd (Adr.ALM_ISSUER_SRC_IP i)).toNat ≠ d.srcIp) := by
    rintro ⟨h1, h2⟩
    exact source.elim h1 h2
  unfold Half.authenticate
  simp only [udp', cmd, known', bucket]
  rw [if_neg src, if_neg (by omega), when_]
  simp only [passed]

section passingFrame
variable {h : HalfId} {s : State} {ofs : BlockOfs} {f : AlarmFrame} {rest : List AlarmFrame} {d : Udp} {c : AlarmCmd} {i : Nat}

theorem alarmFrame_accepted (waits : (s.half h).alarm.waiting = f :: rest) (udp : (s.half h).alarmUdp (parseFrame f.bytes) = some d)
    (hc : c = f.cmd d ((s.half h).now ofs) (!(s.half h).bit Adr.TIM_STATUS 2)) (known : (s.half h).issuerOf c.issuer = some i)
    (source : ((s.half h).rd (Adr.ALM_ISSUER_SRC_IP i)).toNat = 0 ∨ ((s.half h).rd (Adr.ALM_ISSUER_SRC_IP i)).toNat = d.srcIp)
    (level : 1000000000 ≤ (s.half h).bucketLevel i ((s.half h).now ofs)) (checked : (s.half h).frameCheck i d.payload c ofs = none)
    (own : (s.half h).holds = false) (active : (s.half h).role = .active) :
    CompletesAt (.alarmFrame h ofs) h s fun x => x.alarm.waiting = rest ∧ x.alarm.queue = insertCmd c (s.half h).alarm.queue ∧
      x.rd (Adr.ALM_ISSUER_LAST_SEQ i) = BitVec.ofNat 32 c.seq ∧ x.bit (Adr.ALM_ISSUER_CFG i) 30 = true ∧
      SameRegs [Adr.ALM_ISSUER_LAST_SEQ i, Adr.ALM_ISSUER_CFG i] (s.half h) x := by
  refine completesAt_on (alarmFrame_runs ofs waits) ?_
  generalize s.half h = x at *
  rw [Half.authenticate_passes ofs rest udp hc known source level checked]
  simp only
  generalize hy : (x.popFrame rest).setBucket i _ _ = y
  have reg : ∀ a, y.rd a = x.rd a := fun a => by rw [← hy]; rfl
  have alarm : y.alarm.waiting = rest ∧ y.alarm.queue = x.alarm.queue := by rw [← hy]; exact ⟨rfl, rfl⟩
  have role : y.role = x.role := Half.role_of_rd (reg _)
  have own' : y.holds = false := by rw [Half.holds, role]; exact own
  have apart : Adr.ALM_ISSUER_LAST_SEQ i ≠ Adr.ALM_ISSUER_CFG i := by simp only [Adr.ALM_ISSUER_LAST_SEQ, Adr.ALM_ISSUER_CFG]; omega
  have kept : ({ c with reply := if y.role = .active then c.reply else none } : AlarmCmd) = c := by rw [role, if_pos active]
  rw [own', if_neg Bool.false_ne_true, kept]
  have set : ∀ a, ((y.setLastSeq i c).acceptCmd c).rd a =
      ((y.wrNat (Adr.ALM_ISSUER_LAST_SEQ i) c.seq).putBit (Adr.ALM_ISSUER_CFG i) 30 true).rd a := fun _ => rfl
  refine ⟨alarm.1, ?_, ?_, (Half.bit_congr (set _) 30).trans (Half.bit_putBit_self _ _ _ _ (by decide)), fun a ha => ?_⟩
  · rw [← alarm.2]; rfl
  · rw [set, Half.read_putBit, if_neg apart, Half.read_wrNat, if_pos rfl]
  · simp only [List.mem_cons, List.not_mem_nil, or_false, not_or] at ha
    rw [set, Half.read_putBit, if_neg ha.2, Half.read_wrNat, if_neg ha.1, reg]

theorem alarmFrame_held (waits : (s.half h).alarm.waiting = f :: rest) (udp : (s.half h).alarmUdp (parseFrame f.bytes) = some d)
    (hc : c = f.cmd d ((s.half h).now ofs) (!(s.half h).bit Adr.TIM_STATUS 2)) (known : (s.half h).issuerOf c.issuer = some i)
    (source : ((s.half h).rd (Adr.ALM_ISSUER_SRC_IP i)).toNat = 0 ∨ ((s.half h).rd (Adr.ALM_ISSUER_SRC_IP i)).toNat = d.srcIp)
    (level : 1000000000 ≤ (s.half h).bucketLevel i ((s.half h).now ofs)) (checked : (s.half h).frameCheck i d.payload c ofs = none)
    (held : (s.half h).holds = true) :
    CompletesAt (.alarmFrame h ofs) h s fun x => x.alarm.waiting = rest ∧ x.alarm.queue = (s.half h).alarm.queue ∧
      x.alarm.held = (s.half h).alarm.held ++ [{ c with logged := true }] ∧ SameRegs [Adr.QM_DROP_CNT 9] (s.half h) x := by
  refine completesAt_on (alarmFrame_runs ofs waits) ?_
  generalize s.half h = x at *
  rw [Half.authenticate_passes ofs rest udp hc known source level checked]
  simp only
  generalize hy : (x.popFrame rest).setBucket i _ _ = y
  have reg : ∀ a, y.rd a = x.rd a := fun a => by rw [← hy]; rfl
  have alarm : y.alarm.waiting = rest ∧ y.alarm.queue = x.alarm.queue ∧ y.alarm.held = x.alarm.held := by
    rw [← hy]; exact ⟨rfl, rfl, rfl⟩
  have held' : y.holds = true := by rw [Half.holds, Half.role_of_rd (reg _)]; exact held
  have fresh : c.logged = false := by rw [hc]; rfl
  have logs : y.logCmd c 3 = y.hwPush 9 6 (c.record 3) := by simp [Half.logCmd, fresh]
  rw [held', if_pos rfl, logs]
  have pushed := Half.hwPush_pushed y 9 6 (c.record 3)
  have same : (y.hwPush 9 6 (c.record 3)).alarm = y.alarm := by rw [pushed.same]
  refine ⟨?_, ?_, ?_, fun a ha => (pushed.regs a fun e => ha (by simp [e])).trans (reg a)⟩
  · exact (congrArg AlarmSt.waiting same).trans alarm.1
  · exact (congrArg AlarmSt.queue same).trans alarm.2.1
  · exact congrArg (· ++ _) ((congrArg AlarmSt.held same).trans alarm.2.2)

theorem authQueueTimeout_refuses (waits : (s.half h).alarm.waiting = f :: rest) (port : f.port < 2)
    (udp : (s.half h).alarmUdp (parseFrame f.bytes) = some d) :
    CompletesAt (.authQueueTimeout h) h s fun x => x.bit Adr.ALM_EVENT 1 = true ∧
      x.alarm = { (s.half h).alarm with waiting := rest } ∧ SameRegs [Adr.ALM_EVENT, Adr.QM_DROP_CNT 9] (s.half h) x := by
  refine completesAt_on rfl ?_
  generalize s.half h = x at *
  have udp' : (x.popFrame rest).alarmUdp (parseFrame f.bytes) = some d := udp
  simp only [waits]
  generalize hz : x.popFrame rest = z at udp'
  have shape : (x.onAlarm fun a => { a with waiting := rest }) = z := hz
  simp only [shape, udp']
  obtain ⟨ev, logged⟩ := z.refuseCmd_refused 0 (c := f.cmd d (z.now 0) (!z.bit Adr.TIM_STATUS 2)) (r := 0x18)
    (by show f.port ≠ 3; omega) (by decide) (by decide)
  exact ⟨ev, logged.alarm.trans (by rw [← hz]; rfl), fun a ha => (logged.keeps a ha).trans (by rw [← hz]; rfl)⟩

end passingFrame

/-! EVAC inputs (R274 to R277). -/

/-- From x to y: registers at the addresses of p only, the queues and the alarm path's working state. -/
structure Alarms (p : Nat → Prop) (x y : Half) : Prop where
  same : y = { x with regs := y.regs, queues := y.queues, acc := y.acc, alarm := y.alarm }
  keeps : ∀ a, ¬ p a → y.rd a = x.rd a

namespace Alarms
variable {p q : Nat → Prop} {x y z : Half}

theorem trans (h : Alarms p x y) (k : Alarms p y z) : Alarms p x z := by
  obtain ⟨hy, hxy⟩ := h
  obtain ⟨hz, hyz⟩ := k
  exact ⟨by rw [hz, hy], fun a ha => (hyz a ha).trans (hxy a ha)⟩

theorem of_logged (h : Logged p x y) : Alarms p x y := by
  obtain ⟨hy, hxy⟩ := h
  exact ⟨by rw [hy], hxy⟩

theorem onAlarm (h : Alarms p x y) (f : AlarmSt → AlarmSt) : Alarms p x (y.onAlarm f) := by
  obtain ⟨hy, hxy⟩ := h
  exact ⟨by rw [hy]; rfl, hxy⟩

theorem mono (h : Alarms p x y) (hq : ∀ a, p a → q a) : Alarms q x y := ⟨h.same, fun a ha => h.keeps a fun hp => ha (hq a hp)⟩

theorem get (h : Alarms p x y) {a : Nat} (ha : ¬ p a) (lo n : Nat) : y.get a lo n = x.get a lo n := Half.get_congr (h.keeps a ha) lo n
theorem bit (h : Alarms p x y) {a : Nat} (ha : ¬ p a) (b : Nat) : y.bit a b = x.bit a b := Half.bit_congr (h.keeps a ha) b

end Alarms

/-- What a trigger writes: the log's event and its queue's count of drops. -/
def logRegs : List Nat := [Adr.ALM_EVENT, Adr.QM_DROP_CNT 9]

theorem Half.trigger_alarms (x : Half) (e ofs : Nat) : Alarms (· ∈ logRegs) x (x.trigger e ofs) := by
  unfold Half.trigger
  split
  · exact .of_logged (.of_writes (.refl _ x))
  · rename_i c hc
    split
    · exact .of_logged (x.logCmd_logged c 3)
    · split
      · have route : c.route ≠ 3 := by
          rw [Half.actionCmd] at hc
          split at hc
          · exact absurd hc (by simp)
          · cases hc; show (2 : Nat) ≠ 3; decide
        exact .of_logged (x.refuseCmd_refused ofs route (by decide) (by decide)).2
      · exact ((Alarms.of_logged (.of_writes (.refl _ x))).onAlarm _).onAlarm _

theorem Half.untrigger_alarms (x : Half) (e ofs : Nat) : Alarms (fun _ => False) x (x.untrigger e ofs) := by
  have start : Alarms (fun _ => False) x x := .of_logged (.of_writes (.refl _ x))
  unfold Half.untrigger
  split
  · exact start
  · simp only
    split
    · exact start.onAlarm _
    · exact (start.onAlarm _).onAlarm _

/-- A step that leaves the events but the log's as they are. -/
def KeepsEvents (x y : Half) : Prop := ∀ b, b ≠ 0 → b ≠ 1 → y.bit Adr.ALM_EVENT b = x.bit Adr.ALM_EVENT b

theorem Half.trigger_events (x : Half) (e ofs : Nat) : KeepsEvents x (x.trigger e ofs) := fun b h0 h1 => by
  unfold Half.trigger
  split
  · rfl
  · rename_i c hc
    split
    · exact x.logCmd_keepsEvent c 3 h0 h1
    · split
      · have route : c.route = 2 := by
          rw [Half.actionCmd] at hc
          split at hc
          · exact absurd hc (by simp)
          · cases hc; rfl
        rw [x.refuseCmd_eq_logCmd ofs (by omega) (by decide)]
        exact x.logCmd_keepsEvent c 0x15 h0 h1
      · rfl

theorem Half.untrigger_events (x : Half) (e ofs : Nat) : KeepsEvents x (x.untrigger e ofs) := fun b _ _ =>
  (x.untrigger_alarms e ofs).bit not_false b

/-- What an input's change of state writes. -/
def evacRegs (i : Nat) : List Nat := [Adr.ALM_EVAC_STATUS i, Adr.ALM_STATUS, Adr.ALM_EVENT, Adr.QM_DROP_CNT 9]

/-- An input shown active or not, with its event. -/
def Half.showEvac (x : Half) (i : Nat) (on : Bool) : Half :=
  ((x.putBit (Adr.ALM_EVAC_STATUS i) 5 on).putBit Adr.ALM_STATUS (8 + i) on).event Adr.ALM_EVENT 2

theorem Half.showEvac_writes (x : Half) (i : Nat) (on : Bool) :
    Writes (· ∈ [Adr.ALM_EVAC_STATUS i, Adr.ALM_STATUS, Adr.ALM_EVENT]) x (x.showEvac i on) :=
  (((Writes.refl _ x).putBit 5 on (by simp)).putBit (8 + i) on (by simp)).event 2 (by simp)

theorem evacStatus_ne (i : Nat) : Adr.ALM_EVAC_STATUS i ≠ Adr.ALM_STATUS ∧ Adr.ALM_EVAC_STATUS i ≠ Adr.ALM_EVENT := by
  simp only [Adr.ALM_EVAC_STATUS, Adr.ALM_STATUS, Adr.ALM_EVENT]
  omega

theorem notMem_evac {i a : Nat} (hi : i < 8) (ha : a < 0x70000 ∨ 0x71000 ≤ a) :
    a ∉ [Adr.ALM_EVAC_STATUS i, Adr.ALM_STATUS, Adr.ALM_EVENT] := by
  simp only [List.mem_cons, List.not_mem_nil, or_false, Adr.ALM_EVAC_STATUS, Adr.ALM_STATUS, Adr.ALM_EVENT]
  omega

theorem Half.showEvac_status (x : Half) (i : Nat) (on : Bool) :
    (x.showEvac i on).rd (Adr.ALM_EVAC_STATUS i) = (x.putBit (Adr.ALM_EVAC_STATUS i) 5 on).rd (Adr.ALM_EVAC_STATUS i) := by
  rw [Half.showEvac, Half.rd_event_ne _ _ (evacStatus_ne i).2, Half.read_putBit, if_neg (evacStatus_ne i).1]

theorem Half.showEvac_shows (x : Half) {i : Nat} (hi : i < 8) (on : Bool) :
    (x.showEvac i on).evacActive i = on ∧ (x.showEvac i on).evacClass i = x.evacClass i ∧
      (x.showEvac i on).bit (Adr.ALM_EVAC_STATUS i) 4 = x.bit (Adr.ALM_EVAC_STATUS i) 4 ∧
      (x.showEvac i on).bit Adr.ALM_STATUS (8 + i) = on ∧ (x.showEvac i on).bit Adr.ALM_EVENT 2 = true := by
  refine ⟨?_, ?_, ?_, ?_, Half.bit_putBit_self _ _ _ _ (by decide)⟩
  · rw [Half.evacActive, Half.bit_congr (x.showEvac_status i on), Half.bit_putBit_self _ _ _ _ (by decide)]
  · rw [Half.evacClass, Half.get_congr (x.showEvac_status i on), Half.putBit_eq,
      Half.get_put_field _ _ _ _ _ _ _ (by decide) (by decide), ← Half.evacClass]
  · rw [Half.bit_congr (x.showEvac_status i on), Half.putBit_eq, Half.bit_put_field _ _ _ _ _ _ (by decide) (by decide)]
  · rw [Half.showEvac, Half.bit_event_ne _ _ _ (by decide), Half.bit_putBit_self _ _ _ _ (by omega)]

theorem Half.setEvacActive_on {x : Half} {i : Nat} (off : x.evacActive i = false) (ofs : Nat) :
    x.setEvacActive i true ofs = (x.showEvac i true).trigger i ofs := by
  rw [Half.setEvacActive, if_neg (by simp [off]), if_pos rfl]
  rfl

theorem Half.setEvacActive_off {x : Half} {i : Nat} (active : x.evacActive i = true) (ofs : Nat) :
    x.setEvacActive i false ofs = (x.showEvac i false).untrigger i ofs := by
  rw [Half.setEvacActive, if_neg (by simp [active]), if_neg Bool.false_ne_true]
  rfl

theorem logRegs_in_evacRegs {i a : Nat} (h : a ∈ logRegs) : a ∈ evacRegs i := by
  simp only [logRegs, evacRegs, List.mem_cons, List.not_mem_nil, or_false] at h ⊢
  exact Or.inr (Or.inr h)

theorem evacStatus_notMem_logRegs {i : Nat} (hi : i < 8) : Adr.ALM_EVAC_STATUS i ∉ logRegs := by
  simp only [logRegs, List.mem_cons, List.not_mem_nil, or_false, Adr.ALM_EVAC_STATUS, Adr.ALM_EVENT, Adr.QM_DROP_CNT]
  omega

/-- An input that becomes active: shown, with its event, then triggered. -/
theorem Half.setEvacActive_shows {x : Half} {i : Nat} (hi : i < 8) (off : x.evacActive i = false) (ofs : Nat) :
    (x.setEvacActive i true ofs).evacActive i = true ∧ (x.setEvacActive i true ofs).evacClass i = x.evacClass i ∧
      (x.setEvacActive i true ofs).bit (Adr.ALM_EVAC_STATUS i) 4 = x.bit (Adr.ALM_EVAC_STATUS i) 4 ∧
      (x.setEvacActive i true ofs).bit Adr.ALM_STATUS (8 + i) = true ∧ (x.setEvacActive i true ofs).bit Adr.ALM_EVENT 2 = true ∧
      Alarms (· ∈ evacRegs i) x (x.setEvacActive i true ofs) := by
  rw [Half.setEvacActive_on off]
  obtain ⟨active, cls, four, status, event⟩ := x.showEvac_shows hi true
  have moves := (x.showEvac i true).trigger_alarms i ofs
  have own := moves.keeps _ (evacStatus_notMem_logRegs hi)
  refine ⟨(Half.bit_congr own 5).trans active, (Half.get_congr own 0 3).trans cls, (Half.bit_congr own 4).trans four,
    (moves.bit (by decide) _).trans status, ((x.showEvac i true).trigger_events i ofs 2 (by decide) (by decide)).trans event, ?_⟩
  exact (Alarms.of_logged (.of_writes ((x.showEvac_writes i true).mono fun a ha => by simp [evacRegs] at ha ⊢; tauto))).trans
    (moves.mono fun a ha => logRegs_in_evacRegs ha)

/-- What a half reads from its registers for the command of an action entry. -/
theorem Half.actionCmd_congr {x y : Half} (words : ∀ a, 0x6000000 ≤ a → y.rd a = x.rd a) (time : y.ptpNs 0 = x.ptpNs 0) (e t : Nat) :
    y.actionCmd e t = x.actionCmd e t := by
  have word : ∀ i, y.actionWord e i = x.actionWord e i := fun i => words _ (by omega)
  unfold Half.actionCmd Half.hostCmd
  simp only [word, time]

theorem Half.evacReads_le (x : Half) (i : Nat) : x.evacReads i ≤ 4 := by
  unfold Half.evacReads
  simp only
  split
  · generalize ofBool _ + ofBool _ + ofBool _ = n
    match n with
    | 0 | 1 | 2 | 3 => decide
    | _ + 4 => exact Nat.le_refl 4
  · exact Nat.le_refl 4

section evacCommands
variable {h : HalfId} {i : Fin 8} {s : State}

/-- The comparator's state shown at an input. -/
def Half.showWindow (x : Half) (i : Nat) (v : Bool) : Half := x.putBit (Adr.ALM_EVAC_STATUS i) 4 v

theorem Half.showWindow_shows (x : Half) (i : Nat) (v : Bool) :
    (x.showWindow i v).bit (Adr.ALM_EVAC_STATUS i) 4 = v ∧ (x.showWindow i v).evacActive i = x.evacActive i ∧
      Writes (· ∈ [Adr.ALM_EVAC_STATUS i]) x (x.showWindow i v) := by
  refine ⟨Half.bit_putBit_self _ _ _ _ (by decide), ?_, (Writes.refl _ x).putBit 4 v (by simp)⟩
  rw [Half.evacActive, Half.showWindow, Half.putBit_eq, Half.bit_put_field _ _ _ _ _ _ (by decide) (by decide), ← Half.evacActive]

/-- Writes at registers of the alarm path below its action table leave what an entry's command is made of. -/
theorem Writes.actionCmd {p : Nat → Prop} {x y : Half} (w : Writes p x y) (hp : ∀ a, p a → 0x70000 ≤ a ∧ a < 0x6000000) (e t : Nat) :
    y.actionCmd e t = x.actionCmd e t := by
  refine Half.actionCmd_congr (fun a ha => w.keeps a fun h => by have := hp a h; omega) ?_ e t
  have clock : ∀ j, j < 3 → y.rd (Adr.TIM_PTP_TIME j) = x.rd (Adr.TIM_PTP_TIME j) := fun j hj =>
    w.keeps _ fun h => by have := hp _ h; simp only [Adr.TIM_PTP_TIME] at this; omega
  rw [Half.ptpNs, Half.ptpNs, clock 0 (by decide), clock 1 (by decide), clock 2 (by decide)]

theorem Half.trigger_queue {x : Half} {e ofs : Nat} {c : AlarmCmd} (hc : x.actionCmd e (x.now ofs) = some c) (own : x.holds = false)
    (good : badLive c.code c.prio c.flags = false) : (x.trigger e ofs).alarm.queue = insertCmd c x.alarm.queue := by
  unfold Half.trigger
  simp only [hc, own, good, Bool.false_eq_true, if_false]
  rfl

theorem comparatorInWindow_activates (ofs : BlockOfs) (runs : (s.half h).evacRuns i = true) (off : (s.half h).evacActive i = false) :
    CompletesAt (.comparatorInWindow h i ofs) h s fun x => x.bit (Adr.ALM_EVAC_STATUS i) 4 = true ∧ x.evacActive i = true ∧
      x.bit Adr.ALM_STATUS (8 + i) = true ∧ x.bit Adr.ALM_EVENT 2 = true ∧
      (∀ c, (s.half h).actionCmd i ((s.half h).now ofs) = some c → (s.half h).holds = false →
        badLive c.code c.prio c.flags = false → x.alarm.queue = insertCmd c (s.half h).alarm.queue) ∧
      SameRegs [Adr.ALM_EVAC_STATUS i, Adr.ALM_STATUS, Adr.ALM_EVENT, Adr.QM_DROP_CNT 9] (s.half h) x := by
  refine completesAt_on rfl ?_
  simp only [runs, if_true]
  generalize s.half h = x at *
  obtain ⟨four, active, shown⟩ := x.showWindow_shows i true
  have off' : (x.showWindow i true).evacActive i = false := active.trans off
  obtain ⟨on, -, kept, status, event, moves⟩ := Half.setEvacActive_shows i.isLt off' ofs
  refine ⟨kept.trans four, on, status, event, fun c hc own good => ?_, fun a ha => ?_⟩
  · have writes : Writes (· ∈ [Adr.ALM_EVAC_STATUS i, Adr.ALM_STATUS, Adr.ALM_EVENT]) x ((x.showWindow i true).showEvac i true) :=
      (shown.mono fun a ha => by simp at ha ⊢; tauto).trans ((x.showWindow i true).showEvac_writes i true)
    have cmd := writes.actionCmd (fun a ha => by
      have := i.isLt
      simp only [List.mem_cons, List.not_mem_nil, or_false, Adr.ALM_EVAC_STATUS, Adr.ALM_STATUS, Adr.ALM_EVENT] at ha
      omega) i (x.now ofs)
    have own' : ((x.showWindow i true).showEvac i true).holds = false := by
      rw [Half.holds, Half.role_of_rd (writes.keeps _ (notMem_evac i.isLt (by decide)))]
      exact own
    have queued := Half.trigger_queue (cmd.trans hc) own' good
    have set : (x.showWindow i true).setEvacActive i true ofs = ((x.showWindow i true).showEvac i true).trigger i ofs :=
      Half.setEvacActive_on off' ofs
    exact (congrArg (fun y : Half => y.alarm.queue) set).trans queued
  · exact (moves.keeps a ha).trans (shown.keeps a fun h => ha (by simp at h; simp [h]))

/-- The end of a trigger on a half of its own. -/
theorem Half.untrigger_queue {x : Half} (e ofs : Nat) (own : x.holds = false) :
    (bitAt (x.actionWord e 0) 19 = true → (x.untrigger e ofs).alarm.queue = x.alarm.queue) ∧
      (bitAt (x.actionWord e 0) 19 = false →
        ∃ c, c.code = 0x80 ∧ c.mark = some e ∧ (x.untrigger e ofs).alarm.queue = insertCmd c x.alarm.queue) := by
  refine ⟨fun latch => ?_, fun removes => ?_⟩
  · unfold Half.untrigger
    simp only [own, Bool.false_eq_true, if_false]
    rw [if_pos latch]
    rfl
  · refine ⟨{ x.hostCmd 0x80 0 [] 0 0 (x.now ofs) with route := 2, mark := some e }, rfl, rfl, ?_⟩
    unfold Half.untrigger
    simp only [own, Bool.false_eq_true, if_false]
    rw [if_neg (Bool.eq_false_iff.mp removes)]
    rfl

theorem evacReleaseExpiry_ends (ofs : BlockOfs) (runs : (s.half h).evacRuns i = true) (active : (s.half h).evacActive i = true)
    (cls : (s.half h).evacClass i ≠ 1) :
    CompletesAt (.evacReleaseExpiry h i ofs) h s fun x => x.bit (Adr.ALM_EVAC_STATUS i) 4 = false ∧ x.evacActive i = false ∧
      x.bit Adr.ALM_STATUS (8 + i) = false ∧ x.bit Adr.ALM_EVENT 2 = true ∧
      ((s.half h).holds = false → bitAt ((s.half h).actionWord i 0) 19 = true → x.alarm.queue = (s.half h).alarm.queue) ∧
      ((s.half h).holds = false → bitAt ((s.half h).actionWord i 0) 19 = false →
        ∃ c, c.code = 0x80 ∧ c.mark = some i.val ∧ x.alarm.queue = insertCmd c (s.half h).alarm.queue) ∧
      SameRegs [Adr.ALM_EVAC_STATUS i, Adr.ALM_STATUS, Adr.ALM_EVENT] (s.half h) x := by
  have cond : ((s.half h).evacRuns i && (s.half h).evacClass i != 1) = true := by simp [runs, cls]
  refine completesAt_on rfl ?_
  simp only [cond, if_true]
  generalize s.half h = x at *
  obtain ⟨four, same, shown⟩ := x.showWindow_shows i false
  have ends : (x.putBit (Adr.ALM_EVAC_STATUS i) 4 false).setEvacActive i false ofs = ((x.showWindow i false).showEvac i false).untrigger i ofs :=
    Half.setEvacActive_off (same.trans active) ofs
  rw [ends]
  obtain ⟨off, -, kept, status, event⟩ := (x.showWindow i false).showEvac_shows i.isLt false
  have writes : Writes (· ∈ [Adr.ALM_EVAC_STATUS i, Adr.ALM_STATUS, Adr.ALM_EVENT]) x ((x.showWindow i false).showEvac i false) :=
    (shown.mono fun a ha => by simp at ha ⊢; tauto).trans ((x.showWindow i false).showEvac_writes i false)
  generalize ((x.showWindow i false).showEvac i false) = y at *
  have reg := fun a => (y.untrigger_alarms i ofs).keeps a not_false
  have role : y.role = x.role := Half.role_of_rd (writes.keeps _ (notMem_evac i.isLt (by decide)))
  have alarm : y.alarm = x.alarm := by rw [writes.same]
  have word : y.actionWord i 0 = x.actionWord i 0 := writes.keeps _ (notMem_evac i.isLt (by omega))
  have queue := fun own => y.untrigger_queue i ofs (show y.holds = false by rw [Half.holds, role]; exact own)
  rw [word, alarm] at queue
  exact ⟨(Half.bit_congr (reg _) _).trans (kept.trans four), (Half.bit_congr (reg _) _).trans off, (Half.bit_congr (reg _) _).trans status,
    (Half.bit_congr (reg _) _).trans event, fun own => (queue own).1, fun own => (queue own).2,
    fun a ha => (reg a).trans (writes.keeps a ha)⟩

theorem comparatorDisagree_faults (runs : (s.half h).evacRuns i = true) (cls : (s.half h).evacClass i ≠ 4) :
    CompletesAt (.comparatorDisagree h i) h s fun x => x.bit Adr.ALM_EVENT 4 = true ∧ x.bit Adr.ALM_FAULT 31 = true ∧
      x.get Adr.ALM_FAULT 0 16 = 2 ∧ OnlyRegs [Adr.ALM_EVENT, Adr.ALM_FAULT] (s.half h) x := by
  have cond : ((s.half h).evacRuns i && (s.half h).evacClass i != 4) = true := by simp [runs, cls]
  refine completesAt_on rfl ?_
  simp only [cond, if_true]
  exact ⟨(Half.bit_latch_ne _ _ _ _ _ (by decide)).trans (Half.bit_putBit_self _ _ _ _ (by decide)), Half.bit_latch_valid _ _ _,
    Half.get_latch_cause _ _ _,
    (((Writes.refl _ _).event 4 (by simp)).latch 2 (by simp)).onlyRegs⟩

/-- An input shown with a class of its line, with the event of its wiring. -/
def Half.showClass (x : Half) (i cls : Nat) : Half :=
  if (decide (2 ≤ x.evacClass i) || decide (2 ≤ cls)) = true then (x.put (Adr.ALM_EVAC_STATUS i) 0 3 cls).event Adr.ALM_EVENT 3
  else x.put (Adr.ALM_EVAC_STATUS i) 0 3 cls

theorem Half.showClass_shows (x : Half) (i : Nat) {cls : Nat} (hc : cls < 8) :
    (x.showClass i cls).evacClass i = cls ∧
      (2 ≤ cls ∨ 2 ≤ x.evacClass i → (x.showClass i cls).bit Adr.ALM_EVENT 3 = true) ∧
      Writes (· ∈ [Adr.ALM_EVAC_STATUS i, Adr.ALM_EVENT]) x (x.showClass i cls) := by
  have put : (x.put (Adr.ALM_EVAC_STATUS i) 0 3 cls).evacClass i = cls := by
    rw [Half.evacClass, Half.get_put_self _ _ _ _ _ (by decide)]
    exact Nat.mod_eq_of_lt hc
  have writes : Writes (· ∈ [Adr.ALM_EVAC_STATUS i, Adr.ALM_EVENT]) x (x.put (Adr.ALM_EVAC_STATUS i) 0 3 cls) :=
    (Writes.refl _ x).put 0 3 cls (by simp)
  unfold Half.showClass
  split
  · refine ⟨(Half.get_congr (Half.rd_event_ne _ _ (evacStatus_ne i).2) 0 3).trans put,
      fun _ => Half.bit_putBit_self _ _ _ _ (by decide), writes.event 3 (by simp)⟩
  · rename_i calm
    simp only [Bool.or_eq_true, decide_eq_true_eq, not_or] at calm
    exact ⟨put, fun wiring => by omega, writes⟩

/-- The class kept as the last, and the wiring episode that begins or ends with it. -/
def Half.noteClass (x y : Half) (i cls ofs : Nat) : Half :=
  let last := (x.alarm.lastClass.find? fun c => c.1 == i).map (·.2)
  let z := y.onAlarm fun a => { a with lastClass := insertAt i cls a.lastClass }
  if (cls = 2 ∨ cls = 3) ∧ (last = some 0 ∨ last = some 1) ∧ !x.alarm.episode.contains i then
    (z.onAlarm fun a => { a with episode := i :: a.episode }).trigger (8 + i) ofs
  else if (cls = 0 ∨ cls = 1) ∧ x.alarm.episode.contains i then
    (z.onAlarm fun a => { a with episode := a.episode.filter (· != i) }).untrigger (8 + i) ofs
  else z

theorem Half.noteClass_keeps (x y : Half) {i : Nat} (cls ofs : Nat) :
    Alarms (· ∈ logRegs) y (x.noteClass y i cls ofs) ∧ KeepsEvents y (x.noteClass y i cls ofs) := by
  have start : ∀ f, Alarms (· ∈ logRegs) y (y.onAlarm f) := (Alarms.of_logged (.of_writes (.refl _ y))).onAlarm
  unfold Half.noteClass
  simp only
  generalize hz : y.onAlarm _ = z
  have base : Alarms (· ∈ logRegs) y z := hz ▸ start _
  have events : ∀ b, z.bit Adr.ALM_EVENT b = y.bit Adr.ALM_EVENT b := fun b => by rw [← hz]; rfl
  split
  · exact ⟨(base.onAlarm _).trans (Half.trigger_alarms _ _ _), fun b h0 h1 => ((Half.trigger_events _ _ _) b h0 h1).trans (events b)⟩
  · split
    · exact ⟨(base.onAlarm _).trans ((Half.untrigger_alarms _ _ _).mono fun a ha => ha.elim),
        fun b h0 h1 => ((Half.untrigger_events _ _ _) b h0 h1).trans (events b)⟩
    · exact ⟨base, fun b _ _ => events b⟩

theorem Half.takeClass_eq {x : Half} {i cls : Nat} (known : cls ≠ 4) (changed : x.evacClass i ≠ cls) (ofs : Nat) :
    x.takeClass i cls ofs =
      if cls = 1 then (x.noteClass (x.showClass i cls) i cls ofs).setEvacActive i true ofs else x.noteClass (x.showClass i cls) i cls ofs := by
  unfold Half.takeClass
  simp only
  rw [if_neg changed, if_neg known]
  rfl

/-- A class of the line taken: shown, then what begins or ends with it. -/
theorem Half.takeClass_shows {x : Half} {i cls : Nat} (hi : i < 8) (hc : cls < 4) (changed : x.evacClass i ≠ cls) (ofs : Nat) :
    ∃ y, x.takeClass i cls ofs = (if cls = 1 then y.setEvacActive i true ofs else y) ∧ y.evacClass i = cls ∧
      (2 ≤ cls ∨ 2 ≤ x.evacClass i → y.bit Adr.ALM_EVENT 3 = true) ∧ Alarms (· ∈ evacRegs i) x y := by
  obtain ⟨shown, event, writes⟩ := x.showClass_shows i (cls := cls) (by omega)
  obtain ⟨moves, events⟩ := x.noteClass_keeps (x.showClass i cls) (i := i) cls ofs
  have start : Alarms (· ∈ evacRegs i) x (x.showClass i cls) :=
    .of_logged (.of_writes (writes.mono fun a ha => by simp [evacRegs] at ha ⊢; tauto))
  exact ⟨_, Half.takeClass_eq (by omega) changed ofs, (moves.get (evacStatus_notMem_logRegs hi) 0 3).trans shown,
    fun wiring => (events 3 (by decide) (by decide)).trans (event wiring), start.trans (moves.mono fun a ha => logRegs_in_evacRegs ha)⟩

theorem evacDebounceExpiry_takes (ofs : BlockOfs) {cls : Nat} (runs : (s.half h).evacRuns i = true) (reads : (s.half h).evacReads i = cls)
    (known : cls ≠ 4) (changed : (s.half h).evacClass i ≠ cls) :
    CompletesAt (.evacDebounceExpiry h i ofs) h s fun x => x.evacClass i = cls ∧
      (2 ≤ cls ∨ 2 ≤ (s.half h).evacClass i → x.bit Adr.ALM_EVENT 3 = true) ∧ (cls = 1 → x.evacActive i = true) ∧
      SameRegs [Adr.ALM_EVAC_STATUS i, Adr.ALM_STATUS, Adr.ALM_EVENT, Adr.QM_DROP_CNT 9] (s.half h) x := by
  have cond : ((s.half h).evacRuns i && (s.half h).evacReads i != 4) = true := by simp [runs, reads, known]
  refine completesAt_on rfl ?_
  rw [if_pos cond, reads]
  have four : cls ≤ 4 := reads ▸ (s.half h).evacReads_le i
  generalize s.half h = x at *
  obtain ⟨y, taken, shown, event, moves⟩ := Half.takeClass_shows i.isLt (show cls < 4 by omega) changed ofs
  rw [taken]
  split
  case isFalse other => exact ⟨shown, event, fun one => absurd one other, moves.keeps⟩
  case isTrue one =>
    cases active : y.evacActive i with
    | true =>
      rw [Half.setEvacActive, if_pos active]
      exact ⟨shown, event, fun _ => active, moves.keeps⟩
    | false =>
      obtain ⟨on, kept, -, -, -, moves'⟩ := Half.setEvacActive_shows i.isLt active ofs
      refine ⟨kept.trans shown, fun wiring => ?_, fun _ => on, (moves.trans moves').keeps⟩
      rw [Half.setEvacActive_on active, (y.showEvac i true).trigger_events i ofs 3 (by decide) (by decide), Half.showEvac,
        Half.event, Half.putBit_eq, Half.bit_put_field _ _ _ _ _ _ (by decide) (by decide), Half.bit_putBit_ne _ _ _ _ (by decide),
        Half.bit_putBit_ne _ _ _ _ (evacStatus_ne i).2.symm]
      exact event wiring

end evacCommands

/-- Settles O34: a judged frame goes through `Half.authenticate` with its checks given; an input's change of class or state is a
write of its registers followed by a trigger or its end, which move only the log's registers and the alarm path's working state. -/
theorem alarmFramesAndEvacInputs : Obligations.AlarmFramesAndEvacInputs := by
  refine ⟨fun h ofs s => ⟨fun f rest d waits port udp => ⟨fun c hc => ⟨alarmFrame_unknown ofs waits port udp hc, fun i known source level checked =>
    ⟨alarmFrame_accepted waits udp hc known source level checked, alarmFrame_held waits udp hc known source level checked⟩⟩,
    authQueueTimeout_refuses waits port udp⟩, completesAt_on rfl ⟨rfl, rfl⟩⟩,
    fun h i ofs s runs => ⟨fun cls => evacDebounceExpiry_takes ofs runs, comparatorInWindow_activates ofs runs,
      evacReleaseExpiry_ends ofs runs, comparatorDisagree_faults runs⟩⟩

end Sys2Proof.Machine
end

section
/-! Requests to a fabric at rest: a write of a plain or a paired register is the action of the register (R53 to R68). O29. -/

namespace Sys2Proof.Machine

open Sys2Proof

/-- What decides how a word takes a write. -/
structure Kind where
  attr : Attr
  hook : Hook
  cls : Cls
  wide : Wide
  i : Nat
  j : Nat
  mask : Nat
  deriving DecidableEq

/-- The kind of the word at a place. -/
def Loc.kind (l : Loc) : Kind := ⟨l.reg.attr, l.reg.hook, l.reg.cls, l.wideAs, l.i, l.j, l.mask⟩

/-- The kind of the word at an address. -/
def kindAt (a : Nat) : Option Kind := (locate a).map Loc.kind

theorem locate_of_kindAt {a : Nat} {k : Kind} (h : kindAt a = some k) : ∃ l, locate a = some l ∧ l.kind = k := by
  simpa [kindAt] using h

/-- A paired slot: a VALUE word followed by its CONFIRM (R67). -/
def PairedAt (slot : Nat) (k : Kind) : Prop :=
  ∃ l, locate slot = some l ∧ locate (slot + 4) = some { l with confirm := true } ∧ l.confirm = false ∧ l.kind = k

theorem State.still_of_on {s : State} {h : HalfId} {f : Half → Half} (hs : s.still) (hf : (f (s.half h)).acc.still) : (s.on h f).still := by
  rw [State.still_iff] at hs ⊢
  intro k
  obtain rfl | rfl : k = h ∨ k = h.other := by cases k <;> cases h <;> decide
  · rw [State.on_half]; exact hf
  · rw [State.on_other]; exact hs _

/-- From x to y: the state of the fabric's ports only. -/
structure AccOnly (x y : Half) : Prop where
  same : y = { x with acc := y.acc }

namespace AccOnly
variable {x y : Half}

theorem complete (x : Half) (q : Req) (r : Resp) : AccOnly x (x.complete q r) := ⟨Half.complete_eq x q r⟩
theorem held (h : AccOnly x y) : y.held = x.held := by rw [h.same]
theorem boot (h : AccOnly x y) : y.boot = x.boot := by rw [h.same]
theorem out (h : AccOnly x y) : y.out = x.out := by rw [h.same]
theorem graph (h : AccOnly x y) : y.graph = x.graph := by rw [h.same]
theorem queues (h : AccOnly x y) : y.queues = x.queues := by rw [h.same]
theorem regs (h : AccOnly x y) : y.regs = x.regs := by rw [h.same]
theorem rd (h : AccOnly x y) (a : Nat) : y.rd a = x.rd a := by rw [h.same]; rfl
theorem get (h : AccOnly x y) (a lo n : Nat) : y.get a lo n = x.get a lo n := Half.get_congr (h.rd a) lo n
theorem bit (h : AccOnly x y) (a b : Nat) : y.bit a b = x.bit a b := Half.bit_congr (h.rd a) b
theorem sameRegs (h : AccOnly x y) (as : List Nat) : SameRegs as x y := fun a _ => h.rd a

end AccOnly

/-- A request that comes to a change of its own half and its completion. -/
theorem accepted_of_ack {c : Instr} {h : HalfId} {q : Req} {s : State} {f : Half → Half} {P : Half → Prop}
    (run : exec c s = .next (ack (s.on h f) h q)) (shows_ : ∀ x, AccOnly (f (s.half h)) x → P x) : Accepted c h q s P := by
  have shared := (State.shared_ext ((State.on_shared _ h _).trans (State.on_shared s h f)) :
    (ack (s.on h f) h q).pending = s.pending ∧ (ack (s.on h f) h q).wiredFault = s.wiredFault)
  have own : (ack (s.on h f) h q).half h = (f (s.half h)).complete q ⟨0, true⟩ := by rw [ack, State.on_half, State.on_half]
  refine ⟨_, run, ?_, own ▸ shows_ _ (.complete _ q _), ?_, shared.2, shared.1⟩
  · rw [own, Half.complete_resp]
  · rw [ack, State.on_other, State.on_other]

theorem Accepted.imp {c : Instr} {h : HalfId} {q : Req} {s : State} {P Q : Half → Prop} (a : Accepted c h q s P) (pq : ∀ x, P x → Q x) :
    Accepted c h q s Q := by
  obtain ⟨t, run, ok, hp, rest⟩ := a
  exact ⟨t, run, ok, pq _ hp, rest⟩

/-- A write of a plain register (R53), by what it does to the package. -/
theorem accepted_write_of {c : Instr} {h : HalfId} {q : Req} {s : State} {a : Nat} {v : Word} {k : Kind} {f : Half → Half} {P : Half → Prop}
    (run : exec c s = .next (s.write h q a v)) (g : Grants s h q a) (al : a % 4 = 0) (lt : a < 0x8000000) (at_ : kindAt a = some k)
    (attr : k.attr = .rw ∨ k.attr = .wo) (single : k.wide = .single)
    (act : ∀ l, locate a = some l → l.kind = k → s.putReg h q l a (l.masked v) = s.on h f) (still : (f (s.half h)).acc.still)
    (shows_ : ∀ x, AccOnly (f (s.half h)) x → P x) : Accepted c h q s P := by
  obtain ⟨l, hl, hk⟩ := locate_of_kindAt at_
  have acts := act l hl hk
  subst hk
  have quiet : (s.putReg h q l a (l.masked v)).still := by
    rw [acts]
    exact State.still_of_on (State.rest_still g.asks.rest) still
  refine accepted_of_ack (run.trans (congrArg _ ?_)) shows_
  rw [State.write_rest g al lt hl attr single quiet, acts]

/-- A paired write (R67), by what its slot does to the package. -/
theorem accepted_pairWrite_of {c : Instr} {h : HalfId} {q : Req} {s : State} {slot : Nat} {v : Word} {k : Kind} {f : Half → Half}
    {P : Half → Prop} (run : exec c s = .next (s.pairWrite h q slot v)) (g : Grants s h q slot) (al : slot % 4 = 0)
    (lt : slot + 4 < 0x8000000) (at_ : PairedAt slot k) (attr : k.attr = .pw)
    (act : ∀ l, l.kind = k → ∀ t : State, t.putReg h q l slot (l.masked v) = t.on h f) (still : ∀ y, AccOnly (s.half h) y → y.acc.still → (f y).acc.still)
    (shows_ : ∀ y x, AccOnly (s.half h) y → AccOnly (f y) x → P x) : Accepted c h q s P := by
  obtain ⟨l, hl, hl4, value, hk⟩ := at_
  have acts := act l hk (ack s h q)
  subst hk
  have rest := ack_rest (q := q) (h := h) g.asks.rest
  have half : AccOnly (s.half h) ((ack s h q).half h) := by rw [ack, State.on_half]; exact .complete _ q _
  have quiet : ((ack s h q).putReg h q l slot (l.masked v)).still := by
    rw [acts]
    exact State.still_of_on (State.rest_still rest) (still _ half (State.rest_half rest h).still)
  refine accepted_of_ack (f := fun x => f (x.complete q ⟨0, true⟩)) (run.trans (congrArg _ ?_)) (shows_ _ · (.complete _ q _))
  rw [State.pairWrite_rest g al lt hl hl4 attr value quiet, acts]
  exact congrArg (fun t => ack t h q) (State.on_on s h _ f)

/-- The hooks whose writes move more than their half. -/
def Hook.ofPackage (k : Hook) : Bool := k == .killCtrl || k == .resetCtrl || k == .roleCtrl || k == .bulkCtrl || k == .refCfg || k == .ptpCfg

/-- A register whose writes move its half only. -/
theorem State.putReg_own {l : Loc} (own : l.reg.hook.ofPackage = false) (s : State) (h : HalfId) (q : Req) (a : Nat) (v : Word) :
    s.putReg h q l a v = s.on h fun x => x.putReg q l a v := by
  unfold State.putReg
  simp only
  split
  next e => exact absurd own (by rw [e]; decide)
  next e => exact absurd own (by rw [e]; decide)
  next e => exact absurd own (by rw [e]; decide)
  next e => exact absurd own (by rw [e]; decide)
  next e => exact absurd own (by rw [e]; decide)
  next e => exact absurd own (by rw [e]; decide)
  next => rfl

/-- A register that acts at once on its half. -/
theorem State.putReg_imm {l : Loc} (own : l.reg.hook.ofPackage = false) (imm : l.reg.cls = .imm) (s : State) (h : HalfId) (q : Req)
    (a : Nat) (v : Word) : s.putReg h q l a v = s.on h fun x => (x.actEarly q l a v).getD (x.actLate q l a v) := by
  rw [State.putReg_own own]
  refine congrArg (s.on h) (funext fun x => ?_)
  unfold Half.putReg
  rw [imm]
  simp only
  cases x.actEarly q l a v <;> rfl

/-- What a register of a kind does when it takes a value, at its half: f, of the value. -/
def Kind.Does (k : Kind) (q : Req) (a : Nat) (f : Half → Word → Half) : Prop :=
  ∀ l : Loc, l.reg.hook = k.hook → l.i = k.i → l.j = k.j → ∀ x v, (x.actEarly q l a v).getD (x.actLate q l a v) = f x v

/-- The word takes a plain write that acts at once, on its half only. -/
def Kind.plain (k : Kind) : Bool := (k.attr == .rw || k.attr == .wo) && k.wide == .single && k.cls == .imm && !k.hook.ofPackage

/-- The word takes a paired write that acts at once, on its half only. -/
def Kind.paired (k : Kind) : Bool := k.attr == .pw && k.cls == .imm && !k.hook.ofPackage

theorem State.putReg_of_kind {l : Loc} {k : Kind} (hl : l.kind = k) (own : k.hook.ofPackage = false) (imm : k.cls = .imm) {q : Req} {a : Nat}
    {f : Half → Word → Half} (does : k.Does q a f) {v w : Word} (masked : BitVec.ofNat 32 (v.toNat &&& k.mask) = w) (t : State) (h : HalfId) :
    t.putReg h q l a (l.masked v) = t.on h fun x => f x w := by
  subst hl
  rw [State.putReg_imm own imm, Loc.masked, show BitVec.ofNat 32 (v.toNat &&& l.mask) = w from masked]
  exact congrArg (t.on h) (funext fun x => does l rfl rfl rfl x w)

/-- A write of a plain register (R53): its action on the value's implemented bits w, which leaves y. -/
theorem accepted_write {c : Instr} {h : HalfId} {q : Req} {s : State} {a : Nat} {v w : Word} {k : Kind} {f : Half → Word → Half} {y : Half}
    {P : Half → Prop} (run : exec c s = .next (s.write h q a v)) (g : Grants s h q a) (al : a % 4 = 0) (lt : a < 0x8000000)
    (at_ : kindAt a = some k) (plain : k.plain = true) (does : k.Does q a f) (masked : BitVec.ofNat 32 (v.toNat &&& k.mask) = w)
    (value : f (s.half h) w = y) (still : (s.half h).acc.still → y.acc.still) (shows_ : ∀ x, AccOnly y x → P x) : Accepted c h q s P := by
  subst value
  simp only [Kind.plain, Bool.and_eq_true, Bool.or_eq_true, beq_iff_eq, Bool.not_eq_true'] at plain
  obtain ⟨⟨⟨attr, single⟩, imm⟩, own⟩ := plain
  exact accepted_write_of (f := fun x => f x w) run g al lt at_ attr single
    (fun l _ hl => State.putReg_of_kind hl own imm does masked s h) (still (State.rest_half g.asks.rest h).still) shows_

/-- A paired write (R67): the action e of its slot on the value's implemented bits w. -/
theorem accepted_pairWrite {c : Instr} {h : HalfId} {q : Req} {s : State} {slot : Nat} {v w : Word} {k : Kind} {f : Half → Word → Half}
    {e : Half → Half} {P : Half → Prop} (run : exec c s = .next (s.pairWrite h q slot v)) (g : Grants s h q slot) (al : slot % 4 = 0)
    (lt : slot + 4 < 0x8000000) (at_ : PairedAt slot k) (paired : k.paired = true) (does : k.Does q slot f)
    (masked : BitVec.ofNat 32 (v.toNat &&& k.mask) = w) (value : ∀ y, AccOnly (s.half h) y → f y w = e y)
    (still : ∀ y, AccOnly (s.half h) y → y.acc.still → (e y).acc.still) (shows_ : ∀ y x, AccOnly (s.half h) y → AccOnly (e y) x → P x) : Accepted c h q s P := by
  simp only [Kind.paired, Bool.and_eq_true, beq_iff_eq, Bool.not_eq_true'] at paired
  obtain ⟨⟨attr, imm⟩, own⟩ := paired
  exact accepted_pairWrite_of (f := fun x => f x w) run g al lt at_ attr (fun l hl t => State.putReg_of_kind hl own imm does masked t h)
    (fun y hy => value y hy ▸ still y hy) fun y x hy hx => shows_ y x hy (value y hy ▸ hx)

theorem masked_full (v : Word) : BitVec.ofNat 32 (v.toNat &&& 0xFFFFFFFF) = v := by
  rw [show (0xFFFFFFFF : Nat) = 2 ^ 32 - 1 from rfl, Nat.and_two_pow_sub_one_eq_mod, Nat.mod_eq_of_lt v.isLt, BitVec.ofNat_toNat,
    BitVec.setWidth_eq]

theorem masked_and (v : Word) (m : Nat) : BitVec.ofNat 32 (v.toNat &&& m) = v &&& BitVec.ofNat 32 m := by
  rw [BitVec.ofNat_and, BitVec.ofNat_toNat, BitVec.setWidth_eq]

/-- A field that is implemented keeps what is written. -/
theorem getBits_masked (v : Word) {m lo n : Nat} (field : lo + n ≤ 32) (impl : ∀ i < n, m.testBit (lo + i) = true) :
    getBits (BitVec.ofNat 32 (v.toNat &&& m)) lo n = getBits v lo n := by
  unfold getBits
  apply Nat.eq_of_testBit_eq
  intro i
  rw [Nat.testBit_mod_two_pow, Nat.testBit_mod_two_pow, Nat.testBit_div_two_pow, Nat.testBit_div_two_pow, BitVec.toNat_ofNat,
    Nat.testBit_mod_two_pow, Nat.testBit_and]
  by_cases hi : i < n
  · rw [Nat.add_comm i lo, impl i hi, decide_eq_true hi, decide_eq_true (show lo + i < 32 by omega), Bool.and_true, Bool.true_and]
  · rw [decide_eq_false hi, Bool.false_and, Bool.false_and]

theorem bitAt_masked (v : Word) {m b : Nat} (low : b < 32) (impl : m.testBit b = true) :
    bitAt (BitVec.ofNat 32 (v.toNat &&& m)) b = bitAt v b := by
  unfold bitAt
  rw [BitVec.toNat_ofNat, Nat.testBit_mod_two_pow, Nat.testBit_and, impl, decide_eq_true low, Bool.and_true, Bool.true_and]

/-- The region of a word that takes a write answers. -/
theorem Half.up_of_takes {x : Half} {a : Nat} (takes : x.takes a = true) {r : Region} (at_ : (locate a).map (fun l => l.region) = some r) :
    x.up r = true := by
  obtain ⟨l, hl, hr⟩ : ∃ l, locate a = some l ∧ l.region = r := by simpa using at_
  simp only [Half.takes, hl, Bool.and_eq_true] at takes
  exact hr ▸ takes.1

/-! Writes of the Timing region. -/

theorem kindAt_mpllOpen : PairedAt Adr.TIM_MPLL_OPEN ⟨.pw, .mpllOpen, .imm, .single, 0, 0, 1⟩ := ⟨_, rfl, rfl, rfl, by decide⟩
theorem kindAt_swFreq : PairedAt Adr.TIM_SW_FREQ ⟨.pw, .swFreq, .imm, .single, 0, 0, 0xFFFFFFFF⟩ := ⟨_, rfl, rfl, rfl, by decide⟩
theorem kindAt_ptpCfg (p : PortId) : kindAt (Adr.TIM_PTP_CFG p) = some ⟨.rw, .ptpCfg, .imm, .single, 0, p, 0xFFFEFFFF⟩ := by
  revert p; decide

theorem kindAt_swrefPhase : kindAt Adr.TIM_SWREF_PHASE = some ⟨.wo, .swrefPhase, .imm, .single, 0, 0, 0xFFFFFFFF⟩ := by decide

theorem Half.rdS_wrS_clampFreq (x : Half) (a : Nat) (v : Int) : (x.wrS a (clampFreq v)).rdS a = clampFreq v := by
  rw [Half.rdS_wrS_self]
  unfold satSigned clampFreq clampInt
  omega

/-- From x to y an evaluation of reference i: its own state and the events; the fabric's ports are as they were. -/
def RefMoves (i : Nat) (x y : Half) : Prop := SameRegs [Adr.TIM_REF_STATUS i, Adr.TIM_EVENT] x y ∧ y.acc = x.acc

theorem Half.refEval_moves (x : Half) (second : Bool) {i : Nat} (hi : i ≠ 6) : RefMoves i x (x.refEval second i) := by
  have of_writes : ∀ {y}, Writes (· ∈ [Adr.TIM_REF_STATUS i, Adr.TIM_EVENT]) x y → RefMoves i x y := fun h =>
    ⟨h.sameRegs, by rw [h.same]⟩
  have same : RefMoves i x x := of_writes (.refl _ x)
  have set : ∀ v, RefMoves i x (x.setRef i v) := fun v => of_writes (x.setRef_writes i v)
  have failed : ∀ c, RefMoves i x (x.refFailed i c) := fun c => by
    unfold Half.refFailed
    simp only
    split
    · exact of_writes (((x.setRef_writes i 4).put 4 4 c (by simp)).event 6 (by simp))
    · exact of_writes ((x.setRef_writes i 4).put 4 4 c (by simp))
  unfold Half.refEval Half.refReturns
  rw [if_neg hi]
  split
  · exact set 0
  · split
    · exact set 1
    · split
      · split
        · exact same
        · split
          · exact same
          · split
            · exact set _
            · exact same
      · exact set _
    · exact same
    · exact failed _
    · exact same

theorem Half.setMpll_acc (x : Half) (v : Nat) : (x.setMpll v).acc = x.acc := by
  unfold Half.setMpll
  simp only
  repeat' split
  all_goals rfl

theorem mpllOpen_does (q : Req) (a i j mask : Nat) :
    (Kind.mk .pw .mpllOpen .imm .single i j mask).Does q a fun x v => x.writeMpllOpen (bitAt v 0) := fun l hook _ _ x v => by
  simp only [Half.actEarly, hook]
  rfl

theorem Half.writeMpllOpen_on {x : Half} (st : x.get Adr.TIM_MPLL_STATUS 0 3 ≠ 6) (st' : x.get Adr.TIM_MPLL_STATUS 0 3 ≠ 7) :
    x.writeMpllOpen true = (((x.putBit Adr.TIM_MPLL_OPEN 0 true).setMpll 6).wrS Adr.TIM_MPLL_FREQ (clampFreq (x.rdS Adr.TIM_SW_FREQ))).onTim
      fun t => { t with step := none, timed := x.bit Adr.TIM_STATUS 2 } := by
  unfold Half.writeMpllOpen
  simp only [if_true]
  rw [if_neg (by omega)]

theorem Half.writeMpllOpen_off {x : Half} (st : x.get Adr.TIM_MPLL_STATUS 0 3 = 6) (none_ : x.selected = 6) (unlocked : x.tim.lockHeld = false) :
    x.writeMpllOpen false = ((x.putBit Adr.TIM_MPLL_OPEN 0 false).wrNat Adr.TIM_MPLL_FREQ 0).setMpll 0 := by
  have sel : (x.putBit Adr.TIM_MPLL_OPEN 0 false).selected = 6 := (Half.get_congr (Half.rd_putBit_ne _ _ _ (by decide)) 4 3).trans none_
  unfold Half.writeMpllOpen
  simp only
  rw [if_neg Bool.false_ne_true, if_neg (by omega), if_pos sel, Half.freeRun, if_neg (by simp [unlocked])]

section timingWrites
variable {h : HalfId} {q : Req} {s : State}

theorem loopOpen_opens (g : Grants s h q Adr.TIM_MPLL_OPEN) (st : (s.half h).get Adr.TIM_MPLL_STATUS 0 3 ≠ 6)
    (st' : (s.half h).get Adr.TIM_MPLL_STATUS 0 3 ≠ 7) :
    Accepted (.loopOpen h q) h q s fun x => x.bit Adr.TIM_MPLL_OPEN 0 = true ∧ x.get Adr.TIM_MPLL_STATUS 0 3 = 6 ∧
      x.rdS Adr.TIM_MPLL_FREQ = clampFreq ((s.half h).rdS Adr.TIM_SW_FREQ) ∧ x.tim.step = none := by
  refine accepted_pairWrite rfl g (by decide) (by decide) kindAt_mpllOpen rfl (mpllOpen_does q _ _ _ _) (w := 1) (by decide)
    (fun y hy => Half.writeMpllOpen_on (hy.get .. ▸ st) (hy.get .. ▸ st'))
    (fun y hy still => (y.putBit Adr.TIM_MPLL_OPEN 0 true).setMpll_acc 6 ▸ still) fun y x hy hx => ?_
  · obtain ⟨six, -, -, -, kept⟩ := Half.setMpll_moves (x := y.putBit Adr.TIM_MPLL_OPEN 0 true) (v := 6)
      (by rw [Half.get_congr (Half.rd_putBit_ne _ _ _ (by decide)), hy.get]; exact st) (by decide)
    refine ⟨?_, ?_, ?_, by rw [hx.same]; rfl⟩
    · rw [hx.bit, Half.onTim_bit, Half.bit_congr (Half.rd_wrS_ne _ _ (by decide)), kept.bit (by decide), Half.bit_putBit_self _ _ _ _ (by decide)]
    · rw [hx.get, Half.onTim_get, Half.get_congr (Half.rd_wrS_ne _ _ (by decide)), six]
    · rw [Half.rdS_congr (hx.rd _), Half.rdS_congr (Half.onTim_rd _ _ _), Half.rdS_wrS_clampFreq, Half.rdS_congr (hy.rd Adr.TIM_SW_FREQ)]

theorem loopClose_closes (g : Grants s h q Adr.TIM_MPLL_OPEN) (st : (s.half h).get Adr.TIM_MPLL_STATUS 0 3 = 6)
    (none_ : (s.half h).selected = 6) (unlocked : (s.half h).tim.lockHeld = false) :
    Accepted (.loopClose h q) h q s fun x => x.bit Adr.TIM_MPLL_OPEN 0 = false ∧ x.get Adr.TIM_MPLL_STATUS 0 3 = 0 ∧
      x.rd Adr.TIM_MPLL_FREQ = 0 := by
  refine accepted_pairWrite rfl g (by decide) (by decide) kindAt_mpllOpen rfl (mpllOpen_does q _ _ _ _) (w := 0) (by decide)
    (fun y hy => Half.writeMpllOpen_off (hy.get .. ▸ st) ((hy.get _ _ _).trans none_) (by rw [hy.same]; exact unlocked))
    (fun y hy still => ((y.putBit Adr.TIM_MPLL_OPEN 0 false).wrNat Adr.TIM_MPLL_FREQ 0).setMpll_acc 0 ▸ still) fun y x hy hx => ?_
  · obtain ⟨zero, -, -, -, kept⟩ := Half.setMpll_moves (x := (y.putBit Adr.TIM_MPLL_OPEN 0 false).wrNat Adr.TIM_MPLL_FREQ 0) (v := 0)
      (by rw [Half.get_congr (Half.rd_wrNat_ne _ _ (by decide)), Half.get_congr (Half.rd_putBit_ne _ _ _ (by decide)), hy.get, st]; decide)
      (by decide)
    refine ⟨?_, by rw [hx.get, zero], ?_⟩
    · rw [hx.bit, kept.bit (by decide), Half.bit_congr (Half.rd_wrNat_ne _ _ (by decide)), Half.bit_putBit_self _ _ _ _ (by decide)]
    · rw [hx.rd, kept _ (by decide), Half.rd_wrNat_self]
      rfl

theorem swFreq_does (q : Req) (a i j mask : Nat) : (Kind.mk .pw .swFreq .imm .single i j mask).Does q a Half.writeSwFreq :=
  fun l hook _ _ x v => by simp only [Half.actEarly, hook, Option.getD_some]

theorem swFreqSet_takes (g : Grants s h q Adr.TIM_SW_FREQ) (v : Word) :
    Accepted (.swFreqSet h q v) h q s fun x => x.rdS Adr.TIM_SW_FREQ = clampFreq (signed 32 v.toNat) ∧
      ((s.half h).get Adr.TIM_MPLL_STATUS 0 3 = 6 → x.rdS Adr.TIM_MPLL_FREQ = clampFreq (signed 32 v.toNat)) ∧
      ((s.half h).get Adr.TIM_MPLL_STATUS 0 3 ≠ 6 → SameRegs [Adr.TIM_SW_FREQ] (s.half h) x) := by
  refine accepted_pairWrite rfl g (by decide) (by decide) kindAt_swFreq rfl (swFreq_does q _ _ _ _) (masked_full v) (fun _ _ => rfl)
    (fun y hy still => ?_) fun y x hy hx => ?_
  · unfold Half.writeSwFreq
    simp only
    split <;> exact still
  · unfold Half.writeSwFreq at hx
    simp only [hy.get] at hx
    split at hx
    case isTrue open_ =>
      refine ⟨?_, fun _ => ?_, fun shut => absurd open_ shut⟩
      · rw [Half.rdS_congr (hx.rd _), Half.rdS_congr (Half.rd_wrS_ne _ _ (by decide)), Half.rdS_wrS_clampFreq]
      · rw [Half.rdS_congr (hx.rd _), Half.rdS_wrS_clampFreq]
    case isFalse shut =>
      refine ⟨?_, fun open_ => absurd open_ shut, fun _ a ha => ?_⟩
      · rw [Half.rdS_congr (hx.rd _), Half.rdS_wrS_clampFreq]
      · rw [hx.rd, Half.rd_wrS_ne _ _ (by simpa using ha), hy.rd]

theorem swrefPhase_does (q : Req) (a i j mask : Nat) : (Kind.mk .wo .swrefPhase .imm .single i j mask).Does q a Half.writeSwref :=
  fun l hook _ _ x v => by simp only [Half.actEarly, hook, Option.getD_some]

theorem swrefPhaseWrite_samples (g : Grants s h q Adr.TIM_SWREF_PHASE) (v : Word) (on : (s.half h).refState 7 ≠ 0)
    (off : (s.half h).selected ≠ 7) :
    Accepted (.swrefPhaseWrite h q v) h q s fun x => x.rdS (Adr.TIM_REF_PHASE 7) = satSigned 32 (signed 32 v.toNat / 256) := by
  have sample : (s.half h).writeSwref v = (((s.half h).wrS (Adr.TIM_REF_PHASE 7) (signed 32 v.toNat / 256)).onRef 7
      fun r => { r with lost := false }).refEval false 7 := by
    have other : (((s.half h).wrS (Adr.TIM_REF_PHASE 7) (signed 32 v.toNat / 256)).onRef 7 fun r => { r with lost := false }).selected ≠ 7 := by
      rw [Half.selected, Half.onRef_get, Half.get_congr (Half.rd_wrS_ne _ _ (by decide))]
      exact off
    rw [Half.writeSwref, if_neg on, Half.phaseSample, Half.loopWord]
    simp only
    rw [if_neg fun both => other both.1]
  refine accepted_write rfl g (by decide) (by decide) kindAt_swrefPhase rfl (swrefPhase_does q _ _ _ _) (masked_full v) sample
    (fun still => ?_) fun x hx => ?_
  · rw [(Half.refEval_moves _ _ (by decide)).2]
    exact still
  · rw [Half.rdS_congr (hx.rd _), Half.rdS_congr ((Half.refEval_moves _ _ (by decide)).1 _ (by decide)),
      Half.rdS_congr (Half.onRef_rd _ _ _ _), Half.rdS_wrS_self]

/-- The state that a written `PTP_CFG` starts its port in (R202). -/
def ptpStart (w : Word) : Nat := if !bitAt w 17 then 3 else if 4 < getBits w 20 4 then 2 else 1

/-- Half h with `PTP_CFG` of port p at w and the port started again. -/
def Half.restartPort (x : Half) (p : Nat) (w : Word) : Half := (x.wr (Adr.TIM_PTP_CFG p) w).setPtp p (ptpStart w) 0

theorem Half.writePtpCfg_restarts {x : Half} {p : Nat} {w : Word} (hp : p < 2) (off : x.bit (Adr.TIM_REF_CFG p) 0 = false)
    (state : x.refState p = 0) (masked : w &&& 0xFFFEFFFF#32 = w) (changed : x.rd (Adr.TIM_PTP_CFG p) ≠ w) :
    x.writePtpCfg p w = x.restartPort p w ∧ (∀ i, i < 8 → (x.restartPort p w).refState i = x.refState i) ∧
      (x.restartPort p w).rd (Adr.TIM_PTP_CFG p) = w ∧ (x.restartPort p w).get (Adr.TIM_PTP_STATUS p) 0 4 = ptpStart w ∧
      (x.restartPort p w).acc = x.acc := by
  have start : ptpStart w < 16 := by
    unfold ptpStart
    split
    · decide
    · split <;> decide
  have new : BitVec.ofNat 32 (w.toNat &&& 0xFFFEFFFF) = w := (masked_and w _).trans masked
  have apart : ∀ {a}, a < 0x20080 ∨ 0x200F0 ≤ a → (x.wr (Adr.TIM_PTP_CFG p) w).rd a = x.rd a := fun ha =>
    Half.rd_wr_ne _ _ (by simp only [Adr.TIM_PTP_CFG]; omega)
  obtain ⟨shown, -, -, -, kept⟩ := Half.setPtp_shows (x := x.wr (Adr.TIM_PTP_CFG p) w) (p := p) 0 start
  have off' : (x.wr (Adr.TIM_PTP_CFG p) w).bit (Adr.TIM_REF_CFG p) 0 = false :=
    (Half.bit_congr (apart (by simp only [Adr.TIM_REF_CFG]; omega)) 0).trans off
  have states : ∀ i, (x.wr (Adr.TIM_PTP_CFG p) w).refState i = x.refState i := fun i =>
    Half.refState_congr (apart (by simp only [Adr.TIM_REF_STATUS]; omega))
  obtain ⟨calm, same⟩ := Half.refEval_ptp hp off' ((states p).trans state) kept
  refine ⟨?_, fun i _ => (same i).trans (states i), ?_, shown, ?_⟩
  · have differs : (x.rd (Adr.TIM_PTP_CFG p) != w) = true := by simpa using changed
    unfold Half.writePtpCfg
    simp only [new, differs, if_true]
    exact calm
  · have other : Adr.TIM_PTP_CFG p ∉ [Adr.TIM_PTP_STATUS p, Adr.TIM_EVENT] := by
      simp only [List.mem_cons, List.not_mem_nil, or_false, Adr.TIM_PTP_CFG, Adr.TIM_PTP_STATUS, Adr.TIM_EVENT]
      omega
    rw [Half.restartPort, kept _ other, Half.rd_wr_self]
  · unfold Half.restartPort Half.setPtp
    split <;> rfl

theorem ptpCfg_region (p : PortId) : (locate (Adr.TIM_PTP_CFG p)).map (fun l => l.region) = some .timing := by revert p; decide

theorem ptpCfgWrite_restarts {p : PortId} {v : Word} (g : Grants s h q (Adr.TIM_PTP_CFG p)) (live : (s.half h).live = true)
    (state : (s.half h).refState p = 0) (off : (s.half h).bit (Adr.TIM_REF_CFG p) 0 = false)
    (changed : (s.half h).rd (Adr.TIM_PTP_CFG p) ≠ v &&& 0xFFFEFFFF#32) :
    Accepted (.ptpCfgWrite h q p v) h q s fun x => x.rd (Adr.TIM_PTP_CFG p) = v &&& 0xFFFEFFFF#32 ∧
      x.get (Adr.TIM_PTP_STATUS p) 0 4 = (if v.toNat.testBit 17 = false then 3 else if 4 < getBits v 20 4 then 2 else 1) := by
  have up := Half.up_of_takes g.takes (ptpCfg_region p)
  obtain ⟨writes, states, cfg, status, acc⟩ := Half.writePtpCfg_restarts p.isLt off state (by rw [BitVec.and_assoc, BitVec.and_self]) changed
  refine accepted_write_of (f := fun x => x.restartPort p (v &&& 0xFFFEFFFF#32)) rfl g (by simp only [Adr.TIM_PTP_CFG]; omega)
    (by simp only [Adr.TIM_PTP_CFG]; omega) (kindAt_ptpCfg p) (Or.inl rfl) rfl (fun l _ hl => ?_)
    (by rw [acc]; exact (State.rest_half g.asks.rest h).still) fun x hx => ⟨(hx.rd _).trans cfg, (hx.get _ _ _).trans (status.trans ?_)⟩
  · have hook : l.reg.hook = .ptpCfg := congrArg Kind.hook hl
    have imm : l.reg.cls = .imm := congrArg Kind.cls hl
    have mask : l.mask = 0xFFFEFFFF := congrArg Kind.mask hl
    have j : l.j = p.val := congrArg Kind.j hl
    have value : l.masked v = v &&& 0xFFFEFFFF#32 := by rw [Loc.masked, mask]; exact masked_and v _
    have act : ∀ x : Half, x.putReg q l (Adr.TIM_PTP_CFG p) (v &&& 0xFFFEFFFF#32) = x.writePtpCfg p (v &&& 0xFFFEFFFF#32) := fun x => by
      simp only [Half.putReg, imm, Half.actEarly, hook, j]
    have put : s.putReg h q l (Adr.TIM_PTP_CFG p) (l.masked v) = s.refChange h fun x => x.writePtpCfg p (v &&& 0xFFFEFFFF#32) := by
      simp only [State.putReg, hook, value, act]
    rw [put, State.refChange_calm live up fun i hi => by rw [writes]; exact states i hi]
    exact State.on_congr writes
  · have field := getBits_masked v (m := 0xFFFEFFFF) (lo := 20) (n := 4) (by decide) (by decide)
    have bit := bitAt_masked v (m := 0xFFFEFFFF) (b := 17) (by decide) (by decide)
    rw [masked_and] at field bit
    rw [ptpStart, field, bit, bitAt]
    cases v.toNat.testBit 17 <;> rfl

end timingWrites

/-- Settles O29: a paired or plain write is the action of its register; each action's registers are given case by case. -/
theorem timingWrites : Obligations.TimingWrites := fun _ _ _ =>
  ⟨loopOpen_opens, loopClose_closes, swFreqSet_takes, fun g v on off _ => swrefPhaseWrite_samples g v on off,
    fun _ _ => ptpCfgWrite_restarts⟩

end Sys2Proof.Machine
end

section
/-! O54: writes of the Network region. -/

namespace Sys2Proof.Machine

open Sys2Proof

/-- A running half whose port 0 idles in low power with a wake time of 1 µs and EEE enabled. -/
def idlingPort : State :=
  { State.reset with a := { (((Half.init .a).wr (Adr.MAC_CTRL 0) 0x23).wr (Adr.MAC_STATUS 0) 0x27).wr (Adr.MAC_EEE_TW 0) 1 with
    phase := .running, regions := [.up, .up, .up, .up, .up, .up, .up, .up] } }

theorem idlingPort_grants : Grants idlingPort .a .mgmt (Adr.MAC_EEE_TW 0) :=
  ⟨⟨by decide, by decide +kernel, ⟨⟨rfl, rfl, rfl, ⟨rfl, rfl, rfl⟩, ⟨rfl, rfl, rfl⟩, ⟨rfl, rfl, rfl⟩⟩,
    ⟨rfl, rfl, rfl, ⟨rfl, rfl, rfl⟩, ⟨rfl, rfl, rfl⟩, ⟨rfl, rfl, rfl⟩⟩⟩⟩, by decide +kernel⟩

theorem idlingPort_allowed : (idlingPort.half .a).macs.length = 2 ∧ (idlingPort.half .a).lpiAllowed 0 = true ∧
    (idlingPort.half .a).bit (Adr.MAC_STATUS 0) 5 = true := by decide +kernel

/-- A wake time of 0 takes the port out of low-power idle. -/
theorem idlingPort_wakes :
    (match exec (.eeeTwWrite .a .mgmt 0 0) idlingPort with | .next t => (t.half .a).bit (Adr.MAC_STATUS 0) 5 | _ => true) = false := by
  decide +kernel

/-- Refutes O54: the clause of `EEE_TW` asks whether low-power idle was allowed before the write; a wake time of 0 forbids it, and a
port that idles then leaves it, which shows in `MAC.STATUS` (R109, R110). -/
theorem not_networkWritesTakeEffect : ¬ Obligations.NetworkWritesTakeEffect := by
  intro holds
  obtain ⟨two, allowed, idle⟩ := idlingPort_allowed
  obtain ⟨-, -, wake, -⟩ := holds .a .mgmt 0 idlingPort two
  obtain ⟨t, ht, -, ⟨-, kept⟩, -⟩ := wake 0 idlingPort_grants
  have left := idlingPort_wakes
  rw [ht] at left
  have stays : (t.half .a).bit (Adr.MAC_STATUS 0) 5 = true := (SameRegs.bit (kept allowed) (by decide) 5).trans idle
  exact absurd (left.symm.trans stays) (by decide)

end Sys2Proof.Machine
end

section
/-! O56: writes of the graph and the alarms (R217, R223, R225, R270, R282). -/

namespace Sys2Proof.Machine

open Sys2Proof

theorem kindAt_grfCommit : kindAt Adr.GRF_COMMIT = some ⟨.wo, .grfCommit, .imm, .single, 0, 0, 1⟩ := by decide
theorem kindAt_levelCmd : kindAt Adr.GRF_LEVEL_CMD = some ⟨.wo, .levelCmd, .imm, .single, 0, 0, 0x800F00FF⟩ := by decide
theorem kindAt_keyLoad : PairedAt Adr.ALM_KEY_LOAD ⟨.pw, .keyLoad, .imm, .single, 0, 0, 0x80000007⟩ := ⟨_, rfl, rfl, rfl, by decide⟩
theorem kindAt_issuerCfg (i : Fin 16) : kindAt (Adr.ALM_ISSUER_CFG i) = some ⟨.rw, .issuerCfg, .imm, .single, 0, i, 0xC0FF000F⟩ := by
  revert i; decide

section graphWrites
variable {h : HalfId} {q : Req} {s : State}

theorem grfCommit_does (q : Req) (a i j mask : Nat) :
    (Kind.mk .wo .grfCommit .imm .single i j mask).Does q a fun x v => if bitAt v 0 then x.submitPlan else x := fun l hook _ _ x v => by
  simp only [Half.actEarly, Half.actLate, hook, Option.getD_none]

theorem planSubmit_accepted (g : Grants s h q Adr.GRF_COMMIT) {P : Half → Prop} {y : Half} (run : (s.half h).submitPlan = y)
    (acc : y.acc = (s.half h).acc) (shows_ : ∀ x, AccOnly y x → P x) : Accepted (.planSubmit h q) h q s P :=
  accepted_write rfl g (by decide) (by decide) kindAt_grfCommit rfl (grfCommit_does q _ _ _ _) (w := 1) (by decide) run
    (fun still => acc.symm ▸ still) shows_

theorem Half.showReject_shows (x : Half) {r : Reject} (small : r.reason < 256) (plain : r.kind = 0 ∧ r.detail = 0) :
    (x.showReject r).get Adr.GRF_COMMIT_STATUS 24 8 = r.reason ∧ (x.showReject r).bit Adr.GRF_EVENT 1 = true ∧
      Writes (· ∈ [Adr.GRF_COMMIT_STATUS, Adr.GRF_EVENT]) x (x.showReject r) := by
  refine ⟨?_, Half.bit_putBit_self _ _ _ _ (by decide), ((Writes.refl _ x).wrNat _ (by simp)).event 1 (by simp)⟩
  rw [Half.showReject, Half.get_congr (Half.rd_event_ne _ _ (by decide)), Half.get_wrNat, if_pos rfl, getBits_ofNat, plain.1, plain.2]
  omega

theorem planSubmit_rejected (g : Grants s h q Adr.GRF_COMMIT) {r : Nat} (small : r < 256)
    (run : (s.half h).submitPlan = (s.half h).showReject ⟨r, 0, 0⟩) :
    Accepted (.planSubmit h q) h q s fun x => x.get Adr.GRF_COMMIT_STATUS 24 8 = r ∧ x.bit Adr.GRF_EVENT 1 = true ∧
      SameRegs [Adr.GRF_COMMIT_STATUS, Adr.GRF_EVENT] (s.half h) x := by
  obtain ⟨reason, event, writes⟩ := (s.half h).showReject_shows (r := ⟨r, 0, 0⟩) small ⟨rfl, rfl⟩
  refine planSubmit_accepted g run (by rw [writes.same]) fun x hx => ?_
  exact ⟨(hx.get _ _ _).trans reason, (hx.bit _ _).trans event, fun a ha => (hx.rd a).trans (writes.keeps a ha)⟩

/-- A submission that starts validating with no handover under way. -/
theorem planSubmit_validates (g : Grants s h q Adr.GRF_COMMIT) (idle : (s.half h).commitState = 0) (may : (s.half h).acceptsM = true)
    (calm : (s.half h).sent.handover.target = none) :
    Accepted (.planSubmit h q) h q s fun x => x.get Adr.GRF_STATUS 0 3 = 1 ∧ x.rd Adr.GRF_COMMIT_STATUS = 0 ∧ x.graph.sub = none ∧
      SameRegs [Adr.GRF_STATUS, Adr.GRF_COMMIT_STATUS] (s.half h) x := by
  have stays : (s.half h).abandon true = s.half h := by
    unfold Half.abandon
    simp only [calm]
  have run : (s.half h).submitPlan = (((s.half h).put Adr.GRF_STATUS 0 3 1).wrNat Adr.GRF_COMMIT_STATUS 0).onGraph fun g =>
      { g with sub := none, recordOut := false, answer := none } := by
    rw [Half.submitPlan, if_neg (by omega), if_neg (by simp [may]), stays]
  refine planSubmit_accepted g run rfl fun x hx => ?_
  refine ⟨?_, ?_, by rw [hx.same]; rfl, fun a ha => ?_⟩
  · rw [hx.get, Half.onGraph_get, Half.get_congr (Half.rd_wrNat_ne _ _ (by decide)), Half.get_put_self _ _ _ _ _ (by decide)]
    rfl
  · rw [hx.rd, Half.onGraph_rd, Half.rd_wrNat_self]
    rfl
  · simp only [List.mem_cons, List.not_mem_nil, or_false, not_or] at ha
    rw [hx.rd, Half.onGraph_rd, Half.rd_wrNat_ne _ _ ha.2, Half.rd_put_ne _ _ _ _ ha.1]

theorem levelCmd_does (q : Req) (a i j mask : Nat) :
    (Kind.mk .wo .levelCmd .imm .single i j mask).Does q a fun x v => x.levelCmd (bitAt v 31) (getBits v 16 4) (getBits v 0 8) :=
  fun l hook _ _ x v => by simp only [Half.actEarly, Half.actLate, hook, Option.getD_none]

/-- The command of either direction for a level and a zone. -/
def levelCommand (h : HalfId) (q : Req) (on : Bool) (level : Fin 16) (zone : BitVec 8) : Instr :=
  if on then .levelCmdOn h q level zone else .levelCmdOff h q level zone

/-- The word of a level command. -/
def levelGo (on : Bool) (level : Fin 16) (zone : BitVec 8) : Word :=
  BitVec.ofNat 32 ((if on then 0x80000000 else 0) + 0x10000 * level + zone.toNat)

theorem levelGo_fields (on : Bool) (level : Fin 16) (zone : BitVec 8) :
    bitAt (levelGo on level zone) 31 = on ∧ getBits (levelGo on level zone) 16 4 = level.val ∧
      getBits (levelGo on level zone) 0 8 = zone.toNat := by
  have hz := zone.isLt
  have hl := level.isLt
  refine ⟨?_, ?_, ?_⟩
  · rw [bitAt, Nat.testBit_eq_decide_div_mod_eq, levelGo, BitVec.toNat_ofNat]
    cases on <;> simp <;> omega
  · rw [levelGo, getBits_ofNat]
    split <;> omega
  · rw [levelGo, getBits_ofNat]
    split <;> omega

theorem levelCommand_accepted (g : Grants s h q Adr.GRF_LEVEL_CMD) (on : Bool) (level : Fin 16) (zone : BitVec 8) {P : Half → Prop} {y : Half}
    (run : (s.half h).levelCmd on level zone.toNat = y) (acc : y.acc = (s.half h).acc) (shows_ : ∀ x, AccOnly y x → P x) :
    Accepted (levelCommand h q on level zone) h q s P := by
  obtain ⟨bit, lev, zon⟩ := levelGo_fields on level zone
  have writes : exec (levelCommand h q on level zone) s = .next (s.write h q Adr.GRF_LEVEL_CMD (levelGo on level zone)) := by
    cases on
    · show Host.Outcome.next _ = _
      rw [levelGo, if_neg Bool.false_ne_true, Nat.zero_add]
    · rfl
  refine accepted_write writes g (by decide) (by decide) kindAt_levelCmd rfl (levelCmd_does q _ _ _ _) rfl ?_ (fun still => acc.symm ▸ still) shows_
  rw [bitAt_masked _ (by decide) (by decide), getBits_masked _ (by decide) (by decide), getBits_masked _ (by decide) (by decide), bit, lev, zon]
  exact run

theorem levelCommand_controls (g : Grants s h q Adr.GRF_LEVEL_CMD) (on : Bool) {level : Fin 16} {zone : BitVec 8} {mode : Option Nat}
    (hm : ((((s.half h).plan false).zones.find? (fun y => y.1 == zone.toNat)).bind (fun y => ((s.half h).plan false).node y.2)).map
      (fun n => n.mode level) = mode) (low : level.val < 12) (three : mode = some 3) :
    Accepted (levelCommand h q on level zone) h q s fun x =>
      x.zone zone.toNat = ((s.half h).zone zone.toNat).setCtl level on none ∧ SameRegs [] (s.half h) x := by
  have run : (s.half h).levelCmd on level zone.toNat = (s.half h).onZone zone.toNat fun z => z.setCtl level on none := by
    unfold Half.levelCmd
    simp only [hm]
    rw [if_neg (by rw [three]; simp; omega)]
  refine levelCommand_accepted g on level zone run rfl fun x hx => ?_
  refine ⟨?_, fun a _ => hx.rd a⟩
  have zone_ := Half.zone_congr (x := (s.half h).onZone zone.toNat fun z => z.setCtl level on none) (y := x) (by rw [hx.same]) zone.toNat
  rw [zone_, Half.zone_onZone, if_pos rfl]

theorem levelCommand_refused (g : Grants s h q Adr.GRF_LEVEL_CMD) (on : Bool) {level : Fin 16} {zone : BitVec 8} {mode : Option Nat}
    (hm : ((((s.half h).plan false).zones.find? (fun y => y.1 == zone.toNat)).bind (fun y => ((s.half h).plan false).node y.2)).map
      (fun n => n.mode level) = mode) (no : 12 ≤ level.val ∨ mode ≠ some 3) :
    Accepted (levelCommand h q on level zone) h q s fun x =>
      x.bit Adr.GRF_EVENT 5 = true ∧ x.graph = (s.half h).graph ∧ SameRegs [Adr.GRF_EVENT] (s.half h) x := by
  have run : (s.half h).levelCmd on level zone.toNat = (s.half h).event Adr.GRF_EVENT 5 := by
    unfold Half.levelCmd
    simp only [hm]
    rw [if_pos no]
  refine levelCommand_accepted g on level zone run rfl fun x hx => ?_
  exact ⟨(hx.bit _ _).trans (Half.bit_putBit_self _ _ _ _ (by decide)), by rw [hx.same]; rfl,
    fun a ha => (hx.rd a).trans (Half.rd_event_ne _ _ (by simpa using ha))⟩

theorem issuerCfg_does (q : Req) (a i j mask : Nat) :
    (Kind.mk .rw .issuerCfg .imm .single i j mask).Does q a fun x v => x.writeIssuerCfg j v := fun l hook _ hj x v => by
  simp only [Half.actEarly, Half.actLate, hook, hj, Option.getD_none]

theorem Half.writeIssuerCfg_rd (x : Half) (i : Nat) (v : Word) (a : Nat) :
    (x.writeIssuerCfg i v).rd a = (x.wrNat (Adr.ALM_ISSUER_CFG i) (v.toNat &&& 0x80FF000F)).rd a := rfl

theorem issuerCfgWrite_forgets (i : Fin 16) (v : Word) (g : Grants s h q (Adr.ALM_ISSUER_CFG i)) :
    Accepted (.issuerCfgWrite h q i v) h q s fun x => x.rd (Adr.ALM_ISSUER_CFG i) = v &&& 0x80FF000F#32 ∧
      (∀ y, (i.val, y) ∉ x.alarm.lastHead) ∧ SameRegs [Adr.ALM_ISSUER_CFG i] (s.half h) x := by
  refine accepted_write rfl g (by simp only [Adr.ALM_ISSUER_CFG]; omega) (by simp only [Adr.ALM_ISSUER_CFG]; omega) (kindAt_issuerCfg i) rfl
    (issuerCfg_does q _ _ _ _) rfl rfl id fun x hx => ⟨?_, fun y hy => ?_, fun a ha => ?_⟩
  · have value : BitVec.ofNat 32 ((BitVec.ofNat 32 (v.toNat &&& 0xC0FF000F)).toNat &&& 0x80FF000F) = v &&& 0x80FF000F#32 := by
      rw [masked_and, masked_and, BitVec.and_assoc]
      rfl
    rw [hx.rd, Half.writeIssuerCfg_rd, Half.rd_wrNat_self]
    exact value
  · rw [hx.same] at hy
    have kept : (i.val, y) ∈ (s.half h).alarm.lastHead.filter fun x => x.1 != i.val := hy
    simp at kept
  · rw [hx.rd, Half.writeIssuerCfg_rd, Half.rd_wrNat_ne _ _ (by simpa using ha)]

theorem keyLoad_does (q : Req) (a i j mask : Nat) : (Kind.mk .pw .keyLoad .imm .single i j mask).Does q a Half.writeKeyLoad :=
  fun l hook _ _ x v => by simp only [Half.actEarly, Half.actLate, hook, Option.getD_none]

/-- A half with a key slot set and shown. -/
def Half.showKey (x : Half) (slot : Nat) (key : List Byte) (load : Bool) : Half :=
  ({ x with keys := setAt x.keys slot key } : Half).putBit Adr.ALM_KEY_STATUS slot load

/-- `KEY_DATA` cleared (R282). -/
def Half.clearKeyData (x : Half) : Half := x.each (List.range 8) fun y i => y.wr (Adr.ALM_KEY_DATA i) 0

/-- The key that `KEY_DATA` spells. -/
def Half.keyData (x : Half) : List Byte := ((List.range 8).map fun i => beBytes 4 (x.rd (Adr.ALM_KEY_DATA i)).toNat).flatten

/-- The word of a load or an erasure of a slot (R282). -/
def keyGo (load : Bool) (slot : Fin 8) : Word := BitVec.ofNat 32 ((if load then 0 else 0x80000000) + slot)

theorem keyGo_fields (load : Bool) (slot : Fin 8) : getBits (keyGo load slot) 0 3 = slot.val ∧ bitAt (keyGo load slot) 31 = (!load) ∧
    (keyGo load slot).toNat &&& 0x80000007 = (keyGo load slot).toNat := by revert load slot; decide

theorem Half.clearKeyData_writes (x : Half) : Writes (fun a => ∃ i, i < 8 ∧ a = Adr.ALM_KEY_DATA i) x x.clearKeyData :=
  x.each_wr_writes Adr.ALM_KEY_DATA (fun _ => 0) 8

theorem Half.writeKeyLoad_eq (x : Half) (load : Bool) (slot : Fin 8) :
    x.writeKeyLoad (keyGo load slot) =
      ((x.showKey slot (if load then x.keyData else []) load).clearKeyData).wrNat Adr.ALM_KEY_LOAD (keyGo load slot).toNat := by
  obtain ⟨number, erase, whole⟩ := keyGo_fields load slot
  unfold Half.writeKeyLoad
  simp only [number, erase, whole]
  cases load <;> rfl

theorem keyData_ne {i : Nat} (hi : i < 8) : Adr.ALM_KEY_DATA i ≠ Adr.ALM_KEY_LOAD ∧ Adr.ALM_KEY_DATA i ≠ Adr.ALM_KEY_STATUS := by
  simp only [Adr.ALM_KEY_DATA, Adr.ALM_KEY_LOAD, Adr.ALM_KEY_STATUS]
  omega

theorem keyCommand_loads (slot : Fin 8) (g : Grants s h q Adr.ALM_KEY_LOAD) (eight : (s.half h).keys.length = 8) (load : Bool) :
    Accepted (if load then .keyLoad h q slot else .keyErase h q slot) h q s fun x =>
      getAt x.keys slot [] = (if load then (s.half h).keyData else []) ∧ x.bit Adr.ALM_KEY_STATUS slot = load ∧
        (∀ i, i < 8 → x.rd (Adr.ALM_KEY_DATA i) = 0) ∧
        SameRegs ([Adr.ALM_KEY_LOAD, Adr.ALM_KEY_STATUS] ++ (List.range 8).map fun i => Adr.ALM_KEY_DATA i) (s.half h) x := by
  have writes : exec (if load then .keyLoad h q slot else .keyErase h q slot) s = .next (s.pairWrite h q Adr.ALM_KEY_LOAD (keyGo load slot)) := by
    cases load
    · rfl
    · show Host.Outcome.next _ = _
      rw [keyGo, if_pos rfl, Nat.zero_add]
  have masked : BitVec.ofNat 32 ((keyGo load slot).toNat &&& 0x80000007) = keyGo load slot := by
    rw [(keyGo_fields load slot).2.2, BitVec.ofNat_toNat, BitVec.setWidth_eq]
  refine accepted_pairWrite writes g (by decide) (by decide) kindAt_keyLoad rfl (keyLoad_does q _ _ _ _) masked
    (fun y _ => y.writeKeyLoad_eq load slot) (fun y _ still => ?_) fun y x hy hx => ?_
  · have cleared := (y.showKey slot (if load then y.keyData else []) load).clearKeyData_writes
    rw [Half.wrNat_acc, cleared.same]
    exact still
  · have data : y.keyData = (s.half h).keyData := by simp only [Half.keyData, hy.rd]
    rw [data] at hx
    generalize hz : y.showKey slot (if load then (s.half h).keyData else []) load = z at hx
    have cleared := z.clearKeyData_writes
    have keys : y.keys = (s.half h).keys := by rw [hy.same]
    refine ⟨?_, ?_, fun i hi => ?_, fun a ha => ?_⟩
    · have same : x.keys = z.keys := by rw [hx.same]; rw [Half.wrNat_keys, cleared.same]
      have set : z.keys = setAt (s.half h).keys slot (if load then (s.half h).keyData else []) := by rw [← hz, ← keys]; rfl
      rw [same, set, getAt_setAt _ _ _ (by rw [eight]; exact slot.isLt)]
    · rw [hx.bit, Half.bit_congr (Half.rd_wrNat_ne _ _ (by decide)),
        cleared.bit (by rintro ⟨i, hi, e⟩; exact (keyData_ne hi).2 e.symm), ← hz]
      exact Half.bit_putBit_self _ _ _ _ (by omega)
    · rw [hx.rd, Half.rd_wrNat_ne _ _ (keyData_ne hi).1]
      exact Half.each_wr_rd z (fun _ => 0) (fun i j e => by simpa using e) hi
    · simp only [List.mem_append, List.mem_cons, List.not_mem_nil, or_false, List.mem_map, List.mem_range, not_or, not_exists, not_and] at ha
      rw [hx.rd, Half.rd_wrNat_ne _ _ ha.1.1, cleared.keeps a (by rintro ⟨i, hi, e⟩; exact ha.2 i hi e.symm), ← hz]
      exact (Half.rd_putBit_ne _ _ _ ha.1.2).trans (hy.rd a)

end graphWrites

/-- Settles O56: each command is the action of its register, and each action's cases are given by the checks of its section. -/
theorem graphAndAlarmWritesTakeEffect : Obligations.GraphAndAlarmWritesTakeEffect := by
  intro h q s
  refine ⟨fun g => ⟨fun idle no => planSubmit_rejected g (by decide) (by rw [Half.submitPlan, if_neg (by omega), if_pos (by simp [no])]),
      planSubmit_validates g, fun busy => planSubmit_rejected g (by decide) (if_pos busy)⟩,
    fun level zone mode g hm => ⟨fun low three => ⟨?_, ?_⟩, fun no on => levelCommand_refused g on hm no⟩,
    issuerCfgWrite_forgets, fun slot g eight => keyCommand_loads slot g eight⟩
  · refine (levelCommand_controls g true hm low three).imp fun x hx => ⟨?_, hx.2⟩
    rw [hx.1]
    simp [ZoneSt.setCtl]
  · refine (levelCommand_controls g false hm low three).imp fun x hx => ⟨fun o => ?_, hx.2⟩
    rw [hx.1]
    simp [ZoneSt.setCtl]

end Sys2Proof.Machine
end

section
/-! O57: writes of the Memory region. -/

namespace Sys2Proof.Machine

open Sys2Proof

/-- A running OFFLINE half whose bulk copy still shows BUSY. -/
def copyingHalf : State :=
  { State.reset with a := { (Half.init .a).wr Adr.MSG_BULK_STATUS 0x80000000 with
    phase := .running, regions := [.up, .up, .up, .up, .up, .up, .up, .up] } }

theorem copyingHalf_grants : Grants copyingHalf .a .mgmt Adr.MEM_PARTITION :=
  ⟨⟨by decide, by decide +kernel, ⟨⟨rfl, rfl, rfl, ⟨rfl, rfl, rfl⟩, ⟨rfl, rfl, rfl⟩, ⟨rfl, rfl, rfl⟩⟩,
    ⟨rfl, rfl, rfl, ⟨rfl, rfl, rfl⟩, ⟨rfl, rfl, rfl⟩, ⟨rfl, rfl, rfl⟩⟩⟩⟩, by decide +kernel⟩

theorem copyingHalf_may : (goodPartition 1 1 && (copyingHalf.half .a).partitionAllowed) = true ∧
    (copyingHalf.half .a).bit Adr.MSG_BULK_STATUS 31 = true := by decide +kernel

/-- The new partition ends the copy. -/
theorem copyingHalf_ends :
    (match exec (.partitionChange .a .mgmt 1 1) copyingHalf with | .next t => (t.half .a).bit Adr.MSG_BULK_STATUS 31 | _ => true) = false := by
  decide +kernel

/-- Refutes O57: a partition that is taken ends a bulk copy, which shows in `MSG.BULK_STATUS`; the statement's registers leave it out
(R290, R304). -/
theorem not_memoryWritesTakeEffect : ¬ Obligations.MemoryWritesTakeEffect := by
  intro holds
  obtain ⟨may, busy⟩ := copyingHalf_may
  obtain ⟨change, -⟩ := holds .a .mgmt copyingHalf
  obtain ⟨t, ht, -, ⟨-, -, -, -, -, -, kept⟩, -⟩ := (change 1 1 copyingHalf_grants).1 may
  have ended := copyingHalf_ends
  rw [ht] at ended
  have stays : (t.half .a).bit Adr.MSG_BULK_STATUS 31 = true := (kept.bit (by decide) 31).trans busy
  exact absurd (ended.symm.trans stays) (by decide)

end Sys2Proof.Machine
end

section
/-! O58: writes of the amplifiers and the sense chain (R357, R367, R388, R389, R395, R404). -/

namespace Sys2Proof.Machine

open Sys2Proof

/-! What a word shows that is simply held. -/

/-- The registers of single pages that a half works out as they are read. -/
def workedOut : List Nat :=
  [Adr.DIE_STATUS, Adr.DIE_ROLE_MIRROR, Adr.EVT_STATUS, Adr.REC_FRAME_BYTES, Adr.ALM_STATUS, Adr.MEM_SCRUB_PROGRESS, Adr.GST_STATUS,
    Adr.GST_ENG_TESTED, Adr.HLT_UPTIME 0, Adr.HLT_UPTIME 1, Adr.QM_POOL_FREE, Adr.QM_RSV_TOTAL, Adr.RDN_STATUS, Adr.RDN_COMPARE_STATUS,
    Adr.MACC_STATUS, Adr.TDMC_STATUS]

/-- The registers of repeated pages that a half works out as they are read: base, stride, number. -/
def workedOutUnits : List (Nat × Nat × Nat) :=
  [(Adr.Q_STATUS 0, 0x40, 64), (Adr.Q_LEVEL 0, 0x40, 64), (Adr.Q_PKTCNT 0, 0x40, 64), (Adr.QC_STATUS 0, 0x40, 4), (Adr.FRXC_STATUS 0, 0x100, 8),
    (Adr.FTXC_STATUS 0, 0x100, 8), (Adr.ENGC_STATUS 0, 0x4000, 2), (Adr.AMPC_STATUS 0, 0x100, 4), (Adr.SNSC_STATUS 0, 0x800, 5),
    (Adr.TDM_STATUS 0, 0x400, 8), (Adr.AMP_STATUS 0, 0x200, 32), (Adr.MAC_STATUS 0, 0x4000, 2), (Adr.ENG_SPEED 0, 0x1000, 8),
    (Adr.ENG_SLACK_MIN 0, 0x1000, 8), (Adr.ENG_FW_VER 0, 0x1000, 8)]

/-- The word shows its value in effect. -/
def shownAsHeld (a : Nat) : Bool := decide (a ∉ workedOut) && workedOutUnits.all fun u => (instAt u.1 u.2.1 u.2.2 a).isNone

theorem Half.view_held {a : Nat} (ha : shownAsHeld a = true) (x : Half) (faultLow alarmLow : Bool) : x.view faultLow alarmLow a = x.rd a := by
  simp only [shownAsHeld, workedOut, workedOutUnits, Bool.and_eq_true, decide_eq_true_eq, List.mem_cons, List.not_mem_nil, or_false, not_or,
    List.all_cons, List.all_nil, Option.isNone_iff_eq_none, and_true] at ha
  have page : x.viewPage faultLow alarmLow a = none := by simp only [Half.viewPage, ha, if_false]
  have unit : x.viewUnit a = none := by simp only [Half.viewUnit, ha]
  simp only [Half.view, page, unit]

/-- A word held for a boundary or a plan, with a plain read: what an access that keeps the other bits writes back. -/
structure HeldWord (a : Nat) (k : Kind) : Prop where
  at_ : kindAt a = some k
  held : shownAsHeld a = true
  place : (locate a).map (fun l => (l.confirm, l.block == 0x81000)) = some (false, false)
  attr : k.attr = .rw

/-- The value before masking that a read of a held word shows. -/
theorem State.asRead_of {a : Nat} {k : Kind} (w : HeldWord a k) (s : State) (h : HalfId) :
    s.asRead h a = (match k.hook with
      | .flashData => (s.half h).flashDataValue
      | .xferData => (s.half h).xferDataValue
      | .ampCtrl => BitVec.ofNat 32 (((s.half h).staged a).toNat &&& 3)
      | .ampcCtrl => 0
      | _ => (s.half h).staged a).toNat := by
  obtain ⟨at_, held, place, attr⟩ := w
  obtain ⟨l, hl, rfl⟩ := locate_of_kindAt at_
  have pl : l.confirm = false ∧ (l.block == 0x81000) = false := by simpa [hl] using place
  have rw_ : l.reg.attr = .rw := attr
  have live : lookAt (fun _ => (s.half h).view s.faultLow s.alarmLow a) (s.half h).held a = (s.half h).staged a := by
    rw [Half.staged, Half.view_held held]
    exact lookAt_congr _ rfl
  unfold State.asRead
  simp only [hl, State.shown, pl.1, pl.2, rw_, live, Loc.kind]
  rfl

theorem State.asRead_plain {a : Nat} {k : Kind} (w : HeldWord a k) (plain : k.hook = .none ∨ k.hook = .snsCtrl) (s : State) (h : HalfId) :
    s.asRead h a = ((s.half h).staged a).toNat := by
  rw [State.asRead_of w]
  rcases plain with e | e <;> rw [e]

@[simp] theorem Half.staged_stage (x : Half) (a : Nat) (v : Word) : (x.stage a v).staged a = v := lookAt_insertAt_self ..

theorem Half.staged_congr {x y : Half} (held : y.held = x.held) {a : Nat} (h : y.rd a = x.rd a) : y.staged a = x.staged a := by
  rw [Half.staged, held]
  exact lookAt_congr _ h

/-- A register held for the block boundary. -/
theorem State.putReg_held {l : Loc} (own : l.reg.hook.ofPackage = false) (held : l.reg.cls = .held) (s : State) (h : HalfId) (q : Req)
    (a : Nat) (v : Word) : s.putReg h q l a v = s.on h fun x => x.holdValue l a v := by
  rw [State.putReg_own own]
  exact congrArg (s.on h) (funext fun x => by rw [Half.putReg, held])

section outputWrites
variable {h : HalfId} {q : Req} {s : State}

theorem one_masked : BitVec.ofNat 32 ((1 : Word).toNat &&& 1) = 1 := by decide

/-- A write of a held word: the value waits (R20). -/
theorem accepted_hold {c : Instr} {a : Nat} {v w : Word} {k : Kind} {e : Half → Half} {P : Half → Prop} (run : exec c s = .next (s.write h q a v))
    (g : Grants s h q a) (al : a % 4 = 0) (lt : a < 0x8000000) (word : HeldWord a k) (single : k.wide = .single) (held : k.cls = .held)
    (own : k.hook.ofPackage = false) (masked : BitVec.ofNat 32 (v.toNat &&& k.mask) = w)
    (value : ∀ l : Loc, l.reg.hook = k.hook → l.i = k.i → ∀ x : Half, x.holdValue l a w = e x) (still : (e (s.half h)).acc = (s.half h).acc)
    (shows_ : ∀ x, AccOnly (e (s.half h)) x → P x) : Accepted c h q s P := by
  refine accepted_write_of (f := e) run g al lt word.at_ (Or.inl word.attr) single (fun l _ hl => ?_)
    (still.symm ▸ (State.rest_half g.asks.rest h).still) shows_
  subst hl
  rw [State.putReg_held own held, Loc.masked, show BitVec.ofNat 32 (v.toNat &&& l.mask) = w from masked]
  exact congrArg (s.on h) (funext (value l rfl rfl))

theorem ampCtrl_word (k : Fin 32) : HeldWord (Adr.AMP_CTRL k) ⟨.rw, .ampCtrl, .held, .single, k, 0, 7⟩ := by
  refine ⟨?_, ?_, ?_, rfl⟩ <;> revert k <;> decide

theorem ampcCtrl_word (c : Fin 4) : HeldWord (Adr.AMPC_CTRL c) ⟨.rw, .ampcCtrl, .held, .single, c, 0, 1⟩ := by
  refine ⟨?_, ?_, ?_, rfl⟩ <;> revert c <;> decide

theorem snsCtrl_word (n : Fin 80) : HeldWord (Adr.SNS_CTRL n) ⟨.rw, .snsCtrl, .held, .single, n, 0, 15⟩ := by
  refine ⟨?_, ?_, ?_, rfl⟩ <;> revert n <;> decide

/-- The two fields of `AMP.CTRL` that stay, with CLEAR. -/
theorem clear_value {r : Nat} (hr : r < 4) : (BitVec.ofNat 32 (r ||| 4)).toNat &&& 7 = r + 4 ∧
    BitVec.ofNat 32 (r + 4) ||| (4 : Word) = BitVec.ofNat 32 (r + 4) := by interval_cases r <;> decide

theorem channelClear_waits (k : Fin 32) (g : Grants s h q (Adr.AMP_CTRL k)) :
    Accepted (.channelClear h q k) h q s fun x => bitAt (x.staged (Adr.AMP_CTRL k)) 2 = true ∧
      getBits (x.staged (Adr.AMP_CTRL k)) 0 2 = getBits ((s.half h).staged (Adr.AMP_CTRL k)) 0 2 ∧ SameRegs [] (s.half h) x := by
  generalize hr : ((s.half h).staged (Adr.AMP_CTRL k)).toNat % 4 = r
  have small : r < 4 := hr ▸ Nat.mod_lt _ (by decide)
  have read : s.asRead h (Adr.AMP_CTRL k) = r := by
    have low : ((s.half h).staged (Adr.AMP_CTRL k)).toNat &&& 3 = r := (Nat.and_two_pow_sub_one_eq_mod _ 2).trans hr
    rw [State.asRead_of (ampCtrl_word k)]
    simp only [low, BitVec.toNat_ofNat]
    omega
  obtain ⟨word, again⟩ := clear_value small
  refine accepted_hold (w := BitVec.ofNat 32 (r + 4)) (e := fun x => x.stage (Adr.AMP_CTRL k) (BitVec.ofNat 32 (r + 4))) rfl g
    (by simp only [Adr.AMP_CTRL]; omega) (by simp only [Adr.AMP_CTRL]; omega) (ampCtrl_word k) rfl rfl rfl (by rw [read]; exact congrArg _ word)
    (fun l hook _ x => ?_) rfl fun x hx => ?_
  · simp only [Half.holdValue, hook, again, ite_self]
  · have staged : x.staged (Adr.AMP_CTRL k) = BitVec.ofNat 32 (r + 4) :=
      (Half.staged_congr (x := (s.half h).stage (Adr.AMP_CTRL k) (BitVec.ofNat 32 (r + 4))) (by rw [hx.same]) (hx.rd _)).trans
        (Half.staged_stage ..)
    refine ⟨?_, ?_, fun a _ => hx.rd a⟩
    · rw [staged]
      interval_cases r <;> decide
    · rw [staged, getBits_ofNat, getBits, ← hr]
      omega

theorem clusterReset_waits (c : Fin 4) (g : Grants s h q (Adr.AMPC_CTRL c)) :
    Accepted (.clusterReset h q c) h q s fun x => bitAt (x.staged (Adr.AMPC_CTRL c)) 0 = true ∧ SameRegs [] (s.half h) x := by
  refine accepted_hold (w := 1) (e := fun x => x.stage (Adr.AMPC_CTRL c) 1) rfl g (by simp only [Adr.AMPC_CTRL]; omega)
    (by simp only [Adr.AMPC_CTRL]; omega) (ampcCtrl_word c) rfl rfl rfl one_masked (fun l hook _ x => ?_) rfl fun x hx => ⟨?_, fun a _ => hx.rd a⟩
  · simp only [Half.holdValue, hook]
    exact congrArg _ (ite_self _)
  · rw [Half.staged_congr (x := (s.half h).stage (Adr.AMPC_CTRL c) 1) (by rw [hx.same]) (hx.rd _), Half.staged_stage]
    decide

/-! Profiles (R388, R389). -/

theorem profApply_does (q : Req) (a i j mask : Nat) :
    (Kind.mk .wo .profApply .imm .single i j mask).Does q a fun x v => if bitAt v 0 then x.submitProfile j else x := fun l hook _ hj x v => by
  simp only [Half.actEarly, Half.actLate, hook, hj, Option.getD_none]

theorem kindAt_profApply (j : Fin 7) : kindAt (Adr.SFE_PROF_APPLY j) = some ⟨.wo, .profApply, .imm, .single, 0, j, 1⟩ := by revert j; decide

/-- What `PROF[j].APPLY` submits (R388). -/
def Half.submission (x : Half) (j : Nat) : ProfCfg :=
  ⟨x.rd (Adr.SFE_PROF_CFG j), x.rd (Adr.SFE_PROF_FIR j), x.rd (Adr.SFE_PROF_GD j),
    (List.range (getBits (x.rd (Adr.SFE_PROF_FIR j)) 12 9 + 1)).map fun i =>
      signed 24 (x.get (Adr.SNS_COEF (getBits (x.rd (Adr.SFE_PROF_FIR j)) 0 12 + i)) 0 24)⟩

/-- A half with a submission taken for profile j. -/
def Half.takeProfile (x : Half) (j : Nat) : Half := x.onProf j fun y => { y with next := some (x.submission j) }

/-- A half that shows the result and the period of profile j, then the budget. -/
def Half.showProfile (x : Half) (j status period : Nat) : Half :=
  ((x.wrNat (Adr.SFE_PROF_STATUS j) status).wrNat (Adr.SFE_PROF_PERIOD j) period).showBudget

theorem Half.submitProfile_eq {x : Half} {j : Nat} (hj : j < 7) (up : x.outUp = true) :
    x.submitProfile j =
      if (x.submission j).k = 0 then (x.takeProfile j).showProfile j 0x40000000 0
      else if !(x.submission j).valid then x.profResult j 2
      else if !withinBudget (x.takeProfile j).comingProfs then x.overBudget j
      else (x.takeProfile j).showProfile j (0x40000000 + 2 ^ 29 * ofBool (x.submission j).sym + 2 ^ 28 * ofBool (x.submission j).antisym
        + (x.submission j).delayNs % 2 ^ 26) (x.submission j).d := by
  unfold Half.submitProfile
  simp only [up, Bool.not_true, Bool.false_eq_true, or_false]
  rw [if_neg (by omega)]
  rfl

/-- What the budget shows in. -/
def budgetReg (a : Nat) : Prop := a = Adr.SFE_BUDGET ∨ ∃ j, j < 7 ∧ a = Adr.SFE_PROF_COST j

theorem Half.showBudget_writes (x : Half) : Writes budgetReg x x.showBudget := by
  unfold Half.showBudget
  simp only
  refine Writes.trans ((Writes.refl _ x).wrNat _ (Or.inl rfl)) (.foldl (fun j hj y => ?_) _)
  have cost : budgetReg (Adr.SFE_PROF_COST j) := Or.inr ⟨j, List.mem_range.1 hj, rfl⟩
  split <;> exact (Writes.refl _ y).wrNat _ cost

theorem prof_notBudget (j : Nat) : ¬ budgetReg (Adr.SFE_PROF_STATUS j) ∧ ¬ budgetReg (Adr.SFE_PROF_PERIOD j) := by
  simp only [budgetReg, Adr.SFE_PROF_STATUS, Adr.SFE_PROF_PERIOD, Adr.SFE_BUDGET, Adr.SFE_PROF_COST]
  refine ⟨?_, ?_⟩ <;> rintro (e | ⟨i, -, e⟩) <;> omega

theorem Half.showProfile_shows (x : Half) (j status period : Nat) :
    (x.showProfile j status period).rd (Adr.SFE_PROF_STATUS j) = BitVec.ofNat 32 status ∧
      (x.showProfile j status period).rd (Adr.SFE_PROF_PERIOD j) = BitVec.ofNat 32 period ∧
      (x.showProfile j status period).out = x.out ∧ (x.showProfile j status period).acc = x.acc := by
  have budget := ((x.wrNat (Adr.SFE_PROF_STATUS j) status).wrNat (Adr.SFE_PROF_PERIOD j) period).showBudget_writes
  have apart : Adr.SFE_PROF_STATUS j ≠ Adr.SFE_PROF_PERIOD j := by simp only [Adr.SFE_PROF_STATUS, Adr.SFE_PROF_PERIOD]; omega
  refine ⟨?_, ?_, by rw [Half.showProfile, budget.same]; rfl, by rw [Half.showProfile, budget.same]; rfl⟩
  · rw [Half.showProfile, budget.keeps _ (prof_notBudget j).1, Half.rd_wrNat_ne _ _ apart, Half.rd_wrNat_self]
  · rw [Half.showProfile, budget.keeps _ (prof_notBudget j).2, Half.rd_wrNat_self]

theorem profileApply_accepted {j : Fin 7} (g : Grants s h q (Adr.SFE_PROF_APPLY j)) {y : Half} {P : Half → Prop}
    (run : (s.half h).submitProfile j = y) (acc : y.acc = (s.half h).acc) (shows_ : ∀ x, AccOnly y x → P x) :
    Accepted (.profileApply h q (j.castLE (by decide))) h q s P := by
  have low : (j.castLE (by decide : 7 ≤ 8)).val < 7 := j.isLt
  have writes : exec (.profileApply h q (j.castLE (by decide))) s = .next (s.write h q (Adr.SFE_PROF_APPLY j) 1) := by
    show Host.Outcome.next (if _ then _ else _) = _
    rw [if_pos low]
    rfl
  exact accepted_write writes g (by simp only [Adr.SFE_PROF_APPLY]; omega) (by simp only [Adr.SFE_PROF_APPLY]; omega) (kindAt_profApply j) rfl
    (profApply_does q _ _ _ _) (w := 1) one_masked run (fun still => acc.symm ▸ still) shows_

/-- A profile that is taken: its configuration is the next one. -/
theorem profileApply_taken {j : Fin 7} (g : Grants s h q (Adr.SFE_PROF_APPLY j)) (seven : (s.half h).out.prof.length = 7)
    {status period : Nat} (run : (s.half h).submitProfile j = ((s.half h).takeProfile j).showProfile j status period) :
    Accepted (.profileApply h q (j.castLE (by decide))) h q s fun x => (x.prof j).next = some ((s.half h).submission j) ∧
      x.rd (Adr.SFE_PROF_STATUS j) = BitVec.ofNat 32 status ∧ x.rd (Adr.SFE_PROF_PERIOD j) = BitVec.ofNat 32 period := by
  obtain ⟨st, per, out, acc⟩ := ((s.half h).takeProfile j).showProfile_shows j status period
  generalize ((s.half h).takeProfile j).showProfile j status period = z at run st per out acc
  refine profileApply_accepted g run acc fun x hx => ⟨?_, (hx.rd _).trans st, (hx.rd _).trans per⟩
  have taken : x.out = ((s.half h).takeProfile j).out := hx.out.trans out
  rw [Half.prof, taken]
  exact congrArg ProfSt.next (getAt_modAt _ _ _ _ (by rw [seven]; exact j.isLt))

theorem profileApply_invalid {j : Fin 7} (g : Grants s h q (Adr.SFE_PROF_APPLY j)) (run : (s.half h).submitProfile j = (s.half h).profResult j 2) :
    Accepted (.profileApply h q (j.castLE (by decide))) h q s fun x => x.get (Adr.SFE_PROF_STATUS j) 30 2 = 2 ∧ x.out = (s.half h).out ∧
      SameRegs [Adr.SFE_PROF_STATUS j] (s.half h) x := by
  refine profileApply_accepted g run (Half.put_acc ..) fun x hx => ⟨?_, hx.out.trans (Half.put_out ..), fun a ha => ?_⟩
  · rw [hx.get, Half.profResult, Half.get_put_self _ _ _ _ _ (by decide)]
    rfl
  · rw [hx.rd, Half.profResult, Half.rd_put_ne _ _ _ _ (by simpa using ha)]

/-! The synchronising reset and the channels' profiles (R389, R395). -/

theorem sfeSync_does (q : Req) (a i j mask : Nat) :
    (Kind.mk .wo .sfeSync .imm .single i j mask).Does q a fun x v => x.writeSync v.toNat := fun l hook _ _ x v => by
  simp only [Half.actEarly, Half.actLate, hook, Option.getD_none]

theorem kindAt_sfeSync : kindAt Adr.SFE_SYNC = some ⟨.wo, .sfeSync, .imm, .single, 0, 0, 127⟩ := by decide

/-- From x to y: the working state of the outputs only. -/
def OutOnly (x y : Half) : Prop := ∃ o, y = { x with out := o }

/-- Profiles of a list wait for their synchronising reset. -/
theorem Half.each_syncDue (x : Half) (js : List Nat) (seven : x.out.prof.length = 7) :
    OutOnly x (x.each js fun y j => y.onProf j fun p => { p with syncDue := true }) ∧
      ∀ i < 7, ((x.each js fun y j => y.onProf j fun p => { p with syncDue := true }).prof i).syncDue = (js.contains i || (x.prof i).syncDue) := by
  induction js generalizing x with
  | nil => exact ⟨⟨x.out, rfl⟩, fun i _ => by simp [Half.each]⟩
  | cons j js ih =>
    have seven' : (x.onProf j fun p => { p with syncDue := true }).out.prof.length = 7 := by simp [Half.onProf, Half.onOut, modAt, seven]
    obtain ⟨⟨o, only⟩, due⟩ := ih _ seven'
    refine ⟨⟨o, only⟩, fun i hi => (due i hi).trans ?_⟩
    have set : ((x.onProf j fun p => { p with syncDue := true }).prof i).syncDue = (i == j || (x.prof i).syncDue) := by
      by_cases hij : i = j
      · subst hij
        rw [beq_self_eq_true, Bool.true_or]
        exact congrArg ProfSt.syncDue (getAt_modAt _ _ _ _ (by omega))
      · rw [beq_eq_false_iff_ne.2 hij, Bool.false_or]
        exact congrArg ProfSt.syncDue (getAt_modAt_ne _ _ _ hij)
    rw [set, List.contains_cons, Bool.or_left_comm, ← Bool.or_assoc]

theorem profileSync_waits (mask : BitVec 7) (g : Grants s h q Adr.SFE_SYNC) (up : (s.half h).outUp = true) (seven : (s.half h).out.prof.length = 7) :
    Accepted (.profileSync h q mask) h q s fun x => x.regs = (s.half h).regs ∧
      ∀ j : Fin 7, (x.prof j).syncDue = (mask.getLsbD j || ((s.half h).prof j).syncDue) := by
  have masked : BitVec.ofNat 32 ((mask.setWidth 32).toNat &&& 127) = mask.setWidth 32 := by
    have small : (mask.setWidth 32).toNat < 2 ^ 7 := by rw [BitVec.toNat_setWidth]; omega
    rw [show (127 : Nat) = 2 ^ 7 - 1 from rfl, Nat.and_two_pow_sub_one_eq_mod, Nat.mod_eq_of_lt small, BitVec.ofNat_toNat, BitVec.setWidth_eq]
  obtain ⟨⟨o, only⟩, due⟩ := (s.half h).each_syncDue (maskBits 7 (mask.setWidth 32).toNat) seven
  have run : (s.half h).writeSync (mask.setWidth 32).toNat = _ := if_pos up
  refine accepted_write rfl g (by decide) (by decide) kindAt_sfeSync rfl (sfeSync_does q _ _ _ _) masked run
    (fun still => by rw [only]; exact still) fun x hx => ⟨?_, fun j => ?_⟩
  · rw [hx.regs, only]
  · rw [Half.prof, hx.out, ← Half.prof, due j j.isLt]
    congr 1
    rw [Bool.eq_iff_iff, List.contains_iff_mem, maskBits, List.mem_filter, List.mem_range, BitVec.toNat_setWidth, BitVec.getLsbD]
    have small : mask.toNat % 2 ^ 32 = mask.toNat := by have := mask.isLt; omega
    rw [small]
    exact ⟨fun both => both.2, fun bit => ⟨j.isLt, bit⟩⟩

/-- `SNS.CTRL` with another profile: the lowest bit stays. -/
theorem snsWord (old : Word) (p : Nat) (hp : p < 8) : (setBits (BitVec.ofNat 32 old.toNat) 1 3 p).toNat &&& 15 = getBits old 0 1 + 2 * p := by
  rw [show (15 : Nat) = 2 ^ 4 - 1 from rfl, Nat.and_two_pow_sub_one_eq_mod, BitVec.ofNat_toNat, BitVec.setWidth_eq, setBits, BitVec.toNat_ofNat, getBits]
  omega

/-- The word that a write of PROFILE p leaves waiting. -/
def Half.withProfile (x : Half) (n p : Nat) : Word := BitVec.ofNat 32 (getBits (x.staged (Adr.SNS_CTRL n)) 0 1 + 2 * p)

theorem withProfile_fields (x : Half) (n : Nat) {p : Nat} (hp : p < 8) : getBits (x.withProfile n p) 1 3 = p ∧
    getBits (x.withProfile n p) 0 1 = getBits (x.staged (Adr.SNS_CTRL n)) 0 1 ∧ BitVec.ofNat 32 ((x.withProfile n p).toNat % 16) = x.withProfile n p := by
  have low : getBits (x.staged (Adr.SNS_CTRL n)) 0 1 < 2 := Nat.mod_lt _ (by decide)
  unfold Half.withProfile
  generalize getBits (x.staged (Adr.SNS_CTRL n)) 0 1 = b at low ⊢
  refine ⟨?_, ?_, congrArg _ ?_⟩
  · rw [getBits_ofNat]; omega
  · rw [getBits_ofNat]; omega
  · rw [BitVec.toNat_ofNat]; omega

theorem snsProfileWrite_accepted {n : Fin 80} {p : Fin 8} (g : Grants s h q (Adr.SNS_CTRL n)) {y : Half} {P : Half → Prop}
    (run : (s.half h).writeSnsCtrl n ((s.half h).withProfile n p) = y) (acc : y.acc = (s.half h).acc) (shows_ : ∀ x, AccOnly y x → P x) :
    Accepted (.snsProfileWrite h q n p) h q s P := by
  subst run
  have masked : BitVec.ofNat 32 ((setBits (BitVec.ofNat 32 (s.asRead h (Adr.SNS_CTRL n))) 1 3 p).toNat &&& 15) = (s.half h).withProfile n p := by
    rw [State.asRead_plain (snsCtrl_word n) (Or.inr rfl), snsWord _ _ p.isLt]
    rfl
  refine accepted_hold (e := fun x => x.writeSnsCtrl n ((s.half h).withProfile n p)) rfl g (by simp only [Adr.SNS_CTRL]; omega)
    (by simp only [Adr.SNS_CTRL]; omega) (snsCtrl_word n) rfl rfl rfl masked (fun l hook inst x => ?_) acc shows_
  simp only [Half.holdValue, hook, inst]

/-- A PROFILE within the budget, or the one that is there already, waits. -/
theorem Half.writeSnsCtrl_waits {x : Half} {n : Fin 80} {p : Fin 8} (may : getBits (x.staged (Adr.SNS_CTRL n)) 1 3 = p.val ∨
      withinBudget ((x.stage (Adr.SNS_CTRL n) (x.withProfile n p)).comingProfs) = true) :
    (x.writeSnsCtrl n (x.withProfile n p)).staged (Adr.SNS_CTRL n) = x.withProfile n p ∧ (x.writeSnsCtrl n (x.withProfile n p)).acc = x.acc ∧
      (getBits (x.staged (Adr.SNS_CTRL n)) 1 3 = p.val → ∀ a, (x.writeSnsCtrl n (x.withProfile n p)).rd a = x.rd a) := by
  obtain ⟨profile, -, whole⟩ := withProfile_fields x n p.isLt
  have staged := Half.staged_stage x (Adr.SNS_CTRL n) (x.withProfile n p)
  unfold Half.writeSnsCtrl
  simp only [profile, whole]
  by_cases same : p.val = x.stagedField (Adr.SNS_CTRL n) 1 3
  · rw [if_pos same]
    exact ⟨staged, rfl, fun _ _ => rfl⟩
  · have within := may.resolve_left fun e => same e.symm
    rw [if_neg same, if_pos within]
    have budget := (x.stage (Adr.SNS_CTRL n) (x.withProfile n p)).showBudget_writes
    have apart : ¬ budgetReg (Adr.SNS_CTRL n) := by
      simp only [budgetReg, Adr.SNS_CTRL, Adr.SFE_BUDGET, Adr.SFE_PROF_COST]
      rintro (e | ⟨i, hi, e⟩) <;> omega
    exact ⟨(Half.staged_congr (by rw [budget.same]) (budget.keeps _ apart)).trans staged, by rw [budget.same]; rfl,
      fun e => absurd e.symm same⟩

theorem snsProfileWrite_waits (n : Fin 80) (p : Fin 8) (g : Grants s h q (Adr.SNS_CTRL n)) :
    (getBits ((s.half h).staged (Adr.SNS_CTRL n)) 1 3 = p.val → Accepted (.snsProfileWrite h q n p) h q s fun x =>
      x.staged (Adr.SNS_CTRL n) = BitVec.ofNat 32 (((s.half h).staged (Adr.SNS_CTRL n)).toNat % 16) ∧ SameRegs [] (s.half h) x) ∧
    (withinBudget (((s.half h).stage (Adr.SNS_CTRL n) ((s.half h).withProfile n p)).comingProfs) = true →
      Accepted (.snsProfileWrite h q n p) h q s fun x => getBits (x.staged (Adr.SNS_CTRL n)) 1 3 = p.val ∧
        getBits (x.staged (Adr.SNS_CTRL n)) 0 1 = getBits ((s.half h).staged (Adr.SNS_CTRL n)) 0 1) := by
  obtain ⟨profile, enable, -⟩ := withProfile_fields (s.half h) n p.isLt
  refine ⟨fun same => ?_, fun within => ?_⟩
  · obtain ⟨staged, acc, regs⟩ := Half.writeSnsCtrl_waits (x := s.half h) (Or.inl same)
    refine snsProfileWrite_accepted g rfl acc fun x hx => ⟨?_, fun a _ => (hx.rd a).trans (regs same a)⟩
    rw [Half.staged_congr hx.held (hx.rd _), staged, Half.withProfile, ← same, getBits, getBits]
    congr 1
    omega
  · obtain ⟨staged, acc, -⟩ := Half.writeSnsCtrl_waits (x := s.half h) (p := p) (Or.inr within)
    refine snsProfileWrite_accepted g rfl acc fun x hx => ?_
    rw [Half.staged_congr hx.held (hx.rd _), staged]
    exact ⟨profile, enable⟩

/-! Larkspur's captures and baselines (R404). -/

theorem lspCmd_does (q : Req) (a i j mask : Nat) : (Kind.mk .wo .lspCmd .imm .single i j mask).Does q a Half.writeLspCmd :=
  fun l hook _ _ x v => by simp only [Half.actEarly, Half.actLate, hook, Option.getD_none]

theorem kindAt_lspCmd : kindAt Adr.SFE_LSP_CMD = some ⟨.wo, .lspCmd, .imm, .single, 0, 0, 0xF000011F⟩ := by decide

theorem lspWord_fields (op : Fin 3) (all : Bool) (k : Fin 32) : bitAt (lspWord op all k) 31 = true ∧ getBits (lspWord op all k) 28 3 = op.val ∧
    bitAt (lspWord op all k) 8 = all ∧ getBits (lspWord op all k) 0 5 = k.val ∧
    BitVec.ofNat 32 ((lspWord op all k).toNat &&& 0xF000011F) = lspWord op all k := by
  revert op all k
  decide

/-- The channels of a Larkspur command. -/
def Half.lspChannels (x : Half) (all : Bool) (k : Nat) : List Nat := if all then (List.range 32).filter x.lspOn else [k]

theorem mem_lspChannels {x : Half} {all : Bool} {k c : Fin 32} (named : if all then x.lspOn c = true else c = k) : c.val ∈ x.lspChannels all k := by
  unfold Half.lspChannels
  cases all with
  | true => simpa using named
  | false => simpa using congrArg Fin.val named

theorem lspChannels_lt {x : Half} {all : Bool} {k : Fin 32} {c : Nat} (h : c ∈ x.lspChannels all k) : c < 32 := by
  unfold Half.lspChannels at h
  split at h
  · exact List.mem_range.1 (List.mem_filter.1 h).1
  · rw [List.mem_singleton.1 h]
    exact k.isLt

/-- Where a step at c brings P about and every step keeps it, P holds after the steps of a list with c in it. -/
theorem Half.each_establishes {f : Half → Nat → Half} {J P : Half → Prop} {ks : List Nat} {c : Nat} (goes : ∀ y, J y → ∀ k ∈ ks, J (f y k))
    (sets : ∀ y, J y → P (f y c)) (keeps : ∀ y, P y → ∀ k ∈ ks, P (f y k)) (hc : c ∈ ks) {x : Half} (start : J x) : P (x.each ks f) := by
  have stays : ∀ (ls : List Nat) (y : Half), (∀ k ∈ ls, k ∈ ks) → P y → P (y.each ls f) := fun ls => by
    induction ls with
    | nil => exact fun y _ hy => hy
    | cons k ls ih => exact fun y hl hy => ih (f y k) (fun j hj => hl j (List.mem_cons_of_mem k hj)) (keeps y hy k (hl k List.mem_cons_self))
  have reached : ∀ (ls : List Nat) (y : Half), (∀ k ∈ ls, k ∈ ks) → J y → c ∈ ls → P (y.each ls f) := fun ls => by
    induction ls with
    | nil => exact fun y _ _ hc => absurd hc List.not_mem_nil
    | cons k ls ih =>
      intro y hl hy hc
      have rest := fun j hj => hl j (List.mem_cons_of_mem k hj)
      rcases List.mem_cons.1 hc with rfl | later
      · exact stays ls _ rest (sets y hy)
      · exact ih (f y k) rest (goes y hy k (hl k List.mem_cons_self)) later
  exact reached ks x (fun _ hk => hk) start hc

/-- From x to y: registers at the addresses of a list and the working state of the outputs. -/
structure OutMoves (as : List Nat) (x y : Half) : Prop where
  same : y = { x with regs := y.regs, out := y.out }
  keeps : SameRegs as x y

theorem OutMoves.refl (as : List Nat) (x : Half) : OutMoves as x x := ⟨rfl, .refl as x⟩

theorem OutMoves.trans {as : List Nat} {x y z : Half} (h : OutMoves as x y) (k : OutMoves as y z) : OutMoves as x z := by
  obtain ⟨hy, hxy⟩ := h
  obtain ⟨hz, hyz⟩ := k
  exact ⟨by rw [hz, hy], hxy.trans hyz⟩

theorem OutMoves.of_writes {as : List Nat} {x y : Half} (h : Writes (· ∈ as) x y) : OutMoves as x y := by
  obtain ⟨hy, hxy⟩ := h
  exact ⟨by rw [hy], hxy⟩

theorem OutMoves.onLsp {as : List Nat} {x y : Half} (h : OutMoves as x y) (k : Nat) (f : LspCh → LspCh) : OutMoves as x (y.onLsp k f) := by
  obtain ⟨hy, hxy⟩ := h
  exact ⟨by rw [hy]; rfl, hxy⟩

theorem OutMoves.each {as : List Nat} {f : Half → Nat → Half} {ks : List Nat} (hf : ∀ k ∈ ks, ∀ y, OutMoves as y (f y k)) (x : Half) :
    OutMoves as x (x.each ks f) := by
  induction ks generalizing x with
  | nil => exact .refl as x
  | cons k ks ih =>
    exact (hf k List.mem_cons_self x).trans (ih (fun j hj => hf j (List.mem_cons_of_mem k hj)) (f x k))

theorem OutMoves.acc {as : List Nat} {x y : Half} (h : OutMoves as x y) : y.acc = x.acc := by rw [h.same]

theorem Half.lsp_onLsp (x : Half) (k : Nat) (f : LspCh → LspCh) (c : Nat) :
    (x.onLsp k f).lsp c = if c = k then f (x.lsp k) else x.lsp c := lookAt_storeAt ..

theorem Half.lsp_of_out {x y : Half} (h : y.out = x.out) (c : Nat) : y.lsp c = x.lsp c := by rw [Half.lsp, h, ← Half.lsp]

/-- A capture starts on channel k. -/
def Half.startCapture (x : Half) (k : Nat) : Half :=
  (x.onLsp k fun y => { y with capture := some (List.replicate 9 (0, 0, 0)) }).putBit Adr.SFE_LSP_STATUS k true

/-- The baseline of channel k holds nothing. -/
def Half.clearBaseline (x : Half) (k : Nat) : Half := x.each (List.range 9) fun y b => y.wr (baseAdr k b) 0x80000000#32

theorem Half.writeLspCmd_eq {x : Half} (up : x.outUp = true) (all : Bool) (k : Fin 32) :
    x.writeLspCmd (lspWord 0 all k) = x.each (x.lspChannels all k) Half.startCapture ∧
      x.writeLspCmd (lspWord 1 all k) = x.each (x.lspChannels all k) Half.clearBaseline ∧
      x.writeLspCmd (lspWord 2 all k) = x.each (x.lspChannels all k) Half.failCapture := by
  have run : ∀ op : Fin 3, x.writeLspCmd (lspWord op all k) = (match op.val with
      | 0 => x.each (x.lspChannels all k) Half.startCapture
      | 1 => x.each (x.lspChannels all k) Half.clearBaseline
      | 2 => x.each (x.lspChannels all k) Half.failCapture
      | _ => x) := fun op => by
    obtain ⟨go, code, every, channel, -⟩ := lspWord_fields op all k
    unfold Half.writeLspCmd
    simp only [go, code, every, channel, up, Bool.not_true, Bool.or_self, Bool.false_eq_true, if_false]
    rfl
  exact ⟨run 0, run 1, run 2⟩

theorem lspCmd_accepted {c : Instr} (g : Grants s h q Adr.SFE_LSP_CMD) {op : Fin 3} {all : Bool} {k : Fin 32}
    (run : exec c s = .next (s.write h q Adr.SFE_LSP_CMD (lspWord op all k))) {y : Half} {P : Half → Prop}
    (value : (s.half h).writeLspCmd (lspWord op all k) = y) (acc : y.acc = (s.half h).acc) (shows_ : ∀ x, AccOnly y x → P x) :
    Accepted c h q s P :=
  accepted_write run g (by decide) (by decide) kindAt_lspCmd rfl (lspCmd_does q _ _ _ _) (lspWord_fields op all k).2.2.2.2 value
    (fun still => acc.symm ▸ still) shows_

theorem Half.startCapture_shows (x : Half) {k c : Nat} (hk : k < 32) (hc : c < 32) :
    OutMoves [Adr.SFE_LSP_STATUS] x (x.startCapture k) ∧
      (x.startCapture k).lsp c = (if c = k then { x.lsp k with capture := some (List.replicate 9 (0, 0, 0)) } else x.lsp c) ∧
      (x.startCapture k).bit Adr.SFE_LSP_STATUS c = (c == k || x.bit Adr.SFE_LSP_STATUS c) := by
  refine ⟨((OutMoves.refl _ x).onLsp k _).trans (.of_writes ((Writes.refl _ _).putBit k true (by simp))),
    (Half.lsp_of_out (Half.putBit_out ..) c).trans (Half.lsp_onLsp ..), ?_⟩
  by_cases same : c = k
  · subst same
    rw [beq_self_eq_true, Bool.true_or]
    exact Half.bit_putBit_self _ _ _ _ hc
  · rw [beq_eq_false_iff_ne.2 same, Bool.false_or, Half.startCapture, Half.putBit_eq, Half.bit_put_field _ _ _ _ _ _ (by omega) (by omega)]
    rfl

theorem baselineCapture_starts (g : Grants s h q Adr.SFE_LSP_CMD) (up : (s.half h).outUp = true) {all : Bool} {k c : Fin 32}
    (named : if all then (s.half h).lspOn c = true else c = k) :
    Accepted (.baselineCapture h q all k) h q s fun x => (x.lsp c).capture = some (List.replicate 9 (0, 0, 0)) ∧
      x.bit Adr.SFE_LSP_STATUS c = true ∧ SameRegs [Adr.SFE_LSP_STATUS] (s.half h) x := by
  have moves : OutMoves [Adr.SFE_LSP_STATUS] (s.half h) ((s.half h).each ((s.half h).lspChannels all k) Half.startCapture) :=
    .each (fun j hj y => (y.startCapture_shows (lspChannels_lt hj) c.isLt).1) _
  have starts : (((s.half h).each ((s.half h).lspChannels all k) Half.startCapture).lsp c).capture = some (List.replicate 9 (0, 0, 0)) ∧
      ((s.half h).each ((s.half h).lspChannels all k) Half.startCapture).bit Adr.SFE_LSP_STATUS c = true :=
    Half.each_establishes (J := fun _ => True) (P := fun y => (y.lsp c).capture = some (List.replicate 9 (0, 0, 0)) ∧ y.bit Adr.SFE_LSP_STATUS c = true)
      (fun _ _ _ _ => trivial)
      (fun y _ => by
        obtain ⟨-, lsp, bit⟩ := y.startCapture_shows c.isLt c.isLt
        rw [lsp, bit, if_pos rfl, beq_self_eq_true, Bool.true_or]
        exact ⟨rfl, rfl⟩)
      (fun y hy j hj => by
        obtain ⟨-, lsp, bit⟩ := y.startCapture_shows (lspChannels_lt hj) c.isLt
        rw [lsp, bit, hy.2, Bool.or_true]
        refine ⟨?_, rfl⟩
        split
        · rfl
        · exact hy.1)
      (mem_lspChannels named) trivial
  refine lspCmd_accepted g (op := 0) rfl (Half.writeLspCmd_eq up all k).1 moves.acc fun x hx => ⟨?_, (hx.bit _ _).trans starts.2,
    fun a ha => (hx.rd a).trans (moves.keeps a ha)⟩
  rw [Half.lsp_of_out hx.out]
  exact starts.1

theorem baseAdr_inj (c : Nat) : ∀ i j, baseAdr c i = baseAdr c j → i = j := fun i j h => by simp only [baseAdr] at h; omega

theorem baseAdr_apart {k c b d : Nat} (hb : b < 9) (hd : d < 9) (h : baseAdr c b = baseAdr k d) : c = k := by
  simp only [baseAdr, Adr.SFE_LSPK_BASE0] at h
  omega

/-- Every word of every baseline. -/
def baselineRegs : List Nat := (List.range 32).flatMap fun d => (List.range 9).map (baseAdr d)

theorem mem_baselineRegs {k b : Nat} (hk : k < 32) (hb : b < 9) : baseAdr k b ∈ baselineRegs :=
  List.mem_flatMap.2 ⟨k, List.mem_range.2 hk, List.mem_map.2 ⟨b, List.mem_range.2 hb, rfl⟩⟩

theorem Half.clearBaseline_shows (x : Half) {k : Nat} (hk : k < 32) :
    OutMoves baselineRegs x (x.clearBaseline k) ∧ (∀ b < 9, (x.clearBaseline k).rd (baseAdr k b) = 0x80000000#32) ∧
      ∀ c ≠ k, ∀ b < 9, (x.clearBaseline k).rd (baseAdr c b) = x.rd (baseAdr c b) := by
  have shown := x.each_wr_writes (baseAdr k) (fun _ => 0x80000000#32) 9
  refine ⟨.of_writes (shown.mono ?_), fun b hb => x.each_wr_rd (fun _ => 0x80000000#32) (baseAdr_inj k) hb, fun c hc b hb => shown.keeps _ ?_⟩
  · rintro _ ⟨b, hb, rfl⟩
    exact mem_baselineRegs hk hb
  · rintro ⟨d, hd, e⟩
    exact hc (baseAdr_apart hb hd e)

theorem baselineClear_clears (g : Grants s h q Adr.SFE_LSP_CMD) (up : (s.half h).outUp = true) {all : Bool} {k c : Fin 32}
    (named : if all then (s.half h).lspOn c = true else c = k) :
    Accepted (.baselineClear h q all k) h q s fun x => (∀ b : Fin 9, x.rd (baseAdr c b) = 0x80000000#32) ∧
      SameRegs baselineRegs (s.half h) x := by
  have moves : OutMoves baselineRegs (s.half h) ((s.half h).each ((s.half h).lspChannels all k) Half.clearBaseline) :=
    .each (fun j hj y => (y.clearBaseline_shows (lspChannels_lt hj)).1) _
  have cleared : ∀ b < 9, ((s.half h).each ((s.half h).lspChannels all k) Half.clearBaseline).rd (baseAdr c b) = 0x80000000#32 :=
    Half.each_establishes (J := fun _ => True) (P := fun y => ∀ b < 9, y.rd (baseAdr c b) = 0x80000000#32) (fun _ _ _ _ => trivial)
      (fun y _ => (y.clearBaseline_shows c.isLt).2.1)
      (fun y hy j hj b hb => by
        obtain ⟨-, here, there⟩ := y.clearBaseline_shows (lspChannels_lt hj)
        by_cases same : c.val = j
        · rw [same]
          exact here b hb
        · exact (there c same b hb).trans (hy b hb))
      (mem_lspChannels named) trivial
  exact lspCmd_accepted g (op := 1) rfl (Half.writeLspCmd_eq up all k).2.1 moves.acc fun x hx =>
    ⟨fun b => (hx.rd _).trans (cleared b b.isLt), fun a ha => (hx.rd a).trans (moves.keeps a ha)⟩

/-- What the end of a capture shows in. -/
def captureRegs : List Nat := [Adr.SFE_LSP_STATUS, Adr.SFE_LSP_CAPFAIL, Adr.SFE_EVENT]

theorem Half.endCapture_shows (x : Half) {k : Nat} (failed : Bool) (hk : k < 32) (c : Nat) :
    OutMoves captureRegs x (x.endCapture k failed) ∧ (x.endCapture k failed).bit Adr.SFE_EVENT 2 = true ∧
      (x.endCapture k failed).lsp c = (if c = k then { x.lsp k with capture := none } else x.lsp c) ∧
      (x.endCapture k failed).bit Adr.SFE_LSP_STATUS c = (if c = k then false else x.bit Adr.SFE_LSP_STATUS c) ∧
      (x.endCapture k failed).bit Adr.SFE_LSP_CAPFAIL c = (if c = k then failed else x.bit Adr.SFE_LSP_CAPFAIL c) := by
  have lsp := Half.lsp_onLsp x k (fun y => { y with capture := none }) c
  have rest : ∀ a b, (x.onLsp k fun y => { y with capture := none }).bit a b = x.bit a b := fun _ _ => rfl
  have moves := (OutMoves.refl captureRegs x).onLsp k fun y => { y with capture := none }
  unfold Half.endCapture
  generalize x.onLsp k (fun y => { y with capture := none }) = z at lsp rest moves ⊢
  refine ⟨moves.trans (.of_writes ((((Writes.refl _ z).putBit k false ?_).event 2 ?_).putBit k failed ?_)), ?_, ?_, ?_, ?_⟩
  · simp [captureRegs]
  · simp [captureRegs]
  · simp [captureRegs]
  · rw [Half.bit_putBit_ne _ _ _ _ (by decide), Half.bit_event_self _ _ _ (by decide)]
  · exact (Half.lsp_of_out ((Half.putBit_out ..).trans ((Half.event_out ..).trans (Half.putBit_out ..))) c).trans lsp
  · rw [Half.bit_putBit_ne _ _ _ _ (by decide), Half.bit_event_ne _ _ _ (by decide)]
    split
    · next e => rw [e, Half.bit_putBit_self _ _ _ _ hk]
    · next e => rw [Half.bit_putBit_bit _ _ _ _ _ hk e, rest]
  · split
    · next e => rw [e, Half.bit_putBit_self _ _ _ _ hk]
    · next e => rw [Half.bit_putBit_bit _ _ _ _ _ hk e, Half.bit_event_ne _ _ _ (by decide), Half.bit_putBit_ne _ _ _ _ (by decide), rest]

/-- The capture of channel c has failed. -/
def CaptureFailed (c : Nat) (x : Half) : Prop := (x.lsp c).capture = none ∧ x.bit Adr.SFE_LSP_STATUS c = false ∧
  x.bit Adr.SFE_LSP_CAPFAIL c = true ∧ x.bit Adr.SFE_EVENT 2 = true

theorem CaptureFailed.failCapture {c k : Nat} {x : Half} (hk : k < 32) (done : CaptureFailed c x) :
    CaptureFailed c (x.failCapture k) := by
  unfold Half.failCapture
  split
  · obtain ⟨-, event, lsp, status, failed⟩ := x.endCapture_shows true hk c
    refine ⟨?_, ?_, ?_, event⟩
    · rw [lsp]
      split
      · rfl
      · exact done.1
    · rw [status, done.2.1, ite_self]
    · rw [failed, done.2.2.1, ite_self]
  · exact done

theorem Half.failCapture_fails {c : Nat} {x : Half} (hc : c < 32) (runs : (x.lsp c).capture.isSome = true) : CaptureFailed c (x.failCapture c) := by
  obtain ⟨-, event, lsp, status, failed⟩ := x.endCapture_shows true hc c
  rw [Half.failCapture, if_pos runs]
  refine ⟨?_, ?_, ?_, event⟩
  · rw [lsp, if_pos rfl]
  · rw [status, if_pos rfl]
  · rw [failed, if_pos rfl]

theorem Half.failCapture_keeps {c k : Nat} {x : Half} (hc : c < 32) (hk : k < 32) (runs : (x.lsp c).capture.isSome = true) :
    ((x.failCapture k).lsp c).capture.isSome = true ∨ CaptureFailed c (x.failCapture k) := by
  by_cases same : c = k
  · subst same
    exact Or.inr (Half.failCapture_fails hc runs)
  · unfold Half.failCapture
    split
    · rw [(x.endCapture_shows true hk c).2.2.1, if_neg same]
      exact Or.inl runs
    · exact Or.inl runs

theorem Half.failCapture_moves (x : Half) {k : Nat} (hk : k < 32) : OutMoves captureRegs x (x.failCapture k) := by
  unfold Half.failCapture
  split
  · exact (x.endCapture_shows true hk k).1
  · exact .refl _ x

theorem captureAbort_fails (g : Grants s h q Adr.SFE_LSP_CMD) (up : (s.half h).outUp = true) {all : Bool} {k c : Fin 32}
    (named : if all then (s.half h).lspOn c = true else c = k) (runs : ((s.half h).lsp c).capture.isSome = true) :
    Accepted (.captureAbort h q all k) h q s fun x => CaptureFailed c x ∧ SameRegs captureRegs (s.half h) x := by
  have moves : OutMoves captureRegs (s.half h) ((s.half h).each ((s.half h).lspChannels all k) Half.failCapture) :=
    .each (fun j hj y => y.failCapture_moves (lspChannels_lt hj)) _
  have ends : CaptureFailed c ((s.half h).each ((s.half h).lspChannels all k) Half.failCapture) :=
    Half.each_establishes (J := fun y => (y.lsp c).capture.isSome = true ∨ CaptureFailed c y)
      (fun y hy j hj => hy.elim (Half.failCapture_keeps c.isLt (lspChannels_lt hj)) fun done => Or.inr (done.failCapture (lspChannels_lt hj)))
      (fun y hy => hy.elim (Half.failCapture_fails c.isLt) fun done => done.failCapture c.isLt)
      (fun y hy j hj => hy.failCapture (lspChannels_lt hj)) (mem_lspChannels named) (Or.inl runs)
  refine lspCmd_accepted g (op := 2) rfl (Half.writeLspCmd_eq up all k).2.2 moves.acc fun x hx => ⟨?_, fun a ha => (hx.rd a).trans (moves.keeps a ha)⟩
  obtain ⟨capture, status, failed, event⟩ := ends
  refine ⟨?_, (hx.bit _ _).trans status, (hx.bit _ _).trans failed, (hx.bit _ _).trans event⟩
  rw [Half.lsp_of_out hx.out]
  exact capture

end outputWrites

/-- The status of a profile that is accepted: its result field. -/
theorem accepted_status (p : ProfCfg) :
    getBits (BitVec.ofNat 32 (0x40000000 + 2 ^ 29 * ofBool p.sym + 2 ^ 28 * ofBool p.antisym + p.delayNs % 2 ^ 26)) 30 2 = 1 := by
  have := ofBool_lt p.sym
  have := ofBool_lt p.antisym
  rw [getBits_ofNat]
  omega

/-- Settles O58: commands wait in the held words; a submitted profile is judged by its own fields; a Larkspur command acts on each
channel that it names, and no channel undoes another's. -/
theorem outputWritesTakeEffect : Obligations.OutputWritesTakeEffect := by
  intro h q s
  refine ⟨fun k g => channelClear_waits k g, fun c g => clusterReset_waits c g, fun j p g up seven hp => ?_,
    fun mask g up seven => profileSync_waits mask g up seven, fun n p g => snsProfileWrite_waits n p g, fun all k g up c named =>
      ⟨baselineCapture_starts g up named, baselineClear_clears g up named, fun runs => (captureAbort_fails g up named runs).imp fun x hx => ?_⟩⟩
  · have taken : p = (s.half h).submission j := hp
    subst taken
    have cases_ := Half.submitProfile_eq (x := s.half h) j.isLt up
    refine ⟨fun off => ?_, fun on invalid => ?_, fun on valid within => ?_⟩
    · rw [if_pos off] at cases_
      exact profileApply_taken g seven cases_
    · rw [if_neg on, if_pos (by rw [invalid]; rfl)] at cases_
      exact profileApply_invalid g cases_
    · rw [if_neg on, if_neg (by rw [valid]; decide), if_neg (by rw [Half.takeProfile, within]; decide)] at cases_
      refine (profileApply_taken g seven cases_).imp fun x hx => ?_
      obtain ⟨next, status, period⟩ := hx
      exact ⟨next, (congrArg (getBits · 30 2) status).trans (accepted_status _), period⟩
  · obtain ⟨⟨capture, status, failed, event⟩, rest⟩ := hx
    exact ⟨capture, status, failed, event, rest⟩

end Sys2Proof.Machine
end

section
/-! O35: errors of the memories, retirement, scrub passes and ends of transfers (R285 to R294). -/

namespace Sys2Proof.Machine

open Sys2Proof

/-! What a poisoned line's consequence leaves of the error that made it (R285). -/

/-- From x to y: registers, the sentinel and the traffic between the halves only. -/
def SentinelOnly (x y : Half) : Prop := y = { x with regs := y.regs, sent := y.sent, rdn := y.rdn }

namespace SentinelOnly
variable {x y z : Half}

theorem trans (h : SentinelOnly x y) (k : SentinelOnly y z) : SentinelOnly x z := by
  unfold SentinelOnly at *
  rw [k, h]

theorem writes {p : Nat → Prop} (h : SentinelOnly x y) (k : Writes p y z) : SentinelOnly x z :=
  h.trans (by rw [SentinelOnly, k.same])

theorem onSent (h : SentinelOnly x y) (f : Sentinel → Sentinel) : SentinelOnly x (y.onSent f) := h.trans rfl

theorem onRdn (h : SentinelOnly x y) (f : RdnSt → RdnSt) : SentinelOnly x (y.onRdn f) := h.trans rfl

theorem send (h : SentinelOnly x y) (t a : Nat) : SentinelOnly x (y.send t a) := h.trans (by rw [SentinelOnly, y.send_eq])

theorem setRole (h : SentinelOnly x y) (r : Role) : SentinelOnly x (y.setRole r) := h.trans (by rw [SentinelOnly, y.setRole_eq])

theorem txRefresh (h : SentinelOnly x y) : SentinelOnly x y.txRefresh := h.trans (by rw [SentinelOnly, y.txRefresh_shape.1])

theorem setSvc (h : SentinelOnly x y) (on : Bool) : SentinelOnly x (y.setSvc on) :=
  h.writes (((Writes.refl (fun _ => True) y).putBit 11 on trivial).putBit 11 on trivial)

theorem endHandover (h : SentinelOnly x y) (c : Nat) : SentinelOnly x (y.endHandover c) := h.trans rfl

theorem abandon (h : SentinelOnly x y) (tell : Bool) : SentinelOnly x (y.abandon tell) := by
  unfold Half.abandon
  split
  · exact h
  · split
    · exact (h.endHandover 9).send _ _
    · exact h.endHandover 9

theorem countGiveUp (h : SentinelOnly x y) (c : Nat) : SentinelOnly x (y.countGiveUp c) := by
  unfold Half.countGiveUp
  exact (h.onSent _).writes (((Writes.refl (fun _ => True) _).put 16 8 c trivial).put 0 8 _ trivial)

theorem releaseControl (h : SentinelOnly x y) (c : Nat) : SentinelOnly x (y.releaseControl c) := by
  unfold Half.releaseControl
  exact (((((h.onSent _).setRole _).send _ _).setSvc false).onRdn _).txRefresh

theorem giveUpFor (h : SentinelOnly x y) (c : Nat) : SentinelOnly x (y.giveUpFor c) := by
  have latched : SentinelOnly x (y.latch Adr.RDN_FAULT c) := h.writes ((Writes.refl (fun _ => True) y).latch c trivial)
  have forced : SentinelOnly x ((((y.latch Adr.RDN_FAULT c).abandon true).countGiveUp c).forceAll) :=
    ((latched.abandon true).countGiveUp c).onSent _
  obtain e | ⟨-, e⟩ | e := y.giveUpFor_cases c <;> rw [e]
  · exact latched
  · exact forced.onSent _
  · exact forced.releaseControl c

end SentinelOnly

/-- The registers that show an uncorrectable error (R285, R292). -/
def errorRegs : List Nat := [Adr.MEM_EVENT, Adr.MEM_UNCORR_CNT, Adr.MEM_SRAM_UNCORR_CNT, Adr.MEM_ERR_ADDR 0, Adr.MEM_ERR_INFO]

/-- From x to y an uncorrectable error is shown as it was, and the retirement list stays. -/
structure KeepsErrors (x y : Half) : Prop where
  boot : y.boot = x.boot
  regs : ∀ a ∈ errorRegs, y.rd a = x.rd a

namespace KeepsErrors
variable {x y z : Half}

theorem refl (x : Half) : KeepsErrors x x := ⟨rfl, fun _ _ => rfl⟩

theorem trans (h : KeepsErrors x y) (k : KeepsErrors y z) : KeepsErrors x z :=
  ⟨k.boot.trans h.boot, fun a ha => (k.regs a ha).trans (h.regs a ha)⟩

theorem of_writes (h : Writes (· ∉ errorRegs) x y) : KeepsErrors x y := ⟨by rw [h.same], fun a ha => h.keeps a fun out => out ha⟩

theorem giveUpFor (x : Half) (c : Nat) : KeepsErrors x (x.giveUpFor c) := by
  refine ⟨by rw [SentinelOnly.giveUpFor (x := x) (y := x) rfl c], fun a ha => ?_⟩
  have off : ∀ b ∈ errorRegs, b ∉ giveUpRegs ∧ 0x60000 ≤ b ∧ b ≠ Adr.RDN_FAULT := by decide
  obtain ⟨release, slots, fault⟩ := off a ha
  rw [Half.giveUpFor_rd _ _ release (Or.inr slots), Half.rd_latch_ne _ _ fault]

end KeepsErrors

theorem mem_errorRegs {a : Nat} : a ∈ errorRegs ↔ a = 0x8000C ∨ a = 0x80034 ∨ a = 0x8003C ∨ a = 0x80044 ∨ a = 0x8004C := by
  simp [errorRegs]

theorem ringAdr_notError (p : Nat) (tx : Bool) (r : Nat) {ofs : Nat} (hofs : ofs = 0x14 ∨ ofs = 0x18) : ringAdr p tx r ofs ∉ errorRegs := by
  rw [mem_errorRegs, ringAdr]
  split <;> omega

theorem macReg_notError {p ofs : Nat} (hp : p < 2) (hofs : ofs < 0x1000) : 0x30000 + ofs + 0x4000 * p ∉ errorRegs := by
  rw [mem_errorRegs]
  omega

theorem playerReg_notError {a : Nat} (ha : 0x81000 ≤ a) : a ∉ errorRegs := by
  rw [mem_errorRegs]
  omega

theorem Half.txUnderrun_keepsErrors (x : Half) (p : PortId) (poisoned : Bool) : KeepsErrors x (x.txUnderrun p poisoned) := by
  have close : ∀ r first n st, KeepsErrors x (x.closeFrame p r first n st) := fun r first n st => ⟨rfl, fun a ha =>
    Half.closeFrame_rd _ _ _ _ _ _ fun e => ringAdr_notError p true r (Or.inl rfl) (e ▸ ha)⟩
  have count : ∀ y : Half, KeepsErrors y (y.tally p .txUnderrun 1) := fun y => ⟨rfl, fun a ha => Half.tally_rd _ _ _ _ fun hc => by
    simp only [counterRegs, List.mem_cons, List.not_mem_nil, or_false, Adr.MAC_CNT, MacCnt.idx] at hc
    rw [mem_errorRegs] at ha
    omega⟩
  have event := macReg_notError p.isLt (ofs := 0xC) (by decide)
  have fault := macReg_notError p.isLt (ofs := 0x14) (by decide)
  have thresh := macReg_notError p.isLt (ofs := 0x34) (by decide)
  unfold Half.txUnderrun
  split
  · split
    · next r first n _ =>
      have ended : KeepsErrors x ((x.closeFrame p r first n (if poisoned then 3 else 1)).resumeCut p) := (close r first n _).trans ⟨rfl, fun _ _ => rfl⟩
      refine ended.trans ((count _).trans ?_)
      simp only
      split
      · exact .of_writes (((Writes.refl _ _).event 5 event).latch 7 fault)
      · exact .of_writes (((Writes.refl _ _).event 5 event).put 0 4 _ thresh)
    · exact .refl x
  · exact .refl x

theorem Half.damage_writes (x : Half) (m : Nat) :
    Writes (fun a => 0x81400 ≤ a ∨ a = Adr.MSG_EVENT ∨ a = Adr.MSG_LIB_CHECK) x (x.damage m) := by
  unfold Half.damage
  split
  · exact .refl _ x
  · refine (((Writes.refl _ x).putBit _ true (Or.inl ?_)).event 3 (Or.inr (Or.inl rfl))).count 16 16 1 (Or.inr (Or.inr rfl))
    simp only [Adr.MSG_DAMAGED]
    omega

theorem Half.playerFault_shows (x : Half) {p cause : Nat} : (x.playerFault p cause).bit (Adr.MSG_PLAYER p) 31 = false ∧
    (x.playerFault p cause).bit (Adr.MSG_PLAYER p) 30 = true ∧ (x.playerFault p cause).get (Adr.MSG_PLAYER p) 8 4 = cause % 16 := by
  obtain ⟨status, event⟩ := msgPlayer_ne (p := p)
  unfold Half.playerFault Half.showBankBusy
  simp only
  refine ⟨?_, ?_, ?_⟩
  · rw [Half.bit_putBit_ne _ _ _ _ status, Half.bit_event_ne _ _ _ event, Half.bit_put_field _ _ _ _ _ _ (by decide) (by decide),
      Half.bit_putBit_bit _ _ _ _ _ (by decide) (by decide), Half.bit_putBit_self _ _ _ _ (by decide)]
  · rw [Half.bit_putBit_ne _ _ _ _ status, Half.bit_event_ne _ _ _ event, Half.bit_put_field _ _ _ _ _ _ (by decide) (by decide),
      Half.bit_putBit_self _ _ _ _ (by decide)]
  · rw [Half.get_congr (Half.rd_putBit_ne _ _ _ status), Half.get_congr (Half.rd_event_ne _ _ event), Half.get_put_self _ _ _ _ _ (by decide)]
    rfl

theorem Half.damage_keepsErrors (x : Half) (m : Nat) : KeepsErrors x (x.damage m) :=
  .of_writes ((x.damage_writes m).mono fun a ha => playerReg_notError (by simp only [Adr.MSG_EVENT, Adr.MSG_LIB_CHECK] at ha; omega))

theorem Half.playerFault_keepsErrors (x : Half) (p cause : Nat) : KeepsErrors x (x.playerFault p cause) :=
  .of_writes ((x.playerFault_writes p cause).mono fun a ha => playerReg_notError (by
    simp only [List.mem_cons, List.not_mem_nil, or_false, Adr.MSG_PLAYER, Adr.MSG_EVENT, Adr.MSG_STATUS] at ha; omega))

theorem Half.latchMem_keepsErrors (x : Half) (c : Nat) : KeepsErrors x (x.latch Adr.MEM_FAULT c) :=
  .of_writes ((Writes.refl _ x).latch c (by decide))

theorem Half.poisonHits_keepsErrors (x : Half) (addr : Nat) (use : DramUse) : KeepsErrors x (x.poisonHits addr use) := by
  cases use with
  | node n =>
    have missing : KeepsErrors x (x.nodeMissing n) := ⟨rfl, fun _ _ => rfl⟩
    show KeepsErrors x (if _ then _ else _)
    split
    · exact missing.trans ((Half.latchMem_keepsErrors _ 2).trans (.giveUpFor _ 3))
    · exact missing
  | descriptor p r =>
    have status := ringAdr_notError p r.tx r.r (ofs := 0x18) (Or.inr rfl)
    exact .of_writes ((((Writes.refl _ x).putBit 2 true status).putBit 0 false status).latch 5 (macReg_notError p.isLt (ofs := 0x14) (by decide)))
  | frame p => exact x.txUnderrun_keepsErrors p true
  | player p =>
    show KeepsErrors x (if _ then _ else _)
    split
    · exact (x.damage_keepsErrors _).trans (Half.playerFault_keepsErrors _ _ _)
    · exact .refl x
  | transfer => exact ⟨rfl, fun _ _ => rfl⟩
  | other =>
    show KeepsErrors x (match x.storeRegion addr with | 0 => _ | 3 => _ | _ => _)
    split
    · split
      · exact x.damage_keepsErrors _
      · exact .refl x
    · exact (x.latchMem_keepsErrors 3).trans (.giveUpFor _ 3)
    · exact .refl x

/-! Retirement (R287, R292). -/

/-- The registers that show a retired page (R287, R314). -/
def reserveRegs : List Nat := [Adr.MEM_EVENT, Adr.MEM_RETIRED, Adr.MEM_STATUS]

/-- A page goes to a spare while there is one. -/
theorem Half.retirePage_retires (x : Half) (page : Nat) (spare : x.boot.retired.pages.length < 4096) :
    (x.retirePage page).bit Adr.MEM_EVENT 2 = true ∧ (x.retirePage page).boot.retired.pages = x.boot.retired.pages ++ [page] ∧
      (∀ b, b ≠ 2 → (x.retirePage page).bit Adr.MEM_EVENT b = x.bit Adr.MEM_EVENT b) ∧ SameRegs reserveRegs x (x.retirePage page) := by
  have shown : ∀ y : Half, Writes (· ∈ [Adr.MEM_RETIRED, Adr.MEM_STATUS]) y y.showReserve := fun y =>
    ((Writes.refl _ y).wrNat _ (by simp)).putBit 3 _ (by simp)
  rw [Half.retirePage, if_neg (by omega)]
  simp only
  generalize hy : (((x.onRetired _).event Adr.MEM_EVENT 2).onStore _ : Half) = y
  have reg : ∀ a, y.rd a = (x.event Adr.MEM_EVENT 2).rd a := fun a => by rw [← hy]; rfl
  have boot : y.boot = x.boot.retire fun r => { r with pages := r.pages ++ [page] } := by rw [← hy]; rfl
  refine ⟨?_, ?_, fun b hb => ?_, fun a ha => ?_⟩
  · rw [(shown y).bit (by decide), Half.bit_congr (reg _)]
    exact Half.bit_event_self _ _ _ (by decide)
  · rw [(shown y).same]
    exact (congrArg (·.retired.pages) boot).trans (by rw [BootSt.retired_retire])
  · rw [(shown y).bit (by decide), Half.bit_congr (reg _)]
    exact Half.bit_event_bit _ _ _ _ (by decide) hb
  · simp only [reserveRegs, List.mem_cons, List.not_mem_nil, or_false, not_or] at ha
    obtain ⟨event, retired, status⟩ := ha
    rw [(shown y).keeps a (by simp [retired, status]), reg, Half.rd_event_ne _ _ event]

/-- What a retired page leaves of the working state. -/
theorem Half.retirePage_keeps (x : Half) (page : Nat) : (x.retirePage page).graph = x.graph ∧
    (x.retirePage page).store.poison = x.store.poison ∧ (x.retirePage page).store.xferBad = x.store.xferBad := by
  have shown : ∀ y : Half, Writes (· ∈ [Adr.MEM_RETIRED, Adr.MEM_STATUS]) y y.showReserve := fun y =>
    ((Writes.refl _ y).wrNat _ (by simp)).putBit 3 _ (by simp)
  unfold Half.retirePage
  simp only
  split
  · exact ⟨rfl, rfl, rfl⟩
  · rw [(shown _).same]
    exact ⟨rfl, rfl, rfl⟩

/-- A half that has counted a corrected error of its DRAM (R285). -/
def Half.corrected (x : Half) (page : Nat) : Half :=
  (((x.count Adr.MEM_CORR_CNT 0 32 1).event Adr.MEM_EVENT 0).life .dramCorr 1).onStore fun t => { t with
    corrected := insertAt page (x.recentErrors x.store.corrected page) t.corrected }

theorem Half.corrected_shows (x : Half) (page : Nat) : (x.corrected page).bit Adr.MEM_EVENT 0 = true ∧ (x.corrected page).boot = x.boot ∧
    (x.corrected page).get Adr.MEM_CORR_CNT 0 32 = satAdd 32 (x.get Adr.MEM_CORR_CNT 0 32) 1 ∧
    SameRegs [Adr.MEM_CORR_CNT, Adr.MEM_EVENT] x (x.corrected page) := by
  have reg : ∀ a, (x.corrected page).rd a = ((x.count Adr.MEM_CORR_CNT 0 32 1).event Adr.MEM_EVENT 0).rd a := fun _ => rfl
  refine ⟨?_, rfl, ?_, fun a ha => ?_⟩
  · rw [Half.bit_congr (reg _), Half.bit_event_self _ _ _ (by decide)]
  · rw [Half.get_congr (reg _), Half.get_congr (Half.rd_event_ne _ _ (by decide)), Half.count_eq, Half.get_put_self _ _ _ _ _ (by decide), satAdd_mod]
  · simp only [List.mem_cons, List.not_mem_nil, or_false, not_or] at ha
    rw [reg, Half.rd_event_ne _ _ ha.2, Half.rd_count_ne _ _ _ _ ha.1]

theorem Follows.store {x y : Half} (h : Follows x y) : y.store = x.store := by rw [h.same]
theorem Follows.graph {x y : Half} (h : Follows x y) : y.graph = x.graph := by rw [h.same]

section memory
variable {h : HalfId} {s : State}

theorem dramCorrectedRead_completes (addr : Word) (two : Bool) (live : (s.half h).live = true) (up : (s.half h).up .memory = true)
    {P : Half → Prop} (shows_ : P (if two || decide (3 ≤ ((s.half h).recentErrors (s.half h).store.corrected (addr.toNat / 4096)).length)
      then ((s.half h).corrected (addr.toNat / 4096)).retirePage (addr.toNat / 4096) else (s.half h).corrected (addr.toNat / 4096))) :
    CompletesAt (.dramCorrectedRead h addr two) h s P := by
  refine completesAt_on rfl ?_
  rw [if_pos (by rw [live, up]; rfl)]
  exact shows_

/-- The page with its third error within a day, or with two symbols wrong, is retired. -/
theorem Half.corrected_retires (x : Half) (page : Nat) (spare : x.boot.retired.pages.length < 4096) :
    ((x.corrected page).retirePage page).bit Adr.MEM_EVENT 0 = true ∧ ((x.corrected page).retirePage page).bit Adr.MEM_EVENT 2 = true ∧
      ((x.corrected page).retirePage page).boot.retired.pages = x.boot.retired.pages ++ [page] ∧
      ((x.corrected page).retirePage page).get Adr.MEM_CORR_CNT 0 32 = satAdd 32 (x.get Adr.MEM_CORR_CNT 0 32) 1 ∧
      SameRegs [Adr.MEM_CORR_CNT, Adr.MEM_EVENT, Adr.MEM_RETIRED, Adr.MEM_STATUS] x ((x.corrected page).retirePage page) := by
  obtain ⟨event, boot, count, regs⟩ := x.corrected_shows page
  obtain ⟨retired, pages, others, moves⟩ := (x.corrected page).retirePage_retires page (by rw [boot]; exact spare)
  refine ⟨(others 0 (by decide)).trans event, retired, by rw [pages, boot], (moves.get (by decide) 0 32).trans count, ?_⟩
  exact (regs.mono (by simp +contextual)).trans (moves.mono (by simp +contextual [reserveRegs]))

/-! Uncorrectable errors (R285). -/

/-- A half that has counted and captured an error at an address (R285). -/
def Half.captured (x : Half) (addr info : Nat) : Half :=
  (((x.count Adr.MEM_UNCORR_CNT 0 32 1).event Adr.MEM_EVENT 1).wr64 (Adr.MEM_ERR_ADDR 0) addr).wrNat Adr.MEM_ERR_INFO info

theorem Half.uncorrectable_eq (x : Half) (addr : Nat) : ∃ info, x.uncorrectable addr =
    ((x.captured addr info).life .dramUncorr 1).onStore fun t => { t with poison := addr / 64 :: t.poison.filter (· != addr / 64) } := ⟨_, rfl⟩

theorem Half.captured_rd (x : Half) (addr info : Nat) {a : Nat} (hi : a ≠ Adr.MEM_ERR_INFO) (h0 : a ≠ Adr.MEM_ERR_ADDR 0)
    (h1 : a ≠ Adr.MEM_ERR_ADDR 0 + 4) : (x.captured addr info).rd a = ((x.count Adr.MEM_UNCORR_CNT 0 32 1).event Adr.MEM_EVENT 1).rd a := by
  rw [Half.captured, Half.rd_wrNat_ne _ _ hi, Half.rd_wr64_ne _ _ h0 h1]

theorem Half.captured_address (x : Half) (addr info : Nat) : (x.captured addr info).rd (Adr.MEM_ERR_ADDR 0) = BitVec.ofNat 32 addr := by
  rw [Half.captured, Half.rd_wrNat_ne _ _ (by decide), Half.wr64, Half.rd_wrNat_ne _ _ (by decide), Half.rd_wrNat_self]

theorem Half.uncorrectable_shows (x : Half) (addr : Nat) : (x.uncorrectable addr).bit Adr.MEM_EVENT 1 = true ∧
    (x.uncorrectable addr).get Adr.MEM_UNCORR_CNT 0 32 = satAdd 32 (x.get Adr.MEM_UNCORR_CNT 0 32) 1 ∧
    (x.uncorrectable addr).rd (Adr.MEM_ERR_ADDR 0) = BitVec.ofNat 32 addr ∧ (x.uncorrectable addr).boot = x.boot ∧
    (x.uncorrectable addr).store.poison.contains (addr / 64) = true ∧
    SameRegs [Adr.MEM_UNCORR_CNT, Adr.MEM_EVENT, Adr.MEM_ERR_ADDR 0, Adr.MEM_ERR_ADDR 0 + 4, Adr.MEM_ERR_INFO] x (x.uncorrectable addr) := by
  obtain ⟨info, e⟩ := x.uncorrectable_eq addr
  have at_ := x.captured_address addr info
  have boot : (x.captured addr info).boot = x.boot := rfl
  have apart := fun {a} => x.captured_rd addr info (a := a)
  generalize x.captured addr info = y at e boot at_ apart
  have reg : ∀ a, (x.uncorrectable addr).rd a = y.rd a := fun a => by rw [e, Half.onStore_rd, Half.life_rd]
  refine ⟨?_, ?_, (reg _).trans at_, by rw [e]; exact boot, by rw [e]; exact List.contains_iff_mem.2 List.mem_cons_self, fun a ha => ?_⟩
  · rw [Half.bit_congr (reg _), Half.bit_congr (apart (by decide) (by decide) (by decide)), Half.bit_event_self _ _ _ (by decide)]
  · rw [Half.get_congr (reg _), Half.get_congr (apart (by decide) (by decide) (by decide)), Half.get_congr (Half.rd_event_ne _ _ (by decide)), Half.count_eq,
      Half.get_put_self _ _ _ _ _ (by decide), satAdd_mod]
  · simp only [List.mem_cons, List.not_mem_nil, or_false, not_or] at ha
    obtain ⟨count, event, lo, hi, cause⟩ := ha
    rw [reg, apart cause lo hi, Half.rd_event_ne _ _ event, Half.rd_count_ne _ _ _ _ count]

/-- The half after an uncorrectable error (R285, R287). -/
def Half.poisonedAt (x : Half) (addr : Nat) (use : DramUse) : Half := ((x.uncorrectable addr).poisonHits addr use).retirePage (addr / 4096)

theorem dramUncorrectableRead_completes (addr : Word) (use : DramUse) (live : (s.half h).live = true) (up : (s.half h).up .memory = true)
    {P : State → Prop} (shows_ : ∀ t, Follows ((s.half h).poisonedAt addr.toNat use) (t.half h) → P t) :
    Completes (.dramUncorrectableRead h addr use) s P := by
  refine completes_of (t := (s.on h fun x => x.poisonedAt addr.toNat use).lines) ?_ (shows_ _ ?_)
  · show Host.Outcome.next _ = _
    congr 2
    rw [State.on, State.on, if_pos (by rw [live, up]; rfl)]
    rfl
  · have := (State.lines_linesOnly (s.on h fun x => x.poisonedAt addr.toNat use)).halves h
    rwa [State.on_half] at this

/-- Every uncorrectable error is counted, captured, and its page retired. -/
theorem Half.poisonedAt_shows (x : Half) (addr : Nat) (use : DramUse) (spare : x.boot.retired.pages.length < 4096) :
    (x.poisonedAt addr use).bit Adr.MEM_EVENT 1 = true ∧
      (x.poisonedAt addr use).get Adr.MEM_UNCORR_CNT 0 32 = satAdd 32 (x.get Adr.MEM_UNCORR_CNT 0 32) 1 ∧
      (x.poisonedAt addr use).rd (Adr.MEM_ERR_ADDR 0) = BitVec.ofNat 32 addr ∧
      (x.poisonedAt addr use).boot.retired.pages = x.boot.retired.pages ++ [addr / 4096] := by
  obtain ⟨event, count, at_, boot, -, -⟩ := x.uncorrectable_shows addr
  have kept := (x.uncorrectable addr).poisonHits_keepsErrors addr use
  obtain ⟨-, pages, others, moves⟩ :=
    ((x.uncorrectable addr).poisonHits addr use).retirePage_retires (addr / 4096) (by rw [kept.boot, boot]; exact spare)
  refine ⟨(others 1 (by decide)).trans ((Half.bit_congr (kept.regs _ (by decide)) 1).trans event),
    (moves.get (by decide) 0 32).trans ((Half.get_congr (kept.regs _ (by decide)) 0 32).trans count),
    (moves _ (by decide)).trans ((kept.regs _ (by decide)).trans at_), ?_⟩
  rw [Half.poisonedAt, pages, kept.boot, boot]

end memory

theorem Half.plan_congr {x y : Half} (h : y.regs = x.regs) (id : y.id = x.id) : y.plan false = x.plan false := by
  have rd : y.rd = x.rd := funext fun a => by rw [Half.rd, h, id, ← Half.rd]
  have word : y.bankWord = x.bankWord := funext fun st => funext fun a => funext fun ofs => by rw [Half.bankWord, rd, ← Half.bankWord]
  have records : y.recordsAt = x.recordsAt := by unfold Half.recordsAt; rw [h]
  have node : y.nodeAt = x.nodeAt := by unfold Half.nodeAt; rw [word]
  have edge : y.edgeAt = x.edgeAt := by unfold Half.edgeAt; rw [word]
  simp only [Half.plan, Bool.false_eq_true, if_false]
  rw [word, records, node, edge, rd]

/-- A register below the tables, apart from the plan's configuration, is no part of the plan in effect. -/
theorem Half.plan_wr (x : Half) {a : Nat} (v : Word) (below : a < 0x3000000) (cfg : a ≠ Adr.GRF_CFG) : (x.wr a v).plan false = x.plan false := by
  have rd : ∀ b, 0x3000000 ≤ b → (x.wr a v).rd b = x.rd b := fun b hb => Half.rd_wr_ne _ _ (by omega)
  have records : ∀ base size n, 0x3000000 ≤ base → (x.wr a v).recordsAt base size n = x.recordsAt base size n :=
    fun base size n hb => x.recordsAt_wr v n (Or.inl (by omega))
  have node : (x.wr a v).nodeAt false = x.nodeAt false := funext fun i => by
    simp only [Half.nodeAt, Half.bankWord, Bool.false_eq_true, if_false]
    simp only [fun k => rd (Adr.NODE_STG (8 * i + k) + 0x20000) (by simp only [Adr.NODE_STG]; omega)]
  have edge : (x.wr a v).edgeAt false = x.edgeAt false := funext fun i => by
    simp only [Half.edgeAt, Half.bankWord, Bool.false_eq_true, if_false]
    rw [rd (Adr.EDGE_STG (2 * i) + 0x20000) (by simp only [Adr.EDGE_STG]; omega),
      rd (Adr.EDGE_STG (2 * i + 1) + 0x20000) (by simp only [Adr.EDGE_STG]; omega)]
  have zone : ∀ i, (x.wr a v).rd (Adr.ZONE_STG i + 0x1000) = x.rd (Adr.ZONE_STG i + 0x1000) := fun i => rd _ (by simp only [Adr.ZONE_STG]; omega)
  have tone : ∀ i, (x.wr a v).rd (Adr.TONE_STG i + 0x1000) = x.rd (Adr.TONE_STG i + 0x1000) := fun i => rd _ (by simp only [Adr.TONE_STG]; omega)
  simp only [Half.plan, Half.bankWord, Bool.false_eq_true, if_false, node, edge, zone, tone, Half.rd_wr_ne _ _ cfg.symm]
  rw [records _ _ _ (by decide), records _ _ _ (by decide), records _ _ _ (by decide), records _ _ _ (by decide)]

theorem Half.uncorrectable_plan (x : Half) (addr : Nat) : (x.uncorrectable addr).plan false = x.plan false := by
  obtain ⟨info, e⟩ := x.uncorrectable_eq addr
  have captured : (x.captured addr info).plan false = x.plan false := by
    unfold Half.captured Half.wr64
    simp only [Half.wrNat_eq, Half.event_eq, Half.putBit_eq, Half.put_eq, Half.count_eq]
    rw [Half.plan_wr _ _ (by decide) (by decide), Half.plan_wr _ _ (by decide) (by decide), Half.plan_wr _ _ (by decide) (by decide),
      Half.plan_wr _ _ (by decide) (by decide), Half.plan_wr _ _ (by decide) (by decide)]
  generalize x.captured addr info = y at e captured
  rw [e, ← captured]
  exact Half.plan_congr rfl rfl

theorem Half.transferHit_shows (y : Half) (addr page : Nat) :
    ((y.poisonHits addr .transfer).retirePage page).store.xferBad = true ∧
      ((y.poisonHits addr .transfer).retirePage page).store.poison = y.store.poison ∧
      (y.boot.retired.pages.length < 4096 → SameRegs reserveRegs y ((y.poisonHits addr .transfer).retirePage page)) := by
  have hit : ∀ a, (y.poisonHits addr .transfer).rd a = y.rd a := fun _ => rfl
  have bad : (y.poisonHits addr .transfer).store.xferBad = true := rfl
  have poison : (y.poisonHits addr .transfer).store.poison = y.store.poison := rfl
  have boot : (y.poisonHits addr .transfer).boot = y.boot := rfl
  generalize y.poisonHits addr .transfer = z at hit bad poison boot ⊢
  obtain ⟨-, spoiled, flag⟩ := z.retirePage_keeps page
  refine ⟨flag.trans bad, spoiled.trans poison, fun spare a ha => ?_⟩
  rw [(z.retirePage_retires page (by rw [boot]; exact spare)).2.2.2 a ha, hit]

theorem Half.poisonedAt_transfer (x : Half) (addr : Nat) (spare : x.boot.retired.pages.length < 4096) :
    (x.poisonedAt addr .transfer).store.xferBad = true ∧ (x.poisonedAt addr .transfer).store.poison.contains (addr / 64) = true ∧
      SameRegs [Adr.MEM_UNCORR_CNT, Adr.MEM_EVENT, Adr.MEM_ERR_ADDR 0, Adr.MEM_ERR_ADDR 0 + 4, Adr.MEM_ERR_INFO, Adr.MEM_RETIRED,
        Adr.MEM_STATUS] x (x.poisonedAt addr .transfer) := by
  obtain ⟨-, -, -, boot, poison, regs⟩ := x.uncorrectable_shows addr
  obtain ⟨bad, spoiled, moves⟩ := (x.uncorrectable addr).transferHit_shows addr (addr / 4096)
  refine ⟨bad, (congrArg (List.contains · (addr / 64)) spoiled).trans poison, ?_⟩
  exact (regs.mono (by simp +contextual)).trans ((moves (by rw [boot]; exact spare)).mono (by simp +contextual [reserveRegs]))

theorem Half.poisonedAt_node (x : Half) (addr : Nat) (n : Fin 4096) (off : (x.plan false).lsNodes.contains n.val = false) :
    (x.poisonedAt addr (.node n)).graph.missing.contains n.val = true := by
  have hit : ∀ y : Half, y.poisonHits addr (.node n) =
      if (y.plan false).lsNodes.contains n.val then ((y.nodeMissing n).latch Adr.MEM_FAULT 2).giveUpFor 3 else y.nodeMissing n := fun _ => rfl
  rw [Half.poisonedAt, (Half.retirePage_keeps _ _).1, hit, x.uncorrectable_plan, off, if_neg (by decide)]
  exact List.contains_iff_mem.2 List.mem_cons_self

theorem player_apart (p : Fin 64) : Adr.MSG_PLAYER p ∉ [Adr.MEM_UNCORR_CNT, Adr.MEM_EVENT, Adr.MEM_ERR_ADDR 0, Adr.MEM_ERR_ADDR 0 + 4,
    Adr.MEM_ERR_INFO] ∧ Adr.MSG_PLAYER p ∉ reserveRegs ∧ Adr.MSG_PLAYER p ∉ lineRegsOf := by
  revert p
  decide

theorem Half.poisonedAt_player (x : Half) (addr : Nat) (p : Fin 64) (plays : x.bit (Adr.MSG_PLAYER p) 31 = true)
    (spare : x.boot.retired.pages.length < 4096) : (x.poisonedAt addr (.player p)).bit (Adr.MSG_PLAYER p) 31 = false ∧
      (x.poisonedAt addr (.player p)).bit (Adr.MSG_PLAYER p) 30 = true ∧ (x.poisonedAt addr (.player p)).get (Adr.MSG_PLAYER p) 8 4 = 3 := by
  obtain ⟨-, -, -, boot, -, regs⟩ := x.uncorrectable_shows addr
  obtain ⟨capture, reserve, -⟩ := player_apart p
  have kept := (x.uncorrectable addr).poisonHits_keepsErrors addr (.player p)
  obtain ⟨-, -, -, moves⟩ := ((x.uncorrectable addr).poisonHits addr (.player p)).retirePage_retires (addr / 4096) (by rw [kept.boot, boot]; exact spare)
  have hit : (x.uncorrectable addr).poisonHits addr (.player p) =
      ((x.uncorrectable addr).damage ((x.uncorrectable addr).playerMsg p)).playerFault p 3 := if_pos ((regs.bit capture 31).trans plays)
  obtain ⟨stopped, fault, cause⟩ := ((x.uncorrectable addr).damage ((x.uncorrectable addr).playerMsg p)).playerFault_shows (p := p) (cause := 3)
  rw [← hit] at stopped fault cause
  exact ⟨(moves.bit reserve 31).trans stopped, (moves.bit reserve 30).trans fault, (moves.get reserve 8 4).trans cause⟩

/-! Scrub passes (R286). -/

theorem scrubPassComplete_shows {h : HalfId} {s : State} (late : Bool) (live : (s.half h).live = true) (up : (s.half h).up .memory = true) :
    CompletesAt (.scrubPassComplete h late) h s fun x => x.scrubPermille = 0 ∧
      x.get Adr.MEM_SCRUB_PROGRESS 16 16 = ((s.half h).get Adr.MEM_SCRUB_PROGRESS 16 16 + 1) % 2 ^ 16 ∧
      x.bit Adr.MEM_STATUS 2 = late ∧ SameRegs ([Adr.MEM_SCRUB_PROGRESS, Adr.MEM_STATUS] ++ gustRegs 4) (s.half h) x := by
  refine completesAt_on rfl ?_
  rw [if_pos (by rw [live, up]; rfl)]
  generalize s.half h = x
  generalize hy : (((x.wrap Adr.MEM_SCRUB_PROGRESS 16 16 1).putBit Adr.MEM_STATUS 2 late).onStore _ : Half) = y
  have reg : ∀ a, y.rd a = ((x.wrap Adr.MEM_SCRUB_PROGRESS 16 16 1).putBit Adr.MEM_STATUS 2 late).rd a := fun a => by rw [← hy]; rfl
  have now : y.store.scrubAt = y.age := by rw [← hy]; rfl
  obtain ⟨-, done⟩ := y.gustDone_passed (i := 4) (by decide) 0
  refine ⟨?_, ?_, ?_, ?_⟩
  · rw [done.same]
    simp only [Half.scrubPermille, now, Nat.sub_self, Nat.zero_mul, Nat.zero_div, Nat.min_zero]
  · rw [done.get (by decide), Half.get_congr (reg _), Half.get_congr (Half.rd_putBit_ne _ _ _ (by decide)), Half.wrap_eq,
      Half.get_put_self _ _ _ _ _ (by decide)]
  · rw [done.bit (by decide), Half.bit_congr (reg _), Half.bit_putBit_self _ _ _ _ (by decide)]
  · intro a ha
    simp only [List.mem_append, List.mem_cons, List.not_mem_nil, or_false, not_or] at ha
    obtain ⟨⟨progress, status⟩, gust⟩ := ha
    rw [done.keeps a gust, reg, Half.rd_putBit_ne _ _ _ status, Half.rd_wrap_ne _ _ _ _ progress]

/-! The local store (R291, R292). -/

/-- A row outside the placement area is replaced by a spare one while there is one. -/
theorem Half.retireSramRow_eq (x : Half) {area : SramArea} (row : Nat) (off : ∀ n, area ≠ .placement n)
    (new : x.boot.retired.rows.contains (rowNumber area row) = false) (spare : x.spareRowsUsed < 48) :
    x.retireSramRow area row = x.onRetired fun r => { r with rows := r.rows ++ [rowNumber area row] } := by
  cases area with
  | placement n => exact absurd rfl (off n)
  | _ =>
    show (if _ then _ else if _ then _ else _) = _
    rw [if_neg (by rw [new]; decide), if_neg (Nat.not_le.2 spare)]

theorem Half.retireSramRow_rows (x : Half) {area : SramArea} (row : Nat) (off : ∀ n, area ≠ .placement n)
    (new : x.boot.retired.rows.contains (rowNumber area row) = false) (spare : x.spareRowsUsed < 48) :
    (x.retireSramRow area row).boot.retired.rows = x.boot.retired.rows ++ [rowNumber area row] ∧ ∀ a, (x.retireSramRow area row).rd a = x.rd a := by
  rw [x.retireSramRow_eq row off new spare]
  exact ⟨congrArg RetireBank.rows (BootSt.retired_retire _ _), fun _ => rfl⟩

/-- The registers of an error in the local store that the row's own area adds nothing to (R292). -/
def sramErrorRegs : List Nat := [Adr.MEM_SRAM_UNCORR_CNT, Adr.MEM_EVENT, Adr.MEM_ERR_INFO]

/-- A half that has counted and captured an uncorrectable error in the local store. -/
def Half.sramError (x : Half) : Half :=
  (((x.count Adr.MEM_SRAM_UNCORR_CNT 0 32 1).event Adr.MEM_EVENT 4).life .sramUncorr 1).wrNat Adr.MEM_ERR_INFO 0xC0000000

theorem Half.sramError_shows (x : Half) : x.sramError.bit Adr.MEM_EVENT 4 = true ∧
    x.sramError.get Adr.MEM_SRAM_UNCORR_CNT 0 32 = satAdd 32 (x.get Adr.MEM_SRAM_UNCORR_CNT 0 32) 1 ∧
    x.sramError.rd Adr.MEM_ERR_INFO = 0xC0000000#32 ∧ x.sramError.boot = x.boot ∧ SameRegs sramErrorRegs x x.sramError := by
  unfold Half.sramError
  refine ⟨?_, ?_, Half.rd_wrNat_self .., rfl, fun a ha => ?_⟩
  · rw [Half.bit_congr (Half.rd_wrNat_ne _ _ (by decide)), Half.life_bit, Half.bit_event_self _ _ _ (by decide)]
  · rw [Half.get_congr (Half.rd_wrNat_ne _ _ (by decide)), Half.life_get, Half.get_congr (Half.rd_event_ne _ _ (by decide)), Half.count_eq,
      Half.get_put_self _ _ _ _ _ (by decide), satAdd_mod]
  · simp only [sramErrorRegs, List.mem_cons, List.not_mem_nil, or_false, not_or] at ha
    obtain ⟨count, event, info⟩ := ha
    rw [Half.rd_wrNat_ne _ _ info, Half.life_rd, Half.rd_event_ne _ _ event, Half.rd_count_ne _ _ _ _ count]

/-- What the error does beside its count: data of the firmware make the half give up, a placed buffer's node goes missing (R292, R459). -/
def Half.sramHits (x : Half) : SramArea → Half
  | .placement n => x.nodeMissing n
  | .firmware => x.giveUpFor 3
  | _ => x

theorem Half.sramHits_keepsErrors (x : Half) (area : SramArea) : KeepsErrors x (x.sramHits area) := by
  cases area with
  | placement n => exact ⟨rfl, fun _ _ => rfl⟩
  | firmware => exact .giveUpFor x 3
  | _ => exact .refl x

theorem Half.sramHits_none (x : Half) {area : SramArea} (off : ∀ n, area ≠ .placement n) (other : area ≠ .firmware) : x.sramHits area = x := by
  cases area with
  | placement n => exact absurd rfl (off n)
  | firmware => exact absurd rfl other
  | _ => rfl

section sram
variable {h : HalfId} {s : State} {area : SramArea} {row : Fin 2048}

theorem sramUncorrectable_shows (live : (s.half h).live = true) (off : ∀ n, area ≠ .placement n)
    (new : (s.half h).boot.retired.rows.contains (rowNumber area row) = false) (spare : (s.half h).spareRowsUsed < 48) :
    Completes (.sramUncorrectable h area row) s fun t => (t.half h).bit Adr.MEM_EVENT 4 = true ∧
      (t.half h).get Adr.MEM_SRAM_UNCORR_CNT 0 32 = satAdd 32 ((s.half h).get Adr.MEM_SRAM_UNCORR_CNT 0 32) 1 ∧
      (t.half h).rd Adr.MEM_ERR_INFO = 0xC0000000#32 ∧
      (t.half h).boot.retired.rows = (s.half h).boot.retired.rows ++ [rowNumber area row] ∧
      (area ≠ .firmware → SameRegs (sramErrorRegs ++ lineRegsOf) (s.half h) (t.half h)) := by
  have run : exec (.sramUncorrectable h area row) s =
      .next (s.on h fun x => if x.live then (x.sramError.sramHits area).retireSramRow area row else x).lines := by cases area <;> rfl
  refine completes_of run ?_
  have after := (State.lines_linesOnly (s.on h fun x => if x.live then (x.sramError.sramHits area).retireSramRow area row else x)).halves h
  rw [State.on_half, if_pos live] at after
  generalize (s.on h fun x => if x.live then (x.sramError.sramHits area).retireSramRow area row else x).lines.half h = z at after ⊢
  generalize s.half h = x at new spare after ⊢
  obtain ⟨event, count, info, boot, regs⟩ := x.sramError_shows
  have kept := x.sramError.sramHits_keepsErrors area
  have same : (x.sramError.sramHits area).boot = x.boot := kept.boot.trans boot
  obtain ⟨rows, rd⟩ := (x.sramError.sramHits area).retireSramRow_rows row off (by rw [same]; exact new) (by rw [Half.spareRowsUsed, same]; exact spare)
  have shown : ∀ a, a ∈ errorRegs → a ∉ lineRegsOf → z.rd a = x.sramError.rd a := fun a ha hl => by
    rw [after.regs a hl, rd, kept.regs a ha]
  refine ⟨?_, ?_, (shown _ (by decide) (by decide)).trans info, by rw [after.boot, rows, same], fun other a ha => ?_⟩
  · rw [Half.bit_congr (shown _ (by decide) (by decide)), event]
  · rw [Half.get_congr (shown _ (by decide) (by decide)), count]
  · rw [List.mem_append, not_or] at ha
    rw [after.regs a ha.2, rd, Half.sramHits_none _ off other, regs a ha.1]

/-- A half that has counted a corrected error of its local store (R292). -/
def Half.sramCorrected (x : Half) (k : Nat) : Half :=
  (((x.count Adr.MEM_SRAM_CORR_CNT 0 32 1).event Adr.MEM_EVENT 5).life .sramCorr 1).onStore fun t => { t with
    sramRows := insertAt k (x.recentErrors x.store.sramRows k) t.sramRows }

theorem Half.sramCorrected_shows (x : Half) (k : Nat) : (x.sramCorrected k).bit Adr.MEM_EVENT 5 = true ∧ (x.sramCorrected k).boot = x.boot ∧
    (x.sramCorrected k).get Adr.MEM_SRAM_CORR_CNT 0 32 = satAdd 32 (x.get Adr.MEM_SRAM_CORR_CNT 0 32) 1 ∧
    SameRegs [Adr.MEM_SRAM_CORR_CNT, Adr.MEM_EVENT] x (x.sramCorrected k) := by
  have reg : ∀ a, (x.sramCorrected k).rd a = ((x.count Adr.MEM_SRAM_CORR_CNT 0 32 1).event Adr.MEM_EVENT 5).rd a := fun _ => rfl
  refine ⟨?_, rfl, ?_, fun a ha => ?_⟩
  · rw [Half.bit_congr (reg _), Half.bit_event_self _ _ _ (by decide)]
  · rw [Half.get_congr (reg _), Half.get_congr (Half.rd_event_ne _ _ (by decide)), Half.count_eq, Half.get_put_self _ _ _ _ _ (by decide), satAdd_mod]
  · simp only [List.mem_cons, List.not_mem_nil, or_false, not_or] at ha
    rw [reg, Half.rd_event_ne _ _ ha.2, Half.rd_count_ne _ _ _ _ ha.1]

theorem sramCorrectedRead_completes (live : (s.half h).live = true) {P : Half → Prop}
    (shows_ : P (if 3 ≤ ((s.half h).recentErrors (s.half h).store.sramRows (rowNumber area row)).length
      then ((s.half h).sramCorrected (rowNumber area row)).retireSramRow area row else (s.half h).sramCorrected (rowNumber area row))) :
    CompletesAt (.sramCorrectedRead h area row) h s P := by
  refine completesAt_on rfl ?_
  rw [if_pos live]
  exact shows_

theorem sramCorrectedRead_retires (live : (s.half h).live = true) (off : ∀ n, area ≠ .placement n)
    (new : (s.half h).boot.retired.rows.contains (rowNumber area row) = false) (spare : (s.half h).spareRowsUsed < 48)
    (many : 3 ≤ ((s.half h).recentErrors (s.half h).store.sramRows (rowNumber area row)).length) :
    CompletesAt (.sramCorrectedRead h area row) h s fun x =>
      x.boot.retired.rows = (s.half h).boot.retired.rows ++ [rowNumber area row] ∧
      SameRegs [Adr.MEM_SRAM_CORR_CNT, Adr.MEM_EVENT] (s.half h) x := by
  refine sramCorrectedRead_completes live ?_
  rw [if_pos many]
  obtain ⟨-, boot, -, regs⟩ := (s.half h).sramCorrected_shows (rowNumber area row)
  generalize (s.half h).sramCorrected (rowNumber area row) = y at boot regs ⊢
  obtain ⟨rows, rd⟩ := y.retireSramRow_rows row off (by rw [boot]; exact new) (by rw [Half.spareRowsUsed, boot]; exact spare)
  exact ⟨by rw [rows, boot], fun a ha => (rd a).trans (regs a ha)⟩

end sram

/-! The end of a transfer (R293, R294). -/

/-- A half whose transfer is no longer BUSY. -/
def Half.xferIdle (x : Half) : Half :=
  ((x.wrNat Adr.MEM_XFER_STATUS 0).putBit Adr.MEM_STATUS 1 false).onStore fun t => { t with xferLeft := 0, xferBad := false }

theorem Half.xferIdle_shows (x : Half) : x.xferIdle.bit Adr.MEM_STATUS 1 = false ∧ x.xferIdle.rd Adr.MEM_XFER_STATUS = 0 ∧
    x.xferIdle.store.dram = x.store.dram ∧ SameRegs [Adr.MEM_STATUS, Adr.MEM_XFER_STATUS] x x.xferIdle := by
  have idle := Half.bit_putBit_self (x.wrNat Adr.MEM_XFER_STATUS 0) Adr.MEM_STATUS 1 false (by decide)
  have moves := ((Writes.refl (· ∈ [Adr.MEM_STATUS, Adr.MEM_XFER_STATUS]) x).wrNat (a := Adr.MEM_XFER_STATUS) 0 (by simp)).putBit
    (a := Adr.MEM_STATUS) 1 false (by simp)
  have status : ((x.wrNat Adr.MEM_XFER_STATUS 0).putBit Adr.MEM_STATUS 1 false).rd Adr.MEM_XFER_STATUS = 0 := by
    rw [Half.rd_putBit_ne _ _ _ (by decide), Half.rd_wrNat_self]
    decide
  unfold Half.xferIdle
  generalize (x.wrNat Adr.MEM_XFER_STATUS 0).putBit Adr.MEM_STATUS 1 false = y at idle moves status ⊢
  exact ⟨idle, status, by rw [moves.same]; rfl, moves.sameRegs⟩

theorem Half.xferEnd_ok (x : Half) (good : x.store.xferBad = false) : x.xferEnd 0 = x.xferIdle := by
  simp only [Half.xferEnd, good]
  rfl

theorem Half.xferEnd_failed (x : Half) : x.xferEnd 4 = x.xferIdle.xferError 4 := rfl

theorem Half.xferError_shows (x : Half) {cause : Nat} : (x.xferError cause).bit Adr.MEM_XFER_STATUS 30 = true ∧
    (x.xferError cause).get Adr.MEM_XFER_STATUS 24 4 = cause % 2 ^ 4 ∧ (x.xferError cause).bit Adr.MEM_EVENT 3 = true ∧
    (x.xferError cause).bit Adr.MEM_XFER_STATUS 31 = x.bit Adr.MEM_XFER_STATUS 31 ∧
    Writes (· ∈ [Adr.MEM_XFER_STATUS, Adr.MEM_EVENT]) x (x.xferError cause) := by
  unfold Half.xferError
  refine ⟨?_, ?_, Half.bit_event_self _ _ _ (by decide), ?_, (((Writes.refl _ x).putBit 30 true (by simp)).put 24 4 cause (by simp)).event 3 (by simp)⟩
  · rw [Half.bit_event_ne _ _ _ (by decide), Half.bit_put_field _ _ _ _ _ _ (by decide) (by decide), Half.bit_putBit_self _ _ _ _ (by decide)]
  · rw [Half.get_congr (Half.rd_event_ne _ _ (by decide)), Half.get_put_self _ _ _ _ _ (by decide)]
  · rw [Half.bit_event_ne _ _ _ (by decide), Half.bit_put_field _ _ _ _ _ _ (by decide) (by decide), Half.bit_putBit_bit _ _ _ _ _ (by decide) (by decide)]

section xfer
variable {h : HalfId} {s : State}

theorem xferComplete_completes (ok : Bool) (data : List Byte) (busy : (s.half h).bit Adr.MEM_STATUS 1 = true)
    (dma : (s.half h).store.xferPio = false) {P : Half → Prop}
    (shows_ : P (if !ok then (s.half h).xferEnd 4
      else if (s.half h).store.xferArea = 0 then
        ((s.half h).onStore fun t => t.write (s.half h).xferAt (data.take t.xferLeft)).xferEnd 0
      else ((s.half h).onStore fun t => { t with xferBad := t.xferBad || t.poisoned (s.half h).xferAt t.xferLeft }).xferEnd 0)) :
    CompletesAt (.xferComplete h ok data) h s P := by
  refine completesAt_on rfl ?_
  rw [if_pos (by rw [busy, dma]; rfl)]
  exact shows_

theorem xferComplete_fails (data : List Byte) (busy : (s.half h).bit Adr.MEM_STATUS 1 = true) (dma : (s.half h).store.xferPio = false) :
    CompletesAt (.xferComplete h false data) h s fun x => x.bit Adr.MEM_STATUS 1 = false ∧ x.bit Adr.MEM_XFER_STATUS 31 = false ∧
      x.bit Adr.MEM_XFER_STATUS 30 = true ∧ x.get Adr.MEM_XFER_STATUS 24 4 = 4 ∧ x.bit Adr.MEM_EVENT 3 = true ∧
      x.store.dram = (s.half h).store.dram ∧ SameRegs [Adr.MEM_STATUS, Adr.MEM_XFER_STATUS, Adr.MEM_EVENT] (s.half h) x := by
  refine xferComplete_completes false data busy dma ?_
  rw [if_pos (by decide), Half.xferEnd_failed]
  obtain ⟨idle, status, dram, regs⟩ := (s.half h).xferIdle_shows
  generalize (s.half h).xferIdle = y at idle status dram regs ⊢
  obtain ⟨error, cause, event, others, moves⟩ := y.xferError_shows (cause := 4)
  refine ⟨(moves.bit (by decide) 1).trans idle, others.trans ?_, error, cause, event, by rw [moves.same]; exact dram, ?_⟩
  · rw [Half.bit, Half.get, status]
    decide
  · exact (regs.mono (by simp +contextual)).trans (moves.sameRegs.mono (by simp +contextual))

theorem StoreSt.write_xferBad (t : StoreSt) (a : Nat) (bs : List Byte) : (t.write a bs).xferBad = t.xferBad := by
  have each : ∀ (l : List (List Byte × Nat)) (t : StoreSt), (l.foldl (fun x p =>
      x.setWord (a / 4 + p.2) (BitVec.ofNat 32 (leNat p.1))) t).xferBad = t.xferBad := fun l => by
    induction l with
    | nil => exact fun _ => rfl
    | cons p l ih => exact fun t => (ih _).trans rfl
  exact each _ t

theorem xferComplete_stores (data : List Byte) (busy : (s.half h).bit Adr.MEM_STATUS 1 = true) (dma : (s.half h).store.xferPio = false)
    (staging : (s.half h).store.xferArea = 0) (good : (s.half h).store.xferBad = false) :
    CompletesAt (.xferComplete h true data) h s fun x => x.bit Adr.MEM_STATUS 1 = false ∧ x.rd Adr.MEM_XFER_STATUS = 0 ∧
      x.store.dram = ((s.half h).store.write (s.half h).xferAt (data.take (s.half h).store.xferLeft)).dram ∧
      SameRegs [Adr.MEM_STATUS, Adr.MEM_XFER_STATUS] (s.half h) x := by
  refine xferComplete_completes true data busy dma ?_
  rw [if_neg (by decide), if_pos staging]
  generalize s.half h = x at good ⊢
  have whole : (x.onStore fun t => t.write x.xferAt (data.take t.xferLeft)).store.xferBad = false := (StoreSt.write_xferBad _ _ _).trans good
  rw [Half.xferEnd_ok _ whole]
  exact Half.xferIdle_shows _

end xfer

/-- Settles O35: each error is counted first, what its data's use adds leaves the count and the retirement list alone, and its page or
row is retired last. -/
theorem memoryErrorsRetirePagesAndRows : Obligations.MemoryErrorsRetirePagesAndRows := by
  intro h s
  refine ⟨fun addr two live up => ⟨fun one few => ?_, fun many spare => ?_⟩, fun addr use live up spare => ⟨?_, ?_, ?_, ?_⟩,
    fun late live up => scrubPassComplete_shows late live up, fun area row live off new spare =>
      ⟨sramUncorrectable_shows live off new spare, fun few => ?_, fun many => sramCorrectedRead_retires live off new spare many⟩,
    fun data busy dma => ⟨xferComplete_fails data busy dma, fun staging good => xferComplete_stores data busy dma staging good⟩⟩
  · refine dramCorrectedRead_completes addr two live up ?_
    rw [if_neg (by simp [one, Nat.not_le.2 few])]
    exact Half.corrected_shows _ _
  · refine dramCorrectedRead_completes addr two live up ?_
    rw [if_pos (by simpa using many)]
    exact Half.corrected_retires _ _ spare
  · refine dramUncorrectableRead_completes addr use live up fun t hy => ?_
    obtain ⟨event, count, at_, pages⟩ := (s.half h).poisonedAt_shows addr.toNat use spare
    refine ⟨(hy.bit (by decide)).trans event, (hy.get (by decide)).trans count, ?_, by rw [hy.boot]; exact pages⟩
    rw [hy.regs _ (by decide), at_, BitVec.ofNat_toNat, BitVec.setWidth_eq]
  · rintro rfl
    refine dramUncorrectableRead_completes addr .transfer live up fun t hy => ?_
    obtain ⟨bad, poison, regs⟩ := (s.half h).poisonedAt_transfer addr.toNat spare
    refine ⟨by rw [hy.store]; exact bad, by rw [hy.store]; exact poison, fun a ha => ?_⟩
    rw [List.mem_append, not_or] at ha
    rw [hy.regs a ha.2, regs a ha.1]
  · rintro n rfl off
    refine dramUncorrectableRead_completes addr (.node n) live up fun t hy => ?_
    rw [hy.graph]
    exact (s.half h).poisonedAt_node addr.toNat n off
  · rintro p rfl plays
    refine dramUncorrectableRead_completes addr (.player p) live up fun t hy => ?_
    obtain ⟨stopped, fault, cause⟩ := (s.half h).poisonedAt_player addr.toNat p plays spare
    have lines := (player_apart p).2.2
    exact ⟨(hy.bit lines).trans stopped, (hy.bit lines).trans fault, (hy.get lines).trans cause⟩
  · refine sramCorrectedRead_completes live ?_
    rw [if_neg (Nat.not_le.2 few)]
    exact Half.sramCorrected_shows _ _

end Sys2Proof.Machine
end

section
/-! O36: loads of the message library, their copies and the daily check (R299 to R306). -/

namespace Sys2Proof.Machine

open Sys2Proof

/-! What a bank holds follows from the store and the partition. -/

theorem Half.bankBase_congr {x y : Half} (bytes : y.bankBytes = x.bankBytes) : y.bankBase = x.bankBase := by
  unfold Half.bankBase
  rw [bytes]

theorem Half.validMessages_congr {x y : Half} (bytes : y.bankBytes = x.bankBytes) (store : y.store = x.store) :
    y.validMessages = x.validMessages := by
  have entry : y.entry = x.entry := by
    unfold Half.entry
    rw [Half.bankBase_congr bytes, store]
  unfold Half.validMessages
  rw [Half.bankBase_congr bytes, store, entry]

theorem Half.commitRecord_congr {x y : Half} (bytes : y.bankBytes = x.bankBytes) (store : y.store = x.store) :
    y.commitRecord = x.commitRecord := by
  have crc : y.bankCrc = x.bankCrc := by
    unfold Half.bankCrc
    rw [Half.bankBase_congr bytes, store]
  unfold Half.commitRecord
  rw [Half.validMessages_congr bytes store, crc]

theorem Half.mem_validMessages_lt {x : Half} {bank m : Nat} (hm : m ∈ x.validMessages bank) : m < 4096 := by
  obtain ⟨p, -, hp⟩ := List.mem_filterMap.1 hm
  split at hp
  · next inside =>
    have := Option.some.inj hp
    omega
  · exact absurd hp nofun

/-! A load waits for its switch (R299). -/

theorem Half.setLib_state (x : Half) (v : Nat) : (x.setLib v).libState = v % 8 := Half.get_put_self _ _ _ _ _ (by decide)

theorem Half.setLib_writes (x : Half) (v : Nat) : Writes (· ∈ [Adr.MSG_STATUS]) x (x.setLib v) := (Writes.refl _ x).put 4 3 v (by simp)

/-- The store once a load waits for its switch. -/
def StoreSt.pend (t : StoreSt) (target : Nat) : StoreSt := { t with pendingAt := some target, copying := none }

/-- A half whose load waits for its switch, with the store as f leaves it. -/
theorem Half.pend_shows (x : Half) (f : StoreSt → StoreSt) (target : Nat) :
    (((x.onStore f).setLib 5).onStore fun t => t.pend target).libState = 5 ∧
      (((x.onStore f).setLib 5).onStore fun t => t.pend target).store = (f x.store).pend target ∧
      SameRegs [Adr.MSG_STATUS] x (((x.onStore f).setLib 5).onStore fun t => t.pend target) := by
  have state := (x.onStore f).setLib_state 5
  have moves := (x.onStore f).setLib_writes 5
  have store : ((x.onStore f).setLib 5).store = f x.store := rfl
  generalize (x.onStore f).setLib 5 = y at state moves store ⊢
  exact ⟨state, congrArg (StoreSt.pend · target) store, fun a ha => moves.keeps a ha⟩

theorem Half.pendLibrary_shows (x : Half) (gen target : Nat) : (x.pendLibrary gen target).libState = 5 ∧
    (x.pendLibrary gen target).store = (x.store.write (x.recordBase x.bankOut) (x.commitRecord x.bankOut gen)).pend target ∧
    SameRegs [Adr.MSG_STATUS] x (x.pendLibrary gen target) := by
  have run : x.pendLibrary gen target = ((x.onStore fun t => t.write (x.recordBase x.bankOut) (x.commitRecord x.bankOut gen)).setLib 5).onStore
      fun t => t.pend target := rfl
  rw [run]
  exact x.pend_shows _ target

/-- The registers of a load committed alone (R299). -/
def Half.loneLoad (x : Half) (cause : Nat) : Half :=
  ((if cause = 2 then x.wrNat Adr.MSG_LIB_DETAIL 0x05000000 else x).latch Adr.MSG_FAULT cause).putBit Adr.MSG_BULK_STATUS 31 false

theorem Half.loneLoad_shows (x : Half) {cause : Nat} (hc : cause < 0x10000) : (x.loneLoad cause).get Adr.MSG_FAULT 0 16 = cause ∧
    (x.loneLoad cause).bit Adr.MSG_BULK_STATUS 31 = false ∧ (cause = 2 → (x.loneLoad cause).rd Adr.MSG_LIB_DETAIL = 0x05000000#32) ∧
    SameRegs [Adr.MSG_FAULT, Adr.MSG_LIB_DETAIL, Adr.MSG_BULK_STATUS] x (x.loneLoad cause) ∧
    (cause ≠ 2 → SameRegs [Adr.MSG_FAULT, Adr.MSG_BULK_STATUS] x (x.loneLoad cause)) := by
  unfold Half.loneLoad
  refine ⟨?_, Half.bit_putBit_self _ _ _ _ (by decide), fun two => ?_, fun a ha => ?_, fun other a ha => ?_⟩
  · rw [Half.get_congr (Half.rd_putBit_ne _ _ _ (by decide)), Half.get_latch_cause, Nat.mod_eq_of_lt hc]
  · rw [if_pos two, Half.rd_putBit_ne _ _ _ (by decide), Half.rd_latch_ne _ _ (by decide), Half.rd_wrNat_self]
  · simp only [List.mem_cons, List.not_mem_nil, or_false, not_or] at ha
    obtain ⟨fault, detail, bulk⟩ := ha
    rw [Half.rd_putBit_ne _ _ _ bulk, Half.rd_latch_ne _ _ fault]
    split
    · exact Half.rd_wrNat_ne _ _ detail
    · rfl
  · simp only [List.mem_cons, List.not_mem_nil, or_false, not_or] at ha
    rw [Half.rd_putBit_ne _ _ _ ha.2, Half.rd_latch_ne _ _ ha.1, if_neg other]

theorem Half.commitAlone_eq (x : Half) (cause ofs : Nat) :
    x.commitAlone cause ofs = (x.loneLoad cause).pendLibrary x.nextGen (x.libTarget ofs) := rfl

/-- A load that goes on without the standby (R299). -/
theorem Half.commitAlone_shows (x : Half) {cause : Nat} (ofs : Nat) (hc : cause < 0x10000) : (x.commitAlone cause ofs).libState = 5 ∧
    (x.commitAlone cause ofs).get Adr.MSG_FAULT 0 16 = cause ∧ (x.commitAlone cause ofs).bit Adr.MSG_BULK_STATUS 31 = false ∧
    (x.commitAlone cause ofs).store.pendingAt = some (x.libTarget ofs) ∧ (x.commitAlone cause ofs).store.copying = none ∧
    (cause = 2 → (x.commitAlone cause ofs).rd Adr.MSG_LIB_DETAIL = 0x05000000#32) ∧
    SameRegs [Adr.MSG_STATUS, Adr.MSG_FAULT, Adr.MSG_LIB_DETAIL, Adr.MSG_BULK_STATUS] x (x.commitAlone cause ofs) ∧
    (cause ≠ 2 → SameRegs [Adr.MSG_STATUS, Adr.MSG_FAULT, Adr.MSG_BULK_STATUS] x (x.commitAlone cause ofs)) := by
  obtain ⟨fault, bulk, detail, regs, fewer⟩ := x.loneLoad_shows hc
  rw [Half.commitAlone_eq]
  generalize x.loneLoad cause = y at fault bulk detail regs fewer ⊢
  obtain ⟨state, store, status⟩ := y.pendLibrary_shows x.nextGen (x.libTarget ofs)
  exact ⟨state, (status.get (by decide) 0 16).trans fault, (status.bit (by decide) 31).trans bulk, congrArg StoreSt.pendingAt store, congrArg StoreSt.copying store,
    fun two => (status _ (by decide)).trans (detail two), (regs.mono (by simp +contextual)).trans (status.mono (by simp +contextual)),
    fun other => ((fewer other).mono (by simp +contextual)).trans (status.mono (by simp +contextual))⟩

theorem Half.startCopy_rd (x : Half) (load : Bool) (a : Nat) : (x.startCopy load).rd a = (x.wrNat Adr.MSG_BULK_STATUS 0x80000000).rd a := by
  rw [Half.startCopy, Half.onStore_rd]

section library
variable {h : HalfId} {ofs : BlockOfs} {s : State}

/-! The end of a verification (R299, R300). -/

theorem libraryVerificationComplete_completes (verify : (s.half h).libState = 2) (live : (s.half h).live = true) {P : Half → Prop}
    (shows_ : P (match (s.half h).verifyBank (s.half h).bankOut ((s.half h).get Adr.MSG_LIB_COMMIT 0 13) with
      | some (r, m) => ((((s.half h).setLib 1).event Adr.MSG_EVENT 1).latch Adr.MSG_FAULT 1).wrNat Adr.MSG_LIB_DETAIL (2 ^ 24 * r + m)
      | none =>
        let y := (s.half h).wrNat Adr.MSG_LIB_DETAIL 0
        if y.role == .active && y.partnerStandby then (y.setLib 3).startCopy true
        else y.pendLibrary y.nextGen (y.libTarget ofs))) : CompletesAt (.libraryVerificationComplete h ofs) h s P := by
  refine completesAt_on rfl ?_
  rw [if_neg (by rw [verify, live]; decide)]
  exact shows_

theorem verification_fails (verify : (s.half h).libState = 2) (live : (s.half h).live = true) {r m : Nat}
    (bad : (s.half h).verifyBank (s.half h).bankOut ((s.half h).get Adr.MSG_LIB_COMMIT 0 13) = some (r, m)) :
    CompletesAt (.libraryVerificationComplete h ofs) h s fun x => x.libState = 1 ∧ x.bit Adr.MSG_EVENT 1 = true ∧
      x.get Adr.MSG_FAULT 0 16 = 1 ∧ x.rd Adr.MSG_LIB_DETAIL = BitVec.ofNat 32 (2 ^ 24 * r + m) ∧
      SameRegs [Adr.MSG_STATUS, Adr.MSG_EVENT, Adr.MSG_FAULT, Adr.MSG_LIB_DETAIL] (s.half h) x := by
  refine libraryVerificationComplete_completes verify live ?_
  rw [bad]
  simp only
  have state := (s.half h).setLib_state 1
  have moves := (s.half h).setLib_writes 1
  generalize (s.half h).setLib 1 = y at state moves ⊢
  generalize 2 ^ 24 * r + m = detail
  refine ⟨?_, ?_, ?_, Half.rd_wrNat_self .., ?_⟩
  · rw [Half.libState, Half.get_congr (Half.rd_wrNat_ne _ _ (by decide)), Half.get_congr (Half.rd_latch_ne _ _ (by decide)),
      Half.get_congr (Half.rd_event_ne _ _ (by decide))]
    exact state
  · rw [Half.bit_congr (Half.rd_wrNat_ne _ _ (by decide)), Half.bit_congr (Half.rd_latch_ne _ _ (by decide)), Half.bit_event_self _ _ _ (by decide)]
  · rw [Half.get_congr (Half.rd_wrNat_ne _ _ (by decide)), Half.get_latch_cause]
  · exact (moves.sameRegs.mono (by simp +contextual)).trans
      ((((Writes.refl _ y).event 1 (by simp)).latch 1 (by simp)).wrNat detail (by simp)).sameRegs

theorem verification_copies (verify : (s.half h).libState = 2) (live : (s.half h).live = true)
    (good : (s.half h).verifyBank (s.half h).bankOut ((s.half h).get Adr.MSG_LIB_COMMIT 0 13) = none) (active : (s.half h).role = .active)
    (standby : (s.half h).partnerStandby = true) :
    CompletesAt (.libraryVerificationComplete h ofs) h s fun x => x.libState = 3 ∧ x.store.copying = some true ∧
      x.rd Adr.MSG_BULK_STATUS = 0x80000000#32 ∧
      SameRegs [Adr.MSG_STATUS, Adr.MSG_LIB_DETAIL, Adr.MSG_BULK_STATUS] (s.half h) x := by
  refine libraryVerificationComplete_completes verify live ?_
  rw [good]
  simp only
  have role : ((s.half h).wrNat Adr.MSG_LIB_DETAIL 0).role = .active := (Half.role_of_rd (Half.rd_wrNat_ne _ _ (by decide))).trans active
  have seen : ((s.half h).wrNat Adr.MSG_LIB_DETAIL 0).partnerStandby = true := by
    rw [← standby, Half.partnerStandby, Half.partnerStandby, Half.bit_congr (Half.rd_wrNat_ne _ _ (by decide))]
    rfl
  have cleared := (Writes.refl (· ∈ [Adr.MSG_LIB_DETAIL]) (s.half h)).wrNat (a := Adr.MSG_LIB_DETAIL) 0 (by simp)
  generalize (s.half h).wrNat Adr.MSG_LIB_DETAIL 0 = y at role seen cleared ⊢
  rw [if_pos (by rw [role, seen]; rfl)]
  have state := y.setLib_state 3
  have moves := y.setLib_writes 3
  generalize y.setLib 3 = z at state moves ⊢
  have reg := z.startCopy_rd true
  refine ⟨?_, rfl, ?_, fun a ha => ?_⟩
  · rw [Half.libState, Half.get_congr (reg _), Half.get_congr (Half.rd_wrNat_ne _ _ (by decide))]
    exact state
  · rw [reg, Half.rd_wrNat_self]
  · simp only [List.mem_cons, List.not_mem_nil, or_false, not_or] at ha
    obtain ⟨status, detail, bulk⟩ := ha
    rw [reg, Half.rd_wrNat_ne _ _ bulk, moves.keeps a (by simpa using status), cleared.keeps a (by simpa using detail)]

theorem verification_pends (verify : (s.half h).libState = 2) (live : (s.half h).live = true)
    (good : (s.half h).verifyBank (s.half h).bankOut ((s.half h).get Adr.MSG_LIB_COMMIT 0 13) = none) (alone : (s.half h).partnerStandby = false) :
    CompletesAt (.libraryVerificationComplete h ofs) h s fun x => x.libState = 5 ∧
      x.store = { (s.half h).store.write ((s.half h).recordBase (s.half h).bankOut)
          ((s.half h).commitRecord (s.half h).bankOut (s.half h).nextGen) with
        pendingAt := some ((s.half h).block + if ofs.val = 0 then 2 else 3), copying := none } ∧
      SameRegs [Adr.MSG_STATUS, Adr.MSG_LIB_DETAIL] (s.half h) x := by
  refine libraryVerificationComplete_completes verify live ?_
  rw [good]
  simp only
  generalize s.half h = x at alone ⊢
  have unseen : (x.wrNat Adr.MSG_LIB_DETAIL 0).partnerStandby = false := by
    rw [← alone, Half.partnerStandby, Half.partnerStandby, Half.bit_congr (Half.rd_wrNat_ne _ _ (by decide))]
    rfl
  have cleared := (Writes.refl (· ∈ [Adr.MSG_LIB_DETAIL]) x).wrNat (a := Adr.MSG_LIB_DETAIL) 0 (by simp)
  generalize x.wrNat Adr.MSG_LIB_DETAIL 0 = y at unseen cleared ⊢
  rw [if_neg (by rw [unseen, Bool.and_false]; decide)]
  have store : y.store = x.store := by rw [cleared.same]
  have bytes : y.bankBytes = x.bankBytes := by rw [Half.bankBytes, Half.bankBytes, cleared.get (by decide)]
  have bank : y.bankOut = x.bankOut := by rw [Half.bankOut, Half.bankOut, Half.bankIn, Half.bankIn, cleared.get (by decide)]
  have gen : y.nextGen = x.nextGen := by rw [Half.nextGen, Half.nextGen, cleared.keeps _ (by decide)]
  have block : y.block = x.block := by rw [cleared.same]
  obtain ⟨state, stored, status⟩ := y.pendLibrary_shows y.nextGen (y.libTarget ofs)
  refine ⟨state, ?_, (cleared.sameRegs.mono (by simp +contextual)).trans (status.mono (by simp +contextual))⟩
  rw [stored, Half.recordBase, Half.bankBase_congr bytes, Half.commitRecord_congr bytes store, store, bank, gen, Half.libTarget, block]
  rfl

/-! The end of a copy (R299, R303, R304). -/

/-- A half whose bulk copy is over, with what its register shows. -/
def Half.copyOver (x : Half) (w : Nat) : Half := (x.wrNat Adr.MSG_BULK_STATUS w).onStore fun t => { t with copying := none }

theorem Half.copyOver_shows (x : Half) (w : Nat) : (x.copyOver w).rd Adr.MSG_BULK_STATUS = BitVec.ofNat 32 w ∧
    (x.copyOver w).store = { x.store with copying := none } ∧ (x.copyOver w).block = x.block ∧
    SameRegs [Adr.MSG_BULK_STATUS] x (x.copyOver w) := by
  have reg : ∀ a, (x.copyOver w).rd a = (x.wrNat Adr.MSG_BULK_STATUS w).rd a := fun a => by rw [Half.copyOver, Half.onStore_rd]
  refine ⟨(reg _).trans (Half.rd_wrNat_self ..), rfl, rfl, fun a ha => ?_⟩
  rw [reg, Half.rd_wrNat_ne _ _ (by simpa using ha)]

theorem bulkCopyComplete_aborts {load : Bool} (copying : (s.half h).store.copying = some load) {P : Half → Prop}
    (shows_ : P (if load then ((s.half h).copyOver 0x40000000).commitAlone 3 ofs else ((s.half h).copyOver 0x40000000).latch Adr.MSG_FAULT 3)) :
    CompletesAt (.bulkCopyComplete h false ofs) h s P := by
  refine completesAt_on (f := fun x => if load then (x.copyOver 0x40000000).commitAlone 3 ofs else (x.copyOver 0x40000000).latch Adr.MSG_FAULT 3)
    ?_ shows_
  show Host.Outcome.next (match (s.half h).store.copying with | none => _ | some _ => _) = _
  rw [copying]
  rfl

theorem bulkCopy_loadAborts (copying : (s.half h).store.copying = some true) :
    CompletesAt (.bulkCopyComplete h false ofs) h s fun x => x.libState = 5 ∧ x.get Adr.MSG_FAULT 0 16 = 3 ∧
      x.store.pendingAt = some ((s.half h).block + if ofs.val = 0 then 2 else 3) ∧ x.store.copying = none ∧
      SameRegs [Adr.MSG_STATUS, Adr.MSG_FAULT, Adr.MSG_BULK_STATUS] (s.half h) x := by
  refine bulkCopyComplete_aborts copying ?_
  rw [if_pos rfl]
  obtain ⟨-, -, block, over_⟩ := (s.half h).copyOver_shows 0x40000000
  generalize (s.half h).copyOver 0x40000000 = y at block over_ ⊢
  obtain ⟨state, fault, -, pending, copied, -, -, fewer⟩ := y.commitAlone_shows (cause := 3) ofs (by decide)
  exact ⟨state, fault, by rw [pending, Half.libTarget, block], copied,
    (over_.mono (by simp +contextual)).trans (fewer (by decide))⟩

theorem bulkCopy_resyncAborts (copying : (s.half h).store.copying = some false) :
    CompletesAt (.bulkCopyComplete h false ofs) h s fun x => x.get Adr.MSG_FAULT 0 16 = 3 ∧
      x.rd Adr.MSG_BULK_STATUS = 0x40000000#32 ∧ x.store = { (s.half h).store with copying := none } ∧
      SameRegs [Adr.MSG_FAULT, Adr.MSG_BULK_STATUS] (s.half h) x := by
  refine bulkCopyComplete_aborts copying ?_
  rw [if_neg (by decide)]
  obtain ⟨bulk, store, -, over_⟩ := (s.half h).copyOver_shows 0x40000000
  generalize (s.half h).copyOver 0x40000000 = y at bulk store over_ ⊢
  have latched := (Writes.refl (· ∈ [Adr.MSG_FAULT]) y).latch (a := Adr.MSG_FAULT) 3 (by simp)
  exact ⟨Half.get_latch_cause .., (latched.keeps _ (by decide)).trans bulk, by rw [latched.same]; exact store,
    (over_.mono (by simp +contextual)).trans (latched.sameRegs.mono (by simp +contextual))⟩

theorem State.finishCopy_load (s : State) (h : HalfId) : ∃ mb, s.finishCopy h true =
    ((s.on h.other fun x => x.takeCopy ((s.half h).copyWords (s.half h).bankOut)).on h fun x => x.copyOver mb).on h fun x => x.setLib 4 :=
  ⟨_, rfl⟩

/-- A half that verifies the copy in its staging bank and commits it with a generation (R303). -/
def Half.takeLibrary (x : Half) (gen : Nat) : Half :=
  match x.verifyBank x.bankOut (x.validMessages x.bankOut).length with
  | none =>
    let y := x.pendLibrary gen (x.block + 1)
    if y.get Adr.DIE_BOOT_STATUS 4 4 = 4 then y.libSource 1 else y
  | some _ => x

theorem State.finishCopy_resync (s : State) (h : HalfId) : ∃ mb, s.finishCopy h false =
    ((s.on h.other fun x => x.takeCopy ((s.half h).copyWords (s.half h).bankIn)).on h fun x => x.copyOver mb).on h.other fun x =>
      x.takeLibrary ((s.half h).rd Adr.MSG_LIB_GEN).toNat := ⟨_, rfl⟩

theorem Half.takeLibrary_pends (x : Half) (gen : Nat) (good : x.verifyBank x.bankOut (x.validMessages x.bankOut).length = none) :
    (x.takeLibrary gen).libState = 5 ∧ (x.takeLibrary gen).store.pendingAt = some (x.block + 1) ∧
      SameRegs [Adr.MSG_STATUS, Adr.DIE_BOOT_STATUS] x (x.takeLibrary gen) := by
  obtain ⟨state, store, status⟩ := x.pendLibrary_shows gen (x.block + 1)
  have pending := congrArg StoreSt.pendingAt store
  unfold Half.takeLibrary
  rw [good]
  simp only
  generalize x.pendLibrary gen (x.block + 1) = y at state status pending ⊢
  split
  · have moves := (Writes.refl (· ∈ [Adr.DIE_BOOT_STATUS]) y).put (a := Adr.DIE_BOOT_STATUS) 4 4 1 (by simp)
    exact ⟨(moves.get (by decide) 4 3).trans state, pending, (status.mono (by simp +contextual)).trans (moves.sameRegs.mono (by simp +contextual))⟩
  · exact ⟨state, pending, status.mono (by simp +contextual)⟩

theorem bulkCopyComplete_finishes {load : Bool} (copying : (s.half h).store.copying = some load) (can : s.canCopy h = true) :
    exec (.bulkCopyComplete h true ofs) s = .next (s.finishCopy h load) := by
  show Host.Outcome.next (match (s.half h).store.copying with | none => _ | some _ => _) = _
  rw [copying]
  simp only [can, Bool.and_self, if_true]

theorem bulkCopy_loads (copying : (s.half h).store.copying = some true) (can : s.canCopy h = true) :
    Completes (.bulkCopyComplete h true ofs) s fun t => (t.half h).libState = 4 ∧ (t.half h).store.copying = none ∧
      t.half h.other = (s.half h.other).takeCopy ((s.half h).copyWords (s.half h).bankOut) ∧
      SameRegs [Adr.MSG_STATUS, Adr.MSG_BULK_STATUS] (s.half h) (t.half h) := by
  refine completes_of (bulkCopyComplete_finishes copying can) ?_
  obtain ⟨mb, e⟩ := s.finishCopy_load h
  obtain ⟨-, store, -, over_⟩ := (s.half h).copyOver_shows mb
  rw [e, State.on_half, State.on_half, State.on_other_half, State.on_other, State.on_other, State.on_half]
  generalize (s.half h).copyOver mb = y at store over_ ⊢
  have moves := y.setLib_writes 4
  exact ⟨y.setLib_state 4, (congrArg StoreSt.copying store : y.store.copying = _), rfl,
    (over_.mono (by simp +contextual)).trans (moves.sameRegs.mono (by simp +contextual))⟩

theorem bulkCopy_resyncs (copying : (s.half h).store.copying = some false) (can : s.canCopy h = true) :
    Completes (.bulkCopyComplete h true ofs) s fun t => (t.half h).store.copying = none ∧
      SameRegs [Adr.MSG_BULK_STATUS] (s.half h) (t.half h) ∧
      ∀ y, y = (s.half h.other).takeCopy ((s.half h).copyWords (s.half h).bankIn) →
        y.verifyBank y.bankOut (y.validMessages y.bankOut).length = none →
        (t.half h.other).libState = 5 ∧ (t.half h.other).store.pendingAt = some ((s.half h.other).block + 1) ∧
        SameRegs [Adr.MSG_STATUS, Adr.DIE_BOOT_STATUS] (s.half h.other) (t.half h.other) := by
  refine completes_of (bulkCopyComplete_finishes copying can) ?_
  obtain ⟨mb, e⟩ := s.finishCopy_resync h
  obtain ⟨-, store, -, over_⟩ := (s.half h).copyOver_shows mb
  rw [e, State.on_other_half, State.on_half, State.on_other_half, State.on_half, State.on_other, State.on_half]
  refine ⟨congrArg StoreSt.copying store, over_, fun y hy good => ?_⟩
  have block : y.block = (s.half h.other).block := by rw [hy]; rfl
  have reg : ∀ a, y.rd a = (s.half h.other).rd a := fun a => by rw [hy, Half.takeCopy, Half.onStore_rd]
  rw [← hy, ← block]
  obtain ⟨state, pending, regs⟩ := y.takeLibrary_pends ((s.half h).rd Adr.MSG_LIB_GEN).toNat good
  exact ⟨state, pending, fun a ha => (regs a ha).trans (reg a)⟩

/-! The standby's own verification (R299). -/

theorem partnerVerifyResult_runs (state : (s.half h).libState = 4) (link : (s.half h).linkUp = true) (standby : (s.half h.other).role = .standby) :
    exec (.partnerVerifyResult h ofs) s =
      .next (match (s.half h.other).verifyBank (s.half h.other).bankOut ((s.half h).get Adr.MSG_LIB_COMMIT 0 13) with
        | some _ => s.on h fun x => x.commitAlone 2 ofs
        | none => (s.on h fun x => x.pendLibrary x.nextGen ((s.half h).libTarget ofs)).on h.other fun x =>
          x.pendLibrary (s.half h).nextGen ((s.half h).libTarget ofs)) :=
  congrArg Host.Outcome.next ((if_neg (by rw [state]; decide)).trans ((if_neg (by rw [link, standby]; decide)).trans rfl))

theorem partnerVerifyResult_pends (state : (s.half h).libState = 4) (link : (s.half h).linkUp = true) (standby : (s.half h.other).role = .standby)
    (good : (s.half h.other).verifyBank (s.half h.other).bankOut ((s.half h).get Adr.MSG_LIB_COMMIT 0 13) = none) :
    Completes (.partnerVerifyResult h ofs) s fun t => ∀ k, (t.half k).libState = 5 ∧
      (t.half k).store = ((s.half k).store.write ((s.half k).recordBase (s.half k).bankOut)
        ((s.half k).commitRecord (s.half k).bankOut (s.half h).nextGen)).pend ((s.half h).libTarget ofs) ∧
      SameRegs [Adr.MSG_STATUS] (s.half k) (t.half k) := by
  refine completes_of (partnerVerifyResult_runs state link standby) fun k => ?_
  rw [good]
  simp only
  obtain rfl | rfl : k = h ∨ k = h.other := by cases k <;> cases h <;> decide
  · rw [State.on_other_half, State.on_half]
    exact Half.pendLibrary_shows _ _ _
  · rw [State.on_half, State.on_other]
    exact Half.pendLibrary_shows _ _ _

theorem partnerVerifyResult_alone (state : (s.half h).libState = 4) (link : (s.half h).linkUp = true) (standby : (s.half h.other).role = .standby)
    (bad : (s.half h.other).verifyBank (s.half h.other).bankOut ((s.half h).get Adr.MSG_LIB_COMMIT 0 13) ≠ none) :
    CompletesAt (.partnerVerifyResult h ofs) h s fun x => x.libState = 5 ∧ x.get Adr.MSG_FAULT 0 16 = 2 ∧
      x.rd Adr.MSG_LIB_DETAIL = 0x05000000#32 ∧
      SameRegs [Adr.MSG_STATUS, Adr.MSG_FAULT, Adr.MSG_LIB_DETAIL, Adr.MSG_BULK_STATUS] (s.half h) x := by
  obtain ⟨lib, fault, -, -, -, detail, regs, -⟩ := (s.half h).commitAlone_shows (cause := 2) ofs (by decide)
  obtain ⟨failure, some_⟩ := Option.ne_none_iff_exists'.1 bad
  refine completesAt_on (f := fun x => x.commitAlone 2 ofs) ?_ ⟨lib, fault, detail rfl, regs⟩
  rw [partnerVerifyResult_runs state link standby, some_]

end library

/-! The daily check (R306). -/

theorem Half.damage_damages (x : Half) {m : Nat} : (x.damage m).damaged m = true := by
  unfold Half.damage
  split
  · next marked => exact marked
  · rw [Half.damaged, Half.bit_congr (Half.rd_count_ne _ _ _ _ (by simp only [Adr.MSG_DAMAGED, Adr.MSG_LIB_CHECK]; omega)),
      Half.bit_event_ne _ _ _ (by simp only [Adr.MSG_DAMAGED, Adr.MSG_EVENT]; omega)]
    exact Half.bit_putBit_self _ _ _ _ (Nat.mod_lt _ (by decide))

theorem Half.damage_keeps (x : Half) (m : Nat) {n : Nat} (marked : x.damaged n = true) : (x.damage m).damaged n = true := by
  unfold Half.damage
  split
  · exact marked
  · rw [Half.damaged, Half.bit_congr (Half.rd_count_ne _ _ _ _ (by simp only [Adr.MSG_DAMAGED, Adr.MSG_LIB_CHECK]; omega)),
      Half.bit_event_ne _ _ _ (by simp only [Adr.MSG_DAMAGED, Adr.MSG_EVENT]; omega)]
    by_cases word : n / 32 = m / 32
    · by_cases bit : n % 32 = m % 32
      · rw [word, bit, Half.bit_putBit_self _ _ _ _ (Nat.mod_lt _ (by decide))]
      · rw [word, Half.bit_putBit_bit _ _ _ _ _ (Nat.mod_lt _ (by decide)) bit, ← word]
        exact marked
    · rw [Half.bit_putBit_ne _ _ _ _ (by simp only [Adr.MSG_DAMAGED]; omega)]
      exact marked

/-- What a check of the library shows in. -/
def libraryCheckReg (a : Nat) : Prop := a = Adr.MSG_EVENT ∨ a = Adr.MSG_LIB_CHECK ∨ ∃ w, w < 128 ∧ a = Adr.MSG_DAMAGED w

theorem Half.damage_checkWrites (x : Half) {m : Nat} (hm : m < 4096) : Writes libraryCheckReg x (x.damage m) := by
  unfold Half.damage
  split
  · exact .refl _ x
  · exact (((Writes.refl _ x).putBit _ true (Or.inr (Or.inr ⟨m / 32, by omega, rfl⟩))).event 3 (Or.inl rfl)).count 16 16 1 (Or.inr (Or.inl rfl))

theorem Half.each_damages (x : Half) {ms : List Nat} {m : Nat} (hm : m ∈ ms) : (x.each ms Half.damage).damaged m = true :=
  Half.each_establishes (J := fun _ => True) (fun _ _ _ _ => trivial) (fun y _ => y.damage_damages) (fun y hy k _ => y.damage_keeps k hy) hm trivial

theorem libraryCheck_marks {h : HalfId} {s : State} (live : (s.half h).live = true) (up : (s.half h).up .memory = true)
    (valid : (s.half h).bit Adr.MSG_STATUS 0 = true) :
    CompletesAt (.libraryCheck h) h s fun x => x.get Adr.MSG_LIB_CHECK 0 16 = 0 ∧
      (∀ m ∈ (s.half h).validMessages (s.half h).bankIn, ∀ e, e = (s.half h).entry (s.half h).bankIn m →
        (crc32 ((s.half h).store.read ((s.half h).bankBase (s.half h).bankIn + 64 * e.line) e.bytes)).toNat ≠ e.crc →
        x.damaged m = true) ∧
      ∀ a, ¬ libraryCheckReg a → x.rd a = (s.half h).rd a := by
  refine completesAt_on rfl ?_
  rw [if_pos (by rw [live, up, valid]; rfl)]
  generalize s.half h = x
  generalize hb : List.filter _ (x.validMessages x.bankIn) = bad
  have named : ∀ m ∈ bad, m ∈ x.validMessages x.bankIn := fun m hm => List.mem_of_mem_filter (hb ▸ hm)
  have moves : Writes libraryCheckReg x (x.each bad Half.damage) :=
    .foldl (fun m hm y => y.damage_checkWrites (Half.mem_validMessages_lt (named m hm))) x
  refine ⟨Half.get_put_self _ _ _ _ _ (by decide), fun m hm e he wrong => ?_, fun a ha => ?_⟩
  · have marked : m ∈ bad := by
      subst he
      rw [← hb, List.mem_filter]
      exact ⟨hm, by simp [wrong]⟩
    rw [Half.damaged, Half.bit_put_ne _ _ _ _ _ (by simp only [Adr.MSG_DAMAGED, Adr.MSG_LIB_CHECK]; omega)]
    exact x.each_damages marked
  · rw [Half.rd_put_ne _ _ _ _ fun e => ha (Or.inr (Or.inl e)), moves.keeps a ha]

/-- Settles O36: each event of a load is one branch of the load's state machine; PENDING is entered by the commit record alone. -/
theorem libraryLoadsAreVerifiedAndCopied : Obligations.LibraryLoadsAreVerifiedAndCopied := by
  intro h ofs s
  refine ⟨fun verify live => ⟨fun r m bad => verification_fails verify live bad, fun good =>
      ⟨fun active standby => verification_copies verify live good active standby, fun alone => verification_pends verify live good alone⟩⟩,
    fun load copying => ⟨?_, ?_, ?_, ?_⟩, fun state link standby => ⟨fun good => partnerVerifyResult_pends state link standby good,
      fun bad => partnerVerifyResult_alone state link standby bad⟩, fun waits => ?_, fun may differs => ?_, fun live up valid => ?_⟩
  · rintro rfl
    exact bulkCopy_loadAborts copying
  · rintro rfl
    exact bulkCopy_resyncAborts copying
  · rintro rfl can
    exact bulkCopy_loads copying can
  · rintro rfl can
    exact bulkCopy_resyncs copying can
  · obtain ⟨lib, fault, bulk, pending, -, detail, regs, -⟩ := (s.half h).commitAlone_shows (cause := 2) ofs (by decide)
    refine completesAt_on rfl ?_
    rw [if_pos waits]
    exact ⟨lib, fault, detail rfl, bulk, pending, regs⟩
  · refine completesAt_on (f := fun x => x.startCopy false) ?_ ⟨(Half.startCopy_rd ..).trans (Half.rd_wrNat_self ..), rfl, fun a ha =>
      (Half.startCopy_rd ..).trans (Half.rd_wrNat_ne _ _ (by simpa using ha))⟩
    exact next_if_pos (by simp [may, differs])
  · obtain ⟨t, run, ⟨clear, marks, regs⟩, rest⟩ := libraryCheck_marks live up valid
    exact ⟨t, run, ⟨clear, marks, fun a event check damaged => regs a fun reg =>
      reg.elim event fun reg => reg.elim check fun ⟨w, hw, e⟩ => damaged w hw e⟩, rest⟩

end Sys2Proof.Machine
end

section
/-! O37: players and the recorder. -/

namespace Sys2Proof.Machine

open Sys2Proof

/-- A half whose recorder holds the first frame of a session, which carries the session's mark. -/
def firstFrameWaits : State :=
  { State.reset with a := (Half.init .a).onRec fun r => { r with
    ready := some ([], [0x42, 0x53, 0x59, 0x52, 0x01, 0x01]), session := false } }

/-- The drop of that frame hands the mark on to the next one. -/
theorem firstFrameWaits_marksNext :
    (match exec (.recorderFrameDrop .a) firstFrameWaits with | .next t => (t.half .a).recd.session | _ => false) = true := by
  decide +kernel

/-- Refutes O37: a frame that is dropped as the first of its session leaves its mark to the next frame, so the recorder's state differs
in `session` too; the statement names `ready` and `gap` alone (R310, R311). -/
theorem not_playersAndRecorderMoveFrameByFrame : ¬ Obligations.PlayersAndRecorderMoveFrameByFrame := by
  intro holds
  obtain ⟨-, -, -, -, drop⟩ := holds .a firstFrameWaits
  obtain ⟨t, ht, ⟨kept, -⟩, -⟩ := drop rfl
  have marked := firstFrameWaits_marksNext
  rw [ht] at marked
  have unmarked : (t.half .a).recd.session = false := congrArg RecSt.session kept
  exact absurd (marked.symm.trans unmarked) (by decide)

end Sys2Proof.Machine
end

section
/-! O38: the amplifier channels. -/

namespace Sys2Proof.Machine

open Sys2Proof

/-- A running OFFLINE half with its carrier locked, whose channel 0 still runs although `AMP[0].CTRL.EN` is 0, with a trip in its
history. -/
def disabledChannel : State :=
  { State.reset with a := (Half.onSent { ((Half.init .a).wr Adr.TIM_CPLL_STATUS 2).wr (Adr.AMP_STATUS 0) 2 with
    phase := .running, regions := [.up, .up, .up, .up, .up, .up, .up, .up] } (fun x => { x with forceData := false })).onCh 0 fun x =>
      { x with trips := [true] } }

theorem disabledChannel_acts : (disabledChannel.half .a).outUp = true ∧ (disabledChannel.half .a).carrierLocked = true ∧
    (disabledChannel.half .a).ampActs = true ∧ (disabledChannel.half .a).sent.giveUp = .idle ∧
    ((disabledChannel.half .a).ampCh (0 : Fin 32)).trips = [true] := by decide +kernel

/-- The boundary takes the channel to DISABLED and clears its trips. -/
theorem disabledChannel_clears :
    (match exec (.carrierBoundary .a 0 [] []) disabledChannel with | .next t => ((t.half .a).ampCh (0 : Fin 32)).trips | _ => []) = [false] := by
  decide +kernel

/-- Refutes O38: a carrier boundary that finds EN at 0 takes the channel out of service and clears its trip history; the statement
keeps the history whatever EN is (R351, R357). -/
theorem not_amplifierChannelsFollowTheirStates : ¬ Obligations.AmplifierChannelsFollowTheirStates := by
  intro holds
  obtain ⟨up, locked, acts, idle, tripped⟩ := disabledChannel_acts
  obtain ⟨-, -, -, -, -, clusters⟩ := holds .a 0 disabledChannel
  obtain ⟨-, -, boundary⟩ := clusters 0 rfl
  obtain ⟨t, ht, -, kept, -⟩ := (boundary [] [] up locked acts idle).1
  have cleared := disabledChannel_clears
  rw [ht] at cleared
  rw [tripped] at kept
  exact absurd (cleared.symm.trans kept) (by decide)

end Sys2Proof.Machine
end

section
/-! O39: amplifier clusters and their stage enables (R359 to R367). -/

namespace Sys2Proof.Machine

open Sys2Proof

/-! What bringing the stage enables into line leaves of a cluster (R364, R366). -/

/-- From x to y cluster c may have seen its ball `PSENc_n` move. -/
structure PsenSeen (c : Nat) (x y : Half) : Prop where
  follows : Follows x y
  status : ∀ b, b ≠ 2 → b ≠ 3 → y.bit (Adr.AMPC_STATUS c) b = x.bit (Adr.AMPC_STATUS c) b
  event : ∀ b, b ≠ 4 → y.bit (Adr.AMPC_EVENT c) b = x.bit (Adr.AMPC_EVENT c) b
  cluster : ∃ t, y.ampCl c = { x.ampCl c with settled := t }

namespace PsenSeen
variable {c : Nat} {x y z : Half}

theorem refl (c : Nat) (x : Half) : PsenSeen c x x := ⟨.refl x, fun _ _ _ => rfl, fun _ _ => rfl, _, rfl⟩

theorem trans (h : PsenSeen c x y) (k : PsenSeen c y z) : PsenSeen c x z := by
  obtain ⟨t, ht⟩ := h.cluster
  obtain ⟨u, hu⟩ := k.cluster
  exact ⟨h.follows.trans k.follows, fun b h2 h3 => (k.status b h2 h3).trans (h.status b h2 h3), fun b h4 => (k.event b h4).trans (h.event b h4), u,
    by rw [hu, ht]⟩

end PsenSeen

theorem ampcRegs_ne {c d : Nat} : Adr.AMPC_STATUS c ≠ Adr.AMPC_EVENT d ∧ (c ≠ d → Adr.AMPC_STATUS c ≠ Adr.AMPC_STATUS d) ∧
    (c ≠ d → Adr.AMPC_EVENT c ≠ Adr.AMPC_EVENT d) := by
  simp only [Adr.AMPC_STATUS, Adr.AMPC_EVENT]
  omega

/-- A half whose cluster c shows what it pulls. -/
def Half.showPull (x : Half) (c : Nat) (pull : Bool) : Half := x.putBit (Adr.AMPC_STATUS c) 2 pull

/-- A half whose cluster c shows a move of its ball. -/
def Half.showBall (x : Half) (c : Nat) (low : Bool) : Half := (x.putBit (Adr.AMPC_STATUS c) 3 low).event (Adr.AMPC_EVENT c) 4

theorem Half.showPsen_eq (x : Half) (c : Nat) (pull low : Bool) : x.showPsen c pull low = x.showPull c pull ∨
    ∃ seen, x.showPsen c pull low = ((x.showPull c pull).showBall c seen).onCl c fun z => { z with settled := false } := by
  unfold Half.showPsen
  simp only
  split
  · exact Or.inl rfl
  · exact Or.inr ⟨_, rfl⟩

theorem Half.showPull_bit (x : Half) {c d : Nat} (pull : Bool) :
    (∀ b, b ≠ 2 → (x.showPull d pull).bit (Adr.AMPC_STATUS c) b = x.bit (Adr.AMPC_STATUS c) b) ∧
      (x.showPull d pull).bit (Adr.AMPC_STATUS c) 2 = (if c = d then pull else x.bit (Adr.AMPC_STATUS c) 2) ∧
      ∀ b, (x.showPull d pull).bit (Adr.AMPC_EVENT c) b = x.bit (Adr.AMPC_EVENT c) b := by
  obtain ⟨-, apart, -⟩ := ampcRegs_ne (c := c) (d := d)
  unfold Half.showPull
  refine ⟨fun b hb => ?_, ?_, fun b => Half.bit_putBit_ne _ _ _ _ ampcRegs_ne.1.symm⟩
  · by_cases same : c = d
    · rw [same, Half.bit_putBit_bit _ _ _ _ _ (by decide) hb]
    · rw [Half.bit_putBit_ne _ _ _ _ (apart same)]
  · split
    · next same => rw [same, Half.bit_putBit_self _ _ _ _ (by decide)]
    · next other => rw [Half.bit_putBit_ne _ _ _ _ (apart other)]

theorem Half.showBall_bit (x : Half) {c d : Nat} (low : Bool) :
    (∀ b, b ≠ 3 → (x.showBall d low).bit (Adr.AMPC_STATUS c) b = x.bit (Adr.AMPC_STATUS c) b) ∧
      ∀ b, b ≠ 4 → (x.showBall d low).bit (Adr.AMPC_EVENT c) b = x.bit (Adr.AMPC_EVENT c) b := by
  obtain ⟨cross, status, event⟩ := ampcRegs_ne (c := c) (d := d)
  unfold Half.showBall
  refine ⟨fun b hb => ?_, fun b hb => ?_⟩
  · rw [Half.bit_event_ne _ _ _ cross]
    by_cases same : c = d
    · rw [same, Half.bit_putBit_bit _ _ _ _ _ (by decide) hb]
    · rw [Half.bit_putBit_ne _ _ _ _ (status same)]
  · by_cases same : c = d
    · rw [same, Half.bit_event_bit _ _ _ _ (by decide) hb, Half.bit_putBit_ne _ _ _ _ ampcRegs_ne.1.symm]
    · rw [Half.bit_event_ne _ _ _ (event same), Half.bit_putBit_ne _ _ _ _ ampcRegs_ne.1.symm]

theorem Half.ampCl_settle (x : Half) (c d : Nat) : ∃ t, (x.onCl d fun z => { z with settled := false }).ampCl c = { x.ampCl c with settled := t } := by
  by_cases same : c = d
  · subst same
    by_cases inside : c < x.out.cl.length
    · exact ⟨false, getAt_modAt _ _ _ _ inside⟩
    · exact ⟨(x.ampCl c).settled, (getAt_modAt_out _ _ _ _ (Nat.not_lt.1 inside)).trans (getAt_out _ _ _ (Nat.not_lt.1 inside)).symm⟩
  · exact ⟨_, getAt_modAt_ne _ _ _ same⟩

/-- Showing a ball: its own pull bit follows what is pulled. -/
theorem Half.showPsen_seen (x : Half) {c d : Nat} (hd : d < 4) (pull low : Bool) : PsenSeen c x (x.showPsen d pull low) ∧
    (x.showPsen d pull low).bit (Adr.AMPC_STATUS c) 2 = (if c = d then pull else x.bit (Adr.AMPC_STATUS c) 2) := by
  obtain ⟨pulled, own, quiet⟩ := x.showPull_bit (c := c) (d := d) pull
  have follows := x.showPsen_follows hd pull low
  obtain e | ⟨seen, e⟩ := x.showPsen_eq d pull low
  · rw [e] at follows ⊢
    exact ⟨⟨follows, fun b h2 _ => pulled b h2, fun b _ => quiet b, _, rfl⟩, own⟩
  · obtain ⟨ball, event⟩ := (x.showPull d pull).showBall_bit (c := c) (d := d) seen
    obtain ⟨t, settled⟩ := ((x.showPull d pull).showBall d seen).ampCl_settle c d
    have rest : ∀ a b, (((x.showPull d pull).showBall d seen).onCl d fun z => { z with settled := false }).bit a b =
        ((x.showPull d pull).showBall d seen).bit a b := fun _ _ => rfl
    have cluster : ((x.showPull d pull).showBall d seen).ampCl c = x.ampCl c := rfl
    rw [← e] at settled rest
    exact ⟨⟨follows, fun b h2 h3 => (rest _ b).trans ((ball b h3).trans (pulled b h2)), fun b h4 => (rest _ b).trans ((event b h4).trans (quiet b)), t,
      by rw [settled, cluster]⟩, (rest _ 2).trans ((ball 2 (by decide)).trans own)⟩

/-- What a half wants to pull follows from what `PsenSeen` keeps and its own pull. -/
theorem PsenSeen.wantPull {c : Nat} {x y : Half} (h : PsenSeen c x y)
    (own : y.bit (Adr.AMPC_STATUS c) 2 = x.bit (Adr.AMPC_STATUS c) 2 ∨ y.bit (Adr.AMPC_STATUS c) 2 = x.wantPull c) (hc : c < 4) :
    y.wantPull c = x.wantPull c := by
  obtain ⟨t, cluster⟩ := h.cluster
  have cluster' : getAt y.out.cl c AmpCl.init = { getAt x.out.cl c AmpCl.init with settled := t } := cluster
  have sent : y.sent = x.sent := h.follows.sent
  have live : y.live = x.live := by rw [Half.live, Half.live, h.follows.phase]
  have off : y.out.pullsOff = x.out.pullsOff := by rw [h.follows.same]
  have request : y.psenRequest c = x.psenRequest c := by
    have ctrl : Adr.AMPC_PSEN_CTRL c ∉ lineRegsOf := by
      have : ∀ c : Fin 4, Adr.AMPC_PSEN_CTRL c ∉ lineRegsOf := by decide
      exact this ⟨c, hc⟩
    simp only [Half.psenRequest, cluster', h.follows.bit ctrl]
  have steady : ∀ z : Half, z.wantPull c = if !z.live || z.out.pullsOff then false
      else if z.sent.forceData || z.sent.giveUp != .idle then z.bit (Adr.AMPC_STATUS c) 2
      else if z.role == .active then z.psenRequest c
      else z.role == .standby && (getAt z.out.cl c AmpCl.init).request && !(getAt z.out.cl c AmpCl.init).released := fun _ => rfl
  rcases own with own | own
  · rw [steady, steady, live, off, sent, own, request, h.follows.role, cluster']
  · rw [steady y, own]
    simp only [live, off, sent, request, h.follows.role, cluster']
    rw [steady x]
    split <;> [rfl; (split <;> rfl)]

/-- One cluster's ball brought into line (R364). -/
def State.psenStep (t : State) (c : Nat) : State :=
  if t.a.wantPull c = t.a.bit (Adr.AMPC_STATUS c) 2 ∧ t.b.wantPull c = t.b.bit (Adr.AMPC_STATUS c) 2 then t
  else { t with a := t.a.showPsen c (t.a.wantPull c) (t.a.wantPull c || t.b.wantPull c)
                b := t.b.showPsen c (t.b.wantPull c) (t.a.wantPull c || t.b.wantPull c) }

theorem State.psen_eq (s : State) : s.psen = (List.range 4).foldl State.psenStep s := rfl

theorem State.psenStep_seen (t : State) (h : HalfId) {c d : Nat} (hd : d < 4) : PsenSeen c (t.half h) ((t.psenStep d).half h) ∧
    ((t.psenStep d).half h).bit (Adr.AMPC_STATUS c) 2 = (if c = d then (t.half h).wantPull c else (t.half h).bit (Adr.AMPC_STATUS c) 2) := by
  unfold State.psenStep
  split
  · next steady =>
    refine ⟨.refl _ _, ?_⟩
    split
    · next same => cases h <;> rw [same] <;> [exact steady.1.symm; exact steady.2.symm]
    · rfl
  · cases h
    · obtain ⟨seen, own⟩ := t.a.showPsen_seen (c := c) hd (t.a.wantPull d) (t.a.wantPull d || t.b.wantPull d)
      refine ⟨seen, own.trans ?_⟩
      split
      · next same => rw [same]; rfl
      · rfl
    · obtain ⟨seen, own⟩ := t.b.showPsen_seen (c := c) hd (t.b.wantPull d) (t.a.wantPull d || t.b.wantPull d)
      refine ⟨seen, own.trans ?_⟩
      split
      · next same => rw [same]; rfl
      · rfl

theorem State.psenSteps_seen (h : HalfId) {c : Nat} (hc : c < 4) (ds : List Nat) (inside : ∀ d ∈ ds, d < 4) (t : State) :
    PsenSeen c (t.half h) ((ds.foldl State.psenStep t).half h) ∧
      ((ds.foldl State.psenStep t).half h).wantPull c = (t.half h).wantPull c ∧
      (c ∈ ds ∨ (t.half h).bit (Adr.AMPC_STATUS c) 2 = (t.half h).wantPull c →
        ((ds.foldl State.psenStep t).half h).bit (Adr.AMPC_STATUS c) 2 = (t.half h).wantPull c) := by
  induction ds generalizing t with
  | nil => exact ⟨.refl _ _, rfl, fun e => e.resolve_left List.not_mem_nil⟩
  | cons d ds ih =>
    obtain ⟨first, own⟩ := t.psenStep_seen h (c := c) (inside d List.mem_cons_self)
    obtain ⟨rest, want, settles⟩ := ih (fun e he => inside e (List.mem_cons_of_mem d he)) (t.psenStep d)
    have kept : ((t.psenStep d).half h).wantPull c = (t.half h).wantPull c := first.wantPull (by rw [own]; split <;> simp) hc
    refine ⟨first.trans rest, want.trans kept, fun e => (settles ?_).trans kept⟩
    by_cases same : c = d
    · exact Or.inr (by rw [own, if_pos same, kept])
    · refine (e.imp (fun m => (List.mem_cons.1 m).resolve_left same) fun held => ?_)
      rw [own, if_neg same, kept, held]

/-- The stage enables brought into line: each half pulls what it wants to pull (R364). -/
theorem State.psen_seen (s : State) (h : HalfId) (c : Fin 4) : PsenSeen c (s.half h) (s.psen.half h) ∧
    (s.psen.half h).bit (Adr.AMPC_STATUS c) 2 = (s.half h).wantPull c := by
  rw [State.psen_eq]
  obtain ⟨seen, -, pulled⟩ := State.psenSteps_seen h c.isLt (List.range 4) (fun d hd => List.mem_range.1 hd) s
  exact ⟨seen, pulled (Or.inl (List.mem_range.2 c.isLt))⟩

/-- A command that changes one half, with the stage enables brought into line. -/
theorem completes_psen {e : Instr} {h : HalfId} {c : Fin 4} {s : State} {f : Half → Half} {P : State → Prop}
    (run : exec e s = .next (s.on h f).psen)
    (shows_ : ∀ t, PsenSeen c (f (s.half h)) (t.half h) → (t.half h).bit (Adr.AMPC_STATUS c) 2 = (f (s.half h)).wantPull c → P t) :
    Completes e s P := by
  obtain ⟨seen, pulled⟩ := (s.on h f).psen_seen h c
  rw [State.on_half] at seen pulled
  exact completes_of run (shows_ _ seen pulled)

/-! Cluster faults (R359, R360, R363, R366, R367). -/

theorem Half.ampClusterFault_shows {x : Half} {c : Nat} {cause : Nat} (hc : cause < 0x10000) (well : x.bit (Adr.AMPC_STATUS c) 1 = false) :
    (x.ampClusterFault c cause).bit (Adr.AMPC_STATUS c) 1 = true ∧ (x.ampClusterFault c cause).bit (Adr.AMPC_EVENT c) 3 = true ∧
      (x.ampClusterFault c cause).get (Adr.AMPC_FAULT c) 0 16 = cause ∧ (x.ampClusterFault c cause).bit (Adr.AMPC_FAULT c) 31 = true ∧
      OnlyRegs [Adr.AMPC_STATUS c, Adr.AMPC_EVENT c, Adr.AMPC_FAULT c] x (x.ampClusterFault c cause) := by
  have event : Adr.AMPC_EVENT c ≠ Adr.AMPC_FAULT c := by simp only [Adr.AMPC_EVENT, Adr.AMPC_FAULT]; omega
  have status : Adr.AMPC_STATUS c ≠ Adr.AMPC_FAULT c := by simp only [Adr.AMPC_STATUS, Adr.AMPC_FAULT]; omega
  have moves : Writes (· ∈ [Adr.AMPC_STATUS c, Adr.AMPC_EVENT c, Adr.AMPC_FAULT c]) x
      (((x.putBit (Adr.AMPC_STATUS c) 1 true).event (Adr.AMPC_EVENT c) 3).latch (Adr.AMPC_FAULT c) cause) :=
    (((Writes.refl _ x).putBit 1 true (by simp)).event 3 (by simp)).latch cause (by simp)
  rw [Half.ampClusterFault, if_neg (by rw [well]; decide)]
  refine ⟨?_, ?_, by rw [Half.get_latch_cause, Nat.mod_eq_of_lt hc], Half.bit_latch_valid .., moves.same, moves.keeps⟩
  · rw [Half.bit_latch_ne _ _ _ _ _ status, Half.bit_event_ne _ _ _ ampcRegs_ne.1, Half.bit_putBit_self _ _ _ _ (by decide)]
  · rw [Half.bit_latch_ne _ _ _ _ _ event, Half.bit_event_self _ _ _ (by decide)]

theorem ampc_lines (c : Fin 4) : Adr.AMPC_STATUS c ∈ lineRegsOf ∧ Adr.AMPC_EVENT c ∈ lineRegsOf ∧ Adr.AMPC_FAULT c ∉ lineRegsOf ∧
    Adr.AMPC_BUS_V c ∉ lineRegsOf := by
  revert c
  decide

theorem Half.onCl_cluster {x : Half} {c : Fin 4} (four : x.out.cl.length = 4) (f : AmpCl → AmpCl) : (x.onCl c f).ampCl c = f (x.ampCl c) :=
  getAt_modAt _ _ _ _ (by rw [four]; exact c.isLt)

section clusters
variable {h : HalfId} {c : Fin 4} {s : State}

theorem psenReadbackFault_stops (up : (s.half h).outUp = true) (four : (s.half h).out.cl.length = 4)
    (well : (s.half h).bit (Adr.AMPC_STATUS c) 1 = false) {low : Bool} (wrong : (s.half h).bit (Adr.AMPC_STATUS c) 2 ≠ low)
    (may : (s.half h).bit (Adr.AMPC_STATUS c) 2 = true ∨ (s.half h).followsRelease c = true) :
    Completes (.psenReadbackFault h c low) s fun t => (t.half h).bit (Adr.AMPC_STATUS c) 1 = true ∧
      (t.half h).get (Adr.AMPC_FAULT c) 0 16 = (if low then 4 else 3) ∧ ((t.half h).ampCl c).stuck = some low ∧
      SameRegs (Adr.AMPC_FAULT c :: lineRegsOf) (s.half h) (t.half h) := by
  refine completes_psen (c := c) rfl fun t seen _ => ?_
  rw [if_pos (by rw [up, Bool.true_and, Bool.and_eq_true, bne_iff_ne, Bool.or_eq_true]; exact ⟨wrong, may⟩)] at seen
  generalize s.half h = x at four well seen ⊢
  have stuck : ((x.onCl c fun z => { z with stuck := some low }).ampCl c).stuck = some low :=
    congrArg AmpCl.stuck (Half.onCl_cluster four _)
  have same : ∀ a, (x.onCl c fun z => { z with stuck := some low }).rd a = x.rd a := fun _ => rfl
  generalize x.onCl c (fun z => { z with stuck := some low }) = y at stuck same seen
  obtain ⟨shown, -⟩ := y.showPsen_seen (c := c) c.isLt (x.bit (Adr.AMPC_STATUS c) 2) low
  generalize y.showPsen c (x.bit (Adr.AMPC_STATUS c) 2) low = z at shown seen
  have zwell : z.bit (Adr.AMPC_STATUS c) 1 = false := (shown.status 1 (by decide) (by decide)).trans ((Half.bit_congr (same _) 1).trans well)
  obtain ⟨fault, -, cause, -, only⟩ := Half.ampClusterFault_shows (cause := if low then 4 else 3) (by split <;> decide) zwell
  have moves := ampc_lines c
  obtain ⟨t1, e1⟩ := shown.cluster
  obtain ⟨t2, e2⟩ := seen.cluster
  refine ⟨(seen.status 1 (by decide) (by decide)).trans fault, (seen.follows.get moves.2.2.1).trans cause, ?_, fun a ha => ?_⟩
  · have out : (z.ampClusterFault c (if low then 4 else 3)).ampCl c = z.ampCl c := by rw [only.1]; rfl
    rw [e2, out, e1]
    exact stuck
  · rw [List.mem_cons, not_or] at ha
    obtain ⟨fault, lines⟩ := ha
    rw [seen.follows.regs a lines, only.2 a, shown.follows.regs a lines, same]
    simp only [List.mem_cons, List.not_mem_nil, or_false, not_or]
    exact ⟨ne_of_notMem lines moves.1, ne_of_notMem lines moves.2.1, fault⟩

theorem thermalShutdownEnd_pulls (acts : (s.half h).ampActs = true) (hot : (s.half h).bit (Adr.AMPC_STATUS c) 4 = true)
    (four : (s.half h).out.cl.length = 4) :
    Completes (.thermalShutdownEnd h c) s fun t => (t.half h).bit (Adr.AMPC_STATUS c) 4 = false ∧
      (t.half h).bit (Adr.AMPC_EVENT c) 0 = true ∧
      ((t.half h).ampCl c).released = ((s.half h).bit (Adr.AMPC_STATUS c) 1 && ((s.half h).ampCl c).released) ∧
      SameRegs lineRegsOf (s.half h) (t.half h) := by
  refine completes_psen (c := c) rfl fun t seen _ => ?_
  rw [if_pos (by rw [acts, hot]; rfl)] at seen
  generalize s.half h = x at four seen ⊢
  have cold : ((x.putBit (Adr.AMPC_STATUS c) 4 false).event (Adr.AMPC_EVENT c) 0).bit (Adr.AMPC_STATUS c) 4 = false := by
    rw [Half.bit_event_ne _ _ _ ampcRegs_ne.1, Half.bit_putBit_self _ _ _ _ (by decide)]
  have event := (x.putBit (Adr.AMPC_STATUS c) 4 false).bit_event_self (Adr.AMPC_EVENT c) 0 (by decide)
  have moves : Writes (· ∈ [Adr.AMPC_STATUS c, Adr.AMPC_EVENT c]) x ((x.putBit (Adr.AMPC_STATUS c) 4 false).event (Adr.AMPC_EVENT c) 0) :=
    ((Writes.refl _ x).putBit 4 false (by simp)).event 0 (by simp)
  have out : ((x.putBit (Adr.AMPC_STATUS c) 4 false).event (Adr.AMPC_EVENT c) 0).out = x.out := by rw [moves.same]
  generalize (x.putBit (Adr.AMPC_STATUS c) 4 false).event (Adr.AMPC_EVENT c) 0 = y at cold event moves out seen
  obtain ⟨u, e⟩ := seen.cluster
  have lines := ampc_lines c
  refine ⟨(seen.status 4 (by decide) (by decide)).trans cold, (seen.event 0 (by decide)).trans event, ?_, fun a ha => ?_⟩
  · rw [e, Half.ampCl, Half.ampCl, ← out]
    exact congrArg AmpCl.released (getAt_modAt _ _ _ _ (by rw [out, four]; exact c.isLt))
  · rw [seen.follows.regs a ha]
    refine moves.keeps a ?_
    simp only [List.mem_cons, List.not_mem_nil, or_false, not_or]
    exact ⟨ne_of_notMem ha lines.1, ne_of_notMem ha lines.2.1⟩

/-! The bus (R363). -/

/-- A half whose bus voltage of cluster c has been read. -/
theorem Half.readBus_shows (x : Half) (c : Fin 4) (v : BitVec 16) (valid : x.snsValid (76 + c) = true) :
    (x.wrNat (Adr.AMPC_BUS_V c) v.toNat).rd (Adr.AMPC_BUS_V c) = v.setWidth 32 ∧
      (x.wrNat (Adr.AMPC_BUS_V c) v.toNat).busInside c =
        decide (x.get (Adr.AMPC_BUS_LIMITS c) 0 16 ≤ v.toNat ∧ v.toNat ≤ x.get (Adr.AMPC_BUS_LIMITS c) 16 16) := by
  have apart : Adr.AMPC_BUS_LIMITS c ≠ Adr.AMPC_BUS_V c ∧ Adr.SNS_STATUS (76 + c) ≠ Adr.AMPC_BUS_V c := by
    simp only [Adr.AMPC_BUS_LIMITS, Adr.AMPC_BUS_V, Adr.SNS_STATUS]
    omega
  refine ⟨(Half.rd_wrNat_self ..).trans (BitVec.eq_of_toNat_eq (by simp)), ?_⟩
  have sense : (x.wrNat (Adr.AMPC_BUS_V c) v.toNat).snsValid (76 + c) = true := (Half.bit_congr (Half.rd_wrNat_ne _ _ apart.2) 0).trans valid
  have read : (x.wrNat (Adr.AMPC_BUS_V c) v.toNat).get (Adr.AMPC_BUS_V c) 0 16 = v.toNat := by
    rw [Half.get_wrNat, if_pos rfl, getBits_ofNat]
    have := v.isLt
    omega
  have limits : ∀ lo n, (x.wrNat (Adr.AMPC_BUS_V c) v.toNat).get (Adr.AMPC_BUS_LIMITS c) lo n = x.get (Adr.AMPC_BUS_LIMITS c) lo n := fun lo n =>
    Half.get_congr (Half.rd_wrNat_ne _ _ apart.1) lo n
  rw [Half.busInside, sense, read, limits, limits, Bool.true_and]

/-- Showing the state of the bus. -/
theorem Half.showBus_shows (x : Half) (c : Nat) : (x.showBus c).bit (Adr.AMPC_STATUS c) 6 = ((x.ampCl c).armed && !(x.ampCl c).busBad && x.busInside c) ∧
    (x.showBus c).ampCl c = x.ampCl c ∧ Writes (· ∈ [Adr.AMPC_STATUS c]) x (x.showBus c) :=
  ⟨Half.bit_putBit_self _ _ _ _ (by decide), congrArg (getAt · c AmpCl.init) (congrArg OutSt.cl (Half.putBit_out ..)), (Writes.refl _ x).putBit 6 _ (by simp)⟩

theorem busOutOfRange_trips {v : BitVec 16} (up : (s.half h).outUp = true) (four : (s.half h).out.cl.length = 4)
    (valid : (s.half h).snsValid (76 + c) = true) (armed : ((s.half h).ampCl c).armed = true) (good : ((s.half h).ampCl c).busBad = false)
    (outside : v.toNat < (s.half h).get (Adr.AMPC_BUS_LIMITS c) 0 16 ∨ (s.half h).get (Adr.AMPC_BUS_LIMITS c) 16 16 < v.toNat) :
    CompletesAt (.busOutOfRange h c v) h s fun x => x.rd (Adr.AMPC_BUS_V c) = v.setWidth 32 ∧ (x.ampCl c).busBad = true ∧
      x.get (Adr.AMPC_FAULT c) 0 16 = 7 ∧ x.bit (Adr.AMPC_EVENT c) 1 = true ∧ x.bit (Adr.AMPC_STATUS c) 6 = false ∧
      SameRegs [Adr.AMPC_BUS_V c, Adr.AMPC_FAULT c, Adr.AMPC_EVENT c, Adr.AMPC_STATUS c] (s.half h) x := by
  obtain ⟨shown, inside⟩ := (s.half h).readBus_shows c v valid
  refine completesAt_on rfl ?_
  rw [if_pos (by rw [up, armed, good, valid, inside]; simp; omega)]
  generalize s.half h = x at four shown ⊢
  have read := (Writes.refl (· ∈ [Adr.AMPC_BUS_V c]) x).wrNat (a := Adr.AMPC_BUS_V c) v.toNat (by simp)
  have size : (x.wrNat (Adr.AMPC_BUS_V c) v.toNat).out.cl.length = 4 := by rw [read.same]; exact four
  generalize x.wrNat (Adr.AMPC_BUS_V c) v.toNat = y at shown read size ⊢
  have bad : ((y.onCl c fun z => { z with busBad := true }).ampCl c).busBad = true :=
    congrArg AmpCl.busBad (Half.onCl_cluster size _)
  have same : ∀ a, (y.onCl c fun z => { z with busBad := true }).rd a = y.rd a := fun _ => rfl
  generalize y.onCl c (fun z => { z with busBad := true }) = z at bad same ⊢
  have faultEvent : Adr.AMPC_FAULT c ≠ Adr.AMPC_EVENT c := by
    simp only [Adr.AMPC_FAULT, Adr.AMPC_EVENT]
    omega
  have moves := ((Writes.refl (· ∈ [Adr.AMPC_FAULT c, Adr.AMPC_EVENT c]) z).latch (a := Adr.AMPC_FAULT c) 7 (by simp)).event
    (a := Adr.AMPC_EVENT c) 1 (by simp)
  have fault : ((z.latch (Adr.AMPC_FAULT c) 7).event (Adr.AMPC_EVENT c) 1).get (Adr.AMPC_FAULT c) 0 16 = 7 := by
    rw [Half.get_congr (Half.rd_event_ne _ _ faultEvent), Half.get_latch_cause]
  have event := (z.latch (Adr.AMPC_FAULT c) 7).bit_event_self (Adr.AMPC_EVENT c) 1 (by decide)
  have cluster : ((z.latch (Adr.AMPC_FAULT c) 7).event (Adr.AMPC_EVENT c) 1).ampCl c = z.ampCl c := by
    rw [Half.ampCl, Half.ampCl, moves.same]
  generalize (z.latch (Adr.AMPC_FAULT c) 7).event (Adr.AMPC_EVENT c) 1 = w at moves fault event cluster ⊢
  obtain ⟨ok, kept, status⟩ := w.showBus_shows c
  refine ⟨?_, by rw [kept, cluster, bad], ?_, ?_, ?_, fun a ha => ?_⟩
  · rw [status.keeps _ (by simp), moves.keeps _ (by simp), same, shown]
  · rw [status.get (by simp), fault]
  · rw [status.bit (by simp), event]
  · rw [ok, cluster, bad]
    simp
  · simp only [List.mem_cons, List.not_mem_nil, or_false, not_or] at ha
    obtain ⟨bus, flt, evt, sts⟩ := ha
    rw [status.keeps a (by simpa using sts), moves.keeps a (by simp [flt, evt]), same, read.keeps a (by simpa using bus)]

theorem busInRange_arms {v : BitVec 16} (up : (s.half h).outUp = true) (four : (s.half h).out.cl.length = 4)
    (valid : (s.half h).snsValid (76 + c) = true) (low : (s.half h).get (Adr.AMPC_BUS_LIMITS c) 0 16 ≤ v.toNat)
    (high : v.toNat ≤ (s.half h).get (Adr.AMPC_BUS_LIMITS c) 16 16) :
    Completes (.busInRange h c v) s fun t => (t.half h).rd (Adr.AMPC_BUS_V c) = v.setWidth 32 ∧ ((t.half h).ampCl c).armed = true ∧
      ((t.half h).ampCl c).busBad = false ∧ ((t.half h).ampCl c).busRel = false ∧ (t.half h).bit (Adr.AMPC_STATUS c) 6 = true ∧
      SameRegs (Adr.AMPC_BUS_V c :: lineRegsOf) (s.half h) (t.half h) := by
  obtain ⟨shown, inside⟩ := (s.half h).readBus_shows c v valid
  rw [decide_eq_true ⟨low, high⟩] at inside
  obtain ⟨inStatus, -, -, offBus⟩ := ampc_lines c
  refine completes_psen (c := c) rfl fun t seen _ => ?_
  rw [if_pos (by rw [up, inside]; rfl)] at seen
  generalize s.half h = x at four shown inside seen ⊢
  have read := (Writes.refl (· ∈ [Adr.AMPC_BUS_V c]) x).wrNat (a := Adr.AMPC_BUS_V c) v.toNat (by simp)
  have size : (x.wrNat (Adr.AMPC_BUS_V c) v.toNat).out.cl.length = 4 := by rw [read.same]; exact four
  generalize x.wrNat (Adr.AMPC_BUS_V c) v.toNat = y at shown inside read size seen
  have cluster : (y.onCl c fun z => { z with armed := true, busBad := false, busRel := false }).ampCl c =
      { y.ampCl c with armed := true, busBad := false, busRel := false } := Half.onCl_cluster size _
  have same : ∀ a, (y.onCl c fun z => { z with armed := true, busBad := false, busRel := false }).rd a = y.rd a := fun _ => rfl
  have within : (y.onCl c fun z => { z with armed := true, busBad := false, busRel := false }).busInside c = true := inside
  generalize y.onCl c (fun z => { z with armed := true, busBad := false, busRel := false }) = z at cluster same within seen
  obtain ⟨ok, kept, status⟩ := z.showBus_shows c
  obtain ⟨u, e⟩ := seen.cluster
  rw [cluster] at ok kept
  rw [kept] at e
  refine ⟨?_, by rw [e], by rw [e], by rw [e], ?_, fun a ha => ?_⟩
  · rw [seen.follows.regs _ offBus, status.keeps _ (by simp), same, shown]
  · rw [seen.status 6 (by decide) (by decide), ok, within]
    rfl
  · rw [List.mem_cons, not_or] at ha
    rw [seen.follows.regs a ha.2, status.keeps a (by simpa using (ne_of_notMem ha.2 inStatus)), same, read.keeps a (by simpa using ha.1)]

/-! Pulls that are released (R361, R363, R365, R367). -/

/-- A half with no request for the stages of a cluster pulls nothing while it serves. -/
theorem Half.wantPull_active {x : Half} {c : Nat} (active : x.role = .active) (free : x.sent.forceData = false) (idle : x.sent.giveUp = .idle)
    (none_ : (x.ampCl c).released = true ∨ (x.ampCl c).busRel = true) : x.wantPull c = false := by
  have request : x.psenRequest c = false := by
    have e : x.psenRequest c = (x.bit (Adr.AMPC_PSEN_CTRL c) 0 && !(x.ampCl c).released && !(x.ampCl c).busRel) := rfl
    rw [e]
    rcases none_ with r | r <;> simp [r]
  simp only [Half.wantPull, free, idle, active, request]
  split <;> simp

theorem busPsenRelease_releases (up : (s.half h).outUp = true) (four : (s.half h).out.cl.length = 4)
    (bad : ((s.half h).ampCl c).busBad = true) :
    Completes (.busPsenRelease h c) s fun t => ((t.half h).ampCl c).busRel = true ∧
      ((s.half h).role = .active → (s.half h).sent.forceData = false → (s.half h).sent.giveUp = .idle →
        (t.half h).bit (Adr.AMPC_STATUS c) 2 = false) ∧ SameRegs lineRegsOf (s.half h) (t.half h) := by
  refine completes_psen (c := c) rfl fun t seen pulled => ?_
  rw [if_pos (by rw [up, bad]; rfl)] at seen pulled
  have cluster := Half.onCl_cluster (c := c) four fun z => { z with busRel := true }
  obtain ⟨u, e⟩ := seen.cluster
  refine ⟨by rw [e, cluster], fun active free idle => ?_, seen.follows.regs⟩
  rw [pulled]
  exact Half.wantPull_active active free idle (Or.inr (by rw [cluster]))

theorem psenReleaseDelay_releases (four : (s.half h).out.cl.length = 4)
    (stopped : (s.half h).bit (Adr.AMPC_STATUS c) 1 = true ∨ (s.half h).bit (Adr.AMPC_STATUS c) 4 = true) :
    Completes (.psenReleaseDelay h (some c)) s fun t => ((t.half h).ampCl c).released = true ∧
      ((s.half h).role = .active → (s.half h).sent.forceData = false → (s.half h).sent.giveUp = .idle →
        (t.half h).bit (Adr.AMPC_STATUS c) 2 = false) ∧ SameRegs lineRegsOf (s.half h) (t.half h) := by
  refine completes_psen (c := c) rfl fun t seen pulled => ?_
  rw [if_pos (by simpa using stopped)] at seen pulled
  have cluster := Half.onCl_cluster (c := c) four fun z => { z with released := true }
  obtain ⟨u, e⟩ := seen.cluster
  refine ⟨by rw [e, cluster], fun active free idle => ?_, seen.follows.regs⟩
  rw [pulled]
  exact Half.wantPull_active active free idle (Or.inl (by rw [cluster]))

/-- The pulls of a half that gives up are released before its recovery starts, which waits for the line (R365, R461). -/
theorem psenReleaseDelay_all {cause : Nat} (detected : (s.half h).sent.giveUp = .detected cause) :
    Completes (.psenReleaseDelay h none) s fun t => (t.half h).out.pullsOff = true ∧
      (t.half h).bit (Adr.AMPC_STATUS c) 2 = false ∧ SameRegs lineRegsOf (s.half h) (t.half h) := by
  refine completes_psen (h := h) (c := c) (f := fun x => if x.sent.forceData || x.sent.giveUp != .idle then x.onOut fun o => { o with pullsOff := true } else x)
    ?_ fun t seen pulled => ?_
  · generalize hf : (fun x : Half => if x.sent.forceData || x.sent.giveUp != .idle then x.onOut fun o => { o with pullsOff := true } else x) = f
    have sent : ((s.on h f).psen.half h).sent = (s.half h).sent := by
      rw [((s.on h f).psen_linesOnly.halves h).sent, State.on_half, ← hf]
      simp only
      split <;> rfl
    have run : exec (.psenReleaseDelay h none) s = .next ((s.on h f).psen.startRecovery h) := by rw [← hf]; rfl
    rw [run, State.startRecovery]
    simp only [sent, detected]
  · rw [if_pos (by rw [detected, Bool.or_eq_true]; exact Or.inr rfl)] at seen pulled
    have off : (t.half h).out.pullsOff = true := by rw [seen.follows.same]; rfl
    refine ⟨off, ?_, seen.follows.regs⟩
    rw [pulled]
    have none_ : ((s.half h).onOut fun o => { o with pullsOff := true }).wantPull c =
        if !(s.half h).live || true then false else _ := rfl
    rw [none_, Bool.or_true, if_pos rfl]

end clusters

/-- Settles O39: the stage enables follow what each half wants to pull, and move nothing else of a cluster. -/
theorem amplifierClustersGuardTheirStages : Obligations.AmplifierClustersGuardTheirStages := by
  intro h c s up four
  refine ⟨fun well => ⟨fun e cause fault => ?_, fun low wrong may => psenReadbackFault_stops up four well wrong may⟩,
    fun acts hot => thermalShutdownEnd_pulls acts hot four, fun v valid =>
      ⟨fun armed good outside => busOutOfRange_trips up four valid armed good outside, fun low high => busInRange_arms up four valid low high⟩,
    fun bad => busPsenRelease_releases up four bad, fun stopped => psenReleaseDelay_releases four stopped,
    fun cause detected => psenReleaseDelay_all detected⟩
  obtain ⟨rfl, rfl, acts, limited⟩ | ⟨rfl, rfl, ntc⟩ | ⟨rfl, rfl, invalid⟩ := fault
  · refine completesAt_on rfl ?_
    rw [if_pos (by rw [acts, Bool.true_and, bne_iff_ne]; exact limited)]
    exact Half.ampClusterFault_shows (by decide) well
  · refine completesAt_on rfl ?_
    rw [if_pos (by rw [up, ntc]; rfl)]
    exact Half.ampClusterFault_shows (by decide) well
  · refine completesAt_on rfl ?_
    rw [if_pos (by rw [up, invalid]; rfl)]
    exact Half.ampClusterFault_shows (by decide) well

end Sys2Proof.Machine
end

section
/-! O40: slave-mode TDM ports (R327, R328). -/

namespace Sys2Proof.Machine

open Sys2Proof

section tdm
variable {h : HalfId} {t : Fin 8} {s : State}

theorem Half.onTdm_port {x : Half} {t : Fin 8} (eight : x.out.tdm.length = 8) (f : TdmPort → TdmPort) : (x.onTdm t f).tdmPort t = f (x.tdmPort t) :=
  getAt_modAt _ _ _ _ (by rw [eight]; exact t.isLt)

theorem Half.tdmPort_of_out {x y : Half} (h : y.out = x.out) (t : Nat) : y.tdmPort t = x.tdmPort t := by rw [Half.tdmPort, h, ← Half.tdmPort]

/-- The registers that show a move of port t. -/
def tdmMoveRegs (t : Nat) : List Nat := [Adr.TDM_STATUS t, Adr.TDM_EVENT t]

theorem tdm_ne {t : Nat} : Adr.TDM_STATUS t ≠ Adr.TDM_EVENT t ∧ Adr.TDM_STATUS t ≠ Adr.TDM_FAULT t ∧ Adr.TDM_EVENT t ≠ Adr.TDM_FAULT t := by
  simp only [Adr.TDM_STATUS, Adr.TDM_EVENT, Adr.TDM_FAULT]
  omega

theorem Half.setTdm_shows (x : Half) (t : Nat) {v : Nat} (hv : v < 4) : (x.setTdm t v).tdmState t = v ∧
    Writes (· ∈ tdmMoveRegs t) x (x.setTdm t v) := by
  unfold Half.setTdm
  split
  · next same => exact ⟨same, .refl _ x⟩
  · refine ⟨?_, ((Writes.refl _ x).put 0 2 v (by simp [tdmMoveRegs])).event 0 (by simp [tdmMoveRegs])⟩
    rw [Half.tdmState, Half.get_congr (Half.rd_event_ne _ _ tdm_ne.1), Half.get_put_self _ _ _ _ _ (by decide)]
    exact Nat.mod_eq_of_lt hv

/-- A frame start is taken while the Output region works. -/
theorem tdmFrameStart_completes {bclks : BitVec 16} {ofs : BlockOfs} {ratio : Word} {slots : List Word} (up : (s.half h).outUp = true)
    {P : Half → Prop} (shows_ : P ((s.half h).tdmFrame t bclks.toNat ofs ratio slots)) : CompletesAt (.tdmFrameStart h t bclks ofs ratio slots) h s P := by
  refine completesAt_on rfl ?_
  rw [if_pos up]
  exact shows_

/-- A frame start at a port that waits for its clock. -/
theorem Half.tdmFrame_waiting {x : Half} {t : Fin 8} (slave : x.tdmMaster t = false) (waits : x.tdmState t = 1) (bclks ofs : Nat) (ratio : Word)
    (slots : List Word) : x.tdmFrame t bclks ofs ratio slots = if !(x.tdmPort t).seen then x.onTdm t fun p => { p with seen := true }
      else x.onTdm t fun p => { p with found := p.found || bclks == x.tdmFrameBits t } := by
  simp only [Half.tdmFrame, slave, Bool.false_eq_true, if_false, waits]

/-- A port whose resampler has taken a frame start. -/
def Half.tdmTimed (x : Half) (t ofs : Nat) (ratio : Word) : Half :=
  (x.wr (Adr.TDM_RATIO t) ratio).wrNat (Adr.TDM_PHASE t) (ofs - ofs * x.blockLen / 125000 * 125000 / x.blockLen)

/-- A port that has taken a frame for a position of the block. -/
def Half.tdmTake (x : Half) (t pos : Nat) (slots : List Word) : Half :=
  (x.onTdm t fun p => { p with errs := 0, frames := p.frames ++ [(pos, slots)] }).wrap (Adr.TDM_FRAMES t) 0 32 1

/-- A port that misses a frame. -/
def Half.tdmMiss (x : Half) (t pos : Nat) : Half :=
  ((x.onTdm t fun p => { p with errs := p.errs + 1, frames := p.frames ++ [(pos, [])] }).count (Adr.TDM_FRAME_ERR_CNT t) 0 16 1).event
    (Adr.TDM_EVENT t) 2

theorem Half.tdmFrame_running {x : Half} {t : Fin 8} (slave : x.tdmMaster t = false) (runs : x.tdmState t = 2) (decides : x.role ≠ .standby)
    (bclks ofs : Nat) (ratio : Word) (slots : List Word) : x.tdmFrame t bclks ofs ratio slots =
      if bclks == x.tdmFrameBits t then (x.tdmTimed t ofs ratio).tdmTake t (ofs * x.blockLen / 125000) slots
      else (x.tdmTimed t ofs ratio).tdmMiss t (ofs * x.blockLen / 125000) := by
  simp only [Half.tdmFrame, slave, Bool.false_eq_true, if_false, runs, decides]
  rfl

theorem Half.tdmTimed_shows (x : Half) (t ofs : Nat) (ratio : Word) : (x.tdmTimed t ofs ratio).rd (Adr.TDM_RATIO t) = ratio ∧
    Writes (· ∈ [Adr.TDM_RATIO t, Adr.TDM_PHASE t]) x (x.tdmTimed t ofs ratio) := by
  have apart : Adr.TDM_RATIO t ≠ Adr.TDM_PHASE t := by simp only [Adr.TDM_RATIO, Adr.TDM_PHASE]; omega
  unfold Half.tdmTimed
  refine ⟨?_, ((Writes.refl _ x).wr ratio (by simp)).wrNat _ (by simp)⟩
  rw [Half.rd_wrNat_ne _ _ apart, Half.rd_wr_self]

/-- A register that counts on by one. -/
theorem Half.rd_wrap_one (x : Half) (a : Nat) : (x.wrap a 0 32 1).rd a = x.rd a + 1 := by
  rw [Half.wrap_eq, Half.rd_put_self]
  refine BitVec.eq_of_toNat_eq ?_
  simp only [setBits, Half.get, getBits, BitVec.toNat_ofNat, BitVec.toNat_add]
  have := (x.rd a).isLt
  simp
  omega

theorem Half.tdmTake_shows {x : Half} (eight : x.out.tdm.length = 8) (pos : Nat) (slots : List Word) : ((x.tdmTake t pos slots).tdmPort t).errs = 0 ∧
    ((x.tdmTake t pos slots).tdmPort t).frames = (x.tdmPort t).frames ++ [(pos, slots)] ∧
    (x.tdmTake t pos slots).rd (Adr.TDM_FRAMES t) = x.rd (Adr.TDM_FRAMES t) + 1 ∧ SameRegs [Adr.TDM_FRAMES t] x (x.tdmTake t pos slots) := by
  have port := Half.onTdm_port (t := t) eight fun p => { p with errs := 0, frames := p.frames ++ [(pos, slots)] }
  have same := fun a => Half.onOut_rd x (fun o => { o with tdm := modAt o.tdm t fun p => { p with errs := 0, frames := p.frames ++ [(pos, slots)] } }) a
  unfold Half.tdmTake Half.onTdm at *
  generalize x.onOut (fun o => { o with tdm := modAt o.tdm t fun p => { p with errs := 0, frames := p.frames ++ [(pos, slots)] } }) = z at port same ⊢
  have after := Half.tdmPort_of_out (Half.wrap_out z (Adr.TDM_FRAMES t) 0 32 1) t
  have counted := (Writes.refl (· ∈ [Adr.TDM_FRAMES t]) z).wrap (a := Adr.TDM_FRAMES t) 0 32 1 (by simp)
  exact ⟨by rw [after, port], by rw [after, port], by rw [Half.rd_wrap_one, same], fun a ha => (counted.keeps a ha).trans (same a)⟩

theorem Half.tdmMiss_shows {x : Half} (eight : x.out.tdm.length = 8) (pos : Nat) : ((x.tdmMiss t pos).tdmPort t).errs = (x.tdmPort t).errs + 1 ∧
    (x.tdmMiss t pos).bit (Adr.TDM_EVENT t) 2 = true ∧
    (x.tdmMiss t pos).get (Adr.TDM_FRAME_ERR_CNT t) 0 16 = satAdd 16 (x.get (Adr.TDM_FRAME_ERR_CNT t) 0 16) 1 ∧
    SameRegs [Adr.TDM_FRAME_ERR_CNT t, Adr.TDM_EVENT t] x (x.tdmMiss t pos) := by
  have port := Half.onTdm_port (t := t) eight fun p => { p with errs := p.errs + 1, frames := p.frames ++ [(pos, [])] }
  have same := fun a => Half.onOut_rd x (fun o => { o with tdm := modAt o.tdm t fun p => { p with errs := p.errs + 1, frames := p.frames ++ [(pos, [])] } }) a
  unfold Half.tdmMiss Half.onTdm at *
  generalize x.onOut (fun o => { o with tdm := modAt o.tdm t fun p => { p with errs := p.errs + 1, frames := p.frames ++ [(pos, [])] } }) = z at port same ⊢
  have apart : Adr.TDM_FRAME_ERR_CNT t ≠ Adr.TDM_EVENT t := by simp only [Adr.TDM_FRAME_ERR_CNT, Adr.TDM_EVENT]; omega
  have after := Half.tdmPort_of_out ((Half.event_out (z.count (Adr.TDM_FRAME_ERR_CNT t) 0 16 1) (Adr.TDM_EVENT t) 2).trans (Half.count_out ..)) t
  have counted := ((Writes.refl (· ∈ [Adr.TDM_FRAME_ERR_CNT t, Adr.TDM_EVENT t]) z).count (a := Adr.TDM_FRAME_ERR_CNT t) 0 16 1 (by simp)).event
    (a := Adr.TDM_EVENT t) 2 (by simp)
  refine ⟨by rw [after, port], Half.bit_event_self _ _ _ (by decide), ?_, fun a ha => (counted.keeps a ha).trans (same a)⟩
  rw [Half.get_congr (Half.rd_event_ne _ _ apart), Half.count_eq, Half.get_put_self _ _ _ _ _ (by decide), satAdd_mod, Half.get_congr (same _)]

theorem tdmFrame_good {bclks : BitVec 16} {ofs : BlockOfs} {ratio : Word} {slots : List Word} (up : (s.half h).outUp = true)
    (slave : (s.half h).tdmMaster t = false) (eight : (s.half h).out.tdm.length = 8) (runs : (s.half h).tdmState t = 2)
    (decides : (s.half h).role ≠ .standby) (good : bclks.toNat = (s.half h).tdmSlots t * (s.half h).tdmWidth t) :
    CompletesAt (.tdmFrameStart h t bclks ofs ratio slots) h s fun x => x.rd (Adr.TDM_RATIO t) = ratio ∧ (x.tdmPort t).errs = 0 ∧
      (x.tdmPort t).frames = ((s.half h).tdmPort t).frames ++ [(ofs * (s.half h).blockLen / 125000, slots)] ∧
      x.rd (Adr.TDM_FRAMES t) = (s.half h).rd (Adr.TDM_FRAMES t) + 1 ∧
      SameRegs [Adr.TDM_RATIO t, Adr.TDM_PHASE t, Adr.TDM_FRAMES t] (s.half h) x := by
  refine tdmFrameStart_completes up ?_
  rw [Half.tdmFrame_running slave runs decides, if_pos (by rw [good]; exact beq_self_eq_true _)]
  obtain ⟨shown, timed⟩ := (s.half h).tdmTimed_shows t ofs ratio
  have out : ((s.half h).tdmTimed t ofs ratio).out = (s.half h).out := by rw [timed.same]
  obtain ⟨errs, frames, counted, regs⟩ :=
    Half.tdmTake_shows (t := t) (x := (s.half h).tdmTimed t ofs ratio) (by rw [out]; exact eight) (ofs * (s.half h).blockLen / 125000) slots
  have apart : Adr.TDM_RATIO t ∉ [Adr.TDM_FRAMES t] ∧ Adr.TDM_FRAMES t ∉ [Adr.TDM_RATIO t, Adr.TDM_PHASE t] := by
    simp only [List.mem_cons, List.not_mem_nil, or_false, not_or, Adr.TDM_RATIO, Adr.TDM_FRAMES, Adr.TDM_PHASE]
    omega
  refine ⟨(regs _ apart.1).trans shown, errs, by rw [frames, Half.tdmPort_of_out out], by rw [counted, timed.keeps _ apart.2], fun a ha => ?_⟩
  simp only [List.mem_cons, List.not_mem_nil, or_false, not_or] at ha
  obtain ⟨ratio, phase, frames⟩ := ha
  rw [regs a (by simpa using frames), timed.keeps a (by simp [ratio, phase])]

theorem tdmFrame_bad {bclks : BitVec 16} {ofs : BlockOfs} {ratio : Word} {slots : List Word} (up : (s.half h).outUp = true)
    (slave : (s.half h).tdmMaster t = false) (eight : (s.half h).out.tdm.length = 8) (runs : (s.half h).tdmState t = 2)
    (decides : (s.half h).role ≠ .standby) (bad : bclks.toNat ≠ (s.half h).tdmSlots t * (s.half h).tdmWidth t) :
    CompletesAt (.tdmFrameStart h t bclks ofs ratio slots) h s fun x => (x.tdmPort t).errs = ((s.half h).tdmPort t).errs + 1 ∧
      x.bit (Adr.TDM_EVENT t) 2 = true ∧
      x.get (Adr.TDM_FRAME_ERR_CNT t) 0 16 = satAdd 16 ((s.half h).get (Adr.TDM_FRAME_ERR_CNT t) 0 16) 1 ∧
      SameRegs [Adr.TDM_RATIO t, Adr.TDM_PHASE t, Adr.TDM_FRAME_ERR_CNT t, Adr.TDM_EVENT t] (s.half h) x := by
  refine tdmFrameStart_completes up ?_
  rw [Half.tdmFrame_running slave runs decides, if_neg (by rw [beq_iff_eq]; exact bad)]
  obtain ⟨-, timed⟩ := (s.half h).tdmTimed_shows t ofs ratio
  have out : ((s.half h).tdmTimed t ofs ratio).out = (s.half h).out := by rw [timed.same]
  obtain ⟨errs, event, counted, regs⟩ :=
    Half.tdmMiss_shows (t := t) (x := (s.half h).tdmTimed t ofs ratio) (by rw [out]; exact eight) (ofs * (s.half h).blockLen / 125000)
  have apart : Adr.TDM_FRAME_ERR_CNT t ∉ [Adr.TDM_RATIO t, Adr.TDM_PHASE t] := by
    simp only [List.mem_cons, List.not_mem_nil, or_false, not_or, Adr.TDM_RATIO, Adr.TDM_FRAME_ERR_CNT, Adr.TDM_PHASE]
    omega
  refine ⟨by rw [errs, Half.tdmPort_of_out out], event, by rw [counted, timed.get apart], fun a ha => ?_⟩
  simp only [List.mem_cons, List.not_mem_nil, or_false, not_or] at ha
  obtain ⟨ratio, phase, errors, event⟩ := ha
  rw [regs a (by simp [errors, event]), timed.keeps a (by simp [ratio, phase])]

theorem tdmFrame_seen {bclks : BitVec 16} {ofs : BlockOfs} {ratio : Word} {slots : List Word} (up : (s.half h).outUp = true)
    (slave : (s.half h).tdmMaster t = false) (eight : (s.half h).out.tdm.length = 8) (waits : (s.half h).tdmState t = 1) :
    CompletesAt (.tdmFrameStart h t bclks ofs ratio slots) h s fun x => (x.tdmPort t).seen = true ∧
      (((s.half h).tdmPort t).seen = true → (x.tdmPort t).found =
        (((s.half h).tdmPort t).found || bclks.toNat == (s.half h).tdmSlots t * (s.half h).tdmWidth t)) ∧ x.regs = (s.half h).regs := by
  refine tdmFrameStart_completes up ?_
  rw [Half.tdmFrame_waiting slave waits]
  by_cases seen : ((s.half h).tdmPort t).seen = true
  · rw [if_neg (by rw [seen]; decide), Half.onTdm_port eight]
    exact ⟨seen, fun _ => rfl, rfl⟩
  · rw [if_pos (by simpa using seen), Half.onTdm_port eight]
    exact ⟨rfl, fun e => absurd e seen, rfl⟩

theorem tdmFrameErrorLimit_fails (up : (s.half h).outUp = true) (slave : (s.half h).tdmMaster t = false) (many : 16 ≤ ((s.half h).tdmPort t).errs)
    (runs : (s.half h).tdmState t = 2) :
    CompletesAt (.tdmFrameErrorLimit h t) h s fun x => x.tdmState t = 3 ∧ x.get (Adr.TDM_FAULT t) 0 16 = 2 ∧ x.bit (Adr.TDM_FAULT t) 31 = true ∧
      SameRegs [Adr.TDM_STATUS t, Adr.TDM_EVENT t, Adr.TDM_FAULT t] (s.half h) x := by
  refine completesAt_on rfl ?_
  rw [if_pos (by rw [up, decide_eq_true many]; rfl), Half.tdmFail, if_pos ⟨runs, by rw [slave]; rfl⟩]
  simp only [Nat.reduceEqDiff, if_false]
  obtain ⟨state, moves⟩ := (s.half h).setTdm_shows t (v := 3) (by decide)
  generalize (s.half h).setTdm t 3 = y at state moves ⊢
  refine ⟨(Half.get_latch_ne _ _ _ _ _ _ tdm_ne.2.1).trans state, Half.get_latch_cause .., Half.bit_latch_valid .., fun a ha => ?_⟩
  simp only [List.mem_cons, List.not_mem_nil, or_false, not_or] at ha
  obtain ⟨status, event, fault⟩ := ha
  rw [Half.rd_latch_ne _ _ fault, moves.keeps a (by simp [tdmMoveRegs, status, event])]

theorem tdmClockRestored_waits (up : (s.half h).outUp = true) (eight : (s.half h).out.tdm.length = 8) (failed : (s.half h).tdmState t = 3) :
    CompletesAt (.tdmClockRestored h t) h s fun x => x.tdmState t = 1 ∧ x.bit (Adr.TDM_EVENT t) 1 = true ∧
      (x.tdmPort t).seen = false ∧ (x.tdmPort t).errs = 0 ∧ SameRegs [Adr.TDM_STATUS t, Adr.TDM_EVENT t] (s.half h) x := by
  refine completesAt_on rfl ?_
  rw [if_pos (by rw [up, failed]; rfl)]
  have port := Half.onTdm_port (t := t) eight fun p => { p with seen := false, found := false, errs := 0 }
  have same : ∀ a, ((s.half h).onTdm t fun p => { p with seen := false, found := false, errs := 0 }).rd a = (s.half h).rd a := fun _ => rfl
  generalize (s.half h).onTdm t (fun p => { p with seen := false, found := false, errs := 0 }) = y at port same ⊢
  obtain ⟨state, moves⟩ := y.setTdm_shows t (v := 1) (by decide)
  have after : ((y.setTdm t 1).event (Adr.TDM_EVENT t) 1).tdmPort t = y.tdmPort t := by
    rw [Half.tdmPort_of_out (Half.event_out ..), Half.tdmPort_of_out (show (y.setTdm t 1).out = y.out by rw [moves.same])]
  refine ⟨?_, Half.bit_event_self _ _ _ (by decide), by rw [after, port], by rw [after, port], fun a ha => ?_⟩
  · rw [Half.tdmState, Half.get_congr (Half.rd_event_ne _ _ tdm_ne.1)]
    exact state
  · rw [Half.rd_event_ne _ _ (by simp at ha; exact ha.2), moves.keeps a ha, same]

end tdm

/-- Settles O40: a frame start acts by the port's state; the error limit and the clock's return move the port. -/
theorem tdmPortsFollowTheirFrames : Obligations.TdmPortsFollowTheirFrames := by
  intro h t s up slave eight
  exact ⟨fun bclks ofs ratio slots => ⟨fun waits => tdmFrame_seen up slave eight waits, fun runs decides =>
      ⟨fun good => tdmFrame_good up slave eight runs decides good, fun bad => tdmFrame_bad up slave eight runs decides bad⟩⟩,
    fun many runs => tdmFrameErrorLimit_fails up slave many runs, fun failed => tdmClockRestored_waits up eight failed⟩

end Sys2Proof.Machine
end

section
/-! O41: converters, profiles, the system profile and common mode (R380 to R399). -/

namespace Sys2Proof.Machine

open Sys2Proof

/-! What the sense chain changes. -/

/-- From x to y only registers in p and converters in c have moved, of what the sense chain works on. -/
structure SenseMoves (p c : Nat → Prop) (x y : Half) : Prop where
  keeps : ∀ a, ¬ p a → y.rd a = x.rd a
  conv : ∀ k, ¬ c k → y.conv k = x.conv k
  prof : y.out.prof = x.out.prof
  lsp : y.out.lsp = x.out.lsp
  tj : y.hlt.tj = x.hlt.tj

namespace SenseMoves
variable {p c : Nat → Prop} {x y z : Half}

theorem refl (p c : Nat → Prop) (x : Half) : SenseMoves p c x x := ⟨fun _ _ => rfl, fun _ _ => rfl, rfl, rfl, rfl⟩

theorem trans (h : SenseMoves p c x y) (k : SenseMoves p c y z) : SenseMoves p c x z :=
  ⟨fun a ha => (k.keeps a ha).trans (h.keeps a ha), fun i hi => (k.conv i hi).trans (h.conv i hi), k.prof.trans h.prof, k.lsp.trans h.lsp,
    k.tj.trans h.tj⟩

theorem mono {q d : Nat → Prop} (h : SenseMoves p c x y) (hp : ∀ a, p a → q a) (hc : ∀ k, c k → d k) : SenseMoves q d x y :=
  ⟨fun a ha => h.keeps a fun e => ha (hp a e), fun k hk => h.conv k fun e => hk (hc k e), h.prof, h.lsp, h.tj⟩

theorem of_writes (w : Writes p x y) : SenseMoves p c x y := by
  rw [w.same]
  exact ⟨fun a ha => (congrArg (Half.rd · a) w.same).symm.trans (w.keeps a ha), fun _ _ => rfl, rfl, rfl, rfl⟩

theorem onConv (x : Half) {s : Nat} (f : Conv → Conv) (hs : c s) : SenseMoves p c x (x.onConv s f) :=
  ⟨fun _ _ => rfl, fun _ hk => lookAt_storeAt_ne _ _ _ fun e => hk (e ▸ hs), rfl, rfl, rfl⟩

end SenseMoves

theorem Half.onConv_conv (x : Half) (s : Nat) (f : Conv → Conv) : (x.onConv s f).conv s = f (x.conv s) := lookAt_storeAt_self ..

theorem Half.conv_of_out {x y : Half} (h : y.out = x.out) (s : Nat) : y.conv s = x.conv s := by rw [Half.conv, h, ← Half.conv]

theorem Writes.out {p : Nat → Prop} {x y : Half} (w : Writes p x y) : y.out = x.out := by rw [w.same]

theorem sns_ne {m n : Nat} : Adr.SNS_VALUE m ≠ Adr.SNS_STATUS n ∧ Adr.SNS_VALUE m ≠ Adr.SNS_EVENT n ∧ Adr.SNS_STATUS m ≠ Adr.SNS_EVENT n ∧
    Adr.SNS_STATUS m ≠ Adr.SNS_FAULT n ∧ Adr.SNS_EVENT m ≠ Adr.SNS_FAULT n := by
  simp only [Adr.SNS_VALUE, Adr.SNS_STATUS, Adr.SNS_EVENT, Adr.SNS_FAULT]
  omega

/-! Validity of a converter (R380, R382). -/

/-- A half that shows the lowest cause of converter s. -/
def Half.showCause (x : Half) (s : Nat) : Half :=
  x.put (Adr.SNS_STATUS s) 8 4 (((List.range 6).find? (x.conv s).causes.contains).getD 0)

/-- A half that shows a change of VALID of converter s. -/
def Half.showChange (x : Half) (s : Nat) (ok : Bool) : Half := (x.putBit (Adr.SNS_STATUS s) 0 ok).event (Adr.SNS_EVENT s) 3

theorem lowestCause_lt (cs : List Nat) : ((List.range 6).find? cs.contains).getD 0 < 16 := by
  cases e : (List.range 6).find? cs.contains with
  | none => decide
  | some v =>
    have := List.mem_range.1 (List.mem_of_find?_eq_some e)
    show v < 16
    omega

theorem Half.showCause_shows (x : Half) (s : Nat) :
    (x.showCause s).get (Adr.SNS_STATUS s) 8 4 = ((List.range 6).find? (x.conv s).causes.contains).getD 0 ∧
      (x.showCause s).snsValid s = x.snsValid s ∧ Writes (· ∈ [Adr.SNS_STATUS s]) x (x.showCause s) := by
  refine ⟨?_, Half.bit_put_field _ _ _ _ _ _ (by decide) (by decide), (Writes.refl _ x).put 8 4 _ (by simp)⟩
  rw [Half.showCause, Half.get_put_self _ _ _ _ _ (by decide)]
  exact Nat.mod_eq_of_lt (lowestCause_lt _)

theorem Half.showChange_shows (x : Half) (s : Nat) (ok : Bool) : (x.showChange s ok).snsValid s = ok ∧
    (x.showChange s ok).bit (Adr.SNS_EVENT s) 3 = true ∧ (x.showChange s ok).get (Adr.SNS_STATUS s) 8 4 = x.get (Adr.SNS_STATUS s) 8 4 ∧
    Writes (· ∈ [Adr.SNS_STATUS s, Adr.SNS_EVENT s]) x (x.showChange s ok) := by
  have apart := (sns_ne (m := s) (n := s)).2.2.1
  refine ⟨?_, Half.bit_event_self _ _ _ (by decide), ?_, ((Writes.refl _ x).putBit 0 ok (by simp)).event 3 (by simp)⟩
  · rw [Half.snsValid, Half.showChange, Half.bit_event_ne _ _ _ apart, Half.bit_putBit_self _ _ _ _ (by decide)]
  · rw [Half.showChange, Half.get_congr (Half.rd_event_ne _ _ apart)]
    exact Half.get_put_field _ _ _ _ _ _ _ (by decide) (by decide)

/-- What follows from the loss of converter s (R382). -/
def Half.converterLost (x : Half) (s : Nat) : Half :=
  if 64 ≤ s ∧ s < 72 then (x.senseLost s).takeClass (s - 64) 4 0 else x.senseLost s

theorem Half.showValid_eq (x : Half) (s : Nat) : x.showValid s =
    if (x.showCause s).snsValid s = (x.conv s).causes.isEmpty then x.showCause s
    else if (x.conv s).causes.isEmpty = true then ((x.showCause s).showChange s true).onConv s fun c => { c with join := true }
    else ((x.showCause s).showChange s false).converterLost s := by
  unfold Half.showValid Half.converterLost Half.showChange Half.showCause
  simp only
  cases (x.conv s).causes.isEmpty <;> simp only [reduceIte, Bool.false_eq_true]

/-- The registers that show what follows from the loss of converter n. -/
def lostRegs (n : Nat) : List Nat :=
  if n < 32 then [Adr.AMP_STATUS n, Adr.AMP_EVENT n, Adr.AMP_FAULT n] else if n < 64 then [Adr.AMP_FAULT (n - 32)]
  else if n < 72 then [Adr.ALM_EVAC_STATUS (n - 64), Adr.ALM_EVENT] else []

/-- An EVAC input whose converter gives nothing is UNKNOWN. -/
theorem Half.takeClass_unknown (x : Half) (i : Nat) : Writes (· ∈ [Adr.ALM_EVAC_STATUS i, Adr.ALM_EVENT]) x (x.takeClass i 4 0) := by
  unfold Half.takeClass
  simp only [show (2 : Nat) ≤ 4 from by decide, decide_true, Bool.or_true, reduceIte, show ¬ ((4 : Nat) = 2 ∨ (4 : Nat) = 3) from by decide,
    false_and, show ¬ (4 : Nat) = 1 from by decide]
  exact .ite (fun _ => .refl _ x) fun _ => ((Writes.refl _ x).put 0 3 4 (by simp)).event 3 (by simp)

theorem Half.senseLost_shows (x : Half) (n : Nat) : Writes (· ∈ lostRegs n) x (x.senseLost n) ∧
    (n < 32 → (x.senseLost n).bit (Adr.AMP_STATUS n) 8 = true ∧ (x.senseLost n).get (Adr.AMP_FAULT n) 0 16 = 4) := by
  have apart : Adr.AMP_STATUS n ≠ Adr.AMP_EVENT n ∧ Adr.AMP_STATUS n ≠ Adr.AMP_FAULT n := by
    simp only [Adr.AMP_STATUS, Adr.AMP_EVENT, Adr.AMP_FAULT]
    omega
  unfold Half.senseLost lostRegs
  split
  · refine ⟨(((Writes.refl _ x).putBit 8 true (by simp)).event 6 (by simp)).latch 4 (by simp), fun _ => ⟨?_, Half.get_latch_cause ..⟩⟩
    rw [Half.bit_latch_ne _ _ _ _ _ apart.2, Half.bit_event_ne _ _ _ apart.1, Half.bit_putBit_self _ _ _ _ (by decide)]
  · split
    · exact ⟨(Writes.refl _ x).latch 5 (by simp), fun h => absurd h ‹_›⟩
    · exact ⟨.refl _ x, fun h => absurd h ‹_›⟩

theorem Half.converterLost_shows (x : Half) (n : Nat) : Writes (· ∈ lostRegs n) x (x.converterLost n) ∧
    (n < 32 → (x.converterLost n).bit (Adr.AMP_STATUS n) 8 = true ∧ (x.converterLost n).get (Adr.AMP_FAULT n) 0 16 = 4) := by
  obtain ⟨lost, shown⟩ := x.senseLost_shows n
  unfold Half.converterLost
  split
  · next evac =>
    refine ⟨lost.trans ((Half.takeClass_unknown _ _).mono fun a ha => ?_), fun h => by omega⟩
    rwa [lostRegs, if_neg (by omega), if_neg (by omega), if_pos evac.2]
  · exact ⟨lost, shown⟩

theorem lostRegs_sns {n m : Nat} (hn : n < 80) : Adr.SNS_STATUS m ∉ lostRegs n ∧ Adr.SNS_EVENT m ∉ lostRegs n ∧ Adr.SNS_FAULT m ∉ lostRegs n := by
  unfold lostRegs
  simp only [Adr.SNS_STATUS, Adr.SNS_EVENT, Adr.SNS_FAULT, Adr.AMP_STATUS, Adr.AMP_EVENT, Adr.AMP_FAULT, Adr.ALM_EVAC_STATUS, Adr.ALM_EVENT]
  split <;> [skip; split <;> [skip; split]] <;> simp <;> omega

/-- A half whose converter n has a further cause. -/
def Half.addCause (x : Half) (n cause : Nat) : Half :=
  (x.onConv n fun c => { c with causes := cause :: c.causes }).latch (Adr.SNS_FAULT n) cause

theorem Half.snsCause_eq {x : Half} {n cause : Nat} (recorded : cause ≤ 3) (new : (x.conv n).causes.contains cause = false) :
    x.snsCause n cause = (x.addCause n cause).showValid n := by
  unfold Half.snsCause
  rw [if_neg (by rw [new]; decide)]
  simp only [if_pos recorded]
  rfl

theorem Half.addCause_shows (x : Half) {n cause : Nat} (hc : cause ≤ 3) : ((x.addCause n cause).conv n).causes = cause :: (x.conv n).causes ∧
    (x.addCause n cause).get (Adr.SNS_FAULT n) 0 16 = cause ∧ ∀ a, a ≠ Adr.SNS_FAULT n → (x.addCause n cause).rd a = x.rd a := by
  have out := (Writes.refl (· = Adr.SNS_FAULT n) (x.onConv n fun c => { c with causes := cause :: c.causes })).latch cause rfl
  refine ⟨?_, ?_, fun a ha => out.keeps a ha⟩
  · exact congrArg Conv.causes ((Half.conv_of_out (Half.latch_out ..) n).trans (Half.onConv_conv ..))
  · rw [Half.addCause, Half.get_latch_cause]
    omega

/-- Showing a converter with a cause: invalid, its lowest cause, and what follows where it was valid. -/
theorem Half.showValid_invalid {x : Half} {n : Nat} (hn : n < 80) (bad : (x.conv n).causes.isEmpty = false) : (x.showValid n).snsValid n = false ∧
    (x.showValid n).get (Adr.SNS_STATUS n) 8 4 = ((List.range 6).find? (x.conv n).causes.contains).getD 0 ∧
    (x.snsValid n = true → (x.showValid n).bit (Adr.SNS_EVENT n) 3 = true ∧
      (n < 32 → (x.showValid n).bit (Adr.AMP_STATUS n) 8 = true ∧ (x.showValid n).get (Adr.AMP_FAULT n) 0 16 = 4)) ∧
    Writes (· ∈ [Adr.SNS_STATUS n, Adr.SNS_EVENT n] ++ lostRegs n) x (x.showValid n) := by
  obtain ⟨cause, valid, shown⟩ := x.showCause_shows n
  have start := shown.mono (q := (· ∈ [Adr.SNS_STATUS n, Adr.SNS_EVENT n] ++ lostRegs n)) fun a ha => by simp_all
  rw [Half.showValid_eq, bad, valid, if_neg (show ¬ (false = true) by decide)]
  split
  · next held => exact ⟨valid.trans held, cause, fun was => absurd (was.symm.trans held) (by decide), start⟩
  · obtain ⟨invalid, event, kept, change⟩ := (x.showCause n).showChange_shows n false
    obtain ⟨lost, amps⟩ := ((x.showCause n).showChange n false).converterLost_shows n
    obtain ⟨status, sense, -⟩ := lostRegs_sns (m := n) hn
    exact ⟨(lost.bit status 0).trans invalid, (lost.get status 8 4).trans (kept.trans cause), fun _ => ⟨(lost.bit sense 3).trans event, amps⟩,
      (start.trans (change.mono fun a ha => List.mem_append_left _ ha)).trans (lost.mono fun a ha => List.mem_append_right _ ha)⟩

/-- Showing a converter that has become valid: it joins its profile. -/
theorem Half.showValid_valid {x : Half} {n : Nat} (well : (x.conv n).causes = []) (was : x.snsValid n = false) :
    (x.showValid n).snsValid n = true ∧ (x.showValid n).conv n = { x.conv n with join := true } ∧
      (x.showValid n).bit (Adr.SNS_EVENT n) 3 = true ∧ SameRegs [Adr.SNS_STATUS n, Adr.SNS_EVENT n] x (x.showValid n) := by
  obtain ⟨-, valid, shown⟩ := x.showCause_shows n
  obtain ⟨ok, event, -, change⟩ := (x.showCause n).showChange_shows n true
  have moves := (shown.mono (q := (· ∈ [Adr.SNS_STATUS n, Adr.SNS_EVENT n])) fun a ha => by simp_all).trans change
  have conv : ((x.showCause n).showChange n true).conv n = x.conv n := Half.conv_of_out moves.out n
  rw [Half.showValid_eq, well, valid, was, if_neg (by decide), if_pos (show ([] : List Nat).isEmpty = true from rfl)]
  generalize (x.showCause n).showChange n true = y at *
  exact ⟨ok, (Half.onConv_conv ..).trans (congrArg (fun c : Conv => { c with join := true }) conv), event, moves.keeps⟩

section converters
variable {h : HalfId} {n : Fin 80} {s : State}

theorem Half.snsCause_shows {x : Half} {cause : Nat} (recorded : cause ≤ 3) (new : (x.conv n).causes.contains cause = false) :
    (x.snsCause n cause).snsValid n = false ∧ ((x.snsCause n cause).conv n).causes = cause :: (x.conv n).causes ∧
      (x.snsCause n cause).get (Adr.SNS_STATUS n) 8 4 = ((List.range 6).find? (cause :: (x.conv n).causes).contains).getD 0 ∧
      (x.snsCause n cause).get (Adr.SNS_FAULT n) 0 16 = cause ∧
      (x.snsValid n = true → (x.snsCause n cause).bit (Adr.SNS_EVENT n) 3 = true ∧
        (n.val < 32 → (x.snsCause n cause).bit (Adr.AMP_STATUS n) 8 = true ∧ (x.snsCause n cause).get (Adr.AMP_FAULT n) 0 16 = 4)) ∧
      SameRegs (senseLossRegs n) x (x.snsCause n cause) := by
  obtain ⟨causes, fault, same⟩ := x.addCause_shows (n := n) recorded
  have bad : ((x.addCause n cause).conv n).causes.isEmpty = false := by rw [causes]; rfl
  rw [Half.snsCause_eq recorded new]
  have was : x.snsValid n = (x.addCause n cause).snsValid n := (Half.bit_congr (same _ sns_ne.2.2.2.1) 0).symm
  rw [was]
  generalize x.addCause n cause = y at causes fault same bad ⊢
  obtain ⟨invalid, lowest, lost, moves⟩ := y.showValid_invalid n.isLt bad
  have unheld : Adr.SNS_FAULT n ∉ [Adr.SNS_STATUS n, Adr.SNS_EVENT n] ++ lostRegs n := by
    rw [List.mem_append, not_or]
    refine ⟨?_, (lostRegs_sns n.isLt).2.2⟩
    simp only [List.mem_cons, List.not_mem_nil, or_false, not_or]
    exact ⟨sns_ne.2.2.2.1.symm, sns_ne.2.2.2.2.symm⟩
  refine ⟨invalid, ?_, by rw [lowest, causes], (moves.get unheld 0 16).trans fault, lost, fun a ha => ?_⟩
  · rw [Half.conv_of_out moves.out, causes]
  · have apart : a ∉ [Adr.SNS_STATUS n, Adr.SNS_EVENT n, Adr.SNS_FAULT n] ++ lostRegs n := ha
    simp only [List.mem_append, List.mem_cons, List.not_mem_nil, or_false, not_or] at apart
    obtain ⟨⟨status, event, fault⟩, rest⟩ := apart
    rw [moves.keeps a (by simp [status, event, rest]), same a fault]

theorem converterCause_shows {e : Instr} {cause : Nat} (up : (s.half h).outUp = true)
    (begins : (e = .converterStuck h n ∧ cause = 1) ∨ (e = .overloadTimeout h n ∧ cause = 2 ∧ (s.half h).bit (Adr.SNS_STATUS n) 5 = true) ∨
      (e = .frontEndSelfCheckFail h n ∧ cause = 3)) (new : ((s.half h).conv n).causes.contains cause = false) :
    CompletesAt e h s fun x => x.snsValid n = false ∧ (x.conv n).causes = cause :: ((s.half h).conv n).causes ∧
      x.get (Adr.SNS_STATUS n) 8 4 = ((List.range 6).find? (cause :: ((s.half h).conv n).causes).contains).getD 0 ∧
      x.get (Adr.SNS_FAULT n) 0 16 = cause ∧
      ((s.half h).snsValid n = true → x.bit (Adr.SNS_EVENT n) 3 = true ∧
        (n.val < 32 → x.bit (Adr.AMP_STATUS n) 8 = true ∧ x.get (Adr.AMP_FAULT n) 0 16 = 4)) ∧
      SameRegs (senseLossRegs n) (s.half h) x := by
  obtain ⟨rfl, rfl⟩ | ⟨rfl, rfl, over_⟩ | ⟨rfl, rfl⟩ := begins
  · refine completesAt_on rfl ?_
    rw [if_pos up]
    exact Half.snsCause_shows (by decide) new
  · refine completesAt_on rfl ?_
    rw [if_pos (by rw [up, over_]; rfl)]
    exact Half.snsCause_shows (by decide) new
  · refine completesAt_on rfl ?_
    rw [if_pos up]
    exact Half.snsCause_shows (by decide) new

theorem converterOverload_counts {on : Bool} (up : (s.half h).outUp = true) (changed : (s.half h).bit (Adr.SNS_STATUS n) 5 ≠ on) :
    CompletesAt (.converterOverload h n on) h s fun x => x.bit (Adr.SNS_STATUS n) 5 = on ∧
      (on = true → x.bit (Adr.SNS_EVENT n) 2 = true ∧
        x.get (Adr.SNS_SAT_CNT n) 0 16 = satAdd 16 ((s.half h).get (Adr.SNS_SAT_CNT n) 0 16) 1) ∧
      SameRegs [Adr.SNS_STATUS n, Adr.SNS_EVENT n, Adr.SNS_SAT_CNT n] (s.half h) x := by
  refine completesAt_on rfl ?_
  rw [if_pos (by rw [up, Bool.true_and, bne_iff_ne]; exact changed)]
  generalize s.half h = x
  have start : Writes (· ∈ [Adr.SNS_STATUS n, Adr.SNS_EVENT n, Adr.SNS_SAT_CNT n]) x (x.putBit (Adr.SNS_STATUS n) 5 on) :=
    (Writes.refl _ x).putBit 5 on (by simp)
  have shown := x.bit_putBit_self (Adr.SNS_STATUS n) 5 on (by decide)
  cases on with
  | false => exact ⟨shown, fun e => absurd e (by decide), start.keeps⟩
  | true =>
    have apart : Adr.SNS_STATUS n ≠ Adr.SNS_SAT_CNT n ∧ Adr.SNS_EVENT n ≠ Adr.SNS_SAT_CNT n := by
      simp only [Adr.SNS_STATUS, Adr.SNS_EVENT, Adr.SNS_SAT_CNT]
      omega
    have moves := (start.event 2 (a := Adr.SNS_EVENT n) (by simp)).count (a := Adr.SNS_SAT_CNT n) 0 16 1 (by simp)
    refine ⟨?_, fun _ => ⟨?_, ?_⟩, moves.keeps⟩
    · rw [if_pos rfl, Half.bit_congr (Half.rd_count_ne _ _ _ _ apart.1), Half.bit_event_ne _ _ _ sns_ne.2.2.1, shown]
    · rw [if_pos rfl, Half.bit_congr (Half.rd_count_ne _ _ _ _ apart.2), Half.bit_event_self _ _ _ (by decide)]
    · rw [if_pos rfl, Half.count_eq, Half.get_put_self _ _ _ _ _ (by decide), satAdd_mod, Half.get_congr (Half.rd_event_ne _ _ apart.2.symm),
        Half.get_congr (Half.rd_putBit_ne _ _ _ apart.1.symm)]

theorem converterRecovery_joins {cause : Fin 3} (up : (s.half h).outUp = true)
    (last : (((s.half h).conv n).causes.filter (· != cause.val + 1)) = []) (was : (s.half h).snsValid n = false) :
    CompletesAt (.converterRecovery h n cause) h s fun x => x.snsValid n = true ∧ (x.conv n).causes = [] ∧ (x.conv n).join = true ∧
      x.bit (Adr.SNS_EVENT n) 3 = true ∧ SameRegs [Adr.SNS_STATUS n, Adr.SNS_EVENT n] (s.half h) x := by
  refine completesAt_on rfl ?_
  rw [if_pos up, Half.snsClear]
  generalize s.half h = x at last was ⊢
  have conv := x.onConv_conv n fun c => { c with causes := c.causes.filter (· != cause.val + 1) }
  have was' : (x.onConv n fun c => { c with causes := c.causes.filter (· != cause.val + 1) }).snsValid n = false := was
  have same : ∀ a, (x.onConv n fun c => { c with causes := c.causes.filter (· != cause.val + 1) }).rd a = x.rd a := fun _ => rfl
  generalize (x.onConv n fun c => { c with causes := c.causes.filter (· != cause.val + 1) }) = y at conv was' same ⊢
  have well : (y.conv n).causes = [] := (congrArg Conv.causes conv).trans last
  obtain ⟨valid, joins, event, keeps⟩ := Half.showValid_valid well was'
  exact ⟨valid, by rw [joins]; exact well, by rw [joins], event, fun a ha => (keeps a ha).trans (same a)⟩

end converters

/-! An output instant of a profile (R392 to R396). -/

/-- The registers of channel n that an output of its profile writes. -/
def valueRegs (n : Nat) : List Nat := [Adr.SNS_VALUE n, Adr.SNS_STATUS n, Adr.SNS_EVENT n]

theorem valueRegs_apart {m n : Nat} (h : m ≠ n) : Adr.SNS_VALUE m ∉ valueRegs n := by
  simp only [valueRegs, List.mem_cons, List.not_mem_nil, or_false, not_or]
  exact ⟨by simp only [Adr.SNS_VALUE]; omega, sns_ne.1, sns_ne.2.1⟩

/-- A threshold that has met an update: the count of updates, and where it flips the bit that shows it. -/
theorem Half.threshold_eq (x : Half) (n t : Nat) (v : Int) : ∃ (f : Conv → Conv) (flips on : Bool), x.threshold n t v =
    if flips then ((x.onConv n f).putBit (Adr.SNS_STATUS n) (6 + t) on).event (Adr.SNS_EVENT n) t else x.onConv n f := ⟨_, _, _, rfl⟩

theorem Half.threshold_moves (x : Half) (n t : Nat) (v : Int) :
    SenseMoves (· ∈ [Adr.SNS_STATUS n, Adr.SNS_EVENT n]) (· = n) x (x.threshold n t v) := by
  obtain ⟨f, flips, on, e⟩ := x.threshold_eq n t v
  have seen : SenseMoves (· ∈ [Adr.SNS_STATUS n, Adr.SNS_EVENT n]) (· = n) x (x.onConv n f) := .onConv x f rfl
  rw [e]
  split
  · exact seen.trans (.of_writes (((Writes.refl _ _).putBit _ _ (by simp)).event _ (by simp)))
  · exact seen

theorem SenseMoves.each {p c : Nat → Prop} {f : Half → Nat → Half} {is : List Nat} (goes : ∀ i ∈ is, ∀ y, SenseMoves p c y (f y i)) (x : Half) :
    SenseMoves p c x (x.each is f) := by
  unfold Half.each
  induction is generalizing x with
  | nil => exact .refl p c x
  | cons i is ih => exact (goes i List.mem_cons_self x).trans (ih (fun j hj => goes j (List.mem_cons_of_mem i hj)) (f x i))

theorem Half.thresholds_moves (x : Half) (n : Nat) (src : Nat → Nat → Option Int) :
    SenseMoves (· ∈ [Adr.SNS_STATUS n, Adr.SNS_EVENT n]) (· = n) x (x.thresholds n src) := by
  refine SenseMoves.each (fun t _ y => ?_) x
  simp only
  generalize (if t = 0 then y.rd (Adr.SNS_TH0_CFG n) else y.rd (Adr.SNS_TH1_CFG n)) = cfg
  split
  · split
    · exact y.threshold_moves n t _
    · exact .refl _ _ y
  · exact .refl _ _ y

/-- A half with an output of channel n: its converter, its value and whether it is settled; the thresholds see a settled one. -/
def Half.showOutput (x : Half) (n : Nat) (c : Conv) (v : Nat) (unsettled : Bool) (src : Nat → Nat → Option Int) : Half :=
  let y := ((x.onConv n fun _ => c).wrNat (Adr.SNS_VALUE n) v).putBit (Adr.SNS_STATUS n) 4 unsettled
  if unsettled then y else y.thresholds n src

theorem Half.showOutput_shows (x : Half) (n : Nat) (c : Conv) (v : Nat) (unsettled : Bool) (src : Nat → Nat → Option Int) :
    SenseMoves (· ∈ valueRegs n) (· = n) x (x.showOutput n c v unsettled src) ∧
      (x.showOutput n c v unsettled src).rd (Adr.SNS_VALUE n) = BitVec.ofNat 32 v := by
  have conv : SenseMoves (· ∈ valueRegs n) (· = n) x (x.onConv n fun _ => c) := .onConv x _ rfl
  have start : SenseMoves (· ∈ valueRegs n) (· = n) x (((x.onConv n fun _ => c).wrNat (Adr.SNS_VALUE n) v).putBit (Adr.SNS_STATUS n) 4 unsettled) :=
    conv.trans (.of_writes (((Writes.refl _ _).wrNat v (by simp [valueRegs])).putBit 4 _ (by simp [valueRegs])))
  have value : (((x.onConv n fun _ => c).wrNat (Adr.SNS_VALUE n) v).putBit (Adr.SNS_STATUS n) 4 unsettled).rd (Adr.SNS_VALUE n) = BitVec.ofNat 32 v :=
    (Half.rd_putBit_ne _ _ _ sns_ne.1).trans (Half.rd_wrNat_self ..)
  unfold Half.showOutput
  generalize ((x.onConv n fun _ => c).wrNat (Adr.SNS_VALUE n) v).putBit (Adr.SNS_STATUS n) 4 unsettled = y at start value ⊢
  have seen := y.thresholds_moves n src
  simp only
  split
  · exact ⟨start, value⟩
  · exact ⟨start.trans (seen.mono (fun a ha => List.mem_cons_of_mem _ ha) fun _ hk => hk),
      (seen.keeps _ (by simp)).trans value⟩

/-- One channel's part of an output instant. -/
theorem Half.releaseChannel_shows (x : Half) (p : ProfCfg) (k n : Nat) (codes : List (Fin 4)) :
    SenseMoves (· ∈ valueRegs n) (· = n) x (x.releaseChannel p k n codes).1 ∧
      ((x.conv n).causes ≠ [] → (x.releaseChannel p k n codes).1.rd (Adr.SNS_VALUE n) = 0) ∧
      ((x.conv n).causes = [] → (x.conv n).join = false → (x.releaseChannel p k n codes).1.rd (Adr.SNS_VALUE n) =
        BitVec.ofNat 32 (unsigned 32 ((codes.zipIdx.foldl (Conv.cycle p (k * p.d)) (x.conv n)).output p).1)) := by
  unfold Half.releaseChannel
  simp only
  split
  · next bad =>
    have conv : ∀ f, SenseMoves (· ∈ valueRegs n) (· = n) x (x.onConv n f) := fun f => .onConv x f rfl
    refine ⟨(conv _).trans (.of_writes ((Writes.refl _ _).wrNat 0 (by simp [valueRegs]))), fun _ => Half.rd_wrNat_self .., fun well => ?_⟩
    simp [well] at bad
  · next well =>
    have well : (x.conv n).causes = [] := by simpa using well
    split
    · next joins =>
      exact ⟨.of_writes (((Writes.refl _ x).wrNat 0 (by simp [valueRegs])).putBit 4 true (by simp [valueRegs])), fun bad => absurd well bad,
        fun _ steady => absurd (joins.symm.trans steady) (by decide)⟩
    · obtain ⟨moves, value⟩ := x.showOutput_shows n
        { codes.zipIdx.foldl (Conv.cycle p (k * p.d)) (x.conv n) with unsettled := (x.conv n).unsettled - 1 }
        (unsigned 32 ((codes.zipIdx.foldl (Conv.cycle p (k * p.d)) (x.conv n)).output p).1) (decide (0 < (x.conv n).unsettled)) fun src _ =>
          if src = 0 then some ((codes.zipIdx.foldl (Conv.cycle p (k * p.d)) (x.conv n)).output p).1
          else if src = 1 then some ((codes.zipIdx.foldl (Conv.cycle p (k * p.d)) (x.conv n)).output p).1.natAbs else none
      exact ⟨moves, fun bad => absurd well bad, fun _ _ => value⟩

/-- One channel's part of an output instant, its item put behind those before it. -/
def releaseOnto (p : ProfCfg) (k : Nat) (a : Half × List Nat) (q : Nat × List (Fin 4)) : Half × List Nat :=
  ((a.1.releaseChannel p k q.1 q.2).1, a.2 ++ [(a.1.releaseChannel p k q.1 q.2).2])

/-- What output k of profile p leaves in the value register of a channel of x that has taken its codes. -/
def OutputOf (p : ProfCfg) (k : Nat) (x : Half) (q : Nat × List (Fin 4)) (v : Word) : Prop :=
  ((x.conv q.1).causes ≠ [] → v = 0) ∧ ((x.conv q.1).causes = [] → (x.conv q.1).join = false →
    v = BitVec.ofNat 32 (unsigned 32 ((q.2.zipIdx.foldl (Conv.cycle p (k * p.d)) (x.conv q.1)).output p).1))

/-- The parts of distinct channels of an output instant: each channel has its own output. -/
theorem releaseOnto_shows (p : ProfCfg) (k : Nat) (qs : List (Nat × List (Fin 4))) (distinct : (qs.map Prod.fst).Nodup) (a : Half × List Nat) :
    SenseMoves (fun r => ∃ q ∈ qs, r ∈ valueRegs q.1) (· ∈ qs.map Prod.fst) a.1 (qs.foldl (releaseOnto p k) a).1 ∧
      ∀ q ∈ qs, OutputOf p k a.1 q ((qs.foldl (releaseOnto p k) a).1.rd (Adr.SNS_VALUE q.1)) := by
  induction qs generalizing a with
  | nil => exact ⟨.refl _ _ _, fun q hq => absurd hq List.not_mem_nil⟩
  | cons q qs ih =>
    rw [List.map_cons, List.nodup_cons] at distinct
    obtain ⟨alone, rest⟩ := distinct
    obtain ⟨own, bad, value⟩ := a.1.releaseChannel_shows p k q.1 q.2
    obtain ⟨moves, others⟩ := ih rest (releaseOnto p k a q)
    refine ⟨(own.mono (fun r hr => ⟨q, List.mem_cons_self, hr⟩) fun n hn => ?_).trans (moves.mono (fun r hr => ?_) fun n hn => ?_), fun r hr => ?_⟩
    · exact List.mem_cons.2 (Or.inl hn)
    · obtain ⟨e, he, hr⟩ := hr
      exact ⟨e, List.mem_cons_of_mem _ he, hr⟩
    · exact List.mem_cons_of_mem _ hn
    · obtain rfl | later := List.mem_cons.1 hr
      · have kept : ((r :: qs).foldl (releaseOnto p k) a).1.rd (Adr.SNS_VALUE r.1) = (a.1.releaseChannel p k r.1 r.2).1.rd (Adr.SNS_VALUE r.1) := by
          refine moves.keeps _ ?_
          rintro ⟨e, he, hr⟩
          exact absurd hr (valueRegs_apart fun same => alone (same ▸ List.mem_map_of_mem he))
        rw [kept]
        exact ⟨bad, value⟩
      · have conv : (releaseOnto p k a q).1.conv r.1 = a.1.conv r.1 := own.conv _ fun same => alone (same ▸ List.mem_map_of_mem later)
        have shown := others r later
        rw [OutputOf, conv] at shown
        exact shown

/-- A record put to Q7 moves its counters and event alone. -/
theorem Half.pushQ7_keeps (x : Half) (items : List Nat) : (x.pushQ7 items).out = x.out ∧
    ∀ a, a ∉ [Adr.SFE_EVENT, Adr.SFE_DROPPED, Adr.QM_DROP_CNT 7] → (x.pushQ7 items).rd a = x.rd a := by
  have pushed := x.hwPush_pushed 7 4 items
  have out : (x.hwPush 7 4 items).out = x.out := by rw [pushed.same]
  have keeps : ∀ a, a ∉ [Adr.SFE_EVENT, Adr.SFE_DROPPED, Adr.QM_DROP_CNT 7] → (x.hwPush 7 4 items).rd a = x.rd a := fun a ha =>
    pushed.regs a fun e => ha (by simp [e])
  have event : ∀ y : Half, Writes (· ∈ [Adr.SFE_EVENT, Adr.SFE_DROPPED]) y
      ((if (y.rd Adr.SFE_DROPPED).toNat = 0 then y.event Adr.SFE_EVENT 1 else y).count Adr.SFE_DROPPED 0 16 1) := fun y =>
    (Writes.ite (fun _ => (Writes.refl _ y).event 1 (by simp)) fun _ => .refl _ y).count 0 16 1 (by simp)
  unfold Half.pushQ7
  simp only
  split
  · exact ⟨out, keeps⟩
  · exact ⟨(event _).out.trans out, fun a ha => ((event _).keeps a fun e => ha (by simp at e ⊢; tauto)).trans (keeps a ha)⟩

theorem Half.releaseProfile_eq {x : Half} {j : Nat} {codes : List (List (Fin 4))} {p : ProfCfg} (on : (x.prof j).now = some p)
    (each : codes.length = (x.profChannels j).length) (whole : ∀ c ∈ codes, c.length = p.d) : ∃ data : Option (List Nat),
    x.releaseProfile j codes = ((((((x.profChannels j).zip codes).foldl (releaseOnto p (x.prof j).n) (x, [])).1.onProf j fun y =>
      { y with n := (x.prof j).n + 1 }).wrNat (Adr.SFE_PROF_SEQ j) ((x.prof j).n + 1)) |> fun y => match data with | some d => y.pushQ7 d | none => y) := by
  have all : ¬ (codes.length ≠ (x.profChannels j).length ∨ codes.any (fun c => decide (c.length ≠ p.d)) = true) := by
    rintro (e | e)
    · exact e each
    · obtain ⟨c, hc, e⟩ := List.any_eq_true.1 e
      exact of_decide_eq_true e (whole c hc)
  unfold Half.releaseProfile
  simp only [on]
  rw [if_neg all]
  generalize hfold : List.foldl _ (x, ([] : List Nat)) ((x.profChannels j).zip codes) = z
  have e : ((x.profChannels j).zip codes).foldl (releaseOnto p (x.prof j).n) (x, []) = z := hfold
  rw [e]
  split
  · exact ⟨some _, rfl⟩
  · exact ⟨none, rfl⟩

theorem Half.profChannels_nodup (x : Half) (j : Nat) : (x.profChannels j).Nodup := List.Nodup.filter _ List.nodup_range

theorem Half.onProf_prof {x : Half} {j : Fin 7} (seven : x.out.prof.length = 7) (f : ProfSt → ProfSt) : (x.onProf j f).prof j = f (x.prof j) :=
  getAt_modAt _ _ _ _ (by rw [seven]; exact j.isLt)

theorem Half.prof_of_out {x y : Half} (h : y.out.prof = x.out.prof) (j : Nat) : y.prof j = x.prof j := by rw [Half.prof, h, ← Half.prof]

theorem profileRelease_puts {h : HalfId} {s : State} {j : Fin 7} {codes : List (List (Fin 4))} {p : ProfCfg} (up : (s.half h).outUp = true)
    (seven : (s.half h).out.prof.length = 7) (on : ((s.half h).prof j).now = some p)
    (each : codes.length = ((s.half h).profChannels j).length) (whole : ∀ c ∈ codes, c.length = p.d) :
    CompletesAt (.profileRelease h j codes) h s fun x => (x.prof j).n = ((s.half h).prof j).n + 1 ∧
      x.rd (Adr.SFE_PROF_SEQ j) = BitVec.ofNat 32 (((s.half h).prof j).n + 1) ∧
      (∀ q ∈ ((s.half h).profChannels j).zip codes, OutputOf p ((s.half h).prof j).n (s.half h) q (x.rd (Adr.SNS_VALUE q.1))) ∧
      (∀ a, a ∉ [Adr.SFE_PROF_SEQ j, Adr.SFE_EVENT, Adr.SFE_DROPPED, Adr.QM_DROP_CNT 7] →
        (∀ n ∈ (s.half h).profChannels j, a ∉ valueRegs n) → x.rd a = (s.half h).rd a) := by
  refine completesAt_on rfl ?_
  rw [if_pos up]
  generalize s.half h = x at seven on each whole ⊢
  obtain ⟨data, e⟩ := Half.releaseProfile_eq on each whole
  have keys : (((x.profChannels j).zip codes).map Prod.fst) = x.profChannels j := List.map_fst_zip (by rw [each])
  obtain ⟨moves, outputs⟩ := releaseOnto_shows p (x.prof j).n ((x.profChannels j).zip codes) (by rw [keys]; exact x.profChannels_nodup j) (x, [])
  rw [e]
  generalize (((x.profChannels j).zip codes).foldl (releaseOnto p (x.prof j).n) (x, [])).1 = y at moves outputs ⊢
  have prof : (y.onProf j fun z => { z with n := (x.prof j).n + 1 }).prof j = { x.prof j with n := (x.prof j).n + 1 } := by
    rw [Half.onProf_prof (by rw [moves.prof]; exact seven), Half.prof_of_out moves.prof]
  have same : ∀ a, (y.onProf j fun z => { z with n := (x.prof j).n + 1 }).rd a = y.rd a := fun _ => rfl
  generalize y.onProf j (fun z => { z with n := (x.prof j).n + 1 }) = z at prof same ⊢
  have counted := (Writes.refl (· = Adr.SFE_PROF_SEQ j) z).wrNat ((x.prof j).n + 1) rfl
  have seq := Half.rd_wrNat_self z (Adr.SFE_PROF_SEQ j) ((x.prof j).n + 1)
  generalize z.wrNat (Adr.SFE_PROF_SEQ j) ((x.prof j).n + 1) = w at counted seq ⊢
  have pushed : (match data with | some d => w.pushQ7 d | none => w).out = w.out ∧
      ∀ a, a ∉ [Adr.SFE_EVENT, Adr.SFE_DROPPED, Adr.QM_DROP_CNT 7] → (match data with | some d => w.pushQ7 d | none => w).rd a = w.rd a := by
    cases data with
    | some d => exact w.pushQ7_keeps d
    | none => exact ⟨rfl, fun _ _ => rfl⟩
  obtain ⟨out, keeps⟩ := pushed
  have apart : ∀ n, Adr.SNS_VALUE n ∉ [Adr.SFE_EVENT, Adr.SFE_DROPPED, Adr.QM_DROP_CNT 7] ∧ Adr.SNS_VALUE n ≠ Adr.SFE_PROF_SEQ j := fun n => by
    simp only [Adr.SNS_VALUE, Adr.SFE_EVENT, Adr.SFE_DROPPED, Adr.QM_DROP_CNT, Adr.SFE_PROF_SEQ, List.mem_cons, List.not_mem_nil, or_false]
    omega
  refine ⟨?_, ?_, fun q hq => ?_, fun a ha other => ?_⟩
  · exact congrArg ProfSt.n ((Half.prof_of_out (congrArg OutSt.prof (out.trans counted.out)) j).trans prof)
  · refine (keeps _ ?_).trans seq
    simp only [Adr.SFE_EVENT, Adr.SFE_DROPPED, Adr.QM_DROP_CNT, Adr.SFE_PROF_SEQ, List.mem_cons, List.not_mem_nil, or_false]
    omega
  · have shown := outputs q hq
    rwa [← same, ← counted.keeps _ (apart q.1).2, ← keeps _ (apart q.1).1] at shown
  · rw [List.mem_cons, not_or] at ha
    rw [keeps a ha.2, counted.keeps a ha.1, same]
    refine moves.keeps a ?_
    rintro ⟨q, hq, hr⟩
    exact other _ (List.of_mem_zip hq).1 hr

/-! The system profile (R397, R360). -/

/-- The registers that the system profile's output on channel 64 + i writes. -/
def systemRegs (i : Nat) : List Nat :=
  [Adr.SNS_SYS_VALUE (64 + i), Adr.SNS_DERIVED (64 + i), Adr.SNS_STATUS (64 + i), Adr.SNS_EVENT (64 + i)]

theorem Half.threshold_snsValid (x : Half) (n : Nat) {t : Nat} (ht : t < 2) (v : Int) (k : Nat) : (x.threshold n t v).snsValid k = x.snsValid k := by
  obtain ⟨f, flips, on, e⟩ := x.threshold_eq n t v
  have same : (x.onConv n f).snsValid k = x.snsValid k := rfl
  rw [e]
  generalize x.onConv n f = y at same ⊢
  split
  · rw [← same, Half.snsValid, Half.bit_event_ne _ _ _ sns_ne.2.2.1]
    by_cases own : k = n
    · rw [own, Half.bit_putBit_bit _ _ _ _ _ (by omega) (by omega), ← Half.snsValid]
    · rw [Half.bit_putBit_ne _ _ _ _ (by simp only [Adr.SNS_STATUS]; omega), ← Half.snsValid]
  · exact same

theorem Half.thresholds_snsValid (x : Half) (n : Nat) (src : Nat → Nat → Option Int) (k : Nat) : (x.thresholds n src).snsValid k = x.snsValid k := by
  have step : ∀ (y : Half), ∀ t < 2, ∀ cfg : Word, (if bitAt cfg 31 then
      match src (getBits cfg 28 2) (min 8 (getBits cfg 24 4)) with | some v => y.threshold n t v | none => y else y).snsValid k = y.snsValid k := by
    intro y t ht cfg
    split
    · split
      · exact y.threshold_snsValid n ht _ k
      · rfl
    · rfl
  exact (step _ 1 (by decide) _).trans (step _ 0 (by decide) _)

/-- A channel that shows the value of the system profile, with what follows from it. -/
def Half.showDerived (x : Half) (n : Nat) (r : Nat) (src : Nat → Nat → Option Int) : Half :=
  let y := (x.wrNat (Adr.SNS_DERIVED n) r).thresholds n src
  if n < 72 then y.put (Adr.ALM_EVAC_STATUS (n - 64)) 16 16 (min 0xFFFF (rounded r 4)) else y

theorem Half.systemChannel_eq (x : Half) (n : Nat) (v : Word) : ∃ r src, x.systemChannel n v =
    if !x.snsValid n then x else if 76 ≤ n then x.wr (Adr.SNS_SYS_VALUE n) v else (x.wr (Adr.SNS_SYS_VALUE n) v).showDerived n r src :=
  ⟨_, _, rfl⟩

theorem Half.showDerived_shows (x : Half) (i r : Nat) (src : Nat → Nat → Option Int) :
    SenseMoves (fun a => a ∈ [Adr.SNS_DERIVED (64 + i), Adr.SNS_STATUS (64 + i), Adr.SNS_EVENT (64 + i)] ∨ (i < 8 ∧ a = Adr.ALM_EVAC_STATUS i))
      (fun _ => True) x (x.showDerived (64 + i) r src) ∧ ∀ k, (x.showDerived (64 + i) r src).snsValid k = x.snsValid k := by
  have derived := (Writes.refl (· = Adr.SNS_DERIVED (64 + i)) x).wrNat r rfl
  have seen := (x.wrNat (Adr.SNS_DERIVED (64 + i)) r).thresholds_moves (64 + i) src
  have moves : SenseMoves (fun a => a ∈ [Adr.SNS_DERIVED (64 + i), Adr.SNS_STATUS (64 + i), Adr.SNS_EVENT (64 + i)] ∨
      (i < 8 ∧ a = Adr.ALM_EVAC_STATUS i)) (fun _ => True) x ((x.wrNat (Adr.SNS_DERIVED (64 + i)) r).thresholds (64 + i) src) :=
    (SenseMoves.of_writes (derived.mono fun a ha => Or.inl (by simp [ha]))).trans
      (seen.mono (fun a ha => Or.inl (List.mem_cons_of_mem _ ha)) fun _ _ => trivial)
  have valid : ∀ k, ((x.wrNat (Adr.SNS_DERIVED (64 + i)) r).thresholds (64 + i) src).snsValid k = x.snsValid k := fun k =>
    (Half.thresholds_snsValid _ _ _ k).trans (derived.bit (by simp only [Adr.SNS_STATUS, Adr.SNS_DERIVED]; omega) 0)
  unfold Half.showDerived
  generalize (x.wrNat (Adr.SNS_DERIVED (64 + i)) r).thresholds (64 + i) src = y at moves valid ⊢
  simp only
  split
  · next evac =>
    have put := (Writes.refl (· = Adr.ALM_EVAC_STATUS i) y).put 16 16 (min 0xFFFF (rounded r 4)) rfl
    rw [Nat.add_sub_cancel_left]
    exact ⟨moves.trans (.of_writes (put.mono fun a ha => Or.inr ⟨by omega, ha⟩)), fun k =>
      (put.bit (by simp only [Adr.SNS_STATUS, Adr.ALM_EVAC_STATUS]; omega) 0).trans (valid k)⟩
  · exact ⟨moves, valid⟩

/-- An output of the system profile on a channel: a valid one takes it. -/
theorem Half.systemChannel_shows (x : Half) (i : Nat) (v : Word) :
    SenseMoves (fun a => a ∈ systemRegs i ∨ (i < 8 ∧ a = Adr.ALM_EVAC_STATUS i)) (fun _ => True) x (x.systemChannel (64 + i) v) ∧
      (∀ k, (x.systemChannel (64 + i) v).snsValid k = x.snsValid k) ∧
      (x.snsValid (64 + i) = true → (x.systemChannel (64 + i) v).rd (Adr.SNS_SYS_VALUE (64 + i)) = v) := by
  obtain ⟨r, src, e⟩ := x.systemChannel_eq (64 + i) v
  have taken := (Writes.refl (· = Adr.SNS_SYS_VALUE (64 + i)) x).wr v rfl
  have value := x.rd_wr_self (Adr.SNS_SYS_VALUE (64 + i)) v
  have valid : ∀ k, (x.wr (Adr.SNS_SYS_VALUE (64 + i)) v).snsValid k = x.snsValid k := fun k =>
    taken.bit (by simp only [Adr.SNS_STATUS, Adr.SNS_SYS_VALUE]; omega) 0
  have start : SenseMoves (fun a => a ∈ systemRegs i ∨ (i < 8 ∧ a = Adr.ALM_EVAC_STATUS i)) (fun _ => True) x
      (x.wr (Adr.SNS_SYS_VALUE (64 + i)) v) := .of_writes (taken.mono fun a ha => Or.inl (by simp [systemRegs, ha]))
  rw [e]
  generalize x.wr (Adr.SNS_SYS_VALUE (64 + i)) v = y at taken value valid start ⊢
  split
  · next bad => exact ⟨.refl _ _ x, fun _ => rfl, fun good => absurd bad (by rw [good]; decide)⟩
  · split
    · exact ⟨start, valid, fun _ => value⟩
    · obtain ⟨moves, kept⟩ := y.showDerived_shows i r src
      refine ⟨start.trans (moves.mono (fun a ha => ha.imp_left fun m => List.mem_cons_of_mem _ m) fun _ _ => trivial), fun k => (kept k).trans (valid k),
        fun _ => (moves.keeps _ ?_).trans value⟩
      simp only [Adr.SNS_SYS_VALUE, Adr.SNS_DERIVED, Adr.SNS_STATUS, Adr.SNS_EVENT, Adr.ALM_EVAC_STATUS, List.mem_cons, List.not_mem_nil, or_false]
      omega

/-- Outputs of the system profile taken one channel after the other. -/
theorem systemChannels_show (values : List Word) (start : Nat) (x : Half) :
    let y := (values.zipIdx start).foldl (fun (y : Half) q => y.systemChannel (64 + q.2) q.1) x
    SenseMoves (fun a => ∃ i, start ≤ i ∧ i < start + values.length ∧ (a ∈ systemRegs i ∨ (i < 8 ∧ a = Adr.ALM_EVAC_STATUS i))) (fun _ => True) x y ∧
      (∀ i v, values[i]? = some v → x.snsValid (64 + (start + i)) = true → y.rd (Adr.SNS_SYS_VALUE (64 + (start + i))) = v) := by
  induction values generalizing start x with
  | nil => exact ⟨.refl _ _ x, fun i v e => by simp at e⟩
  | cons w values ih =>
    obtain ⟨own, valid, value⟩ := x.systemChannel_shows start w
    obtain ⟨rest, others⟩ := ih (start + 1) (x.systemChannel (64 + start) w)
    refine ⟨(own.mono (fun a ha => ⟨start, le_refl _, by simp, ha⟩) fun _ _ => trivial).trans
      (rest.mono (fun a ⟨i, low, high, ha⟩ => ⟨i, by omega, by rw [List.length_cons]; omega, ha⟩) fun _ _ => trivial), fun i v e was => ?_⟩
    cases i with
    | zero =>
      obtain rfl : w = v := by simpa using e
      refine (rest.keeps _ ?_).trans (value was)
      rintro ⟨i, low, -, ha⟩
      simp only [systemRegs, Adr.SNS_SYS_VALUE, Adr.SNS_DERIVED, Adr.SNS_STATUS, Adr.SNS_EVENT, Adr.ALM_EVAC_STATUS, List.mem_cons, List.not_mem_nil,
        or_false] at ha
      omega
    | succ i =>
      have shown := others i v (by simpa using e)
      rw [valid, show start + 1 + i = start + (i + 1) by omega] at shown
      exact shown was

/-! The temperatures that come with it (R360, R361, R497). -/

/-- The junction temperature noted. -/
def Half.noteTj (x : Half) (tj : Int) : Half := { x with hlt := { x.hlt with
  tj := tj, tjMax := some (max tj (x.hlt.tjMax.getD tj)), tjMin := some (min tj (x.hlt.tjMin.getD tj)) } }

theorem Half.takeTj_shows (x : Half) (tj : Int) : (x.takeTj tj).hlt.tj = tj ∧ (∀ k, (x.takeTj tj).snsValid k = x.snsValid k) ∧
    ∀ a, (∀ c < 4, a ≠ Adr.AMPC_TEMP c) → (x.takeTj tj).rd a = x.rd a := by
  have noted : (x.noteTj tj).hlt.tj = tj ∧ ∀ a, (x.noteTj tj).rd a = x.rd a := ⟨rfl, fun _ => rfl⟩
  have shown : ∀ y : Half, Writes (fun a => ∃ c < 4, a = Adr.AMPC_TEMP c) y
      (y.each [0, 1, 2, 3] fun x c => x.put (Adr.AMPC_TEMP c) 16 16 (unsigned 16 (satSigned 16 tj))) := fun y =>
    .foldl (fun c hc z => (Writes.refl _ z).put 16 16 _ ⟨c, by simp at hc; omega, rfl⟩) y
  have e : x.takeTj tj = if (x.noteTj tj).role == .standby || (x.noteTj tj).role == .syncing then x.noteTj tj
      else (x.noteTj tj).each [0, 1, 2, 3] fun x c => x.put (Adr.AMPC_TEMP c) 16 16 (unsigned 16 (satSigned 16 tj)) := rfl
  have moves : Writes (fun a => ∃ c < 4, a = Adr.AMPC_TEMP c) (x.noteTj tj) (x.takeTj tj) := by
    rw [e]
    exact .ite (fun _ => .refl _ _) fun _ => shown _
  generalize x.noteTj tj = y at noted moves
  have regs : ∀ a, (∀ c < 4, a ≠ Adr.AMPC_TEMP c) → (x.takeTj tj).rd a = x.rd a := fun a ha =>
    (moves.keeps a fun ⟨c, hc, e⟩ => ha c hc e).trans (noted.2 a)
  refine ⟨(congrArg HealthSt.tj (congrArg Half.hlt moves.same)).trans noted.1, fun k => Half.bit_congr (regs _ fun c hc => ?_) 0, regs⟩
  simp only [Adr.SNS_STATUS, Adr.AMPC_TEMP]
  omega

/-- The registers of cluster c that a temperature moves. -/
def ntcRegs (c : Nat) : List Nat := [Adr.AMPC_TEMP c, Adr.AMPC_STATUS c, Adr.AMPC_EVENT c, Adr.AMPC_FAULT c]

/-- A cluster whose temperature has been read, and is shown where the half decides. -/
def Half.showNtc (x : Half) (c : Nat) (v : Int) : Half :=
  if x.role == .standby || x.role == .syncing then x else x.put (Adr.AMPC_TEMP c) 0 16 (unsigned 16 (satSigned 16 v))

/-- The highest temperature of cluster c noted. -/
def Half.noteNtc (x : Half) (c : Nat) (v : Int) : Half :=
  { x with hlt := { x.hlt with ntcMax := modAt x.hlt.ntcMax c fun m => some (match m with | some o => max o v | none => v) } }

/-- A cluster in thermal shutdown. -/
def Half.showShutdown (x : Half) (c : Nat) : Half :=
  ((x.putBit (Adr.AMPC_STATUS c) 4 true).event (Adr.AMPC_EVENT c) 0).latch (Adr.AMPC_FAULT c) 6

theorem Half.takeNtc_eq (x : Half) (c : Nat) : ∃ (t : Option Int) (f : AmpCl → AmpCl) (hot : Int → Bool), x.takeNtc c =
    match t with
    | none => x.onCl c f
    | some v => if hot v then (((x.onCl c f).showNtc c v).noteNtc c v).showShutdown c else ((x.onCl c f).showNtc c v).noteNtc c v :=
  ⟨_, _, _, rfl⟩

theorem Half.takeNtc_moves (x : Half) (c : Nat) : SenseMoves (· ∈ ntcRegs c) (fun _ => True) x (x.takeNtc c) := by
  obtain ⟨t, f, hot, e⟩ := x.takeNtc_eq c
  have start : SenseMoves (· ∈ ntcRegs c) (fun _ => True) x (x.onCl c f) := ⟨fun _ _ => rfl, fun _ h => absurd trivial h, rfl, rfl, rfl⟩
  rw [e]
  cases t with
  | none => exact start
  | some v =>
    have shown : Writes (· ∈ ntcRegs c) (x.onCl c f) ((x.onCl c f).showNtc c v) :=
      .ite (fun _ => .refl _ _) fun _ => (Writes.refl _ _).put 0 16 _ (by simp [ntcRegs])
    have noted : ∀ y : Half, SenseMoves (· ∈ ntcRegs c) (fun _ => True) y (y.noteNtc c v) := fun y =>
      ⟨fun _ _ => rfl, fun _ h => absurd trivial h, rfl, rfl, rfl⟩
    have moves := (start.trans (.of_writes shown)).trans (noted _)
    simp only
    split
    · exact moves.trans (.of_writes ((((Writes.refl _ _).putBit 4 true (by simp [ntcRegs])).event 0 (by simp [ntcRegs])).latch 6 (by simp [ntcRegs])))
    · exact moves

theorem systemProfileOutput_shows {h : HalfId} {s : State} (up : (s.half h).outUp = true) (values : List Word) (tj : Int) (ofs : BlockOfs) :
    CompletesAt (.systemProfileOutput h values tj ofs) h s fun x => x.hlt.tj = tj ∧
      (∀ i v, i < 16 → values[i]? = some v → (s.half h).snsValid (64 + i) = true → x.rd (Adr.SNS_SYS_VALUE (64 + i)) = v) ∧
      (∀ a, (∀ i, i < 16 → a ∉ systemRegs i) → (∀ i, i < 8 → a ≠ Adr.ALM_EVAC_STATUS i) → (∀ c, c < 4 → a ∉ ntcRegs c) →
        x.rd a = (s.half h).rd a) := by
  refine completesAt_on rfl ?_
  rw [if_pos up]
  generalize s.half h = x
  obtain ⟨noted, valid, temps⟩ := x.takeTj_shows tj
  obtain ⟨moves, shown⟩ := systemChannels_show (values.take 16) 0 (x.takeTj tj)
  have short : (values.take 16).length ≤ 16 := by simp
  simp only
  generalize ((values.take 16).zipIdx).foldl (fun (y : Half) q => y.systemChannel (64 + q.2) q.1) (x.takeTj tj) = y at moves shown ⊢
  have cool : SenseMoves (fun a => ∃ c < 4, a ∈ ntcRegs c) (fun _ => True) y (y.each [0, 1, 2, 3] Half.takeNtc) :=
    .each (fun c hc z => (z.takeNtc_moves c).mono (fun a ha => ⟨c, by simp at hc; omega, ha⟩) fun _ => id) y
  generalize y.each [0, 1, 2, 3] Half.takeNtc = z at cool ⊢
  refine ⟨cool.tj.trans (moves.tj.trans noted), fun i v hi hv was => ?_, fun a system evac ntc => ?_⟩
  · have value := shown i v (by rw [List.getElem?_take_of_lt hi, hv]) (by rw [Nat.zero_add, valid]; exact was)
    rw [Nat.zero_add] at value
    refine (cool.keeps _ ?_).trans value
    rintro ⟨c, hc, ha⟩
    simp only [ntcRegs, Adr.SNS_SYS_VALUE, Adr.AMPC_TEMP, Adr.AMPC_STATUS, Adr.AMPC_EVENT, Adr.AMPC_FAULT, List.mem_cons, List.not_mem_nil, or_false] at ha
    omega
  · rw [cool.keeps a fun ⟨c, hc, ha⟩ => ntc c hc ha, moves.keeps a fun ⟨i, _, hi, ha⟩ => ?_, temps a fun c hc e => ntc c hc (by simp [ntcRegs, e])]
    exact ha.elim (system i (by omega)) fun ⟨low, e⟩ => evac i low e

/-! Common mode (R399). -/

theorem commonMode_shows (words : List Word) (start : Nat) (x : Half) :
    let y := (words.zipIdx start).foldl (fun (y : Half) q => y.wr (Adr.SNS_CM q.2) q.1) x
    (∀ i v, words[i]? = some v → y.rd (Adr.SNS_CM (start + i)) = v) ∧
      ∀ a, (∀ i, start ≤ i → i < start + words.length → a ≠ Adr.SNS_CM i) → y.rd a = x.rd a := by
  induction words generalizing start x with
  | nil => exact ⟨fun i v e => by simp at e, fun _ _ => rfl⟩
  | cons w words ih =>
    obtain ⟨shown, keeps⟩ := ih (start + 1) (x.wr (Adr.SNS_CM start) w)
    refine ⟨fun i v e => ?_, fun a ha => (keeps a fun i low high => ha i (by omega) (by rw [List.length_cons]; omega)).trans
      (Half.rd_wr_ne _ _ (ha start (le_refl _) (by simp)))⟩
    cases i with
    | zero =>
      obtain rfl : w = v := by simpa using e
      refine (keeps _ fun i low _ => ?_).trans (Half.rd_wr_self ..)
      simp only [Adr.SNS_CM]
      omega
    | succ i =>
      have value := shown i v (by simpa using e)
      rwa [show start + 1 + i = start + (i + 1) by omega] at value

theorem cmReport_shows {h : HalfId} {s : State} (up : (s.half h).outUp = true) (words : List Word) :
    CompletesAt (.cmReport h words) h s fun x => (∀ i v, i < 32 → words[i]? = some v → x.rd (Adr.SNS_CM i) = v) ∧
      (∀ a, (∀ i, i < 32 → a ≠ Adr.SNS_CM i) → x.rd a = (s.half h).rd a) := by
  refine completesAt_on rfl ?_
  rw [if_pos up]
  obtain ⟨shown, keeps⟩ := commonMode_shows (words.take 32) 0 (s.half h)
  have short : (words.take 32).length ≤ 32 := by simp
  refine ⟨fun i v hi hv => ?_, fun a ha => keeps a fun i _ hi => ha i (by omega)⟩
  have value := shown i v (by rw [List.getElem?_take_of_lt hi, hv])
  rwa [Nat.zero_add] at value

/-- Settles O41: causes of converters, their overload and their recovery, output instants of profiles, the system profile, common mode. -/
theorem convertersAndProfilesGiveTheirValues : Obligations.ConvertersAndProfilesGiveTheirValues := by
  unfold Obligations.ConvertersAndProfilesGiveTheirValues
  intro h s up
  exact ⟨fun n e cause begins new => converterCause_shows up begins new, fun n on changed => converterOverload_counts up changed,
    fun n cause last was => converterRecovery_joins up last was, fun j codes p seven on each whole => profileRelease_puts up seven on each whole,
    fun values tj ofs => systemProfileOutput_shows up values tj ofs, fun words => cmReport_shows up words⟩

end Sys2Proof.Machine
end

section
/-! O42: Larkspur, the supervision of the lines (R400 to R406). -/

namespace Sys2Proof.Machine

open Sys2Proof

theorem any_congr_mem {α : Type} {l : List α} {f g : α → Bool} (h : ∀ b ∈ l, f b = g b) : l.any f = l.any g := by
  rw [Bool.eq_iff_iff, List.any_eq_true, List.any_eq_true]
  exact exists_congr fun b => and_congr_right fun hb => by rw [h b hb]

/-- The registers that the condition of a line depends on (R405). -/
def conditionRegs (k : Nat) : List Nat :=
  [Adr.SFE_LSPK_CFG k, Adr.AMP_STATUS k, Adr.SFE_DEV_CFG, Adr.AMP_ZSHORT k] ++ (List.range 9).map (baseAdr k)

theorem Half.condition_congr {x y : Half} {k : Nat} (lsp : y.lsp k = x.lsp k) (regs : ∀ a ∈ conditionRegs k, y.rd a = x.rd a) :
    y.condition k = x.condition k := by
  have cfg : ∀ b, y.bit (Adr.SFE_LSPK_CFG k) b = x.bit (Adr.SFE_LSPK_CFG k) b := Half.bit_congr (regs _ (by simp [conditionRegs]))
  have state : y.ampState k = x.ampState k := Half.get_congr (regs _ (by simp [conditionRegs])) 0 4
  have count : y.get Adr.SFE_DEV_CFG 24 8 = x.get Adr.SFE_DEV_CFG 24 8 := Half.get_congr (regs _ (by simp [conditionRegs])) 24 8
  have short : ∀ zs, y.shorted k zs = x.shorted k zs := fun zs => by
    rw [Half.shorted, Half.shorted, Half.get_congr (regs _ (by simp [conditionRegs]))]
  have base : ((List.range 9).any fun b => x.bit (Adr.SFE_LSPK_CFG k) (20 + b) && hasMag (y.rd (baseAdr k b))) =
      (List.range 9).any fun b => x.bit (Adr.SFE_LSPK_CFG k) (20 + b) && hasMag (x.rd (baseAdr k b)) :=
    any_congr_mem fun b hb => by rw [regs _ (by simp only [conditionRegs]; exact List.mem_append_right _ (List.mem_map_of_mem hb))]
  unfold Half.condition
  simp only [lsp, state, count, short, Half.lspOn, cfg, base]
  rfl

theorem Half.condition_lt (x : Half) (k : Nat) : x.condition k < 8 := by
  unfold Half.condition
  simp only
  split_ifs <;> decide

theorem Half.condition_off {x : Half} {k : Nat} (off : x.lspOn k = false) : x.condition k = 0 := by
  unfold Half.condition
  simp only
  exact if_pos (by rw [off]; rfl)

/-! Showing a line (R405, R406). -/

/-- The registers that show a line. -/
def lineRegs (k : Nat) : List Nat := [Adr.SFE_LSPK_COND k, Adr.SNS_EVENT k, Adr.QM_DROP_CNT 10]

theorem Half.pushLine_keeps (x : Half) (k kind : Nat) : (x.pushLine k kind).out = x.out ∧ SameRegs [Adr.QM_DROP_CNT 10] x (x.pushLine k kind) := by
  have pushed := x.hwPush_pushed 10 7 (x.lineRecord k kind)
  exact ⟨by rw [Half.pushLine, pushed.same], fun a ha => pushed.regs a fun e => ha (by simp [e])⟩

/-- A half that shows a condition, an earth fault and deviating bands of channel k. -/
def Half.showCondition (x : Half) (k c : Nat) (ef : Bool) (devs : Nat) : Half :=
  ((x.put (Adr.SFE_LSPK_COND k) 27 3 c).putBit (Adr.SFE_LSPK_COND k) 30 ef).put (Adr.SFE_LSPK_COND k) 18 9 devs

theorem Half.showCondition_shows (x : Half) (k : Nat) {c : Nat} (hc : c < 8) (ef : Bool) (devs : Nat) :
    (x.showCondition k c ef devs).get (Adr.SFE_LSPK_COND k) 27 3 = c ∧ (x.showCondition k c ef devs).bit (Adr.SFE_LSPK_COND k) 30 = ef ∧
      Writes (· = Adr.SFE_LSPK_COND k) x (x.showCondition k c ef devs) := by
  refine ⟨?_, ?_, (((Writes.refl (· = Adr.SFE_LSPK_COND k) x).put 27 3 c rfl).putBit 30 ef rfl).put 18 9 devs rfl⟩
  · refine (Half.get_put_field _ _ _ _ _ _ _ (by decide) (by decide)).trans ((Half.get_put_field _ _ _ _ _ _ _ (by decide) (by decide)).trans ?_)
    rw [Half.get_put_self _ _ _ _ _ (by decide)]
    exact Nat.mod_eq_of_lt hc
  · exact (Half.bit_put_field _ _ _ _ _ _ (by decide) (by decide)).trans (Half.bit_putBit_self _ _ _ _ (by decide))

theorem Half.showLine_eq (x : Half) (k : Nat) (ef : Bool) : ∃ devs, x.showLine k ef = x.showCondition k (x.condition k) ef devs ∨
    x.showLine k ef = ((x.showCondition k (x.condition k) ef devs).event (Adr.SNS_EVENT k) 4).pushLine k 2 := by
  refine ⟨maskOf 9 fun b => (x.considered k).contains b && x.deviates k b, ?_⟩
  unfold Half.showLine
  simp only
  split
  · exact Or.inl rfl
  · exact Or.inr rfl

theorem lineRegs_ne (j k : Nat) : Adr.SFE_LSPK_COND k ≠ Adr.SNS_EVENT j ∧ Adr.SFE_LSPK_COND k ≠ Adr.QM_DROP_CNT 10 := by
  simp only [Adr.SFE_LSPK_COND, Adr.SNS_EVENT, Adr.QM_DROP_CNT]
  omega

theorem Half.showLine_shows (x : Half) (k : Nat) (ef : Bool) : (x.showLine k ef).get (Adr.SFE_LSPK_COND k) 27 3 = x.condition k ∧
    (x.showLine k ef).bit (Adr.SFE_LSPK_COND k) 30 = ef ∧ (x.showLine k ef).out = x.out ∧ SameRegs (lineRegs k) x (x.showLine k ef) := by
  obtain ⟨devs, e⟩ := x.showLine_eq k ef
  obtain ⟨shown, fault, moves⟩ := x.showCondition_shows k (x.condition_lt k) ef devs
  generalize x.showCondition k (x.condition k) ef devs = y at e shown fault moves
  have start := moves.mono (q := (· ∈ lineRegs k)) fun a ha => by simp [lineRegs, ha]
  obtain e | e := e
  · rw [e]
    exact ⟨shown, fault, moves.out, start.keeps⟩
  · have event := start.event (a := Adr.SNS_EVENT k) 4 (by simp [lineRegs])
    have same := y.rd_event_ne (a := Adr.SNS_EVENT k) 4 (lineRegs_ne k k).1
    obtain ⟨out, push⟩ := (y.event (Adr.SNS_EVENT k) 4).pushLine_keeps k 2
    rw [e]
    generalize y.event (Adr.SNS_EVENT k) 4 = z at event same out push ⊢
    have kept : (z.pushLine k 2).rd (Adr.SFE_LSPK_COND k) = y.rd (Adr.SFE_LSPK_COND k) := (push _ (by simp [(lineRegs_ne k k).2])).trans same
    exact ⟨(Half.get_congr kept _ _).trans shown, (Half.bit_congr kept _).trans fault, out.trans event.out,
      fun a ha => (push a fun m => ha (by simp at m; simp [lineRegs, m])).trans (event.keeps a ha)⟩

/-! An update of a line (R400, R401, R405). -/

theorem Half.onLsp_rd (x : Half) (k : Nat) (f : LspCh → LspCh) (a : Nat) : (x.onLsp k f).rd a = x.rd a := rfl

theorem Half.earthFault_eq (x : Half) (k : Nat) (m : LineIn) : x.earthFault k m = (x, x.bit (Adr.SFE_LSPK_COND k) 30) ∨ m.diff ≠ 0 ∧
    ∃ v high low ef, x.earthFault k m = ((x.put (Adr.SFE_LSPK_COND k) 0 16 v).onLsp k fun y => { y with efHigh := high, efLow := low }, ef) := by
  unfold Half.earthFault
  simp only
  split
  · exact Or.inl rfl
  · next measured => exact Or.inr ⟨fun none => measured (Or.inl none), _, _, _, _, rfl⟩

theorem Half.earthFault_shows (x : Half) (k : Nat) (m : LineIn) : ((x.earthFault k m).1.lsp k).bands = (x.lsp k).bands ∧
    (∀ a, a ≠ Adr.SFE_LSPK_COND k → (x.earthFault k m).1.rd a = x.rd a) ∧
    (m.diff = 0 → x.earthFault k m = (x, x.bit (Adr.SFE_LSPK_COND k) 30)) := by
  obtain e | ⟨measured, v, high, low, ef, e⟩ := x.earthFault_eq k m
  · rw [e]
    exact ⟨rfl, fun _ _ => rfl, fun _ => rfl⟩
  · rw [e]
    refine ⟨?_, fun a ha => (Half.onLsp_rd ..).trans (Half.rd_put_ne _ _ _ _ ha), fun none => absurd none measured⟩
    rw [Half.lsp_onLsp, if_pos rfl, Half.lsp_of_out (Half.put_out ..)]

/-- A band of channel k whose interval counts (R401). -/
def Half.bandCounts (x : Half) (k : Nat) (m : LineIn) (b : Nat) : Bool :=
  match m.bands[b]? with
  | some z => x.running k && x.snsValid k && x.snsValid (32 + k) && decide (signed 16 (x.get Adr.SFE_LIM_CFG 0 16) ≤ z.exc)
  | none => false

/-- The intervals of band b of channel k with the one that has come. -/
def Half.bandNow (x : Half) (k : Nat) (m : LineIn) (b : Nat) : List (Int × Int) :=
  match m.bands[b]? with
  | some z => if x.bandCounts k m b then ((z.re, z.im) :: getAt (x.lsp k).bands b []).take (clampNat 1 64 (x.get Adr.SFE_LSP_CFG 24 8))
      else getAt (x.lsp k).bands b []
  | none => getAt (x.lsp k).bands b []

theorem Half.takeBands_eq (x : Half) (k : Nat) (m : LineIn) : ∃ (cap : Option (List (Nat × Int × Int))) (v : Nat → Nat), x.takeBands k m =
    (x.onLsp k fun y => { y with bands := (List.range 9).map (x.bandNow k m), valid := (List.range 9).map (x.bandCounts k m), capture := cap }).each
      ((List.range 9).filter (x.bandCounts k m)) fun y b => y.wrNat (estAdr k b) (v b) := ⟨_, _, rfl⟩

theorem getAt_map_range {α : Type} (f : Nat → α) {n b : Nat} (hb : b < n) (d : α) : getAt ((List.range n).map f) b d = f b := by
  simp [getAt, List.getElem?_range hb]

theorem Half.takeBands_shows (x : Half) (k : Nat) (m : LineIn) :
    (∀ b < 9, getAt ((x.takeBands k m).lsp k).valid b false = x.bandCounts k m b ∧ getAt ((x.takeBands k m).lsp k).bands b [] = x.bandNow k m b) ∧
      ∀ a, (∀ b < 9, a ≠ estAdr k b) → (x.takeBands k m).rd a = x.rd a := by
  obtain ⟨cap, v, e⟩ := x.takeBands_eq k m
  have lsp := x.lsp_onLsp k (fun y => { y with
    bands := (List.range 9).map (x.bandNow k m), valid := (List.range 9).map (x.bandCounts k m), capture := cap }) k
  rw [if_pos rfl] at lsp
  have same : ∀ a, (x.onLsp k fun y => { y with
    bands := (List.range 9).map (x.bandNow k m), valid := (List.range 9).map (x.bandCounts k m), capture := cap }).rd a = x.rd a := fun _ => rfl
  rw [e]
  generalize (x.onLsp k fun y => { y with
    bands := (List.range 9).map (x.bandNow k m), valid := (List.range 9).map (x.bandCounts k m), capture := cap }) = y at lsp same ⊢
  have moves : Writes (fun a => ∃ b < 9, a = estAdr k b) y (y.each ((List.range 9).filter (x.bandCounts k m)) fun y b => y.wrNat (estAdr k b) (v b)) :=
    .foldl (fun b hb z => (Writes.refl _ z).wrNat _ ⟨b, List.mem_range.1 (List.mem_filter.1 hb).1, rfl⟩) y
  refine ⟨fun b hb => ?_, fun a ha => (moves.keeps a fun ⟨b, hb, e⟩ => ha b hb e).trans (same a)⟩
  rw [Half.lsp_of_out moves.out, lsp]
  exact ⟨getAt_map_range _ hb _, getAt_map_range _ hb _⟩

theorem Half.countLine_shows (x : Half) (k : Nat) : ((x.countLine k).lsp k).valid = (x.lsp k).valid ∧ ((x.countLine k).lsp k).bands = (x.lsp k).bands ∧
    ∀ a, (x.countLine k).rd a = x.rd a := by
  refine ⟨?_, ?_, fun _ => rfl⟩ <;> rw [Half.countLine, Half.lsp_onLsp, if_pos rfl]

/-- What no step of an update writes of what the condition depends on. -/
theorem conditionRegs_apart {k a : Nat} (hk : k < 32) (h : a ∈ conditionRegs k) : a ∉ lineRegs k ∧ a ∉ [Adr.SNS_STATUS k, Adr.SNS_EVENT k] := by
  have there : a ∈ [Adr.SFE_LSPK_CFG k, Adr.AMP_STATUS k, Adr.SFE_DEV_CFG, Adr.AMP_ZSHORT k] ∨ ∃ b < 9, baseAdr k b = a := by
    rcases List.mem_append.1 h with h | h
    · exact Or.inl h
    · obtain ⟨b, hb, e⟩ := List.mem_map.1 h
      exact Or.inr ⟨b, List.mem_range.1 hb, e⟩
  simp only [lineRegs, baseAdr, Adr.SFE_LSPK_CFG, Adr.AMP_STATUS, Adr.SFE_DEV_CFG, Adr.AMP_ZSHORT, Adr.SFE_LSPK_BASE0, Adr.SFE_LSPK_COND, Adr.SNS_EVENT,
    Adr.SNS_STATUS, Adr.QM_DROP_CNT, List.mem_cons, List.not_mem_nil, or_false] at there ⊢
  obtain there | ⟨b, hb, there⟩ := there <;> omega

/-- Showing a line and then its thresholds: the condition shown is the one that is left. -/
theorem Half.showLine_stands (x : Half) {k : Nat} (hk : k < 32) (ef : Bool) (src : Nat → Nat → Option Int) :
    ((x.showLine k ef).thresholds k src).get (Adr.SFE_LSPK_COND k) 27 3 = ((x.showLine k ef).thresholds k src).condition k ∧
      ((x.showLine k ef).thresholds k src).lsp k = x.lsp k ∧
      SameRegs (Adr.SNS_STATUS k :: lineRegs k) x ((x.showLine k ef).thresholds k src) := by
  obtain ⟨shown, -, out, keeps⟩ := x.showLine_shows k ef
  have seen := (x.showLine k ef).thresholds_moves k src
  have lsp : ((x.showLine k ef).thresholds k src).lsp k = x.lsp k := by rw [Half.lsp, seen.lsp, out, ← Half.lsp]
  have regs : ∀ a, a ∉ Adr.SNS_STATUS k :: lineRegs k → ((x.showLine k ef).thresholds k src).rd a = x.rd a := fun a ha => by
    rw [List.mem_cons, not_or] at ha
    refine (seen.keeps a fun m => ?_).trans (keeps a ha.2)
    simp only [List.mem_cons, List.not_mem_nil, or_false] at m
    exact m.elim ha.1 fun e => ha.2 (by simp [lineRegs, e])
  have cond : Adr.SFE_LSPK_COND k ∉ [Adr.SNS_STATUS k, Adr.SNS_EVENT k] := by
    simp only [Adr.SFE_LSPK_COND, Adr.SNS_STATUS, Adr.SNS_EVENT, List.mem_cons, List.not_mem_nil, or_false]
    omega
  refine ⟨?_, lsp, regs⟩
  rw [Half.get_congr (seen.keeps _ cond), shown]
  exact (Half.condition_congr lsp fun a ha => regs a (by
    obtain ⟨line, status⟩ := conditionRegs_apart hk ha
    exact fun m => (List.mem_cons.1 m).elim (fun e => status (by simp [e])) line)).symm

/-- What an update of an enabled line shows before its thresholds see it. -/
def Half.lineTaken (x : Half) (k : Nat) (m : LineIn) : Half := ((x.earthFault k m).1.takeBands k m).countLine k

theorem Half.lineTaken_shows (x : Half) (k : Nat) (m : LineIn) :
    (∀ b z, b < 9 → m.bands[b]? = some z → x.running k = true → x.snsValid k = true → x.snsValid (32 + k) = true →
      signed 16 (x.get Adr.SFE_LIM_CFG 0 16) ≤ z.exc → getAt ((x.lineTaken k m).lsp k).valid b false = true ∧
        getAt ((x.lineTaken k m).lsp k).bands b [] =
          (((z.re, z.im) :: getAt (x.lsp k).bands b []).take (clampNat 1 64 (x.get Adr.SFE_LSP_CFG 24 8)))) ∧
      ∀ a, a ≠ Adr.SFE_LSPK_COND k → (∀ b < 9, a ≠ estAdr k b) → (x.lineTaken k m).rd a = x.rd a := by
  obtain ⟨bands, fault, -⟩ := x.earthFault_shows k m
  obtain ⟨taken, keeps⟩ := (x.earthFault k m).1.takeBands_shows k m
  obtain ⟨valid, same, quiet⟩ := ((x.earthFault k m).1.takeBands k m).countLine_shows k
  refine ⟨fun b z hb hz run sense current enough => ?_, fun a ha est => (quiet a).trans ((keeps a est).trans (fault a ha))⟩
  obtain ⟨ok, now⟩ := taken b hb
  have apart : ∀ a ∈ [Adr.AMP_STATUS k, Adr.SNS_STATUS k, Adr.SNS_STATUS (32 + k), Adr.SFE_LIM_CFG, Adr.SFE_LSP_CFG], a ≠ Adr.SFE_LSPK_COND k := by
    intro a ha
    simp only [Adr.AMP_STATUS, Adr.SNS_STATUS, Adr.SFE_LIM_CFG, Adr.SFE_LSP_CFG, List.mem_cons, List.not_mem_nil, or_false] at ha
    simp only [Adr.SFE_LSPK_COND]
    omega
  have read := fun a ha => fault a (apart a ha)
  have counts : (x.earthFault k m).1.bandCounts k m b = true := by
    simp only [Half.bandCounts, hz]
    rw [Half.running, Half.get_congr (read _ (by simp)), ← Half.running, run, Half.snsValid, Half.bit_congr (read _ (by simp)), ← Half.snsValid, sense,
      Half.snsValid, Half.bit_congr (read _ (by simp)), ← Half.snsValid, current, Half.get_congr (read _ (by simp))]
    simpa using enough
  refine ⟨by rw [Half.lineTaken, valid, ok, counts], ?_⟩
  rw [Half.lineTaken, same, now]
  simp only [Half.bandNow, hz, counts, if_true, bands, Half.get_congr (read Adr.SFE_LSP_CFG (by simp))]

section line
variable {h : HalfId} {k : Fin 32} {s : State}

theorem larkspurUpdate_takes (up : (s.half h).outUp = true) (on : (s.half h).lspOn k = true) (m : LineIn) {P : Half → Prop}
    (shows_ : ∀ src, P ((((s.half h).lineTaken k m).showLine k ((s.half h).earthFault k m).2).thresholds k src)) :
    CompletesAt (.larkspurUpdate h k m) h s P := by
  refine completesAt_on rfl ?_
  rw [if_neg (by rw [up]; decide)]
  rcases found : (s.half h).earthFault k m with ⟨x, ef⟩
  simp only [Half.lineTaken, found] at shows_ ⊢
  rw [if_neg (by rw [on]; decide)]
  exact shows_ _

theorem larkspurUpdate_shows (up : (s.half h).outUp = true) (on : (s.half h).lspOn k = true) (m : LineIn) :
    CompletesAt (.larkspurUpdate h k m) h s fun x => x.get (Adr.SFE_LSPK_COND k) 27 3 = x.condition k ∧
      (∀ b z, b < 9 → m.bands[b]? = some z → (s.half h).running k = true → (s.half h).snsValid k = true →
        (s.half h).snsValid (32 + k) = true → signed 16 ((s.half h).get Adr.SFE_LIM_CFG 0 16) ≤ z.exc →
        getAt (x.lsp k).valid b false = true ∧ getAt (x.lsp k).bands b [] =
          (((z.re, z.im) :: getAt ((s.half h).lsp k).bands b []).take (clampNat 1 64 ((s.half h).get Adr.SFE_LSP_CFG 24 8)))) ∧
      (∀ a, a ∉ [Adr.SFE_LSPK_COND k, Adr.SNS_EVENT k, Adr.SNS_STATUS k, Adr.QM_DROP_CNT 10] →
        (∀ b, b < 9 → a ≠ estAdr k b) → x.rd a = (s.half h).rd a) := by
  refine larkspurUpdate_takes up on m fun src => ?_
  obtain ⟨bands, regs⟩ := (s.half h).lineTaken_shows k m
  obtain ⟨stands, lsp, keeps⟩ := ((s.half h).lineTaken k m).showLine_stands k.isLt ((s.half h).earthFault k m).2 src
  refine ⟨stands, by rw [lsp]; exact bands, fun a ha est => ?_⟩
  simp only [List.mem_cons, List.not_mem_nil, or_false, not_or] at ha
  obtain ⟨cond, event, status, drop⟩ := ha
  exact (keeps a (by simp [lineRegs, cond, event, status, drop])).trans (regs a cond est)

theorem larkspurUpdate_off (up : (s.half h).outUp = true) (off : (s.half h).lspOn k = false) {m : LineIn} (quiet : m.diff = 0) :
    CompletesAt (.larkspurUpdate h k m) h s fun x => x.get (Adr.SFE_LSPK_COND k) 27 3 = 0 ∧
      x.bit (Adr.SFE_LSPK_COND k) 30 = (s.half h).bit (Adr.SFE_LSPK_COND k) 30 ∧ SameRegs (lineRegs k) (s.half h) x := by
  obtain ⟨shown, fault, -, keeps⟩ := (s.half h).showLine_shows k ((s.half h).bit (Adr.SFE_LSPK_COND k) 30)
  refine completesAt_on rfl ?_
  rw [if_neg (by rw [up]; decide), ((s.half h).earthFault_shows k m).2.2 quiet]
  simp only
  rw [if_pos (by rw [off]; rfl)]
  exact ⟨shown.trans (Half.condition_off off), fault, keeps⟩

theorem larkspurReport_pushes (up : (s.half h).outUp = true) (reports : (s.half h).get Adr.SFE_LSP_CFG 8 8 ≠ 0) :
    (CompletesAt (.larkspurReport h) h s fun x => SameRegs [Adr.QM_DROP_CNT 10] (s.half h) x) ∧
      ((List.range 32).filter (s.half h).lspOn = [k.val] →
        CompletesAt (.larkspurReport h) h s fun x => x = (s.half h).hwPush 10 7 ((s.half h).lineRecord k 1)) := by
  have on : ((s.half h).outUp && (s.half h).get Adr.SFE_LSP_CFG 8 8 != 0) = true := by rw [up, Bool.true_and, bne_iff_ne]; exact reports
  refine ⟨completesAt_on rfl ?_, fun alone => completesAt_on rfl ?_⟩
  · rw [if_pos on]
    generalize s.half h = x
    have all : ∀ (ks : List Nat) (y : Half), SameRegs [Adr.QM_DROP_CNT 10] y (y.each ks fun y k => y.pushLine k 1) := fun ks => by
      induction ks with
      | nil => exact fun y => .refl _ y
      | cons k ks ih => exact fun y => (y.pushLine_keeps k 1).2.trans (ih (y.pushLine k 1))
    exact all _ x
  · rw [if_pos on, alone]
    rfl

/-! Captures and the pilot (R403, R404). -/

theorem captureEnd_fails {sums : List (Nat × Int × Int)} (runs : ((s.half h).lsp k).capture = some sums)
    (empty : (s.half h).running k = false ∨ (getAt sums 8 (0, 0, 0)).1 = 0) :
    CompletesAt (.captureEnd h k) h s fun x => x.bit Adr.SFE_LSP_CAPFAIL k = true ∧ x.bit Adr.SFE_LSP_STATUS k = false ∧
      x.bit Adr.SFE_EVENT 2 = true ∧ (x.lsp k).capture = none ∧ SameRegs captureRegs (s.half h) x := by
  obtain ⟨moves, event, lsp, status, failed⟩ := (s.half h).endCapture_shows true k.isLt k
  refine completesAt_on rfl ?_
  simp only [runs]
  rw [if_pos (by rw [Bool.or_eq_true, beq_iff_eq]; exact empty.imp_left fun e => by rw [e]; rfl)]
  exact ⟨by rw [failed, if_pos rfl], by rw [status, if_pos rfl], event, by rw [lsp, if_pos rfl], moves.keeps⟩

/-- The word of a baseline that a sum of a capture gives. -/
def baseWord (c : Nat × Int × Int) : Nat := if c.1 = 0 then 0x80000000 else impedanceWord c.2.1 c.2.2 c.1

theorem baselines_show (k : Nat) (sums : List (Nat × Int × Int)) (start : Nat) (x : Half) :
    let y := (sums.zipIdx start).foldl (fun (y : Half) q => y.wrNat (baseAdr k q.2) (baseWord q.1)) x
    (∀ b c, sums[b]? = some c → y.rd (baseAdr k (start + b)) = BitVec.ofNat 32 (baseWord c)) ∧
      Writes (fun a => ∃ b, start ≤ b ∧ b < start + sums.length ∧ a = baseAdr k b) x y := by
  induction sums generalizing start x with
  | nil => exact ⟨fun b c e => by simp at e, .refl _ x⟩
  | cons w sums ih =>
    obtain ⟨shown, moves⟩ := ih (start + 1) (x.wrNat (baseAdr k start) (baseWord w))
    refine ⟨fun b c e => ?_, ((Writes.refl _ x).wrNat (baseWord w) ⟨start, le_refl _, by simp, rfl⟩).trans
      (moves.mono fun a ⟨b, low, high, e⟩ => ⟨b, by omega, by rw [List.length_cons]; omega, e⟩)⟩
    cases b with
    | zero =>
      obtain rfl : w = c := by simpa using e
      refine (moves.keeps _ ?_).trans (Half.rd_wrNat_self ..)
      rintro ⟨b, low, -, e⟩
      exact absurd (baseAdr_inj k _ _ e) (by omega)
    | succ b =>
      have value := shown b c (by simpa using e)
      rwa [show start + 1 + b = start + (b + 1) by omega] at value

theorem captureEnd_stores {sums : List (Nat × Int × Int)} (holds : ((s.half h).lsp k).capture = some sums) (runs : (s.half h).running k = true)
    (some_ : 0 < (getAt sums 8 (0, 0, 0)).1) (nine : sums.length = 9) :
    CompletesAt (.captureEnd h k) h s fun x => x.bit Adr.SFE_LSP_CAPFAIL k = false ∧ x.bit Adr.SFE_LSP_STATUS k = false ∧
      (∀ b c, sums[b]? = some c → x.rd (baseAdr k b) = BitVec.ofNat 32 (baseWord c)) ∧
      (∀ a, a ∉ captureRegs → (∀ b, b < 9 → a ≠ baseAdr k b) → x.rd a = (s.half h).rd a) := by
  refine completesAt_on rfl ?_
  simp only [holds]
  rw [if_neg (by rw [runs, Bool.not_true, Bool.false_or, beq_iff_eq]; omega)]
  generalize s.half h = x
  obtain ⟨shown, stored⟩ := baselines_show k sums 0 x
  have e : (sums.zipIdx.foldl (fun (y : Half) q => y.wrNat (baseAdr k q.2)
      (if q.1.1 = 0 then 0x80000000 else impedanceWord q.1.2.1 q.1.2.2 q.1.1)) x) =
      sums.zipIdx.foldl (fun (y : Half) q => y.wrNat (baseAdr k q.2) (baseWord q.1)) x := rfl
  rw [e]
  generalize sums.zipIdx.foldl (fun (y : Half) q => y.wrNat (baseAdr k q.2) (baseWord q.1)) x = y at shown stored ⊢
  obtain ⟨moves, -, -, status, failed⟩ := y.endCapture_shows false k.isLt k
  refine ⟨by rw [failed, if_pos rfl], by rw [status, if_pos rfl], fun b c hc => ?_, fun a ha base => ?_⟩
  · have value := shown b c hc
    have inside : b < 9 := nine ▸ (List.getElem?_eq_some_iff.1 hc).1
    rw [Nat.zero_add] at value
    refine (moves.keeps _ ?_).trans value
    simp only [captureRegs, baseAdr, Adr.SFE_LSPK_BASE0, Adr.SFE_LSP_STATUS, Adr.SFE_LSP_CAPFAIL, Adr.SFE_EVENT, List.mem_cons, List.not_mem_nil, or_false]
    omega
  · rw [moves.keeps a ha, stored.keeps a fun ⟨b, _, hb, e⟩ => base b (by omega) e]

theorem pilotStart_starts (acts : (s.half h).ampActs = true) (on : (s.half h).lspOn k = true) (auto_ : (s.half h).pilotMode k = 1) :
    CompletesAt (.pilotStart h k) h s fun x => (x.lsp k).pilot = true ∧ x.bit (Adr.SFE_LSPK_COND k) 31 = true ∧
      SameRegs [Adr.SFE_LSPK_COND k] (s.half h) x := by
  refine completesAt_on rfl ?_
  rw [if_pos (by rw [acts, on, auto_]; rfl), Half.setPilot]
  refine ⟨?_, Half.bit_putBit_self _ _ _ _ (by decide), fun a ha => (Half.rd_putBit_ne _ _ _ fun e => ha (by simp [e])).trans (Half.onLsp_rd ..)⟩
  rw [Half.lsp_of_out (Half.putBit_out ..), Half.lsp_onLsp, if_pos rfl]

end line

/-- Settles O42: updates and reports of lines, captures of baselines, the start of the pilot. -/
theorem larkspurWatchesTheLines : Obligations.LarkspurWatchesTheLines := by
  unfold Obligations.LarkspurWatchesTheLines
  intro h k s up
  exact ⟨fun m on => larkspurUpdate_shows up on m, fun off m quiet => larkspurUpdate_off up off quiet, fun reports => larkspurReport_pushes up reports,
    fun sums holds => ⟨fun empty => captureEnd_fails holds empty, fun runs some_ nine => captureEnd_stores holds runs some_ nine⟩,
    fun acts on auto_ => pilotStart_starts acts on auto_⟩

end Sys2Proof.Machine
end

section
/-! O49: what the operations of the boot flash leave (R535 to R539, R545, R546). -/

namespace Sys2Proof.Machine

open Sys2Proof

/-! Bytes of the flash. -/

theorem BootSt.byte_write (b : BootSt) (a : Nat) (bs : List Byte) (i : Nat) :
    (b.write a bs).byte i = if a ≤ i ∧ i < a + bs.length then getAt bs (i - a) 0xFF else b.byte i := by
  have step : ∀ (bs : List Byte) (k : Nat) (m : List (Nat × Byte)),
      lookAt (fun _ => (0xFF : Byte)) ((bs.zipIdx k).foldl (fun m p => storeAt (fun _ => (0xFF : Byte)) m (a + p.2) p.1) m) i =
        if a + k ≤ i ∧ i < a + k + bs.length then getAt bs (i - (a + k)) 0xFF else lookAt (fun _ => (0xFF : Byte)) m i := fun bs => by
    induction bs with
    | nil =>
      intro k m
      rw [if_neg (by simp)]
      rfl
    | cons v bs ih =>
      intro k m
      refine (ih (k + 1) _).trans ?_
      rw [lookAt_storeAt, List.length_cons]
      obtain below | here | above : i < a + k ∨ i = a + k ∨ a + k < i := by omega
      · rw [if_neg (by omega), if_neg (by omega), if_neg (by omega)]
      · rw [if_neg (by omega), if_pos here, if_pos (by omega), here, Nat.sub_self]
        rfl
      · rw [if_neg (show ¬ i = a + k by omega), show i - (a + k) = i - (a + (k + 1)) + 1 by omega]
        exact if_congr (by omega) rfl rfl
  exact step bs 0 b.bytes

theorem BootSt.byte_eraseSector (b : BootSt) (a i : Nat) :
    (b.eraseSector a).byte i = if a / 0x10000 = i / 0x10000 then 0xFF else b.byte i := by
  refine (lookAt_filter _ (fun k => !decide (a / 0x10000 = k / 0x10000)) b.bytes i).trans ?_
  by_cases same : a / 0x10000 = i / 0x10000
  · simp [same]
  · simp [same, BootSt.byte]

theorem beBytes_length (n v : Nat) : (beBytes n v).length = n := by
  induction n with
  | zero => rfl
  | succ n ih => rw [beBytes, List.length_cons, ih]

/-! Ends of flash operations (R536, R545). -/

/-- A half whose flash operation has left the flash as b, with its status. -/
def Half.flashEnd (x : Half) (b : BootSt) (status : Nat) : Half :=
  { x.wrNat Adr.DIE_FLASH_STATUS status with boot := { b with flashOp := .idle } }

theorem Half.flashEnd_shows (x : Half) (b : BootSt) (status : Nat) : (x.flashEnd b status).boot.flashOp = .idle ∧
    (x.flashEnd b status).rd Adr.DIE_FLASH_STATUS = BitVec.ofNat 32 status ∧ SameRegs [Adr.DIE_FLASH_STATUS] x (x.flashEnd b status) ∧
    ∀ i, (x.flashEnd b status).boot.byte i = b.byte i :=
  ⟨rfl, (Half.rd_with_boot ..).trans (Half.rd_wrNat_self ..),
    fun a ha => (Half.rd_with_boot ..).trans (Half.rd_wrNat_ne _ _ fun e => ha (by simp [e])), fun _ => rfl⟩

theorem freeBytes_length (x : Half) (n : Nat) : (x.freeBytes n).1.length = n := by simp [Half.freeBytes]

/-- A half whose flash operation ends (R536, R545). -/
def Half.flashFinish (x : Half) (ok : Bool) : Half :=
  match x.boot.flashOp with
  | .idle => x
  | .erase a => if ok then x.flashEnd (x.boot.eraseSector a) 0
    else (x.freeBytes 0x10000).2.flashEnd (x.boot.write a (x.freeBytes 0x10000).1) (0x40000000 + 0x1000000 * 3)
  | .program a => if ok then x.flashEnd (x.boot.write a (x.boot.page ++ List.replicate (256 - x.boot.page.length) 0xFF)) 0
    else (x.freeBytes 256).2.flashEnd (x.boot.write a (x.freeBytes 256).1) (0x40000000 + 0x1000000 * 3)

theorem Half.flashFail_eq (x : Half) (a n : Nat) : (match x.freeBytes n with
    | (bs, y) => ({ y.flashRefuse 3 with boot := { y.boot.write a bs with flashOp := .idle } } : Half)) =
      (x.freeBytes n).2.flashEnd (x.boot.write a (x.freeBytes n).1) (0x40000000 + 0x1000000 * 3) := rfl

theorem flashOperation_run {h : HalfId} {ok : Bool} {s : State} {P : Half → Prop} (ends : P ((s.half h).flashFinish ok)) :
    CompletesAt (.flashOperationComplete h ok) h s P := by
  refine completesAt_on rfl ?_
  unfold Half.flashFinish at ends
  generalize s.half h = x at ends ⊢
  simp only [← Half.flashFail_eq] at ends
  generalize (0x10000 : Nat) = n at ends ⊢
  cases op : x.boot.flashOp with
  | idle =>
    simp only [op] at ends ⊢
    exact ends
  | erase a =>
    cases ok <;> simp only [op] at ends ⊢ <;> exact ends
  | program a =>
    cases ok <;> simp only [op] at ends ⊢ <;> exact ends

theorem flashFail_shows (x : Half) (a n : Nat) : let y := (x.freeBytes n).2.flashEnd (x.boot.write a (x.freeBytes n).1) (0x40000000 + 0x1000000 * 3)
    y.boot.flashOp = .idle ∧ y.rd Adr.DIE_FLASH_STATUS = 0x43000000#32 ∧ ∀ i, i < a ∨ a + n ≤ i → y.boot.byte i = x.boot.byte i := by
  obtain ⟨idle, status, -, bytes⟩ := (x.freeBytes n).2.flashEnd_shows (x.boot.write a (x.freeBytes n).1) (0x40000000 + 0x1000000 * 3)
  exact ⟨idle, status, fun i hi => (bytes i).trans (by rw [BootSt.byte_write, if_neg (by rw [freeBytes_length]; omega)])⟩

section boot
variable {h : HalfId} {s : State}

theorem trialConfirm_confirms (trial : (s.half h).inTrial = true) (role : (s.half h).role = .standby ∨ (s.half h).role = .active) :
    CompletesAt (.trialConfirm h) h s fun x => x.bit Adr.DIE_BOOT_STATUS 31 = false ∧
      x.boot = { (s.half h).boot with selector := { (s.half h).boot.selector with trial := false, started := false } } ∧
      SameRegs [Adr.DIE_BOOT_STATUS] (s.half h) x := by
  refine completesAt_on rfl ?_
  rw [if_pos (by rw [trial]; obtain e | e := role <;> rw [e] <;> rfl)]
  exact ⟨(Half.bit_congr (Half.rd_with_boot ..) 31).trans (Half.bit_putBit_self _ _ _ _ (by decide)), rfl,
    fun a ha => (Half.rd_with_boot ..).trans (Half.rd_putBit_ne _ _ _ fun e => ha (by simp [e]))⟩

theorem flashErased {a : Nat} (op : (s.half h).boot.flashOp = .erase a) : CompletesAt (.flashOperationComplete h true) h s fun x =>
    x.boot.flashOp = .idle ∧ x.rd Adr.DIE_FLASH_STATUS = 0 ∧ SameRegs [Adr.DIE_FLASH_STATUS] (s.half h) x ∧
      ∀ i, x.boot.byte i = if a / 0x10000 = i / 0x10000 then 0xFF else (s.half h).boot.byte i := by
  obtain ⟨idle, status, regs, bytes⟩ := (s.half h).flashEnd_shows ((s.half h).boot.eraseSector a) 0
  refine flashOperation_run ?_
  rw [Half.flashFinish, op]
  exact ⟨idle, status, regs, fun i => (bytes i).trans (BootSt.byte_eraseSector ..)⟩

theorem flashProgrammed {a : Nat} (op : (s.half h).boot.flashOp = .program a) (page : (s.half h).boot.page.length ≤ 256) :
    CompletesAt (.flashOperationComplete h true) h s fun x => x.boot.flashOp = .idle ∧ x.rd Adr.DIE_FLASH_STATUS = 0 ∧
      SameRegs [Adr.DIE_FLASH_STATUS] (s.half h) x ∧
      ∀ i, x.boot.byte i = if a ≤ i ∧ i < a + 256 then getAt (s.half h).boot.page (i - a) 0xFF else (s.half h).boot.byte i := by
  obtain ⟨idle, status, regs, bytes⟩ := (s.half h).flashEnd_shows
    ((s.half h).boot.write a ((s.half h).boot.page ++ List.replicate (256 - (s.half h).boot.page.length) 0xFF)) 0
  have filled : ∀ (l : List Byte) (n i : Nat), getAt (l ++ List.replicate n 0xFF) i 0xFF = getAt l i 0xFF := fun l n i => by
    by_cases inside : i < l.length
    · simp [getAt, List.getElem?_append_left inside]
    · rw [getAt_out l i 0xFF (Nat.not_lt.1 inside)]
      simp only [getAt, List.getElem?_append_right (Nat.not_lt.1 inside), List.getElem?_replicate]
      split <;> rfl
  refine flashOperation_run ?_
  rw [Half.flashFinish, op]
  refine ⟨idle, status, regs, fun i => (bytes i).trans ((BootSt.byte_write ..).trans ?_)⟩
  rw [filled, List.length_append, List.length_replicate, Nat.add_sub_cancel' page]

theorem flashFailed (busy : (s.half h).flashBusy = true) : CompletesAt (.flashOperationComplete h false) h s fun x =>
    x.boot.flashOp = .idle ∧ x.rd Adr.DIE_FLASH_STATUS = 0x43000000#32 ∧
      (∀ a i, (s.half h).boot.flashOp = .erase a → i < a ∨ a + 0x10000 ≤ i → x.boot.byte i = (s.half h).boot.byte i) ∧
      (∀ a i, (s.half h).boot.flashOp = .program a → i < a ∨ a + 256 ≤ i → x.boot.byte i = (s.half h).boot.byte i) := by
  refine flashOperation_run ?_
  rw [Half.flashFinish]
  cases op : (s.half h).boot.flashOp with
  | idle => exact absurd busy (by rw [Half.flashBusy, op]; decide)
  | erase a =>
    obtain ⟨idle, status, outside⟩ := flashFail_shows (s.half h) a 0x10000
    refine ⟨idle, status, fun b i e hi => ?_, fun b i (e : FlashOp.erase a = .program b) => (nomatch e)⟩
    obtain rfl : a = b := by injection e
    exact outside i hi
  | program a =>
    obtain ⟨idle, status, outside⟩ := flashFail_shows (s.half h) a 256
    refine ⟨idle, status, fun b i (e : FlashOp.program a = .erase b) => (nomatch e), fun b i e hi => ?_⟩
    obtain rfl : a = b := by injection e
    exact outside i hi

/-! Ends of `BOOT_CTRL` operations (R537 to R539, R546). -/

/-- What a completed operation has done, of the flash. -/
structure BootDone (x : Half) (op : BootOp) (b : BootSt) : Prop where
  select : ∀ slot, op = .select slot → b.selector = ⟨slot, true, false⟩
  saveConfig : op = .saveConfig → (b.cfg x.boot.olderBank).valid = true ∧ (b.cfg x.boot.olderBank).words = x.configWords
  eraseConfig : op = .eraseConfig → b.cfg0.valid = false ∧ b.cfg1.valid = false
  eraseRetirements : op = .eraseRetirements → b.erased = some x.boot.retired
  raiseFloor : op = .raiseFloor → b.floor = max x.boot.floor x.boot.security
  saveLibrary : op = .saveLibrary → ∀ i, i < x.copyLength x.bankIn →
    b.byte (0x3010000 + i) = getAt (x.store.read (x.bankBase x.bankIn) (x.copyLength x.bankIn)) i 0

theorem BootSt.cfg_setCfg (b : BootSt) (i : Nat) (c : ConfigBank) : (b.setCfg i c).cfg i = c := by
  unfold BootSt.setCfg BootSt.cfg
  split <;> rfl

theorem Half.bootDone_keeps (x : Half) (op : BootOp) : SameRegs [Adr.DIE_BOOT_STATUS] x (x.bootDone op) ∧ (x.bootDone op).boot.bootOp = x.boot.bootOp := by
  cases op with
  | raiseFloor =>
    exact ⟨fun a ha => (Half.rd_put_ne _ _ _ _ fun e => ha (by simp [e])).trans (Half.rd_with_boot ..), rfl⟩
  | saveConfig =>
    refine ⟨fun _ _ => rfl, ?_⟩
    show (BootSt.setCfg _ _ _).bootOp = _
    unfold BootSt.setCfg
    split <;> rfl
  | _ => exact ⟨fun _ _ => rfl, rfl⟩

/-- The library image in the flash: its copy stands behind its header. -/
theorem Half.saveLibraryImage_copy (x : Half) {i : Nat} (hi : i < x.copyLength x.bankIn) : x.saveLibraryImage.boot.byte (0x3010000 + i) =
    getAt (x.store.read (x.bankBase x.bankIn) (x.copyLength x.bankIn)) i 0 := by
  unfold Half.saveLibraryImage
  simp only
  generalize x.copyLength x.bankIn = n at hi ⊢
  have length : (x.store.read (x.bankBase x.bankIn) n).length = n := by simp [StoreSt.read]
  generalize x.store.read (x.bankBase x.bankIn) n = copy at length ⊢
  rw [BootSt.byte_write, if_neg (by simp [beBytes_length]; omega), BootSt.byte_write, if_pos (by omega), Nat.add_sub_cancel_left]
  simp [getAt, List.getElem?_eq_getElem (length.symm ▸ hi)]

theorem Half.bootDone_done (x : Half) (op : BootOp) : BootDone x op (x.bootDone op).boot := by
  cases op with
  | saveConfig =>
    refine ⟨fun _ e => (nomatch e), fun _ => ?_, fun e => (nomatch e), fun e => (nomatch e), fun e => (nomatch e), fun e => (nomatch e)⟩
    have saved : (x.bootDone .saveConfig).boot.cfg x.boot.olderBank = _ := BootSt.cfg_setCfg ..
    rw [saved]
    exact ⟨rfl, rfl⟩
  | saveLibrary =>
    exact ⟨fun _ e => (nomatch e), fun e => (nomatch e), fun e => (nomatch e), fun e => (nomatch e), fun e => (nomatch e), fun _ i hi => x.saveLibraryImage_copy hi⟩
  | idle | select slot | eraseConfig | eraseRetirements | raiseFloor => constructor <;> simp [Half.bootDone]

theorem Half.bootFailed_keeps (x : Half) (op : BootOp) : SameRegs [Adr.DIE_BOOT_STATUS] x (x.bootFailed op) ∧
    (x.bootFailed op).boot.bootOp = x.boot.bootOp ∧ (op = .saveLibrary → (x.bootFailed op).boot.byte 0x3000000 = 0xFF) := by
  by_cases library : op = .saveLibrary
  · subst library
    exact ⟨fun _ _ => rfl, rfl, fun _ => (BootSt.byte_eraseSector ..).trans (if_pos rfl)⟩
  · have e : x.bootFailed op = if (x.fresh 1).1 = 1 then (x.fresh 1).2.bootDone op else (x.fresh 1).2 := by
      cases op with
      | saveLibrary => exact absurd rfl library
      | _ => rfl
    rw [e]
    split
    · obtain ⟨regs, idle⟩ := (x.fresh 1).2.bootDone_keeps op
      exact ⟨fun a ha => (regs a ha).trans (Half.fresh_rd ..), idle, fun e => absurd e library⟩
    · exact ⟨fun _ _ => rfl, rfl, fun e => absurd e library⟩

/-- A half whose `BOOT_CTRL` operation has left it as x, with its state shown. -/
theorem Half.opState_shows (x : Half) {v : Nat} (hv : v < 4) : (x.opState v).get Adr.DIE_BOOT_STATUS 0 2 = v ∧ (x.opState v).boot = x.boot ∧
    SameRegs [Adr.DIE_BOOT_STATUS] x (x.opState v) := by
  refine ⟨?_, rfl, fun a ha => Half.rd_put_ne _ _ _ _ fun e => ha (by simp [e])⟩
  rw [Half.opState, Half.get_put_self _ _ _ _ _ (by decide)]
  exact Nat.mod_eq_of_lt hv

/-- A half whose `BOOT_CTRL` operation is over. -/
def Half.bootIdle (x : Half) : Half := { x with boot := { x.boot with bootOp := .idle } }

theorem bootOperation_done (busy : (s.half h).boot.bootOp ≠ .idle) : CompletesAt (.bootOperationComplete h true) h s fun x =>
    x.get Adr.DIE_BOOT_STATUS 0 2 = 2 ∧ x.boot.bootOp = .idle ∧ SameRegs [Adr.DIE_BOOT_STATUS] (s.half h) x ∧
      BootDone (s.half h).bootIdle (s.half h).boot.bootOp x.boot := by
  refine completesAt_on rfl ?_
  rw [if_neg (by simpa [Half.bootBusy] using busy)]
  generalize s.half h = x
  obtain ⟨regs, idle⟩ := x.bootIdle.bootDone_keeps x.boot.bootOp
  have done := x.bootIdle.bootDone_done x.boot.bootOp
  obtain ⟨shown, boot, keeps⟩ := (x.bootIdle.bootDone x.boot.bootOp).opState_shows (v := 2) (by decide)
  exact ⟨shown, (congrArg BootSt.bootOp boot).trans idle, fun a ha => (keeps a ha).trans (regs a ha), boot ▸ done⟩

theorem bootOperation_failed (busy : (s.half h).boot.bootOp ≠ .idle) : CompletesAt (.bootOperationComplete h false) h s fun x =>
    x.get Adr.DIE_BOOT_STATUS 0 2 = 3 ∧ x.boot.bootOp = .idle ∧ SameRegs [Adr.DIE_BOOT_STATUS] (s.half h) x ∧
      ((s.half h).boot.bootOp = .saveLibrary → x.boot.byte 0x3000000 = 0xFF) := by
  refine completesAt_on rfl ?_
  rw [if_neg (by simpa [Half.bootBusy] using busy)]
  generalize s.half h = x
  obtain ⟨regs, idle, erased⟩ := x.bootIdle.bootFailed_keeps x.boot.bootOp
  obtain ⟨shown, boot, keeps⟩ := (x.bootIdle.bootFailed x.boot.bootOp).opState_shows (v := 3) (by decide)
  exact ⟨shown, (congrArg BootSt.bootOp boot).trans idle, fun a ha => (keeps a ha).trans (regs a ha), fun e => (congrArg (BootSt.byte · _) boot).trans (erased e)⟩

/-- Settles O49: the confirmation of a trial image, the ends of flash operations and of `BOOT_CTRL` operations. -/
theorem bootOperationsComplete : Obligations.BootOperationsComplete := by
  unfold Obligations.BootOperationsComplete
  intro h s
  refine ⟨fun trial role => trialConfirm_confirms trial role, fun a op => flashErased op, fun a op page => flashProgrammed op page,
    fun busy => flashFailed busy, fun op is busy => ?_⟩
  subst is
  obtain ⟨t, run, ⟨shown, idle, regs, done⟩, rest⟩ := bootOperation_done busy
  exact ⟨⟨t, run, ⟨shown, idle, regs, done.select, done.saveConfig, done.eraseConfig, done.eraseRetirements, done.raiseFloor, done.saveLibrary⟩, rest⟩,
    bootOperation_failed busy⟩

end boot

end Sys2Proof.Machine
end

section
/-! O48: regions that fail and return (R14 to R17). -/

namespace Sys2Proof.Machine

open Sys2Proof

/-- A running STANDBY half whose Control region is in reset, every other region up. -/
def controlInReset : State :=
  { State.reset with a := { (Half.init .a).wr Adr.RDN_ROLE_STATUS 2 with
    phase := .running, regions := [.up, .up, .up, .up, .up, .up, .inReset, .up] } }

theorem controlInReset_stands : (controlInReset.half .a).live = true ∧ (controlInReset.half .a).up .network = true ∧
    (controlInReset.half .a).regions.length = 8 ∧ (controlInReset.half .a).role = .standby := by decide +kernel

/-- A failing Network region finds Control in reset: the half goes into a warm reset, which leaves it OFFLINE. -/
theorem controlInReset_resets :
    (match exec (.regionStateUncorrectable .a .network) controlInReset with | .next t => (t.half .a).role | _ => .active) = .offline := by
  decide +kernel

/-- Refutes O48: each of the two commands ends by treating a Control region in reset as a warm reset of the half (R17), whichever region
has failed; the statement has a STANDBY half go to SYNCING and does not ask that Control is up. -/
theorem not_regionsFailAndReturn : ¬ Obligations.RegionsFailAndReturn := by
  intro holds
  obtain ⟨live, up, eight, standby⟩ := controlInReset_stands
  obtain ⟨fails, -⟩ := holds .a controlInReset live
  obtain ⟨t, ht, -, -, -, syncing, -⟩ := (fails .network false up eight).1 (by rw [standby]; decide) (by decide) (by decide)
  have offline := controlInReset_resets
  rw [show exec (.regionStateUncorrectable .a .network) controlInReset = .next t from ht] at offline
  exact absurd (offline.symm.trans (syncing standby)) (by decide)

end Sys2Proof.Machine
end

section
/-! O47: resets and the PCIe link (R17, R38 to R41, R82, R528 to R540, R593). -/

namespace Sys2Proof.Machine

open Sys2Proof

/-! Power-on and pin reset (R528). -/

/-- What a power-on reset leaves of a half with nothing under way. -/
def Half.poweredOn (y : Half) : Half :=
  ({ y.afterReset .powerReset with
    hlt := { HealthSt.init with since := y.age, tj := y.hlt.tj }, boot := (y.afterReset .powerReset).boot.forget } : Half).onRdn fun r =>
      { r with breezeOut := y.rdn.breezeOut }

/-- What a pin reset leaves of a half with nothing under way. -/
def Half.pinned (y : Half) : Half :=
  ({ ((y.afterReset .pinReset).retainMemory y).wr Adr.HLT_TMR_CORR (y.rd Adr.HLT_TMR_CORR) with
    hlt := { y.keptHealth with since := y.age } } : Half).onRdn fun r => { r with breezeOut := y.rdn.breezeOut }

/-- A half that enters a power-on or pin reset with nothing under way. -/
def Half.hardReset (y : Half) (pin : Bool) : Half :=
  if pin then y.pinned.put Adr.DIE_RESET_CAUSE 0 4 2 else y.poweredOn.put Adr.DIE_RESET_CAUSE 0 4 1

theorem Half.enterHardReset_eq {x : Half} (flash : x.boot.flashOp = .idle) (boot : x.boot.bootOp = .idle) (pin : Bool) :
    x.enterHardReset pin = x.releaseForReset.hardReset pin := by
  have same : x.releaseForReset.boot = x.boot := by
    unfold Half.releaseForReset Half.send
    split <;> [split <;> rfl; rfl]
  have whole : x.releaseForReset.cutShort = x.releaseForReset := by
    unfold Half.cutShort
    rw [same, flash, boot]
  unfold Half.enterHardReset
  rw [whole]
  cases pin <;> rfl

/-- A release of the line for a reset moves what is sent and what is on its way alone. -/
theorem Half.releaseForReset_same (x : Half) : x.releaseForReset = { x with rdn := x.releaseForReset.rdn, sent := x.releaseForReset.sent } := by
  unfold Half.releaseForReset Half.send
  split <;> [split <;> rfl; rfl]

theorem BootSt.retire_keeps (b : BootSt) (f : RetireBank → RetireBank) : (b.retire f).bytes = b.bytes ∧ (b.retire f).floor = b.floor := by
  unfold BootSt.retire
  dsimp only
  generalize (if (b.retire1.valid && (!b.retire0.valid || decide (b.retire0.gen < b.retire1.gen))) = true then b.retire1 else b.retire0) = cur
  split <;> exact ⟨rfl, rfl⟩

theorem BootSt.forget_keeps (b : BootSt) : b.forget.bytes = b.bytes ∧ b.forget.floor = b.floor := by
  unfold BootSt.forget
  split
  · exact ⟨rfl, rfl⟩
  · exact b.retire_keeps _

/-- The registers that a pin reset keeps. -/
def pinRegs : List Nat := [Adr.HLT_TMR_CORR, Adr.REC_WRITE_OFS, Adr.REC_OLDEST_OFS, Adr.REC_LAST_SEQ]

theorem Half.retainMemory_rd (x y : Half) {a : Nat} (ha : a ∉ pinRegs) : (x.retainMemory y).rd a = x.rd a := by
  simp only [pinRegs, List.mem_cons, List.not_mem_nil, or_false, not_or] at ha
  obtain ⟨-, write, oldest, last⟩ := ha
  refine (lookAt_storeAt_ne _ _ _ last).trans ((lookAt_storeAt_ne _ _ _ oldest).trans (lookAt_storeAt_ne _ _ _ write))

theorem Half.hardReset_shows (y : Half) (pin : Bool) : (y.hardReset pin).phase = (if pin then .pinReset else .powerReset) ∧
    (y.hardReset pin).get Adr.DIE_RESET_CAUSE 0 4 = (if pin then 2 else 1) ∧ (y.hardReset pin).sent.own = false ∧
    (y.hardReset pin).boot.bytes = y.boot.bytes ∧ (y.hardReset pin).boot.floor = y.boot.floor ∧ (y.hardReset pin).block = y.block ∧
    (y.hardReset pin).store.dram = (if pin then y.store.dram else []) ∧
    (pin = true → (y.hardReset pin).hlt.counts = y.hlt.counts ∧ (y.hardReset pin).rd Adr.HLT_TMR_CORR = y.rd Adr.HLT_TMR_CORR) ∧
    SameRegs (Adr.DIE_RESET_CAUSE :: (if pin then pinRegs else [])) (Half.init y.id) (y.hardReset pin) := by
  unfold Half.hardReset
  cases pin with
  | false =>
    obtain ⟨bytes, floor⟩ := (y.afterReset .powerReset).boot.forget_keeps
    exact ⟨rfl, Half.get_put_self _ _ _ _ _ (by decide), rfl, bytes, floor, rfl, rfl, fun e => absurd e (by decide),
      fun a ha => Half.rd_put_ne _ _ _ _ fun e => ha (by simp [e])⟩
  | true =>
    have read : ∀ a, y.pinned.rd a = (((y.afterReset .pinReset).retainMemory y).wr Adr.HLT_TMR_CORR (y.rd Adr.HLT_TMR_CORR)).rd a := fun _ => rfl
    refine ⟨rfl, Half.get_put_self _ _ _ _ _ (by decide), rfl, rfl, rfl, rfl, rfl, fun _ => ⟨rfl, ?_⟩, fun a ha => ?_⟩
    · rw [if_pos rfl, Half.rd_put_ne _ _ _ _ (by decide), read, Half.rd_wr_self]
    · rw [if_pos rfl, List.mem_cons, not_or] at ha
      obtain ⟨moved, kept⟩ := ha
      rw [if_pos rfl, Half.rd_put_ne _ _ _ _ moved, read, Half.rd_wr_ne _ _ fun e => kept (by simp [pinRegs, e]), Half.retainMemory_rd _ _ kept]
      rfl

section resets
variable {h : HalfId} {s : State}

theorem hardReset_resets (pin : Bool) (flash : (s.half h).boot.flashOp = .idle) (boot : (s.half h).boot.bootOp = .idle) :
    Completes (if pin then .pinReset h else .powerOnReset h) s fun t =>
      (t.half h).phase = (if pin then .pinReset else .powerReset) ∧
      (t.half h).get Adr.DIE_RESET_CAUSE 0 4 = (if pin then 2 else 1) ∧ (t.half h).sent.own = false ∧
      (t.half h).boot.bytes = (s.half h).boot.bytes ∧ (t.half h).boot.floor = (s.half h).boot.floor ∧
      (t.half h).block = (s.half h).block ∧ (t.half h).store.dram = (if pin then (s.half h).store.dram else []) ∧
      (pin = true → (t.half h).hlt.counts = (s.half h).hlt.counts ∧ (t.half h).rd Adr.HLT_TMR_CORR = (s.half h).rd Adr.HLT_TMR_CORR) ∧
      SameRegs (lineRegsOf ++ [Adr.DIE_RESET_CAUSE] ++ (if pin then pinRegs else [])) (Half.init (s.half h).id) (t.half h) ∧
      SameRegs lineRegsOf (s.half h.other) (t.half h.other) ∧ t.pending = s.pending := by
  have run : exec (if pin then .pinReset h else .powerOnReset h) s = .next (s.on h fun x => x.enterHardReset pin).lines := by
    cases pin <;> rfl
  have lines := State.lines_linesOnly (s.on h fun x => x.enterHardReset pin)
  have here := lines.halves h
  have there := lines.halves h.other
  rw [State.on_half, Half.enterHardReset_eq flash boot] at here
  rw [State.on_other] at there
  have released := (s.half h).releaseForReset_same
  obtain ⟨phase, cause, own, bytes, floor, block, dram, kept, regs⟩ := (s.half h).releaseForReset.hardReset_shows pin
  refine completes_of run ⟨here.phase.trans phase, (here.get (by decide)).trans cause, ?_, ?_, ?_, ?_, ?_, fun on => ?_, fun a ha => ?_, there.regs,
    lines.pending.trans (State.on_pending ..)⟩
  · rw [here.sent, own]
  · rw [here.boot, bytes, released]
  · rw [here.boot, floor, released]
  · rw [here.same]
    exact block.trans (by rw [released])
  · rw [here.same]
    exact dram.trans (by rw [released])
  · obtain ⟨counts, corrected⟩ := kept on
    refine ⟨?_, (here.regs _ (by decide)).trans (corrected.trans (by rw [released]; rfl))⟩
    rw [here.same]
    exact counts.trans (by rw [released])
  · simp only [List.mem_append, List.mem_singleton, not_or] at ha
    obtain ⟨⟨line, cause⟩, kept⟩ := ha
    have id : (s.half h).releaseForReset.id = (s.half h).id := by rw [released]
    rw [here.regs a line, regs a (by rw [List.mem_cons, not_or]; exact ⟨cause, kept⟩), id]

end resets


/-! The release of a reset (R535, R540). -/

/-- From x to y, steps of a start-up that leave what the boot ROM decides. -/
structure Starts (x y : Half) : Prop where
  id : y.id = x.id
  phase : y.phase = x.phase
  regions : y.regions = x.regions
  boot : y.boot = x.boot
  status : ∀ lo n, 20 ≤ lo → y.get Adr.DIE_BOOT_STATUS lo n = x.get Adr.DIE_BOOT_STATUS lo n

namespace Starts
variable {x y z : Half}

theorem refl (x : Half) : Starts x x := ⟨rfl, rfl, rfl, rfl, fun _ _ _ => rfl⟩

theorem trans (h : Starts x y) (k : Starts y z) : Starts x z :=
  ⟨k.id.trans h.id, k.phase.trans h.phase, k.regions.trans h.regions, k.boot.trans h.boot, fun lo n hl => (k.status lo n hl).trans (h.status lo n hl)⟩

theorem of_writes {p : Nat → Prop} (w : Writes p x y) (apart : ¬ p Adr.DIE_BOOT_STATUS) : Starts x y := by
  have status := fun lo n => w.get apart lo n
  rw [w.same] at status ⊢
  exact ⟨rfl, rfl, rfl, rfl, fun lo n _ => status lo n⟩

/-- The low fields of `BOOT_STATUS`. -/
theorem put_low (x : Half) {lo n : Nat} (low : lo + n ≤ 20) (v : Nat) : Starts x (x.put Adr.DIE_BOOT_STATUS lo n v) :=
  ⟨rfl, rfl, rfl, rfl, fun _ _ high => Half.get_put_field _ _ _ _ _ _ _ (by omega) (by omega)⟩

theorem onStore (x : Half) (f : StoreSt → StoreSt) : Starts x (x.onStore f) := ⟨rfl, rfl, rfl, rfl, fun _ _ _ => rfl⟩

theorem each {f : Half → Nat → Half} {is : List Nat} (goes : ∀ i ∈ is, ∀ y, Starts y (f y i)) (x : Half) : Starts x (x.each is f) := by
  unfold Half.each
  induction is generalizing x with
  | nil => exact refl x
  | cons i is ih => exact (goes i List.mem_cons_self x).trans (ih (fun j hj => goes j (List.mem_cons_of_mem i hj)) (f x i))

end Starts

theorem Half.showReserve_starts (x : Half) : Starts x x.showReserve :=
  .of_writes (p := (· ∈ [Adr.MEM_RETIRED, Adr.MEM_STATUS])) (((Writes.refl _ x).wrNat _ (by simp)).putBit 3 _ (by simp)) (by decide)

theorem Half.applyRetirements_starts (x : Half) : Starts x x.applyRetirements := by
  have busy : Starts x (x.putBit Adr.MEM_STATUS 0 true) := .of_writes (p := (· = Adr.MEM_STATUS)) ((Writes.refl _ x).putBit 0 true rfl) (by decide)
  have graph : ∀ (y : Half) f, Starts y (y.onGraph f) := fun y f => ⟨rfl, rfl, rfl, rfl, fun _ _ _ => rfl⟩
  have engine : ∀ (b : Bool) (y : Half) (e : Nat), Starts y (if b then y.put (Adr.ENG_STATUS e) 0 3 4 else y) := fun b y e => by
    split
    · exact .of_writes (p := (· = Adr.ENG_STATUS e)) ((Writes.refl _ y).put 0 3 4 rfl) (by simp only [Adr.DIE_BOOT_STATUS, Adr.ENG_STATUS]; omega)
    · exact .refl y
  have plc : ∀ y : Half, Starts y y.showPlc := fun y => by
    have shown : ∀ (z : Half) a b c, Starts z (((z.put Adr.PLC_STATUS 8 4 a).putBit Adr.PLC_STATUS 1 b).wrNat Adr.PLC_CAPACITY c) := fun z a b c =>
      .of_writes (p := (· ∈ [Adr.PLC_STATUS, Adr.PLC_CAPACITY]))
        ((((Writes.refl _ z).put 8 4 a (by simp)).putBit 1 b (by simp)).wrNat c (by simp)) (by decide)
    unfold Half.showPlc
    simp only
    refine Starts.trans ?_ (graph _ _)
    exact shown y _ _ _
  unfold Half.applyRetirements Half.retiredEngines
  simp only
  refine Starts.trans ?_ (plc _)
  refine Starts.trans ?_ (Starts.each (fun e _ y => engine _ y e) _)
  refine Starts.trans ?_ (graph _ _)
  refine Starts.trans ?_ (Half.showReserve_starts _)
  exact busy.trans (Starts.onStore _ _)

/-! What the boot ROM decides. -/

theorem Half.slotResult_lt (x : Half) (slot : Nat) : x.slotResult slot < 16 := by
  unfold Half.slotResult
  simp only
  split_ifs <;> decide

theorem Half.slotResult_congr {x y : Half} (id : y.id = x.id) (bytes : y.boot.bytes = x.boot.bytes) (floor : y.boot.floor = x.boot.floor) (slot : Nat) :
    y.slotResult slot = x.slotResult slot := by
  have read : ∀ a n, y.boot.read a n = x.boot.read a n := fun a n => by simp only [BootSt.read, BootSt.byte, bytes]
  simp only [Half.slotResult, read, id, floor]

/-- A half that shows the checks of both slots (R546). -/
def Half.showSlots (x : Half) (r0 r1 : Nat) (trial reverted : Bool) (floor v0 v1 : Nat) : Half :=
  ((((((x.put Adr.DIE_BOOT_STATUS 24 4 r0).put Adr.DIE_BOOT_STATUS 20 4 r1).putBit Adr.DIE_BOOT_STATUS 31 trial).putBit Adr.DIE_BOOT_STATUS 30
    reverted).put Adr.DIE_BOOT_STATUS 10 6 floor).wrNat (Adr.DIE_SLOT_VER 0) v0).wrNat (Adr.DIE_SLOT_VER 1) v1

theorem Half.showSlots_shows (x : Half) {r0 r1 : Nat} (h0 : r0 < 16) (h1 : r1 < 16) (trial reverted : Bool) (floor v0 v1 : Nat) :
    let y := x.showSlots r0 r1 trial reverted floor v0 v1
    y.get Adr.DIE_BOOT_STATUS 24 4 = r0 ∧ y.get Adr.DIE_BOOT_STATUS 20 4 = r1 ∧ y.bit Adr.DIE_BOOT_STATUS 28 = x.bit Adr.DIE_BOOT_STATUS 28 := by
  have versions : ∀ z : Half, ((z.wrNat (Adr.DIE_SLOT_VER 0) v0).wrNat (Adr.DIE_SLOT_VER 1) v1).rd Adr.DIE_BOOT_STATUS = z.rd Adr.DIE_BOOT_STATUS := fun z => by
    rw [Half.rd_wrNat_ne _ _ (by decide), Half.rd_wrNat_ne _ _ (by decide)]
  have bit : ∀ (z : Half) k v lo n, k < 32 → (k < lo ∨ lo + n ≤ k) → (z.putBit Adr.DIE_BOOT_STATUS k v).get Adr.DIE_BOOT_STATUS lo n =
      z.get Adr.DIE_BOOT_STATUS lo n := fun z k v lo n hk apart => Half.get_put_field _ _ _ _ _ _ _ (by omega) (by omega)
  unfold Half.showSlots
  refine ⟨?_, ?_, ?_⟩
  · rw [Half.get_congr (versions _), Half.get_put_field _ _ _ _ _ _ _ (by decide) (by decide), bit _ _ _ _ _ (by decide) (by decide),
      bit _ _ _ _ _ (by decide) (by decide), Half.get_put_field _ _ _ _ _ _ _ (by decide) (by decide), Half.get_put_self _ _ _ _ _ (by decide)]
    exact Nat.mod_eq_of_lt h0
  · rw [Half.get_congr (versions _), Half.get_put_field _ _ _ _ _ _ _ (by decide) (by decide), bit _ _ _ _ _ (by decide) (by decide),
      bit _ _ _ _ _ (by decide) (by decide), Half.get_put_self _ _ _ _ _ (by decide)]
    exact Nat.mod_eq_of_lt h1
  · rw [Half.bit_congr (versions _), Half.bit_put_field _ _ _ _ _ _ (by decide) (by decide), Half.bit_putBit_bit _ _ _ _ _ (by decide) (by decide),
      Half.bit_putBit_bit _ _ _ _ _ (by decide) (by decide), Half.bit_put_field _ _ _ _ _ _ (by decide) (by decide),
      Half.bit_put_field _ _ _ _ _ _ (by decide) (by decide)]

/-- The boot ROM's choice among the slots. -/
def Half.choice (x : Half) : Selector × Option Nat × Bool × Bool := bootChoice x.boot.selector (x.slotResult 0) (x.slotResult 1)

theorem Half.bootRom_shows (x : Half) : x.bootRom.get Adr.DIE_BOOT_STATUS 24 4 = x.slotResult 0 ∧ x.bootRom.get Adr.DIE_BOOT_STATUS 20 4 = x.slotResult 1 ∧
    x.bootRom.boot.selector = x.choice.1 ∧ x.bootRom.bit Adr.DIE_BOOT_STATUS 28 = (x.bit Adr.DIE_BOOT_STATUS 28 || x.choice.2.1.isNone) ∧
    ∀ i, x.bootRom.boot.cfg i = x.boot.cfg i := by
  obtain ⟨v0, v1, e⟩ : ∃ v0 v1, x.bootRom = match x.choice.2.1 with
      | none => (({ x with boot := { x.boot with selector := x.choice.1 } } : Half).showSlots (x.slotResult 0) (x.slotResult 1) x.choice.2.2.1 x.choice.2.2.2
          x.boot.floor v0 v1).putBit Adr.DIE_BOOT_STATUS 28 true
      | some s => { (({ x with boot := { x.boot with selector := x.choice.1 } } : Half).showSlots (x.slotResult 0) (x.slotResult 1) x.choice.2.2.1
          x.choice.2.2.2 x.boot.floor v0 v1).put Adr.DIE_BOOT_STATUS 29 1 s with boot := { x.boot with
            selector := x.choice.1
            mirrorFmt := beAt (x.boot.read (slotBase s) 256) 6 2, prevFmt := beAt (x.boot.read (slotBase s) 256) 180 2
            image := BitVec.ofNat 32 (beAt (x.boot.read (slotBase s) 256) 8 4), security := beAt (x.boot.read (slotBase s) 256) 12 4 } } :=
    ⟨_, _, rfl⟩
  obtain ⟨slot0, slot1, shown⟩ := ({ x with boot := { x.boot with selector := x.choice.1 } } : Half).showSlots_shows (x.slotResult_lt 0) (x.slotResult_lt 1)
    x.choice.2.2.1 x.choice.2.2.2 x.boot.floor v0 v1
  have boot : (({ x with boot := { x.boot with selector := x.choice.1 } } : Half).showSlots (x.slotResult 0) (x.slotResult 1) x.choice.2.2.1
    x.choice.2.2.2 x.boot.floor v0 v1).boot = { x.boot with selector := x.choice.1 } := rfl
  have before : ({ x with boot := { x.boot with selector := x.choice.1 } } : Half).bit Adr.DIE_BOOT_STATUS 28 = x.bit Adr.DIE_BOOT_STATUS 28 := rfl
  rw [e]
  generalize ({ x with boot := { x.boot with selector := x.choice.1 } } : Half).showSlots (x.slotResult 0) (x.slotResult 1) x.choice.2.2.1
    x.choice.2.2.2 x.boot.floor v0 v1 = y at slot0 slot1 shown boot ⊢
  have other : ∀ lo n, 20 ≤ lo → lo + n ≤ 28 → ∀ v, (y.putBit Adr.DIE_BOOT_STATUS 28 true).get Adr.DIE_BOOT_STATUS lo n = y.get Adr.DIE_BOOT_STATUS lo n ∧
      (y.put Adr.DIE_BOOT_STATUS 29 1 v).get Adr.DIE_BOOT_STATUS lo n = y.get Adr.DIE_BOOT_STATUS lo n := fun lo n _ high v =>
    ⟨Half.get_put_field _ _ _ _ _ _ _ (by decide) (by omega), Half.get_put_field _ _ _ _ _ _ _ (by decide) (by omega)⟩
  cases x.choice.2.1 with
  | none =>
    refine ⟨((other 24 4 (by decide) (by decide) 0).1).trans slot0, ((other 20 4 (by decide) (by decide) 0).1).trans slot1, congrArg BootSt.selector boot, ?_,
      fun i => show y.boot.cfg i = x.boot.cfg i by rw [boot]; rfl⟩
    rw [Option.isNone_none, Bool.or_true]
    exact Half.bit_putBit_self _ _ _ _ (by decide)
  | some k =>
    refine ⟨((Half.get_congr (Half.rd_with_boot ..) 24 4).trans (other 24 4 (by decide) (by decide) k).2).trans slot0,
      ((Half.get_congr (Half.rd_with_boot ..) 20 4).trans (other 20 4 (by decide) (by decide) k).2).trans slot1, rfl, ?_, fun i => rfl⟩
    rw [Option.isNone_some, Bool.or_false]
    exact (Half.bit_congr (Half.rd_with_boot ..) 28).trans ((Half.bit_put_field _ _ _ _ _ _ (by decide) (by decide)).trans (shown.trans before))

/-! Steps 5 and 6 of R540. -/

theorem Half.replayConfig_starts {x : Half} (apart : ∀ i, ∀ p ∈ (x.boot.cfg i).words, p.1 ≠ Adr.DIE_BOOT_STATUS) : Starts x x.replayConfig := by
  have word : ∀ (y : Half) (p : Nat × Word), p.1 ≠ Adr.DIE_BOOT_STATUS → Starts y (if waitsForPlan p.1 then y.stage p.1 p.2 else y.wr p.1 p.2) :=
    fun y p hp => by
      split
      · exact ⟨rfl, rfl, rfl, rfl, fun _ _ _ => rfl⟩
      · exact .of_writes (p := (· = p.1)) ((Writes.refl _ y).wr p.2 rfl) hp.symm
  have words : ∀ (l : List (Nat × Word)) (y : Half), (∀ p ∈ l, p.1 ≠ Adr.DIE_BOOT_STATUS) →
      Starts y (l.foldl (fun (y : Half) p => if waitsForPlan p.1 then y.stage p.1 p.2 else y.wr p.1 p.2) y) := fun l => by
    induction l with
    | nil => exact fun y _ => .refl y
    | cons p l ih => exact fun y hl => (word y p (hl p List.mem_cons_self)).trans (ih _ fun q hq => hl q (List.mem_cons_of_mem p hq))
  unfold Half.replayConfig
  split
  · exact .put_low x (by decide) 2
  · next i _ =>
    simp only
    have keys : ∀ (y : Half) k n, Starts y { y with keys := k, net := n } := fun y k n => ⟨rfl, rfl, rfl, rfl, fun _ _ _ => rfl⟩
    refine Starts.trans ?_ (keys _ _ _)
    refine Starts.trans ?_ (.put_low _ (by decide) i)
    exact words _ x (apart i)

theorem Half.readHours_starts (x : Half) : Starts x x.readHours := by
  have warn : ∀ y : Half, Starts y y.lifeWarn := fun y => by
    unfold Half.lifeWarn
    split
    · exact .of_writes (p := (· ∈ [Adr.HLT_STATUS, Adr.HLT_EVENT])) (((Writes.refl _ y).putBit 3 true (by simp)).event 3 (by simp)) (by decide)
    · exact .refl y
  have hlt : ∀ (y : Half) e, Starts y { y with hlt := { x.hlt with equiv := e } } := fun y e => ⟨rfl, rfl, rfl, rfl, fun _ _ _ => rfl⟩
  unfold Half.readHours
  split
  · next p e _ _ =>
    have hours : Starts x ((x.wrNat Adr.HLT_POWER_HOURS p).wrNat Adr.HLT_EQUIV_HOURS (e / 1000000)) :=
      .of_writes (p := (· ∈ [Adr.HLT_POWER_HOURS, Adr.HLT_EQUIV_HOURS])) (((Writes.refl _ x).wrNat _ (by simp)).wrNat _ (by simp)) (by decide)
    exact (hours.trans (hlt _ e)).trans (warn _)
  · exact .refl x

theorem Half.refEval_starts (x : Half) (second : Bool) {i : Nat} : Starts x (x.refEval second i) := by
  have status : Adr.DIE_BOOT_STATUS ∉ [Adr.TIM_REF_STATUS i, Adr.TIM_EVENT] := by
    simp only [Adr.DIE_BOOT_STATUS, Adr.TIM_REF_STATUS, Adr.TIM_EVENT, List.mem_cons, List.not_mem_nil, or_false]
    omega
  have of_writes : ∀ {y}, Writes (· ∈ [Adr.TIM_REF_STATUS i, Adr.TIM_EVENT]) x y → Starts x y := fun w => .of_writes w status
  have ref : ∀ (y : Half) f, Starts y (y.onRef i f) := fun y f => ⟨rfl, rfl, rfl, rfl, fun _ _ _ => rfl⟩
  have set : ∀ v, Starts x (x.setRef i v) := fun v => of_writes (x.setRef_writes i v)
  have failed : ∀ c, Starts x (x.refFailed i c) := fun c => by
    unfold Half.refFailed
    simp only
    split
    · exact of_writes (((x.setRef_writes i 4).put 4 4 c (by simp)).event 6 (by simp))
    · exact of_writes ((x.setRef_writes i 4).put 4 4 c (by simp))
  unfold Half.refEval Half.refReturns
  split
  · exact .of_writes (p := (· = Adr.TIM_REF_STATUS 6)) ((Writes.refl _ x).put 0 3 2 rfl) (by decide)
  · split
    · exact set 0
    · split
      · exact (set 1).trans (ref _ _)
      · split
        · split
          · exact ref _ _
          · split
            · exact .refl x
            · split
              · exact (set _).trans (ref _ _)
              · exact ref _ _
        · exact (set _).trans (ref _ _)
      · exact ref _ _
      · exact failed _
      · exact .refl x

theorem Half.timStart_starts (x : Half) : Starts x x.timStart := by
  have loop : ∀ y : Half, Starts y (y.setCpll 1) := fun y => by
    unfold Half.setCpll
    split
    · exact .refl y
    · exact .of_writes (p := (· ∈ [Adr.TIM_CPLL_STATUS, Adr.TIM_EVENT, Adr.TIM_STATUS]))
        ((((Writes.refl _ y).put 0 3 1 (by simp)).event 3 (by simp)).putBit 1 _ (by simp)) (by decide)
  exact (Starts.each (fun i _ y => y.refEval_starts false) x).trans (loop _)

theorem Half.serveBank_starts (x : Half) (bank gen : Nat) : Starts x (x.serveBank bank gen) := by
  have shown : Starts x (((x.putBit Adr.MSG_STATUS 1 (bank == 1)).putBit Adr.MSG_STATUS 0 true).wrNat Adr.MSG_LIB_GEN gen) :=
    .of_writes (p := (· ∈ [Adr.MSG_STATUS, Adr.MSG_LIB_GEN])) ((((Writes.refl _ x).putBit 1 _ (by simp)).putBit 0 true (by simp)).wrNat gen (by simp))
      (by decide)
  have damaged : ∀ (y : Half) (w : Nat), Starts y (y.wrNat (Adr.MSG_DAMAGED w) 0) := fun y w =>
    .of_writes (p := (· = Adr.MSG_DAMAGED w)) ((Writes.refl _ y).wrNat 0 rfl) (by simp only [Adr.DIE_BOOT_STATUS, Adr.MSG_DAMAGED]; omega)
  have checked : ∀ y : Half, Starts y (y.put Adr.MSG_LIB_CHECK 16 16 0) := fun y =>
    .of_writes (p := (· = Adr.MSG_LIB_CHECK)) ((Writes.refl _ y).put 16 16 0 rfl) (by decide)
  have busy : ∀ y : Half, Starts y y.showBankBusy := fun y => .of_writes y.showBankBusy_writes (by decide)
  unfold Half.serveBank
  simp only
  refine Starts.trans ?_ (busy _)
  refine Starts.trans ?_ (checked _)
  refine shown.trans ?_
  generalize ((x.putBit Adr.MSG_STATUS 1 (bank == 1)).putBit Adr.MSG_STATUS 0 true).wrNat Adr.MSG_LIB_GEN gen = y
  exact Starts.each (fun w _ z => damaged z w) y

theorem Half.libSource_starts (x : Half) (v : Nat) : Starts x (x.libSource v) := .put_low x (by decide) v

/-- The image of the boot flash copied to bank 0, where it is put into service if it is good (R305). -/
theorem Half.takeFlash_starts (x : Half) (copy : List Byte) (g : Nat) :
    Starts x ((((x.onStore fun t => t.write (x.bankBase 0) copy).writeRecord 0 g).serveBank 0 g).libSource 2) := by
  have copied := Starts.onStore x fun t => t.write (x.bankBase 0) copy
  generalize x.onStore (fun t => t.write (x.bankBase 0) copy) = y at copied ⊢
  have recorded : Starts y (y.writeRecord 0 g) := Starts.onStore _ _
  generalize y.writeRecord 0 g = z at recorded ⊢
  exact ((copied.trans recorded).trans (z.serveBank_starts 0 g)).trans (Half.libSource_starts _ 2)

/-- A load that the reset cut short reads OPEN. -/
def Half.openedAgain (x : Half) : Half := if x.store.opened then x.setLib 1 else x

theorem Half.openedAgain_starts (x : Half) : Starts x x.openedAgain := by
  unfold Half.openedAgain
  split
  · exact .of_writes (p := (· = Adr.MSG_STATUS)) ((Writes.refl _ x).put 4 3 1 rfl) (by decide)
  · exact .refl x

/-- The definition is taken apart as a function, so that no check has to evaluate which bank is best. -/
theorem Half.selectLibrary_starts (x : Half) (partnerHas : Bool) : Starts x (x.selectLibrary partnerHas) := by
  have opened := x.openedAgain_starts
  unfold Half.openedAgain at opened
  obtain ⟨select, same⟩ : ∃ select, select = Half.selectLibrary := ⟨_, rfl⟩
  rw [← same]
  delta Half.selectLibrary at same
  rw [same]
  simp only
  refine opened.trans ?_
  generalize (if x.store.opened = true then x.setLib 1 else x) = y
  generalize y.bestBank = best
  obtain - | ⟨b, g⟩ := best
  · have fault : Starts y (y.latch Adr.MSG_FAULT 4) := .of_writes (p := (· = Adr.MSG_FAULT)) ((Writes.refl _ y).latch 4 rfl) (by decide)
    refine fault.trans ?_
    dsimp only
    generalize y.latch Adr.MSG_FAULT 4 = z
    generalize z.flashLibrary = image
    split
    · exact z.libSource_starts 4
    · obtain - | ⟨g, copy⟩ := image
      · exact z.libSource_starts 3
      · have taken := z.takeFlash_starts copy g
        dsimp only
        generalize z.onStore (fun t => t.write (z.bankBase 0) copy) = w at taken ⊢
        generalize w.verifyBank 0 (w.validMessages 0).length = failure
        cases failure with
        | none => exact taken
        | some _ => exact z.libSource_starts 3
  · exact (y.serveBank_starts _ _).trans (Half.libSource_starts _ _)

/-! Steps 1 to 5 of R540. -/

/-- A half with the capacity of its flash, its straps and its retirements read. -/
def Half.strapped (x : Half) (hostsel : Bool) (size : Word) : Half :=
  let y := { x with boot := { x.boot with size := clampNat 0x4000000 0x20000000 size.toNat } }
  let z := if x.phase = .warmReset then y else (y.putBit Adr.DIE_STRAPS 1 hostsel).onSent fun t => { t with draught := .alive }
  (z.putBit Adr.HOST_STATUS 1 (z.bit Adr.DIE_STRAPS 1)).applyRetirements

theorem Half.strapped_starts (x : Half) (hostsel : Bool) (size : Word) :
    Starts { x with boot := { x.boot with size := clampNat 0x4000000 0x20000000 size.toNat } } (x.strapped hostsel size) := by
  unfold Half.strapped
  simp only
  generalize ({ x with boot := { x.boot with size := clampNat 0x4000000 0x20000000 size.toNat } } : Half) = y
  have straps : Starts y (if x.phase = .warmReset then y else (y.putBit Adr.DIE_STRAPS 1 hostsel).onSent fun t => { t with draught := .alive }) := by
    have strap : Starts y (y.putBit Adr.DIE_STRAPS 1 hostsel) := .of_writes (p := (· = Adr.DIE_STRAPS)) ((Writes.refl _ y).putBit 1 hostsel rfl) (by decide)
    have sent : ∀ z : Half, Starts z (z.onSent fun t => { t with draught := .alive }) := fun z => ⟨rfl, rfl, rfl, rfl, fun _ _ _ => rfl⟩
    split
    · exact .refl y
    · exact strap.trans (sent _)
  refine straps.trans ?_
  generalize (if x.phase = .warmReset then y else (y.putBit Adr.DIE_STRAPS 1 hostsel).onSent fun t => { t with draught := .alive }) = z
  have host : Starts z (z.putBit Adr.HOST_STATUS 1 (z.bit Adr.DIE_STRAPS 1)) :=
    .of_writes (p := (· = Adr.HOST_STATUS)) ((Writes.refl _ z).putBit 1 _ rfl) (by decide)
  exact host.trans (Half.applyRetirements_starts _)

/-- A half whose image runs: its regions up, its configuration replayed, its library selected. -/
def Half.runImage (x : Half) (partnerHas : Bool) : Half :=
  let y := ({ x with regions := [.up, .up, .up, .up, .up, .up, .up, .up] } : Half).replayConfig.readHours
  ((y.wrNat Adr.REC_SIZE (y.recBytes / mib)).timStart).selectLibrary partnerHas

theorem Half.runImage_starts {x : Half} (partnerHas : Bool) (apart : ∀ i, ∀ p ∈ (x.boot.cfg i).words, p.1 ≠ Adr.DIE_BOOT_STATUS) :
    Starts { x with regions := [.up, .up, .up, .up, .up, .up, .up, .up] } (x.runImage partnerHas) := by
  have replayed := Half.replayConfig_starts (x := { x with regions := [.up, .up, .up, .up, .up, .up, .up, .up] }) apart
  unfold Half.runImage
  simp only
  refine (replayed.trans (Half.readHours_starts _)).trans ?_
  generalize ({ x with regions := [.up, .up, .up, .up, .up, .up, .up, .up] } : Half).replayConfig.readHours = y
  have size : Starts y (y.wrNat Adr.REC_SIZE (y.recBytes / mib)) := .of_writes (p := (· = Adr.REC_SIZE)) ((Writes.refl _ y).wrNat _ rfl) (by decide)
  exact (size.trans (Half.timStart_starts _)).trans (Half.selectLibrary_starts _ _)

theorem Half.startUp_eq {x : Half} (down : x.phase = .powerReset ∨ x.phase = .pinReset ∨ x.phase = .warmReset) (hostsel partnerHas : Bool) (size : Word) :
    x.startUp hostsel partnerHas size =
      if ({ (x.strapped hostsel size).bootRom with phase := .starting } : Half).bit Adr.DIE_BOOT_STATUS 28 then
        ({ (x.strapped hostsel size).bootRom with phase := .starting } : Half).setRegion .control .up
      else ({ (x.strapped hostsel size).bootRom with phase := .starting } : Half).runImage partnerHas := by
  unfold Half.startUp
  obtain e | e | e := down <;> (simp only [e, Half.strapped]; rfl)

/-- What a start-up leaves: the checks of the slots, the choice, and the regions that answer. -/
theorem Half.startUp_shows {x : Half} (down : x.phase = .powerReset ∨ x.phase = .pinReset ∨ x.phase = .warmReset) (hostsel partnerHas : Bool) (size : Word)
    (apart : ∀ i, ∀ p ∈ (x.boot.cfg i).words, p.1 ≠ Adr.DIE_BOOT_STATUS) :
    let y := x.startUp hostsel partnerHas size
    y.phase = .starting ∧ y.get Adr.DIE_BOOT_STATUS 24 4 = x.slotResult 0 ∧ y.get Adr.DIE_BOOT_STATUS 20 4 = x.slotResult 1 ∧
      y.boot.selector = x.choice.1 ∧ (x.bit Adr.DIE_BOOT_STATUS 28 = false → y.bit Adr.DIE_BOOT_STATUS 28 = x.choice.2.1.isNone) ∧
      (y.bit Adr.DIE_BOOT_STATUS 28 = true → y.up .control = true) ∧ (y.bit Adr.DIE_BOOT_STATUS 28 = false → ∀ r, y.up r = true) := by
  have read := x.strapped_starts hostsel size
  obtain ⟨slot0, slot1, selector, image, cfg⟩ := (x.strapped hostsel size).bootRom_shows
  have result : ∀ i, (x.strapped hostsel size).slotResult i = x.slotResult i :=
    Half.slotResult_congr read.id (by rw [read.boot]) (by rw [read.boot])
  have choice : (x.strapped hostsel size).choice = x.choice := by
    rw [Half.choice, Half.choice, result, result, read.boot]
  have before : (x.strapped hostsel size).bit Adr.DIE_BOOT_STATUS 28 = x.bit Adr.DIE_BOOT_STATUS 28 := by
    rw [← Half.get_beq_one, read.status 28 1 (by decide)]
    rfl
  have words : ∀ i, ∀ p ∈ ((x.strapped hostsel size).bootRom.boot.cfg i).words, p.1 ≠ Adr.DIE_BOOT_STATUS := fun i => by
    rw [cfg, read.boot]
    exact apart i
  simp only
  rw [Half.startUp_eq down]
  rw [result] at slot0 slot1
  rw [choice] at selector image
  rw [before] at image
  generalize (x.strapped hostsel size).bootRom = y at slot0 slot1 selector image words ⊢
  have same : ∀ a, ({ y with phase := .starting } : Half).rd a = y.rd a := fun _ => rfl
  have missing : x.bit Adr.DIE_BOOT_STATUS 28 = false → y.bit Adr.DIE_BOOT_STATUS 28 = x.choice.2.1.isNone := fun e => by rw [image, e, Bool.false_or]
  rw [Half.bit_congr (same _)]
  split
  · next none =>
    have up : (({ y with phase := .starting } : Half).setRegion .control .up).up .control = true := by
      by_cases inside : Region.control.bit < y.regions.length
      · rw [Half.up, Half.regionState]
        exact beq_iff_eq.2 (getAt_setAt _ _ _ inside)
      · rw [Half.up, Half.regionState]
        refine beq_iff_eq.2 (getAt_out _ _ _ ?_)
        simp only [Half.setRegion, setAt, List.length_set]
        exact Nat.not_lt.1 inside
    exact ⟨rfl, slot0, slot1, selector, missing, fun _ => up, fun e => absurd (none.symm.trans e) (by decide)⟩
  · next some_ =>
    have started := Half.runImage_starts (x := { y with phase := .starting }) partnerHas words
    have status := fun lo n (h : 20 ≤ lo) => (started.status lo n h).trans (Half.get_congr (same _) lo n)
    have bit : (({ y with phase := .starting } : Half).runImage partnerHas).bit Adr.DIE_BOOT_STATUS 28 = y.bit Adr.DIE_BOOT_STATUS 28 := by
      rw [← Half.get_beq_one, status 28 1 (by decide), Half.get_beq_one]
    refine ⟨started.phase, (status 24 4 (by decide)).trans slot0, (status 20 4 (by decide)).trans slot1,
      (congrArg BootSt.selector started.boot).trans selector, fun e => bit.trans (missing e), fun e => absurd (bit.symm.trans e) some_, fun _ r => ?_⟩
    rw [Half.up, Half.regionState, started.regions]
    cases r <;> rfl

theorem bootStatus_unmirrored (l : Loc) (at_ : locate Adr.DIE_BOOT_STATUS = some l) : l.reg.m = false := by
  have shown : (locate Adr.DIE_BOOT_STATUS).map (fun l => l.reg.m) = some false := by decide
  rw [at_] at shown
  exact Option.some.inj shown

section release
variable {h : HalfId} {s : State}

theorem resetRelease_starts (hostsel : Bool) (size : Word)
    (down : (s.half h).phase = .powerReset ∨ (s.half h).phase = .pinReset ∨ (s.half h).phase = .warmReset)
    (saved : ∀ i, ∀ p ∈ ((s.half h).boot.cfg i).words, (locate p.1).any (fun l => l.reg.m) = true) :
    Completes (.resetRelease h hostsel size) s fun t =>
      (t.half h).phase = .starting ∧ (t.half h).get Adr.DIE_BOOT_STATUS 24 4 = (s.half h).slotResult 0 ∧
      (t.half h).get Adr.DIE_BOOT_STATUS 20 4 = (s.half h).slotResult 1 ∧
      (t.half h).boot.selector = (bootChoice (s.half h).boot.selector ((s.half h).slotResult 0) ((s.half h).slotResult 1)).1 ∧
      ((s.half h).bit Adr.DIE_BOOT_STATUS 28 = false → (t.half h).bit Adr.DIE_BOOT_STATUS 28 =
        (bootChoice (s.half h).boot.selector ((s.half h).slotResult 0) ((s.half h).slotResult 1)).2.1.isNone) ∧
      ((t.half h).bit Adr.DIE_BOOT_STATUS 28 = true → (t.half h).up .control = true) ∧
      ((t.half h).bit Adr.DIE_BOOT_STATUS 28 = false → ∀ r, (t.half h).up r = true) ∧ t.pending = s.pending := by
  have apart : ∀ i, ∀ p ∈ ((s.half h).boot.cfg i).words, p.1 ≠ Adr.DIE_BOOT_STATUS := fun i p hp e => by
    obtain ⟨l, hl, m⟩ := (Option.any_eq_true _ _).1 (saved i p hp)
    exact absurd (m.symm.trans (bootStatus_unmirrored l (e ▸ hl))) (by decide)
  obtain ⟨phase, slot0, slot1, selector, image, control, all⟩ := Half.startUp_shows down hostsel
    ((s.half h.other).role == .active && (s.half h.other).bit Adr.MSG_STATUS 0) size apart
  have lines := State.lines_linesOnly (s.on h fun x => x.startUp hostsel ((s.half h.other).role == .active && (s.half h.other).bit Adr.MSG_STATUS 0) size)
  have here := lines.halves h
  rw [State.on_half] at here
  have status := here.bit (a := Adr.DIE_BOOT_STATUS) (b := 28) (by decide)
  have up := fun r : Region => congrArg (fun l => getAt l r.bit .up == RegionState.up) here.regions
  exact completes_of rfl ⟨here.phase.trans phase, (here.get (by decide)).trans slot0, (here.get (by decide)).trans slot1,
    (congrArg BootSt.selector here.boot).trans selector, fun e => status.trans (image e), fun e => (up _).trans (control (status.symm.trans e)),
    fun e r => (up r).trans (all (status.symm.trans e) r), lines.pending.trans (State.on_pending ..)⟩

end release

/-! The PCIe link (R38, R40, R41, R82, R593). -/

/-- Ring DMA of the host's rings has stopped. -/
def HostRingsOff (x : Half) : Prop := ∀ (p r : Fin 2) (tx : Bool), x.bit (ringAdr p tx r 0x18) 0 = false

/-- The registers that show whether a host ring runs. -/
def hostRingRegs : List Nat := (List.range 2).flatMap fun p => (List.range 2).flatMap fun r => [ringAdr p false r 0x18, ringAdr p true r 0x18]

/-- A half whose ring pair r of port p has stopped. -/
def Half.stopPair (x : Half) (p r : Nat) : Half := (x.putBit (ringAdr p false r 0x18) 0 false).putBit (ringAdr p true r 0x18) 0 false

theorem Half.stopPair_writes (x : Half) {p r : Nat} (hp : p < 2) (hr : r < 2) : Writes (· ∈ hostRingRegs) x (x.stopPair p r) := by
  have here : ∀ tx, ringAdr p tx r 0x18 ∈ hostRingRegs := fun tx => by
    refine List.mem_flatMap.2 ⟨p, List.mem_range.2 hp, List.mem_flatMap.2 ⟨r, List.mem_range.2 hr, ?_⟩⟩
    cases tx <;> simp
  exact ((Writes.refl _ x).putBit 0 false (here false)).putBit 0 false (here true)

theorem Half.stopPair_keeps {x : Half} {a : Nat} (off : x.bit a 0 = false) (p r : Nat) : (x.stopPair p r).bit a 0 = false := by
  have clear : ∀ (y : Half) b, y.bit a 0 = false → (y.putBit b 0 false).bit a 0 = false := fun y b hy => by
    by_cases same : a = b
    · rw [same, Half.bit_putBit_self _ _ _ _ (by decide)]
    · rw [Half.bit_putBit_ne _ _ _ _ same, hy]
  exact clear _ _ (clear _ _ off)

theorem Half.stopPair_stops (x : Half) (p r : Nat) (tx : Bool) : (x.stopPair p r).bit (ringAdr p tx r 0x18) 0 = false := by
  unfold Half.stopPair
  cases tx with
  | false => rw [Half.bit_putBit_ne _ _ _ _ (by simp only [ringAdr, reduceIte, Bool.false_eq_true]; omega), Half.bit_putBit_self _ _ _ _ (by decide)]
  | true => exact Half.bit_putBit_self _ _ _ _ (by decide)

theorem Half.stopHostRings_shows (x : Half) : HostRingsOff x.stopHostRings ∧ Writes (· ∈ hostRingRegs) x x.stopHostRings := by
  have small : ∀ i ∈ [0, 1], i < 2 := by decide
  have within : ∀ i : Fin 2, i.val ∈ [0, 1] := by decide
  refine ⟨fun p r tx => ?_, .foldl (fun p hp y => .foldl (fun r hr z => z.stopPair_writes (small p hp) (small r hr)) y) x⟩
  refine Half.each_establishes (J := fun _ => True) (P := fun y => y.bit (ringAdr p tx r 0x18) 0 = false) (c := p)
    (f := fun x p => x.each [0, 1] fun y r => y.stopPair p r) (fun _ _ _ _ => trivial) (fun y _ => ?_) (fun y off k _ => ?_) (within p) trivial
  · exact Half.each_establishes (J := fun _ => True) (P := fun y => y.bit (ringAdr p tx r 0x18) 0 = false) (c := r)
      (f := fun y r => y.stopPair p r) (fun _ _ _ _ => trivial) (fun z _ => z.stopPair_stops p r tx) (fun z off k _ => Half.stopPair_keeps off p k)
      (within r) trivial
  · exact Half.stopPair_keeps (Half.stopPair_keeps off k 0) k 1

theorem hostRings_apart {a : Nat} (low : a < 0x30000) : a ∉ hostRingRegs := by
  have high : ∀ b ∈ hostRingRegs, 0x30000 ≤ b := by decide
  exact fun m => absurd (high a m) (by omega)

/-- A half whose words at the addresses that p picks out are back at their reset values. -/
theorem Half.rd_dropWhere (x : Half) (p : Nat → Bool) (a : Nat) :
    ({ x with regs := dropWhere p x.regs } : Half).rd a = if p a then resetWord x.id a else x.rd a := by
  refine (lookAt_filter (resetWord x.id) (fun a => !p a) x.regs a).trans ?_
  cases p a <;> rfl

theorem Half.resetMsix_rd (x : Half) (a : Nat) : (Adr.HOST_MSIX 0 ≤ a ∧ a < Adr.HOST_MSIX 0 + 0x408 → x.resetMsix.rd a = resetWord x.id a) ∧
    (¬ (Adr.HOST_MSIX 0 ≤ a ∧ a < Adr.HOST_MSIX 0 + 0x408) → x.resetMsix.rd a = x.rd a) := by
  have read : x.resetMsix.rd a = _ := x.rd_dropWhere (fun a => decide (Adr.HOST_MSIX 0 ≤ a ∧ a < Adr.HOST_MSIX 0 + 0x408)) a
  rw [read]
  exact ⟨fun inside => if_pos (decide_eq_true inside), fun outside => if_neg (by rw [decide_eq_true_eq]; exact outside)⟩

section pcie
variable {h : HalfId} {s : State}

theorem functionLevelReset_resets (live : (s.half h).live = true) (selected : (s.half h).pcieSelected = true) :
    CompletesAt (.functionLevelReset h) h s fun x => x.bit Adr.HOST_LINK 16 = false ∧ x.ev.msixOut = [] ∧
      (∀ j, j < 0x102 → x.rd (Adr.HOST_MSIX j) = resetWord (s.half h).id (Adr.HOST_MSIX j)) ∧ HostRingsOff x := by
  refine completesAt_on rfl ?_
  rw [if_pos (by rw [live, selected]; rfl)]
  generalize s.half h = x
  obtain ⟨off, moves⟩ := (x.putBit Adr.HOST_LINK 16 false).stopHostRings_shows
  have link : (x.putBit Adr.HOST_LINK 16 false).stopHostRings.bit Adr.HOST_LINK 16 = false :=
    (moves.bit (hostRings_apart (by decide)) 16).trans (Half.bit_putBit_self _ _ _ _ (by decide))
  have id : (x.putBit Adr.HOST_LINK 16 false).stopHostRings.id = x.id := by rw [moves.same]; rfl
  generalize (x.putBit Adr.HOST_LINK 16 false).stopHostRings = y at off link id ⊢
  refine ⟨?_, rfl, fun j hj => ?_, fun p r tx => ?_⟩
  · rw [Half.bit_congr ((y.resetMsix_rd _).2 (by decide)), link]
  · rw [(y.resetMsix_rd _).1 (by simp only [Adr.HOST_MSIX]; omega), id]
  · rw [Half.bit_congr ((y.resetMsix_rd _).2 (by simp only [Adr.HOST_MSIX, ringAdr]; omega)), off p r tx]

theorem pcieLinkUp_shows (live : (s.half h).live = true) (selected : (s.half h).pcieSelected = true) (gen : Fin 3) (bme : Bool) :
    CompletesAt (.pcieLinkUp h gen bme) h s fun x => x.bit Adr.HOST_STATUS 0 = true ∧
      x.get Adr.HOST_LINK 0 10 = 16 + gen + 1 ∧ x.bit Adr.HOST_LINK 16 = bme ∧
      x = { (s.half h) with regs := x.regs, ev := { (s.half h).ev with linkSeen := true } } ∧
      SameRegs [Adr.HOST_STATUS, Adr.HOST_LINK] (s.half h) x := by
  refine completesAt_on rfl ?_
  rw [if_pos (by rw [live, selected]; rfl)]
  generalize s.half h = x
  have same : ∀ (y : Half) e a, ({ y with ev := e } : Half).rd a = y.rd a := fun _ _ _ => rfl
  have moves := (((Writes.refl (· ∈ [Adr.HOST_STATUS, Adr.HOST_LINK]) x).putBit (a := Adr.HOST_STATUS) 0 true (by simp)).put
    (a := Adr.HOST_LINK) 0 10 (16 + gen + 1) (by simp)).putBit (a := Adr.HOST_LINK) 16 bme (by simp)
  refine ⟨?_, ?_, ?_, ?_, fun a ha => (same _ _ a).trans (moves.keeps a ha)⟩
  · rw [Half.bit_congr (same ..), Half.bit_putBit_ne _ _ _ _ (by decide), Half.bit_put_ne _ _ _ _ _ (by decide), Half.bit_putBit_self _ _ _ _ (by decide)]
  · refine (Half.get_congr (same ..) 0 10).trans ((Half.get_put_field _ _ _ _ _ _ _ (by decide) (by decide)).trans ?_)
    rw [Half.get_put_self _ _ _ _ _ (by decide)]
    omega
  · rw [Half.bit_congr (same ..), Half.bit_putBit_self _ _ _ _ (by decide)]
  · rfl

theorem pcieLinkDown_stops (up : (s.half h).bit Adr.HOST_STATUS 0 = true) :
    CompletesAt (.pcieLinkDown h) h s fun x => x.bit Adr.HOST_STATUS 0 = false ∧ x.rd Adr.HOST_LINK = 0 ∧
      x.bit Adr.HOST_EVENT 0 = true ∧ HostRingsOff x := by
  refine completesAt_on rfl ?_
  rw [Half.pcieDown, if_pos up]
  generalize s.half h = x
  obtain ⟨off, moves⟩ := (((x.putBit Adr.HOST_STATUS 0 false).wrNat Adr.HOST_LINK 0).event Adr.HOST_EVENT 0).stopHostRings_shows
  refine ⟨?_, ?_, ?_, off⟩
  · rw [moves.bit (hostRings_apart (by decide)), Half.bit_event_ne _ _ _ (by decide), Half.bit_congr (Half.rd_wrNat_ne _ _ (by decide)),
      Half.bit_putBit_self _ _ _ _ (by decide)]
  · rw [moves.keeps _ (hostRings_apart (by decide)), Half.rd_event_ne _ _ (by decide), Half.rd_wrNat_self]
    rfl
  · rw [moves.bit (hostRings_apart (by decide)), Half.bit_event_self _ _ _ (by decide)]

theorem pcieTrainingTimeout_faults (live : (s.half h).live = true) (selected : (s.half h).pcieSelected = true)
    (down : (s.half h).bit Adr.HOST_STATUS 0 = false) :
    CompletesAt (.pcieTrainingTimeout h) h s fun x => x.get Adr.HOST_FAULT 0 16 = 1 ∧ x.bit Adr.HOST_FAULT 31 = true ∧
      x = { (s.half h) with regs := x.regs, ev := { (s.half h).ev with linkSeen := true } } ∧ SameRegs [Adr.HOST_FAULT] (s.half h) x := by
  refine completesAt_on rfl ?_
  rw [if_pos (by rw [live, selected, down]; rfl)]
  generalize s.half h = x
  have same : ∀ (y : Half) e a, ({ y with ev := e } : Half).rd a = y.rd a := fun _ _ _ => rfl
  refine ⟨?_, ?_, rfl, fun a ha => (same _ _ a).trans (Half.rd_latch_ne _ _ fun e => ha (by simp [e]))⟩
  · rw [Half.get_congr (same ..), Half.get_latch_cause]
  · rw [Half.bit_congr (same ..), Half.bit_latch_valid]

theorem pciePerstRelease_resets (live : (s.half h).live = true) (selected : (s.half h).pcieSelected = true) :
    CompletesAt (.pciePerstRelease h) h s fun x => x.bit Adr.HOST_LINK 16 = false ∧ HostRingsOff x := by
  refine completesAt_on rfl ?_
  rw [if_pos (by rw [live, selected]; rfl)]
  obtain ⟨off, moves⟩ := ((s.half h).putBit Adr.HOST_LINK 16 false).stopHostRings_shows
  exact ⟨(moves.bit (hostRings_apart (by decide)) 16).trans (Half.bit_putBit_self _ _ _ _ (by decide)), off⟩

end pcie

/-- Settles O47: power-on and pin reset, the release of a reset, the PCIe link. -/
theorem resetsAndThePcieLink : Obligations.ResetsAndThePcieLink := by
  unfold Obligations.ResetsAndThePcieLink
  refine ⟨fun h s => ⟨fun pin flash boot => hardReset_resets pin flash boot, fun hostsel size down saved => resetRelease_starts hostsel size down saved⟩,
    fun h s live selected => ⟨functionLevelReset_resets live selected, fun gen bme => pcieLinkUp_shows live selected gen bme,
      fun up => pcieLinkDown_stops up, fun down => pcieTrainingTimeout_faults live selected down, pciePerstRelease_resets live selected⟩⟩

end Sys2Proof.Machine
end

section
/-! O50: register accesses (R8, R20, R58 to R64, R80), with what a request of one access comes to. -/

namespace Sys2Proof.Machine

open Sys2Proof

/-! Requests that nothing holds up. -/

/-- A request of a half's own requester that no stalled pop holds up. -/
structure Ready (s : State) (h : HalfId) (q : Req) : Prop where
  own : q ≠ .partner
  answers : (s.half h).answers q = true
  still : s.still
  stall : ((s.half h).acc.port q).stall = none
  backlog : ((s.half h).acc.port q).backlog = []

section requests
variable {s : State} {h : HalfId} {q : Req}

theorem Asks.ready (g : Asks s h q) : Ready s h q :=
  have port := AccessSt.rest_port (State.rest_half g.rest h) q
  ⟨g.own, g.answers, State.rest_still g.rest, port.2.1, port.2.2⟩

/-- A request of one access is that access. -/
theorem Ready.issue (r : Ready s h q) (a : Nat) {w : Width} (one : w ≠ .w64) (write : Bool) (d : BitVec 64) (e : Ecc) :
    s.issue h q a w write d e = ((s.access h q ⟨a, w, write, d.truncate 32, e⟩).2).settle := by
  have single : s.request h q ⟨a, w, write, d.truncate 32, e⟩ = (s.access h q ⟨a, w, write, d.truncate 32, e⟩).2 := by
    simp [State.request, r.stall, r.backlog]
  have ask : s.issue h q a w write d e = s.ask h q a w write d e := by
    unfold State.issue
    split
    · exact absurd rfl r.own
    · rfl
  rw [ask]
  unfold State.ask
  simp only [r.answers, Bool.not_true, Bool.false_eq_true, if_false, State.settle_still r.still]
  cases w
  case w64 => exact absurd rfl one
  all_goals exact congrArg State.settle single

/-- A permitted access that changes its own half. -/
theorem accepted_access {c : Instr} {a : Nat} {w : Width} {write : Bool} {d : BitVec 64} {e : Ecc} {v : Word} {f : Half → Half} {P : Half → Prop}
    (run : exec c s = .next (s.issue h q a w write d e)) (one : w ≠ .w64) (r : Ready s h q) (lt : a < 0x10000000)
    (acts : s.local_ h q ⟨a, w, write, d.truncate 32, e⟩ = (.ok v, s.on h f)) (still : (f (s.half h)).acc.still)
    (shows_ : P ((f (s.half h)).complete q ⟨v, true⟩)) : Accepted c h q s P := by
  have ends : s.issue h q a w write d e = s.on h fun y => (f y).complete q ⟨v, true⟩ := by
    rw [r.issue a one, State.access]
    simp only [if_neg (show ¬ 0x10000000 ≤ a by omega), acts, State.on_on]
    exact State.settle_still (State.still_of_on r.still (Half.complete_still q _ still))
  have shared := State.shared_ext (State.on_shared s h fun y => (f y).complete q ⟨v, true⟩)
  refine ⟨_, run.trans (congrArg _ ends), ?_, ?_, State.on_other .., shared.2, shared.1⟩
  · rw [State.on_half, Half.complete_resp]
  · rw [State.on_half]
    exact shows_

/-- A bus error that is captured and completes its access (R80). -/
def Half.denied (x : Half) (q : Req) (a : Nat) (w : Width) (write : Bool) (cause : Nat) : Half :=
  (x.busError q a w write cause).complete q ⟨0, false⟩

theorem Half.busError_writes (x : Half) (q : Req) (a : Nat) (w : Width) (write : Bool) (cause : Nat) :
    Writes (· ∈ [Adr.DIE_BUSERR_INFO, Adr.DIE_BUSERR_ADDR, Adr.DIE_EVENT]) x (x.busError q a w write cause) := by
  unfold Half.busError
  simp only
  split
  · exact ((Writes.refl _ x).count _ _ _ (by simp)).event _ (by simp)
  · exact (((Writes.refl _ x).wrNat _ (by simp)).wrNat _ (by simp)).event _ (by simp)

theorem Half.busError_shows (x : Half) (q : Req) (a : Nat) (w : Width) (write : Bool) {cause : Nat} (small : cause < 16) :
    (x.busError q a w write cause).bit Adr.DIE_EVENT 0 = true ∧
      (x.bit Adr.DIE_BUSERR_INFO 31 = false → (x.busError q a w write cause).bit Adr.DIE_BUSERR_INFO 31 = true ∧
        (x.busError q a w write cause).get Adr.DIE_BUSERR_INFO 8 4 = cause ∧
        (x.busError q a w write cause).rd Adr.DIE_BUSERR_ADDR = BitVec.ofNat 32 a) ∧
      SameRegs [Adr.DIE_BUSERR_INFO, Adr.DIE_BUSERR_ADDR, Adr.DIE_EVENT] x (x.busError q a w write cause) ∧
      (x.busError q a w write cause).acc = x.acc := by
  have kind : q.code < 16 ∧ Width.code w < 4 ∧ ofBool write < 2 := by cases q <;> cases w <;> cases write <;> decide
  have writes := x.busError_writes q a w write cause
  refine ⟨Half.bit_putBit_self _ _ _ _ (by decide), fun first => ?_, writes.sameRegs, by rw [writes.same]⟩
  simp only [Half.busError, first, Bool.false_eq_true, if_false]
  refine ⟨?_, ?_, ?_⟩
  · rw [Half.bit_congr (Half.rd_event_ne _ _ (by decide)), Half.bit, Half.get, Half.rd_wrNat_self, getBits_ofNat]
    have : (0x80000000 + 0x1000 * q.code + 0x100 * cause + 2 * Width.code w + ofBool write) % 2 ^ 32 / 2 ^ 31 % 2 ^ 1 = 1 := by omega
    simpa using this
  · rw [Half.get_congr (Half.rd_event_ne _ _ (by decide)), Half.get, Half.rd_wrNat_self, getBits_ofNat]
    omega
  · rw [Half.rd_event_ne _ _ (by decide), Half.rd_wrNat_ne _ _ (by decide), Half.rd_wrNat_self]

/-- A request that comes to a captured bus error and its completion. -/
theorem denied_of {c : Instr} {a cause : Nat} {w : Width} {write : Bool}
    (run : exec c s = .next (s.on h fun y => y.denied q a w write cause)) (small : cause < 16) : Denied c h q a cause s := by
  obtain ⟨event, first, regs, -⟩ := (s.half h).busError_shows q a w write small
  have shared := State.shared_ext (State.on_shared s h fun y => y.denied q a w write cause)
  refine ⟨_, run, ?_, ?_, ?_, ?_, State.on_other .., shared.2, shared.1⟩
  all_goals rw [State.on_half]
  · exact congrArg Resp.ok (Half.complete_resp ..)
  · exact event
  · exact first
  · exact regs

/-- A refused access. -/
theorem denied_access {c : Instr} {a cause : Nat} {w : Width} {write : Bool} {d : BitVec 64} {e : Ecc}
    (run : exec c s = .next (s.issue h q a w write d e)) (one : w ≠ .w64) (r : Ready s h q)
    (acts : s.access h q ⟨a, w, write, d.truncate 32, e⟩ = (.err, s.on h fun y => y.denied q a w write cause)) (small : cause < 16) :
    Denied c h q a cause s := by
  refine denied_of (a := a) (w := w) (write := write) (run.trans (congrArg _ ?_)) small
  rw [r.issue a one, acts]
  refine State.settle_still (State.still_of_on r.still (Half.complete_still q _ ?_))
  rw [((s.half h).busError_shows q a w write small).2.2.2]
  exact State.still_half r.still h

/-! Where an access leads (R59 to R61). -/

theorem Half.refuses_takes {y : Half} {a : Nat} {l : Loc} (may : q ≠ .partner ∨ l.reg.attr ≠ .pw) (hl : locate a = some l)
    (takes : y.takes a = true) : y.refuses q l true = none := by
  simp only [Half.takes, hl, Bool.and_eq_true, Option.isNone_iff_eq_none] at takes
  have no : ¬ (q = .partner ∧ l.reg.attr = .pw) := fun both => may.elim (· both.1) (· both.2)
  simp [Half.refuses, no, takes.1, takes.2]

theorem Half.refuses_reads {y : Half} {a : Nat} {l : Loc} (may : q ≠ .partner ∨ l.reg.attr ≠ .pw) (hl : locate a = some l)
    (reads : y.reads a = true) : y.refuses q l false = none := by
  simp only [Half.reads, hl] at reads
  have no : ¬ (q = .partner ∧ l.reg.attr = .pw) := fun both => may.elim (· both.1) (· both.2)
  simp [Half.refuses, no, reads]

theorem Half.resolve_word {y : Half} {a : Nat} {l : Loc} {write : Bool} {v : Word} {e : Ecc} (al : a % 4 = 0) (hl : locate a = some l)
    (pass : y.refuses q l write = none) : y.resolve q ⟨a, .w32, write, v, e⟩ = .ok l := by
  simp [Half.resolve, misaligned, al, show a / 4 * 4 = a by omega, hl, narrowWidth, pass]

theorem State.direct_write {a : Nat} {l : Loc} {v : Word} {e : Ecc} (al : a % 4 = 0) (hl : locate a = some l)
    (pass : (s.half h).refuses q l true = none) : s.direct h q ⟨a, .w32, true, v, e⟩ = (.ok 0, s.writeWord h q l a v) := by
  simp only [State.direct, Half.resolve_word al hl pass, if_true, show a / 4 * 4 = a by omega]

theorem State.direct_read {a : Nat} {l : Loc} {v : Word} {e : Ecc} (al : a % 4 = 0) (hl : locate a = some l)
    (pass : (s.half h).refuses q l false = none) (copies : (s.half h).acc.copies = []) :
    s.direct h q ⟨a, .w32, false, v, e⟩ = s.readWord h q l a ⟨a, .w32, false, v, e⟩ := by
  have same : s.setHalf h (s.half h) = s := by cases h <;> rfl
  simp only [State.direct, Half.resolve_word al hl pass, Bool.false_eq_true, if_false, show a / 4 * 4 = a by omega,
    Half.voted_none a copies, same, ite_self]

theorem State.local_direct {x : Access} (lt : x.addr < 0x8000000) (keeps : (s.half h).dropHeldLo q x = s.half h) :
    s.local_ h q x = s.direct h q x := by
  have same : (s.on h fun y => y.dropHeldLo q x) = s := State.on_eq_self keeps
  simp only [State.local_, same, if_neg (show ¬ 0x8000000 ≤ x.addr by omega)]

theorem State.access_refused {x : Access} {cause : Nat} (lt : x.addr < 0x8000000) (rest : (s.half h).acc.rest)
    (refused : (s.half h).resolve q x = .error cause) (other : cause ≠ 5) :
    s.access h q x = (.err, s.on h fun y => y.denied q x.addr x.width x.write cause) := by
  have direct : s.direct h q x = (.err, s.on h fun y => y.busError q x.addr x.width x.write cause) := by
    simp only [State.direct, refused, Half.busFault, other, if_false]
  rw [State.access, if_neg (by omega), State.local_direct lt (Half.dropHeldLo_rest q x rest), direct]
  simp only [State.on_on]
  rfl

/-! What an accepted access does (R58, R63, R64). -/

/-- From x to y: the word at a takes v. -/
structure WordSet (a : Nat) (v : Word) (x y : Half) : Prop where
  self : y.rd a = v
  others : SameRegs [a] x y
  same : y = { x with regs := y.regs, alarm := y.alarm }

namespace WordSet
variable {a : Nat} {v : Word} {x y : Half}

theorem acc (w : WordSet a v x y) : y.acc = x.acc := by rw [w.same]
theorem held (w : WordSet a v x y) : y.held = x.held := by rw [w.same]

end WordSet

theorem Half.writePlain_sets (x : Half) {a : Nat} (v : Word) (other : ¬ (Adr.HOST_MSIX 0 ≤ a ∧ a < Adr.HOST_MSIX 0 + 0x400)) :
    WordSet a v x (x.writePlain a v) := by
  unfold Half.writePlain
  rw [if_neg other]
  split
  · exact ⟨Half.rd_wr_self x.limitBuckets a v, fun b hb => Half.rd_wr_ne x.limitBuckets v (by simpa using hb), rfl⟩
  · exact ⟨Half.rd_wr_self .., fun b hb => Half.rd_wr_ne _ _ (by simpa using hb), rfl⟩

/-- A plain word holds what is written to it. -/
theorem State.putReg_plain {l : Loc} {a : Nat} (plain : l.plain a) (v : Word) : s.putReg h q l a v = s.on h fun x => x.writePlain a v := by
  obtain ⟨hook, imm, -, -⟩ := plain
  rw [State.putReg_imm (by rw [hook]; rfl) imm]
  simp only [Half.actEarly, Half.actLate, hook, Option.getD_none]

theorem Loc.plain.sets {l : Loc} {a : Nat} (plain : l.plain a) (x : Half) (v : Word) : WordSet a v x (x.writePlain a v) :=
  x.writePlain_sets v plain.2.2.2

/-- A write of a word that is no slot discards no pending value where there is none. -/
theorem State.writeWord_store {l : Loc} {a : Nat} {v : Word} (slot : l.reg.attr ≠ .pw) (pending : (s.half h).acc.pw = []) :
    s.writeWord h q l a v = s.storeWord h q l a v := by
  rw [State.writeWord]
  simp only [ne_eq, slot, not_false_eq_true, if_true]
  rw [State.on_eq_self (Half.intervene_none q _ _ pending)]

theorem State.storeWord_single {l : Loc} {a : Nat} {v : Word} (attr : l.reg.attr = .rw ∨ l.reg.attr = .wo) (single : l.wideAs = .single)
    (copies : (s.half h).acc.copies = []) : s.storeWord h q l a v = s.putReg h q l a (l.masked v) := by
  unfold State.storeWord
  rw [State.on_eq_self (Half.joinCopies_none a copies)]
  rcases attr with e | e <;> rw [e, single]

theorem State.storeWord_readOnly {l : Loc} {a : Nat} {v : Word} (attr : l.reg.attr = .ro ∨ l.reg.attr = .rc)
    (copies : (s.half h).acc.copies = []) : s.storeWord h q l a v = s := by
  unfold State.storeWord
  rw [State.on_eq_self (Half.joinCopies_none a copies)]
  rcases attr with e | e <;> rw [e]

theorem State.storeWord_lo {l : Loc} {a : Nat} {v : Word} (attr : l.reg.attr = .rw ∨ l.reg.attr = .wo) (lo : l.wideAs = .lo)
    (copies : (s.half h).acc.copies = []) :
    s.storeWord h q l a v = s.on h fun x => x.onPort q fun p => { p with heldLo := some (a, v) } := by
  unfold State.storeWord
  rw [State.on_eq_self (Half.joinCopies_none a copies)]
  rcases attr with e | e <;> rw [e, lo]

theorem State.storeWord_hi {l : Loc} {a : Nat} {v : Word} (attr : l.reg.attr = .rw ∨ l.reg.attr = .wo) (hi : l.wideAs = .hi)
    (copies : (s.half h).acc.copies = []) (none_ : ((s.half h).acc.port q).heldLo = none) :
    s.storeWord h q l a v = s.putReg h q l a (l.masked v) := by
  unfold State.storeWord
  rw [State.on_eq_self (Half.joinCopies_none a copies)]
  rcases attr with e | e <;> rw [e, hi] <;> simp only [none_]

/-- A write of HI with the LO before it held: the pair (R64). -/
theorem State.storeWord_pair {l : Loc} {a : Nat} {v lo : Word} (attr : l.reg.attr = .rw ∨ l.reg.attr = .wo) (hi : l.wideAs = .hi)
    (copies : (s.half h).acc.copies = []) (le : 4 ≤ a) (held : ((s.half h).acc.port q).heldLo = some (a - 4, lo)) :
    s.storeWord h q l a v = (s.on h fun x => x.onPort q fun p => { p with heldLo := none }).writePair h q l a lo v := by
  unfold State.storeWord
  rw [State.on_eq_self (Half.joinCopies_none a copies)]
  rcases attr with e | e <;> rw [e, hi] <;> simp only [held, show a - 4 + 4 = a by omega, if_true]

/-! The accesses of R8, R58 and R61 to R64. -/

section accesses
variable {a : Nat} {l : Loc}

/-- A permitted 32-bit write of a word that is no slot. -/
theorem accepted_store {c : Instr} {d : BitVec 64} {f : Half → Half} {P : Half → Prop} (run : exec c s = .next (s.issue h q a .w32 true d .ok))
    (g : Grants s h q a) (al : a % 4 = 0) (lt : a < 0x8000000) (hl : locate a = some l) (slot : l.reg.attr ≠ .pw)
    (acts : s.storeWord h q l a (d.truncate 32) = s.on h f) (still : (f (s.half h)).acc.still)
    (shows_ : P ((f (s.half h)).complete q ⟨0, true⟩)) : Accepted c h q s P := by
  have rest := State.rest_half g.asks.rest h
  refine accepted_access (f := f) run (by decide) g.asks.ready (by omega) ?_ still shows_
  rw [State.local_direct lt (Half.dropHeldLo_rest q _ rest), State.direct_write al hl (Half.refuses_takes (Or.inl g.asks.own) hl g.takes),
    State.writeWord_store slot rest.1, acts]

/-- A permitted 32-bit read. -/
theorem accepted_load {c : Instr} {e : Ecc} {v : Word} {f : Half → Half} {P : Half → Prop} (run : exec c s = .next (s.issue h q a .w32 false 0 e))
    (g : Asks s h q) (al : a % 4 = 0) (lt : a < 0x8000000) (hl : locate a = some l) (reads : (s.half h).reads a = true)
    (acts : s.readWord h q l a ⟨a, .w32, false, 0, e⟩ = (.ok v, s.on h f)) (still : (f (s.half h)).acc.still)
    (shows_ : P ((f (s.half h)).complete q ⟨v, true⟩)) : Accepted c h q s P := by
  have rest := State.rest_half g.rest h
  refine accepted_access (f := f) run (by decide) g.ready (by omega) ?_ still shows_
  rw [State.local_direct lt (Half.dropHeldLo_rest q _ rest)]
  exact (State.direct_read al hl (Half.refuses_reads (Or.inl g.own) hl reads) rest.2.1).trans acts

theorem registerWrite_plain (g : Grants s h q a) (al : a % 4 = 0) (lt : a < 0x8000000) (hl : locate a = some l) (single : l.wideAs = .single)
    (plain : l.plain a) (attr : l.reg.attr = .rw) {c : Instr} {d : BitVec 64} (run : exec c s = .next (s.issue h q a .w32 true d .ok)) :
    Accepted c h q s fun x => x.rd a = l.masked (d.truncate 32) ∧ SameRegs [a] (s.half h) x := by
  have set := plain.sets (s.half h) (l.masked (d.truncate 32))
  have rest := State.rest_half g.asks.rest h
  exact accepted_store run g al lt hl (by rw [attr]; decide)
    ((State.storeWord_single (.inl attr) single rest.2.1).trans (State.putReg_plain plain _)) (set.acc ▸ rest.still) ⟨set.self, set.others⟩

theorem registerWrite_held (g : Grants s h q a) (al : a % 4 = 0) (lt : a < 0x8000000) (hl : locate a = some l) (single : l.wideAs = .single)
    (held : l.reg.cls = .held) (hook : l.reg.hook = .none) (attr : l.reg.attr = .rw) {c : Instr} {d : BitVec 64}
    (run : exec c s = .next (s.issue h q a .w32 true d .ok)) :
    Accepted c h q s fun x => x.staged a = l.masked (d.truncate 32) ∧ SameRegs [] (s.half h) x := by
  have rest := State.rest_half g.asks.rest h
  refine accepted_store (f := fun x => x.stage a (l.masked (d.truncate 32))) run g al lt hl (by rw [attr]; decide) ?_ rest.still
    ⟨(Half.staged_congr (x := (s.half h).stage a (l.masked (d.truncate 32))) rfl rfl).trans (Half.staged_stage ..), fun _ _ => rfl⟩
  rw [State.storeWord_single (.inl attr) single rest.2.1, State.putReg_held (by rw [hook]; rfl) held]
  simp only [Half.holdValue, hook]

theorem registerWrite_readOnly (g : Grants s h q a) (al : a % 4 = 0) (lt : a < 0x8000000) (hl : locate a = some l)
    (attr : l.reg.attr = .ro ∨ l.reg.attr = .rc) {c : Instr} {d : BitVec 64} (run : exec c s = .next (s.issue h q a .w32 true d .ok)) :
    Accepted c h q s fun x => x.regs = (s.half h).regs ∧ x.held = (s.half h).held := by
  have rest := State.rest_half g.asks.rest h
  exact accepted_store (f := fun x => x) run g al lt hl (by rcases attr with e | e <;> rw [e] <;> decide)
    ((State.storeWord_readOnly attr rest.2.1).trans (State.on_id s h).symm) rest.still ⟨rfl, rfl⟩

/-- What a read does at a word whose read has no action of its own. -/
theorem State.readWord_none {v : Word} {e : Ecc} (hook : l.reg.hook = .none) : s.readWord h q l a ⟨a, .w32, false, v, e⟩ =
    (match l.wideAs with
      | .lo => (.ok (s.readLo h q l a).1, (s.readLo h q l a).2)
      | .hi => (.ok (s.readHi h q l a).1, (s.readHi h q l a).2)
      | .single => (.ok (s.shown h l a), s.on h fun y => y.clearRead l a 0xFFFFFFFF)) := by
  unfold State.readWord
  rw [hook]
  cases l.wideAs <;> rfl

theorem rcRead_clears (g : Asks s h q) (reads : (s.half h).reads a = true) (al : a % 4 = 0) (lt : a < 0x8000000) (hl : locate a = some l)
    (single : l.wideAs = .single) (hook : l.reg.hook = .none) (attr : l.reg.attr = .rc) {c : Instr}
    (run : exec c s = .next (s.issue h q a .w32 false 0 .ok)) :
    Accepted c h q s fun x => (x.acc.port q).resp.data = s.shown h l a ∧ x.rd a = 0 ∧ SameRegs [a] (s.half h) x := by
  have clear : ∀ x : Half, x.clearRead l a 0xFFFFFFFF = x.wrNat a 0 := fun x => by
    rw [Half.clearRead, if_pos attr]
    exact congrArg (x.wrNat a) (Nat.and_zero _)
  refine accepted_load (f := fun x => x.wrNat a 0) run g al lt hl reads ?_ (State.rest_half g.rest h).still
    ⟨by rw [Half.complete_resp], Half.rd_wrNat_self (s.half h) a 0, fun b hb => Half.rd_wrNat_ne (s.half h) 0 (by simpa using hb)⟩
  rw [State.readWord_none hook, single]
  simp only [clear]

/-- The half after a read of a LO word: HI latched, and a counter that clears on read cleared (R63). -/
def Half.latchHi (x : Half) (q : Req) (l : Loc) (a : Nat) (hi : Word) : Half :=
  let y := x.onPort q fun p => { p with shadow := some (a, hi) }
  if l.reg.attr = .rc then (y.wr a 0).wr (a + 4) 0 else y

theorem Half.latchHi_shows (x : Half) (q : Req) (l : Loc) (a : Nat) (hi : Word) :
    ((x.latchHi q l a hi).acc.port q).shadow = some (a, hi) ∧ (x.acc.still → (x.latchHi q l a hi).acc.still) ∧
      (l.reg.attr = .rc → (x.latchHi q l a hi).rd a = 0 ∧ (x.latchHi q l a hi).rd (a + 4) = 0) ∧ SameRegs [a, a + 4] x (x.latchHi q l a hi) := by
  have port : ((x.onPort q fun p => { p with shadow := some (a, hi) }).acc.port q).shadow = some (a, hi) := by cases q <;> rfl
  have quiet : x.acc.still → (x.onPort q fun p => { p with shadow := some (a, hi) }).acc.still := fun hs => by cases q <;> exact hs
  have regs : SameRegs [a, a + 4] x (x.onPort q fun p => { p with shadow := some (a, hi) }) := fun _ _ => rfl
  unfold Half.latchHi
  generalize x.onPort q (fun p => { p with shadow := some (a, hi) }) = y at port quiet regs ⊢
  simp only
  split
  next rc =>
    refine ⟨port, quiet, fun _ => ⟨?_, Half.rd_wr_self ..⟩, fun b hb => ?_⟩
    · rw [Half.rd_wr_ne _ _ (by omega), Half.rd_wr_self]
    · simp only [List.mem_cons, List.not_mem_nil, or_false, not_or] at hb
      rw [Half.rd_wr_ne _ _ hb.2, Half.rd_wr_ne _ _ hb.1, regs b (by simp [hb])]
  next other => exact ⟨port, quiet, fun rc => absurd rc other, regs⟩

theorem Half.complete_shadow (x : Half) (q : Req) (r : Resp) : ((x.complete q r).acc.port q).shadow = (x.acc.port q).shadow := by cases q <;> rfl

theorem Half.complete_heldLo (x : Half) (q : Req) (r : Resp) : ((x.complete q r).acc.port q).heldLo = (x.acc.port q).heldLo := by cases q <;> rfl

theorem shadowLoRead_latches (g : Asks s h q) (reads : (s.half h).reads a = true) (al : a % 4 = 0) (lt : a < 0x8000000) (hl : locate a = some l)
    (lo : l.wideAs = .lo) (hook : l.reg.hook = .none) {c : Instr} (run : exec c s = .next (s.issue h q a .w32 false 0 .ok)) :
    Accepted c h q s fun x => (x.acc.port q).resp.data = s.shown h l a ∧
      (∀ l2, locate (a + 4) = some l2 → (x.acc.port q).shadow = some (a, s.shown h l2 (a + 4))) ∧
      (l.reg.attr = .rc → x.rd a = 0 ∧ x.rd (a + 4) = 0) ∧ SameRegs [a, a + 4] (s.half h) x := by
  obtain ⟨hi, is⟩ : ∃ hi, (match locate (a + 4) with | some l2 => s.shown h l2 (a + 4) | none => 0) = hi := ⟨_, rfl⟩
  have read : s.readLo h q l a = (s.shown h l a, s.on h fun x => x.latchHi q l a hi) := by
    rw [← is]
    rfl
  obtain ⟨shadow, still, cleared, regs⟩ := (s.half h).latchHi_shows q l a hi
  refine accepted_load (f := fun x => x.latchHi q l a hi) run g al lt hl reads ?_ (still (State.rest_half g.rest h).still)
    ⟨by rw [Half.complete_resp], fun l2 hl2 => ?_, cleared, regs⟩
  · rw [State.readWord_none hook, lo]
    simp only [read]
  · rw [Half.complete_shadow, shadow, ← is, hl2]

theorem heldLoWrite_waits {d : Word} (g : Grants s h q a) (al : a % 4 = 0) (lt : a < 0x8000000) (hl : locate a = some l) (lo : l.wideAs = .lo)
    (attr : l.reg.attr = .rw ∨ l.reg.attr = .wo) {c : Instr} (run : exec c s = .next (s.write h q a d)) :
    Accepted c h q s fun x => (x.acc.port q).heldLo = some (a, d) ∧ x.regs = (s.half h).regs ∧ x.held = (s.half h).held := by
  have rest := State.rest_half g.asks.rest h
  refine accepted_store (d := d.setWidth 64) (f := fun x => x.onPort q fun p => { p with heldLo := some (a, d) }) (run.trans ?_) g al lt hl
    (by rcases attr with e | e <;> rw [e] <;> decide) ?_ (by cases q <;> exact rest.still) ⟨?_, rfl, rfl⟩
  · rfl
  · rw [State.setWidth_word, State.storeWord_lo attr lo rest.2.1]
  · rw [Half.complete_heldLo]
    cases q <;> rfl

theorem hiWrite_alone {d : Word} (g : Grants s h q a) (al : a % 4 = 0) (lt : a < 0x8000000) (hl : locate a = some l) (hi : l.wideAs = .hi)
    (plain : l.plain a) (attr : l.reg.attr = .rw) {c : Instr} (run : exec c s = .next (s.write h q a d)) :
    Accepted c h q s fun x => x.rd a = l.masked d ∧ SameRegs [a] (s.half h) x := by
  have set := plain.sets (s.half h) (l.masked d)
  have rest := State.rest_half g.asks.rest h
  refine accepted_store (d := d.setWidth 64) (f := fun x => x.writePlain a (l.masked d)) (run.trans ?_) g al lt hl (by rw [attr]; decide) ?_
    (set.acc ▸ rest.still) ⟨set.self, set.others⟩
  · rfl
  · rw [State.setWidth_word, State.storeWord_hi (.inl attr) hi rest.2.1 (AccessSt.rest_port rest q).1, State.putReg_plain plain]

/-- A held LO keeps a fabric at rest but for itself. -/
theorem Ready.onHeldLo (r : Ready s h q) (t : Option (Nat × Word)) : Ready (s.on h fun x => x.onPort q fun p => { p with heldLo := t }) h q := by
  have port : ((s.on h fun x => x.onPort q fun p => { p with heldLo := t }).half h).acc.port q = { (s.half h).acc.port q with heldLo := t } := by
    rw [State.on_half]
    exact AccessSt.port_setPort ..
  refine ⟨r.own, ?_, State.still_of_on r.still ?_, ?_, ?_⟩
  · rw [State.on_half]
    exact r.answers
  · have still := State.still_half r.still h
    cases q <;> exact still
  · rw [port]
    exact r.stall
  · rw [port]
    exact r.backlog

/-- The half after both words of a pair are written as one (R64). -/
def Half.pairSet (x : Half) (q : Req) (a : Nat) (lo hi : Word) : Half :=
  ((x.onPort q fun p => { p with heldLo := none }).writePlain (a - 4) lo).writePlain a hi

theorem Half.pairSet_shows (x : Half) (q : Req) {l l0 : Loc} (le : 4 ≤ a) (plain : l.plain a) (plain0 : l0.plain (a - 4)) (lo hi : Word) :
    (x.pairSet q a lo hi).rd (a - 4) = lo ∧ (x.pairSet q a lo hi).rd a = hi ∧ ((x.pairSet q a lo hi).acc.port q).heldLo = none ∧
      SameRegs [a - 4, a] x (x.pairSet q a lo hi) ∧ (x.acc.still → (x.pairSet q a lo hi).acc.still) := by
  have first := plain0.sets (x.onPort q fun p => { p with heldLo := none }) lo
  have second := plain.sets ((x.onPort q fun p => { p with heldLo := none }).writePlain (a - 4) lo) hi
  have acc : (x.pairSet q a lo hi).acc = (x.onPort q fun p => { p with heldLo := none }).acc := second.acc.trans first.acc
  refine ⟨(second.others _ (by simp only [List.mem_singleton]; omega)).trans first.self, second.self, ?_, fun b hb => ?_, fun still => ?_⟩
  · rw [acc]
    exact congrArg Port.heldLo (AccessSt.port_setPort ..)
  · simp only [List.mem_cons, List.not_mem_nil, or_false, not_or] at hb
    exact (second.others b (by simpa using hb.2)).trans (first.others b (by simpa using hb.1))
  · rw [acc]
    cases q <;> exact still

theorem State.writePair_plain {l0 : Loc} {lo d : Word} (plain : l.plain a) (plain0 : l0.plain (a - 4)) (hl0 : locate (a - 4) = some l0) :
    (s.on h fun x => x.onPort q fun p => { p with heldLo := none }).writePair h q l a lo d =
      s.on h fun x => x.pairSet q a (l0.masked lo) (l.masked d) := by
  unfold State.writePair
  rw [plain.1]
  simp only [hl0, State.putReg_plain plain0, State.putReg_plain plain, State.on_on]
  rfl

/-- A held LO outlives a write of the HI after it. -/
theorem Half.dropHeldLo_keeps {y : Half} {x : Access} (fits : ∀ t, (y.acc.port q).heldLo = some t → t.1 + 4 = x.addr) : y.dropHeldLo q x = y := by
  have kept : (y.acc.port q).heldLo.filter (fun t => t.1 + 4 == x.addr) = (y.acc.port q).heldLo := by
    cases held : (y.acc.port q).heldLo with
    | none => rfl
    | some t => simp [Option.filter, fits t held]
  have same : (fun p : Port => { p with heldLo := p.heldLo.filter fun t => t.1 + 4 == x.addr }) (y.acc.port q) = y.acc.port q :=
    congrArg (fun t => { y.acc.port q with heldLo := t }) kept
  unfold Half.dropHeldLo
  split
  · exact (congrArg (fun p => ({ y with acc := y.acc.setPort q p } : Half)) same).trans (by rw [AccessSt.setPort_port])
  · rfl

/-- A write of HI with the LO before it held is the write of the pair (R64). -/
theorem accepted_afterLo {lo d : Word} {f : Half → Half} {P : Half → Prop} (g : Grants s h q a) (le : 4 ≤ a) (al : a % 4 = 0) (lt : a < 0x8000000)
    (hl : locate a = some l) (hi : l.wideAs = .hi) (attr : l.reg.attr = .rw ∨ l.reg.attr = .wo) {c : Instr} {s0 : State}
    (pending : s0 = s.on h fun x => x.onPort q fun p => { p with heldLo := some (a - 4, lo) }) (run : exec c s0 = .next (s0.write h q a d))
    (acts : ∀ t : State, (t.on h fun x => x.onPort q fun p => { p with heldLo := none }).writePair h q l a lo d = t.on h f)
    (still : ∀ x : Half, x.acc.still → (f x).acc.still)
    (shows_ : P ((f ((s.half h).onPort q fun p => { p with heldLo := some (a - 4, lo) })).complete q ⟨0, true⟩)) : Accepted c h q s0 P := by
  have ready := g.asks.ready.onHeldLo (some (a - 4, lo))
  rw [← pending] at ready
  have rest := State.rest_half g.asks.rest h
  have own : s0.half h = (s.half h).onPort q fun p => { p with heldLo := some (a - 4, lo) } := by rw [pending, State.on_half]
  have held : ((s0.half h).acc.port q).heldLo = some (a - 4, lo) := by
    rw [own]
    exact congrArg Port.heldLo (AccessSt.port_setPort ..)
  have pw : (s0.half h).acc.pw = [] := by rw [own]; cases q <;> exact rest.1
  have copies : (s0.half h).acc.copies = [] := by rw [own]; cases q <;> exact rest.2.1
  have takes : (s0.half h).takes a = true := by rw [own]; exact g.takes
  refine accepted_access (d := d.setWidth 64) (v := 0) (f := f) (run.trans rfl) (by decide) ready (by omega) ?_
    (still _ (State.still_half ready.still h)) (own ▸ shows_)
  rw [State.local_direct lt (Half.dropHeldLo_keeps fun t ht => by
      rw [held] at ht
      cases ht
      exact Nat.sub_add_cancel le),
    State.direct_write al hl (Half.refuses_takes (Or.inl g.asks.own) hl takes),
    State.writeWord_store (by rcases attr with e | e <;> rw [e] <;> decide) pw, State.setWidth_word,
    State.storeWord_pair attr hi copies le held, acts]

theorem hiWrite_pair {l0 : Loc} {lo d : Word} (g : Grants s h q a) (le : 4 ≤ a) (al : a % 4 = 0) (lt : a < 0x8000000) (hl : locate a = some l)
    (hl0 : locate (a - 4) = some l0) (hi : l.wideAs = .hi) (plain : l.plain a) (plain0 : l0.plain (a - 4)) (attr : l.reg.attr = .rw) {c : Instr}
    {s0 : State} (pending : s0 = s.on h fun x => x.onPort q fun p => { p with heldLo := some (a - 4, lo) })
    (run : exec c s0 = .next (s0.write h q a d)) :
    Accepted c h q s0 fun x => x.rd (a - 4) = l0.masked lo ∧ x.rd a = l.masked d ∧ (x.acc.port q).heldLo = none ∧
      SameRegs [a - 4, a] (s.half h) x := by
  obtain ⟨showsLo, showsHi, none_, others, -⟩ :=
    ((s.half h).onPort q fun p => { p with heldLo := some (a - 4, lo) }).pairSet_shows q le plain plain0 (l0.masked lo) (l.masked d)
  exact accepted_afterLo g le al lt hl hi (.inl attr) pending run (fun t => State.writePair_plain plain plain0 hl0)
    (fun x => (x.pairSet_shows q le plain plain0 (l0.masked lo) (l.masked d)).2.2.2.2)
    ⟨showsLo, showsHi, by rw [Half.complete_heldLo, none_], others⟩

/-- A refused access of a register. -/
theorem denied_register {c : Instr} {cause : Nat} {w : Width} {write : Bool} {d : BitVec 64} (g : Asks s h q) (lt : a < 0x8000000)
    (run : exec c s = .next (s.issue h q a w write d .ok)) (one : w ≠ .w64) (small : cause < 16) (other : cause ≠ 5)
    (refused : ∀ v, (s.half h).resolve q ⟨a, w, write, v, .ok⟩ = .error cause) : Denied c h q a cause s :=
  denied_access run one g.ready (State.access_refused lt (State.rest_half g.rest h) (refused _) other) small

/-- A 32-bit write of an implemented word resolves as the half refuses it. -/
theorem Half.resolve_refused {y : Half} {v : Word} {e : Ecc} {cause : Nat} (al : a % 4 = 0) (hl : locate a = some l)
    (refused : y.refuses q l true = some cause) : y.resolve q ⟨a, .w32, true, v, e⟩ = .error cause := by
  simp [Half.resolve, misaligned, al, show a / 4 * 4 = a by omega, hl, narrowWidth, refused]

theorem Half.refuses_own {y : Half} (own : q ≠ .partner) (write : Bool) :
    y.refuses q l write = if !y.up l.region then some 0xC else if write then y.writeRefused l else none := by
  rw [Half.refuses, if_neg fun both => own both.1]

theorem accesses_denied (g : Asks s h q) (addr : Word) (ha : addr.toNat = a) (lt : a < 0x8000000) :
    (∀ d, a % 4 ≠ 0 → Denied (.registerWrite h q addr .w32 d) h q a 4 s) ∧
      (∀ d, a % 4 = 0 → locate a = none → Denied (.registerWrite h q addr .w32 d) h q a 1 s) ∧
      (∀ l d, locate (a / 4 * 4) = some l → Denied (.registerWrite h q addr .w8 d) h q a 3 s) ∧
      (∀ l, locate (a / 4 * 4) = some l → l.sideEffect = true → Denied (.rcRead h q addr .w8) h q a 2 s) ∧
      (∀ l d, a % 4 = 0 → locate a = some l → (s.half h).up l.region = false → Denied (.registerWrite h q addr .w32 d) h q a 0xC s) ∧
      (∀ l d, a % 4 = 0 → locate a = some l → (s.half h).up l.region = true → (s.half h).sent.forceMgmt = false → l.reg.m = true →
        (s.half h).role = .standby ∨ (s.half h).role = .syncing → Denied (.registerWrite h q addr .w32 d) h q a 9 s) ∧
      (∀ l d, a % 4 = 0 → locate a = some l → (s.half h).up l.region = true → (s.half h).sent.forceMgmt = true →
        forcedWritable l.block = false → Denied (.registerWrite h q addr .w32 d) h q a 0xA s) := by
  subst ha
  refine ⟨fun d odd => ?_, fun d al no => ?_, fun l d hl => ?_, fun l hl effect => ?_, fun l d al hl down => ?_,
    fun l d al hl up free mirrored role => ?_, fun l d al hl up forced shut => ?_⟩
  · exact denied_register g lt rfl (by decide) (by decide) (by decide) fun v => by simp [Half.resolve, misaligned, odd]
  · exact denied_register g lt rfl (by decide) (by decide) (by decide) fun v => by
      simp [Half.resolve, misaligned, al, narrowWidth, show addr.toNat / 4 * 4 = addr.toNat by omega, no]
  · exact denied_register g lt rfl (by decide) (by decide) (by decide) fun v => by simp [Half.resolve, misaligned, narrowWidth]
  · exact denied_register g lt rfl (by decide) (by decide) (by decide) fun v => by simp [Half.resolve, misaligned, narrowWidth, hl, effect]
  · refine denied_register g lt rfl (by decide) (by decide) (by decide) fun v => Half.resolve_refused al hl ?_
    rw [Half.refuses_own g.own, down]
    rfl
  · refine denied_register g lt rfl (by decide) (by decide) (by decide) fun v => Half.resolve_refused al hl ?_
    rw [Half.refuses_own g.own, up]
    rcases role with e | e <;> simp [Half.writeRefused, free, mirrored, e]
  · refine denied_register g lt rfl (by decide) (by decide) (by decide) fun v => Half.resolve_refused al hl ?_
    rw [Half.refuses_own g.own, up]
    simp [Half.writeRefused, forced, shut]

end accesses
end requests

/-- Settles O50: where a request resolves, it is one access of its word; where it does not, the captured bus error. -/
theorem accessesFollowTheFabricRules : Obligations.AccessesFollowTheFabricRules := by
  rintro h q addr a s rfl lt
  exact ⟨fun l g al hl single => ⟨fun d plain attr => registerWrite_plain g al lt hl single plain attr rfl,
      fun d held hook attr => registerWrite_held g al lt hl single held hook attr rfl,
      fun d attr => registerWrite_readOnly g al lt hl attr rfl⟩,
    fun l g reads al hl single hook attr => rcRead_clears g reads al lt hl single hook attr rfl,
    fun l g reads al hl lo hook _ => shadowLoRead_latches g reads al lt hl lo hook rfl,
    fun l d g al hl lo attr => heldLoWrite_waits g al lt hl lo attr rfl,
    fun l d g al hl hi plain attr => hiWrite_alone g al lt hl hi plain attr rfl,
    fun l l0 lo d s0 pending le g al hl hl0 hi plain plain0 attr => hiWrite_pair g le al lt hl hl0 hi plain plain0 attr pending rfl,
    fun g => accesses_denied g addr rfl lt⟩

end Sys2Proof.Machine
end

section
/-! O51: paired writes, bit aliases, the partner window, the scrub (R67, R68, R71, R73 to R75, R77). -/

namespace Sys2Proof.Machine

open Sys2Proof

section pairs
variable {s : State} {h : HalfId} {q : Req} {a : Nat} {l : Loc}

/-! Failures of paired writes (R68, R81). -/

theorem Half.pwFail_acc (x : Half) (q : Req) (slot cause : Nat) : (x.pwFail q slot cause).acc = x.acc := by
  unfold Half.pwFail
  simp only
  split <;> rfl

theorem Half.pwFail_writes (x : Half) (q : Req) (slot cause : Nat) :
    Writes (· ∈ [Adr.DIE_PWFAIL_INFO, Adr.DIE_PWFAIL_ADDR, Adr.DIE_EVENT]) x (x.pwFail q slot cause) := by
  unfold Half.pwFail
  simp only
  split
  · exact ((Writes.refl _ x).count _ _ _ (by simp)).event _ (by simp)
  · exact (((Writes.refl _ x).wrNat _ (by simp)).wrNat _ (by simp)).event _ (by simp)

theorem Half.pwFail_fails (x : Half) (q : Req) (slot : Nat) {cause : Nat} (small : cause < 16) : PairFails x (x.pwFail q slot cause) slot cause := by
  have kind : q.code < 16 := by cases q <;> decide
  refine ⟨Half.bit_putBit_self _ _ _ _ (by decide), fun first => ?_, (x.pwFail_writes q slot cause).sameRegs⟩
  simp only [Half.pwFail, first, Bool.false_eq_true, if_false]
  refine ⟨?_, ?_, ?_⟩
  · rw [Half.bit_congr (Half.rd_event_ne _ _ (by decide)), Half.bit, Half.get, Half.rd_wrNat_self, getBits_ofNat]
    have : (0x80000000 + 0x1000 * q.code + 0x100 * cause) % 2 ^ 32 / 2 ^ 31 % 2 ^ 1 = 1 := by omega
    simpa using this
  · rw [Half.get_congr (Half.rd_event_ne _ _ (by decide)), Half.get, Half.rd_wrNat_self, getBits_ofNat]
    omega
  · rw [Half.rd_event_ne _ _ (by decide), Half.rd_wrNat_ne _ _ (by decide), Half.rd_wrNat_self]

/-- A failure is shown alike by a half with the same registers. -/
theorem PairFails.of_rd {x x' y y' : Half} {slot cause : Nat} {as : List Nat} (f : PairFails x y slot cause as) (hx : ∀ a, x'.rd a = x.rd a)
    (hy : ∀ a, y'.rd a = y.rd a) : PairFails x' y' slot cause as := by
  obtain ⟨event, first, regs⟩ := f
  refine ⟨(Half.bit_congr (hy _) 1).trans event, fun none_ => ?_, fun b hb => by rw [hy, hx, regs b hb]⟩
  obtain ⟨valid, code, at_⟩ := first ((Half.bit_congr (hx _) 31).symm.trans none_)
  exact ⟨(Half.bit_congr (hy _) 31).trans valid, (Half.get_congr (hy _) 8 4).trans code, (hy _).trans at_⟩

theorem Half.complete_pw (x : Half) (q : Req) (r : Resp) : (x.complete q r).acc.pw = x.acc.pw := by cases q <;> rfl

/-! Values and confirmations (R67). -/

/-- The half with one value pending at most. -/
def Half.withPw (x : Half) (ps : List PwPending) : Half := { x with acc := { x.acc with pw := ps } }

theorem pairedValueWrite_waits {d : Word} (g : Grants s h q a) (lt : a < 0x8000000) (al : a % 4 = 0) (hl : locate a = some l)
    (attr : l.reg.attr = .pw) (value : l.confirm = false) {c : Instr} (run : exec c s = .next (s.write h q a d)) :
    Accepted c h q s fun x => x.acc.pw = [⟨a, q, d⟩] ∧ x.regs = (s.half h).regs ∧ x.held = (s.half h).held := by
  have rest := State.rest_half g.asks.rest h
  have discards : (s.on h fun x => x.intervene q l.block none) = s := State.on_eq_self (Half.intervene_none q _ _ rest.1)
  refine accepted_access (d := d.setWidth 64) (v := 0) (f := fun x => x.withPw [⟨a, q, d⟩]) (run.trans rfl) (by decide) g.asks.ready (by omega) ?_
    rest.still ⟨Half.complete_pw _ q _, rfl, rfl⟩
  rw [State.local_direct lt (Half.dropHeldLo_rest q _ rest), State.direct_write al hl (Half.refuses_takes (Or.inl g.asks.own) hl g.takes),
    State.setWidth_word, State.writeWord]
  simp only [attr, ne_eq, not_true_eq_false, if_false, value, Bool.false_eq_true, Loc.slot, discards]
  exact congrArg _ (State.on_congr (by rw [rest.1]; rfl))

/-- The value that a slot's confirmation finds is not discarded by it. -/
theorem Half.intervene_keeps (x : Half) (q : Req) (slot block : Nat) (v : Word) :
    (x.withPw [⟨slot, q, v⟩]).intervene q block (some slot) = x.withPw [⟨slot, q, v⟩] := by
  simp [Half.intervene, Half.withPw, Half.dropPending]

/-- A write of CONFIRM at a half whose port holds no LO. -/
theorem accepted_confirm {c : Instr} {d : Word} {f : Half → Half} {P : Half → Prop} (run : exec c s = .next (s.write h q a d)) (r : Ready s h q)
    (takes : (s.half h).takes a = true) (held : ((s.half h).acc.port q).heldLo = none) (lt : a < 0x8000000) (al : a % 4 = 0)
    (hl : locate a = some l) (attr : l.reg.attr = .pw) (confirm : l.confirm = true)
    (keeps : (s.half h).intervene q l.block (some (a - 4)) = s.half h) (acts : s.confirmSlot h q l (a - 4) d = s.on h f)
    (still : (f (s.half h)).acc.still) (shows_ : P ((f (s.half h)).complete q ⟨0, true⟩)) : Accepted c h q s P := by
  refine accepted_access (d := d.setWidth 64) (f := f) (run.trans rfl) (by decide) r (by omega) ?_ still shows_
  have discards : (s.on h fun x => x.intervene q l.block (some (a - 4))) = s := State.on_eq_self keeps
  have none_ : ∀ t, ((s.half h).acc.port q).heldLo = some t → t.1 + 4 = a := fun t ht => by rw [held] at ht; cases ht
  rw [State.local_direct lt (Half.dropHeldLo_keeps none_), State.direct_write al hl (Half.refuses_takes (Or.inl r.own) hl takes),
    State.setWidth_word, State.writeWord]
  simp only [attr, ne_eq, not_true_eq_false, if_false, confirm, if_true, Loc.slot, discards, acts]

theorem pairedConfirm_alone {d : Word} (g : Grants s h q a) (lt : a < 0x8000000) (al : a % 4 = 0) (hl : locate a = some l)
    (attr : l.reg.attr = .pw) (confirm : l.confirm = true) {c : Instr} (run : exec c s = .next (s.write h q a d)) :
    Accepted c h q s fun x => x.acc.pw = [] ∧ PairFails (s.half h) x (a - 4) 2 := by
  have rest := State.rest_half g.asks.rest h
  have acc := (s.half h).pwFail_acc q (a - 4) 2
  refine accepted_confirm (f := fun x => x.pwFail q (a - 4) 2) run g.asks.ready g.takes (AccessSt.rest_port rest q).1 lt al hl attr confirm
    (Half.intervene_none q _ _ rest.1) ?_ (acc ▸ rest.still) ⟨?_, ((s.half h).pwFail_fails q (a - 4) (by decide)).of_rd (fun _ => rfl) fun _ => rfl⟩
  · rw [State.confirmSlot, rest.1]
    rfl
  · rw [Half.complete_pw, acc, rest.1]

section confirms
variable {d v : Word} {s0 : State} {c : Instr}

/-- The half after a confirmation that fits: the value waits for its boundary, nothing is pending. -/
def Half.confirmHeld (x : Half) (slot : Nat) (v : Word) : Half := (x.withPw []).stage slot v

theorem State.confirmSlot_held {slot : Nat} (pw : (s.half h).acc.pw = [⟨slot, q, v⟩]) (copies : (s.half h).acc.copies = [])
    (hook : l.reg.hook = .none) (held : l.reg.cls = .held) :
    s.confirmSlot h q l slot (~~~v) = s.on h fun x => x.confirmHeld slot (({ l with confirm := false } : Loc).masked v) := by
  have drop : (s.on h fun x => x.dropPending fun y => y.slot == slot && y.req == q) = s.on h fun x => x.withPw [] :=
    State.on_congr (by simp [Half.dropPending, Half.withPw, pw])
  have join : ((s.on h fun x => x.withPw []).on h fun x => x.joinCopies slot) = s.on h fun x => x.withPw [] :=
    State.on_eq_self (Half.joinCopies_none slot (by rw [State.on_half]; exact copies))
  unfold State.confirmSlot
  simp only [pw, List.find?_cons, BEq.rfl, Bool.and_self, drop, if_true, join]
  refine (State.putReg_held (l := { l with confirm := false }) (by rw [hook]; rfl) held _ h q slot _).trans ?_
  rw [State.on_on]
  exact congrArg (s.on h) (funext fun x => by simp only [Half.holdValue, hook, Half.confirmHeld])

theorem State.confirmSlot_differs {slot : Nat} (pw : (s.half h).acc.pw = [⟨slot, q, v⟩]) (differs : d ≠ ~~~v) :
    s.confirmSlot h q l slot d = s.on h fun x => (x.withPw []).pwFail q slot 1 := by
  have drop : (s.on h fun x => x.dropPending fun y => y.slot == slot && y.req == q) = s.on h fun x => x.withPw [] :=
    State.on_congr (by simp [Half.dropPending, Half.withPw, pw])
  unfold State.confirmSlot
  simp only [pw, List.find?_cons, BEq.rfl, Bool.and_self, drop, if_neg differs, State.on_on]

/-- A pending value keeps a fabric at rest but for itself. -/
theorem Ready.onPw (r : Ready s h q) (ps : List PwPending) : Ready (s.on h fun x => x.withPw ps) h q := by
  refine ⟨r.own, ?_, State.still_of_on r.still (State.still_half r.still h), ?_, ?_⟩
  all_goals rw [State.on_half]
  · exact r.answers
  · have := r.stall
    cases q <;> exact this
  · have := r.backlog
    cases q <;> exact this

theorem pairedConfirm_ends (g : Grants s h q a) (lt : a < 0x8000000) (al : a % 4 = 0) (hl : locate a = some l)
    (attr : l.reg.attr = .pw) (confirm : l.confirm = true) (pending : s0 = s.on h fun x => x.withPw [⟨a - 4, q, v⟩])
    (run : exec c s0 = .next (s0.write h q a d)) :
    (d = ~~~v → l.reg.hook = .none → l.reg.cls = .held → Accepted c h q s0 fun x =>
        x.staged (a - 4) = ({ l with confirm := false } : Loc).masked v ∧ x.acc.pw = [] ∧ SameRegs [] (s.half h) x) ∧
      (d ≠ ~~~v → Accepted c h q s0 fun x => x.acc.pw = [] ∧ PairFails (s.half h) x (a - 4) 1) := by
  have rest := State.rest_half g.asks.rest h
  have ready := g.asks.ready.onPw [⟨a - 4, q, v⟩]
  rw [← pending] at ready
  have own : s0.half h = (s.half h).withPw [⟨a - 4, q, v⟩] := by rw [pending, State.on_half]
  have pw : (s0.half h).acc.pw = [⟨a - 4, q, v⟩] := by rw [own]; rfl
  have copies : (s0.half h).acc.copies = [] := by rw [own]; exact rest.2.1
  have takes : (s0.half h).takes a = true := by rw [own]; exact g.takes
  have held : ((s0.half h).acc.port q).heldLo = none := by
    have := (AccessSt.rest_port rest q).1
    rw [own]
    cases q <;> exact this
  have keeps : (s0.half h).intervene q l.block (some (a - 4)) = s0.half h := by rw [own, Half.intervene_keeps]
  have regs : ∀ b, (s0.half h).rd b = (s.half h).rd b := fun b => by rw [own]; rfl
  have still := State.still_half ready.still h
  constructor
  · rintro rfl hook cls
    refine accepted_confirm run ready takes held lt al hl attr confirm keeps (State.confirmSlot_held pw copies hook cls) still
      ⟨?_, Half.complete_pw _ q _, fun b _ => regs b⟩
    exact (Half.staged_congr (x := (s0.half h).confirmHeld (a - 4) (({ l with confirm := false } : Loc).masked v)) rfl rfl).trans
      (Half.staged_stage ..)
  · intro differs
    have acc := ((s0.half h).withPw []).pwFail_acc q (a - 4) 1
    refine accepted_confirm run ready takes held lt al hl attr confirm keeps (State.confirmSlot_differs pw differs) (acc ▸ still) ⟨?_, ?_⟩
    · rw [Half.complete_pw, acc]
      rfl
    · exact (((s0.half h).withPw []).pwFail_fails q (a - 4) (by decide)).of_rd (fun b => (regs b).symm) fun _ => rfl

end confirms

theorem confirmWindowExpiry_fails {addr : Word} (pending : (s.half h).acc.pw.any (fun p => p.slot == addr.toNat && p.req == q) = true) :
    CompletesAt (.confirmWindowExpiry h q addr) h s fun x =>
      x.acc.pw = (s.half h).acc.pw.filter (fun p => !(p.slot == addr.toNat && p.req == q)) ∧ PairFails (s.half h) x addr.toNat 3 := by
  refine completesAt_on rfl ?_
  simp only [pending, if_true]
  generalize s.half h = x
  constructor
  · rw [Half.pwFail_acc]
    rfl
  · exact ((x.dropPending fun p => p.slot == addr.toNat && p.req == q).pwFail_fails q addr.toNat (by decide)).of_rd (fun _ => rfl) fun _ => rfl

end pairs

section windows
variable {s : State} {h : HalfId} {q : Req} {a : Nat} {l : Loc}

theorem State.setHalf_self (s : State) (h : HalfId) : s.setHalf h (s.half h) = s := by cases h <;> rfl

/-! Bit aliases (R73, R74). -/

theorem aliasOf_word {r b : Nat} (ha : a = 0x8000000 + 4 * (32 * r + b)) (hb : b < 32) : aliasOf a = (r, b) := by
  rw [aliasOf, Prod.mk.injEq]
  omega

/-- An aliased access of a bit that a half lets its own requester have. -/
theorem Half.resolveAlias_bit {y : Half} {x : Access} {r b : Nat} (at_ : aliasOf x.addr = (r, b)) (wide : x.width = .w32) (word : x.addr % 4 = 0)
    (al : r % 4 = 0) (hl : locate r = some l) (bit_ : l.mask.testBit b = true) (attr : l.reg.attr = .rw) (quiet : l.acts = false)
    (pass : y.refuses q l x.write = none) : y.resolveAlias q x = .ok l := by
  unfold Half.resolveAlias
  rw [at_]
  simp [misaligned, wide, word, narrowWidth, al, hl, bit_, attr, quiet, pass]

/-- What an aliased access does at a half at rest. -/
theorem State.local_alias {x : Access} {r b : Nat} (at_ : aliasOf x.addr = (r, b)) (low : 0x8000000 ≤ x.addr) (wide : x.width = .w32)
    (word : x.addr % 4 = 0) (al : r % 4 = 0) (hl : locate r = some l) (bit_ : l.mask.testBit b = true) (attr : l.reg.attr = .rw)
    (quiet : l.acts = false) (rest : (s.half h).acc.rest) (pass : (s.half h).refuses q l x.write = none) : s.local_ h q x =
      if x.write then (.ok 0, s.putReg h q l r (l.masked (setBits (s.shown h l r) b 1 (getBits x.data 0 1))))
      else (.ok (BitVec.ofNat 32 (getBits (s.shown h l r) b 1)), s.on h fun x => x) := by
  have same : (s.on h fun y => y.dropHeldLo q x) = s := State.on_eq_self (Half.dropHeldLo_rest q x rest)
  have discards : (s.on h fun z => z.intervene q l.block none) = s := State.on_eq_self (Half.intervene_none q _ _ rest.1)
  have joins : (s.on h fun z => z.joinCopies r) = s := State.on_eq_self (Half.joinCopies_none r rest.2.1)
  have clears : (s.on h fun z => z.clearRead l r (2 ^ b)) = s.on h fun x => x :=
    State.on_congr (by rw [Half.clearRead, attr]; exact if_neg (by decide))
  unfold State.local_ State.aliasAccess
  rw [at_]
  simp only [same, if_pos low, Half.resolveAlias_bit at_ wide word al hl bit_ attr quiet pass, Half.voted_none r rest.2.1, ite_self, State.setHalf_self,
    discards, joins, clears, attr, readLanes, wide]

theorem aliasRead_shows {addr : Word} {r b : Nat} (ha : addr.toNat = 0x8000000 + 4 * (32 * r + b)) (hb : b < 32) (al : r % 4 = 0)
    (lt : addr.toNat < 0x10000000) (hl : locate r = some l) (bit_ : l.mask.testBit b = true) (attr : l.reg.attr = .rw) (quiet : l.acts = false)
    (g : Asks s h q) (reads : (s.half h).reads r = true) : Accepted (.aliasRead h q addr) h q s fun x =>
      (x.acc.port q).resp.data = BitVec.ofNat 32 (getBits (s.shown h l r) b 1) ∧ SameRegs [] (s.half h) x := by
  have rest := State.rest_half g.rest h
  have low : 0x8000000 ≤ addr.toNat := by omega
  have word : addr.toNat % 4 = 0 := by omega
  have run : exec (.aliasRead h q addr) s = .next (s.issue h q addr.toNat .w32 false 0 .ok) := rfl
  refine accepted_access (f := fun x => x) (v := BitVec.ofNat 32 (getBits (s.shown h l r) b 1)) run (by decide) g.ready lt ?_ rest.still
    ⟨by rw [Half.complete_resp], fun c _ => Half.complete_rd ..⟩
  exact State.local_alias (aliasOf_word ha hb) low rfl word al hl bit_ attr quiet rest (Half.refuses_reads (.inl g.own) hl reads)

theorem aliasWrite_sets {addr d : Word} {r b : Nat} (ha : addr.toNat = 0x8000000 + 4 * (32 * r + b)) (hb : b < 32) (al : r % 4 = 0)
    (lt : addr.toNat < 0x10000000) (hl : locate r = some l) (bit_ : l.mask.testBit b = true) (attr : l.reg.attr = .rw) (quiet : l.acts = false)
    (g : Grants s h q r) (plain : l.plain r) : Accepted (.aliasWrite h q addr d) h q s fun x =>
      x.rd r = l.masked (setBits (s.shown h l r) b 1 (getBits d 0 1)) ∧ SameRegs [r] (s.half h) x := by
  have rest := State.rest_half g.asks.rest h
  have low : 0x8000000 ≤ addr.toNat := by omega
  have word : addr.toNat % 4 = 0 := by omega
  have run : exec (.aliasWrite h q addr d) s = .next (s.issue h q addr.toNat .w32 true (d.setWidth 64) .ok) := rfl
  have set := plain.sets (s.half h) (l.masked (setBits (s.shown h l r) b 1 (getBits d 0 1)))
  refine accepted_access (f := fun x => x.writePlain r (l.masked (setBits (s.shown h l r) b 1 (getBits d 0 1)))) (v := 0) run (by decide) g.asks.ready lt
    ?_ (set.acc ▸ rest.still) ⟨(Half.complete_rd ..).trans set.self, fun c hc => (Half.complete_rd ..).trans (set.others c hc)⟩
  rw [State.setWidth_word, State.local_alias (aliasOf_word ha hb) low rfl word al hl bit_ attr quiet rest
    (Half.refuses_takes (.inl g.asks.own) hl g.takes), if_pos rfl, State.putReg_plain plain]

/-! The partner window (R75 to R77). -/

/-- The window of a half whose link is down, or whose partner does not answer. -/
theorem State.window_refused {x : Access} {cause : Nat} (inside : ¬ 0x20000000 ≤ x.addr) (rest : (s.half h).acc.rest)
    (refused : ((s.half h).linkUp = false ∧ cause = 7) ∨ ((s.half h).linkUp = true ∧ (s.half h.other).fabricUp = false ∧ cause = 0xB)) :
    s.window h q x = (.err, s.on h fun y => y.busFault q x cause) := by
  have same : (s.on h fun y => y.dropHeldLo q x) = s := State.on_eq_self (Half.dropHeldLo_rest q x rest)
  obtain ⟨b, hb⟩ : ∃ b, x.addr - 0x10000000 = b := ⟨_, rfl⟩
  unfold State.window
  rcases refused with ⟨down, rfl⟩ | ⟨up, silent, rfl⟩
  · simp only [same, inside, if_false, down, Bool.not_false, if_true, hb]
  · simp only [same, inside, if_false, up, silent, Bool.not_true, Bool.false_eq_true, Bool.not_false, if_true, hb]

theorem Half.busFault_other {y : Half} {x : Access} {cause : Nat} (other : cause ≠ 5) :
    y.busFault q x cause = y.busError q x.addr x.width x.write cause := if_neg other

theorem State.access_window_refused {x : Access} {cause : Nat} (low : 0x10000000 ≤ x.addr) (inside : ¬ 0x20000000 ≤ x.addr) (rest : (s.half h).acc.rest)
    (refused : ((s.half h).linkUp = false ∧ cause = 7) ∨ ((s.half h).linkUp = true ∧ (s.half h.other).fabricUp = false ∧ cause = 0xB)) :
    s.access h q x = (.err, s.on h fun y => y.denied q x.addr x.width x.write cause) := by
  have other : cause ≠ 5 := by omega
  rw [State.access, if_pos low, State.window_refused inside rest refused]
  simp only [State.on_on, Half.busFault_other other, Half.denied]

theorem partnerWindow_denied {addr : Word} {w : Bool} {d : Word} (low : 0x10000000 ≤ addr.toNat) (high : addr.toNat < 0x20000000) (g : Asks s h q) :
    ((s.half h).linkUp = false → Denied (.partnerWindowAccess h q addr .w32 w d) h q addr.toNat 7 s) ∧
      ((s.half h).linkUp = true → (s.half h.other).fabricUp = false → Denied (.partnerWindowAccess h q addr .w32 w d) h q addr.toNat 0xB s) := by
  have run : exec (.partnerWindowAccess h q addr .w32 w d) s = .next (s.issue h q addr.toNat .w32 w (d.setWidth 64) .ok) := rfl
  have rest := State.rest_half g.rest h
  generalize addr.toNat = a at *
  have inside : ¬ 0x20000000 ≤ a := by omega
  exact ⟨fun down => denied_access run (by decide) g.ready (State.access_window_refused low inside rest (.inl ⟨down, rfl⟩)) (by decide),
    fun up silent => denied_access run (by decide) g.ready (State.access_window_refused low inside rest (.inr ⟨up, silent, rfl⟩)) (by decide)⟩

/-- An access in the window that the partner grants. -/
theorem State.access_window {x : Access} {b : Nat} {v : Word} {f : Half → Half} (low : 0x10000000 ≤ x.addr) (inside : ¬ 0x20000000 ≤ x.addr)
    (hb : x.addr - 0x10000000 = b) (rest : (s.half h).acc.rest) (up : (s.half h).linkUp = true) (answers : (s.half h.other).fabricUp = true)
    (acts : s.local_ h.other .partner ⟨b, x.width, x.write, x.data, x.ecc⟩ = (.ok v, s.on h.other f)) :
    s.access h q x = (.ok v, (s.on h.other fun y => (f y).complete .partner ⟨v, true⟩).on h fun y => y.complete q ⟨v, true⟩) := by
  have same : (s.on h fun y => y.dropHeldLo q x) = s := State.on_eq_self (Half.dropHeldLo_rest q x rest)
  have passes : s.window h q x = (.ok v, s.on h.other fun y => (f y).complete .partner ⟨v, true⟩) := by
    unfold State.window
    simp only [same, inside, if_false, up, answers, Bool.not_true, Bool.false_eq_true, hb, acts, State.on_on]
  rw [State.access, if_pos low, passes]

theorem State.on_partner_half (s : State) (h : HalfId) (f g : Half → Half) : ((s.on h.other f).on h g).half h = g (s.half h) ∧
    ((s.on h.other f).on h g).half h.other = f (s.half h.other) := by cases h <;> exact ⟨rfl, rfl⟩

theorem partnerWindow_completes {addr : Word} {b : Nat} {w : Bool} {d v : Word} {f : Half → Half} {P : State → Prop} (low : 0x10000000 ≤ addr.toNat)
    (inside : ¬ 0x20000000 ≤ addr.toNat) (hb : addr.toNat - 0x10000000 = b) (g : Asks s h q) (up : (s.half h).linkUp = true)
    (answers : (s.half h.other).fabricUp = true) (acts : s.local_ h.other .partner ⟨b, .w32, w, d, .ok⟩ = (.ok v, s.on h.other f))
    (still : (f (s.half h.other)).acc.still)
    (shows_ : ∀ t : State, t.half h = (s.half h).complete q ⟨v, true⟩ → t.half h.other = (f (s.half h.other)).complete .partner ⟨v, true⟩ → P t) :
    Completes (.partnerWindowAccess h q addr .w32 w d) s P := by
  have run : exec (.partnerWindowAccess h q addr .w32 w d) s = .next (s.issue h q addr.toNat .w32 w (d.setWidth 64) .ok) := rfl
  generalize addr.toNat = a at *
  have rest := State.rest_half g.rest h
  have access := State.access_window (q := q) (x := ⟨a, .w32, w, d, .ok⟩) low inside hb rest up answers acts
  obtain ⟨own, partner⟩ := s.on_partner_half h (fun y => (f y).complete .partner ⟨v, true⟩) fun y => y.complete q ⟨v, true⟩
  have calm : ((s.on h.other fun y => (f y).complete .partner ⟨v, true⟩).on h fun y => y.complete q ⟨v, true⟩).still := by
    have one := own ▸ Half.complete_still q ⟨v, true⟩ rest.still
    have two := partner ▸ Half.complete_still .partner ⟨v, true⟩ still
    cases h
    · exact ⟨one, two⟩
    · exact ⟨two, one⟩
  refine completes_of (run.trans (congrArg _ ?_)) (shows_ _ own partner)
  rw [g.ready.issue a (by decide), State.setWidth_word, access]
  exact State.settle_still calm

/-- The partner's plain word: a write and a read of it through the window. -/
theorem partnerWindow_word {addr : Word} {b : Nat} (d : Word) (hb : addr.toNat - 0x10000000 = b) (low : 0x10000000 ≤ addr.toNat)
    (high : addr.toNat < 0x18000000) (al : addr.toNat % 4 = 0) (g : Asks s h q) (up : (s.half h).linkUp = true)
    (answers : (s.half h.other).fabricUp = true) (hl : locate b = some l) (single : l.wideAs = .single) (plain : l.plain b) (attr : l.reg.attr = .rw) :
    ((s.half h.other).takes b = true → Completes (.partnerWindowAccess h q addr .w32 true d) s fun t =>
        ((t.half h).acc.port q).resp.ok = true ∧ (t.half h.other).rd b = l.masked d ∧
          SameRegs [b] (s.half h.other) (t.half h.other) ∧ SameRegs [] (s.half h) (t.half h)) ∧
      ((s.half h.other).reads b = true → Completes (.partnerWindowAccess h q addr .w32 false d) s fun t =>
        ((t.half h).acc.port q).resp = ⟨s.shown h.other l b, true⟩ ∧
          SameRegs [] (s.half h.other) (t.half h.other) ∧ SameRegs [] (s.half h) (t.half h)) := by
  have rest := State.rest_half g.rest h.other
  have slot : l.reg.attr ≠ .pw := by rw [attr]; decide
  have word : b % 4 = 0 := by omega
  have lt : b < 0x8000000 := by omega
  have inside : ¬ 0x20000000 ≤ addr.toNat := by omega
  refine ⟨fun takes => ?_, fun reads => ?_⟩
  · have set := plain.sets (s.half h.other) (l.masked d)
    refine partnerWindow_completes (v := 0) (f := fun x => x.writePlain b (l.masked d)) low inside hb g up answers ?_ (set.acc ▸ rest.still)
      fun t own partner => ⟨by rw [own, Half.complete_resp], ?_, fun c hc => ?_, fun c _ => ?_⟩
    · rw [State.local_direct lt (Half.dropHeldLo_rest _ _ rest), State.direct_write word hl (Half.refuses_takes (.inr slot) hl takes),
        State.writeWord_store slot rest.1, State.storeWord_single (.inl attr) single rest.2.1, State.putReg_plain plain]
    · rw [partner]
      exact (Half.complete_rd ..).trans set.self
    · rw [partner]
      exact (Half.complete_rd ..).trans (set.others c hc)
    · rw [own]
      exact Half.complete_rd ..
  · refine partnerWindow_completes (v := s.shown h.other l b) (f := fun x => x) low inside hb g up answers ?_ rest.still
      fun t own partner => ⟨by rw [own, Half.complete_resp], fun c _ => ?_, fun c _ => ?_⟩
    · rw [State.local_direct lt (Half.dropHeldLo_rest _ _ rest), State.direct_read word hl (Half.refuses_reads (.inr slot) hl reads) rest.2.1,
        State.readWord_none plain.1, single]
      simp only [Half.clearRead, attr, reduceCtorEq, if_false]
    · rw [partner]
      exact Half.complete_rd ..
    · rw [own]
      exact Half.complete_rd ..

theorem partnerTimeout_denied {addr : Word} (answers : (s.half h).answers q = true) (w : Bool) :
    Denied (.partnerTimeout h q addr w) h q addr.toNat 0xB s := by
  have run : exec (.partnerTimeout h q addr w) s = .next (s.on h fun y => y.denied q addr.toNat .w32 w 0xB) :=
    congrArg Host.Outcome.next (State.on_congr (if_pos answers))
  exact denied_of run (by decide)

/-! The scrub (R71). -/

/-- A half whose triplicated word a has the further copies p. -/
def Half.withCopy (x : Half) (a : Nat) (p : Word × Word) : Half := { x with acc := { x.acc with copies := [(a, p)] } }

/-- A half whose triplicated word a has been corrected. -/
def Half.scrubbed (x : Half) (a : Nat) (v : Word) : Half := ((x.wr a v).joinCopies a).tmrCorrected

theorem Half.withCopy_voted {x : Half} {p : Word × Word} {v : Word} (agree : vote (x.rd a, p.1, p.2) = some v)
    (differs : ¬ (p.1 = x.rd a ∧ p.2 = x.rd a)) : (x.withCopy a p).voted a = some ((x.withCopy a p).scrubbed a v) := by
  have copies : (x.withCopy a p).copies3 a = (x.rd a, p.1, p.2) := by
    rw [Half.copies3, show (x.withCopy a p).acc.copies = [(a, p)] from rfl]
    simp only [List.find?_cons, beq_self_eq_true]
    rfl
  rw [Half.voted, copies]
  simp only [agree]
  exact if_neg differs

theorem Half.scrubbed_shows (x : Half) (p : Word × Word) (v : Word) (apart : a ∉ [Adr.HLT_TMR_CORR, Adr.EVT_SYS_EVENT]) :
    ((x.withCopy a p).scrubbed a v).rd a = v ∧ ((x.withCopy a p).scrubbed a v).acc.copies = [] ∧
      ((x.withCopy a p).scrubbed a v).get Adr.HLT_TMR_CORR 0 32 = min 0xFFFFFFFF (x.get Adr.HLT_TMR_CORR 0 32 + 1) ∧
      ((x.withCopy a p).scrubbed a v).bit Adr.EVT_SYS_EVENT 2 = true ∧
      ∀ b, b ≠ a → b ∉ [Adr.HLT_TMR_CORR, Adr.EVT_SYS_EVENT] → ((x.withCopy a p).scrubbed a v).rd b = x.rd b := by
  have start : ∀ b, (((x.withCopy a p).wr a v).joinCopies a).rd b = (x.wr a v).rd b := fun _ => rfl
  have empty : (((x.withCopy a p).wr a v).joinCopies a).acc.copies = [] := by
    show eraseAt a [(a, p)] = []
    simp [eraseAt]
  unfold Half.scrubbed Half.tmrCorrected
  generalize ((x.withCopy a p).wr a v).joinCopies a = y at start empty
  have moves : Writes (· ∈ [Adr.HLT_TMR_CORR, Adr.EVT_SYS_EVENT]) y ((y.count Adr.HLT_TMR_CORR 0 32 1).event Adr.EVT_SYS_EVENT 2) :=
    ((Writes.refl _ y).count 0 32 1 (by simp)).event 2 (by simp)
  have acc : ((y.count Adr.HLT_TMR_CORR 0 32 1).event Adr.EVT_SYS_EVENT 2).acc = y.acc := by rw [moves.same]
  have other : Adr.HLT_TMR_CORR ≠ a := fun e => apart (by simp [e])
  refine ⟨(moves.keeps a apart).trans ((start a).trans (Half.rd_wr_self ..)), by rw [acc, empty], ?_, Half.bit_putBit_self _ _ _ _ (by decide), fun b hb out => ?_⟩
  · rw [Half.get_congr (Half.rd_event_ne _ _ (by decide)), Half.count_eq, Half.get_put_self _ _ _ _ _ (by decide), satAdd_mod,
      Half.get_congr ((start _).trans (Half.rd_wr_ne _ _ other)), satAdd]
    exact Nat.min_comm _ _
  · exact (moves.keeps b out).trans ((start b).trans (Half.rd_wr_ne _ _ hb))

/-- An upset leaves one copy that differs: the other two agree on the word. -/
theorem Half.upset_one {x : Half} (c : Fin 3) {v : Word} (hl : locate a = some l) (three : l.reg.t = true) (word : l.confirm = false)
    (copies : x.acc.copies = []) (differs : l.masked v ≠ x.rd a) : ∃ (y : Half) (p : Word × Word), x.upset a c v = y.withCopy a p ∧
      vote (y.rd a, p.1, p.2) = some (x.rd a) ∧ ¬ (p.1 = y.rd a ∧ p.2 = y.rd a) ∧ ∀ b, b ≠ a → y.rd b = x.rd b := by
  have same : x.copies3 a = (x.rd a, x.rd a, x.rd a) := by rw [Half.copies3, copies]; rfl
  have put : ∀ (y : Half) (p : Word × Word), y.acc = x.acc → { y with acc := { y.acc with copies := insertAt a p y.acc.copies } } = y.withCopy a p :=
    fun y p e => by rw [Half.withCopy, e, copies]; rfl
  have self : ∀ w, (x.wr a w).rd a = w := fun w => Half.rd_wr_self x a w
  simp only [Half.upset, hl, three, word, same]
  match c with
  | 0 =>
    refine ⟨x.wr a (l.masked v), (x.rd a, x.rd a), put _ _ rfl, ?_, ?_, fun b hb => Half.rd_wr_ne _ _ hb⟩
    · rw [self]; simp [vote, differs]
    · rw [self]; exact fun e => differs e.1.symm
  | 1 => exact ⟨x, (l.masked v, x.rd a), put _ _ rfl, by simp [vote], fun e => differs e.1, fun _ _ => rfl⟩
  | 2 =>
    refine ⟨x.wr a (x.rd a), (x.rd a, l.masked v), put _ _ rfl, ?_, ?_, fun b hb => Half.rd_wr_ne _ _ hb⟩
    · rw [self]; simp [vote]
    · rw [self]; exact fun e => differs e.2

theorem tmrScrub_corrects {addr : Word} {v : Word} (c : Fin 3) (hl : locate addr.toNat = some l) (three : l.reg.t = true) (word : l.confirm = false)
    (live : (s.half h).live = true) (copies : (s.half h).acc.copies = []) (differs : l.masked v ≠ (s.half h).rd addr.toNat)
    (apart : addr.toNat ∉ [Adr.HLT_TMR_CORR, Adr.EVT_SYS_EVENT]) :
    CompletesAt (.tmrScrub h [(addr, c, v)]) h s fun x => x.rd addr.toNat = (s.half h).rd addr.toNat ∧ x.acc.copies = [] ∧
      x.get Adr.HLT_TMR_CORR 0 32 = min 0xFFFFFFFF ((s.half h).get Adr.HLT_TMR_CORR 0 32 + 1) ∧
      x.bit Adr.EVT_SYS_EVENT 2 = true ∧ SameRegs [Adr.HLT_TMR_CORR, Adr.EVT_SYS_EVENT] (s.half h) x := by
  obtain ⟨y, p, upset, agree, odd, others⟩ := Half.upset_one c hl three word copies differs
  have voted := Half.withCopy_voted agree odd
  have run : exec (.tmrScrub h [(addr, c, v)]) s = .next (s.on h fun _ => (y.withCopy addr.toNat p).scrubbed addr.toNat ((s.half h).rd addr.toNat)) := by
    have first : (s.on h fun x => x.upset addr.toNat c v) = s.on h fun _ => y.withCopy addr.toNat p := State.on_congr upset
    have scrub : (s.on h fun _ => y.withCopy addr.toNat p).scrubWord h addr.toNat =
        s.on h fun _ => (y.withCopy addr.toNat p).scrubbed addr.toNat ((s.half h).rd addr.toNat) := by
      rw [State.scrubWord, State.on_half, voted]
      simp only
      cases h <;> rfl
    show execTmrScrub h [(addr, c, v)] s = _
    simp only [execTmrScrub, live, Bool.not_true, Bool.false_eq_true, if_false, List.foldl_cons, List.foldl_nil, first, State.on_half]
    exact congrArg _ scrub
  obtain ⟨self, empty, counted, event, rest⟩ := y.scrubbed_shows p ((s.half h).rd addr.toNat) apart
  have corr : Adr.HLT_TMR_CORR ≠ addr.toNat := fun e => apart (by simp [e])
  refine completesAt_on run ⟨self, empty, by rw [counted, Half.get_congr (others _ corr)], event, fun b hb => ?_⟩
  by_cases here : b = addr.toNat
  · rw [here, self]
  · exact (rest b here hb).trans (others b here)

end windows

/-- Settles O51: a value and its confirmation are steps of the pending list, an aliased and a window access come to an access of one word, and
the scrub votes on the copies of one word. -/
theorem pairedAliasedAndPartnerAccesses : Obligations.PairedAliasedAndPartnerAccesses := by
  rintro h q addr a s rfl
  refine ⟨fun l d lt g al hl attr value => pairedValueWrite_waits g lt al hl attr value rfl,
    fun l d v s0 pending lt le g al hl attr confirm => ?_,
    fun l d lt le g al hl attr confirm => pairedConfirm_alone g lt al hl attr confirm rfl,
    fun pending => confirmWindowExpiry_fails pending,
    fun r b l ha hb al lt hl bit_ attr quiet value => ⟨fun g reads => aliasRead_shows ha hb al lt hl bit_ attr quiet g reads,
      fun d g plain => aliasWrite_sets ha hb al lt hl bit_ attr quiet g plain⟩,
    fun w d low high al g => ⟨(partnerWindow_denied low high g).1, (partnerWindow_denied low high g).2, fun l up answers hl lt single plain attr => ?_⟩,
    fun answers w => partnerTimeout_denied answers w,
    fun l c v hl three word live copies differs apart => tmrScrub_corrects c hl three word live copies differs apart⟩
  · exact pairedConfirm_ends g lt al hl attr confirm pending rfl
  · obtain ⟨writes, reads⟩ := partnerWindow_word d rfl low lt al g up answers hl single plain attr
    exact ⟨fun _ => writes, fun _ => reads⟩

end Sys2Proof.Machine
end

section
/-! O52: QSPI frames (R46 to R52). -/

namespace Sys2Proof.Machine

open Sys2Proof

section access
variable {s : State} {h : HalfId} {q : Req} {a : Nat} {l : Loc}

/-- A permitted access below the windows that changes its own half. -/
theorem State.access_ok {x : Access} {v : Word} {f : Half → Half} (lt : x.addr < 0x10000000) (acts : s.local_ h q x = (.ok v, s.on h f)) :
    s.access h q x = (.ok v, s.on h fun y => (f y).complete q ⟨v, true⟩) := by
  rw [State.access, if_neg (by omega), acts]
  simp only [State.on_on]

/-- A word that a frame reads or writes (R46, R53). -/
structure PlainWord (x : Half) (a : Nat) (l : Loc) : Prop where
  al : a % 4 = 0
  lt : a < 0x8000000
  reads : x.reads a = true
  at_ : locate a = some l
  plain : l.plain a
  single : l.wideAs = .single
  attr : l.reg.attr = .rw

theorem PlainWord.slot {x : Half} (w : PlainWord x a l) : l.reg.attr ≠ .pw := by rw [w.attr]; decide

theorem PlainWord.read (w : PlainWord (s.half h) a l) (rest : (s.half h).acc.rest) {d : Word} :
    s.access h q ⟨a, .w32, false, d, .ok⟩ = (.ok (s.shown h l a), s.on h fun y => y.complete q ⟨s.shown h l a, true⟩) := by
  refine State.access_ok (f := fun x => x) (Nat.lt_trans w.lt (by decide)) ?_
  rw [State.local_direct w.lt (Half.dropHeldLo_rest q _ rest), State.direct_read w.al w.at_ (Half.refuses_reads (.inr w.slot) w.at_ w.reads) rest.2.1,
    State.readWord_none w.plain.1, w.single]
  simp only [Half.clearRead, w.attr, reduceCtorEq, if_false]

theorem PlainWord.write (w : PlainWord (s.half h) a l) (rest : (s.half h).acc.rest) (takes : (s.half h).takes a = true) {d : Word} :
    s.access h q ⟨a, .w32, true, d, .ok⟩ = (.ok 0, s.on h fun y => (y.writePlain a (l.masked d)).complete q ⟨0, true⟩) := by
  refine State.access_ok (f := fun x => x.writePlain a (l.masked d)) (Nat.lt_trans w.lt (by decide)) ?_
  rw [State.local_direct w.lt (Half.dropHeldLo_rest q _ rest), State.direct_write w.al w.at_ (Half.refuses_takes (.inr w.slot) w.at_ takes),
    State.writeWord_store w.slot rest.1, State.storeWord_single (.inl w.attr) w.single rest.2.1, State.putReg_plain w.plain]

/-! What a completion leaves as it was. -/

theorem Half.viewPage_acc (x : Half) (A : AccessSt) (f g : Bool) (a : Nat) : ({ x with acc := A } : Half).viewPage f g a = x.viewPage f g a := rfl

theorem Half.viewUnit_acc (x : Half) (A : AccessSt) (a : Nat) : ({ x with acc := A } : Half).viewUnit a = x.viewUnit a := rfl

theorem AccOnly.view {x y : Half} (h : AccOnly x y) (f g : Bool) (a : Nat) : y.view f g a = x.view f g a := by
  rw [h.same, Half.view, Half.view, Half.viewPage_acc, Half.viewUnit_acc]
  rfl

theorem State.asRead_acc {f : Half → Half} (acc : AccOnly (s.half h) (f (s.half h))) (a : Nat) : (s.on h f).asRead h a = s.asRead h a := by
  have fault : (s.on h f).faultLow = s.faultLow := by
    have sent : (f (s.half h)).sent = (s.half h).sent := by rw [acc.same]
    cases h
    · simp only [State.on, State.half, State.setHalf, State.faultLow] at *
      rw [sent, acc.bit]
    · simp only [State.on, State.half, State.setHalf, State.faultLow] at *
      rw [sent, acc.bit]
  have alarm : (s.on h f).alarmLow = s.alarmLow := by
    have pull : (f (s.half h)).alarmPull = (s.half h).alarmPull := by rw [acc.same]; rfl
    cases h
    · simp only [State.on, State.half, State.setHalf, State.alarmLow] at *
      rw [pull]
    · simp only [State.on, State.half, State.setHalf, State.alarmLow] at *
      rw [pull]
  have view := acc.view s.faultLow s.alarmLow
  have held := acc.held
  have up : (f (s.half h)).up .processing = (s.half h).up .processing := by rw [acc.same]; rfl
  have flash : (f (s.half h)).flashDataValue = (s.half h).flashDataValue := by rw [acc.same]; rfl
  have xfer : (f (s.half h)).xferDataValue = (s.half h).xferDataValue := by rw [acc.same]; rfl
  unfold State.asRead
  cases locate a with
  | none => rfl
  | some l => simp only [State.shown, State.on_half, fault, alarm, view, held, up, flash, xfer]

/-- What an access leaves of a word that a frame reads. -/
theorem PlainWord.of_same {x y : Half} (w : PlainWord x a l) (regions : y.regions = x.regions) : PlainWord y a l := by
  obtain ⟨al, lt, reads, at_, plain, single, attr⟩ := w
  refine ⟨al, lt, ?_, at_, plain, single, attr⟩
  simp only [Half.reads, at_, Half.up, Half.regionState, regions] at reads ⊢
  exact reads

end access

/-! Frames of plain words. -/

section frames
variable {s : State} {h : HalfId}

theorem State.asRead_at {a : Nat} {l : Loc} (at_ : locate a = some l) : s.shown h l a = BitVec.ofNat 32 (s.asRead h a) := by
  rw [State.asRead, at_, BitVec.ofNat_toNat, BitVec.setWidth_eq]

theorem State.frameRun_reads (total : Nat) (todo : List (Nat × Word)) (words : List Word) (rest : (s.half h).acc.rest)
    (plain : ∀ p ∈ todo, ∃ l, PlainWord (s.half h) p.1 l) :
    ∃ y, AccOnly (s.half h) y ∧ y.acc.rest ∧
      s.frameRun h true total todo words = s.on h fun _ => y.qspiReply true total (words ++ todo.map fun p => BitVec.ofNat 32 (s.asRead h p.1)) 0 := by
  induction todo generalizing s words with
  | nil => exact ⟨s.half h, ⟨rfl⟩, rest, by rw [List.map_nil, List.append_nil]; exact State.on_congr rfl⟩
  | cons p todo ih =>
    obtain ⟨l, word⟩ := plain p List.mem_cons_self
    have only : AccOnly (s.half h) ((s.half h).complete .qspi ⟨s.shown h l p.1, true⟩) := .complete ..
    have reads := State.asRead_acc (f := fun y => y.complete .qspi ⟨s.shown h l p.1, true⟩) only
    have own : (s.on h fun y => y.complete .qspi ⟨s.shown h l p.1, true⟩).half h = (s.half h).complete .qspi ⟨s.shown h l p.1, true⟩ := State.on_half ..
    obtain ⟨y, same, quiet, runs⟩ := ih (s := s.on h fun y => y.complete .qspi ⟨s.shown h l p.1, true⟩) (words := words ++ [s.shown h l p.1])
      (by rw [own]; exact Half.complete_rest _ _ rest)
      (fun p' hp' => by
        obtain ⟨l', word'⟩ := plain p' (List.mem_cons_of_mem _ hp')
        exact ⟨l', by rw [own]; exact word'.of_same rfl⟩)
    rw [own] at same
    refine ⟨y, ⟨by rw [same.same]; rfl⟩, quiet, ?_⟩
    rw [State.frameRun, Bool.not_true, word.read rest]
    simp only [reads, State.on_on, List.append_assoc, List.cons_append, List.nil_append] at runs
    refine runs.trans ?_
    rw [List.map_cons, State.asRead_at word.at_]

theorem Half.takes_of_same {x y : Half} (regions : y.regions = x.regions) (sent : y.sent = x.sent) (role : y.role = x.role) (a : Nat) :
    y.takes a = x.takes a := by
  unfold Half.takes
  cases locate a with
  | none => rfl
  | some l => simp only [Half.up, Half.regionState, regions, Half.writeRefused, sent, role]

theorem roleStatus_readOnly : (locate Adr.RDN_ROLE_STATUS).map (fun l => l.reg.attr) = some .ro := by decide

/-- What a write of a plain word keeps of the half, for the writes after it. -/
theorem PlainWord.after {x : Half} {a : Nat} {l : Loc} (w : PlainWord x a l) (v : Word) (r : Resp) (b : Nat) :
    ((x.writePlain a v).complete .qspi r).takes b = x.takes b := by
  have set := w.plain.sets x v
  have apart : Adr.RDN_ROLE_STATUS ≠ a := fun e => by
    have ro := roleStatus_readOnly
    rw [e, w.at_, Option.map_some, w.attr] at ro
    cases ro
  refine Half.takes_of_same ?_ ?_ (Half.role_of_rd ?_) b
  · rw [Half.complete_regions, set.same]
  · rw [Half.complete_sent, set.same]
  · rw [Half.complete_rd, set.others _ (by simpa using apart)]

theorem State.frameRun_writes (total : Nat) (todo : List (Nat × Word)) (words : List Word) (rest : (s.half h).acc.rest)
    (plain : ∀ p ∈ todo, ∃ l, PlainWord (s.half h) p.1 l) (takes : ∀ p ∈ todo, (s.half h).takes p.1 = true) (apart : (todo.map (·.1)).Nodup) :
    ∃ y ws, y.acc.rest ∧ s.frameRun h false total todo words = s.on h (fun _ => y.qspiReply false total ws 0) ∧
      (∀ p ∈ todo, ∀ l, locate p.1 = some l → y.rd p.1 = l.masked p.2) ∧ SameRegs (todo.map (·.1)) (s.half h) y := by
  induction todo generalizing s words with
  | nil => exact ⟨s.half h, words, rest, State.on_congr rfl, by simp, fun _ _ => rfl⟩
  | cons p todo ih =>
    obtain ⟨l, word⟩ := plain p List.mem_cons_self
    obtain ⟨new, apart⟩ := List.nodup_cons.1 apart
    have set := word.plain.sets (s.half h) (l.masked p.2)
    have own : (s.on h fun y => (y.writePlain p.1 (l.masked p.2)).complete .qspi ⟨0, true⟩).half h =
        ((s.half h).writePlain p.1 (l.masked p.2)).complete .qspi ⟨0, true⟩ := State.on_half ..
    obtain ⟨y, ws, quiet, runs, written, kept⟩ :=
      ih (s := s.on h fun y => (y.writePlain p.1 (l.masked p.2)).complete .qspi ⟨0, true⟩) (words := words ++ [0])
        (by rw [own]; exact Half.complete_rest _ _ (set.acc ▸ rest))
        (fun p' hp' => by
          obtain ⟨l', word'⟩ := plain p' (List.mem_cons_of_mem _ hp')
          exact ⟨l', by rw [own]; exact word'.of_same (by rw [Half.complete_regions, set.same])⟩)
        (fun p' hp' => by rw [own, word.after, takes p' (List.mem_cons_of_mem _ hp')]) apart
    rw [own] at kept
    refine ⟨y, ws, quiet, ?_, fun p' hp' l' hl' => ?_, fun b hb => ?_⟩
    · rw [State.frameRun, Bool.not_false, word.write rest (takes p List.mem_cons_self)]
      simp only [runs, State.on_on]
    · obtain rfl | hp' := List.mem_cons.1 hp'
      · obtain rfl : l = l' := Option.some.inj (word.at_.symm.trans hl')
        rw [kept _ new, Half.complete_rd, set.self]
      · exact written p' hp' l' hl'
    · simp only [List.map_cons, List.mem_cons, not_or] at hb
      rw [kept b hb.2, Half.complete_rd, set.others b (by simpa using hb.1)]

/-! What a frame comes to (R46, R47, R51). -/

section kinds
variable {addr : Word} {count crc dataCrc : Byte} {data : List Word}

theorem State.PlainReads.word {as : List Nat} (p : s.PlainReads h as) {a : Nat} (ha : a ∈ as) : ∃ l, PlainWord (s.half h) a l := by
  obtain ⟨al, lt, reads, l, at_, plain, single, attr⟩ := p a ha
  exact ⟨l, al, lt, reads, at_, plain, single, attr⟩

/-- The words that a read frame answers: what each address shows. -/
def State.answerOf (s : State) (h : HalfId) (as : List Nat) : List Byte := (as.map fun a => beBytes 4 (s.asRead h a)).flatten ++ [0]

theorem State.asRead_word (a : Nat) : (BitVec.ofNat 32 (s.asRead h a)).toNat = s.asRead h a := by
  have small : s.asRead h a < 2 ^ 32 := by
    unfold State.asRead
    split
    · exact BitVec.isLt _
    · decide
  rw [BitVec.toNat_ofNat, Nat.mod_eq_of_lt small]

theorem Half.qspiReply_rd (x : Half) (read : Bool) (total : Nat) (words : List Word) (code a : Nat) :
    (x.qspiReply read total words code).rd a = x.rd a := rfl

theorem Half.qspiReply_still {x : Half} (rest : x.acc.still) (read : Bool) (total : Nat) (words : List Word) (code : Nat) :
    (x.qspiReply read total words code).acc.still := ⟨rfl, rest.2⟩

theorem Half.qspiReply_reads (x : Half) (n : Nat) (f : Nat → Nat) (s : State) (h : HalfId) :
    ∃ body, body = s.answerOf h ((List.range n).map f) ∧
      (x.qspiReply true n ((List.range n).map fun i => BitVec.ofNat 32 (s.asRead h (f i))) 0).acc.qspiOut = body ++ [crc8 body] := by
  have data : (List.range n).map (fun i => beBytes 4 (getAt ((List.range n).map fun i => BitVec.ofNat 32 (s.asRead h (f i))) i 0).toNat) =
      (List.range n).map fun i => beBytes 4 (s.asRead h (f i)) := List.map_congr_left fun i hi => by
    rw [getAt_map_range _ (List.mem_range.1 hi), State.asRead_word]
  refine ⟨_, rfl, ?_⟩
  simp only [Half.qspiReply, data, State.answerOf, List.map_map, Function.comp_def, if_true, true_or]
  rfl

/-- A read frame of plain words. -/
theorem completesAt_reads {c : Instr} {n : Nat} {f : Nat → Nat} (a : Asks s h .qspi) (plain : s.PlainReads h ((List.range n).map f))
    (run : exec c s = .next (s.frameRun h true n ((List.range n).map fun i => (f i, 0)) []).settle) :
    CompletesAt c h s fun x => SameRegs [] (s.half h) x ∧
      ∃ body, body = s.answerOf h ((List.range n).map f) ∧ x.acc.qspiOut = body ++ [crc8 body] := by
  obtain ⟨y, same, quiet, runs⟩ := State.frameRun_reads n ((List.range n).map fun i => (f i, 0)) [] (State.rest_half a.rest h) (by
    intro p hp
    obtain ⟨i, hi, rfl⟩ := List.mem_map.1 hp
    exact plain.word (List.mem_map.2 ⟨i, hi, rfl⟩))
  rw [List.nil_append, List.map_map] at runs
  refine completesAt_on (f := fun _ => _) (run.trans (congrArg _ ?_)) ⟨fun b _ => ?_, y.qspiReply_reads n f s h⟩
  · rw [runs]
    exact State.settle_still (State.still_of_on (State.rest_still a.rest) (Half.qspiReply_still quiet.still ..))
  · rw [Half.qspiReply_rd, same.rd]

theorem State.frame_readInc (a : Asks s h .qspi) (short : count.toNat < 64) (good : crc8 ([0x0B] ++ beBytes 4 addr.toNat ++ [count]) = crc) :
    s.frame h 0x0B addr count crc [] 0 =
      s.frameRun h true (count.toNat + 1) ((List.range (count.toNat + 1)).map fun i => (addr.toNat + 4 * i, 0)) [] := by
  obtain ⟨-, -, none_, host, -⟩ := State.rest_half a.rest h
  unfold State.frame
  simp only [good, a.answers, none_, show (s.half h).acc.host.stall = none from host.2.1]
  simp [Nat.not_le.2 short, Nat.mod_eq_of_lt short]

theorem State.frame_readPair (a : Asks s h .qspi) (short : count.toNat < 64) (even : count.toNat % 2 = 1)
    (good : crc8 ([0x0E] ++ beBytes 4 addr.toNat ++ [count]) = crc) :
    s.frame h 0x0E addr count crc [] 0 =
      s.frameRun h true (count.toNat + 1) ((List.range (count.toNat + 1)).map fun i => (addr.toNat + 4 * (i % 2), 0)) [] := by
  obtain ⟨-, -, none_, host, -⟩ := State.rest_half a.rest h
  unfold State.frame
  simp only [good, a.answers, none_, show (s.half h).acc.host.stall = none from host.2.1]
  simp [Nat.not_le.2 short, Nat.mod_eq_of_lt short, show (count.toNat + 1) % 2 = 0 by omega]

theorem State.frame_badCrc (a : Asks s h .qspi) (bad : crc8 ([0x0B] ++ beBytes 4 addr.toNat ++ [count]) ≠ crc) :
    s.frame h 0x0B addr count crc [] 0 = s.on h fun x => x.qspiReject true (count.toNat % 64 + 1) := by
  obtain ⟨-, -, none_, host, -⟩ := State.rest_half a.rest h
  have differs : (crc8 ([0x0B] ++ beBytes 4 addr.toNat ++ [count]) != crc) = true := by simpa only [bne_iff_ne] using bad
  unfold State.frame
  simp only [differs, a.answers, none_, show (s.half h).acc.host.stall = none from host.2.1]
  simp

theorem State.frame_writeInc (a : Asks s h .qspi) (short : count.toNat < 64) (good : crc8 ([0x02] ++ beBytes 4 addr.toNat ++ [count]) = crc) :
    s.frame h 0x02 addr count crc data dataCrc =
      if data.length ≠ count.toNat + 1 then s.on h Half.qspiAbandon
      else if crc8 ((data.map fun w => beBytes 4 w.toNat).flatten) ≠ dataCrc then s.on h fun x => x.qspiReject false (count.toNat + 1)
      else s.frameRun h false (count.toNat + 1) (data.zipIdx.map fun p => (addr.toNat + 4 * p.2, p.1)) [] := by
  obtain ⟨-, -, none_, host, -⟩ := State.rest_half a.rest h
  unfold State.frame
  simp only [good, a.answers, none_, show (s.half h).acc.host.stall = none from host.2.1]
  simp [Nat.not_le.2 short, Nat.mod_eq_of_lt short]

/-! Rejected and abandoned frames (R51). -/

theorem Half.qspiReject_shows (x : Half) (read : Bool) (n : Nat) :
    (x.qspiReject read n).get Adr.HOST_QSPI_ERRCNT 0 16 = min 0xFFFF (x.get Adr.HOST_QSPI_ERRCNT 0 16 + 1) ∧
      (x.qspiReject read n).bit Adr.HOST_EVENT 1 = true ∧ SameRegs [Adr.HOST_QSPI_ERRCNT, Adr.HOST_EVENT] x (x.qspiReject read n) ∧
      (x.acc.still → (x.qspiReject read n).acc.still) := by
  have rd := ((x.count Adr.HOST_QSPI_ERRCNT 0 16 1).event Adr.HOST_EVENT 1).qspiReply_rd read n [] 3
  refine ⟨?_, ?_, fun b hb => ?_, Half.qspiReply_still (x := (x.count Adr.HOST_QSPI_ERRCNT 0 16 1).event Adr.HOST_EVENT 1) (read := read)
    (total := n) (words := []) (code := 3)⟩
  · refine (Half.get_congr (rd _) 0 16).trans ?_
    rw [Half.get_congr (Half.rd_event_ne _ _ (by decide)), Half.count_eq, Half.get_put_self _ _ _ _ _ (by decide), satAdd_mod]
    exact Nat.min_comm _ _
  · exact (Half.bit_congr (rd _) 1).trans (Half.bit_putBit_self _ _ _ _ (by decide))
  · exact (rd b).trans ((((Writes.refl (· ∈ [Adr.HOST_QSPI_ERRCNT, Adr.HOST_EVENT]) x).count _ _ _ (by simp)).event _ (by simp)).keeps b hb)

theorem Half.qspiAbandon_shows (x : Half) :
    x.qspiAbandon.get Adr.HOST_QSPI_ERRCNT 16 16 = min 0xFFFF (x.get Adr.HOST_QSPI_ERRCNT 16 16 + 1) ∧
      x.qspiAbandon.bit Adr.HOST_EVENT 2 = true ∧ SameRegs [Adr.HOST_QSPI_ERRCNT, Adr.HOST_EVENT] x x.qspiAbandon := by
  refine ⟨?_, Half.bit_putBit_self _ _ _ _ (by decide),
    (((Writes.refl _ x).count _ _ _ (by simp)).event _ (by simp)).sameRegs⟩
  rw [Half.qspiAbandon, Half.get_congr (Half.rd_event_ne _ _ (by decide)), Half.count_eq, Half.get_put_self _ _ _ _ _ (by decide), satAdd_mod]
  exact Nat.min_comm _ _

/-- A command that comes to a change of its half after which nothing waits. -/
theorem completesAt_settled {c : Instr} {f : Half → Half} {P : Half → Prop} (run : exec c s = .next (s.on h f).settle) (other : (s.half h.other).acc.still)
    (still : (f (s.half h)).acc.still) (shows_ : P (f (s.half h))) : CompletesAt c h s P := by
  refine completesAt_on (run.trans (congrArg _ (State.settle_still ((State.still_iff _).2 fun k => ?_)))) shows_
  obtain rfl | rfl : k = h ∨ k = h.other := by cases k <;> cases h <;> decide
  · rw [State.on_half]
    exact still
  · rw [State.on_other]
    exact other

/-- A pop taken back moves its queue and its port. -/
theorem Half.cancelPop_keeps (x : Half) (q : Req) : (∀ a, (x.cancelPop q).rd a = x.rd a) ∧ ((x.cancelPop q).acc.port q).stall = none ∧
    (x.cancelPop q).acc.frame = x.acc.frame ∧ (x.cancelPop q).acc.host.backlog = x.acc.host.backlog ∧
    (x.cancelPop q).acc.mgmt.backlog = x.acc.mgmt.backlog := by
  unfold Half.cancelPop
  split
  next none_ => exact ⟨fun _ => rfl, none_, rfl, rfl, rfl⟩
  next => cases q <;> exact ⟨fun _ => rfl, rfl, rfl, rfl, rfl⟩

/-- The half after QSPI_ABORT. -/
def Half.qspiAborted (x : Half) : Half :=
  let y := (if x.acc.frame.isSome then x.cancelPop .qspi else x).setFrame none
  { y.qspiAbandon with acc := { y.acc with qspiOut := [] } }

theorem Half.qspiAborted_shows (x : Half) : x.qspiAborted.acc.frame = none ∧ x.qspiAborted.acc.qspiOut = [] ∧
    x.qspiAborted.get Adr.HOST_QSPI_ERRCNT 16 16 = min 0xFFFF (x.get Adr.HOST_QSPI_ERRCNT 16 16 + 1) ∧
    x.qspiAborted.bit Adr.HOST_EVENT 2 = true ∧ SameRegs [Adr.HOST_QSPI_ERRCNT, Adr.HOST_EVENT] x x.qspiAborted ∧
    x.qspiAborted.acc.host.backlog = x.acc.host.backlog ∧ x.qspiAborted.acc.mgmt.backlog = x.acc.mgmt.backlog := by
  obtain ⟨rd, host, mgmt⟩ : (∀ a, (if x.acc.frame.isSome then x.cancelPop .qspi else x).rd a = x.rd a) ∧
      (if x.acc.frame.isSome then x.cancelPop .qspi else x).acc.host.backlog = x.acc.host.backlog ∧
      (if x.acc.frame.isSome then x.cancelPop .qspi else x).acc.mgmt.backlog = x.acc.mgmt.backlog := by
    obtain ⟨rd, -, -, host, mgmt⟩ := x.cancelPop_keeps .qspi
    split
    · exact ⟨rd, host, mgmt⟩
    · exact ⟨fun _ => rfl, rfl, rfl⟩
  unfold Half.qspiAborted
  generalize (if x.acc.frame.isSome then x.cancelPop .qspi else x) = y at rd host mgmt ⊢
  obtain ⟨cnt, event, regs⟩ := (y.setFrame none).qspiAbandon_shows
  exact ⟨rfl, rfl, cnt.trans (congrArg (fun n => min 0xFFFF (n + 1)) (Half.get_congr (rd _) 16 16)), event,
    fun b hb => (regs b hb).trans (rd b), host, mgmt⟩

theorem qspiAbort_abandons (answers : (s.half h).answers .qspi = true) (host : (s.half h).acc.host.backlog = [])
    (mgmt : (s.half h).acc.mgmt.backlog = []) (other : (s.half h.other).acc.still) :
    CompletesAt (.qspiAbort h) h s fun x => x.acc.frame = none ∧ x.acc.qspiOut = [] ∧
      x.get Adr.HOST_QSPI_ERRCNT 16 16 = min 0xFFFF ((s.half h).get Adr.HOST_QSPI_ERRCNT 16 16 + 1) ∧
      x.bit Adr.HOST_EVENT 2 = true ∧ SameRegs [Adr.HOST_QSPI_ERRCNT, Adr.HOST_EVENT] (s.half h) x := by
  obtain ⟨frame, out, cnt, event, regs, host', mgmt'⟩ := (s.half h).qspiAborted_shows
  refine completesAt_settled (f := Half.qspiAborted) (congrArg (fun t : State => Host.Outcome.next t.settle) (State.on_congr ?_)) other
    ⟨frame, host'.trans host, mgmt'.trans mgmt⟩ ⟨frame, out, cnt, event, regs⟩
  simp only [answers, Bool.not_true, Bool.false_eq_true, if_false]
  rfl

theorem stalltimeout_abandons {f : QspiFrame} (host : (s.half h).acc.host.backlog = []) (mgmt : (s.half h).acc.mgmt.backlog = [])
    (other : (s.half h.other).acc.still) (frame : (s.half h).acc.frame = some f) :
    CompletesAt (.stalltimeout h) h s fun x => x.acc.frame = none ∧ x.acc.host.stall = none ∧ SameRegs [] (s.half h) x ∧
      (f.read = false → x.acc.qspiOut = (fun b : List Byte => b ++ [crc8 b]) [BitVec.ofNat 8 (4 * f.words.length + 2)]) := by
  obtain ⟨rd, stall, -, host', mgmt'⟩ := (s.half h).cancelPop_keeps .qspi
  refine completesAt_settled (f := fun x => (x.cancelPop .qspi).qspiReply f.read f.total f.words 2)
    (congrArg (fun t : State => Host.Outcome.next t.settle) (State.on_congr ?_)) other ⟨rfl, host'.trans host, mgmt'.trans mgmt⟩
    ⟨rfl, stall, fun b _ => rd b, fun write => ?_⟩
  · simp only [frame]
  · simp only [Half.qspiReply, write]
    rfl

/-! Frames from begin to end. -/

theorem readInc_answers (a : Asks s h .qspi) (short : count.toNat < 64) (good : crc8 ([0x0B] ++ beBytes 4 addr.toNat ++ [count]) = crc)
    (plain : s.PlainReads h ((List.range (count.toNat + 1)).map fun i => addr.toNat + 4 * i)) :
    CompletesAt (.readInc h 0x0B addr count crc) h s fun x => SameRegs [] (s.half h) x ∧
      ∃ body, body = ((List.range (count.toNat + 1)).map fun i => beBytes 4 (s.asRead h (addr.toNat + 4 * i))).flatten ++ [0] ∧
        x.acc.qspiOut = body ++ [crc8 body] := by
  have frame := completesAt_reads (c := .readInc h 0x0B addr count crc) a plain
    (congrArg (fun t : State => Host.Outcome.next t.settle) (State.frame_readInc a short good))
  rw [State.answerOf, List.map_map] at frame
  exact frame

theorem readPair_answers (a : Asks s h .qspi) (short : count.toNat < 64) (good : crc8 ([0x0E] ++ beBytes 4 addr.toNat ++ [count]) = crc)
    (even : count.toNat % 2 = 1) (plain : s.PlainReads h [addr.toNat, addr.toNat + 4]) :
    CompletesAt (.readPair h 0x0E addr count crc) h s fun x => SameRegs [] (s.half h) x ∧
      ∃ body, body = ((List.range (count.toNat + 1)).map fun i => beBytes 4 (s.asRead h (addr.toNat + 4 * (i % 2)))).flatten ++ [0] ∧
        x.acc.qspiOut = body ++ [crc8 body] := by
  have all : s.PlainReads h ((List.range (count.toNat + 1)).map fun i => addr.toNat + 4 * (i % 2)) := fun b hb => by
    obtain ⟨i, -, rfl⟩ := List.mem_map.1 hb
    refine plain _ ?_
    rcases Nat.mod_two_eq_zero_or_one i with e | e <;> simp [e]
  have frame := completesAt_reads (c := .readPair h 0x0E addr count crc) a all
    (congrArg (fun t : State => Host.Outcome.next t.settle) (State.frame_readPair a short even good))
  rw [State.answerOf, List.map_map] at frame
  exact frame

theorem writeInc_writes (a : Asks s h .qspi) (short : count.toNat < 64) (good : crc8 ([0x02] ++ beBytes 4 addr.toNat ++ [count]) = crc)
    (whole : data.length = count.toNat + 1) (sound : crc8 ((data.map fun w => beBytes 4 w.toNat).flatten) = dataCrc)
    (plain : s.PlainReads h ((List.range data.length).map fun i => addr.toNat + 4 * i))
    (takes : ∀ i, i < data.length → (s.half h).takes (addr.toNat + 4 * i) = true) :
    CompletesAt (.writeInc h 0x02 addr count crc data dataCrc) h s fun x => x.acc.qspiOut = [0, crc8 [0]] ∧
      (∀ i l, i < data.length → locate (addr.toNat + 4 * i) = some l → x.rd (addr.toNat + 4 * i) = l.masked (getAt data i 0)) ∧
      SameRegs ((List.range data.length).map fun i => addr.toNat + 4 * i) (s.half h) x := by
  have addresses : (data.zipIdx.map fun p => (addr.toNat + 4 * p.2, p.1)).map (·.1) = (List.range data.length).map fun i => addr.toNat + 4 * i := by
    rw [List.map_map, List.range_eq_range', ← List.zipIdx_map_snd, List.map_map]
    rfl
  have at_ : ∀ i, i < data.length → (addr.toNat + 4 * i, getAt data i 0) ∈ data.zipIdx.map fun p => (addr.toNat + 4 * p.2, p.1) := fun i hi =>
    List.mem_map.2 ⟨(getAt data i 0, i), by rw [List.mk_mem_zipIdx_iff_getElem?, getAt, List.getElem?_eq_getElem hi]; rfl, rfl⟩
  have within : ∀ p ∈ data.zipIdx.map (fun p => (addr.toNat + 4 * p.2, p.1)), ∃ i < data.length, p.1 = addr.toNat + 4 * i := fun p hp => by
    have : p.1 ∈ (data.zipIdx.map fun p => (addr.toNat + 4 * p.2, p.1)).map (·.1) := List.mem_map_of_mem hp
    rw [addresses] at this
    obtain ⟨i, hi, e⟩ := List.mem_map.1 this
    exact ⟨i, List.mem_range.1 hi, e.symm⟩
  obtain ⟨y, ws, quiet, runs, written, kept⟩ := State.frameRun_writes (count.toNat + 1) (data.zipIdx.map fun p => (addr.toNat + 4 * p.2, p.1)) []
    (State.rest_half a.rest h)
    (fun p hp => by
      obtain ⟨i, hi, e⟩ := within p hp
      exact plain.word (e ▸ List.mem_map.2 ⟨i, List.mem_range.2 hi, rfl⟩))
    (fun p hp => by
      obtain ⟨i, hi, e⟩ := within p hp
      exact e ▸ takes i hi)
    (addresses ▸ List.Nodup.map (fun i j e => by omega) List.nodup_range)
  have frame : s.frame h 0x02 addr count crc data dataCrc = s.on h fun _ => y.qspiReply false (count.toNat + 1) ws 0 := by
    rw [State.frame_writeInc a short good, if_neg (fun no => no whole), if_neg (fun no => no sound), runs]
  refine completesAt_settled (congrArg (fun t : State => Host.Outcome.next t.settle) frame) (State.rest_half a.rest h.other).still
    (Half.qspiReply_still quiet.still ..) ⟨rfl, fun i l hi hl => written _ (at_ i hi) l hl, addresses ▸ kept⟩

theorem writeInc_rejected (a : Asks s h .qspi) (short : count.toNat < 64) (good : crc8 ([0x02] ++ beBytes 4 addr.toNat ++ [count]) = crc)
    (whole : data.length = count.toNat + 1) (bad : crc8 ((data.map fun w => beBytes 4 w.toNat).flatten) ≠ dataCrc) :
    CompletesAt (.writeInc h 0x02 addr count crc data dataCrc) h s fun x => x.acc.qspiOut = [3, crc8 [3]] ∧
      x.get Adr.HOST_QSPI_ERRCNT 0 16 = min 0xFFFF ((s.half h).get Adr.HOST_QSPI_ERRCNT 0 16 + 1) ∧
      x.bit Adr.HOST_EVENT 1 = true ∧ SameRegs [Adr.HOST_QSPI_ERRCNT, Adr.HOST_EVENT] (s.half h) x := by
  obtain ⟨cnt, event, regs, still⟩ := (s.half h).qspiReject_shows false (count.toNat + 1)
  have frame : s.frame h 0x02 addr count crc data dataCrc = s.on h fun x => x.qspiReject false (count.toNat + 1) := by
    rw [State.frame_writeInc a short good, if_neg (fun no => no whole), if_pos bad]
  exact completesAt_settled (congrArg (fun t : State => Host.Outcome.next t.settle) frame) (State.rest_half a.rest h.other).still
    (still (State.rest_half a.rest h).still) ⟨rfl, cnt, event, regs⟩

theorem writeInc_cutShort (a : Asks s h .qspi) (short : count.toNat < 64) (good : crc8 ([0x02] ++ beBytes 4 addr.toNat ++ [count]) = crc)
    (cut : data.length ≠ count.toNat + 1) :
    CompletesAt (.writeInc h 0x02 addr count crc data dataCrc) h s fun x =>
      x.get Adr.HOST_QSPI_ERRCNT 16 16 = min 0xFFFF ((s.half h).get Adr.HOST_QSPI_ERRCNT 16 16 + 1) ∧
      x.bit Adr.HOST_EVENT 2 = true ∧ SameRegs [Adr.HOST_QSPI_ERRCNT, Adr.HOST_EVENT] (s.half h) x := by
  have frame : s.frame h 0x02 addr count crc data dataCrc = s.on h Half.qspiAbandon := by rw [State.frame_writeInc a short good, if_pos cut]
  exact completesAt_settled (congrArg (fun t : State => Host.Outcome.next t.settle) frame) (State.rest_half a.rest h.other).still
    (State.rest_half a.rest h).still (s.half h).qspiAbandon_shows

theorem readInc_rejected (a : Asks s h .qspi) (bad : crc8 ([0x0B] ++ beBytes 4 addr.toNat ++ [count]) ≠ crc) :
    CompletesAt (.readInc h 0x0B addr count crc) h s fun x =>
      x.get Adr.HOST_QSPI_ERRCNT 0 16 = min 0xFFFF ((s.half h).get Adr.HOST_QSPI_ERRCNT 0 16 + 1) ∧
      x.bit Adr.HOST_EVENT 1 = true ∧ SameRegs [Adr.HOST_QSPI_ERRCNT, Adr.HOST_EVENT] (s.half h) x := by
  obtain ⟨cnt, event, regs, still⟩ := (s.half h).qspiReject_shows true (count.toNat % 64 + 1)
  exact completesAt_settled (congrArg (fun t : State => Host.Outcome.next t.settle) (State.frame_badCrc a bad)) (State.rest_half a.rest h.other).still
    (still (State.rest_half a.rest h).still) ⟨cnt, event, regs⟩

end kinds
end frames

/-- Settles O52: a frame of plain words is its accesses one after the other; any other is rejected or abandoned, and counted. -/
theorem qspiFramesAreAnswered : Obligations.QspiFramesAreAnswered := fun _ _ _ _ _ _ =>
  ⟨fun a short => ⟨readInc_answers a short, readPair_answers a short, fun _ good =>
      ⟨writeInc_writes a short good, writeInc_rejected a short good, writeInc_cutShort a short good⟩⟩,
    readInc_rejected,
    fun answers host mgmt other => ⟨qspiAbort_abandons answers host mgmt other, fun _ => stalltimeout_abandons host mgmt other⟩⟩

end Sys2Proof.Machine
end

section
/-! O53: the queue manager (R415 to R434). -/

namespace Sys2Proof.Machine

open Sys2Proof

/-! Operations on a queue. -/

theorem Half.writeHeld_none {x : Half} {k : Nat} (none_ : (x.queue k).held = none) : x.writeHeld k = x := by
  simp only [Half.writeHeld, none_]

theorem Half.serveStall_none {x : Half} {k : Nat} (idle : (x.queue k).waiters = []) : x.serveStall k = x := by
  simp only [Half.serveStall, idle]

/-- Items that fit enter their queue whole (R421). -/
theorem Half.pushItems_accepts {x : Half} {k : Nat} {items : List (BitVec 64)} (held : (x.queue k).held = none) (idle : (x.queue k).waiters = [])
    (room : (x.queue k).items.length + items.length + 1 ≤ x.capacity k) (packets src : Nat) :
    x.pushItems k items packets src = x.setQueue k { x.queue k with items := (x.queue k).items ++ items } := by
  have cond : ((x.queue k).held.isNone && decide ((x.queue k).items.length + items.length + 1 ≤ x.capacity k)) = true := by simp [held, room]
  rw [Half.pushItems, if_pos cond]
  exact Half.serveStall_none (by rw [Half.queue_setQueue, if_pos rfl]; exact idle)

theorem Half.takeItem_of {x : Half} {k : Nat} {i : BitVec 64} {rest : List (BitVec 64)} (items : (x.queue k).items = i :: rest)
    (held : (x.queue k).held = none) : x.takeItem k .ok = (i, x.setQueue k (x.queue k).dropHead) ∧
      x.takeItem k .single = (i, (((x.setQueue k (x.queue k).dropHead).count (Adr.QM_CORR_CNT k) 0 16 1).event (Adr.Q_EVENT k) 0).life .queueCorr 1) ∧
      x.takeItem k .double = (mkItem true false true 0xE 0, (x.setQueue k (x.queue k).dropHead).event (Adr.Q_EVENT k) 1) := by
  have same : (x.setQueue k (x.queue k).dropHead).writeHeld k = x.setQueue k (x.queue k).dropHead :=
    Half.writeHeld_none (by rw [Half.queue_setQueue, if_pos rfl]; exact held)
  refine ⟨?_, ?_, ?_⟩
  all_goals simp only [Half.takeItem, items, same]

theorem Half.finishPop_shows (x : Half) (r : Req) (k : Nat) (v : BitVec 64) :
    ((x.finishPop r k v).acc.port r).resp = ⟨v.truncate 32, true⟩ ∧
      ((x.finishPop r k v).acc.port r).shadow = some (Adr.Q_POP_LO k, (v >>> 32).truncate 32) ∧ ((x.finishPop r k v).acc.port r).stall = none ∧
      (x.acc.still → (x.finishPop r k v).acc.still) := by cases r <;> exact ⟨rfl, rfl, rfl, fun quiet => quiet⟩

theorem Half.finishPop_rd (x : Half) (r : Req) (k : Nat) (v : BitVec 64) (a : Nat) : (x.finishPop r k v).rd a = x.rd a := rfl

theorem Half.finishPop_queue (x : Half) (r : Req) (k : Nat) (v : BitVec 64) (j : Nat) : (x.finishPop r k v).queue j = x.queue j := rfl

theorem getBits_word (v : Word) : getBits v 0 32 = v.toNat := by
  rw [getBits, Nat.pow_zero, Nat.div_one, Nat.mod_eq_of_lt v.isLt]

/-- A counter of a whole word. -/
theorem Half.rd_count_word (x : Half) (a d : Nat) : (x.count a 0 32 d).rd a = BitVec.ofNat 32 (min 0xFFFFFFFF ((x.rd a).toNat + d)) := by
  have field : (x.count a 0 32 d).get a 0 32 = satAdd 32 (x.get a 0 32) d := by
    rw [Half.count_eq, Half.get_put_self _ _ _ _ _ (by decide), satAdd_mod]
  rw [Half.get, Half.get, getBits_word, getBits_word] at field
  refine BitVec.eq_of_toNat_eq (field.trans ?_)
  rw [BitVec.toNat_ofNat, satAdd]
  omega

section queues
variable {s : State} {h : HalfId} {k : Fin 64}

/-! Packets (R421, R427). -/

theorem packetPush_accepted {items : List (BitVec 56)} (still : s.still) (up : (s.half h).up .memory = true) (user : 16 ≤ k.val)
    (graph : (s.half h).get (Adr.Q_CFG k) 28 3 = 2) (some_ : items ≠ []) (on : (s.half h).queueOn k = true) (held : ((s.half h).queue k).held = none)
    (idle : ((s.half h).queue k).waiters = []) (room : ((s.half h).queue k).items.length + items.length + 1 ≤ (s.half h).capacity k) :
    CompletesAt (.packetPush h k items) h s fun x => x.regs = (s.half h).regs ∧
      x.queue k = { (s.half h).queue k with items := ((s.half h).queue k).items ++ packetItems 9 (items.map fun d => d.toNat) } := by
  have push : (s.half h).graphPush k (items.map fun d => d.toNat) =
      (s.half h).setQueue k { (s.half h).queue k with items := ((s.half h).queue k).items ++ packetItems 9 (items.map fun d => d.toNat) } := by
    rw [Half.graphPush, if_neg (by omega), if_pos graph, Half.hwPush, if_neg (by simp [up, some_]), if_neg (by simp [on])]
    exact Half.pushItems_accepts held idle (by rw [length_packetItems, List.length_map]; exact room) 1 9
  have run : exec (.packetPush h k items) s = .next (s.on h fun x => x.graphPush k (items.map fun d => d.toNat)).settle := rfl
  refine completesAt_settled run (State.still_half still h.other) ?_ ?_
  all_goals simp only [push]
  · exact State.still_half still h
  · exact ⟨rfl, by rw [Half.queue_setQueue, if_pos rfl]⟩

theorem packetPush_dropped {items : List (BitVec 56)} (still : s.still) (up : (s.half h).up .memory = true) (user : 16 ≤ k.val)
    (graph : (s.half h).get (Adr.Q_CFG k) 28 3 = 2) (some_ : items ≠ []) (off : (s.half h).queueOn k = false) :
    CompletesAt (.packetPush h k items) h s fun x => x.queues = (s.half h).queues ∧
      x.rd (Adr.QM_DROP_CNT k) = BitVec.ofNat 32 (min 0xFFFFFFFF (((s.half h).rd (Adr.QM_DROP_CNT k)).toNat + items.length)) ∧
      SameRegs [Adr.QM_DROP_CNT k] (s.half h) x := by
  have push : (s.half h).graphPush k (items.map fun d => d.toNat) = (s.half h).count (Adr.QM_DROP_CNT k) 0 32 items.length := by
    rw [Half.graphPush, if_neg (by omega), if_pos graph, Half.hwPush, if_neg (by simp [up, some_]), if_pos (by simp [off]), List.length_map]
  have run : exec (.packetPush h k items) s = .next (s.on h fun x => x.graphPush k (items.map fun d => d.toNat)).settle := rfl
  refine completesAt_settled run (State.still_half still h.other) ?_ ?_
  all_goals simp only [push]
  · exact State.still_half still h
  · exact ⟨rfl, Half.rd_count_word _ _ _, fun b hb => Half.rd_count_ne _ _ _ _ (by simpa using hb)⟩

/-! Pushes of a host (R422). -/

theorem pushHi_kind (k : Fin 64) : kindAt (Adr.Q_PUSH_HI k) = some ⟨.wo, .pushHi, .imm, .hi, k, 0, 0xFFFFFFFF⟩ := by revert k; decide

section push
variable {q : Req} {data : Word}

theorem Half.hostPushItem_still (x : Half) (lo : Word) (quiet : x.acc.still) : (x.hostPushItem q k lo data).acc.still := by
  unfold Half.hostPushItem
  split
  · exact quiet
  · exact (Half.pushItems_pushed _ _ _ _ _).still quiet

section words
variable {a : Nat} {l : Loc} {c : Instr}

/-- The push port of queue k. -/
structure PushPort (l : Loc) (k a : Nat) : Prop where
  al : a % 4 = 0
  lt : a < 0x8000000
  le : 4 ≤ a
  at_ : locate a = some l
  kind : l.kind = ⟨.wo, .pushHi, .imm, .hi, k, 0, 0xFFFFFFFF⟩

theorem pushPort (k : Fin 64) : ∃ l, PushPort l k (Adr.Q_PUSH_HI k) := by
  obtain ⟨l, hl, kind⟩ := locate_of_kindAt (pushHi_kind k)
  exact ⟨l, by simp only [Adr.Q_PUSH_HI]; omega, by simp only [Adr.Q_PUSH_HI]; omega, by simp only [Adr.Q_PUSH_HI]; omega, hl, kind⟩

/-- An item that the push port of a queue takes (R422). -/
structure Fits (x : Half) (q : Req) (k : Nat) : Prop where
  named : x.isProducer k q = true
  on : x.queueOn k = true
  held : (x.queue k).held = none
  idle : (x.queue k).waiters = []
  room : (x.queue k).items.length + 2 ≤ x.capacity k

theorem Half.hostPushItem_accepts {x : Half} {lo : Word} (fits : Fits x q k) :
    x.hostPushItem q k lo data = x.setQueue k { x.queue k with items := (x.queue k).items ++
      [mkItem (bitAt data 30) false false (pushSrc q) (lo.toNat + 2 ^ 32 * getBits data 0 24)] } := by
  rw [Half.hostPushItem, if_neg (by simp [fits.named, fits.on])]
  exact Half.pushItems_accepts (items := [_]) fits.held fits.idle fits.room _ _

/-- What an accepted push of one item shows. -/
theorem Half.hostPushItem_shows {x : Half} {lo : Word} (fits : Fits x q k) :
    SameRegs [] x (x.hostPushItem q k lo data) ∧ ((x.hostPushItem q k lo data).queue k).items = (x.queue k).items ++
      [mkItem (bitAt data 30) false false (pushSrc q) (lo.toNat + 2 ^ 32 * getBits data 0 24)] := by
  rw [Half.hostPushItem_accepts fits, Half.queue_setQueue, if_pos rfl]
  exact ⟨fun _ _ => rfl, rfl⟩

theorem Half.capacity_acc (x : Half) (A : AccessSt) (k : Nat) : ({ x with acc := A } : Half).capacity k = x.capacity k := rfl

theorem Fits.of_acc {x y : Half} (fits : Fits x q k) (w : AccOnly x y) : Fits y q k := by
  obtain ⟨named, on, held, idle, room⟩ := fits
  rw [w.same]
  exact ⟨named, on, held, idle, by rw [Half.capacity_acc]; exact room⟩

theorem Half.complete_queue (x : Half) (q : Req) (r : Resp) (j : Nat) : (x.complete q r).queue j = x.queue j := rfl

theorem hostPush_alone (port : PushPort l k a) (g : Grants s h q a) (fits : Fits (s.half h) q k) (run : exec c s = .next (s.write h q a data)) :
    Accepted c h q s fun x => SameRegs [] (s.half h) x ∧
      (x.queue k).items = ((s.half h).queue k).items ++ [mkItem (bitAt data 30) false false (pushSrc q) (2 ^ 32 * getBits data 0 24)] := by
  have rest := State.rest_half g.asks.rest h
  have shows_ := Half.hostPushItem_shows (data := data) (lo := 0) fits
  rw [show (0 : Word).toNat = 0 from rfl, Nat.zero_add] at shows_
  obtain ⟨same, items⟩ := shows_
  have hook : l.reg.hook = .pushHi := congrArg Kind.hook port.kind
  have attr : l.reg.attr = .wo := congrArg Kind.attr port.kind
  refine accepted_store (d := data.setWidth 64) (f := fun x => x.hostPushItem q k 0 data) run g port.al port.lt port.at_ (by rw [attr]; decide) ?_
    (Half.hostPushItem_still _ _ rest.still) ⟨fun b hb => (Half.complete_rd ..).trans (same b hb), ?_⟩
  case refine_2 => rw [Half.complete_queue, items]
  rw [State.setWidth_word, State.storeWord_hi (.inr attr) (congrArg Kind.wide port.kind) rest.2.1 (AccessSt.rest_port rest q).1,
    State.putReg_imm (by rw [hook]; rfl) (congrArg Kind.cls port.kind), Loc.masked, show l.mask = 0xFFFFFFFF from congrArg Kind.mask port.kind,
    masked_full]
  simp only [Half.actEarly, Half.actLate, hook, Option.getD_none, show l.i = k from congrArg Kind.i port.kind]

theorem hostPush_pair {lo : Word} {s0 : State} (port : PushPort l k a) (g : Grants s h q a) (fits : Fits (s.half h) q k)
    (pending : s0 = s.on h fun x => x.onPort q fun p => { p with heldLo := some (a - 4, lo) }) (run : exec c s0 = .next (s0.write h q a data)) :
    Accepted c h q s0 fun x => SameRegs [] (s.half h) x ∧
      (x.queue k).items = ((s.half h).queue k).items ++
        [mkItem (bitAt data 30) false false (pushSrc q) (lo.toNat + 2 ^ 32 * getBits data 0 24)] := by
  obtain ⟨same, items⟩ := Half.hostPushItem_shows (x := ((s.half h).onPort q fun p => { p with heldLo := some (a - 4, lo) }).onPort q
    fun p => { p with heldLo := none }) (data := data) (lo := lo) (q := q) (k := k)
    (fits.of_acc ⟨rfl⟩)
  refine accepted_afterLo (f := fun x => (x.onPort q fun p => { p with heldLo := none }).hostPushItem q k lo data) g port.le port.al port.lt port.at_
    (congrArg Kind.wide port.kind) (.inr (congrArg Kind.attr port.kind)) pending run (fun t => ?_)
    (fun x quiet => Half.hostPushItem_still _ _ (by cases q <;> exact quiet)) ⟨fun b hb => (Half.complete_rd ..).trans (same b hb), ?_⟩
  case refine_2 => rw [Half.complete_queue, items]; rfl
  unfold State.writePair
  rw [show l.reg.hook = .pushHi from congrArg Kind.hook port.kind, show l.i = k from congrArg Kind.i port.kind]
  exact State.on_on ..

end words
end push
/-! Pops (R423, R424, R430). -/

theorem popLo_kind (k : Fin 64) : kindAt (Adr.Q_POP_LO k) = some ⟨.ro, .popLo, .imm, .lo, k, 0, 0xFFFFFFFF⟩ := by revert k; decide

section pop
variable {q : Req} {ecc : Ecc}

theorem pop_runs (g : Asks s h q) (reads : (s.half h).reads (Adr.Q_POP_LO k) = true) (quiet : ((s.half h).popQueue q k ecc).acc.still) :
    exec (.pop h q k ecc) s = .next (s.on h fun x => x.popQueue q k ecc) := by
  obtain ⟨l, hl, kind⟩ := locate_of_kindAt (popLo_kind k)
  have al : Adr.Q_POP_LO k % 4 = 0 := by simp only [Adr.Q_POP_LO]; omega
  have lt : Adr.Q_POP_LO k < 0x8000000 := by simp only [Adr.Q_POP_LO]; omega
  have rest := State.rest_half g.rest h
  have run : exec (.pop h q k ecc) s = .next (s.issue h q (Adr.Q_POP_LO k) .w32 false 0 ecc) := rfl
  generalize Adr.Q_POP_LO k = a at *
  have access : (s.access h q ⟨a, .w32, false, 0, ecc⟩).2 = s.on h fun x => x.popQueue q k ecc := by
    have word : ∃ w, s.readWord h q l a ⟨a, .w32, false, 0, ecc⟩ = (w, s.on h fun x => x.popQueue q k ecc) ∧
        ((∃ v, w = .popped v) ∨ w = .stalled) := by
      unfold State.readWord State.popAt
      rw [show l.reg.hook = .popLo from congrArg Kind.hook kind, show l.i = k from congrArg Kind.i kind]
      simp only
      split
      · exact ⟨_, rfl, .inr rfl⟩
      · exact ⟨_, rfl, .inl ⟨_, rfl⟩⟩
    obtain ⟨w, word, kinds⟩ := word
    have direct := (State.direct_read (v := 0) (e := ecc) al hl (Half.refuses_reads (Or.inl g.own) hl reads) rest.2.1).trans word
    rw [State.access, if_neg (by simp only; omega), State.local_direct lt (Half.dropHeldLo_rest q _ rest), direct]
    rcases kinds with ⟨v, rfl⟩ | rfl <;> rfl
  rw [run, g.ready.issue a (by decide)]
  exact congrArg _ ((congrArg State.settle access).trans (State.settle_still (State.still_of_on g.ready.still quiet)))

/-- A pop that ends at once. -/
theorem accepted_pop {y : Half} {v : BitVec 64} {P : Half → Prop} (g : Asks s h q) (reads : (s.half h).reads (Adr.Q_POP_LO k) = true)
    (ends : (s.half h).popQueue q k ecc = y.finishPop q k v) (quiet : (s.half h).acc.still → y.acc.still) (shows_ : P (y.finishPop q k v)) :
    Accepted (.pop h q k ecc) h q s P := by
  obtain ⟨resp, -, -, still⟩ := y.finishPop_shows q k v
  have shared := State.shared_ext (State.on_shared s h fun x => x.popQueue q k ecc)
  refine ⟨_, pop_runs g reads (ends ▸ still (quiet (State.rest_half g.rest h).still)), ?_, ?_, State.on_other .., shared.2, shared.1⟩
  · rw [State.on_half, ends, resp]
  · rw [State.on_half, ends]
    exact shows_

theorem Half.popQueue_item {x : Half} {i : BitVec 64} {rest : List (BitVec 64)} (named : x.isConsumer k q = true) (on : x.queueOn k = true)
    (items : (x.queue k).items = i :: rest) : x.popQueue q k ecc = ((x.takeItem k ecc).2).finishPop q k (x.takeItem k ecc).1 := by
  rw [Half.popQueue]
  simp only [named, on, Bool.not_true, Bool.or_self, Bool.false_eq_true, if_false, items, List.isEmpty_cons]

section item
variable {i : BitVec 64} {rest : List (BitVec 64)} (g : Asks s h q) (reads : (s.half h).reads (Adr.Q_POP_LO k) = true)
  (named : (s.half h).isConsumer k q = true) (on : (s.half h).queueOn k = true) (items : ((s.half h).queue k).items = i :: rest)
  (held : ((s.half h).queue k).held = none)
include g reads named on items held

theorem pop_takes : Accepted (.pop h q k .ok) h q s fun x => (x.queue k).items = rest ∧ (x.acc.port q).resp.data = i.truncate 32 ∧
    (x.acc.port q).shadow = some (Adr.Q_POP_LO k, (i >>> 32).truncate 32) ∧ SameRegs [] (s.half h) x := by
  have ends := Half.popQueue_item (ecc := .ok) named on items
  rw [(Half.takeItem_of items held).1] at ends
  obtain ⟨resp, shadow, -, -⟩ := ((s.half h).setQueue k ((s.half h).queue k).dropHead).finishPop_shows q k i
  refine accepted_pop g reads ends (fun quiet => quiet) ⟨?_, by rw [resp], shadow, fun _ _ => rfl⟩
  rw [Half.finishPop_queue, Half.queue_setQueue, if_pos rfl, Queue.dropHead, items]
  rfl

/-- The half after a pop of a word with one bit wrong (R430). -/
def Half.popSingle (x : Half) (k : Nat) : Half :=
  (((x.setQueue k (x.queue k).dropHead).count (Adr.QM_CORR_CNT k) 0 16 1).event (Adr.Q_EVENT k) 0).life .queueCorr 1

omit g reads named on items held in
theorem Half.popSingle_shows (x : Half) {k : Nat} (hk : k < 64) : (x.popSingle k).bit (Adr.Q_EVENT k) 0 = true ∧
    (x.popSingle k).get (Adr.QM_CORR_CNT k) 0 16 = min 0xFFFF (x.get (Adr.QM_CORR_CNT k) 0 16 + 1) ∧
    SameRegs [Adr.QM_CORR_CNT k, Adr.Q_EVENT k] x (x.popSingle k) ∧ (x.popSingle k).acc = x.acc := by
  have apart : Adr.QM_CORR_CNT k ≠ Adr.Q_EVENT k := by simp only [Adr.QM_CORR_CNT, Adr.Q_EVENT]; omega
  refine ⟨?_, ?_, fun b hb => ?_, rfl⟩
  · rw [Half.popSingle, Half.life_bit]
    exact Half.bit_putBit_self _ _ _ _ (by decide)
  · rw [Half.popSingle, Half.life_get, Half.get_congr (Half.rd_event_ne _ _ apart), Half.count_eq, Half.get_put_self _ _ _ _ _ (by decide),
      satAdd_mod]
    exact Nat.min_comm _ _
  · simp only [List.mem_cons, List.not_mem_nil, or_false, not_or] at hb
    show ((((x.setQueue k (x.queue k).dropHead).count (Adr.QM_CORR_CNT k) 0 16 1).event (Adr.Q_EVENT k) 0)).rd b = _
    rw [Half.rd_event_ne _ _ hb.2, Half.rd_count_ne _ _ _ _ hb.1]
    rfl

theorem pop_corrects : Accepted (.pop h q k .single) h q s fun x => (x.acc.port q).resp.data = i.truncate 32 ∧ x.bit (Adr.Q_EVENT k) 0 = true ∧
    x.get (Adr.QM_CORR_CNT k) 0 16 = min 0xFFFF ((s.half h).get (Adr.QM_CORR_CNT k) 0 16 + 1) ∧
    SameRegs [Adr.QM_CORR_CNT k, Adr.Q_EVENT k] (s.half h) x := by
  have ends : (s.half h).popQueue q k .single = ((s.half h).popSingle k).finishPop q k i := by
    rw [Half.popQueue_item named on items, (Half.takeItem_of items held).2.1]
    rfl
  obtain ⟨event, cnt, regs, acc⟩ := (s.half h).popSingle_shows k.isLt
  obtain ⟨resp, -, -, -⟩ := ((s.half h).popSingle k).finishPop_shows q k i
  exact accepted_pop g reads ends (fun quiet => acc ▸ quiet) ⟨by rw [resp], event, cnt, regs⟩

theorem pop_poisons : Accepted (.pop h q k .double) h q s fun x => (x.acc.port q).resp.data = 0 ∧
    (x.acc.port q).shadow = some (Adr.Q_POP_LO k, 0xDE000000#32) ∧ x.bit (Adr.Q_EVENT k) 1 = true ∧ SameRegs [Adr.Q_EVENT k] (s.half h) x := by
  have ends := Half.popQueue_item (ecc := .double) named on items
  rw [(Half.takeItem_of items held).2.2] at ends
  have word : (mkItem true false true 0xE 0).truncate 32 = (0 : Word) ∧ (mkItem true false true 0xE 0 >>> 32).truncate 32 = 0xDE000000#32 := by decide
  obtain ⟨resp, shadow, -, -⟩ := (((s.half h).setQueue k ((s.half h).queue k).dropHead).event (Adr.Q_EVENT k) 1).finishPop_shows q k
    (mkItem true false true 0xE 0)
  refine accepted_pop g reads ends (fun quiet => quiet) ⟨by rw [resp]; exact word.1, shadow.trans (by rw [word.2]), ?_, fun b hb => ?_⟩
  · rw [Half.bit_congr (Half.finishPop_rd ..)]
    exact Half.bit_putBit_self _ _ _ _ (by decide)
  · rw [Half.finishPop_rd, Half.rd_event_ne _ _ (by simpa using hb)]
    rfl

end item

theorem Half.popQueue_empty {x : Half} (own : q ≠ .partner) (named : x.isConsumer k q = true) (on : x.queueOn k = true)
    (items : (x.queue k).items = []) : x.popQueue q k ecc =
      if x.get (Adr.Q_CFG k) 0 10 = 0 then x.finishPop q k 0
      else (x.setQueue k { x.queue k with waiters := (x.queue k).waiters ++ [q] }).onPort q fun p => { p with stall := some k } := by
  rw [Half.popQueue]
  simp only [named, on, Bool.not_true, Bool.or_self, Bool.false_eq_true, if_false, items, List.isEmpty_nil, if_true, own, false_or]

theorem pop_zero (g : Asks s h q) (reads : (s.half h).reads (Adr.Q_POP_LO k) = true) (named : (s.half h).isConsumer k q = true)
    (on : (s.half h).queueOn k = true) (items : ((s.half h).queue k).items = []) (limit : (s.half h).get (Adr.Q_CFG k) 0 10 = 0) :
    Accepted (.pop h q k ecc) h q s fun x => (x.acc.port q).resp.data = 0 ∧ x.queues = (s.half h).queues ∧ SameRegs [] (s.half h) x := by
  have ends := (Half.popQueue_empty (ecc := ecc) g.own named on items).trans (if_pos limit)
  obtain ⟨resp, -, -, -⟩ := (s.half h).finishPop_shows q k 0
  exact accepted_pop g reads ends (fun quiet => quiet) ⟨by rw [resp]; rfl, rfl, fun _ _ => rfl⟩

theorem pop_stalls (g : Asks s h q) (reads : (s.half h).reads (Adr.Q_POP_LO k) = true) (named : (s.half h).isConsumer k q = true)
    (on : (s.half h).queueOn k = true) (items : ((s.half h).queue k).items = []) (limit : (s.half h).get (Adr.Q_CFG k) 0 10 ≠ 0) :
    CompletesAt (.pop h q k ecc) h s fun x => (x.acc.port q).stall = some k.val ∧
      (x.queue k).waiters = ((s.half h).queue k).waiters ++ [q] ∧ SameRegs [] (s.half h) x := by
  have ends := (Half.popQueue_empty (ecc := ecc) g.own named on items).trans (if_neg limit)
  have still := (State.rest_half g.rest h).still
  refine completesAt_on (pop_runs g reads ?_) ?_
  all_goals rw [ends]
  · cases q <;> exact still
  · refine ⟨congrArg Port.stall (AccessSt.port_setPort ..), ?_, fun _ _ => rfl⟩
    show (((s.half h).setQueue k _).queue k).waiters = _
    rw [Half.queue_setQueue, if_pos rfl]

/-- A stall that ends gives 0 and takes nothing (R424). -/
theorem stallTimeout_ends (stall : ((s.half h).acc.port q).stall = some k.val) (still : s.still) :
    CompletesAt (.stallTimeout h q k) h s fun x => (x.acc.port q).stall = none ∧ (x.acc.port q).resp = ⟨0, true⟩ ∧
      (x.queue k).items = ((s.half h).queue k).items ∧ q ∉ (x.queue k).waiters ∧ SameRegs [] (s.half h) x := by
  have run : exec (.stallTimeout h q k) s = .next (s.on h fun x => (x.cancelPop q).finishPop q k 0).settle :=
    congrArg (fun t : State => Host.Outcome.next t.settle) (State.on_congr (if_pos stall))
  obtain ⟨rd, -, frame, host, mgmt⟩ := (s.half h).cancelPop_keeps q
  obtain ⟨frame0, host0, mgmt0⟩ := State.still_half still h
  obtain ⟨resp, -, none_, quiet⟩ := ((s.half h).cancelPop q).finishPop_shows q k 0
  have queue : ((s.half h).cancelPop q).queue k = { (s.half h).queue k with waiters := ((s.half h).queue k).waiters.filter (· != q) } := by
    unfold Half.cancelPop
    simp only [stall]
    exact (Half.queue_setQueue ..).trans (if_pos rfl)
  refine completesAt_settled run (State.still_half still h.other) (quiet ⟨frame.trans frame0, host.trans host0, mgmt.trans mgmt0⟩)
    ⟨none_, resp, ?_, ?_, fun b _ => rd b⟩
  · rw [Half.finishPop_queue, queue]
  · rw [Half.finishPop_queue, queue]
    simp

end pop

/-- A held gap marker is written where a word is free (R427). -/
theorem heldMarkerWrite_writes {gap : HeldGap} (still : s.still) (up : (s.half h).up .memory = true) (held : ((s.half h).queue k).held = some gap)
    (idle : ((s.half h).queue k).waiters = []) (room : ((s.half h).queue k).items.length + 1 ≤ (s.half h).capacity k) :
    CompletesAt (.heldMarkerWrite h k) h s fun x => x.regs = (s.half h).regs ∧
      x.queue k = { (s.half h).queue k with items := ((s.half h).queue k).items ++ [gapMarker gap], held := none } := by
  have writes : ((s.half h).writeHeld k).serveStall k =
      (s.half h).setQueue k { (s.half h).queue k with items := ((s.half h).queue k).items ++ [gapMarker gap], held := none } := by
    have first : (s.half h).writeHeld k =
        (s.half h).setQueue k { (s.half h).queue k with items := ((s.half h).queue k).items ++ [gapMarker gap], held := none } := by
      simp only [Half.writeHeld, held, if_pos room]
    rw [first]
    exact Half.serveStall_none (by rw [Half.queue_setQueue, if_pos rfl]; exact idle)
  have run : exec (.heldMarkerWrite h k) s = .next (s.on h fun x => (x.writeHeld k).serveStall k).settle :=
    congrArg (fun t : State => Host.Outcome.next t.settle) (State.on_congr (if_pos up))
  refine completesAt_settled run (State.still_half still h.other) ?_ ?_
  all_goals rw [writes]
  · exact State.still_half still h
  · exact ⟨rfl, by rw [Half.queue_setQueue, if_pos rfl]⟩

/-! Enabling, disabling, flushing (R420, R433, R434). -/

theorem qCtrl_kind (k : Fin 64) : kindAt (Adr.Q_CTRL k) = some ⟨.rw, .qCtrl, .imm, .single, k, 0, 3⟩ := by revert k; decide

theorem qCtrl_does (q : Req) (a i j mask : Nat) : (Kind.mk .rw .qCtrl .imm .single i j mask).Does q a fun x v => x.writeQCtrl i v :=
  fun l hook hi _ x v => by simp only [Half.actEarly, Half.actLate, hook, hi, Option.getD_none]

/-- Queue k with its stalled pops ended and nothing in it. -/
def Half.emptied (x : Half) (k : Nat) : Half := (x.endStalls k).setQueue k Queue.empty

theorem Half.emptied_shows (x : Half) (k : Nat) :
    (∀ a, (x.emptied k).rd a = x.rd a) ∧ (x.emptied k).queue k = Queue.empty ∧ (x.acc.still → (x.emptied k).acc.still) := by
  have pops : ∀ (ws : List Req) (y : Half), (∀ a, (ws.foldl (fun x r => x.finishPop r k 0) y).rd a = y.rd a) ∧
      (y.acc.still → (ws.foldl (fun x r => x.finishPop r k 0) y).acc.still) := fun ws => by
    induction ws with
    | nil => exact fun y => ⟨fun _ => rfl, fun quiet => quiet⟩
    | cons r ws ih =>
      intro y
      obtain ⟨rd, still⟩ := ih (y.finishPop r k 0)
      exact ⟨fun a => (rd a).trans (y.finishPop_rd r k 0 a), fun quiet => still ((y.finishPop_shows r k 0).2.2.2 quiet)⟩
  obtain ⟨rd, still⟩ := pops (x.queue k).waiters (x.setQueue k { x.queue k with waiters := [] })
  exact ⟨rd, by rw [Half.emptied, Half.queue_setQueue, if_pos rfl], still⟩

/-- EN and FAULTED of queue k as given. -/
def Half.setEn (x : Half) (k : Nat) (en : Bool) : Half := (x.putBit (Adr.Q_CTRL k) 0 en).putBit (Adr.Q_STATUS k) 1 false

theorem Half.setEn_shows (x : Half) (k : Nat) (en : Bool) : (x.setEn k en).bit (Adr.Q_CTRL k) 0 = en ∧ (x.setEn k en).queueOn k = en ∧
    SameRegs [Adr.Q_CTRL k, Adr.Q_STATUS k] x (x.setEn k en) := by
  have apart : Adr.Q_CTRL k ≠ Adr.Q_STATUS k := by simp only [Adr.Q_CTRL, Adr.Q_STATUS]; omega
  have ctrl : (x.setEn k en).bit (Adr.Q_CTRL k) 0 = en := by
    rw [Half.setEn, Half.bit_congr (Half.rd_putBit_ne _ _ _ apart), Half.bit_putBit_self _ _ _ _ (by decide)]
  refine ⟨ctrl, ?_, (((Writes.refl _ x).putBit _ _ (by simp)).putBit _ _ (by simp)).sameRegs⟩
  rw [Half.queueOn, ctrl, Half.setEn, Half.bit_putBit_self _ _ _ _ (by decide), Bool.not_false, Bool.and_true]

section ctrl
variable {q : Req}

/-- A write of a queue's CTRL. -/
theorem accepted_qCtrl {c : Instr} {v : Word} {y : Half} {P : Half → Prop} (g : Grants s h q (Adr.Q_CTRL k))
    (run : exec c s = .next (s.write h q (Adr.Q_CTRL k) v)) (low : BitVec.ofNat 32 (v.toNat &&& 3) = v) (value : (s.half h).writeQCtrl k v = y)
    (still : (s.half h).acc.still → y.acc.still) (shows_ : ∀ x, AccOnly y x → P x) : Accepted c h q s P :=
  accepted_write run g (by simp only [Adr.Q_CTRL]; omega) (by simp only [Adr.Q_CTRL]; omega) (qCtrl_kind k) rfl (qCtrl_does q _ _ _ _) low value still
    shows_

theorem AccOnly.queue {x y : Half} (w : AccOnly x y) (j : Nat) : y.queue j = x.queue j := by rw [Half.queue, w.queues]; rfl

theorem AccOnly.queueOn {x y : Half} (w : AccOnly x y) (j : Nat) : y.queueOn j = x.queueOn j := by rw [Half.queueOn, w.bit, w.bit]; rfl

theorem bits_of_ctrl : (bitAt 0 0 = false ∧ bitAt 0 1 = false) ∧ (bitAt 1 0 = true ∧ bitAt 1 1 = false) ∧ (bitAt 2 0 = false ∧ bitAt 2 1 = true) ∧
    bitAt 3 0 = true ∧ bitAt 3 1 = true := by decide

theorem Half.writeQCtrl_cases (x : Half) (k : Nat) : x.writeQCtrl k 0 = x.disableQueue k ∧ x.writeQCtrl k 1 = x.enableQueue k ∧
    x.writeQCtrl k 2 = (x.flushQueue k).disableQueue k ∧ x.writeQCtrl k 3 = (x.flushQueue k).enableQueue k := by
  obtain ⟨zero, one, two, three⟩ := bits_of_ctrl
  simp only [Half.writeQCtrl, zero, one, two, three, Bool.false_eq_true, if_false, if_true, and_self]

theorem queueEnable_starts (g : Grants s h q (Adr.Q_CTRL k)) (off : (s.half h).bit (Adr.Q_CTRL k) 0 = false) (may : (s.half h).enableRefusal k = none) :
    Accepted (.queueEnable h q k) h q s fun x => x.queue k = Queue.empty ∧ x.queueOn k = true ∧
      SameRegs [Adr.Q_CTRL k, Adr.Q_STATUS k] (s.half h) x := by
  obtain ⟨-, one, -, -⟩ := (s.half h).writeQCtrl_cases k
  obtain ⟨-, on, regs⟩ := ((s.half h).setQueue k Queue.empty).setEn_shows k true
  have writes : (s.half h).writeQCtrl k 1 = ((s.half h).setQueue k Queue.empty).setEn k true := by
    rw [one, Half.enableQueue, if_neg (by simp [off]), may]
    rfl
  refine accepted_qCtrl (v := 1) g rfl (by decide) writes (fun quiet => quiet) fun x hx => ⟨?_, (hx.queueOn k).trans on, fun b hb => (hx.rd b).trans (regs b hb)⟩
  rw [hx.queue]
  show ((s.half h).setQueue k Queue.empty).queue k = Queue.empty
  rw [Half.queue_setQueue, if_pos rfl]

theorem queueEnable_refused {cause : Nat} (g : Grants s h q (Adr.Q_CTRL k)) (off : (s.half h).bit (Adr.Q_CTRL k) 0 = false)
    (refusal : (s.half h).enableRefusal k = some cause) : Accepted (.queueEnable h q k) h q s fun x => x.get (Adr.Q_FAULT k) 0 16 = cause ∧
      x.queues = (s.half h).queues ∧ SameRegs [Adr.Q_FAULT k] (s.half h) x := by
  obtain ⟨-, one, -, -⟩ := (s.half h).writeQCtrl_cases k
  have writes : (s.half h).writeQCtrl k 1 = (s.half h).latch (Adr.Q_FAULT k) cause := by
    rw [one, Half.enableQueue, if_neg (by simp [off]), refusal]
  have small : cause < 0x10000 := by
    unfold Half.enableRefusal at refusal
    simp only at refusal
    split at refusal <;> split at refusal <;> cases refusal <;> decide
  exact accepted_qCtrl (v := 1) g rfl (by decide) writes (fun quiet => quiet) fun x hx =>
    ⟨(hx.get ..).trans ((Half.get_latch_cause ..).trans (Nat.mod_eq_of_lt small)), hx.queues, fun b hb => (hx.rd b).trans (Half.rd_latch_ne _ _ (by simpa using hb))⟩

theorem Half.disableQueue_eq (x : Half) (k : Nat) : x.disableQueue k = (x.emptied k).setEn k false := rfl

theorem queueDisable_empties (g : Grants s h q (Adr.Q_CTRL k)) : Accepted (.queueDisable h q k) h q s fun x => x.queue k = Queue.empty ∧
    x.bit (Adr.Q_CTRL k) 0 = false ∧ SameRegs [Adr.Q_CTRL k, Adr.Q_STATUS k] (s.half h) x := by
  obtain ⟨rd, queue, still⟩ := (s.half h).emptied_shows k
  obtain ⟨ctrl, -, regs⟩ := ((s.half h).emptied k).setEn_shows k false
  obtain ⟨zero, -, -, -⟩ := (s.half h).writeQCtrl_cases k
  have writes : (s.half h).writeQCtrl k 0 = ((s.half h).emptied k).setEn k false := by
    rw [zero, Half.disableQueue_eq]
  exact accepted_qCtrl (v := 0) g rfl (by decide) writes still fun x hx =>
    ⟨(hx.queue k).trans queue, (hx.bit ..).trans ctrl, fun b hb => (hx.rd b).trans ((regs b hb).trans (rd b))⟩

theorem queueFlush_empties (g : Grants s h q (Adr.Q_CTRL k)) : Accepted (.queueFlush h q k) h q s fun x => (x.queue k).items = [] ∧
    (x.queue k).held = none ∧ x.bit (Adr.Q_CTRL k) 0 = (s.half h).bit (Adr.Q_CTRL k) 0 ∧ SameRegs [Adr.Q_CTRL k, Adr.Q_STATUS k] (s.half h) x := by
  obtain ⟨-, -, two, three⟩ := (s.half h).writeQCtrl_cases k
  cases en : (s.half h).bit (Adr.Q_CTRL k) 0 with
  | true =>
    have writes : (s.half h).writeQCtrl k 3 = (s.half h).flushQueue k := by
      rw [three, Half.enableQueue]
      exact if_pos en
    have run : exec (.queueFlush h q k) s = .next (s.write h q (Adr.Q_CTRL k) 3) := by
      show Host.Outcome.next (s.write h q (Adr.Q_CTRL k) (BitVec.ofNat 32 (2 + ofBool ((s.half h).bit (Adr.Q_CTRL k) 0)))) = _
      rw [en]
      rfl
    refine accepted_qCtrl g run (by decide) writes (fun quiet => quiet) fun x hx => ?_
    rw [hx.queue, hx.bit, Half.flushQueue, Half.queue_setQueue, if_pos rfl]
    exact ⟨rfl, rfl, en, fun b _ => hx.rd b⟩
  | false =>
    obtain ⟨rd, queue, still⟩ := ((s.half h).flushQueue k).emptied_shows k
    obtain ⟨ctrl, -, regs⟩ := (((s.half h).flushQueue k).emptied k).setEn_shows k false
    have writes : (s.half h).writeQCtrl k 2 = (((s.half h).flushQueue k).emptied k).setEn k false := by
      rw [two, Half.disableQueue_eq]
    have run : exec (.queueFlush h q k) s = .next (s.write h q (Adr.Q_CTRL k) 2) := by
      show Host.Outcome.next (s.write h q (Adr.Q_CTRL k) (BitVec.ofNat 32 (2 + ofBool ((s.half h).bit (Adr.Q_CTRL k) 0)))) = _
      rw [en]
      rfl
    refine accepted_qCtrl g run (by decide) writes (fun quiet => still quiet) fun x hx => ?_
    have empty : x.queue k = Queue.empty := (hx.queue k).trans queue
    rw [empty]
    exact ⟨rfl, rfl, (hx.bit ..).trans ctrl, fun b hb => (hx.rd b).trans ((regs b hb).trans (rd b))⟩

end ctrl

/-! Broken links and failed regions (R431). -/

/-- A command that changes its half and then the lines. -/
theorem completes_lines {c : Instr} {f : Half → Half} {P : State → Prop} (run : exec c s = .next ((s.on h f).lines).settle) (still : s.still)
    (quiet : (f (s.half h)).acc.still) (shows_ : ∀ t : State, Follows (f (s.half h)) (t.half h) → P t) : Completes c s P := by
  have calm : ((s.on h f).lines).still := (State.still_iff _).2 fun j => by
    rw [State.lines_acc]
    exact State.still_half (State.still_of_on still quiet) j
  refine completes_of (run.trans (congrArg _ (State.settle_still calm))) (shows_ _ ?_)
  have lines := (State.lines_linesOnly (s.on h f)).halves h
  rwa [State.on_half] at lines

theorem Half.queueLinkFault_shows (x : Half) (k : Nat) : (x.queueLinkFault k).queue k = Queue.empty ∧
    (x.queueLinkFault k).bit (Adr.Q_STATUS k) 1 = true ∧ (x.queueLinkFault k).get (Adr.Q_FAULT k) 0 16 = 1 ∧
    (x.queueLinkFault k).bit (Adr.Q_EVENT k) 1 = true ∧ SameRegs [Adr.Q_STATUS k, Adr.Q_FAULT k, Adr.Q_EVENT k] x (x.queueLinkFault k) ∧
    (x.acc.still → (x.queueLinkFault k).acc.still) := by
  obtain ⟨rd, queue, still⟩ := x.emptied_shows k
  have same : x.queueLinkFault k = (((x.emptied k).putBit (Adr.Q_STATUS k) 1 true).latch (Adr.Q_FAULT k) 1).event (Adr.Q_EVENT k) 1 := rfl
  have apart : Adr.Q_STATUS k ≠ Adr.Q_FAULT k ∧ Adr.Q_STATUS k ≠ Adr.Q_EVENT k ∧ Adr.Q_FAULT k ≠ Adr.Q_EVENT k := by
    simp only [Adr.Q_STATUS, Adr.Q_FAULT, Adr.Q_EVENT]
    omega
  rw [same]
  generalize x.emptied k = y at rd queue still
  have writes : Writes (· ∈ [Adr.Q_STATUS k, Adr.Q_FAULT k, Adr.Q_EVENT k]) y
      (((y.putBit (Adr.Q_STATUS k) 1 true).latch (Adr.Q_FAULT k) 1).event (Adr.Q_EVENT k) 1) :=
    (((Writes.refl _ y).putBit _ _ (by simp)).latch _ (by simp)).event _ (by simp)
  refine ⟨queue, ?_, ?_, Half.bit_putBit_self _ _ _ _ (by decide), fun b hb => (writes.keeps b hb).trans (rd b), still⟩
  · rw [Half.bit_congr (Half.rd_event_ne _ _ apart.2.1), Half.bit_congr (Half.rd_latch_ne _ _ apart.1), Half.bit_putBit_self _ _ _ _ (by decide)]
  · rw [Half.get_congr (Half.rd_event_ne _ _ apart.2.2), Half.get_latch_cause]

theorem queueRegs_notLines (k : Fin 64) : Adr.Q_STATUS k ∉ lineRegsOf ∧ Adr.Q_FAULT k ∉ lineRegsOf ∧ Adr.Q_EVENT k ∉ lineRegsOf := by
  revert k
  decide

theorem queueLinkError_stops (live : (s.half h).live = true) (up : (s.half h).up .memory = true) (still : s.still) (on : (s.half h).queueOn k = true)
    (pool : (s.half h).queuePool k = true) :
    Completes (.queueLinkError h (some k)) s fun t => (t.half h).queue k = Queue.empty ∧ (t.half h).bit (Adr.Q_STATUS k) 1 = true ∧
      (t.half h).get (Adr.Q_FAULT k) 0 16 = 1 ∧ (t.half h).bit (Adr.Q_EVENT k) 1 = true ∧
      SameRegs ([Adr.Q_STATUS k, Adr.Q_FAULT k, Adr.Q_EVENT k] ++ lineRegsOf) (s.half h) (t.half h) := by
  have run : exec (.queueLinkError h (some k)) s = .next ((s.on h fun x => x.queueLinkFault k).lines).settle :=
    congrArg (fun t : State => Host.Outcome.next t.lines.settle) (State.on_congr (by simp [live, up, on, pool]))
  obtain ⟨queue, status, fault, event, regs, quiet⟩ := (s.half h).queueLinkFault_shows k
  obtain ⟨notStatus, notFault, notEvent⟩ := queueRegs_notLines k
  refine completes_lines run still (quiet (State.still_half still h)) fun t follows => ⟨?_, (follows.bit notStatus).trans status,
    (follows.get notFault).trans fault, (follows.bit notEvent).trans event, fun b hb => ?_⟩
  · have queues : (t.half h).queues = ((s.half h).queueLinkFault k).queues := by rw [follows.same]
    rw [Half.queue, queues]
    exact queue
  · rw [List.mem_append, not_or] at hb
    rw [follows.regs b hb.2, regs b hb.1]

/-- From x to y: no region changes, and nothing waits where nothing waited. -/
structure KeepsRegions (x y : Half) : Prop where
  regions : y.regions = x.regions
  still : x.acc.still → y.acc.still

theorem SentinelOnly.keepsRegions {x y : Half} (w : SentinelOnly x y) : KeepsRegions x y :=
  ⟨by rw [w], fun quiet => by rw [w]; exact quiet⟩

theorem Half.breakStalls_keepsRegions (x : Half) : KeepsRegions x x.breakStalls := by
  have one : ∀ (y : Half) (r q : Req) (a : Nat), KeepsRegions y
      (((y.busError r a .w32 false 0xC).complete q ⟨0, false⟩).onPort q fun p => { p with stall := none }) := fun y r q a => by
    obtain ⟨-, -, -, acc⟩ := y.busError_shows r a .w32 false (cause := 0xC) (by decide)
    have regions : (y.busError r a .w32 false 0xC).regions = y.regions := by rw [(y.busError_writes r a .w32 false 0xC).same]
    generalize y.busError r a .w32 false 0xC = z at acc regions ⊢
    refine ⟨regions, fun quiet => ?_⟩
    have still : z.acc.still := acc ▸ quiet
    cases q <;> exact still
  have all : ∀ (qs : List Req) (y : Half), KeepsRegions y (qs.foldl (fun (x : Half) (q : Req) =>
      match (x.acc.port q).stall with
      | none => x
      | some i =>
        let r := if q == .pcie && x.bit Adr.DIE_STRAPS 1 then Req.qspi else q
        ((x.busError r (Adr.Q_POP_LO i) .w32 false 0xC).complete q ⟨0, false⟩).onPort q fun p => { p with stall := none }) y) := fun qs => by
    induction qs with
    | nil => exact fun y => ⟨rfl, fun quiet => quiet⟩
    | cons q qs ih =>
      intro y
      rw [List.foldl_cons]
      cases (y.acc.port q).stall with
      | none => exact ih y
      | some i =>
        have first := one y (if q == .pcie && y.bit Adr.DIE_STRAPS 1 then Req.qspi else q) q (Adr.Q_POP_LO i)
        have rest := ih (((y.busError (if q == .pcie && y.bit Adr.DIE_STRAPS 1 then Req.qspi else q) (Adr.Q_POP_LO i) .w32 false 0xC).complete q
          ⟨0, false⟩).onPort q fun p => { p with stall := none })
        exact ⟨rest.regions.trans first.regions, fun quiet => rest.still (first.still quiet)⟩
  exact all [.pcie, .mgmt] x

theorem Half.up_setRegion {x : Half} {r : Region} {st : RegionState} (eight : x.regions.length = 8) (down : st ≠ .up) :
    (x.setRegion r st).up r = false := by
  have state : (x.setRegion r st).regionState r = st := getAt_setAt _ _ _ (by cases r <;> rw [eight] <;> decide)
  rw [Half.up, state]
  cases st
  case up => exact absurd rfl down
  all_goals rfl

theorem Half.up_congr {x y : Half} (regions : y.regions = x.regions) (r : Region) : y.up r = x.up r := by
  rw [Half.up, Half.up, Half.regionState, Half.regionState, regions]

theorem Half.resetRegion_memory {x : Half} (eight : x.regions.length = 8) :
    (x.resetRegion .memory).up .memory = false ∧ (x.acc.still → (x.resetRegion .memory).acc.still) := by
  obtain ⟨regions, still⟩ := x.breakStalls_keepsRegions
  unfold Half.resetRegion
  simp only [reduceCtorEq, if_false, if_true]
  generalize x.breakStalls = y at regions still
  exact ⟨Half.up_setRegion (regions ▸ eight) (by decide), still⟩

theorem Half.failRegion_memory {x : Half} (up : x.up .memory = true) (eight : x.regions.length = 8) :
    (x.failRegion .memory).up .memory = false ∧ (x.acc.still → (x.failRegion .memory).acc.still) := by
  obtain ⟨regions, still⟩ := x.breakStalls_keepsRegions
  unfold Half.failRegion
  simp only [up, Bool.not_true, Bool.false_eq_true, if_false, if_true]
  generalize x.breakStalls = y at regions still
  have down : ({ y.setRegion .memory .failed with hlt := { x.hlt with failed := x.hlt.failed ||| 2 ^ Region.memory.bit } } : Half).up .memory = false :=
    Half.up_setRegion (regions ▸ eight) (by decide)
  have eight' : ({ y.setRegion .memory .failed with hlt := { x.hlt with failed := x.hlt.failed ||| 2 ^ Region.memory.bit } } : Half).regions.length = 8 :=
    List.length_set.trans (regions ▸ eight)
  have still' : x.acc.still → ({ y.setRegion .memory .failed with hlt := { x.hlt with failed := x.hlt.failed ||| 2 ^ Region.memory.bit } } : Half).acc.still :=
    still
  generalize ({ y.setRegion .memory .failed with hlt := { x.hlt with failed := x.hlt.failed ||| 2 ^ Region.memory.bit } } : Half) = z at down eight' still'
  have reset := Half.resetRegion_memory eight'
  have giveUp := (SentinelOnly.giveUpFor (x := z) (y := z) rfl 8).keepsRegions
  have syncing : KeepsRegions z z.goSyncing := SentinelOnly.keepsRegions (((SentinelOnly.abandon (x := z) (y := z) rfl true).setRole .syncing).onRdn _)
  have resync := Half.resetRegion_memory (x := z.goSyncing) (syncing.regions ▸ eight')
  split
  · rw [if_pos (by simp [Region.required])]
    exact ⟨(Half.up_congr giveUp.regions _).trans down, fun quiet => giveUp.still (still' quiet)⟩
  · exact ⟨resync.1, fun quiet => resync.2 (syncing.still (still' quiet))⟩
  · exact ⟨resync.1, fun quiet => resync.2 (syncing.still (still' quiet))⟩
  · exact ⟨reset.1, fun quiet => reset.2 (still' quiet)⟩
  · exact ⟨reset.1, fun quiet => reset.2 (still' quiet)⟩

theorem queueLinkError_fails (live : (s.half h).live = true) (up : (s.half h).up .memory = true) (still : s.still)
    (eight : (s.half h).regions.length = 8) : Completes (.queueLinkError h none) s fun t => (t.half h).up .memory = false := by
  have run : exec (.queueLinkError h none) s =
      .next ((s.on h fun x => ((x.event Adr.QM_EVENT 0).latch Adr.QM_FAULT 1).failRegion .memory).lines).settle :=
    congrArg (fun t : State => Host.Outcome.next t.lines.settle) (State.on_congr (by simp [live, up]))
  obtain ⟨down, quiet⟩ := Half.failRegion_memory (x := ((s.half h).event Adr.QM_EVENT 0).latch Adr.QM_FAULT 1) up eight
  exact completes_lines run still (quiet (State.still_half still h)) fun t follows => (Half.up_congr follows.regions _).trans down

end queues

/-- Settles O53: each command of the queue manager is one of its operations on the queue, whose items and registers are shown. -/
theorem queuesHoldTheirItems : Obligations.QueuesHoldTheirItems := fun _ _ _ =>
  ⟨fun _ still up user graph some_ => ⟨fun on held idle room => packetPush_accepted still up user graph some_ on held idle room,
      packetPush_dropped still up user graph some_⟩,
    fun q data g named on held idle room => by
      obtain ⟨l, port⟩ := pushPort _
      exact ⟨hostPush_alone port g ⟨named, on, held, idle, room⟩ rfl, fun lo s0 pending => hostPush_pair port g ⟨named, on, held, idle, room⟩ pending rfl⟩,
    fun q g reads named on => ⟨fun i rest items held => pop_takes g reads named on items held,
      fun i rest items held => ⟨pop_corrects g reads named on items held, pop_poisons g reads named on items held⟩,
      fun items limit _ => pop_zero g reads named on items limit, fun items limit _ => pop_stalls g reads named on items limit⟩,
    fun q stall still => stallTimeout_ends stall still,
    fun gap still up held idle room => heldMarkerWrite_writes still up held idle room,
    fun q g => ⟨queueEnable_starts g, fun cause off refusal => queueEnable_refused g off refusal, queueDisable_empties g, queueFlush_empties g⟩,
    queueLinkError_stops, queueLinkError_fails⟩

end Sys2Proof.Machine
end

section
/-! O60: writes of the boot flash programmer and of BOOT_CTRL (R68, R536 to R539, R545, R546). -/

namespace Sys2Proof.Machine

open Sys2Proof

/-! Flash commands and the page buffer (R536, R545). -/

theorem flashCmd_kind : kindAt Adr.DIE_FLASH_CMD = some ⟨.wo, .flashCmd, .imm, .single, 0, 0, 3⟩ := by decide

theorem flashCmd_does (q : Req) (a i j mask : Nat) : (Kind.mk .wo .flashCmd .imm .single i j mask).Does q a Half.flashCommand :=
  fun l hook _ _ x v => by simp only [Half.actEarly, hook, Option.getD_some]

theorem flashData_kind : kindAt Adr.DIE_FLASH_DATA = some ⟨.rw, .flashData, .imm, .single, 0, 0, 0xFFFFFFFF⟩ := by decide

theorem flashData_does (q : Req) (a i j mask : Nat) : (Kind.mk .rw .flashData .imm .single i j mask).Does q a Half.flashDataWrite :=
  fun l hook _ _ x v => by simp only [Half.actEarly, hook, Option.getD_some]

/-- ERASE or PROGRAM at an offset: what FLASH_CMD starts or refuses. -/
def Half.flashStart (x : Half) (a align : Nat) (op : FlashOp) : Half :=
  if x.flashBusy || x.bootBusy then (x.putBit Adr.DIE_FLASH_STATUS 30 true).put Adr.DIE_FLASH_STATUS 24 4 4
  else if a % align ≠ 0 then x.flashRefuse 2
  else if !x.flashArea a then x.flashRefuse 1
  else { x.wrNat Adr.DIE_FLASH_STATUS 0x80000000 with boot := { x.boot with flashOp := op } }

theorem Half.flashCommand_erase (x : Half) :
    x.flashCommand 1 = x.flashStart (x.rd Adr.DIE_FLASH_ADDR).toNat 0x10000 (.erase (x.rd Adr.DIE_FLASH_ADDR).toNat) := by
  unfold Half.flashCommand Half.flashStart
  simp only [show getBits 1 0 2 = 1 by decide]

theorem Half.flashCommand_program (x : Half) :
    x.flashCommand 2 = x.flashStart (x.rd Adr.DIE_FLASH_ADDR).toNat 0x100 (.program (x.rd Adr.DIE_FLASH_ADDR).toNat) := by
  unfold Half.flashCommand Half.flashStart
  simp only [show getBits 2 0 2 = 2 by decide]

theorem Half.rd_withBoot (x : Half) (b : BootSt) (a : Nat) : ({ x with boot := b } : Half).rd a = x.rd a := rfl

theorem Half.flashStart_acc (x : Half) (a align : Nat) (op : FlashOp) : (x.flashStart a align op).acc = x.acc := by
  unfold Half.flashStart Half.flashRefuse
  split
  · rw [Half.put_acc, Half.putBit_acc]
  · split
    · rw [Half.wrNat_acc]
    · split <;> simp only [Half.wrNat_acc]

section flash
variable {h : HalfId} {q : Req} {s : State}

/-- What FLASH_CMD shows of ERASE or PROGRAM. -/
structure FlashShows (x y : Half) (a align : Nat) (op : FlashOp) : Prop where
  busy : x.flashBusy = true ∨ x.bootBusy = true → y.get Adr.DIE_FLASH_STATUS 24 4 = 4 ∧ y.bit Adr.DIE_FLASH_STATUS 30 = true ∧ y.boot = x.boot
  unaligned : x.flashBusy = false → x.bootBusy = false → a % align ≠ 0 → y.rd Adr.DIE_FLASH_STATUS = 0x42000000#32 ∧ y.boot = x.boot
  outside : x.flashBusy = false → x.bootBusy = false → a % align = 0 → x.flashArea a = false →
    y.rd Adr.DIE_FLASH_STATUS = 0x41000000#32 ∧ y.boot = x.boot
  starts : x.flashBusy = false → x.bootBusy = false → a % align = 0 → x.flashArea a = true →
    y.rd Adr.DIE_FLASH_STATUS = 0x80000000#32 ∧ y.boot = { x.boot with flashOp := op }
  others : SameRegs [Adr.DIE_FLASH_STATUS] x y

theorem Half.flashStart_shows (x : Half) (a align : Nat) (op : FlashOp) : FlashShows x (x.flashStart a align op) a align op := by
  refine ⟨fun busy => ?_, fun flash boot odd => ?_, fun flash boot even no => ?_, fun flash boot even yes => ?_, fun b hb => ?_⟩
  · rw [Half.flashStart, if_pos (by simpa using busy)]
    refine ⟨(Half.get_put_self _ _ _ _ _ (by decide)).trans (by decide), ?_, by rw [Half.put_boot, Half.putBit_boot]⟩
    rw [Half.bit, Half.get_put_field _ _ _ _ _ _ _ (by decide) (by decide)]
    exact Half.bit_putBit_self _ _ _ _ (by decide)
  · rw [Half.flashStart, if_neg (by simp [flash, boot]), if_pos odd]
    exact ⟨Half.rd_wrNat_self .., Half.wrNat_boot ..⟩
  · rw [Half.flashStart, if_neg (by simp [flash, boot]), if_neg (not_not.2 even), if_pos (by simp [no])]
    exact ⟨Half.rd_wrNat_self .., Half.wrNat_boot ..⟩
  · rw [Half.flashStart, if_neg (by simp [flash, boot]), if_neg (not_not.2 even), if_neg (by simp [yes])]
    exact ⟨by rw [Half.rd_withBoot, Half.rd_wrNat_self], rfl⟩
  · have apart : b ≠ Adr.DIE_FLASH_STATUS := by simpa using hb
    unfold Half.flashStart
    split
    · rw [Half.rd_put_ne _ _ _ _ apart, Half.rd_putBit_ne _ _ _ apart]
    · split
      · exact Half.rd_wrNat_ne x _ apart
      · split
        · exact Half.rd_wrNat_ne x _ apart
        · rw [Half.rd_withBoot, Half.rd_wrNat_ne x _ apart]

theorem AccOnly.flashShows {x y z : Half} (w : AccOnly y z) {a align : Nat} {op : FlashOp} (shows_ : FlashShows x y a align op) :
    FlashShows x z a align op := by
  obtain ⟨busy, unaligned, outside, starts, others⟩ := shows_
  refine ⟨fun c => ?_, fun c1 c2 c3 => ?_, fun c1 c2 c3 c4 => ?_, fun c1 c2 c3 c4 => ?_, fun b hb => (w.rd b).trans (others b hb)⟩
  · rw [w.get, w.bit, w.boot]
    exact busy c
  · rw [w.rd, w.boot]
    exact unaligned c1 c2 c3
  · rw [w.rd, w.boot]
    exact outside c1 c2 c3 c4
  · rw [w.rd, w.boot]
    exact starts c1 c2 c3 c4

theorem flashCommand_shows (erase : Bool) (g : Grants s h q Adr.DIE_FLASH_CMD) :
    Accepted (if erase then .flashErase h q else .flashProgram h q) h q s fun x =>
      FlashShows (s.half h) x ((s.half h).rd Adr.DIE_FLASH_ADDR).toNat (if erase then 0x10000 else 0x100)
        (if erase then .erase ((s.half h).rd Adr.DIE_FLASH_ADDR).toNat else .program ((s.half h).rd Adr.DIE_FLASH_ADDR).toNat) := by
  cases erase
  · exact accepted_write (v := 2) rfl g (by decide) (by decide) flashCmd_kind rfl (flashCmd_does q _ _ _ _) (by decide) (Half.flashCommand_program _)
      (fun quiet => by rw [Half.flashStart_acc]; exact quiet) fun x hx => hx.flashShows (Half.flashStart_shows ..)
  · exact accepted_write (v := 1) rfl g (by decide) (by decide) flashCmd_kind rfl (flashCmd_does q _ _ _ _) (by decide) (Half.flashCommand_erase _)
      (fun quiet => by rw [Half.flashStart_acc]; exact quiet) fun x hx => hx.flashShows (Half.flashStart_shows ..)

/-- The page buffer after four more bytes, which it has room for (R536). -/
theorem Half.flashDataWrite_eq {x : Half} (v : Word) (room : x.boot.page.length ≤ 252) :
    x.flashDataWrite v = { x with boot := { x.boot with page := x.boot.page ++ leBytes 4 v.toNat } } := by
  have whole : (x.boot.page ++ leBytes 4 v.toNat).drop ((x.boot.page ++ leBytes 4 v.toNat).length - 256) = x.boot.page ++ leBytes 4 v.toNat := by
    rw [List.length_append, show (leBytes 4 v.toNat).length = 4 by simp [leBytes], Nat.sub_eq_zero_of_le (by omega), List.drop_zero]
  unfold Half.flashDataWrite
  simp only [whole]

theorem flashDataAccess_fills (v : Word) (g : Grants s h q Adr.DIE_FLASH_DATA) (room : (s.half h).boot.page.length ≤ 252) :
    Accepted (.flashDataAccess h q (some v)) h q s fun x => x.boot.page = (s.half h).boot.page ++ leBytes 4 v.toNat ∧ SameRegs [] (s.half h) x :=
  accepted_write (v := v) rfl g (by decide) (by decide) flashData_kind rfl (flashData_does q _ _ _ _) (masked_full v) (Half.flashDataWrite_eq v room)
    (fun quiet => quiet) fun _ hx => ⟨congrArg BootSt.page hx.boot, fun b _ => (hx.rd b).trans (Half.rd_withBoot ..)⟩

theorem Half.flashDataAdvance_shows (x : Half) : x.flashDataAdvance.rd Adr.DIE_FLASH_ADDR = x.rd Adr.DIE_FLASH_ADDR + 4 ∧
    SameRegs [Adr.DIE_FLASH_ADDR] x x.flashDataAdvance := by
  have rd : ∀ a, x.flashDataAdvance.rd a = (x.wrap Adr.DIE_FLASH_ADDR 0 32 4).rd a := fun _ => rfl
  constructor
  · have field : (x.wrap Adr.DIE_FLASH_ADDR 0 32 4).get Adr.DIE_FLASH_ADDR 0 32 = (x.get Adr.DIE_FLASH_ADDR 0 32 + 4) % 2 ^ 32 := by
      rw [Half.wrap_eq, Half.get_put_self _ _ _ _ _ (by decide)]
    rw [Half.get, Half.get, getBits_word, getBits_word] at field
    rw [rd]
    refine BitVec.eq_of_toNat_eq (field.trans ?_)
    rw [BitVec.toNat_add]
    rfl
  · exact fun b hb => (rd b).trans (Half.rd_put_ne x _ _ _ (by simpa using hb))

theorem State.readWord_flashData {l : Loc} {a : Nat} {w : Access} (hook : l.reg.hook = .flashData) :
    s.readWord h q l a w = (.ok (s.shown h l a), s.on h Half.flashDataAdvance) := by
  unfold State.readWord
  rw [hook]

theorem State.shown_flashData {l : Loc} {a : Nat} (hook : l.reg.hook = .flashData) (attr : l.reg.attr = .rw) (value : l.confirm = false)
    (page : l.block ≠ 0x81000) : s.shown h l a = (s.half h).flashDataValue := by
  have other : (l.block == 0x81000) = false := by simpa using page
  simp only [State.shown, hook, attr, value, other]
  rfl

theorem flashData_place : (locate Adr.DIE_FLASH_DATA).map (fun l => (l.confirm, decide (l.block = 0x81000))) = some (false, false) := by decide

theorem flashDataAccess_reads (g : Asks s h q) (reads : (s.half h).reads Adr.DIE_FLASH_DATA = true) :
    Accepted (.flashDataAccess h q none) h q s fun x => (x.acc.port q).resp.data = (s.half h).flashDataValue ∧
      x.rd Adr.DIE_FLASH_ADDR = (s.half h).rd Adr.DIE_FLASH_ADDR + 4 ∧ SameRegs [Adr.DIE_FLASH_ADDR] (s.half h) x := by
  obtain ⟨l, hl, kind⟩ := locate_of_kindAt flashData_kind
  obtain ⟨addr, others⟩ := (s.half h).flashDataAdvance_shows
  have hook : l.reg.hook = .flashData := congrArg Kind.hook kind
  have place : l.confirm = false ∧ l.block ≠ 0x81000 := by simpa [hl] using flashData_place
  have run : exec (.flashDataAccess h q none) s = .next (s.issue h q Adr.DIE_FLASH_DATA .w32 false 0 .ok) := rfl
  refine accepted_load (f := Half.flashDataAdvance) (v := (s.half h).flashDataValue) run g (by decide) (by decide) hl reads ?_ (State.rest_half g.rest h).still
    ⟨by rw [Half.complete_resp], addr, others⟩
  rw [State.readWord_flashData hook, State.shown_flashData hook (congrArg Kind.attr kind) place.1 place.2]

/-! BOOT_CTRL (R537, R546). -/

theorem bootCtrl_kind : PairedAt Adr.DIE_BOOT_CTRL ⟨.pw, .bootCtrl, .imm, .single, 0, 0, 0xF0000001⟩ := ⟨_, rfl, rfl, rfl, by decide⟩

theorem bootCtrl_does (q : Req) (a i j mask : Nat) : (Kind.mk .pw .bootCtrl .imm .single i j mask).Does q a fun x v => x.writeBootCtrl q v :=
  fun l hook _ _ x v => by simp only [Half.actEarly, hook, Option.getD_some]

/-- The half with an operation started (R546). -/
def Half.bootStarts (x : Half) (v : Nat) (op : BootOp) : Half := (x.wrNat Adr.DIE_BOOT_CTRL v).bootStart op

theorem Half.bootStarts_shows (x : Half) (v : Nat) (op : BootOp) : (x.bootStarts v op).boot = { x.boot with bootOp := op } ∧
    (x.bootStarts v op).get Adr.DIE_BOOT_STATUS 0 2 = 1 ∧ SameRegs [Adr.DIE_BOOT_STATUS, Adr.DIE_BOOT_CTRL] x (x.bootStarts v op) ∧
    (x.bootStarts v op).acc = x.acc := by
  obtain ⟨busy, boot, regs⟩ := ({ x.wrNat Adr.DIE_BOOT_CTRL v with boot := { (x.wrNat Adr.DIE_BOOT_CTRL v).boot with bootOp := op } } : Half).opState_shows
    (v := 1) (by decide)
  refine ⟨boot, busy, fun b hb => ?_, ?_⟩
  · simp only [List.mem_cons, List.not_mem_nil, or_false, not_or] at hb
    refine (regs b (by simpa using hb.1)).trans ?_
    rw [Half.rd_withBoot, Half.rd_wrNat_ne _ _ hb.2]
  · rw [Half.bootStarts, Half.bootStart, Half.opState, Half.put_acc]
    exact Half.wrNat_acc x Adr.DIE_BOOT_CTRL v

/-- What a value confirmed at `BOOT_CTRL` does: refused while an operation is busy; else shown in `BOOT_STATUS` at most, and started
where it may (R537). -/
structure BootAct (v : Word) (op : BootOp) (may : Bool) (q : Req) (x y : Half) : Prop where
  busy : x.bootBusy = true → y = x.pwRefuse q Adr.DIE_BOOT_CTRL
  idle : x.bootBusy = false → ∃ z, Writes (· = Adr.DIE_BOOT_STATUS) x z ∧
    y = if may then z.bootStarts (v.toNat &&& 0xF0000001) op else z.pwRefuse q Adr.DIE_BOOT_CTRL

theorem BootAct.of {v : Word} {op : BootOp} {may : Bool} {x y z : Half} (writes : Writes (· = Adr.DIE_BOOT_STATUS) x z)
    (act : y = if x.bootBusy then x.pwRefuse q Adr.DIE_BOOT_CTRL
      else if may then z.bootStarts (v.toNat &&& 0xF0000001) op else z.pwRefuse q Adr.DIE_BOOT_CTRL) : BootAct v op may q x y :=
  ⟨fun busy => act.trans (if_pos busy), fun idle => ⟨z, writes, act.trans (if_neg (by simp [idle]))⟩⟩

theorem BootAct.starts {v : Word} {op : BootOp} {may : Bool} {x y : Half} (act : BootAct v op may q x y) (idle : x.bootBusy = false) (yes : may = true) :
    y.boot = { x.boot with bootOp := op } ∧ y.get Adr.DIE_BOOT_STATUS 0 2 = 1 ∧ SameRegs [Adr.DIE_BOOT_STATUS, Adr.DIE_BOOT_CTRL] x y := by
  obtain ⟨z, writes, is⟩ := act.idle idle
  obtain ⟨boot, busy, regs, -⟩ := z.bootStarts_shows (v.toNat &&& 0xF0000001) op
  rw [is, if_pos yes]
  have same : z.boot = x.boot := by rw [writes.same]
  exact ⟨same ▸ boot, busy, fun b hb => (regs b hb).trans (writes.keeps b fun e => hb (by simp [e]))⟩

/-- A refusal after a change of registers of a list. -/
theorem PairFails.after {x y z : Half} {slot cause : Nat} {as : List Nat} (fails : PairFails y z slot cause) (writes : Writes (· ∈ as) x y)
    (apart : Adr.DIE_PWFAIL_INFO ∉ as) : PairFails x z slot cause as := by
  obtain ⟨event, first, regs⟩ := fails
  refine ⟨event, fun none_ => first ((writes.bit apart _).trans none_), fun b hb => ?_⟩
  rw [List.mem_append, not_or] at hb
  rw [regs b (by simpa using hb.1), writes.keeps b hb.2]

theorem BootAct.refuses {v : Word} {op : BootOp} {may : Bool} {x y : Half} (act : BootAct v op may q x y) (no : x.bootBusy = true ∨ may = false) :
    y.boot = x.boot ∧ PairFails x y Adr.DIE_BOOT_CTRL 5 [Adr.DIE_BOOT_STATUS] := by
  obtain ⟨z, writes, is⟩ : ∃ z, Writes (· = Adr.DIE_BOOT_STATUS) x z ∧ y = z.pwRefuse q Adr.DIE_BOOT_CTRL := by
    cases busy : x.bootBusy with
    | true => exact ⟨x, .refl _ x, act.busy busy⟩
    | false =>
      obtain ⟨z, writes, is⟩ := act.idle busy
      rw [busy] at no
      exact ⟨z, writes, is.trans (if_neg (by simpa using no))⟩
  have fail := z.pwFail_writes q Adr.DIE_BOOT_CTRL 5
  rw [is]
  refine ⟨?_, (z.pwFail_fails q Adr.DIE_BOOT_CTRL (by decide)).after (writes.mono fun b hb => by simp [hb]) (by decide)⟩
  rw [Half.pwRefuse, fail.same, writes.same]

theorem BootAct.acc {v : Word} {op : BootOp} {may : Bool} {x y : Half} (act : BootAct v op may q x y) : y.acc = x.acc := by
  cases busy : x.bootBusy with
  | true => rw [act.busy busy, Half.pwRefuse, Half.pwFail_acc]
  | false =>
    obtain ⟨z, writes, is⟩ := act.idle busy
    have same : z.acc = x.acc := by rw [writes.same]
    rw [is]
    split
    · exact ((z.bootStarts_shows _ op).2.2.2).trans same
    · rw [Half.pwRefuse, Half.pwFail_acc, same]

/-- A value confirmed at `BOOT_CTRL`. -/
theorem bootCtrl_settles {c : Instr} {v : Word} {op : BootOp} {may : Bool} (g : Grants s h q Adr.DIE_BOOT_CTRL)
    (run : exec c s = .next (s.pairWrite h q Adr.DIE_BOOT_CTRL v)) (low : BitVec.ofNat 32 (v.toNat &&& 0xF0000001) = v)
    (acts : ∀ y, AccOnly (s.half h) y → BootAct v op may q y (y.writeBootCtrl q v)) :
    ((s.half h).bootBusy = false → may = true → Accepted c h q s fun x => x.boot.bootOp = op ∧ x.get Adr.DIE_BOOT_STATUS 0 2 = 1 ∧
        x.boot.bytes = (s.half h).boot.bytes ∧ SameRegs [Adr.DIE_BOOT_STATUS, Adr.DIE_BOOT_CTRL] (s.half h) x) ∧
      ((s.half h).bootBusy = true ∨ may = false → Accepted c h q s fun x => x.boot = (s.half h).boot ∧
        PairFails (s.half h) x Adr.DIE_BOOT_CTRL 5 [Adr.DIE_BOOT_STATUS]) := by
  have busy : ∀ y, AccOnly (s.half h) y → y.bootBusy = (s.half h).bootBusy := fun y hy => by rw [Half.bootBusy, hy.boot]; rfl
  constructor
  · intro idle yes
    refine accepted_pairWrite run g (by decide) (by decide) bootCtrl_kind rfl (bootCtrl_does q _ _ _ _) low (fun _ _ => rfl)
      (fun y hy quiet => (acts y hy).acc ▸ quiet) fun y x hy hx => ?_
    obtain ⟨boot, shown, regs⟩ := (acts y hy).starts ((busy y hy).trans idle) yes
    rw [hx.boot, hx.get, boot, hy.boot]
    exact ⟨rfl, shown, rfl, fun b hb => (hx.rd b).trans ((regs b hb).trans (hy.rd b))⟩
  · intro no
    refine accepted_pairWrite run g (by decide) (by decide) bootCtrl_kind rfl (bootCtrl_does q _ _ _ _) low (fun _ _ => rfl)
      (fun y hy quiet => (acts y hy).acc ▸ quiet) fun y x hy hx => ?_
    obtain ⟨boot, fails⟩ := (acts y hy).refuses (no.imp (busy y hy).trans id)
    exact ⟨(hx.boot.trans boot).trans hy.boot, fails.of_rd (fun b => (hy.rd b).symm) hx.rd⟩

/-- The OP field of a value and its slot bit. -/
theorem bootWord_fields (slot : Bool) :
    (getBits (BitVec.ofNat 32 (0x10000000 + ofBool slot)) 28 4 = 1 ∧ getBits (BitVec.ofNat 32 (0x10000000 + ofBool slot)) 0 1 = ofBool slot ∧
      BitVec.ofNat 32 ((BitVec.ofNat 32 (0x10000000 + ofBool slot)).toNat &&& 0xF0000001) = BitVec.ofNat 32 (0x10000000 + ofBool slot)) ∧
    getBits 0x20000000 28 4 = 2 ∧ getBits 0x30000000 28 4 = 3 ∧ getBits 0x40000000 28 4 = 4 ∧ getBits 0x50000000 28 4 = 5 ∧
      getBits 0x60000000 28 4 = 6 := by revert slot; decide

theorem Half.writeBootCtrl_select (x : Half) {v : Word} {slot : Nat} (op : getBits v 28 4 = 1) (low : getBits v 0 1 = slot) :
    BootAct v (.select slot) (decide (x.slotResult slot = 0)) q x (x.writeBootCtrl q v) := by
  refine .of (z := x.put Adr.DIE_BOOT_STATUS (24 - 4 * slot) 4 (x.slotResult slot)) ((Writes.refl _ x).put _ _ _ rfl) ?_
  unfold Half.writeBootCtrl
  simp only [op, low, decide_eq_true_eq]
  rfl

theorem Half.writeBootCtrl_saveConfig (x : Half) {v : Word} (op : getBits v 28 4 = 2) :
    BootAct v .saveConfig true q x (x.writeBootCtrl q v) := by
  refine .of (.refl _ x) ?_
  unfold Half.writeBootCtrl
  simp only [op]
  rfl

theorem Half.writeBootCtrl_eraseConfig (x : Half) {v : Word} (op : getBits v 28 4 = 3) :
    BootAct v .eraseConfig true q x (x.writeBootCtrl q v) := by
  refine .of (.refl _ x) ?_
  unfold Half.writeBootCtrl
  simp only [op]
  rfl

theorem Half.writeBootCtrl_saveLibrary (x : Half) {v : Word} (op : getBits v 28 4 = 4) :
    BootAct v .saveLibrary (!x.saveLibraryRefused) q x (x.writeBootCtrl q v) := by
  refine .of (.refl _ x) ?_
  unfold Half.writeBootCtrl
  simp only [op]
  cases x.saveLibraryRefused <;> rfl

theorem Half.writeBootCtrl_eraseRetirements (x : Half) {v : Word} (op : getBits v 28 4 = 5) :
    BootAct v .eraseRetirements (x.role == .offline || x.role == .isolated) q x (x.writeBootCtrl q v) := by
  refine .of (.refl _ x) ?_
  unfold Half.writeBootCtrl
  simp only [op]
  cases x.role <;> rfl

theorem Half.writeBootCtrl_raiseFloor (x : Half) {v : Word} (op : getBits v 28 4 = 6) :
    BootAct v .raiseFloor (!x.inTrial) q x (x.writeBootCtrl q v) := by
  refine .of (.refl _ x) ?_
  unfold Half.writeBootCtrl
  simp only [op]
  cases x.inTrial <;> rfl

/-- What the conditions of the operations read is not of the access unit. -/
theorem AccOnly.bootConditions {x y : Half} (w : AccOnly x y) : (∀ slot, y.slotResult slot = x.slotResult slot) ∧
    y.saveLibraryRefused = x.saveLibraryRefused ∧ y.role = x.role ∧ y.inTrial = x.inTrial := by
  rw [w.same]
  exact ⟨fun _ => rfl, rfl, rfl, rfl⟩

end flash

/-- Settles O60: a flash command is one of the four branches of `Half.flashStart`, FLASH_DATA appends to the page buffer or answers and
advances the address, and a value confirmed at BOOT_CTRL is refused or starts its operation by `BootAct`. -/
theorem bootWritesTakeEffect : Obligations.BootWritesTakeEffect := by
  intro h q s
  refine ⟨fun erase c a align is wide at_ g => ?_, fun v g room => flashDataAccess_fills v g room,
    fun g reads => flashDataAccess_reads g reads, fun g slot c op may listed => ?_⟩
  · subst is wide at_
    have shows_ := flashCommand_shows erase g
    refine ⟨fun busy => shows_.imp fun x hx => ?_, fun f b odd => shows_.imp fun x hx => ?_, fun f b even no => shows_.imp fun x hx => ?_,
      fun f b even yes => shows_.imp fun x hx => ?_⟩
    · obtain ⟨cause, flag, boot⟩ := hx.busy busy
      exact ⟨cause, flag, boot, hx.others⟩
    · obtain ⟨status, boot⟩ := hx.unaligned f b odd
      exact ⟨status, boot, hx.others⟩
    · obtain ⟨status, boot⟩ := hx.outside f b even no
      exact ⟨status, boot, hx.others⟩
    · obtain ⟨status, boot⟩ := hx.starts f b even yes
      exact ⟨status, boot, hx.others⟩
  · obtain ⟨⟨one, low, kept⟩, two, three, four, five, six⟩ := bootWord_fields slot
    simp only [List.mem_cons, Prod.mk.injEq, List.not_mem_nil, or_false] at listed
    rcases listed with ⟨rfl, rfl, rfl⟩ | ⟨rfl, rfl, rfl⟩ | ⟨rfl, rfl, rfl⟩ | ⟨rfl, rfl, rfl⟩ | ⟨rfl, rfl, rfl⟩ | ⟨rfl, rfl, rfl⟩
    · exact bootCtrl_settles g rfl kept fun y hy => hy.bootConditions.1 (ofBool slot) ▸ y.writeBootCtrl_select one low
    · exact bootCtrl_settles g rfl (by decide) fun y _ => y.writeBootCtrl_saveConfig two
    · exact bootCtrl_settles g rfl (by decide) fun y _ => y.writeBootCtrl_eraseConfig three
    · exact bootCtrl_settles g rfl (by decide) fun y hy => hy.bootConditions.2.1 ▸ y.writeBootCtrl_saveLibrary four
    · exact bootCtrl_settles g rfl (by decide) fun y hy => hy.bootConditions.2.2.1 ▸ y.writeBootCtrl_eraseRetirements five
    · exact bootCtrl_settles g rfl (by decide) fun y hy => hy.bootConditions.2.2.2 ▸ y.writeBootCtrl_raiseFloor six

end Sys2Proof.Machine
end

section
/-! O55: units and clusters start again (R23, R24, R170, R250, R255, R260, R338, R414, R437). -/

namespace Sys2Proof.Machine

open Sys2Proof

/-! Words of the pages of many units. -/

/-- A page is passed over in the search for an address outside its extent. -/
theorem findPage_apart {before rest : List PageDef} {a : Nat} (apart : ∀ p ∈ before, 0 < p.stride ∧ (p.base + p.stride * p.count ≤ a ∨ a < p.base)) :
    findPage (before ++ rest) a = findPage rest a := by
  induction before with
  | nil => rfl
  | cons p ps ih =>
    have outside : ¬ (p.base ≤ a ∧ (a - p.base) / p.stride < p.count) := by
      obtain ⟨wide, away⟩ := apart p List.mem_cons_self
      rw [Nat.div_lt_iff_lt_mul wide, Nat.mul_comm]
      omega
    rw [List.cons_append, findPage, if_neg outside]
    exact ih fun r hr => apart r (List.mem_cons_of_mem p hr)

/-- The word at an offset of unit i of a page, where the pages before it lie elsewhere. -/
theorem findPage_unit {before after : List PageDef} {p : PageDef} {i off j : Nat} {r : RegDef} (hi : i < p.count) (ho : off < p.stride)
    (apart : ∀ o ∈ before, 0 < o.stride ∧ (o.base + o.stride * o.count ≤ p.base ∨ p.base + p.stride * p.count ≤ o.base))
    (reg : findReg p.regs off = some (r, j, false)) :
    findPage (before ++ p :: after) (p.base + off + p.stride * i) = some ⟨r, i, j, p.region, p.base + p.stride * i, false, false⟩ := by
  have extent : p.stride * i + p.stride ≤ p.stride * p.count := by
    rw [← Nat.mul_succ]
    exact Nat.mul_le_mul_left _ hi
  have place : p.base + off + p.stride * i - p.base = off + p.stride * i := by omega
  have unit : (off + p.stride * i) / p.stride = i := by
    rw [Nat.add_mul_div_left _ _ (by omega), Nat.div_eq_of_lt ho, Nat.zero_add]
  have word : (off + p.stride * i) % p.stride = off := by rw [Nat.add_mul_mod_self_left, Nat.mod_eq_of_lt ho]
  rw [findPage_apart fun o ho => (apart o ho).imp_right fun away => by omega, findPage, place, unit, word, if_pos ⟨by omega, hi⟩, reg]

theorem frxCtrl_kind (n : SlotId) : kindAt (Adr.FRX_CTRL n) = some ⟨.rw, .none, .staged, .single, n, 0, 0xF03⟩ := by
  have found := findPage_unit (before := pages.take 17) (p := ⟨0x40000, 1024, 0x40, .flow, pageFRXRegs⟩) (after := pages.drop 18) (i := n) (off := 4) n.isLt
    (by decide) (by decide) rfl
  rw [kindAt, locate, show pages = pages.take 17 ++ ⟨0x40000, 1024, 0x40, .flow, pageFRXRegs⟩ :: pages.drop 18 from rfl, found]
  simp [Loc.kind, Loc.mask, Loc.wideAs]

theorem ftxCtrl_kind (n : SlotId) : kindAt (Adr.FTX_CTRL n) = some ⟨.rw, .none, .staged, .single, n, 0, 1⟩ := by
  have found := findPage_unit (before := pages.take 18) (p := ⟨0x50000, 1024, 0x40, .flow, pageFTXRegs⟩) (after := pages.drop 19) (i := n) (off := 4) n.isLt
    (by decide) (by decide) rfl
  rw [kindAt, locate, show pages = pages.take 18 ++ ⟨0x50000, 1024, 0x40, .flow, pageFTXRegs⟩ :: pages.drop 19 from rfl, found]
  simp [Loc.kind, Loc.mask, Loc.wideAs]

/-! What the parts of a cluster leave: its own status, and the access unit at rest. -/

/-- Register b reads as before, and no access has begun to wait. -/
structure Spares (b : Nat) (x y : Half) : Prop where
  rd : y.rd b = x.rd b
  quiet : x.acc.still → y.acc.still

namespace Spares
variable {b : Nat} {x y z : Half}

theorem refl (b : Nat) (x : Half) : Spares b x x := ⟨rfl, fun quiet => quiet⟩

theorem trans (h : Spares b x y) (k : Spares b y z) : Spares b x z := ⟨k.rd.trans h.rd, fun quiet => k.quiet (h.quiet quiet)⟩

theorem of_writes {p : Nat → Prop} (w : Writes p x y) (hb : ¬ p b) : Spares b x y := by
  refine ⟨w.keeps b hb, fun quiet => ?_⟩
  have same : y.acc = x.acc := by rw [w.same]
  exact same ▸ quiet

theorem each {f : Half → Nat → Half} {ks : List Nat} (hf : ∀ k ∈ ks, ∀ y, Spares b y (f y k)) (x : Half) : Spares b x (x.each ks f) := by
  induction ks generalizing x with
  | nil => exact .refl b x
  | cons k ks ih => exact (hf k List.mem_cons_self x).trans (ih (fun j hj => hf j (List.mem_cons_of_mem k hj)) (f x k))

/-- A status bit set or cleared before what spares it. -/
theorem status {v : Bool} (w : Spares b (x.putBit b 1 v) y) : y.bit b 1 = v ∧ (x.acc.still → y.acc.still) :=
  ⟨(Half.bit_congr w.rd 1).trans (Half.bit_putBit_self _ _ _ _ (by decide)), fun quiet => w.quiet (Half.putBit_acc x b 1 v ▸ quiet)⟩

end Spares

/-! Flow clusters (R170). -/

theorem mem_clusterSlots {c n : Nat} (hc : c < 8) (hn : n ∈ clusterSlots c) : n < 1024 := by
  simp only [clusterSlots, List.mem_map, List.mem_range] at hn
  omega

/-- A slot's registers lie below the cluster pages. -/
def slotReg (a : Nat) : Prop := a < 0x50A0000

theorem slotReg_of {n : Nat} (hn : n < 1024) : slotReg (Adr.FRX_STATUS n) ∧ slotReg (Adr.FRX_EVENT n) ∧ slotReg (Adr.FTX_STATUS n) ∧
    slotReg (Adr.FTX_EVENT n) ∧ slotReg (Adr.FTX_FAULT n) := by
  simp only [slotReg, Adr.FRX_STATUS, Adr.FRX_EVENT, Adr.FTX_STATUS, Adr.FTX_EVENT, Adr.FTX_FAULT]
  omega

theorem Half.txRefreshOne_writes (x : Half) {n : Nat} (hn : n < 1024) : Writes slotReg x (x.txRefreshOne n) := by
  obtain ⟨-, -, status, event, -⟩ := slotReg_of hn
  unfold Half.txRefreshOne
  exact .ite (fun _ => .refl _ x) fun _ => ((Writes.refl _ x).put 0 3 _ status).event 0 event

theorem Half.txStart_spares (x : Half) {n b : Nat} (hn : n < 1024) (hb : 0x50A0000 ≤ b) : Spares b x (x.txStart n) := by
  have first : ∀ f, Spares b x (x.onTx n f) := fun _ => ⟨rfl, fun quiet => quiet⟩
  exact (first _).trans (.of_writes (Half.txRefreshOne_writes _ hn) (by simp only [slotReg]; omega))

theorem Half.rxShow_writes (x : Half) {n : Nat} (v : Nat) (hn : n < 1024) : Writes slotReg x (x.rxShow n v) := by
  obtain ⟨status, event, -⟩ := slotReg_of hn
  unfold Half.rxShow
  exact .ite (fun _ => .refl _ x) fun _ => ((Writes.refl _ x).put 0 3 v status).event 0 event

theorem Half.rxSetState_writes (x : Half) {n : Nat} (v : Nat) (hn : n < 1024) : Writes slotReg x (x.rxSetState n v) := by
  refine .foldl (fun m hm y => y.rxShow_writes v ?_) x
  rcases List.mem_cons.1 hm with rfl | member
  · exact hn
  · exact Half.rxSlots_lt (List.mem_filter.1 member).1

theorem Half.rxStart_spares (x : Half) {n b : Nat} (hn : n < 1024) (hb : 0x50A0000 ≤ b) : Spares b x (x.rxStart n) := by
  have out : ¬ slotReg b := by simp only [slotReg]; omega
  have stat : ∀ w, w ∈ [0, 1, 2, 3] → slotReg (Adr.RX_STAT (4 * n + w)) := fun w hw => by
    simp only [List.mem_cons, List.not_mem_nil, or_false] at hw
    simp only [slotReg, Adr.RX_STAT]
    omega
  obtain ⟨status, event, -⟩ := slotReg_of hn
  have slot : ∀ (y : Half) f, Spares b y (y.onRx n f) := fun _ _ => ⟨rfl, fun quiet => quiet⟩
  unfold Half.rxStart
  simp only
  have ended : Spares b x ((if x.bit (Adr.FRX_STATUS n) 4 then (x.putBit (Adr.FRX_STATUS n) 4 false).event (Adr.FRX_EVENT n) 1 else x).putBit
      (Adr.FRX_STATUS n) 5 false) :=
    .of_writes ((Writes.ite (fun _ => ((Writes.refl _ x).putBit 4 false status).event 1 event) fun _ => .refl _ x).putBit 5 false status) out
  generalize started : Half.onRx _ n _ = y
  refine (started ▸ ended.trans (slot _ _) : Spares b x y).trans ?_
  have counted : Spares b y (if (x.rxCommitted n).en then y.each [0, 1, 2, 3] fun x w => x.wrNat (Adr.RX_STAT (4 * n + w)) 0 else y) :=
    .of_writes (.ite (fun _ => .foldl (fun w hw z => (Writes.refl _ z).wrNat 0 (stat w hw)) y) fun _ => .refl _ y) out
  refine counted.trans ?_
  generalize (if (x.rxCommitted n).en then y.each [0, 1, 2, 3] fun x w => x.wrNat (Adr.RX_STAT (4 * n + w)) 0 else y) = z
  exact .of_writes (.ite (fun _ => z.rxShow_writes _ hn) fun _ => z.rxSetState_writes _ hn) out

/-- The status word of a flow cluster. -/
def flowStatus (tx : Bool) (c : Nat) : Nat := if tx then Adr.FTXC_STATUS c else Adr.FRXC_STATUS c

theorem Half.flowClusterInit_shows (x : Half) (tx : Bool) {c : Nat} (hc : c < 8) :
    (x.flowClusterInit tx c).bit (flowStatus tx c) 1 = false ∧ (x.acc.still → (x.flowClusterInit tx c).acc.still) := by
  have slots : ∀ {p : Nat → Bool}, ∀ n ∈ (clusterSlots c).filter p, n < 1024 := fun n hn => mem_clusterSlots hc (List.mem_filter.1 hn).1
  cases tx
  · exact (Spares.each (fun n hn y => y.rxStart_spares (slots n hn) (by simp only [Adr.FRXC_STATUS]; omega)) _).status
  · exact (Spares.each (fun n hn y => y.txStart_spares (slots n hn) (by simp only [Adr.FTXC_STATUS]; omega)) _).status

theorem Half.flowClusterFault_shows (x : Half) (tx : Bool) {c : Nat} (hc : c < 8) :
    (x.flowClusterFault tx c).bit (flowStatus tx c) 1 = true ∧ (x.acc.still → (x.flowClusterFault tx c).acc.still) := by
  cases tx
  · exact (Spares.refl _ (x.putBit (Adr.FRXC_STATUS c) 1 true)).status
  · refine (Spares.each (fun n hn y => .of_writes (.ite (fun _ => (y.txRefreshOne_writes ?_).latch 1 ?_) fun _ => .refl slotReg y) ?_) _).status
    · exact mem_clusterSlots hc hn
    · exact (slotReg_of (mem_clusterSlots hc hn)).2.2.2.2
    · simp only [slotReg, Adr.FTXC_STATUS]
      omega

/-! The TDM cluster (R338). -/

theorem Half.tdmRestart_spares (x : Half) (t : Nat) : Spares Adr.TDMC_STATUS x (x.tdmRestart t) := by
  have apart : Adr.TDMC_STATUS ∉ tdmMoveRegs t ∧ Adr.TDMC_STATUS ∉ [Adr.TDM_STATUS t, Adr.TDM_FAULT t, Adr.TDM_EVENT t] := by
    simp only [tdmMoveRegs, List.mem_cons, List.not_mem_nil, or_false, Adr.TDMC_STATUS, Adr.TDM_STATUS, Adr.TDM_EVENT, Adr.TDM_FAULT]
    omega
  have port : ∀ (y : Half) f, Spares Adr.TDMC_STATUS y (y.onTdm t f) := fun _ _ => ⟨rfl, fun quiet => quiet⟩
  have moves : ∀ (y : Half) {v : Nat}, v < 4 → Spares Adr.TDMC_STATUS y (y.setTdm t v) := fun y _ hv => .of_writes (y.setTdm_shows t hv).2 apart.1
  unfold Half.tdmRestart
  simp only
  refine (port x fun _ => TdmPort.init).trans ?_
  generalize x.onTdm t (fun _ => TdmPort.init) = y
  split
  · exact moves y (by decide)
  · split
    · exact .of_writes ((((Writes.refl (· ∈ [Adr.TDM_STATUS t, Adr.TDM_FAULT t, Adr.TDM_EVENT t]) y).put 0 2 0 (by simp)).latch 3 (by simp)).event 0
        (by simp)) apart.2
    · split
      · exact (moves y (by decide)).trans (port _ _)
      · exact moves y (by decide)

theorem Half.tdmClusterInit_shows (x : Half) : x.tdmClusterInit.bit Adr.TDMC_STATUS 1 = false ∧ (x.acc.still → x.tdmClusterInit.acc.still) :=
  (Spares.each (fun t _ y => y.tdmRestart_spares t) _).status

theorem Half.tdmClusterFault_shows (x : Half) : x.tdmClusterFault.bit Adr.TDMC_STATUS 1 = true ∧ (x.acc.still → x.tdmClusterFault.acc.still) := by
  refine (Spares.each (fun t _ y => .of_writes ((Writes.refl (· = Adr.TDM_FAULT t) y).latch 4 rfl) ?_) _).status
  simp only [Adr.TDMC_STATUS, Adr.TDM_FAULT]
  omega

/-! Sense clusters (R380, R414). -/

theorem Half.onConv_conv_ite (x : Half) (s : Nat) (f : Conv → Conv) (m : Nat) : (x.onConv s f).conv m = if m = s then f (x.conv s) else x.conv m :=
  lookAt_storeAt ..

theorem OutMoves.onConv {as : List Nat} {x y : Half} (h : OutMoves as x y) (s : Nat) (f : Conv → Conv) : OutMoves as x (y.onConv s f) :=
  h.trans ⟨rfl, .refl _ _⟩

theorem OutMoves.spares {as : List Nat} {x y : Half} (h : OutMoves as x y) {b : Nat} (hb : b ∉ as) : Spares b x y :=
  ⟨h.keeps b hb, fun quiet => h.acc ▸ quiet⟩

/-- The registers that show converter n valid or not. -/
def validRegs (n : Nat) : List Nat := [Adr.SNS_STATUS n, Adr.SNS_EVENT n] ++ lostRegs n

/-- Showing converter n: every converter keeps its causes, and none leaves its profile. -/
theorem Half.showValid_moves (x : Half) (n : Nat) : OutMoves (validRegs n) x (x.showValid n) ∧
    ∀ m, ((x.showValid n).conv m).causes = (x.conv m).causes ∧ ((x.conv m).join = true → ((x.showValid n).conv m).join = true) := by
  have shown : Writes (· ∈ validRegs n) x (x.showCause n) := (x.showCause_shows n).2.2.mono fun a ha => by simp_all [validRegs]
  have changed : ∀ ok, Writes (· ∈ validRegs n) x ((x.showCause n).showChange n ok) := fun ok =>
    shown.trans (((x.showCause n).showChange_shows n ok).2.2.2.mono fun a ha => List.mem_append_left _ ha)
  have kept : ∀ {y : Half}, Writes (· ∈ validRegs n) x y → OutMoves (validRegs n) x y ∧
      ∀ m, (y.conv m).causes = (x.conv m).causes ∧ ((x.conv m).join = true → (y.conv m).join = true) := fun w =>
    ⟨.of_writes w, fun m => by rw [Half.conv_of_out w.out]; exact ⟨rfl, fun joins => joins⟩⟩
  rw [Half.showValid_eq]
  split
  · exact kept shown
  · split
    · obtain ⟨moves, conv⟩ := kept (changed true)
      refine ⟨moves.onConv _ _, fun m => ?_⟩
      rw [Half.onConv_conv_ite]
      split
      · next same => exact ⟨same ▸ (conv n).1, fun _ => rfl⟩
      · exact conv m
    · exact kept ((changed false).trans ((((x.showCause n).showChange n false).converterLost_shows n).1.mono fun a ha => List.mem_append_right _ ha))

theorem snscStatus_apart {e : Fin 5} {n : Nat} (hn : n < 80) : Adr.SNSC_STATUS e ∉ validRegs n := by
  simp only [validRegs, lostRegs, List.mem_append, List.mem_cons, List.not_mem_nil, or_false, Adr.SNSC_STATUS, Adr.SNS_STATUS, Adr.SNS_EVENT]
  split <;> [skip; split <;> [skip; split]] <;> simp [Adr.AMP_STATUS, Adr.AMP_EVENT, Adr.AMP_FAULT, Adr.ALM_EVAC_STATUS, Adr.ALM_EVENT] <;> omega

theorem mem_senseChannels {c n : Nat} (hc : c < 5) (hn : n ∈ senseChannels c) : n < 80 := by
  unfold senseChannels at hn
  split at hn <;> simp at hn <;> omega

theorem Half.snsCause_moves (x : Half) (n : Nat) : OutMoves (validRegs n) x (x.snsCause n 5) := by
  unfold Half.snsCause
  simp only [show ¬ (5 ≤ 3) by decide, if_false]
  split
  · exact .refl _ x
  · exact ((OutMoves.refl _ x).onConv _ _).trans (Half.showValid_moves _ n).1

/-- A converter in its profile, without the cause of its cluster. -/
def Half.rejoined (x : Half) (n : Nat) : Prop := (x.conv n).join = true ∧ 5 ∉ (x.conv n).causes

/-- Converter k starts anew with its cluster. -/
def Half.rejoin (x : Half) (k : Nat) : Half := (x.snsClear k 5).onConv k fun c => { c with join := true }

theorem Half.rejoin_moves (x : Half) (k : Nat) : OutMoves (validRegs k) x (x.rejoin k) :=
  (((OutMoves.refl _ x).onConv _ _).trans (Half.showValid_moves _ k).1).onConv _ _

theorem Half.rejoin_self (x : Half) (k : Nat) : (x.rejoin k).rejoined k := by
  refine ⟨by rw [Half.rejoin, Half.onConv_conv], ?_⟩
  rw [Half.rejoin, Half.onConv_conv]
  show 5 ∉ ((x.snsClear k 5).conv k).causes
  rw [Half.snsClear, ((Half.showValid_moves _ k).2 k).1, Half.onConv_conv]
  simp

theorem Half.rejoined.rejoin {x : Half} {n : Nat} (done : x.rejoined n) (k : Nat) : (x.rejoin k).rejoined n := by
  by_cases same : n = k
  · exact same ▸ x.rejoin_self n
  · obtain ⟨causes, join⟩ := ((x.onConv k fun c => { c with causes := c.causes.filter (· != 5) }).showValid_moves k).2 n
    rw [Half.onConv_conv_ite, if_neg same] at causes join
    rw [Half.rejoined, Half.rejoin, Half.onConv_conv_ite, if_neg same]
    exact ⟨join done.1, fun e => done.2 (causes ▸ e)⟩

theorem Half.senseClusterInit_shows (x : Half) (c : Fin 5) : (x.senseClusterInit c).bit (Adr.SNSC_STATUS c) 1 = false ∧
    (x.acc.still → (x.senseClusterInit c).acc.still) ∧ ∀ n ∈ senseChannels c, (x.senseClusterInit c).rejoined n := by
  have same : x.senseClusterInit c = (x.putBit (Adr.SNSC_STATUS c) 1 false).each (senseChannels c) Half.rejoin := rfl
  have kept := (Spares.each (fun n hn y => (y.rejoin_moves n).spares (snscStatus_apart (mem_senseChannels c.isLt hn)))
    (x.putBit (Adr.SNSC_STATUS c) 1 false)).status
  rw [same]
  exact ⟨kept.1, kept.2, fun n hn => Half.each_establishes (J := fun _ => True) (P := fun y => y.rejoined n) (fun _ _ _ _ => trivial)
    (fun y _ => y.rejoin_self n) (fun _ hy k _ => hy.rejoin k) hn trivial⟩

theorem Half.senseClusterFault_shows (x : Half) (c : Fin 5) : (x.senseClusterFault c).bit (Adr.SNSC_STATUS c) 1 = true ∧
    (x.acc.still → (x.senseClusterFault c).acc.still) :=
  (Spares.each (fun n hn y => (y.snsCause_moves n).spares (snscStatus_apart (mem_senseChannels c.isLt hn))) _).status

/-! Engines (R250, R255, R260). -/

theorem EngineMoves.spares {p : Nat → Prop} {x y : Half} (m : EngineMoves p x y) {b : Nat} (hb : ¬ p b) : Spares b x y := by
  have same : y.acc = x.acc := by rw [m.same]
  exact ⟨m.keeps b hb, fun quiet => same ▸ quiet⟩

theorem engcStatus_apart (c e : Nat) : Adr.ENGC_STATUS c ∉ engineRegs e := by
  simp only [engineRegs, List.mem_cons, List.not_mem_nil, or_false, Adr.ENGC_STATUS, Adr.ENG_STATUS, Adr.ENG_EVENT, Adr.ENG_FAULT, Adr.ENG_LOAD,
    Adr.PLC_STATUS, Adr.PLC_CAPACITY, Adr.PLC_EVENT, Adr.GRF_STATUS, Adr.GRF_COMMIT_STATUS, Adr.GRF_COMMIT_TARGET, Adr.GRF_EVENT]
  omega

theorem Half.retireEngine_spares (x : Half) (e c : Nat) : Spares (Adr.ENGC_STATUS c) x (x.retireEngine e 5) := by
  cases serves : inRange 1 3 (x.engState e) with
  | false =>
    rw [Half.retireEngine, if_pos (by rw [serves]; rfl)]
    exact .refl _ x
  | true => exact (Half.retireEngine_retires serves (by decide)).2.2.2.spares (engcStatus_apart c e)

theorem Half.engineClusterFault_shows (x : Half) (c : Nat) : (x.engineClusterFault c).bit (Adr.ENGC_STATUS c) 1 = true ∧
    (x.acc.still → (x.engineClusterFault c).acc.still) :=
  (Spares.each (fun e _ y => y.retireEngine_spares e c) (x.putBit (Adr.ENGC_STATUS c) 1 true)).status

/-- The known-answer test of engine e begins. -/
def Half.startKat (x : Half) (e : Nat) : Half := x.onGraph fun g => { g with kat := e :: g.kat.filter (· != e) }

theorem Half.startKat_kat (x : Half) (e f : Nat) : f ∈ (x.startKat e).graph.kat ↔ f = e ∨ f ∈ x.graph.kat := by
  show f ∈ e :: x.graph.kat.filter (· != e) ↔ _
  by_cases same : f = e <;> simp [same]

/-- Engine e is tested again when its cluster starts: enabled, and SPARE, in a test, or retired with the cluster. -/
def Half.retest (x : Half) (e : Nat) : Half :=
  if x.bit (Adr.ENG_CTRL e) 0 && (x.engState e == 1 || x.engState e == 3 || (x.engState e == 4 && x.engCause e == 5)) then x.startKat e else x

theorem Half.engineClusterInit_serving {x : Half} {c : Nat} (serving : ∃ e ∈ clusterEngines c, x.engState e = 2) : x.engineClusterInit c = x := by
  obtain ⟨e, he, state⟩ := serving
  rw [Half.engineClusterInit, if_pos (List.any_eq_true.2 ⟨e, he, by rw [state]; rfl⟩)]

theorem Half.engineClusterInit_idle {x : Half} {c : Nat} (idle : ∀ e ∈ clusterEngines c, x.engState e ≠ 2) :
    x.engineClusterInit c = (x.putBit (Adr.ENGC_STATUS c) 1 false).each (clusterEngines c) Half.retest := by
  rw [Half.engineClusterInit, if_neg]
  · rfl
  · rw [List.any_eq_true]
    rintro ⟨e, he, state⟩
    exact idle e he (by simpa using state)

/-- y is x but for the graph's working state. -/
def GraphOnly (x y : Half) : Prop := y = { x with graph := y.graph }

theorem GraphOnly.startKat {x y : Half} (h : GraphOnly x y) (e : Nat) : GraphOnly x (y.startKat e) := by
  unfold GraphOnly at *
  rw [h]
  rfl

theorem GraphOnly.rd {x y : Half} (h : GraphOnly x y) (a : Nat) : y.rd a = x.rd a := by rw [h]; rfl

theorem GraphOnly.retest {x y : Half} (h : GraphOnly x y) (e : Nat) : GraphOnly x (y.retest e) := by
  unfold Half.retest
  split
  · exact h.startKat e
  · exact h

theorem Half.retest_keeps (x : Half) {e f : Nat} (tested : f ∈ x.graph.kat) : f ∈ (x.retest e).graph.kat := by
  unfold Half.retest
  split
  · exact (x.startKat_kat e f).2 (.inr tested)
  · exact tested

theorem Half.each_retest (x : Half) (es : List Nat) : GraphOnly x (x.each es Half.retest) ∧
    ∀ e ∈ es, x.bit (Adr.ENG_CTRL e) 0 = true → x.engState e = 1 → e ∈ (x.each es Half.retest).graph.kat := by
  refine ⟨?_, fun e he on spare => ?_⟩
  · exact List.foldlRecOn es Half.retest (motive := GraphOnly x) rfl fun y hy e _ => hy.retest e
  · refine Half.each_establishes (J := GraphOnly x) (P := fun y => e ∈ y.graph.kat) (fun y hy k _ => hy.retest k) (fun y hy => ?_)
      (fun y hy k _ => y.retest_keeps hy) he rfl
    have state : y.engState e = 1 := (Half.get_congr (hy.rd _) 0 3).trans spare
    have en : y.bit (Adr.ENG_CTRL e) 0 = true := (Half.bit_congr (hy.rd _) 0).trans on
    rw [Half.retest, if_pos (by rw [en, state]; rfl)]
    exact (y.startKat_kat e e).2 (.inl rfl)

/-- What a half plans for its engines is kept where waiting submissions are placed again. -/
theorem Half.resubmit_graph (x : Half) (e : Nat) : (x.resubmit e).graph.nextPlace = x.graph.nextPlace ∧
    (x.resubmit e).graph.disabling = x.graph.disabling := by
  unfold Half.resubmit
  simp only
  split
  · split
    · split
      · split
        · rw [Half.wrNat_graph]
          exact ⟨rfl, rfl⟩
        · exact ⟨rfl, rfl⟩
      · simp only [Half.event_graph, Half.wrNat_graph, Half.put_graph]
        exact ⟨rfl, rfl⟩
    · exact ⟨rfl, rfl⟩
  · exact ⟨rfl, rfl⟩

/-! Queue clusters (R433, R437). -/

theorem Half.emptied_queue (x : Half) (k j : Nat) : (x.emptied k).queue j = if j = k then Queue.empty else x.queue j := by
  have pops : ∀ (ws : List Req) (y : Half), (ws.foldl (fun x r => x.finishPop r k 0) y).queue j = y.queue j := fun ws => by
    induction ws with
    | nil => exact fun _ => rfl
    | cons r ws ih => exact fun y => (ih _).trans (y.finishPop_queue r k 0 j)
  rw [Half.emptied, Half.queue_setQueue]
  split
  · rfl
  · next other => rw [Half.endStalls, pops, Half.queue_setQueue, if_neg other]

/-- Queue k starts again. -/
def Half.renewed (x : Half) (k : Nat) : Half := (x.emptied k).putBit (Adr.Q_STATUS k) 1 false

/-- Queue k stops with the cause of its cluster. -/
def Half.stopped (x : Half) (k : Nat) : Half := ((x.emptied k).putBit (Adr.Q_STATUS k) 1 true).latch (Adr.Q_FAULT k) 4

theorem Half.renewed_spares (x : Half) {k b : Nat} (hb : b ≠ Adr.Q_STATUS k) : Spares b x (x.renewed k) := by
  obtain ⟨rd, -, quiet⟩ := x.emptied_shows k
  exact (Spares.mk (rd b) quiet).trans (.of_writes ((Writes.refl (· = Adr.Q_STATUS k) _).putBit 1 false rfl) hb)

theorem Half.stopped_spares (x : Half) {k b : Nat} (hb : b ∉ [Adr.Q_STATUS k, Adr.Q_FAULT k]) : Spares b x (x.stopped k) := by
  obtain ⟨rd, -, quiet⟩ := x.emptied_shows k
  exact (Spares.mk (rd b) quiet).trans (.of_writes (((Writes.refl (· ∈ [Adr.Q_STATUS k, Adr.Q_FAULT k]) _).putBit 1 true (by simp)).latch 4 (by simp)) hb)

/-- Queue k is empty and not FAULTED. -/
def Half.anew (x : Half) (k : Nat) : Prop := x.queue k = Queue.empty ∧ x.bit (Adr.Q_STATUS k) 1 = false

theorem Half.renewed_self (x : Half) (k : Nat) : (x.renewed k).anew k :=
  ⟨(Half.emptied_queue x k k).trans (if_pos rfl), Half.bit_putBit_self _ _ _ _ (by decide)⟩

theorem Half.anew.renewed {x : Half} {k : Nat} (done : x.anew k) (j : Nat) : (x.renewed j).anew k := by
  by_cases same : k = j
  · exact same ▸ x.renewed_self k
  · have apart : Adr.Q_STATUS k ≠ Adr.Q_STATUS j := by simp only [Adr.Q_STATUS]; omega
    exact ⟨((Half.emptied_queue x j k).trans (if_neg same)).trans done.1, (Half.bit_congr (x.renewed_spares apart).rd 1).trans done.2⟩

theorem Half.anew.putBit {x : Half} {k : Nat} (done : x.anew k) {a : Nat} (apart : Adr.Q_STATUS k ≠ a) (b : Nat) (v : Bool) : (x.putBit a b v).anew k :=
  ⟨done.1, (Half.bit_congr (Half.rd_putBit_ne _ _ _ apart) 1).trans done.2⟩

theorem Half.queueClusterInit_shows (x : Half) (c : Fin 4) : (x.queueClusterInit c).bit (Adr.QC_STATUS c) 1 = false ∧
    (x.acc.still → (x.queueClusterInit c).acc.still) ∧ ∀ k ∈ clusterQueues c, (x.queueClusterInit c).anew k := by
  have same : x.queueClusterInit c = (x.each (clusterQueues c) Half.renewed).putBit (Adr.QC_STATUS c) 1 false := rfl
  have kept := Spares.each (ks := clusterQueues c) (b := 0) (fun k _ y => y.renewed_spares (k := k) (by simp only [Adr.Q_STATUS]; omega)) x
  rw [same]
  refine ⟨Half.bit_putBit_self _ _ _ _ (by decide), fun quiet => by rw [Half.putBit_acc]; exact kept.quiet quiet, fun k hk => ?_⟩
  have started : (x.each (clusterQueues c) Half.renewed).anew k :=
    Half.each_establishes (J := fun _ => True) (P := fun y => y.anew k) (fun _ _ _ _ => trivial) (fun y _ => y.renewed_self k)
      (fun _ hy j _ => hy.renewed j) hk trivial
  exact started.putBit (by simp only [Adr.Q_STATUS, Adr.QC_STATUS]; omega) 1 false

theorem Half.queueClusterFault_shows (x : Half) (c : Nat) : (x.queueClusterFault c).bit (Adr.QC_STATUS c) 1 = true ∧
    (x.acc.still → (x.queueClusterFault c).acc.still) := by
  have same : x.queueClusterFault c = (x.each (clusterQueues c) Half.stopped).putBit (Adr.QC_STATUS c) 1 true := rfl
  have kept := Spares.each (ks := clusterQueues c) (b := 0) (fun k _ y => y.stopped_spares (k := k) (by simp [Adr.Q_STATUS, Adr.Q_FAULT]; omega)) x
  rw [same]
  exact ⟨Half.bit_putBit_self _ _ _ _ (by decide), fun quiet => by rw [Half.putBit_acc]; exact kept.quiet quiet⟩

section units
variable {h : HalfId} {q : Req} {s : State}

/-! Enables (R23). -/

/-- What an enable writes: the word as it reads, with EN as given, of the implemented bits. -/
def enableWord (en : Bool) (old mask : Nat) : Word := BitVec.ofNat 32 ((setBits (BitVec.ofNat 32 old) 0 1 (ofBool en)).toNat &&& mask)

theorem enableWord_en (en : Bool) (old : Nat) {mask : Nat} (impl : mask.testBit 0 = true) : getBits (enableWord en old mask) 0 1 = ofBool en := by
  rw [enableWord, getBits_masked _ (by decide) (fun i hi => by rwa [show 0 + i = 0 by omega]), getBits_setBits_self _ _ _ _ (by decide)]
  cases en <;> rfl

/-- A write of CTRL that waits, for the block boundary or for the plan, with EN as given. -/
theorem unitEnableChange_waits {addr : Word} {en : Bool} {k : Kind} {u : Word} (g : Grants s h q addr.toNat) (al : addr.toNat % 4 = 0)
    (lt : addr.toNat < 0x8000000) (at_ : kindAt addr.toNat = some k) (attr : k.attr = .rw) (single : k.wide = .single) (own : k.hook.ofPackage = false)
    (waits : ∀ l : Loc, l.kind = k → (s.half h).putReg q l addr.toNat (enableWord en (s.asRead h addr.toNat) k.mask) = (s.half h).stage addr.toNat u)
    (enabled : getBits u 0 1 = ofBool en) :
    Accepted (.unitEnableChange h q addr en) h q s fun x => getBits (x.staged addr.toNat) 0 1 = ofBool en ∧ SameRegs [] (s.half h) x := by
  refine accepted_write_of (f := fun x => x.stage addr.toNat u) rfl g al lt at_ (.inl attr) single (fun l _ hl => ?_)
    (State.rest_half g.asks.rest h).still fun x hx => ⟨?_, fun a _ => hx.rd a⟩
  · have waits := waits l hl
    subst hl
    rw [State.putReg_own own]
    exact State.on_congr waits
  · rw [Half.staged_congr (x := (s.half h).stage addr.toNat u) (by rw [hx.same]) (hx.rd _), Half.staged_stage]
    exact enabled

theorem Half.stageValue_waits {x : Half} {a : Nat} (idle : x.commitState = 0) (slot : inStagingBank a = false) (v : Word) :
    x.stageValue a v = x.stage a v := by
  rw [Half.stageValue, if_neg (by simp [idle]), if_neg (by simp [slot])]

theorem slotCtrl_unbanked (n : SlotId) : inStagingBank (Adr.FRX_CTRL n) = false ∧ inStagingBank (Adr.FTX_CTRL n) = false := by
  simp only [inStagingBank, stagingBanks, List.any_cons, List.any_nil, Bool.or_false, Bool.or_eq_false_iff, decide_eq_false_iff_not, Adr.FRX_CTRL, Adr.FTX_CTRL]
  omega

theorem tdmCtrl_kind (t : Fin 8) : kindAt (Adr.TDM_CTRL t) = some ⟨.rw, .none, .held, .single, t, 0, 1⟩ := by revert t; decide

theorem unitEnableChange_enables (addr : Word) (en : Bool) (k : Fin 32) (t : Fin 8) (n : SlotId)
    (unit : addr.toNat ∈ [Adr.AMP_CTRL k, Adr.TDM_CTRL t, Adr.FRX_CTRL n, Adr.FTX_CTRL n]) (g : Grants s h q addr.toNat)
    (idle : (s.half h).commitState = 0) :
    Accepted (.unitEnableChange h q addr en) h q s fun x => getBits (x.staged addr.toNat) 0 1 = ofBool en ∧ SameRegs [] (s.half h) x := by
  have small : addr.toNat % 4 = 0 ∧ addr.toNat < 0x8000000 := by
    simp only [List.mem_cons, List.not_mem_nil, or_false, Adr.AMP_CTRL, Adr.TDM_CTRL, Adr.FRX_CTRL, Adr.FTX_CTRL] at unit
    omega
  simp only [List.mem_cons, List.not_mem_nil, or_false] at unit
  rcases unit with amp | tdm | frx | ftx
  · refine unitEnableChange_waits g small.1 small.2 (amp ▸ (ampCtrl_word k).at_) rfl rfl rfl
      (u := if bitAt (lookAt (fun _ => 0) (s.half h).held addr.toNat) 2 then enableWord en (s.asRead h addr.toNat) 7 ||| 4
        else enableWord en (s.asRead h addr.toNat) 7) (fun l hl => ?_) ?_
    · have hook : l.reg.hook = .ampCtrl := congrArg Kind.hook hl
      have cls : l.reg.cls = .held := congrArg Kind.cls hl
      simp only [Half.putReg, cls, Half.holdValue, hook]
    · have clear : getBits (enableWord en (s.asRead h addr.toNat) 7 ||| 4) 0 1 = getBits (enableWord en (s.asRead h addr.toNat) 7) 0 1 := by
        generalize enableWord en (s.asRead h addr.toNat) 7 = w
        simp only [getBits, BitVec.toNat_or, Nat.pow_zero, Nat.div_one, Nat.or_mod_two_pow]
        exact Nat.or_zero _
      split
      · exact clear.trans (enableWord_en _ _ rfl)
      · exact enableWord_en _ _ rfl
  · refine unitEnableChange_waits g small.1 small.2 (tdm ▸ tdmCtrl_kind t) rfl rfl rfl (fun l hl => ?_) (enableWord_en en (s.asRead h addr.toNat) (mask := 1) rfl)
    have hook : l.reg.hook = .none := congrArg Kind.hook hl
    have cls : l.reg.cls = .held := congrArg Kind.cls hl
    simp only [Half.putReg, cls, Half.holdValue, hook]
  · refine unitEnableChange_waits g small.1 small.2 (frx ▸ frxCtrl_kind n) rfl rfl rfl (fun l hl => ?_) (enableWord_en en (s.asRead h addr.toNat) (mask := 0xF03) rfl)
    have cls : l.reg.cls = .staged := congrArg Kind.cls hl
    simp only [Half.putReg, cls]
    exact Half.stageValue_waits idle (frx ▸ (slotCtrl_unbanked n).1) _
  · refine unitEnableChange_waits g small.1 small.2 (ftx ▸ ftxCtrl_kind n) rfl rfl rfl (fun l hl => ?_) (enableWord_en en (s.asRead h addr.toNat) (mask := 1) rfl)
    have cls : l.reg.cls = .staged := congrArg Kind.cls hl
    simp only [Half.putReg, cls]
    exact Half.stageValue_waits idle (ftx ▸ (slotCtrl_unbanked n).2) _

/-! Re-initialisation (R170, R260, R338, R414, R437). -/

theorem frxcCtrl_kind (c : Fin 8) : kindAt (Adr.FRXC_CTRL c) = some ⟨.rw, .frxcCtrl, .imm, .single, c, 0, 1⟩ := by revert c; decide
theorem ftxcCtrl_kind (c : Fin 8) : kindAt (Adr.FTXC_CTRL c) = some ⟨.rw, .ftxcCtrl, .imm, .single, c, 0, 1⟩ := by revert c; decide
theorem engcCtrl_kind (c : Fin 2) : kindAt (Adr.ENGC_CTRL c) = some ⟨.rw, .engcCtrl, .imm, .single, c, 0, 1⟩ := by revert c; decide
theorem engCtrl_kind (e : Fin 8) : kindAt (Adr.ENG_CTRL e) = some ⟨.rw, .engCtrl, .imm, .single, e, 0, 1⟩ := by revert e; decide
theorem tdmcCtrl_kind : kindAt Adr.TDMC_CTRL = some ⟨.rw, .tdmcCtrl, .imm, .single, 0, 0, 1⟩ := by decide
theorem snscCtrl_kind (c : Fin 5) : kindAt (Adr.SNSC_CTRL c) = some ⟨.rw, .snscCtrl, .imm, .single, 0, 0, 1⟩ := by revert c; decide
theorem qcCtrl_kind (c : Fin 4) : kindAt (Adr.QC_CTRL c) = some ⟨.rw, .qcCtrl, .imm, .single, c, 0, 1⟩ := by revert c; decide

theorem flowClusterReinit_ends (tx : Bool) (c : Fin 8) (g : Grants s h q (if tx then Adr.FTXC_CTRL c else Adr.FRXC_CTRL c)) :
    Accepted (.flowClusterReinit h q tx c) h q s fun x => x.bit (if tx then Adr.FTXC_STATUS c else Adr.FRXC_STATUS c) 1 = false := by
  obtain ⟨well, quiet⟩ := (s.half h).flowClusterInit_shows tx c.isLt
  cases tx
  · exact accepted_write (v := 1) (f := fun x v => if bitAt v 0 then x.flowClusterInit false c else x) rfl g (by simp only [Bool.false_eq_true, if_false, Adr.FRXC_CTRL]; omega)
      (by simp only [Bool.false_eq_true, if_false, Adr.FRXC_CTRL]; omega) (frxcCtrl_kind c) rfl
      (fun l hook hi _ x v => by simp only [Half.actEarly, hook, hi, Option.getD_some]) one_masked (if_pos rfl) quiet fun x hx => (hx.bit ..).trans well
  · exact accepted_write (v := 1) (f := fun x v => if bitAt v 0 then x.flowClusterInit true c else x) rfl g (by simp only [if_true, Adr.FTXC_CTRL]; omega)
      (by simp only [if_true, Adr.FTXC_CTRL]; omega) (ftxcCtrl_kind c) rfl
      (fun l hook hi _ x v => by simp only [Half.actEarly, hook, hi, Option.getD_some]) one_masked (if_pos rfl) quiet fun x hx => (hx.bit ..).trans well

theorem tdmClusterReinit_ends (g : Grants s h q Adr.TDMC_CTRL) : Accepted (.tdmClusterReinit h q) h q s fun x => x.bit Adr.TDMC_STATUS 1 = false := by
  obtain ⟨well, quiet⟩ := (s.half h).tdmClusterInit_shows
  exact accepted_write (v := 1) (f := fun x v => if bitAt v 0 then x.tdmClusterInit else x) rfl g (by decide) (by decide) tdmcCtrl_kind rfl
    (fun l hook _ _ x v => by simp only [Half.actEarly, Half.actLate, hook, Option.getD_none]) one_masked (if_pos rfl) quiet fun x hx => (hx.bit ..).trans well

/-- The sense cluster of a CTRL word by its page. -/
theorem snscCtrl_page (c : Fin 5) : (locate (Adr.SNSC_CTRL c)).map (fun l => (l.block - 0xB1060) / 0x800) = some c.val := by revert c; decide

theorem senseClusterReinit_ends (c : Fin 5) (g : Grants s h q (Adr.SNSC_CTRL c)) :
    Accepted (.senseClusterReinit h q c) h q s fun x => x.bit (Adr.SNSC_STATUS c) 1 = false ∧ ∀ n ∈ senseChannels c, x.rejoined n := by
  obtain ⟨well, quiet, joined⟩ := (s.half h).senseClusterInit_shows c
  refine accepted_write_of (v := 1) (f := fun x => x.senseClusterInit c) rfl g (by simp only [Adr.SNSC_CTRL]; omega) (by simp only [Adr.SNSC_CTRL]; omega)
    (snscCtrl_kind c) (.inl rfl) rfl (fun l hl kind => ?_) (quiet (State.rest_half g.asks.rest h).still) fun x hx => ⟨(hx.bit ..).trans well, fun n hn => ?_⟩
  · have hook : l.reg.hook = .snscCtrl := congrArg Kind.hook kind
    have mask : l.mask = 1 := congrArg Kind.mask kind
    have page : (l.block - 0xB1060) / 0x800 = c := by simpa [hl] using snscCtrl_page c
    rw [State.putReg_imm (by rw [hook]; rfl) (congrArg Kind.cls kind), Loc.masked, mask, one_masked]
    exact congrArg (s.on h) (funext fun x => by simp only [Half.actEarly, Half.actLate, hook, page, Option.getD_none]; rfl)
  · rw [Half.rejoined, Half.conv_of_out hx.out]
    exact joined n hn

theorem queueClusterReinit_ends (c : Fin 4) (g : Grants s h q (Adr.QC_CTRL c)) :
    Accepted (.queueClusterReinit h q c) h q s fun x => x.bit (Adr.QC_STATUS c) 1 = false ∧
      ∀ k ∈ clusterQueues c, x.queue k = Queue.empty ∧ x.bit (Adr.Q_STATUS k) 1 = false := by
  obtain ⟨well, quiet, started⟩ := (s.half h).queueClusterInit_shows c
  refine accepted_write (v := 1) (f := fun x v => if bitAt v 0 then x.queueClusterInit c else x) rfl g (by simp only [Adr.QC_CTRL]; omega)
    (by simp only [Adr.QC_CTRL]; omega) (qcCtrl_kind c) rfl (fun l hook hi _ x v => by simp only [Half.actEarly, Half.actLate, hook, hi, Option.getD_none])
    one_masked (if_pos rfl) quiet fun x hx => ⟨(hx.bit ..).trans well, fun k hk => ?_⟩
  obtain ⟨empty, fine⟩ := started k hk
  exact ⟨(hx.queue k).trans empty, (hx.bit ..).trans fine⟩

/-! Engines and their clusters (R250, R255, R260). -/

theorem engCtrl_does (q : Req) (a i j mask : Nat) : (Kind.mk .rw .engCtrl .imm .single i j mask).Does q a fun x v => x.writeEng i (bitAt v 0) :=
  fun l hook hi _ x v => by simp only [Half.actEarly, Half.actLate, hook, hi, Option.getD_none]

theorem engCtrl_accepted {c : Instr} {e : Fin 8} {en : Bool} {y : Half} {P : Half → Prop} (g : Grants s h q (Adr.ENG_CTRL e))
    (run : exec c s = .next (s.write h q (Adr.ENG_CTRL e) (BitVec.ofNat 32 (ofBool en)))) (acts : (s.half h).writeEng e en = y)
    (still : (s.half h).acc.still → y.acc.still) (shows_ : ∀ x, AccOnly y x → P x) : Accepted c h q s P :=
  have kept : ∀ b : Bool, BitVec.ofNat 32 ((BitVec.ofNat 32 (ofBool b)).toNat &&& 1) = BitVec.ofNat 32 (ofBool b) := by decide
  accepted_write (w := BitVec.ofNat 32 (ofBool en)) run g (by simp only [Adr.ENG_CTRL]; omega) (by simp only [Adr.ENG_CTRL]; omega) (engCtrl_kind e) rfl
    (engCtrl_does q _ _ _ _) (kept en) (by rw [← acts]; cases en <;> rfl) still shows_

/-- Engine e is to be tested before it serves. -/
def Half.admitEngine (x : Half) (e : Nat) : Half :=
  ((x.putBit (Adr.ENG_CTRL e) 0 true).onGraph fun g => { g with disabling := g.disabling.filter (· != e) }).startKat e

theorem Half.admitEngine_shows (x : Half) (e : Nat) : (∀ a, (x.admitEngine e).rd a = (x.putBit (Adr.ENG_CTRL e) 0 true).rd a) ∧
    (x.admitEngine e).acc = (x.putBit (Adr.ENG_CTRL e) 0 true).acc ∧ e ∈ (x.admitEngine e).graph.kat :=
  ⟨fun _ => rfl, rfl, (Half.startKat_kat _ e e).2 (.inl rfl)⟩

theorem engineEnable_tests (e : Fin 8) (g : Grants s h q (Adr.ENG_CTRL e)) (out : (s.half h).engState e = 0 ∨ (s.half h).engState e = 4) :
    Accepted (.engineEnable h q e) h q s fun x => e.val ∈ x.graph.kat ∧ x.bit (Adr.ENG_CTRL e) 0 = true ∧ SameRegs [Adr.ENG_CTRL e] (s.half h) x := by
  have acts : (s.half h).writeEng e true = (s.half h).admitEngine e := by
    rw [Half.writeEng]
    simp only [if_true, out]
    rfl
  obtain ⟨rd, acc, tested⟩ := (s.half h).admitEngine_shows e
  refine engCtrl_accepted (en := true) g rfl acts (fun quiet => ?_) fun x hx => ⟨hx.graph ▸ tested, ?_, fun a ha => ?_⟩
  · rw [acc, Half.putBit_acc]
    exact quiet
  · exact (hx.bit ..).trans ((Half.bit_congr (rd _) 0).trans (Half.bit_putBit_self _ _ _ _ (by decide)))
  · exact (hx.rd a).trans ((rd a).trans (Half.rd_putBit_ne _ _ _ (by simpa using ha)))

/-- Engine e out of service, and the engines in service shown. -/
def Half.dismissEngine (x : Half) (e : Nat) : Half := ((x.putBit (Adr.ENG_CTRL e) 0 false).setEng e 0).showPlc

theorem Half.dismissEngine_shows (x : Half) (e : Nat) : (x.dismissEngine e).engState e = 0 ∧ (x.dismissEngine e).bit (Adr.ENG_CTRL e) 0 = false ∧
    EngineMoves (· ∈ Adr.ENG_CTRL e :: engineRegs e) x (x.dismissEngine e) := by
  have ctrl : Adr.ENG_CTRL e ∉ [Adr.PLC_STATUS, Adr.PLC_CAPACITY] ∧ Adr.ENG_CTRL e ∉ [Adr.ENG_STATUS e, Adr.ENG_EVENT e] := by
    refine ⟨(engine_apart (e := e) (by simp only [Adr.ENG_CTRL]; omega)).2, ?_⟩
    simp only [List.mem_cons, List.not_mem_nil, or_false, Adr.ENG_CTRL, Adr.ENG_STATUS, Adr.ENG_EVENT]
    omega
  have set := (x.putBit (Adr.ENG_CTRL e) 0 false).setEng_writes e 0
  have shown := ((x.putBit (Adr.ENG_CTRL e) 0 false).setEng e 0).showPlc_moves
  refine ⟨(Half.showPlc_engState _ e).trans (Half.setEng_engState _ e (by decide)), ?_, ?_⟩
  · exact (shown.bit ctrl.1 0).trans ((set.bit ctrl.2 0).trans (Half.bit_putBit_self _ _ _ _ (by decide)))
  · refine (EngineMoves.of_writes (((Writes.refl _ x).putBit 0 false List.mem_cons_self).trans (set.mono fun a ha => ?_))).trans (shown.mono fun a ha => ?_)
    · simp [engineRegs] at ha ⊢
      tauto
    · simp [engineRegs] at ha ⊢
      tauto

theorem engineDisable_dismisses (e : Fin 8) (g : Grants s h q (Adr.ENG_CTRL e)) (idle : (s.half h).engState e = 1 ∨ (s.half h).engState e = 3) :
    Accepted (.engineDisable h q e) h q s fun x => x.engState e = 0 ∧ x.bit (Adr.ENG_CTRL e) 0 = false ∧
      SameRegs (Adr.ENG_CTRL e :: engineRegs e) (s.half h) x := by
  have acts : (s.half h).writeEng e false = (s.half h).dismissEngine e := by
    rw [Half.writeEng]
    rcases idle with state | state <;> simp only [state] <;> rfl
  obtain ⟨off, ctrl, moves⟩ := (s.half h).dismissEngine_shows e
  refine engCtrl_accepted (en := false) g rfl acts (moves.spares (b := 0) (by simp [engineRegs, Adr.ENG_CTRL, Adr.ENG_STATUS, Adr.ENG_EVENT, Adr.ENG_FAULT, Adr.ENG_LOAD]; omega)).quiet fun x hx => ?_
  exact ⟨(hx.get ..).trans off, (hx.bit ..).trans ctrl, fun a ha => (hx.rd a).trans (moves.keeps a ha)⟩

/-- Engine e, whose nodes go to engine d at the next boundary. -/
def Half.swapEngine (x : Half) (e d : Nat) : Half :=
  ((x.putBit (Adr.ENG_CTRL e) 0 false).onGraph fun g => { g with nextPlace := some (x.comingPlace.move e d), disabling := e :: g.disabling }).resubmit e

theorem engineDisable_swaps (e : Fin 8) (g : Grants s h q (Adr.ENG_CTRL e)) (serves : (s.half h).engState e = 2)
    (spare : ((s.half h).spareFor e).isSome = true) :
    Accepted (.engineDisable h q e) h q s fun x => x.engState e = 2 ∧ x.bit (Adr.ENG_CTRL e) 0 = false ∧ e.val ∈ x.graph.disabling ∧
      x.graph.nextPlace.isSome = true := by
  obtain ⟨d, hd⟩ := Option.isSome_iff_exists.1 spare
  have acts : (s.half h).writeEng e false = (s.half h).swapEngine e d := by
    rw [Half.writeEng]
    simp only [serves, hd, Option.isSome_some, Bool.true_or]
    rfl
  unfold Half.swapEngine at acts
  have start : Writes (· = Adr.ENG_CTRL e) (s.half h) ((s.half h).putBit (Adr.ENG_CTRL e) 0 false) := (Writes.refl _ _).putBit 0 false rfl
  have ctrl := (s.half h).bit_putBit_self (Adr.ENG_CTRL e) 0 false (by decide)
  have acc : ((s.half h).putBit (Adr.ENG_CTRL e) 0 false).acc = (s.half h).acc := Half.putBit_acc ..
  generalize (s.half h).putBit (Adr.ENG_CTRL e) 0 false = y at acts start ctrl acc
  generalize (s.half h).comingPlace.move e d = place at acts
  have apart := (engine_apart (a := Adr.ENG_CTRL e) (e := e) (by simp only [Adr.ENG_CTRL]; omega)).1
  have apart' := (engine_apart (a := Adr.ENG_STATUS e) (e := e) (by simp only [Adr.ENG_STATUS]; omega)).1
  have status : ¬ Adr.ENG_STATUS e = Adr.ENG_CTRL e := by simp only [Adr.ENG_STATUS, Adr.ENG_CTRL]; omega
  have moves := (y.onGraph fun g => { g with nextPlace := some place, disabling := e :: g.disabling }).resubmit_moves e
  obtain ⟨next, disabling⟩ := (y.onGraph fun g => { g with nextPlace := some place, disabling := e :: g.disabling }).resubmit_graph e
  refine engCtrl_accepted (en := false) g rfl acts (fun quiet => (moves.spares apart).quiet (show y.acc.still from acc ▸ quiet)) fun x hx => ⟨?_, ?_, ?_, ?_⟩
  · exact (hx.get ..).trans ((moves.get apart' 0 3).trans ((start.get status 0 3).trans serves))
  · exact (hx.bit ..).trans ((moves.bit apart 0).trans ctrl)
  · rw [hx.graph, disabling]
    exact List.mem_cons_self
  · rw [hx.graph, next]
    rfl

theorem engcCtrl_accepted (c : Fin 2) {y : Half} {P : Half → Prop} (g : Grants s h q (Adr.ENGC_CTRL c)) (acts : (s.half h).engineClusterInit c = y)
    (still : (s.half h).acc.still → y.acc.still) (shows_ : ∀ x, AccOnly y x → P x) : Accepted (.engineClusterReinit h q c) h q s P :=
  accepted_write (v := 1) (f := fun x v => if bitAt v 0 then x.engineClusterInit c else x) rfl g (by simp only [Adr.ENGC_CTRL]; omega)
    (by simp only [Adr.ENGC_CTRL]; omega) (engcCtrl_kind c) rfl (fun l hook hi _ x v => by simp only [Half.actEarly, Half.actLate, hook, hi, Option.getD_none])
    one_masked ((if_pos rfl).trans acts) still shows_

theorem engineClusterReinit_waits (c : Fin 2) (g : Grants s h q (Adr.ENGC_CTRL c)) (serving : ∃ e ∈ clusterEngines c, (s.half h).engState e = 2) :
    Accepted (.engineClusterReinit h q c) h q s fun x => SameRegs [] (s.half h) x :=
  engcCtrl_accepted c g (Half.engineClusterInit_serving serving) (fun quiet => quiet) fun _ hx => hx.sameRegs []

theorem engineClusterReinit_ends (c : Fin 2) (g : Grants s h q (Adr.ENGC_CTRL c)) (idle : ∀ e ∈ clusterEngines c, (s.half h).engState e ≠ 2) :
    Accepted (.engineClusterReinit h q c) h q s fun x => x.bit (Adr.ENGC_STATUS c) 1 = false ∧ SameRegs [Adr.ENGC_STATUS c] (s.half h) x ∧
      ∀ e ∈ clusterEngines c, (s.half h).bit (Adr.ENG_CTRL e) 0 = true → (s.half h).engState e = 1 → e ∈ x.graph.kat := by
  have acts := Half.engineClusterInit_idle idle
  have well := (s.half h).bit_putBit_self (Adr.ENGC_STATUS c) 1 false (by decide)
  have start : Writes (· = Adr.ENGC_STATUS c) (s.half h) ((s.half h).putBit (Adr.ENGC_STATUS c) 1 false) := (Writes.refl _ _).putBit 1 false rfl
  have acc : ((s.half h).putBit (Adr.ENGC_STATUS c) 1 false).acc = (s.half h).acc := Half.putBit_acc ..
  have engine : ∀ e, ¬ Adr.ENG_CTRL e = Adr.ENGC_STATUS c ∧ ¬ Adr.ENG_STATUS e = Adr.ENGC_STATUS c := fun e => by
    simp only [Adr.ENG_CTRL, Adr.ENG_STATUS, Adr.ENGC_STATUS]
    omega
  generalize (s.half h).putBit (Adr.ENGC_STATUS c) 1 false = y at acts well start acc
  obtain ⟨only, tested⟩ := y.each_retest (clusterEngines c)
  have quiet : (y.each (clusterEngines c) Half.retest).acc = y.acc := by rw [only]
  refine engcCtrl_accepted c g acts (fun still => quiet ▸ acc ▸ still) fun x hx => ⟨?_, fun a ha => ?_, fun e he on spare => ?_⟩
  · exact (hx.bit ..).trans ((Half.bit_congr (only.rd _) 1).trans well)
  · exact (hx.rd a).trans ((only.rd a).trans (start.keeps a (by simpa using ha)))
  · rw [hx.graph]
    exact tested e he ((start.bit (engine e).1 0).trans on) ((start.get (engine e).2 0 3).trans spare)

/-! Faults of shared state (R24). -/

/-- The place of a cluster's CTRL word: its hook, its unit, its region, its page. -/
def clusterAt (a : Nat) : Option (Hook × Nat × Region × Nat) := (locate a).map fun l => (l.reg.hook, l.i, l.region, l.block)

theorem frxc_place (c : Fin 8) : clusterAt (Adr.FRXC_CTRL c) = some (.frxcCtrl, c.val, .flow, Adr.FRXC_CTRL c - 4) := by revert c; decide
theorem ftxc_place (c : Fin 8) : clusterAt (Adr.FTXC_CTRL c) = some (.ftxcCtrl, c.val, .flow, Adr.FTXC_CTRL c - 4) := by revert c; decide
theorem engc_place (c : Fin 2) : clusterAt (Adr.ENGC_CTRL c) = some (.engcCtrl, c.val, .processing, Adr.ENGC_CTRL c - 4) := by revert c; decide
theorem tdmc_place : clusterAt Adr.TDMC_CTRL = some (.tdmcCtrl, 0, .output, Adr.TDMC_CTRL - 4) := by decide
theorem snsc_place (c : Fin 5) : clusterAt (Adr.SNSC_CTRL c) = some (.snscCtrl, 0, .output, Adr.SNSC_CTRL c - 4) := by revert c; decide
theorem qc_place (c : Fin 4) : clusterAt (Adr.QC_CTRL c) = some (.qcCtrl, c.val, .memory, Adr.QC_CTRL c - 4) := by revert c; decide

/-- The fault of the cluster at a page, of a half that runs its region. -/
theorem Half.clusterFault_at {x : Half} {page ctrl i : Nat} {k : Hook} {r : Region} (at_ : page = ctrl - 4) (low : 4 ≤ ctrl)
    (place : clusterAt ctrl = some (k, i, r, ctrl - 4)) (live : x.live = true) (up : x.up r = true) : (k = .frxcCtrl → x.clusterFault page = x.flowClusterFault false i) ∧
      (k = .ftxcCtrl → x.clusterFault page = x.flowClusterFault true i) ∧ (k = .engcCtrl → x.clusterFault page = x.engineClusterFault i) ∧
      (k = .tdmcCtrl → x.clusterFault page = x.tdmClusterFault) ∧
      (k = .snscCtrl → x.clusterFault page = x.senseClusterFault ((page - 0xB1060) / 0x800)) ∧
      (k = .qcCtrl → x.clusterFault page = x.queueClusterFault i) := by
  rw [← at_, show ctrl = page + 4 by omega] at place
  obtain ⟨l, hl, is⟩ := Option.map_eq_some_iff.1 place
  obtain ⟨hook, rfl, rfl, block⟩ : l.reg.hook = k ∧ l.i = i ∧ l.region = r ∧ l.block = page := by simpa using is
  have runs : (!(x.live && x.up l.region) || l.block != page) = false := by rw [live, up, block]; simp
  unfold Half.clusterFault
  simp only [hl, runs, hook, Bool.false_eq_true, if_false]
  exact ⟨fun e => by rw [e], fun e => by rw [e], fun e => by rw [e], fun e => by rw [e], fun e => by rw [e], fun e => by rw [e]⟩

theorem clusterFault_shows {page : Word} {b : Nat} {y : Half} (still : s.still) (fault : (s.half h).clusterFault page.toNat = y)
    (shown : y.bit b 1 = true ∧ ((s.half h).acc.still → y.acc.still)) (line : b ∉ lineRegsOf) :
    Completes (.clusterSharedStateFault h page) s fun t => (t.half h).bit b 1 = true ∧ t.wiredFault = s.wiredFault ∧ t.pending = s.pending := by
  have run : exec (.clusterSharedStateFault h page) s = .next ((s.on h fun x => x.clusterFault page.toNat).psen).settle := rfl
  have changed : (s.on h fun x => x.clusterFault page.toNat) = s.on h fun _ => y := State.on_congr fault
  rw [changed] at run
  have lines := (s.on h fun _ => y).psen_linesOnly
  have calm : ((s.on h fun _ => y).psen).still := (State.still_iff _).2 fun j => by
    rw [(lines.halves j).acc]
    exact State.still_half (State.still_of_on still (shown.2 (State.still_half still h))) j
  have shared := State.shared_ext (State.on_shared s h fun _ => y)
  refine completes_of (run.trans (congrArg _ (State.settle_still calm))) ⟨?_, lines.wired.trans shared.2, lines.pending.trans shared.1⟩
  rw [(lines.halves h).bit line, State.on_half]
  exact shown.1

/-- The status words of the clusters are no lines. -/
theorem clusterStatus_notLine (c : Fin 8) (d : Fin 2) (e : Fin 5) (g : Fin 4) :
    (Adr.FRXC_STATUS c ∉ lineRegsOf ∧ Adr.FTXC_STATUS c ∉ lineRegsOf) ∧ Adr.ENGC_STATUS d ∉ lineRegsOf ∧ Adr.TDMC_STATUS ∉ lineRegsOf ∧
      Adr.SNSC_STATUS e ∉ lineRegsOf ∧ Adr.QC_STATUS g ∉ lineRegsOf :=
  ⟨by revert c; decide, by revert d; decide, by decide, by revert e; decide, by revert g; decide⟩

theorem clusterSharedStateFault_shows (c : Fin 8) (d : Fin 2) (e : Fin 5) (g : Fin 4) (page : Word) (b : Nat) (r : Region) (still : s.still)
    (live : (s.half h).live = true)
    (unit : (page.toNat, b, r) ∈ [(Adr.FRXC_CTRL c - 4, Adr.FRXC_STATUS c, Region.flow), (Adr.FTXC_CTRL c - 4, Adr.FTXC_STATUS c, .flow),
      (Adr.ENGC_CTRL d - 4, Adr.ENGC_STATUS d, .processing), (Adr.TDMC_CTRL - 4, Adr.TDMC_STATUS, .output),
      (Adr.SNSC_CTRL e - 4, Adr.SNSC_STATUS e, .output), (Adr.QC_CTRL g - 4, Adr.QC_STATUS g, .memory)]) (up : (s.half h).up r = true) :
    Completes (.clusterSharedStateFault h page) s fun t => (t.half h).bit b 1 = true ∧ t.wiredFault = s.wiredFault ∧ t.pending = s.pending := by
  obtain ⟨⟨frxc, ftxc⟩, engc, tdmc, snsc, qc⟩ := clusterStatus_notLine c d e g
  simp only [List.mem_cons, Prod.mk.injEq, List.not_mem_nil, or_false] at unit
  rcases unit with ⟨at_, rfl, rfl⟩ | ⟨at_, rfl, rfl⟩ | ⟨at_, rfl, rfl⟩ | ⟨at_, rfl, rfl⟩ | ⟨at_, rfl, rfl⟩ | ⟨at_, rfl, rfl⟩
  · obtain ⟨fault, -⟩ := Half.clusterFault_at at_ (by simp only [Adr.FRXC_CTRL]; omega) (frxc_place c) live up
    exact clusterFault_shows still (fault rfl) ((s.half h).flowClusterFault_shows false c.isLt) frxc
  · obtain ⟨-, fault, -⟩ := Half.clusterFault_at at_ (by simp only [Adr.FTXC_CTRL]; omega) (ftxc_place c) live up
    exact clusterFault_shows still (fault rfl) ((s.half h).flowClusterFault_shows true c.isLt) ftxc
  · obtain ⟨-, -, fault, -⟩ := Half.clusterFault_at at_ (by simp only [Adr.ENGC_CTRL]; omega) (engc_place d) live up
    exact clusterFault_shows still (fault rfl) ((s.half h).engineClusterFault_shows d) engc
  · obtain ⟨-, -, -, fault, -⟩ := Half.clusterFault_at at_ (by decide) tdmc_place live up
    exact clusterFault_shows still (fault rfl) (s.half h).tdmClusterFault_shows tdmc
  · obtain ⟨-, -, -, -, fault, -⟩ := Half.clusterFault_at at_ (by simp only [Adr.SNSC_CTRL]; omega) (snsc_place e) live up
    have page_ : (page.toNat - 0xB1060) / 0x800 = e := by
      rw [at_]
      simp only [Adr.SNSC_CTRL]
      omega
    exact clusterFault_shows still ((fault rfl).trans (congrArg (s.half h).senseClusterFault page_)) ((s.half h).senseClusterFault_shows e) snsc
  · obtain ⟨-, -, -, -, -, fault⟩ := Half.clusterFault_at at_ (by simp only [Adr.QC_CTRL]; omega) (qc_place g) live up
    exact clusterFault_shows still (fault rfl) ((s.half h).queueClusterFault_shows g) qc

end units

/-- Settles O55: an enable is staged or held beside the word in effect, what starts or stops a cluster spares its own status word, and
CTRL of an engine acts by the engine's state. -/
theorem unitsAndClustersStartAgain : Obligations.UnitsAndClustersStartAgain := by
  intro h q s
  exact ⟨fun addr en k t n unit g idle => unitEnableChange_enables addr en k t n unit g idle, fun tx c g => flowClusterReinit_ends tx c g,
    fun c d e g page b r still live unit up => clusterSharedStateFault_shows c d e g page b r still live unit up,
    fun e g => ⟨engineEnable_tests e g, engineDisable_dismisses e g, engineDisable_swaps e g⟩,
    fun c g => ⟨engineClusterReinit_waits c g, engineClusterReinit_ends c g⟩, tdmClusterReinit_ends, senseClusterReinit_ends, queueClusterReinit_ends⟩
end Sys2Proof.Machine
end
